-- ==== Sys2Proof/Word.lean ====
section
/-! DEFINITION. The word types of the device: 32-bit registers (02_register_pages.md R33), bytes, 64-bit values (R46). -/

namespace Sys2Proof

/-- A register word (R33). -/
abbrev Word := BitVec 32

/-- A byte of memory. -/
abbrev Byte := BitVec 8

/-- A 64-bit value: a wide register (R46) or a mailbox word (R475). -/
abbrev DWord := BitVec 64

end Sys2Proof
end

