-- ==== Sys2Proof/Syntax.lean ====
section
/-! DEFINITION. The commands of the block, one constructor per row of spec/opcode_table.json, and their operands. A
command carries what reaches the block from outside: the initiator and the data of an access, the index of the unit
concerned, and what an engine of the block finds in the world (a measurement, a received frame, a pin level). -/

namespace Sys2Proof

/-- Who makes an access (02_register_pages.md R34): the debug port, control core `k`, data core `k`, the DMA engine, the
host. -/
inductive Initiator where
  | debug
  | ctl (k : Fin 4)
  | data (k : Fin 4)
  | dma
  | host
  deriving DecidableEq, Repr

/-- The part of a word that an access names (R33): a whole 64-bit access, a 32-bit access, or fewer bytes. -/
inductive AccessSize where
  | byte | half | word | dword
  deriving DecidableEq, Repr


/-- What the loops of a channel find at an update (R63): C/N0, TRACK_FLAGS of R71, half-cycle ambiguity. -/
structure LoopObs where
  ch    : Nat
  cn0   : Nat
  flags : Nat
  half  : Bool
  deriving DecidableEq, Repr

/-- A broadcast ephemeris (R61, R90): its fit interval in TAI seconds, the health that the navigation message states, the
broadcast group delay in micrometres, and the words of orbit and clock. -/
structure Ephemeris where
  fitFrom : Nat
  fitTo   : Nat
  healthy : Bool
  group   : Int
  words   : List Nat
  deriving DecidableEq, Repr

/-- Navigation data decoded of a satellite (system × 256 + SVID): an ephemeris, the words of an almanac. -/
structure NavObs where
  sat : Nat
  eph : Option Ephemeris
  alm : Option (List Nat)
  deriving DecidableEq, Repr

/-- What a channel measures at a latch: pseudorange before cable delay and carrier phase in record units (R71), the frequency
of its signal in the samples as they stand on the port's pins (2^-8 Hz, R57), elevation and azimuth. -/
structure ChanMeas where
  ch      : Nat
  range   : Nat
  phase   : Int
  carrier : Int
  elev    : Int
  az      : Nat
  deriving DecidableEq, Repr

/-- The time solution of a latch (R76): output minus GNSS-derived TAI in 2^-8 ns, frequency error in 0.001 ppb. -/
structure TimeSolution where
  offset : Int
  freq   : Int
  deriving DecidableEq, Repr

/-- One signal that a frame reports (R124); a value that is invalid is `none`. -/
structure SigObs where
  band : Nat
  pr   : Option Int
  ph   : Option Int
  rate : Option Int
  cn0  : Nat
  half : Bool
  lli  : Nat
  deriving DecidableEq, Repr

/-- One satellite that a frame reports: system × 256 + SVID, and its signals. -/
structure SatObs where
  sat  : Nat
  sigs : List SigObs
  deriving DecidableEq, Repr

/-- The TAP instructions (18_reset_and_lifecycle.md R528). -/
inductive TapInstruction where
  | bypass | idcode | sample | extest | clamp | highz | debugPort
  deriving DecidableEq, Repr

/-- What the boot ROM finds at a start (R523, R419, R420, R521, R527): the straps, whether the root's regeneration fails three times,
power is lost while the array is enrolled, LPDDR5 training fails, and the flash slots that cannot be read. -/
structure BootWorld where
  xspi       : Bool
  pcie       : Bool
  recov      : Bool
  pufFails   : Bool
  powerCut   : Bool
  trainFails : Bool
  badA       : Bool
  badB       : Bool
  deriving DecidableEq, Repr

/-- The commands of the block: one constructor per row of spec/opcode_table.json, in the table's order. -/
inductive Instr where
  /-- REGISTER_WRITE (R41): A write to a register field that has no row of its own takes effect by its access type, subject to LOCK and the reserved-bit rules. -/
  | registerWrite (who : Initiator) (page : Fin 4096) (off : Fin 1024 × Fin 4) (size : AccessSize) (value : DWord)
  /-- RC_FIELD_READ (R41): A read of an RC field returns its value and clears it, keeping any count made in the same cycle. -/
  | rcFieldRead (who : Initiator) (page : Fin 4096) (word : Fin 1024) (sub : Fin 4) (size : AccessSize)
  /-- UNMAPPED_ACCESS (R31): An access to an unmapped address, beyond fitted LPDDR5 or a write to a read-only region is a decode error recorded with code 0x06. -/
  | unmappedAccess (who : Initiator) (addr : DWord) (size : AccessSize) (write : Bool) (value : DWord)
  /-- WIDE_VALUE_READ (R46): A read of the lowest word of a wide value returns it and latches the higher words for the reading initiator. -/
  | wideValueRead (who : Initiator) (page : Fin 4096) (off : Fin 1024 × Fin 4) (size : AccessSize)
  /-- WIDE_VALUE_COMMIT (R48): A write of the highest word of a wide value commits all buffered words in one cycle. -/
  | wideValueCommit (who : Initiator) (page : Fin 4096) (off : Fin 1024 × Fin 4) (size : AccessSize) (value : DWord)
  /-- LOCK (R44): Writing 1 to PG_CTRL.LOCK freezes every RW/L field of the page until plane or device reset. -/
  | lock (who : Initiator) (page : Fin 4096)
  /-- SOFT_RESET (R40): Writing 1 to PG_CTRL.SOFT_RESET returns the page to reset values, discards work and wipes owned SRAM, or acts as R562 states on meeting-point pages. -/
  | softReset (who : Initiator) (page : Fin 4096)
  /-- SOFT_RESET_DONE (R40): A soft reset completes, SOFT_RESET clears and READY may rise. -/
  | softResetDone (page : Fin 4096)
  /-- PG_IRQ_FORCE (R37): Writing 1 to a PG_IRQ_FORCE bit sets the same bit of PG_IRQ_RAW. -/
  | pgIrqForce (who : Initiator) (page : Fin 4096) (value : Word)
  /-- PG_ERR_CLR (R37): Writing 1 to PG_ERR_CLR clears PG_ERR_INFO and PG_ERR_ADDR, leaving PG_IRQ_RAW[31] set. -/
  | pgErrClr (who : Initiator) (page : Fin 4096) (clear : Bool)
  /-- SUMMARY_LINE (R49): A page summary line follows PG_IRQ_STAT and signals its mapped thread or MSI-X vector on each rising edge. -/
  | summaryLine (page : Fin 4096)
  /-- MSIX_UNMASK (R50): Unmasking an MSI-X vector with its pending bit set sends the message once and clears the bit. -/
  | msixUnmask (word : Fin 2048) (write : Option Word)
  /-- PORT_FAULT (R60): A GNSS band input meets a port-fault condition, moving its channels to LOST. -/
  | portFault (ant : Fin 4) (band : Fin 2) (cause : Fin 6)
  /-- PORT_FAULT_CLEAR (R60): A port fault clears after its condition has been absent for 100 ms. -/
  | portFaultClear (ant : Fin 4) (band : Fin 2)
  /-- AGC_STEP (R59): Every 1 ms each band steps its AGC duty by 1 toward its target. -/
  | agcStep (samples : List (List (Nat × Nat)))
  /-- SAMPLE_CLOCK_CHECK (R58): Every 100 ms the device measures each sample clock against the time base and reports GNSS_FE_CLK_PPB. -/
  | sampleClockCheck (ppb : List (Option Int))
  /-- LOOP_UPDATE (R63): Every 1 ms on TAI millisecond boundaries the carrier, code and frequency loops of all channels update. -/
  | loopUpdate (obs : List LoopObs) (nav : List NavObs)
  /-- CH_CFG (R94): A write of GNSS_CH_CFG configures a channel, is refused for invalid identity, moves the channel to IDLE on EN 0 or re-queues acquisition on an identity change. -/
  | chCfg (who : Initiator) (v : Word)
  /-- GNSS_START (R64): The START command queues an acquisition request for one or all enabled idle channels. -/
  | gnssStart (who : Initiator) (all : Bool) (ch : Fin 1024)
  /-- GNSS_STOP (R64): The STOP command moves one or all channels to IDLE. -/
  | gnssStop (who : Initiator) (all : Bool) (ch : Fin 1024)
  /-- GNSS_SLEEP (R91): The SLEEP command flushes retained data and moves channels to HELD, entering SLEEP_ENTRY. -/
  | gnssSleep (who : Initiator)
  /-- GNSS_WAKE (R91): The WAKE command chooses a start type and requeues held channels aided from retained data. -/
  | gnssWake (who : Initiator)
  /-- RX_ENABLE (R91): Setting GNSS_CH_PG_CTRL.ENABLE checks retained CRCs and chooses the start type. -/
  | rxEnable (who : Initiator) (enable : Bool)
  /-- SLEEP_COMPLETE (R91): The retained-data flush completes and the receiver enters SLEEP with its baseband clock stopped. -/
  | sleepComplete
  /-- ACQ_DETECTION (R64): An acquisition search detects a signal at or above ACQ_CN0 and the channel enters PULLIN. -/
  | acqDetection (cn0 : Nat)
  /-- ACQ_FAIL (R64): An acquisition search completes without detection and the request queues again. -/
  | acqFail
  /-- PULLIN_TIMEOUT (R64): A channel without lock after 500 ms in PULLIN queues a new acquisition. -/
  | pullinTimeout (ch : Fin 1024)
  /-- LOSS_OF_LOCK (R64): A tracked channel loses C/N0 or carrier lock for its limit and enters LOST. -/
  | lossOfLock (ch : Fin 1024)
  /-- REACQUIRED (R64): Aided reacquisition succeeds within the window and the channel returns to PULLIN with SLIP at the next latch. -/
  | reacquired (ch : Fin 1024)
  /-- REACQ_TIMEOUT (R64): The reacquisition timer expires and an unaided acquisition is queued. -/
  | reacqTimeout (ch : Fin 1024)
  /-- MEASUREMENT_LATCH (R67): At a latch instant every measuring channel latches and a measurement set is formed and screened by the guards. -/
  | measurementLatch (meas : List ChanMeas) (soln : Option TimeSolution)
  /-- BASE_SET_COMPLETE (R73): The base set is complete, the set is written to the ring and the notice posted. -/
  | baseSetComplete
  /-- BASE_ORDER (R88): A write of GNSS_MEAS_BASE_ORDER makes the device choose the base antenna afresh at the next epoch latch. -/
  | baseOrder (who : Initiator) (v : Word)
  /-- DOMAIN_LOSS (R101): A LOCKED domain has no update for LOSS_MS and enters HOLD. -/
  | domainLoss (dom : Fin 2)
  /-- RESTART (R101): The RESTART command discards a domain's estimate and returns it to NONE. -/
  | restart (who : Initiator) (dom : Fin 2)
  /-- RESUME (R109): The RESUME command moves a FROZEN domain B back to ACQUIRE. -/
  | resume (who : Initiator)
  /-- SERVO_EN (R101): Writing SERVO_EN 0 discards the domain's estimate and enters NONE. -/
  | servoEn (who : Initiator) (dom : Fin 2) (enable : Bool)
  /-- SEL (R102): A write of TIME_OUT_CTRL.SEL re-evaluates which domain the output follows. -/
  | sel (who : Initiator) (sel : Fin 4)
  /-- STEP (R106): At the next whole second with a pending forward correction the output time steps forward by D. -/
  | step
  /-- HOLD_WARN (R104): Holdover passes HOLD_WARN_S and the quality state becomes HOLD_LONG. -/
  | holdWarn
  /-- HOLD_LIMIT (R104): Holdover passes HOLD_LIMIT_S, the state becomes HOLD_EXPIRED and TIME_VALID falls. -/
  | holdLimit
  /-- SET (R108): The SET command sets the output time forward in NONE or MANUAL and enters MANUAL. -/
  | set (who : Initiator)
  /-- SYNC (R110): A Sync message received on the slave port forms a domain B update, or one waits for its Follow_Up. -/
  | sync
  /-- FOLLOW_UP (R110): A Follow_Up received on the slave port completes a two-step Sync update. -/
  | followUp
  /-- DELAY_REQ (R110): A Delay_Req received on a master port is answered with a Delay_Resp. -/
  | delayReq
  /-- DELAY_RESP (R110): A Delay_Resp received on the slave port updates the mean path delay. -/
  | delayResp
  /-- ANNOUNCE (R111): An Announce received on the slave port records the master's clockClass and stepsRemoved. -/
  | announce
  /-- PTP_MASTER_SEND (R110): At each profile interval master ports send Sync and Announce messages. -/
  | ptpMasterSend
  /-- DELAY_REQ_SEND (R110): At each delay request interval the slave port sends a Delay_Req. -/
  | delayReqSend
  /-- SLAVE_PORT_SWITCHED (R111): No Announce for 3 s or no Sync for LOSS_MS moves the slave role to the backup port. -/
  | slavePortSwitched
  /-- PULSE_EDGE (R112): The output time reaches a pulse instant or its end and the pulse pin changes level. -/
  | pulseEdge (out : Fin 16)
  /-- PULSE_CTRL (R113): A write of PULSE_CTRL commits the staged pulse parameters for the addressed output. -/
  | pulseCtrl (who : Initiator) (en gate invert : Bool)
  /-- CAPTURE_EDGE (R114): An enabled edge on a capture input is stamped into its FIFO. -/
  | captureEdge (input : Fin 8) (rising : Bool)
  /-- UTC_APPLY (R116): At the second in TIME_OUT_UTC_AT the next UTC offset becomes current. -/
  | utcApply
  /-- OBSERVATION_FRAME (R126): An accepted compact observation frame is checked and queued for a tile or refused. -/
  | observationFrame (machine : Fin 256) (bytes : List Byte)
  /-- RTCM_FRAME (R127): An accepted RTCM MSM payload is converted into observables and queued or refused. -/
  | rtcmFrame (machine : Fin 256) (preamble len1 len0 : Byte) (rest : List Byte)
  /-- POSITION_REPORT (R128): An accepted position report is emitted as a fix record with SOURCE 1. -/
  | positionReport (machine : Fin 256) (bytes : List Byte)
  /-- MODE (R122): A write of SOLV_MCFG.MODE requests a machine mode change at the next epoch edge. -/
  | machineMode (who : Initiator) (machine : Fin 256) (mode : Fin 4)
  /-- EPOCH_EDGE (R22): An epoch edge applies pending mode writes and script bank switches. -/
  | epochEdge
  /-- EPOCH_CHANGE_APPLY (R155): A pending epoch length takes effect at the next TAI multiple of 200 ms. -/
  | epochChangeApply
  /-- BANK (R134): A write of SOLV_CTRL.BANK checks the requested script bank and accepts or refuses the switch. -/
  | scriptBank (who : Initiator) (bank : Fin 2)
  /-- TILE_DISPATCH (R149): A tile with no running context chooses a ready context or an eligible frame by deadline. -/
  | tileDispatch
  /-- PREEMPTION (R150): A waiting frame pre-empts the running context with the latest deadline at the next macro-operation boundary. -/
  | preemption
  /-- LOAD (R133): The script LOAD reads the committed state or restarts the filter. -/
  | scriptLoad (tile : Fin 16)
  /-- PREDICT (R133): The script PREDICT time-updates the filter to the frame epoch. -/
  | scriptPredict (tile : Fin 16)
  /-- DDFORM (R136): The script DDFORM forms double differences against the base set and sets NODD. -/
  | scriptDdform (tile : Fin 16)
  /-- SLIPDET (R139): The script SLIPDET marks slipped signals and restarts their ambiguities. -/
  | scriptSlipdet (tile : Fin 16)
  /-- UPDATE (R138): The script UPDATE applies code, phase or Doppler rows, skipping outliers. -/
  | scriptUpdate (tile : Fin 16)
  /-- CHECK (R140): The script CHECK tests divergence and restarts the filter when the limit is exceeded. -/
  | scriptCheck (tile : Fin 16)
  /-- DECOR (R141): The script DECOR decorrelates the float ambiguities. -/
  | scriptDecor (tile : Fin 16)
  /-- SEARCH (R141): The script SEARCH finds the best and second-best integer vectors within the node limit. -/
  | scriptSearch (tile : Fin 16)
  /-- VALIDATE (R142): The script VALIDATE tests the integers and retries with dropped ambiguities on failure. -/
  | scriptValidate (tile : Fin 16)
  /-- FIXOUT (R143): The script FIXOUT forms the fix record and emits it to zone lookup, tracker and radio. -/
  | scriptFixout (tile : Fin 16) (moved : Bool)
  /-- STORE (R131): The script STORE commits the filter state to the other slot. -/
  | scriptStore (tile : Fin 16)
  /-- BRANCH (R133): The script BRANCH jumps forward when its condition holds. -/
  | scriptBranch (tile : Fin 16)
  /-- NOP (R133): The script NOP does nothing. -/
  | scriptNop (tile : Fin 16)
  /-- END (R133): The script END ends the run and frees the context. -/
  | scriptEnd (tile : Fin 16)
  /-- HOLD (R152): A write of ASTER_CTRL.HOLD stops the tile at the next macro-operation boundary or releases it. -/
  | tileHold (who : Initiator) (tile : Fin 16) (hold : Bool)
  /-- EVICT (R152): EVICT returns the frames of both tile contexts to the input queue. -/
  | tileEvict (who : Initiator) (tile : Fin 16)
  /-- TILE_FAULT (R152): A tile fault evicts its frames, sets FAULT and removes the tile from scheduling. -/
  | tileFault (tile : Fin 16) (ctx : Fin 2) (ecc : Bool)
  /-- TEST (R166): ASTER_TEST.START runs the known-answer script in a free context. -/
  | tileTest (who : Initiator) (tile : Fin 16)
  /-- TEST_DONE (R166): The tile test finishes and records DONE, PASS and the signature. -/
  | tileTestDone (tile : Fin 16) (signature : Fin 65536)
  /-- NONE_EVT (R147): At the end of an epoch a machine without a usable fix advances its count and at the limit is logged. -/
  | noneEvt
  /-- SHARE_WAIT_EXPIRY (R153): The wait for a foreign base set expires and waiting frames become eligible. -/
  | shareWaitExpiry (epoch : Nat)
  /-- SHARE (R161): A share record with another member's base set arrives and is kept for solving. -/
  | shareSet
  /-- RESET_FILTER (R165): The SOLV RESET command restarts a machine's filter at its next LOAD. -/
  | resetFilter (who : Initiator) (machine : Fin 256)
  /-- IMPORT (R163): IMPORT copies a state slot from the transfer buffer and commits it if valid and newer. -/
  | solvImport (who : Initiator) (machine : Fin 256)
  /-- EXPORT (R163): EXPORT copies a machine's committed slot to the transfer buffer. -/
  | solvExport (who : Initiator) (machine : Fin 256)
  /-- LOOKUP_EN (R173): A write of ZONE_CTRL.LOOKUP_EN enables lookups after checking the level ranges. -/
  | lookupEn (who : Initiator) (enable : Bool)
  /-- INSERT (R179): ZONE INSERT places the staged entry, relocating entries when both buckets are full. -/
  | zoneInsert (who : Initiator)
  /-- DELETE (R172): ZONE DELETE clears the slot holding the given key. -/
  | zoneDelete (who : Initiator)
  /-- MODIFY (R178): ZONE MODIFY rewrites an entry's words 1 to 3 in one write. -/
  | zoneModify (who : Initiator)
  /-- ZONE_LOAD (R186): ZONE LOAD checks a site image and installs cells, origin and zones. -/
  | zoneLoad (who : Initiator)
  /-- REFILTER (R179): REFILTER recomputes the length-presence filter from the slots in the background. -/
  | zoneRefilter (who : Initiator)
  /-- ZONE_CLEAR (R190): ZONE CLEAR empties the zone store and makes every zone state unknown. -/
  | zoneClear (who : Initiator)
  /-- ZONE_CMD_COMPLETE (R565): A long zone command completes and CMD_STAT.BUSY falls with its RESULT. -/
  | zoneCmdComplete (xtab : Bool)
  /-- WRITE_MACHINE (R191): XTAB WRITE_MACHINE writes words 0 to 7 of a machine record. -/
  | writeMachine (who : Initiator) (index : Fin 1048576)
  /-- WRITE_CELL (R191): XTAB WRITE_CELL writes a whole cell record. -/
  | writeCell (who : Initiator) (index : Fin 1048576)
  /-- INVALIDATE_MACHINE (R191): XTAB INVALIDATE_MACHINE clears VALID and the planner words of a machine record. -/
  | invalidateMachine (who : Initiator) (index : Fin 1048576)
  /-- INVALIDATE_CELL (R191): XTAB INVALIDATE_CELL clears VALID of a cell record. -/
  | invalidateCell (who : Initiator) (index : Fin 1048576)
  /-- TABLE_DIRECT_WRITE (R181): A direct write to the fleet-store region is refused and counted. -/
  | tableDirectWrite (who : Initiator) (addr : Nat)
  /-- SHADOW_BLOCK_COMPARE (R189): The shadow engine compares one block with its shadow and repairs or reports differences. -/
  | shadowBlockCompare (raced : Bool)
  /-- PASS (R192): SHADOW_CMD.PASS starts a new compare pass at once. -/
  | shadowPass (who : Initiator)
  /-- SUBMIT (R204): TRACK_PLAN_SUBMIT queues the staged plan request, superseding an earlier one for the machine. -/
  | planSubmit (who : Initiator)
  /-- CANCEL (R204): TRACK_PLAN_CANCEL removes a machine's queued request or cancels its search at the end. -/
  | planCancel (who : Initiator) (machine : Fin 256)
  /-- SEARCH_START (R204): A request leaves the queue and the planner starts its search at tick S. -/
  | searchStart
  /-- COMMIT (R212): The search ends and the plan is committed in one transaction or the result posted. -/
  | planCommit
  /-- SHR_REQ (R226): The lead receives a shared-cell request and grants or refuses it whole. -/
  | shrReq
  /-- SHR_REPLY (R225): A member receives the lead's reply and commits or denies the plan. -/
  | shrReply
  /-- SHR_UPDATE (R224): A member applies a lead update of shared records in UPD_SEQ order. -/
  | shrUpdate
  /-- SHARED_RETRY (R225): A shared reply wait expires and the request is resent or the plan denied. -/
  | sharedRetry
  /-- FIX_PACKET (R217): The tracker takes a fix packet and updates deviation, crossings and plan end. -/
  | fixPacket
  /-- OVERRUN_GRACE (R220): The end of tick EXIT + GRACE passes without a stamp and the record is overrun. -/
  | overrunGrace
  /-- SWEEP (R201): At the end of each plan tick records whose spans have ended are retired. -/
  | sweep
  /-- TIME_JUMP_CATCH_UP (R563): After a forward step or SET the planner and dispatch engine carry out the actions of every skipped tick. -/
  | timeJumpCatchUp
  /-- RESERVE (R229): RESERVE writes an OPEN cell record from the current tick. -/
  | reserve (who : Initiator) (index : Fin 1048576)
  /-- RELEASE (R229): RELEASE frees a machine's records from a tick on, DOUBT included. -/
  | release (who : Initiator) (index : Fin 1048576)
  /-- QUERY_CELL (R229): QUERY_CELL queues up to 64 of a cell's live records. -/
  | queryCell (who : Initiator) (index : Fin 1048576)
  /-- QUERY_MACHINE (R229): QUERY_MACHINE queues up to 64 of a machine's live records. -/
  | queryMachine (who : Initiator) (index : Fin 1048576)
  /-- RECONCILE (R228): RECONCILE clears DOUBT on a machine's records when its reported plan matches. -/
  | reconcile (who : Initiator) (index : Fin 1048576)
  /-- ACK (R229): ACK sets a machine's ACK_PLAN_ID. -/
  | planAck (who : Initiator) (index : Fin 1048576)
  /-- TRACK_CLEAR (R229): The reservation CLEAR command releases every record while PLAN_EN is 0. -/
  | trackClear (who : Initiator)
  /-- QUERY_RESULT_READ (R231): A read of TRACK_RES_RESULT0 pops a query result and latches its other words. -/
  | queryResultRead (who : Initiator)
  /-- DELIVERY_WORD (R239): The planner reads a SEG delivery word and sets the machine's ACK_PLAN_ID. -/
  | deliveryWord
  /-- CHUNK_ACK (R239): A chunk's hardware acknowledgement marks it delivered and completes the table when all are delivered. -/
  | chunkAck (chunk : Fin 256 × Fin 16)
  /-- LATE (R240): A table incomplete at the end of its START_TICK posts LATE once. -/
  | segLate
  /-- GIVEUP (R240): Delivery stops with GIVEUP after GIVEUP_EP epochs past START_TICK. -/
  | segGiveup
  /-- AXIS_ENABLE (R247): Writing AXIS CTRL.EN 1 asserts ENA and moves the axis to IDLE. -/
  | axisEnable (who : Initiator) (axis : Fin 8)
  /-- AXIS_DISABLE (R247): Writing AXIS CTRL.EN 0 stops steps, deasserts ENA and moves the axis to DISABLED. -/
  | axisDisable (who : Initiator) (axis : Fin 8)
  /-- MOVE_ABS (R248): MOVE_ABS plans a trapezoid move to TARGET. -/
  | moveAbs (who : Initiator) (axis : Fin 8)
  /-- MOVE_REL (R248): MOVE_REL plans a trapezoid move by TARGET from the commanded position. -/
  | moveRel (who : Initiator) (axis : Fin 8)
  /-- RUN_TABLE (R252): RUN_TABLE begins a segment table at its start update. -/
  | runTable (who : Initiator) (axis : Fin 8)
  /-- AXIS_STOP (R250): The axis STOP ramps to rest at DEC, keeping a profile move resumable. -/
  | axisStop (who : Initiator) (axis : Fin 8)
  /-- QUICK_STOP (R247): QUICK_STOP ramps to rest at STOP_DEC and clears RESUMABLE. -/
  | quickStop (who : Initiator) (axis : Fin 8)
  /-- AXIS_RESUME (R250): The axis RESUME moves to the kept target. -/
  | axisResume (who : Initiator) (axis : Fin 8)
  /-- HOME (R254): HOME starts the homing sequence. -/
  | axisHome (who : Initiator) (axis : Fin 8)
  /-- CLEAR_FAULT (R247): CLEAR_FAULT returns a faulted axis to IDLE when no limit is ahead and no site stop holds. -/
  | clearFault (who : Initiator) (axis : Fin 8)
  /-- SET_POS (R260): SET_POS sets CMD_POS to TARGET and scales ENC_POS in IDLE. -/
  | setPos (who : Initiator) (axis : Fin 8)
  /-- PROFILE_UPDATE (R247): Every 1 ms the axis samples commands and parameters and advances its profile, table or homing phase. -/
  | profileUpdate (axis : Fin 8)
  /-- STEP_UPDATE (R244): Every 10 µs the step generator updates the commanded position and spreads its steps. -/
  | stepUpdate (axis : Fin 8)
  /-- ENCODER_EDGE (R245): An encoder edge counts, or counts as an encoder error when both inputs change. -/
  | encoderEdge (axis : Fin 8) (a b : Bool)
  /-- LIMIT_EVT (R251): A limit input changes after its debounce time, stopping the axis if ahead of the motion. -/
  | limitEvt (axis : Fin 8) (pos high : Bool)
  /-- HOME_CHANGE (R256): The home input changes after its debounce time, latching the backdated encoder count in homing. -/
  | homeChange (axis : Fin 8) (old high : Bool)
  /-- STALL (R257): The position difference stays beyond the window for STALL.MS updates and the axis faults. -/
  | stall (axis : Fin 8)
  /-- IDLE_CURRENT (R258): After DELAY_MS at rest the IREF duty falls to IDLE_PCT. -/
  | idleCurrent (axis : Fin 8)
  /-- IO_SUPPLY_LOST (R549): VDDIO_3V3 falls below its bank threshold, 3.3 V outputs float and axes fault with cause 8. -/
  | ioSupplyLost
  /-- LINK_DOWN (R265): A sector JESD link leaves the data phase and the sector falls silent. -/
  | linkDown (sect : Fin 8) (rx : Bool) (dest : Fin 5)
  /-- LINK_UP (R265): Both sector links return to the data phase and the sector rejoins at the next slot edge. -/
  | linkUp (sect : Fin 8)
  /-- SECT_BANK (R273): A write of SECT_CTRL.BANK checks the program bank and accepts or refuses the switch. -/
  | sectBank (who : Initiator) (sect : Fin 8) (bank : Fin 2)
  /-- CYCLE_EDGE (R266): At a cycle edge the active bank runs from word 0 and a pending bank switch applies. -/
  | cycleEdge (sect : Fin 8)
  /-- BEACON (R267): At a beacon slot edge the sector sends a beacon with the mirrored token and stop image. -/
  | beacon (sect : Fin 8)
  /-- STOP_MINI_SLOT (R267): At a stop mini-slot edge the sector sends the presented stop image, if any. -/
  | stopMiniSlot (sect : Fin 8)
  /-- TX (R275): A TX program word settles and sends one downlink frame over its slots. -/
  | tx (sect : Fin 8)
  /-- RX (R283): An RX program word opens an uplink block for one machine. -/
  | rx (sect : Fin 8)
  /-- OPEN (R288): An OPEN program word opens contention slots. -/
  | radioOpen (sect : Fin 8)
  /-- POLL (R289): A POLL program word runs a poll window. -/
  | poll (sect : Fin 8)
  /-- TWIN (R276): A TWIN program word makes unit B repeat earlier TX blocks. -/
  | twin (sect : Fin 8)
  /-- IDLE (R271): An IDLE program word keeps its slots silent. -/
  | idle (sect : Fin 8)
  /-- REPEAT (R271): A REPEAT program word reruns earlier words with stepped machine fields. -/
  | radioRepeat (sect : Fin 8)
  /-- PROGRAM_END (R271): The END program word idles the rest of the cycle except fixed slots. -/
  | programEnd (sect : Fin 8)
  /-- FRAME_ACCEPT (R283): A received frame passes FCS, TAG and duplicate checks, is acknowledged and routed at acceptance. -/
  | frameAccept (sect : Fin 8) (rate : Nat) (wide : Bool) (start : Nat) (bytes : List Byte)
  /-- ACK_MISSING (R282): No acknowledgement starts by 4 µs after the window opens and the miss is counted. -/
  | ackMissing (sect : Fin 8)
  /-- ASSOC_REQ (R286): A Primrose ASSOC_REQ is acknowledged and answered with ASSOC_RESP. -/
  | assocReq (sect : Fin 8) (rate : Nat) (wide : Bool) (start : Nat) (bytes : List Byte)
  /-- DISASSOC (R286): A Primrose DISASSOC ends the machine's association. -/
  | disassoc (sect : Fin 8) (rate : Nat) (wide : Bool) (start : Nat) (bytes : List Byte)
  /-- ASSOC_TIMEOUT (R286): A Primrose machine silent for TIMEOUT_S seconds is disassociated. -/
  | assocTimeout (machine : Fin 256)
  /-- WATCH (R290): In Snowdrop, each superframe with N mod 50 zero the watch sector sends WATCH and runs a poll window. -/
  | watch
  /-- FW_FRAME (R292): A firmware frame packet on TX_QUEUE is queued for sending to its machine or sector. -/
  | fwFrame
  /-- TOKEN_SAMPLE (R300): Both Poppy channels sample their state for superframe N at edge minus 100 µs and compare. -/
  | tokenSample
  /-- TOKEN_PLACE (R300): Channel A places the signed and checked token in the mirror. -/
  | tokenPlace (checked : Bool)
  /-- ARM (R303): A write of POPPY_ARM by a control core with the next COUNT refreshes the arm. -/
  | arm (who : Initiator) (word : Word)
  /-- ARM_LOST (R303): An arm older than 50 ms is no longer fresh and the unit withholds. -/
  | armLost
  /-- ROLE (R304): A write of POPPY_ROLE by a control core makes the unit role known. -/
  | poppyRole (who : Initiator) (role : Fin 4)
  /-- STOP_MEMBER (R306): A STOP_MEMBER request raises a member-scope stop. -/
  | stopMember (who : Initiator) (detail : Fin 256)
  /-- STOP_SITE (R306): A STOP_SITE request raises a site-scope stop. -/
  | stopSite (who : Initiator) (detail : Fin 256)
  /-- CLEAR_MACHINE (R306): A CLEAR_MACHINE request raises a machine-list stop for one machine. -/
  | clearMachine (who : Initiator) (detail machine : Fin 256)
  /-- STOP_ADOPT (R564): The other Poppy channel registers a stop raised by its partner channel. -/
  | stopAdopt (x : Fin 2)
  /-- WITHDRAWAL (R302): A unit withholding through the end of N+3 clears its own site-permit bit. -/
  | withdrawal
  /-- STOP_PRESENTATION (R309): At a presentation opportunity the mirror presents one stop image chosen by precedence. -/
  | stopPresentation
  /-- REL_GO (R310): Writing REL_GO submits the staged release to both channels' checks. -/
  | relGo (who : Initiator)
  /-- RELEASE_DONE (R311): Both channels complete the release checks and apply or refuse the release. -/
  | releaseDone
  /-- CFG_COMMIT (R298): CFG_COMMIT makes both channels check and adopt the Poppy configuration in PROVISION. -/
  | cfgCommit (who : Initiator)
  /-- TEST_PULSE (R312): Each channel drives its test output low for WIDTH_US once every PERIOD_US. -/
  | testPulse (x : Fin 2)
  /-- WIRED_INPUT_OPEN (R312): An input channel stays low for FILT_US and raises a WIRED_IN stop. -/
  | wiredInputOpen (x : Fin 2) (n : Fin 8)
  /-- WIRING_FAULT (R313): A wired input fails its test-pulse response or its channels differ for DISC_MS, raising a WIRING stop. -/
  | wiringFault (x : Fin 2) (n : Fin 8) (disc : Bool)
  /-- WIRING_FAULT_CLEAR (R313): A wiring fault clears after 100 ms of closed, correct readings. -/
  | wiringFaultClear (n : Fin 8)
  /-- READBACK_FAULT (R314): An output readback differs for 500 µs and the channel de-energises and raises a member stop. -/
  | readbackFault (x : Fin 2) (k : Fin 4)
  /-- MARKER (R316): A lead unit pulls the stop-bus marker at the start of each 1,800 µs cycle. -/
  | busMarker (x : Fin 2) (seen : Bool)
  /-- MEMBER_SLOT (R316): A unit pulls or releases its member slot on the stop bus. -/
  | memberSlot (x : Fin 2)
  /-- SLOT_SAMPLE (R318): A member slot is sampled and an expected missing member raises a STOP_BUS stop. -/
  | slotSample (m : Fin 16) (lowA lowB : Bool)
  /-- BUS_LOST (R319): No marker edge within 1,900 µs raises a BUS_LOST stop. -/
  | busLost (x : Fin 2)
  /-- HEARTBEAT_SEND (R389): Every 1,000 channel ticks each channel sends a heartbeat frame to its partner. -/
  | heartbeatSend (x : Fin 2)
  /-- HEARTBEAT_FRAME (R320): An accepted heartbeat frame mirrors the partner's stops and cleared bits. -/
  | heartbeatFrame (x : Fin 2) (bytes : List Byte)
  /-- HEARTBEAT_MISSING (R390): No accepted heartbeat frame within 3 ms marks the line missing. -/
  | heartbeatMissing (x : Fin 2)
  /-- POPPY_CHANNEL_MONITOR (R295): A channel's own supply or clock leaves its limits and the channel is held in reset. -/
  | poppyChannelMonitor (x : Fin 2)
  /-- CREATE (R334): CREATE makes a free thread READY with the staged level and affinity. -/
  | threadCreate (who : Initiator) (self : Bool)
  /-- THREAD_DELETE (R334): DELETE frees a thread and the core it runs on. -/
  | threadDelete (who : Initiator) (self : Bool)
  /-- THREAD_SLEEP (R334): SLEEP delays the running thread by d ticks. -/
  | threadSleep (who : Initiator) (self : Bool) (ticks : Fin 16777216)
  /-- WAIT_IRQ (R334): WAIT_IRQ waits for a mapped interrupt edge, or returns at once when one is pending. -/
  | waitIrq (who : Initiator) (self : Bool) (ticks : Fin 16777216)
  /-- YIELD (R334): YIELD moves the running thread to the back of its level. -/
  | threadYield (who : Initiator) (self : Bool)
  /-- SET_LEVEL (R335): SET_LEVEL changes a thread's level. -/
  | setLevel (who : Initiator) (self : Bool) (level : Fin 64)
  /-- THREAD_WAKE (R334): WAKE makes a delayed or waiting thread READY with WAIT_RESULT 4. -/
  | threadWake (who : Initiator) (self : Bool)
  /-- SUSPEND (R334): SUSPEND takes a READY thread off the ready list. -/
  | threadSuspend (who : Initiator) (self : Bool)
  /-- THREAD_RESUME (R334): RESUME returns a suspended thread to the back of its level. -/
  | threadResume (who : Initiator) (self : Bool)
  /-- DELAY_EXPIRY (R332): At the start of its wake tick a delayed object becomes ready. -/
  | delayExpiry (set_ : Fin 3)
  /-- WAIT_TIMEOUT (R332): At the end of its deadline tick a wait without arrival ends with a timeout. -/
  | waitTimeout
  /-- CORE_ACK (R337): A core writes SCHED_CORE_ACK and the named thread becomes RUNNING. -/
  | coreAck (who : Initiator) (k : Fin 4) (thread : Fin 512)
  /-- WORK_ITEM (R339): A work packet on SUBMIT_Q enters the work set or is refused. -/
  | workItem
  /-- WORK_SUBMIT (R339): SCHED_WRK_SUBMIT enters the staged work item. -/
  | workSubmit (who : Initiator)
  /-- PULL (R340): A data core's pull word requests work and is granted the first eligible item. -/
  | pull
  /-- WRK_EN (R342): WRK_EN rising discards pending words and posts RESET to every data core. -/
  | wrkEn (who : Initiator) (enable : Bool)
  /-- JOB_SUBMIT (R343): SCHED_JOB_SUBMIT enters the staged job. -/
  | jobSubmit (who : Initiator)
  /-- ASK (R344): SCHED_JOB_ASK registers a machine's ask for a job. -/
  | jobAsk (who : Initiator) (machine : Fin 256) (timeout : Fin 65536)
  /-- CANCEL_ASK (R354): CANCEL_ASK ends a machine's ask with RESULT 3. -/
  | cancelAsk (who : Initiator) (machine : Fin 256)
  /-- WITHDRAW (R354): WITHDRAW removes an ungranted job. -/
  | jobWithdraw (who : Initiator) (handle : Fin 4096)
  /-- MATCHING_PASS (R346): A matching pass grants ready jobs to eligible waiting asks. -/
  | matchingPass
  /-- ASK_TIMEOUT (R346): At the end of its tick an expired ask ends with a RESULT 2 grant element. -/
  | askTimeout
  /-- EXPIRE (R346): A job whose EXPIRES has passed is withdrawn. -/
  | jobExpire
  /-- FRAME_RECEIVE (R360): A frame received on a switch port passes size, PRP, VLAN, trap, learning and forwarding stages. -/
  | frameReceive (port : Fin 20) (stamp : Nat) (bytes : List Byte)
  /-- FRAME_TRANSMIT (R366): An idle port sends the head frame of its highest eligible queue. -/
  | frameTransmit (port : Fin 20)
  /-- RING_TAIL (R368): Advancing SWCH_RING_TAIL hands descriptors to the device for processing. -/
  | ringTail (who : Initiator) (index : Fin 4096)
  /-- RING_RESUME (R371): RING_CMD.RESUME restarts a ring stopped by a translation fault. -/
  | ringResume (who : Initiator)
  /-- P21_PACKET (R372): A packet on the port-21 TX queue is sent as a frame from port 21. -/
  | p21Packet
  /-- ATU_LOOKUP (R379): ATU LOOKUP reads the address entry of the key into ATU_DATA. -/
  | atuLookup (who : Initiator)
  /-- INSERT_STATIC (R379): ATU INSERT_STATIC writes a static address entry. -/
  | insertStatic (who : Initiator)
  /-- ATU_DELETE (R379): ATU DELETE removes the address entry of the key. -/
  | atuDelete (who : Initiator)
  /-- FLUSH_PORT (R379): ATU FLUSH_PORT removes the dynamic entries of one port. -/
  | flushPort (who : Initiator) (port : Fin 32)
  /-- FLUSH_ALL (R379): ATU FLUSH_ALL removes every dynamic entry. -/
  | flushAll (who : Initiator)
  /-- AGEING (R363): A dynamic entry not refreshed for SWCH_AGE seconds is removed. -/
  | ageing
  /-- SUPERVISION_FRAME (R374): Every LIFE_CHECK_MS the device sends a PRP supervision frame on both LANs. -/
  | supervisionFrame
  /-- TSQ_POP (R377): A read of EMAC_TSQ0 pops a timestamp entry, freeing room for a waiting marker. -/
  | tsqPop (who : Initiator) (port : Fin 20)
  /-- WAKE_MATCH (R378): In Snowdrop a frame on a wake port matches a magic packet or pattern and raises the wake event. -/
  | wakeMatch (port : Fin 4) (bytes : List Byte)
  /-- ETH_LINK_CHANGE (R357): An Ethernet port's link comes up or goes down. -/
  | ethLinkChange (port : Fin 20) (up : Bool) (speed : Fin 3) (signal lock : Bool)
  /-- PAIR_EN (R382): Writing PAIR_CTRL.EN 1 starts the pair role machine or is refused. -/
  | pairEn (who : Initiator) (enable : Bool)
  /-- START_TIMEOUT (R383): A unit in START shown no active partner for its wait becomes ALONE. -/
  | startTimeout
  /-- PROMOTION (R387): A standby without evidence for PROMOTE_SF superframes promotes itself by the takeover procedure. -/
  | promotion
  /-- ACTIVE_ALONE (R383): An active unit without partner keepalive for PROMOTE_SF superframes becomes ALONE. -/
  | activeAlone
  /-- SWITCH (R403): SWITCH hands the active role to the partner. -/
  | pairSwitch (who : Initiator)
  /-- PROMOTE (R387): PROMOTE forces promotion at once unless recent evidence exists. -/
  | pairPromote (who : Initiator)
  /-- RESYNC_CMD (R415): The RESYNC command makes a standby request a full copy. -/
  | resyncCmd (who : Initiator)
  /-- SWITCH_FAIL (R403): No HANDOFF_ACK within PROMOTE_SF superframes and the unit stays ACTIVE. -/
  | switchFail
  /-- KEEPALIVE_SEND (R407): Every CASC_KEEPALIVE.MS the unit sends a KEEPALIVE to the group. -/
  | keepaliveSend
  /-- KEEPALIVE (R407): A KEEPALIVE received records the tick of the sending unit. -/
  | keepalive
  /-- PAIR_KEEPALIVE_SEND (R393): Every 1 ms the unit sends a PAIR_KEEPALIVE over the pair link. -/
  | pairKeepaliveSend
  /-- PAIR_KEEPALIVE (R383): A PAIR_KEEPALIVE received gives evidence and drives role transitions. -/
  | pairKeepalive
  /-- JOURNAL (R397): A standby applies a complete in-sequence journal transaction and sends JACK. -/
  | journal
  /-- JACK (R399): A JACK confirms a transaction and releases its held outputs. -/
  | jack
  /-- JREQ (R397): A JREQ makes the active unit resend from JBUF. -/
  | jreq
  /-- CONF_TIMEOUT (R399): PAIR_CONF.US passes without JACK and the transaction counts as confirmed. -/
  | confTimeout
  /-- RESYNC (R400): A RESYNC message makes the active unit send a full copy. -/
  | resync
  /-- STATE_REQ (R398): A STATE_REQ makes the active unit send a machine's state slot. -/
  | stateReq
  /-- HANDOFF (R403): A HANDOFF makes the partner apply up to its JSEQ, become ACTIVE and answer. -/
  | handoff
  /-- HANDOFF_ACK (R403): A HANDOFF_ACK makes the old active unit STANDBY. -/
  | handoffAck
  /-- WITNESS_QUERY (R386): At the start of a superframe after one without evidence the standby sends WITNESS_Q. -/
  | witnessQuery
  /-- WITNESS_Q (R386): The witness answers a query from its keepalive record. -/
  | witnessQ
  /-- WITNESS_A (R386): A witness answer gives evidence or permits promotion. -/
  | witnessA
  /-- REASM_TIMEOUT (R394): A message incomplete 10 ms after its first fragment is discarded. -/
  | reasmTimeout
  /-- SNAP_REQ (R410): The lead answers SNAP_REQ with snapshot updates and SNAP_END. -/
  | snapReq
  /-- SNAP_END (R410): SNAP_END ends a member's snapshot and applies held updates. -/
  | snapEnd
  /-- HEALTH_SEND (R405): Every PERIOD_MS the unit sends a HEALTH record. -/
  | healthSend
  /-- HEALTH (R405): A partner HEALTH record is shown in PAIR_PHEALTH. -/
  | health
  /-- SELF_TEST (R405): Every TEST_S seconds a standby runs ASTER TEST on each tile. -/
  | selfTest
  /-- SEND (R412): CASC_MOVE SEND exports a machine's filter state and sends MOVE. -/
  | moveSend (who : Initiator) (dest : Fin 16) (machine : Fin 256)
  /-- MOVE (R412): The destination imports a MOVE and answers MOVE_ACK. -/
  | move
  /-- MOVE_ACK (R412): A MOVE_ACK completes SEND with its RESULT. -/
  | moveAck
  /-- MOVE_TIMEOUT (R412): No MOVE_ACK within 100 ms ends SEND with RESULT 1. -/
  | moveTimeout
  /-- DERIVE (R424): DERIVE makes a child key from a parent and label. -/
  | derive (who : Initiator) (parent slot : Fin 1024)
  /-- GENERATE (R428): GENERATE makes a random key of the staged type. -/
  | generate (who : Initiator) (parent slot : Fin 1024)
  /-- IMPORT_CLEAR (R428): IMPORT_CLEAR loads key bytes in PROVISION. -/
  | importClear (who : Initiator) (parent slot : Fin 1024)
  /-- IMPORT_PUB (R428): IMPORT_PUB loads a checked public key. -/
  | importPub (who : Initiator) (parent slot : Fin 1024)
  /-- WRAP (R432): WRAP seals an exportable key into a blob entry. -/
  | wrap (who : Initiator) (parent slot : Fin 1024)
  /-- UNWRAP (R428): UNWRAP opens a blob entry into a new slot. -/
  | unwrap (who : Initiator) (parent slot : Fin 1024)
  /-- INVALIDATE (R425): INVALIDATE empties a slot and its subtree and revokes consumer copies. -/
  | invalidate (who : Initiator) (slot : Fin 1024)
  /-- GCM_ENC (R428): GCM_ENC encrypts with AES-256-GCM and appends a tag. -/
  | gcmEnc (who : Initiator) (slot : Fin 1024)
  /-- GCM_DEC (R428): GCM_DEC checks the tag and decrypts. -/
  | gcmDec (who : Initiator) (slot : Fin 1024)
  /-- HMAC (R428): HMAC computes HMAC-SHA-256 with a slot key. -/
  | hmac (who : Initiator) (slot : Fin 1024)
  /-- SHA256 (R428): SHA256 digests a buffer. -/
  | sha256 (who : Initiator)
  /-- SHA384 (R428): SHA384 digests a buffer. -/
  | sha384 (who : Initiator)
  /-- SIGN (R428): SIGN makes an ECDSA P-256 signature. -/
  | sign (who : Initiator) (slot : Fin 1024)
  /-- VERIFY (R428): VERIFY checks an ECDSA P-256 signature. -/
  | verify (who : Initiator) (slot : Fin 1024)
  /-- AGREE (R428): AGREE computes an ECDH shared secret into a new slot. -/
  | agree (who : Initiator) (parent slot : Fin 1024)
  /-- PUBKEY (R428): PUBKEY writes a slot's public key. -/
  | pubkey (who : Initiator) (slot : Fin 1024)
  /-- RANDOM (R430): RANDOM writes bytes from the DRBG. -/
  | random (who : Initiator)
  /-- RESEED (R430): RESEED reseeds the random source and may restore DRBG_OK. -/
  | reseed (who : Initiator)
  /-- SEAL_BLOB (R433): SEAL_BLOB seals every persistent slot into a general blob. -/
  | sealBlob (who : Initiator) (kind : Fin 4)
  /-- COMMIT_BLOB (R434): COMMIT_BLOB checks a programmed blob, increments its counter and makes it current. -/
  | commitBlob (who : Initiator) (kind : Fin 4)
  /-- LOAD_BLOB (R435): LOAD_BLOB loads the newest acceptable blob of a kind. -/
  | loadBlob (who : Initiator) (kind : Fin 4)
  /-- POPPY_SEAL (R437): POPPY_SEAL writes the Poppy blob and loads the Poppy keys into channel A. -/
  | poppySeal (who : Initiator) (tok rel : Fin 1024)
  /-- KEY_CMD_DONE (R428): A key store command completes, BUSY falls and RESULT is set. -/
  | keyCmdDone
  /-- HEALTH_FAIL (R430): An entropy health test fails and DRBG_OK falls. -/
  | healthFail
  /-- TAMPER_DETECTION (R442): An enabled tamper source is detected, holding boot or wiping keys and requesting a stop. -/
  | tamperDetection (source : Fin 5) (temp : Fin 256)
  /-- SOURCE_CLEARED (R444): A tamper source inactive for 100 ms may log again. -/
  | sourceCleared (source : Fin 5) (temp : Fin 256)
  /-- PROGRAM (R445): TAMP PROGRAM copies the tamper configuration to OTP. -/
  | program (who : Initiator)
  /-- CLEAR_LOG (R444): CLEAR_LOG empties the tamper log. -/
  | clearLog (who : Initiator)
  /-- EXTEND (R439): EXTEND folds 48 bytes into a measurement register. -/
  | extend (who : Initiator) (index : Fin 9)
  /-- STATEMENT (R440): STATEMENT writes a signed attestation statement. -/
  | statement (who : Initiator) (index : Fin 9)
  /-- INVAL_ALL (R460): DTU INVAL ALL removes a context's translations from the cache. -/
  | invalAll (who : Initiator) (ctx : Fin 8)
  /-- INVAL_PAGE (R460): DTU INVAL PAGE removes one page's translations. -/
  | invalPage (who : Initiator) (ctx : Fin 8)
  /-- DTU_RESUME (R462): DTU RESUME retranslates a paused client's access and continues it. -/
  | dtuResume (who : Initiator) (client index : Fin 256)
  /-- DTU_ABORT (R462): DTU ABORT ends a paused client's work as R463 gives. -/
  | dtuAbort (who : Initiator) (client index : Fin 256)
  /-- DMA_START (R471): DMA START begins the descriptor chain at DESC_ADDR. -/
  | dmaStart (who : Initiator) (chan : Fin 16)
  /-- DMA_STOP (R471): DMA STOP halts the channel at the next burst boundary. -/
  | dmaStop (who : Initiator) (chan : Fin 16)
  /-- DMA_RESUME (R471): DMA RESUME continues a stopped or paused channel. -/
  | dmaResume (who : Initiator) (chan : Fin 16)
  /-- DMA_ABORT (R471): DMA ABORT ends the current descriptor and leaves the channel idle. -/
  | dmaAbort (who : Initiator) (chan : Fin 16)
  /-- DMA_BURST (R469): At a burst boundary the mover chooses a ready channel and moves one burst. -/
  | dmaBurst (host : List Byte)
  /-- SCRUB (R454): The scrubber reads SCRUB_WORDS words per microsecond and corrects errors. -/
  | scrub
  /-- SELF_REFRESH_ENTRY (R506): LPDDR5 idle for IDLE_US with SR_EN enters self-refresh. -/
  | selfRefreshEntry
  /-- DATA_READ (R478): A read of a mailbox DATA window pops the head word. -/
  | dataRead (who : Initiator) (q : Fin 64) (off : Fin 8) (size : AccessSize)
  /-- DATA_WRITE (R479): A write of a mailbox DATA window pushes one word or is held. -/
  | dataWrite (who : Initiator) (q : Fin 64) (off : Fin 8) (size : AccessSize) (value : DWord)
  /-- PACKET_WRITE (R482): A write of a mailbox PACKET window pushes a packet word, opening or closing the packet. -/
  | packetWrite (who : Initiator) (q : Fin 64) (off : Fin 8) (size : AccessSize) (value : DWord)
  /-- BUS_LIMIT_EXPIRY (R481): A held mailbox write reaches its bus limit and the word is discarded. -/
  | busLimitExpiry (q : Fin 64)
  /-- PACKET_ABANDON (R482): A packet left without a word for LIMIT_NS is closed with a poison word. -/
  | packetAbandon (q : Fin 64)
  /-- DROP_PACKET (R484): DROP_PACKET discards words up to the first packet end. -/
  | dropPacket (who : Initiator) (q : Fin 64)
  /-- FLUSH (R484): FLUSH discards every word held and clears DROP_PENDING. -/
  | flush (who : Initiator) (q : Fin 64)
  /-- REF10_LOST (R492): REF10 is lost and the TB PLL falls back to the crystal. -/
  | ref10Lost
  /-- REF10_RESTORED (R492): REF10 present for 100 ms and the PLL returns to it. -/
  | ref10Restored
  /-- REFERENCE_LOST (R491): A SerDes or PCIe reference or the 32.768 kHz crystal is lost or returns. -/
  | referenceLost (which : Fin 4) (present : Bool)
  /-- CRYSTAL_LOST (R493): The 25 MHz crystal is lost and Poppy channel A is held in reset. -/
  | crystalLost
  /-- CLOCK_REQUEST (R495): In Bud a request starts a stopped fast clock domain. -/
  | clockRequest (domain : Fin 10)
  /-- CLOCK_HOLD_EXPIRY (R496): The hold after the last request runs out and the domain stops. -/
  | clockHoldExpiry (cores : Bool)
  /-- BLOOM (R498): PWR_CMD BLOOM starts every domain. -/
  | bloom (who : Initiator)
  /-- BUD (R498): PWR_CMD BUD makes domains follow their requests. -/
  | bud (who : Initiator)
  /-- SNOWDROP (R502): PWR_CMD SNOWDROP begins entry to Snowdrop. -/
  | snowdrop (who : Initiator) (wfi : Option Nat)
  /-- ENTRY_REFUSED (R498): Cores not all in WFI within WFI_WAIT and entry is refused. -/
  | entryRefused
  /-- ENTRY_COMPLETE (R502): Snowdrop entry completes and STATE becomes SNOWDROP. -/
  | entryComplete
  /-- ALARM (R503): The output time reaches PWR_WAKE_AT and the alarm wake source registers. -/
  | alarm
  /-- WAKE_PIN (R503): PWR_WAKE_N low for 10 µs registers the wake-pin source. -/
  | wakePin
  /-- POWER_WAKE (R504): A wake source in Snowdrop starts the wake sequence. -/
  | powerWake
  /-- WAKE_COMPLETE (R504): The wake completes and the device returns to its return state. -/
  | wakeComplete
  /-- POWER_ON (R510): All monitored rails rise above their thresholds and device reset is released 100 µs later. -/
  | powerOn
  /-- BROWNOUT (R510): A monitored rail falls below its threshold for 1 µs and causes a device reset. -/
  | brownout
  /-- RESET_PIN (R510): RESET_N low for 1 µs causes a device reset. -/
  | resetPin (low : Nat)
  /-- CLOCK_LOSS_RESET (R493): The 25 MHz crystal absent for 1 ms causes a device reset. -/
  | clockLossReset
  /-- DEVICE (R510): RST_CMD DEVICE with the key causes a device reset. -/
  | device (who : Initiator) (key : Fin 65536)
  /-- PLANE_DATA (R512): RST_CMD DATA resets the data plane. -/
  | planeData (who : Initiator) (key : Fin 65536)
  /-- PLANE_CONTROL (R512): RST_CMD CONTROL resets the control plane. -/
  | planeControl (who : Initiator) (key : Fin 65536)
  /-- PLANE_MGMT (R512): RST_CMD MGMT resets the management plane. -/
  | planeMgmt (who : Initiator) (key : Fin 65536)
  /-- WATCHDOG_EXPIRY (R510): The watchdog expires and resets its target. -/
  | watchdogExpiry
  /-- WDOG_KICK (R530): A write of the kick value restarts the watchdog count. -/
  | wdogKick (who : Initiator) (value : Word)
  /-- SYS_RESET (R531): DBG_CTRL.SYS_RESET causes a device reset. -/
  | sysReset (who : Initiator)
  /-- PCIE_RESET (R510): A PCIe hot reset, link down or FLR resets the endpoint function. -/
  | pcieReset (linkUp : Bool)
  /-- DEVICE_RESET_RELEASE (R523): Device reset is released and the boot ROM runs its stages. -/
  | deviceResetRelease (w : BootWorld)
  /-- WIPE_COMPLETE (R514): The SRAM wipe completes and held accesses proceed. -/
  | wipeComplete
  /-- TRANSITION (R519): SYS_LC_CMD TRANSITION programs the target life-cycle bit and resets the device. -/
  | transition (who : Initiator) (target : Fin 8)
  /-- PROGRAM_HASH (R529): OTP PROGRAM_HASH programs BOOT_KEY_HASH once. -/
  | programHash (who : Initiator)
  /-- RAISE_SVN (R529): OTP RAISE_SVN raises MIN_SVN. -/
  | raiseSvn (who : Initiator)
  /-- CORE_RUN (R529): Setting a SYS_CORE_RUN bit releases a core at CORE_VEC. -/
  | coreRun (who : Initiator) (mask : Fin 256)
  /-- LOAD_DATA (R525): A write of SYS_LOAD_DATA stores the next recovery image word. -/
  | loadData (who : Initiator) (value : Word)
  /-- GO (R525): LOAD_CTRL.GO makes the ROM verify and boot the recovery image. -/
  | go (who : Initiator) (trainFails : Bool)
  /-- HALT_REQ (R531): A write of DBG_CTRL.HALT_REQ halts or resumes cores. -/
  | haltReq (who : Initiator) (mask : Fin 256)
  /-- TAP_INSTRUCTION (R528): A TAP instruction selects boundary-scan or debug operation as the life-cycle state allows. -/
  | tapInstruction (tap : TapInstruction)
  /-- SLEW_COMPLETE (R105): The outstanding correction being slewed falls within TIME_OUT_VALID_LIMIT or reaches zero, clearing CORRECTING and raising TIME_VALID. -/
  | slewComplete
  /-- POPPY_CHANNEL_RELEASE (R295): A Poppy channel whose own supply or clock monitor held it in reset sees the fault end and leaves reset. -/
  | poppyChannelRelease (x : Fin 2)
  /-- CRYSTAL_RESTORED (R493): The 25 MHz crystal returns within 1 ms of its loss and Poppy channel A leaves reset without a device reset. -/
  | crystalRestored
  /-- IO_SUPPLY_RESTORED (R549): VDDIO_3V3 rises back above its bank threshold and the 3.3 V outputs and pull resistors are driven again. -/
  | ioSupplyRestored
  /-- WIRED_INPUT_CLOSED (R312): A wired stop input channel returns to the closed level, updating LOOPS_CLOSED and the release check. -/
  | wiredInputClosed (x : Fin 2) (n : Fin 8)
  /-- MEMBER_UNREACHABLE (R407): No keepalive is heard from any unit of a member within 3 × KEEPALIVE.MS, clearing its REACHABLE bit and, for the lead, LEAD_OK. -/
  | memberUnreachable (member : Fin 16)
  /-- PLL_LOCK_LOST (R509): A PLL loses lock, clearing its CLK_STAT.PLL_LOCK bit and raising the PLL lock lost event. -/
  | pllLockLost (pll : Fin 7) (locked : Bool)
  /-- OTP_PROGRAMMING_DONE (R519): An OTP programming operation completes, BUSY falls, and for a life-cycle transition the device reset follows. -/
  | otpProgrammingDone
  /-- STATEMENT_COMPLETE (R440): An attestation statement's signature completes, the statement is written and ATTEST BUSY falls with its RESULT. -/
  | statementComplete
  /-- INVAL_DONE (R460): A DTU INVAL completes once no covered entry remains and all accesses already translated with one have finished, clearing BUSY. -/
  | invalDone (ctx : Fin 8)
  /-- TRACK_RES_CMD_DONE (R566): A reservation command such as CLEAR completes its journal and shadow writes and CMD_STAT.BUSY falls. -/
  | trackResCmdDone
  /-- WATCHDOG_HALF_TIMEOUT (R532): The watchdog count reaches half its timeout without a kick and raises its RST event. -/
  | watchdogHalfTimeout
  deriving DecidableEq, Repr

end Sys2Proof
end

