-- ==== Sys2Proof/WellFormed.lean ====
section
/-! DEFINITION. Well-formed commands: what the operands' types do not say. An access is aligned and its value fits its size
(02_register_pages.md R33); a measurement names channels that exist; a frame has bytes. -/

namespace Sys2Proof

/-- The bytes of an access. -/
def AccessSize.bytes : AccessSize → Nat
  | .byte => 1
  | .half => 2
  | .word => 4
  | .dword => 8

/-- A 64-bit access names the lower word of an aligned pair (R33). -/
def alignedWord (word : Fin 1024) (size : AccessSize) : Bool := size != .dword || word.val % 2 == 0

/-- The byte within the word is one at which an access of the size may begin. -/
def alignedByte (sub : Fin 4) (size : AccessSize) : Bool :=
  match size with
  | .byte => true
  | .half => sub.val % 2 == 0
  | .word | .dword => sub.val == 0

/-- A value fits an access. -/
def fitsSize (value : DWord) (size : AccessSize) : Bool := decide (value.toNat < 2 ^ (8 * size.bytes))

/-- The observations of the loops name channels 0 to 1023, with a C/N0 of ten bits. -/
def loopObsOk (obs : List LoopObs) : Bool := obs.all fun o => decide (o.ch < 1024) && decide (o.cn0 < 1024)

/-- Measurements name channels 0 to 1023, each once. -/
def measOk (meas : List ChanMeas) : Bool := (meas.all fun m => decide (m.ch < 1024)) && decide ((meas.map fun m => m.ch).Nodup)

/-- The 4-bit I and Q codes of the eight bands over a millisecond (R56). -/
def samplesOk (samples : List (List (Nat × Nat))) : Bool :=
  decide (samples.length = 8) && samples.all fun l => l.all fun x => decide (x.1 < 16) && decide (x.2 < 16)

/-- Navigation data comes in words of 32 bits: at most 16 of an ephemeris and 10 of an almanac. -/
def navObsOk (nav : List NavObs) : Bool :=
  let words (n : Nat) (l : List Nat) : Bool := decide (l.length ≤ n) && l.all fun w => decide (w < 2 ^ 32)
  nav.all fun o =>
    (match o.eph with
     | some e => words 16 e.words && decide (e.fitFrom < 2 ^ 48) && decide (e.fitTo < 2 ^ 48) && decide (e.group.natAbs < 2 ^ 31)
     | none => true) &&
    (match o.alm with
     | some a => words 10 a
     | none => true)


/-- The operands of a command are ones that the block can be given. -/
def Instr.wf (i : Instr) : Bool :=
  match i with
  | .registerWrite _ _ off size value => alignedWord off.1 size && alignedByte off.2 size && fitsSize value size
  | .rcFieldRead _ _ word sub size => alignedWord word size && alignedByte sub size
  | .unmappedAccess _ addr size _ value => addr.toNat % size.bytes == 0 && fitsSize value size
  | .wideValueRead _ _ off size => alignedWord off.1 size && alignedByte off.2 size
  | .wideValueCommit _ _ off size value => alignedWord off.1 size && alignedByte off.2 size && fitsSize value size
  | .lock _ _ => true
  | .softReset _ _ => true
  | .softResetDone _ => true
  | .pgIrqForce _ _ _ => true
  | .pgErrClr _ _ _ => true
  | .summaryLine _ => true
  | .msixUnmask _ _ => true
  | .portFault _ _ _ => true
  | .portFaultClear _ _ => true
  | .agcStep samples => samplesOk samples
  | .sampleClockCheck ppb => ppb.length == 8
  | .loopUpdate obs nav => loopObsOk obs && navObsOk nav
  | .chCfg _ _ => true
  | .gnssStart _ _ _ => true
  | .gnssStop _ _ _ => true
  | .gnssSleep _ => true
  | .gnssWake _ => true
  | .rxEnable _ _ => true
  | .sleepComplete => true
  | .acqDetection cn0 => decide (cn0 < 1024)
  | .acqFail => true
  | .pullinTimeout _ => true
  | .lossOfLock _ => true
  | .reacquired _ => true
  | .reacqTimeout _ => true
  | .measurementLatch meas _ => measOk meas
  | .baseSetComplete => true
  | .baseOrder _ _ => true
  | .domainLoss _ => true
  | .restart _ _ => true
  | .resume _ => true
  | .servoEn _ _ _ => true
  | .sel _ _ => true
  | .step => true
  | .holdWarn => true
  | .holdLimit => true
  | .set _ => true
  | .sync => true
  | .followUp => true
  | .delayReq => true
  | .delayResp => true
  | .announce => true
  | .ptpMasterSend => true
  | .delayReqSend => true
  | .slavePortSwitched => true
  | .pulseEdge _ => true
  | .pulseCtrl _ _ _ _ => true
  | .captureEdge _ _ => true
  | .utcApply => true
  | .observationFrame _ _ => true
  | .rtcmFrame _ _ _ _ _ => true
  | .positionReport _ _ => true
  | .machineMode _ _ _ => true
  | .epochEdge => true
  | .epochChangeApply => true
  | .scriptBank _ _ => true
  | .tileDispatch => true
  | .preemption => true
  | .scriptLoad _ => true
  | .scriptPredict _ => true
  | .scriptDdform _ => true
  | .scriptSlipdet _ => true
  | .scriptUpdate _ => true
  | .scriptCheck _ => true
  | .scriptDecor _ => true
  | .scriptSearch _ => true
  | .scriptValidate _ => true
  | .scriptFixout _ _ => true
  | .scriptStore _ => true
  | .scriptBranch _ => true
  | .scriptNop _ => true
  | .scriptEnd _ => true
  | .tileHold _ _ _ => true
  | .tileEvict _ _ => true
  | .tileFault _ _ _ => true
  | .tileTest _ _ => true
  | .tileTestDone _ _ => true
  | .noneEvt => true
  | .shareWaitExpiry _ => true
  | .shareSet => true
  | .resetFilter _ _ => true
  | .solvImport _ _ => true
  | .solvExport _ _ => true
  | .lookupEn _ _ => true
  | .zoneInsert _ => true
  | .zoneDelete _ => true
  | .zoneModify _ => true
  | .zoneLoad _ => true
  | .zoneRefilter _ => true
  | .zoneClear _ => true
  | .zoneCmdComplete _ => true
  | .writeMachine _ _ => true
  | .writeCell _ _ => true
  | .invalidateMachine _ _ => true
  | .invalidateCell _ _ => true
  | .tableDirectWrite _ addr => decide (0x10000000 ≤ addr) && decide (addr < 0x12000000)
  | .shadowBlockCompare _ => true
  | .shadowPass _ => true
  | .planSubmit _ => true
  | .planCancel _ _ => true
  | .searchStart => true
  | .planCommit => true
  | .shrReq => true
  | .shrReply => true
  | .shrUpdate => true
  | .sharedRetry => true
  | .fixPacket => true
  | .overrunGrace => true
  | .sweep => true
  | .timeJumpCatchUp => true
  | .reserve _ _ => true
  | .release _ _ => true
  | .queryCell _ _ => true
  | .queryMachine _ _ => true
  | .reconcile _ _ => true
  | .planAck _ _ => true
  | .trackClear _ => true
  | .queryResultRead _ => true
  | .deliveryWord => true
  | .chunkAck _ => true
  | .segLate => true
  | .segGiveup => true
  | .axisEnable _ _ => true
  | .axisDisable _ _ => true
  | .moveAbs _ _ => true
  | .moveRel _ _ => true
  | .runTable _ _ => true
  | .axisStop _ _ => true
  | .quickStop _ _ => true
  | .axisResume _ _ => true
  | .axisHome _ _ => true
  | .clearFault _ _ => true
  | .setPos _ _ => true
  | .profileUpdate _ => true
  | .stepUpdate _ => true
  | .encoderEdge _ _ _ => true
  | .limitEvt _ _ _ => true
  | .homeChange _ _ _ => true
  | .stall _ => true
  | .idleCurrent _ => true
  | .ioSupplyLost => true
  | .linkDown _ _ _ => true
  | .linkUp _ => true
  | .sectBank _ _ _ => true
  | .cycleEdge _ => true
  | .beacon _ => true
  | .stopMiniSlot _ => true
  | .tx _ => true
  | .rx _ => true
  | .radioOpen _ => true
  | .poll _ => true
  | .twin _ => true
  | .idle _ => true
  | .radioRepeat _ => true
  | .programEnd _ => true
  | .frameAccept _ _ _ _ bytes => !bytes.isEmpty
  | .ackMissing _ => true
  | .assocReq _ _ _ _ bytes => !bytes.isEmpty
  | .disassoc _ _ _ _ bytes => !bytes.isEmpty
  | .assocTimeout _ => true
  | .watch => true
  | .fwFrame => true
  | .tokenSample => true
  | .tokenPlace _ => true
  | .arm _ _ => true
  | .armLost => true
  | .poppyRole _ _ => true
  | .stopMember _ _ => true
  | .stopSite _ _ => true
  | .clearMachine _ _ _ => true
  | .stopAdopt _ => true
  | .withdrawal => true
  | .stopPresentation => true
  | .relGo _ => true
  | .releaseDone => true
  | .cfgCommit _ => true
  | .testPulse _ => true
  | .wiredInputOpen _ _ => true
  | .wiringFault _ _ _ => true
  | .wiringFaultClear _ => true
  | .readbackFault _ _ => true
  | .busMarker _ _ => true
  | .memberSlot _ => true
  | .slotSample _ _ _ => true
  | .busLost _ => true
  | .heartbeatSend _ => true
  | .heartbeatFrame _ bytes => !bytes.isEmpty
  | .heartbeatMissing _ => true
  | .poppyChannelMonitor _ => true
  | .threadCreate _ _ => true
  | .threadDelete _ _ => true
  | .threadSleep _ _ _ => true
  | .waitIrq _ _ _ => true
  | .threadYield _ _ => true
  | .setLevel _ _ _ => true
  | .threadWake _ _ => true
  | .threadSuspend _ _ => true
  | .threadResume _ _ => true
  | .delayExpiry _ => true
  | .waitTimeout => true
  | .coreAck _ _ _ => true
  | .workItem => true
  | .workSubmit _ => true
  | .pull => true
  | .wrkEn _ _ => true
  | .jobSubmit _ => true
  | .jobAsk _ _ _ => true
  | .cancelAsk _ _ => true
  | .jobWithdraw _ _ => true
  | .matchingPass => true
  | .askTimeout => true
  | .jobExpire => true
  | .frameReceive _ _ bytes => !bytes.isEmpty
  | .frameTransmit _ => true
  | .ringTail _ _ => true
  | .ringResume _ => true
  | .p21Packet => true
  | .atuLookup _ => true
  | .insertStatic _ => true
  | .atuDelete _ => true
  | .flushPort _ _ => true
  | .flushAll _ => true
  | .ageing => true
  | .supervisionFrame => true
  | .tsqPop _ _ => true
  | .wakeMatch _ bytes => !bytes.isEmpty
  | .ethLinkChange _ _ _ _ _ => true
  | .pairEn _ _ => true
  | .startTimeout => true
  | .promotion => true
  | .activeAlone => true
  | .pairSwitch _ => true
  | .pairPromote _ => true
  | .resyncCmd _ => true
  | .switchFail => true
  | .keepaliveSend => true
  | .keepalive => true
  | .pairKeepaliveSend => true
  | .pairKeepalive => true
  | .journal => true
  | .jack => true
  | .jreq => true
  | .confTimeout => true
  | .resync => true
  | .stateReq => true
  | .handoff => true
  | .handoffAck => true
  | .witnessQuery => true
  | .witnessQ => true
  | .witnessA => true
  | .reasmTimeout => true
  | .snapReq => true
  | .snapEnd => true
  | .healthSend => true
  | .health => true
  | .selfTest => true
  | .moveSend _ _ _ => true
  | .move => true
  | .moveAck => true
  | .moveTimeout => true
  | .derive _ _ _ => true
  | .generate _ _ _ => true
  | .importClear _ _ _ => true
  | .importPub _ _ _ => true
  | .wrap _ _ _ => true
  | .unwrap _ _ _ => true
  | .invalidate _ _ => true
  | .gcmEnc _ _ => true
  | .gcmDec _ _ => true
  | .hmac _ _ => true
  | .sha256 _ => true
  | .sha384 _ => true
  | .sign _ _ => true
  | .verify _ _ => true
  | .agree _ _ _ => true
  | .pubkey _ _ => true
  | .random _ => true
  | .reseed _ => true
  | .sealBlob _ _ => true
  | .commitBlob _ _ => true
  | .loadBlob _ _ => true
  | .poppySeal _ _ _ => true
  | .keyCmdDone => true
  | .healthFail => true
  | .tamperDetection _ _ => true
  | .sourceCleared _ _ => true
  | .program _ => true
  | .clearLog _ => true
  | .extend _ _ => true
  | .statement _ _ => true
  | .invalAll _ _ => true
  | .invalPage _ _ => true
  | .dtuResume _ _ _ => true
  | .dtuAbort _ _ _ => true
  | .dmaStart _ _ => true
  | .dmaStop _ _ => true
  | .dmaResume _ _ => true
  | .dmaAbort _ _ => true
  | .dmaBurst _ => true
  | .scrub => true
  | .selfRefreshEntry => true
  | .dataRead _ _ _ _ => true
  | .dataWrite _ _ _ _ _ => true
  | .packetWrite _ _ _ _ _ => true
  | .busLimitExpiry _ => true
  | .packetAbandon _ => true
  | .dropPacket _ _ => true
  | .flush _ _ => true
  | .ref10Lost => true
  | .ref10Restored => true
  | .referenceLost _ _ => true
  | .crystalLost => true
  | .clockRequest _ => true
  | .clockHoldExpiry _ => true
  | .bloom _ => true
  | .bud _ => true
  | .snowdrop _ _ => true
  | .entryRefused => true
  | .entryComplete => true
  | .alarm => true
  | .wakePin => true
  | .powerWake => true
  | .wakeComplete => true
  | .powerOn => true
  | .brownout => true
  | .resetPin _ => true
  | .clockLossReset => true
  | .device _ _ => true
  | .planeData _ _ => true
  | .planeControl _ _ => true
  | .planeMgmt _ _ => true
  | .watchdogExpiry => true
  | .wdogKick _ _ => true
  | .sysReset _ => true
  | .pcieReset _ => true
  | .deviceResetRelease _ => true
  | .wipeComplete => true
  | .transition _ _ => true
  | .programHash _ => true
  | .raiseSvn _ => true
  | .coreRun _ _ => true
  | .loadData _ _ => true
  | .go _ _ => true
  | .haltReq _ _ => true
  | .tapInstruction _ => true
  | .slewComplete => true
  | .poppyChannelRelease _ => true
  | .crystalRestored => true
  | .ioSupplyRestored => true
  | .wiredInputClosed _ _ => true
  | .memberUnreachable _ => true
  | .pllLockLost _ _ => true
  | .otpProgrammingDone => true
  | .statementComplete => true
  | .invalDone _ => true
  | .trackResCmdDone => true
  | .watchdogHalfTimeout => true

end Sys2Proof
end

