-- ==== Sys2Proof/Decode.lean ====
section
/-! DEFINITION. Commands that a word spells. The command table (spec/opcode_table.json) gives no row any bits: a command is an access
or an event with operands, so no word spells one. -/

namespace Sys2Proof

/-- The command that a word of `nbits` bits spells: none, for the table gives no row bits. -/
def decodeTableWord (_nbits _w : Nat) : Option Instr := none

end Sys2Proof
end

