-- ==== Sys2Proof/Config.lean ====
section
/-! DEFINITION. What the spec leaves open: constants without a body. Nothing in Lean can tell what value they have, so a
statement about them holds whatever the hardware does. -/

namespace Sys2Proof

/-- A fresh free value: the `n`-th one the machine draws (UNVERIFIED; log 3). -/
opaque Config.freeNat : Nat → Nat

/-- What a counter register holds after it counts past its last value, where the spec does not say (log 4). The
arguments are the register's key and the count's exact value. -/
opaque Config.counterPast : Nat → Nat → Nat

/-- The servo of a time domain (04_time_base.md R101): the new estimate from the loop bandwidth in mHz, the estimate, its
frequency, its prediction at the update and the measured time (log 9). -/
opaque Config.servoTai : Nat → Int → Int → Int → Int → Int

/-- The servo's new frequency correction, 0.001 ppb, from the same values (log 9). -/
opaque Config.servoFreq : Nat → Int → Int → Int → Int → Int

/-- The slew rates and the bleed rate in ppb before their bounds apply (R103, R105; log 9). -/
opaque Config.slewForward : Nat
opaque Config.slewBackward : Nat
opaque Config.bleed : Nat

/-- What broadcast navigation data and a standard model predict (03_satellite_receiver.md R79 to R81; log 103): from the words of
an ephemeris at an instant (ns of TAI), a satellite's ECEF coordinates (0.1 mm, axis 0 to 2), its velocity (0.1 mm/s) and its
clock (2^-10 m); and the tropospheric delay (2^-10 m) between two positions. -/
opaque Config.satPos : List Nat → Nat → Nat → Int
opaque Config.satVel : List Nat → Nat → Nat → Int
opaque Config.satClock : List Nat → Nat → Int
opaque Config.troposphere : List Int → List Int → Int

/-- The boot ROM's contents (log 7). -/
opaque Config.romByte : Nat → Byte

/-- The numbers that a macro-operation of the fix engine computes, from the operation's code and everything it reads
(05_fix_engine.md R136 to R143; log 10). -/
opaque Config.filterNums : Nat → List Nat → List Nat

/-- The sine of whole degrees as an FP64 word (R137), and the elevation that a record of a shared base set stands for: from its
satellite and epoch (R161; log 10). -/
opaque Config.sine : Int → Nat
opaque Config.sharedElev : Nat → Nat → Int

/-- The axes E, N and U of the site frame (0 to 2) in ECEF coordinates (0 to 2), 2^-40, at the geodetic position of the origin given in
0.1 mm (06_site_map.md R169; log 108). -/
opaque Config.enuAxis : Int × Int × Int → Nat → Nat → Int

/-- The signature of a sound tile on the known-answer script (R166; log 10). -/
opaque Config.tileSignature : Nat

/-- The CASC_MAC of another member, which no register of the unit gives (13_pairs_and_cascades.md R391; log 31). -/
opaque Config.memberMac : Nat → Nat

/-- What PTP messages carry and the spec does not give (R110; log 83): clockIdentity, offsetScaledLogVariance, grandmasterIdentity. -/
opaque Config.clockIdentity : Nat
opaque Config.clockVariance : Nat
opaque Config.grandmaster : Nat

/-- The value K_puf that the part's array and a set of helper data give (R418; log 91). -/
opaque Config.pufKey : Nat → Nat

/-- What the device measures REF10 to be against the 25 MHz crystal in a second (R492; log 93). -/
opaque Config.ref10Ppb : Nat → Nat

end Sys2Proof
end

