-- ==== Sys2Proof/Machine/Assoc.lean ====
section
/-! DEFINITION. Sparse tables as sorted lists in one canonical form: keys strictly rise and no entry holds the value an
unlisted key reads as. Registers, memory and every sparse table of the model are kept this way. -/

namespace Sys2Proof.Machine

/-- The value at key `k`; an unlisted key reads as `d k`. -/
def Assoc.get {α : Type} (d : Nat → α) : List (Nat × α) → Nat → α
  | [], k => d k
  | (k', v) :: t, k => if k' = k then v else Assoc.get d t k

/-- A table without key `k`. -/
def Assoc.del {α : Type} (k : Nat) : List (Nat × α) → List (Nat × α)
  | [] => []
  | (k', v) :: t => if k' = k then Assoc.del k t else (k', v) :: Assoc.del k t

/-- Write `v` at key `k`, keeping the canonical form. -/
def Assoc.put {α : Type} [DecidableEq α] (d : Nat → α) : List (Nat × α) → Nat → α → List (Nat × α)
  | [], k, v => if v = d k then [] else [(k, v)]
  | (k', v') :: t, k, v =>
    if k < k' then (if v = d k then (k', v') :: Assoc.del k t else (k, v) :: (k', v') :: t)
    else if k = k' then (if v = d k then Assoc.del k t else (k, v) :: t)
    else (k', v') :: Assoc.put d t k v

/-- The canonical form: keys above `lo` strictly rising, no entry equal to the unlisted value. -/
def Assoc.wfFrom {α : Type} [DecidableEq α] (d : Nat → α) : Nat → List (Nat × α) → Bool
  | _, [] => true
  | lo, (k, v) :: t => decide (lo ≤ k) && decide (v ≠ d k) && Assoc.wfFrom d (k + 1) t

/-- The canonical form of a whole table. -/
def Assoc.wf {α : Type} [DecidableEq α] (d : Nat → α) (l : List (Nat × α)) : Bool :=
  Assoc.wfFrom d 0 l

/-- Rewrite every listed value, dropping those that come to equal the unlisted value. -/
def Assoc.mapVals {α : Type} [DecidableEq α] (d : Nat → α) (f : Nat → α → α) : List (Nat × α) → List (Nat × α)
  | [] => []
  | (k, v) :: t =>
    if f k v = d k then Assoc.mapVals d f t else (k, f k v) :: Assoc.mapVals d f t

end Sys2Proof.Machine
end

