-- ==== Sys2Proof/Machine/RegDef.lean ====
section
/-! DEFINITION. The form of a register table (02_register_pages.md R37, R41): access types, fields, registers, pages. -/

namespace Sys2Proof.Machine

/-- The access types of R41. -/
inductive Access where
  | rw | ro | wo | w1c | w1s | rc | rwl
  deriving DecidableEq, Repr

/-- One field of a register: bits `hi` down to `lo` of the whole value, its access type and its reset value. -/
structure FieldDef where
  name  : String
  hi    : Nat
  lo    : Nat
  acc   : Access
  reset : Nat
  deriving DecidableEq, Repr

/-- One register (or `count` registers, `stride` bytes apart) of `words` 32-bit words (R46). -/
structure RegDef where
  name   : String
  off    : Nat
  count  : Nat := 1
  stride : Nat := 4
  words  : Nat := 1
  fields : List FieldDef
  deriving DecidableEq, Repr

/-- The registers of the pages `first` to `last` (R36). -/
structure PageDef where
  first : Nat
  last  : Nat
  regs  : List RegDef
  deriving DecidableEq, Repr

/-- A field by the key of its register's first word (page × 0x1000 + offset) and its bits. -/
structure Fld where
  key : Nat
  hi  : Nat
  lo  : Nat
  deriving DecidableEq, Repr

/-- The width of a field in bits. -/
def Fld.width (f : Fld) : Nat := f.hi - f.lo + 1

end Sys2Proof.Machine
end

