-- ==== Sys2Proof/Machine/Fields.lean ====
section
/-! DEFINITION. Names of register fields, after the tables of the spec: the register's name, then the field's; `_REG` is
the whole register. A page of several instances takes the instance number, a repeated register its index. -/

namespace Sys2Proof.Machine

def F.ASTER_BUSY_US_COUNT (n : Nat) : Fld := ⟨0x61054 + 0x1000 * n, 31, 0⟩
def F.ASTER_CTRL_HOLD (n : Nat) : Fld := ⟨0x61040 + 0x1000 * n, 0, 0⟩
def F.ASTER_PREEMPTS_COUNT (n : Nat) : Fld := ⟨0x6105C + 0x1000 * n, 31, 0⟩
def F.ASTER_RUNS_COUNT (n : Nat) : Fld := ⟨0x61050 + 0x1000 * n, 31, 0⟩
def F.ATTEST_CHAIN_ADDR_ADDR : Fld := ⟨0x102050, 63, 0⟩
def F.ATTEST_CHAIN_LEN_BYTES : Fld := ⟨0x10204C, 12, 0⟩
def F.ATTEST_MLOCK_LOCK : Fld := ⟨0x102048, 8, 0⟩
def F.ATTEST_OUT_ADDR_ADDR : Fld := ⟨0x102058, 63, 0⟩
def F.ATTEST_READ_INDEX_INDEX : Fld := ⟨0x1020B0, 3, 0⟩
def F.ATTEST_STATEMENTS_COUNT : Fld := ⟨0x1020F0, 31, 0⟩
def F.AXIS_ACC_STEPS_S2 (n : Nat) : Fld := ⟨0xA1054 + 0x1000 * n, 31, 0⟩
def F.AXIS_BACKOFF_STEPS (n : Nat) : Fld := ⟨0xA108C + 0x1000 * n, 31, 0⟩
def F.AXIS_CTRL_DIR_INV (n : Nat) : Fld := ⟨0xA1040 + 0x1000 * n, 3, 3⟩
def F.AXIS_CTRL_EN (n : Nat) : Fld := ⟨0xA1040 + 0x1000 * n, 0, 0⟩
def F.AXIS_CTRL_ENA_LOW (n : Nat) : Fld := ⟨0xA1040 + 0x1000 * n, 2, 2⟩
def F.AXIS_CTRL_ENC_EN (n : Nat) : Fld := ⟨0xA1040 + 0x1000 * n, 1, 1⟩
def F.AXIS_CTRL_ENC_FAULT (n : Nat) : Fld := ⟨0xA1040 + 0x1000 * n, 10, 10⟩
def F.AXIS_CTRL_ENC_INV (n : Nat) : Fld := ⟨0xA1040 + 0x1000 * n, 4, 4⟩
def F.AXIS_CTRL_HOME_LOW (n : Nat) : Fld := ⟨0xA1040 + 0x1000 * n, 6, 6⟩
def F.AXIS_CTRL_IDLE_EN (n : Nat) : Fld := ⟨0xA1040 + 0x1000 * n, 9, 9⟩
def F.AXIS_CTRL_LIM_LOW (n : Nat) : Fld := ⟨0xA1040 + 0x1000 * n, 5, 5⟩
def F.AXIS_CTRL_SITE_STOP (n : Nat) : Fld := ⟨0xA1040 + 0x1000 * n, 7, 7⟩
def F.AXIS_CTRL_STALL_EN (n : Nat) : Fld := ⟨0xA1040 + 0x1000 * n, 8, 8⟩
def F.AXIS_DEBOUNCE_HOME_US (n : Nat) : Fld := ⟨0xA1078 + 0x1000 * n, 31, 16⟩
def F.AXIS_DEBOUNCE_LIM_US (n : Nat) : Fld := ⟨0xA1078 + 0x1000 * n, 15, 0⟩
def F.AXIS_DEC_STEPS_S2 (n : Nat) : Fld := ⟨0xA1058 + 0x1000 * n, 31, 0⟩
def F.AXIS_ENC_ERR_COUNT (n : Nat) : Fld := ⟨0xA10B0 + 0x1000 * n, 31, 0⟩
def F.AXIS_ENC_RATIO_DEN (n : Nat) : Fld := ⟨0xA1070 + 0x1000 * n, 15, 0⟩
def F.AXIS_ENC_RATIO_NUM (n : Nat) : Fld := ⟨0xA1070 + 0x1000 * n, 31, 16⟩
def F.AXIS_HOME_CFG_DIR (n : Nat) : Fld := ⟨0xA1080 + 0x1000 * n, 0, 0⟩
def F.AXIS_HOME_FAST_STEPS_S (n : Nat) : Fld := ⟨0xA1084 + 0x1000 * n, 20, 0⟩
def F.AXIS_HOME_OFFSET_STEPS (n : Nat) : Fld := ⟨0xA1090 + 0x1000 * n, 31, 0⟩
def F.AXIS_HOME_SLOW_STEPS_S (n : Nat) : Fld := ⟨0xA1088 + 0x1000 * n, 20, 0⟩
def F.AXIS_IDLE_DELAY_MS (n : Nat) : Fld := ⟨0xA107C + 0x1000 * n, 23, 16⟩
def F.AXIS_IDLE_IDLE_PCT (n : Nat) : Fld := ⟨0xA107C + 0x1000 * n, 15, 8⟩
def F.AXIS_IDLE_RUN_PCT (n : Nat) : Fld := ⟨0xA107C + 0x1000 * n, 7, 0⟩
def F.AXIS_IDLE_WAKE_MS (n : Nat) : Fld := ⟨0xA107C + 0x1000 * n, 31, 24⟩
def F.AXIS_STALL_MS (n : Nat) : Fld := ⟨0xA1074 + 0x1000 * n, 31, 24⟩
def F.AXIS_STALL_WINDOW (n : Nat) : Fld := ⟨0xA1074 + 0x1000 * n, 23, 0⟩
def F.AXIS_STEP_CFG_DIR_NS (n : Nat) : Fld := ⟨0xA10AC + 0x1000 * n, 31, 16⟩
def F.AXIS_STEP_CFG_PULSE_NS (n : Nat) : Fld := ⟨0xA10AC + 0x1000 * n, 15, 0⟩
def F.AXIS_STOP_DEC_STEPS_S2 (n : Nat) : Fld := ⟨0xA105C + 0x1000 * n, 31, 0⟩
def F.AXIS_TABLE_AT_MS (n : Nat) : Fld := ⟨0xA10A4 + 0x1000 * n, 31, 0⟩
def F.AXIS_TABLE_BASE_ADDR (n : Nat) : Fld := ⟨0xA1098 + 0x1000 * n, 63, 4⟩
def F.AXIS_TABLE_COUNT_COUNT (n : Nat) : Fld := ⟨0xA10A0 + 0x1000 * n, 15, 0⟩
def F.AXIS_TARGET_STEPS (n : Nat) : Fld := ⟨0xA104C + 0x1000 * n, 31, 0⟩
def F.AXIS_VMAX_STEPS_S (n : Nat) : Fld := ⟨0xA1050 + 0x1000 * n, 20, 0⟩
def F.CASC_CTRL_EN : Fld := ⟨0xF1040, 0, 0⟩
def F.CASC_CTRL_LEAD : Fld := ⟨0xF1040, 23, 20⟩
def F.CASC_CTRL_MEMBER : Fld := ⟨0xF1040, 19, 16⟩
def F.CASC_CTRL_PTP_AUTO : Fld := ⟨0xF1040, 1, 1⟩
def F.CASC_GAPS_COUNT : Fld := ⟨0xF106C, 31, 0⟩
def F.CASC_KEEPALIVE_MS : Fld := ⟨0xF1058, 7, 0⟩
def F.CASC_MAC_ADDR : Fld := ⟨0xF1050, 47, 0⟩
def F.CASC_MOVE_STAT_BUSY : Fld := ⟨0xF1068, 31, 31⟩
def F.CASC_MOVE_STAT_RESULT : Fld := ⟨0xF1068, 3, 0⟩
def F.CASC_NET_KEY_SLOT : Fld := ⟨0xF104C, 9, 0⟩
def F.CASC_NET_VID : Fld := ⟨0xF104C, 27, 16⟩
def F.CASC_REASM_FAIL_COUNT : Fld := ⟨0xF1078, 31, 0⟩
def F.CASC_RX_COUNT : Fld := ⟨0xF1084, 31, 0⟩
def F.CASC_RX_DISCARD_COUNT : Fld := ⟨0xF107C, 31, 0⟩
def F.CASC_STALE_COUNT : Fld := ⟨0xF1074, 31, 0⟩
def F.CASC_STAT_LEAD_OK : Fld := ⟨0xF1048, 1, 1⟩
def F.CASC_STAT_REACHABLE : Fld := ⟨0xF1048, 31, 16⟩
def F.CASC_STAT_SNAP_PENDING : Fld := ⟨0xF1048, 2, 2⟩
def F.CASC_TAG_FAIL_COUNT : Fld := ⟨0xF1070, 31, 0⟩
def F.CASC_TX_COUNT : Fld := ⟨0xF1080, 31, 0⟩
def F.CASC_UPD_SEQ_SEQ : Fld := ⟨0xF1060, 31, 0⟩
def F.CASC_UPLINK_PORT : Fld := ⟨0xF105C, 4, 0⟩
def F.CLK_HOLD_CORE_US : Fld := ⟨0x1048, 15, 0⟩
def F.CLK_HOLD_TILE_US : Fld := ⟨0x1048, 31, 16⟩
def F.CLK_REF10_PPB_PPB : Fld := ⟨0x104C, 31, 0⟩
def F.CLK_REF_LOST_COUNT : Fld := ⟨0x1054, 31, 0⟩
def F.CLK_STARTS_COUNT : Fld := ⟨0x1050, 31, 0⟩
def F.CLK_STAT_PCIEREF_OK : Fld := ⟨0x1040, 12, 12⟩
def F.CLK_STAT_PLL_LOCK : Fld := ⟨0x1040, 6, 0⟩
def F.CLK_STAT_REF10_OK : Fld := ⟨0x1040, 9, 9⟩
def F.CLK_STAT_REF_FALLBACK : Fld := ⟨0x1040, 13, 13⟩
def F.CORR_ARP_H_HEIGHT : Fld := ⟨0x7104C, 15, 0⟩
def F.CORR_ARP_H_SETUP_ID : Fld := ⟨0x7104C, 23, 16⟩
def F.CORR_CTRL_MBOX_EN : Fld := ⟨0x71040, 9, 9⟩
def F.CORR_CTRL_MSM7 : Fld := ⟨0x71040, 16, 16⟩
def F.CORR_CTRL_RADIO_EN : Fld := ⟨0x71040, 8, 8⟩
def F.CORR_CTRL_SYS_EN : Fld := ⟨0x71040, 3, 0⟩
def F.CORR_PERIOD_BIAS_EP : Fld := ⟨0x71048, 15, 8⟩
def F.CORR_PERIOD_DESC_EP : Fld := ⟨0x71048, 23, 16⟩
def F.CORR_PERIOD_MSM_EP : Fld := ⟨0x71048, 7, 0⟩
def F.CORR_PERIOD_STA_EP : Fld := ⟨0x71048, 31, 24⟩
def F.CORR_QUEUE_QUEUE : Fld := ⟨0x71050, 5, 0⟩
def F.CORR_SENT_COUNT : Fld := ⟨0x7105C, 31, 0⟩
def F.CORR_SKIP_COUNT : Fld := ⟨0x71058, 31, 0⟩
def F.CORR_STAID_ARP_H : Fld := ⟨0x71044, 16, 16⟩
def F.CORR_STAID_STAID : Fld := ⟨0x71044, 11, 0⟩
def F.CORR_STAT_BYTES : Fld := ⟨0x71054, 31, 16⟩
def F.CORR_STAT_MSGS : Fld := ⟨0x71054, 15, 8⟩
def F.CORR_STAT_SKIPPED : Fld := ⟨0x71054, 0, 0⟩
def F.DBG_CTRL_HALT_REQ : Fld := ⟨0x110040, 7, 0⟩
def F.DMA_COMPLETED_COUNT (n k : Nat) : Fld := ⟨0x10060 + 0x1000 * n + 0x40 * k, 31, 0⟩
def F.DMA_CTRL_CTX (n k : Nat) : Fld := ⟨0x10040 + 0x1000 * n + 0x40 * k, 27, 24⟩
def F.DMA_CTRL_EN (n k : Nat) : Fld := ⟨0x10040 + 0x1000 * n + 0x40 * k, 31, 31⟩
def F.DMA_CTRL_NOTIFY_EN (n k : Nat) : Fld := ⟨0x10040 + 0x1000 * n + 0x40 * k, 6, 6⟩
def F.DMA_CTRL_NOTIFY_QUEUE (n k : Nat) : Fld := ⟨0x10040 + 0x1000 * n + 0x40 * k, 5, 0⟩
def F.DMA_CTRL_PRIO (n k : Nat) : Fld := ⟨0x10040 + 0x1000 * n + 0x40 * k, 30, 28⟩
def F.DMA_DESC_ADDR_ADDR (n k : Nat) : Fld := ⟨0x10048 + 0x1000 * n + 0x40 * k, 63, 5⟩
def F.DMA_NOTIFY_LOST_COUNT (n k : Nat) : Fld := ⟨0x10068 + 0x1000 * n + 0x40 * k, 31, 0⟩
def F.DMA_PREEMPTED_COUNT (n k : Nat) : Fld := ⟨0x10064 + 0x1000 * n + 0x40 * k, 31, 0⟩
def F.DTU_CLIENT_CTX_CTX : Fld := ⟨0x8104, 3, 0⟩
def F.DTU_CTRL_MODE (n : Nat) : Fld := ⟨0x8040 + 0x1000 * n, 3, 0⟩
def F.DTU_ECC_CE_COUNT : Fld := ⟨0x8124, 31, 0⟩
def F.DTU_ECC_CTRL_SCRUB_EN : Fld := ⟨0x8120, 0, 0⟩
def F.DTU_ECC_CTRL_SCRUB_WORDS : Fld := ⟨0x8120, 15, 1⟩
def F.DTU_ECC_UE_COUNT : Fld := ⟨0x8128, 31, 0⟩
def F.DTU_FAULTS_COUNT (n : Nat) : Fld := ⟨0x8064 + 0x1000 * n, 31, 0⟩
def F.DTU_FAULT_OVF_COUNT : Fld := ⟨0x810C, 31, 0⟩
def F.DTU_HITS_COUNT (n : Nat) : Fld := ⟨0x805C + 0x1000 * n, 31, 0⟩
def F.DTU_INVAL_VA_VA (n : Nat) : Fld := ⟨0x8050 + 0x1000 * n, 63, 12⟩
def F.DTU_LPDDR_CFG_IECC : Fld := ⟨0x8138, 1, 1⟩
def F.DTU_LPDDR_CFG_SIZE : Fld := ⟨0x8138, 5, 4⟩
def F.DTU_LPDDR_STAT_READY : Fld := ⟨0x813C, 0, 0⟩
def F.DTU_LPDDR_STAT_SELF_REFRESH : Fld := ⟨0x813C, 1, 1⟩
def F.DTU_MISSES_COUNT (n : Nat) : Fld := ⟨0x8060 + 0x1000 * n, 31, 0⟩
def F.DTU_ROOT_PPN (n : Nat) : Fld := ⟨0x8048 + 0x1000 * n, 63, 12⟩
def F.EMAC_CTRL_ACCEPT (n : Nat) : Fld := ⟨0xD1040 + 0x1000 * n, 9, 8⟩
def F.EMAC_CTRL_AN_EN (n : Nat) : Fld := ⟨0xD1040 + 0x1000 * n, 11, 11⟩
def F.EMAC_CTRL_INGRESS_FILTER (n : Nat) : Fld := ⟨0xD1040 + 0x1000 * n, 7, 7⟩
def F.EMAC_CTRL_LEARN_EN (n : Nat) : Fld := ⟨0xD1040 + 0x1000 * n, 6, 6⟩
def F.EMAC_CTRL_LL_TRAP (n : Nat) : Fld := ⟨0xD1040 + 0x1000 * n, 3, 3⟩
def F.EMAC_CTRL_MODE (n : Nat) : Fld := ⟨0xD1040 + 0x1000 * n, 14, 12⟩
def F.EMAC_CTRL_RX_EN (n : Nat) : Fld := ⟨0xD1040 + 0x1000 * n, 5, 5⟩
def F.EMAC_CTRL_TS_ALL (n : Nat) : Fld := ⟨0xD1040 + 0x1000 * n, 2, 2⟩
def F.EMAC_CTRL_TX_EN (n : Nat) : Fld := ⟨0xD1040 + 0x1000 * n, 4, 4⟩
def F.EMAC_GIANT_COUNT (n : Nat) : Fld := ⟨0xD108C + 0x1000 * n, 31, 0⟩
def F.EMAC_MAC_ADDR (n : Nat) : Fld := ⟨0xD1058 + 0x1000 * n, 47, 0⟩
def F.EMAC_MAX_LEN_BYTES (n : Nat) : Fld := ⟨0xD1048 + 0x1000 * n, 13, 0⟩
def F.EMAC_PAUSE_DISC_COUNT (n : Nat) : Fld := ⟨0xD1094 + 0x1000 * n, 31, 0⟩
def F.EMAC_PCP_MAP_MAP (n : Nat) : Fld := ⟨0xD1050 + 0x1000 * n, 23, 0⟩
def F.EMAC_PVID_DEFAULT_PCP (n : Nat) : Fld := ⟨0xD104C + 0x1000 * n, 15, 13⟩
def F.EMAC_PVID_PVID (n : Nat) : Fld := ⟨0xD104C + 0x1000 * n, 11, 0⟩
def F.EMAC_RUNT_COUNT (n : Nat) : Fld := ⟨0xD1088 + 0x1000 * n, 31, 0⟩
def F.EMAC_RX_BYTES_COUNT (n : Nat) : Fld := ⟨0xD10A8 + 0x1000 * n, 63, 0⟩
def F.EMAC_RX_DISCARD_COUNT (n : Nat) : Fld := ⟨0xD1090 + 0x1000 * n, 31, 0⟩
def F.EMAC_RX_FCS_COUNT (n : Nat) : Fld := ⟨0xD1084 + 0x1000 * n, 31, 0⟩
def F.EMAC_RX_OK_COUNT (n : Nat) : Fld := ⟨0xD1080 + 0x1000 * n, 31, 0⟩
def F.EMAC_STAT_AN_DONE (n : Nat) : Fld := ⟨0xD1044 + 0x1000 * n, 3, 3⟩
def F.EMAC_STAT_LINK (n : Nat) : Fld := ⟨0xD1044 + 0x1000 * n, 2, 2⟩
def F.EMAC_STAT_LOCK (n : Nat) : Fld := ⟨0xD1044 + 0x1000 * n, 1, 1⟩
def F.EMAC_STAT_SIGNAL (n : Nat) : Fld := ⟨0xD1044 + 0x1000 * n, 0, 0⟩
def F.EMAC_STAT_SPEED (n : Nat) : Fld := ⟨0xD1044 + 0x1000 * n, 5, 4⟩
def F.EMAC_TS_LAT_RX_NS (n : Nat) : Fld := ⟨0xD1054 + 0x1000 * n, 31, 16⟩
def F.EMAC_TS_LAT_TX_NS (n : Nat) : Fld := ⟨0xD1054 + 0x1000 * n, 15, 0⟩
def F.EMAC_TS_MISSING_COUNT (n : Nat) : Fld := ⟨0xD1074 + 0x1000 * n, 31, 0⟩
def F.EMAC_TX_BYTES_COUNT (n : Nat) : Fld := ⟨0xD10B0 + 0x1000 * n, 63, 0⟩
def F.EMAC_TX_DROP_COUNT (n : Nat) : Fld := ⟨0xD109C + 0x1000 * n, 31, 0⟩
def F.EMAC_TX_LATE_COUNT (n : Nat) : Fld := ⟨0xD10A0 + 0x1000 * n, 31, 0⟩
def F.EMAC_TX_LATE_DROP_COUNT (n : Nat) : Fld := ⟨0xD10A4 + 0x1000 * n, 31, 0⟩
def F.EMAC_TX_OK_COUNT (n : Nat) : Fld := ⟨0xD1098 + 0x1000 * n, 31, 0⟩
def F.GNSS_CH_ACQ_DOP_WIN : Fld := ⟨0x54054, 15, 0⟩
def F.GNSS_CH_ACQ_FAIL_COUNT : Fld := ⟨0x54070, 31, 0⟩
def F.GNSS_CH_ACQ_NONCOH : Fld := ⟨0x54054, 31, 24⟩
def F.GNSS_CH_INDEX_INDEX : Fld := ⟨0x54040, 9, 0⟩
def F.GNSS_CH_REACQ_WINDOW_MS : Fld := ⟨0x5405C, 15, 0⟩
def F.GNSS_CH_THR_ACQ_CN0 : Fld := ⟨0x54058, 9, 0⟩
def F.GNSS_CH_THR_LOSS_CN0 : Fld := ⟨0x54058, 25, 16⟩
def F.GNSS_FE_AGC_L1_TARGET (n : Nat) : Fld := ⟨0x50058 + 0x1000 * n, 7, 0⟩
def F.GNSS_FE_AGC_L5_TARGET (n : Nat) : Fld := ⟨0x50058 + 0x1000 * n, 15, 8⟩
def F.GNSS_FE_AGC_STAT_L1_DUTY (n : Nat) : Fld := ⟨0x5005C + 0x1000 * n, 9, 0⟩
def F.GNSS_FE_AGC_STAT_L5_DUTY (n : Nat) : Fld := ⟨0x5005C + 0x1000 * n, 25, 16⟩
def F.GNSS_FE_CLK_PPB_L1_PPB (n : Nat) : Fld := ⟨0x50064 + 0x1000 * n, 15, 0⟩
def F.GNSS_FE_CLK_PPB_L5_PPB (n : Nat) : Fld := ⟨0x50064 + 0x1000 * n, 31, 16⟩
def F.GNSS_FE_CTRL_ANT_SUPPLY_CHK (n : Nat) : Fld := ⟨0x50040 + 0x1000 * n, 7, 7⟩
def F.GNSS_FE_CTRL_L1_EN (n : Nat) : Fld := ⟨0x50040 + 0x1000 * n, 0, 0⟩
def F.GNSS_FE_CTRL_L1_IQSWAP (n : Nat) : Fld := ⟨0x50040 + 0x1000 * n, 1, 1⟩
def F.GNSS_FE_CTRL_L1_QINV (n : Nat) : Fld := ⟨0x50040 + 0x1000 * n, 2, 2⟩
def F.GNSS_FE_CTRL_L5_EN (n : Nat) : Fld := ⟨0x50040 + 0x1000 * n, 3, 3⟩
def F.GNSS_FE_CTRL_L5_IQSWAP (n : Nat) : Fld := ⟨0x50040 + 0x1000 * n, 4, 4⟩
def F.GNSS_FE_CTRL_L5_QINV (n : Nat) : Fld := ⟨0x50040 + 0x1000 * n, 5, 5⟩
def F.GNSS_FE_CTRL_SIGNMAG (n : Nat) : Fld := ⟨0x50040 + 0x1000 * n, 6, 6⟩
def F.GNSS_FE_L1_DELAY_DELAY_PS (n : Nat) : Fld := ⟨0x50050 + 0x1000 * n, 31, 0⟩
def F.GNSS_FE_L1_IF_IF_HZ (n : Nat) : Fld := ⟨0x50048 + 0x1000 * n, 31, 0⟩
def F.GNSS_FE_L5_DELAY_DELAY_PS (n : Nat) : Fld := ⟨0x50054 + 0x1000 * n, 31, 0⟩
def F.GNSS_FE_L5_IF_IF_HZ (n : Nat) : Fld := ⟨0x5004C + 0x1000 * n, 31, 0⟩
def F.GNSS_FE_LEVEL_L1_FS (n : Nat) : Fld := ⟨0x50060 + 0x1000 * n, 15, 8⟩
def F.GNSS_FE_LEVEL_L1_OCC (n : Nat) : Fld := ⟨0x50060 + 0x1000 * n, 7, 0⟩
def F.GNSS_FE_LEVEL_L5_FS (n : Nat) : Fld := ⟨0x50060 + 0x1000 * n, 31, 24⟩
def F.GNSS_FE_LEVEL_L5_OCC (n : Nat) : Fld := ⟨0x50060 + 0x1000 * n, 23, 16⟩
def F.GNSS_FE_POS_X_X (n : Nat) : Fld := ⟨0x50068 + 0x1000 * n, 63, 0⟩
def F.GNSS_FE_POS_Y_Y (n : Nat) : Fld := ⟨0x50070 + 0x1000 * n, 63, 0⟩
def F.GNSS_FE_POS_Z_Z (n : Nat) : Fld := ⟨0x50078 + 0x1000 * n, 63, 0⟩
def F.GNSS_FE_STAT_L1_CAUSE (n : Nat) : Fld := ⟨0x50044 + 0x1000 * n, 7, 4⟩
def F.GNSS_FE_STAT_L1_CLK_OK (n : Nat) : Fld := ⟨0x50044 + 0x1000 * n, 0, 0⟩
def F.GNSS_FE_STAT_L1_FAULT (n : Nat) : Fld := ⟨0x50044 + 0x1000 * n, 2, 2⟩
def F.GNSS_FE_STAT_L5_CAUSE (n : Nat) : Fld := ⟨0x50044 + 0x1000 * n, 11, 8⟩
def F.GNSS_FE_STAT_L5_CLK_OK (n : Nat) : Fld := ⟨0x50044 + 0x1000 * n, 1, 1⟩
def F.GNSS_FE_STAT_L5_FAULT (n : Nat) : Fld := ⟨0x50044 + 0x1000 * n, 3, 3⟩
def F.GNSS_GUARD_CLK_THR_DOP : Fld := ⟨0x5604C, 31, 16⟩
def F.GNSS_GUARD_CLK_THR_RNG_M : Fld := ⟨0x5604C, 15, 0⟩
def F.GNSS_GUARD_CNT_COUNT (k : Nat) : Fld := ⟨0x56080 + 0x4 * k, 31, 0⟩
def F.GNSS_GUARD_CTRL_CLK_EN : Fld := ⟨0x56040, 2, 2⟩
def F.GNSS_GUARD_CTRL_DOA_EN : Fld := ⟨0x56040, 1, 1⟩
def F.GNSS_GUARD_CTRL_IB_EN : Fld := ⟨0x56040, 0, 0⟩
def F.GNSS_GUARD_CTRL_LIST_EN : Fld := ⟨0x56040, 3, 3⟩
def F.GNSS_GUARD_DOA_THR_SPOOF_FRAC : Fld := ⟨0x56048, 15, 8⟩
def F.GNSS_GUARD_DOA_THR_THR : Fld := ⟨0x56048, 7, 0⟩
def F.GNSS_GUARD_EXCL_OVF_COUNT : Fld := ⟨0x56064, 31, 0⟩
def F.GNSS_GUARD_IB_THR_IB_MM : Fld := ⟨0x56044, 15, 0⟩
def F.GNSS_GUARD_IB_THR_IONO_NEG_MM : Fld := ⟨0x56044, 31, 16⟩
def F.GNSS_GUARD_JUMP_THR_NS : Fld := ⟨0x56050, 31, 0⟩
def F.GNSS_GUARD_MASK_CN0 : Fld := ⟨0x56054, 17, 8⟩
def F.GNSS_GUARD_MASK_ELEV : Fld := ⟨0x56054, 7, 0⟩
def F.GNSS_GUARD_MIN_SAT_COUNT : Fld := ⟨0x5605C, 7, 0⟩
def F.GNSS_GUARD_READMIT_LATCHES : Fld := ⟨0x56058, 15, 0⟩
def F.GNSS_GUARD_STAT_DOA_ACTIVE : Fld := ⟨0x56068, 2, 2⟩
def F.GNSS_GUARD_STAT_EXCLUDED : Fld := ⟨0x56068, 15, 8⟩
def F.GNSS_GUARD_STAT_SPOOF_SUSPECT : Fld := ⟨0x56068, 0, 0⟩
def F.GNSS_GUARD_STAT_TIME_JUMP : Fld := ⟨0x56068, 1, 1⟩
def F.GNSS_MEAS_BASE_BASE_ANT : Fld := ⟨0x55064, 1, 0⟩
def F.GNSS_MEAS_BASE_DONE_US : Fld := ⟨0x55064, 31, 16⟩
def F.GNSS_MEAS_BASE_NSAT : Fld := ⟨0x55064, 15, 8⟩
def F.GNSS_MEAS_BASE_ORDER_ORDER : Fld := ⟨0x55068, 7, 0⟩
def F.GNSS_MEAS_BASE_SWITCHED : Fld := ⟨0x55064, 6, 6⟩
def F.GNSS_MEAS_BASE_VALID : Fld := ⟨0x55064, 7, 7⟩
def F.GNSS_MEAS_CTRL_PERIOD : Fld := ⟨0x55040, 7, 0⟩
def F.GNSS_MEAS_CTRL_RING_EN : Fld := ⟨0x55040, 8, 8⟩
def F.GNSS_MEAS_DROP_COUNT : Fld := ⟨0x5505C, 31, 0⟩
def F.GNSS_MEAS_NOTIFY_EN : Fld := ⟨0x55060, 31, 31⟩
def F.GNSS_MEAS_NOTIFY_LOST_COUNT : Fld := ⟨0x55070, 31, 0⟩
def F.GNSS_MEAS_NOTIFY_QUEUE : Fld := ⟨0x55060, 5, 0⟩
def F.GNSS_MEAS_RING_BASE_BASE : Fld := ⟨0x55044, 63, 5⟩
def F.GNSS_MEAS_RING_SIZE_SIZE : Fld := ⟨0x5504C, 20, 0⟩
def F.GNSS_MEAS_RPTR_INDEX : Fld := ⟨0x55054, 19, 0⟩
def F.GNSS_MEAS_SEQ_SET_SEQ : Fld := ⟨0x55058, 31, 0⟩
def F.GNSS_MEAS_STAT_PERIOD_FORCED : Fld := ⟨0x5506C, 0, 0⟩
def F.GNSS_MEAS_STAT_RING_FULL : Fld := ⟨0x5506C, 1, 1⟩
def F.GNSS_MEAS_WPTR_INDEX : Fld := ⟨0x55050, 19, 0⟩
def F.GNSS_RX_STATE_NSAT_TIME : Fld := ⟨0x54068, 31, 24⟩
def F.GNSS_RX_STATE_RETAINED_OK : Fld := ⟨0x54068, 10, 10⟩
def F.GNSS_RX_STATE_RX_STATE : Fld := ⟨0x54068, 2, 0⟩
def F.GNSS_RX_STATE_START_TYPE : Fld := ⟨0x54068, 9, 8⟩
def F.GNSS_RX_STATE_TIME_SOLN_OK : Fld := ⟨0x54068, 11, 11⟩
def F.GNSS_RX_TTFF_TTFF_MS : Fld := ⟨0x5406C, 19, 0⟩
def F.KEY_AAD_LEN_BYTES : Fld := ⟨0x100064, 15, 0⟩
def F.KEY_ATTR_LC : Fld := ⟨0x10004C, 27, 25⟩
def F.KEY_ATTR_TYPE : Fld := ⟨0x10004C, 31, 28⟩
def F.KEY_ATTR_USAGE : Fld := ⟨0x10004C, 12, 0⟩
def F.KEY_BLOB_BASE_ADDR : Fld := ⟨0x100084, 31, 18⟩
def F.KEY_DST_ADDR : Fld := ⟨0x100058, 63, 0⟩
def F.KEY_HEALTH_FAIL_COUNT : Fld := ⟨0x10008C, 31, 0⟩
def F.KEY_LEN_BYTES : Fld := ⟨0x100060, 23, 0⟩
def F.KEY_OPS_COUNT : Fld := ⟨0x100090, 31, 0⟩
def F.KEY_SLOT_INDEX_SLOT : Fld := ⟨0x100078, 9, 0⟩
def F.KEY_SRC_ADDR : Fld := ⟨0x100050, 63, 0⟩
def F.MBOX_CFG_DEPTH (n k : Nat) : Fld := ⟨0x30040 + 0x1000 * n + 0x20 * k, 25, 16⟩
def F.MBOX_CFG_EN (n k : Nat) : Fld := ⟨0x30040 + 0x1000 * n + 0x20 * k, 31, 31⟩
def F.MBOX_CFG_LIMIT_NS (n k : Nat) : Fld := ⟨0x30040 + 0x1000 * n + 0x20 * k, 15, 0⟩
def F.MBOX_CFG_PROT (n k : Nat) : Fld := ⟨0x30040 + 0x1000 * n + 0x20 * k, 30, 30⟩
def F.MBOX_DROPPED_COUNT (n k : Nat) : Fld := ⟨0x3005C + 0x1000 * n + 0x20 * k, 31, 0⟩
def F.MBOX_PEAK_LEVEL (n k : Nat) : Fld := ⟨0x30058 + 0x1000 * n + 0x20 * k, 10, 0⟩
def F.MBOX_POISON_COUNT (n k : Nat) : Fld := ⟨0x30050 + 0x1000 * n + 0x20 * k, 31, 0⟩
def F.MBOX_PTR_RESETS_COUNT (n k : Nat) : Fld := ⟨0x30054 + 0x1000 * n + 0x20 * k, 31, 0⟩
def F.MBOX_WR_FAIL_COUNT (n k : Nat) : Fld := ⟨0x3004C + 0x1000 * n + 0x20 * k, 31, 0⟩
def F.PAIR_CONF_TIMEOUTS_COUNT : Fld := ⟨0xF009C, 31, 0⟩
def F.PAIR_CONF_US : Fld := ⟨0xF0060, 15, 0⟩
def F.PAIR_CTRL_EN : Fld := ⟨0xF0040, 0, 0⟩
def F.PAIR_CTRL_LINK_PORT : Fld := ⟨0xF0040, 5, 4⟩
def F.PAIR_CTRL_PROMOTE_SF : Fld := ⟨0xF0040, 23, 16⟩
def F.PAIR_CTRL_PRP_SPLIT : Fld := ⟨0xF0040, 13, 13⟩
def F.PAIR_CTRL_WITNESS : Fld := ⟨0xF0040, 7, 6⟩
def F.PAIR_CTRL_WITNESS_MEMBER : Fld := ⟨0xF0040, 11, 8⟩
def F.PAIR_DISCARDED_COUNT : Fld := ⟨0xF00A4, 31, 0⟩
def F.PAIR_DUAL_COUNT : Fld := ⟨0xF00A0, 31, 0⟩
def F.PAIR_HEALTH_CFG_PERIOD_MS : Fld := ⟨0xF0068, 15, 0⟩
def F.PAIR_HEALTH_CFG_TEST_S : Fld := ⟨0xF0068, 31, 16⟩
def F.PAIR_JBUF_BASE_ADDR : Fld := ⟨0xF0054, 63, 20⟩
def F.PAIR_JBUF_SIZE_MIB : Fld := ⟨0xF005C, 7, 0⟩
def F.PAIR_JSEQ_JSEQ : Fld := ⟨0xF004C, 31, 0⟩
def F.PAIR_PRP_NEXT_SEQ : Fld := ⟨0xF00A8, 15, 0⟩
def F.PAIR_QUERY_Q_QUEUE : Fld := ⟨0xF0064, 5, 0⟩
def F.PAIR_RESENDS_COUNT : Fld := ⟨0xF0094, 31, 0⟩
def F.PAIR_RESYNCS_COUNT : Fld := ⟨0xF0098, 31, 0⟩
def F.PAIR_STAT_NOEVID : Fld := ⟨0xF0044, 31, 24⟩
def F.PAIR_STAT_ROLE : Fld := ⟨0xF0044, 10, 8⟩
def F.PAIR_STAT_WITNESS_ALIVE : Fld := ⟨0xF0044, 4, 4⟩
def F.PAIR_TAKEOVERS_COUNT : Fld := ⟨0xF0090, 31, 0⟩
def F.PG_CTRL_CLK_REQ (p : Nat) : Fld := ⟨p * 0x1000 + 0x8, 2, 2⟩
def F.PG_CTRL_ENABLE (p : Nat) : Fld := ⟨p * 0x1000 + 0x8, 0, 0⟩
def F.PG_CTRL_LOCK (p : Nat) : Fld := ⟨p * 0x1000 + 0x8, 31, 31⟩
def F.PG_CTRL_RET_REQ (p : Nat) : Fld := ⟨p * 0x1000 + 0x8, 3, 3⟩
def F.PG_ERR_INFO_CODE (p : Nat) : Fld := ⟨p * 0x1000 + 0x20, 31, 24⟩
def F.PG_ERR_INFO_COUNT (p : Nat) : Fld := ⟨p * 0x1000 + 0x20, 15, 8⟩
def F.PG_ERR_INFO_VALID (p : Nat) : Fld := ⟨p * 0x1000 + 0x20, 0, 0⟩
def F.PG_IRQ_EN_EN (p : Nat) : Fld := ⟨p * 0x1000 + 0x14, 31, 0⟩
def F.PG_IRQ_RAW_WORD (p : Nat) : Fld := ⟨p * 0x1000 + 0x10, 31, 0⟩
def F.PG_STAT_FAULT (p : Nat) : Fld := ⟨p * 0x1000 + 0xC, 3, 3⟩
def F.PG_STAT_WIPED (p : Nat) : Fld := ⟨p * 0x1000 + 0xC, 4, 4⟩
def F.POPPY_BUS_MISS_COUNT : Fld := ⟨0xC0094, 31, 0⟩
def F.POPPY_DISAGREE_COUNT : Fld := ⟨0xC005C, 31, 0⟩
def F.POPPY_REL_CMD_REG : Fld := ⟨0xC00A0, 31, 0⟩
def F.POPPY_REL_SERIAL_SERIAL : Fld := ⟨0xC00A8, 31, 0⟩
def F.POPPY_REL_SFN_SFN : Fld := ⟨0xC00A4, 31, 0⟩
def F.POPPY_REL_TAG_TAG : Fld := ⟨0xC00AC, 63, 0⟩
def F.PWR_ENTRY_US_US : Fld := ⟨0x2058, 31, 0⟩
def F.PWR_LPDDR_IDLE_US : Fld := ⟨0x2060, 31, 16⟩
def F.PWR_LPDDR_SR_EN : Fld := ⟨0x2060, 0, 0⟩
def F.PWR_SNOWDROPS_COUNT : Fld := ⟨0x2064, 31, 0⟩
def F.PWR_WAKE_AT_SECOND : Fld := ⟨0x2050, 47, 0⟩
def F.PWR_WAKE_EN_EN : Fld := ⟨0x2048, 3, 0⟩
def F.PWR_WAKE_STAT_FIRST : Fld := ⟨0x204C, 17, 16⟩
def F.PWR_WAKE_STAT_SOURCES : Fld := ⟨0x204C, 3, 0⟩
def F.PWR_WAKE_STAT_VALID : Fld := ⟨0x204C, 31, 31⟩
def F.PWR_WAKE_US_US : Fld := ⟨0x205C, 31, 0⟩
def F.PWR_WFI_WAIT_US : Fld := ⟨0x2068, 15, 0⟩
def F.RADIO_ASSOCS_COUNT : Fld := ⟨0xB0074, 31, 0⟩
def F.RADIO_CORR_CUT_COUNT : Fld := ⟨0xB0070, 31, 0⟩
def F.RADIO_CTRL_EN : Fld := ⟨0xB0040, 0, 0⟩
def F.RADIO_CTRL_PAIR : Fld := ⟨0xB0040, 1, 1⟩
def F.RADIO_CTRL_PRIMROSE_EN : Fld := ⟨0xB0040, 8, 8⟩
def F.RADIO_CTRL_UNIT : Fld := ⟨0xB0040, 2, 2⟩
def F.RADIO_FWQ_EN : Fld := ⟨0xB0058, 31, 31⟩
def F.RADIO_FWQ_RX_QUEUE : Fld := ⟨0xB0058, 13, 8⟩
def F.RADIO_FWQ_TX_QUEUE : Fld := ⟨0xB0058, 5, 0⟩
def F.RADIO_FW_DROP_COUNT : Fld := ⟨0xB006C, 31, 0⟩
def F.RADIO_KEY_LINK_SLOT : Fld := ⟨0xB0050, 9, 0⟩
def F.RADIO_MSTAT_INDEX_MACHINE : Fld := ⟨0xB0064, 7, 0⟩
def F.RADIO_PRIMROSE_ASSOC_EN : Fld := ⟨0xB005C, 16, 16⟩
def F.RADIO_PRIMROSE_TIMEOUT_S : Fld := ⟨0xB005C, 15, 0⟩
def F.RADIO_RANGE_METRES : Fld := ⟨0xB0054, 11, 0⟩
def F.RADIO_STAT_LINK_UP : Fld := ⟨0xB0044, 23, 16⟩
def F.RADIO_WATCH_EN : Fld := ⟨0xB0060, 8, 8⟩
def F.RADIO_WATCH_POLLS_COUNT : Fld := ⟨0xB0078, 31, 0⟩
def F.RADIO_WATCH_SECT : Fld := ⟨0xB0060, 2, 0⟩
def F.RST_CAUSE_FIRST : Fld := ⟨0x3044, 23, 16⟩
def F.RST_CAUSE_SOURCES : Fld := ⟨0x3044, 7, 0⟩
def F.RST_DEV_COUNT_COUNT : Fld := ⟨0x304C, 31, 0⟩
def F.RST_PLANE_COUNT_COUNT : Fld := ⟨0x3050, 31, 0⟩
def F.RST_PLANE_SOURCE : Fld := ⟨0x3048, 5, 4⟩
def F.RST_PLANE_WHICH : Fld := ⟨0x3048, 1, 0⟩
def F.RST_WDOG_CTRL_EN : Fld := ⟨0x3054, 31, 31⟩
def F.RST_WDOG_CTRL_TARGET : Fld := ⟨0x3054, 30, 28⟩
def F.RST_WDOG_CTRL_TIMEOUT_MS : Fld := ⟨0x3054, 15, 0⟩
def F.RST_WIPE_US_US : Fld := ⟨0x305C, 31, 0⟩
def F.SCHED_CTRL_JOB_EN : Fld := ⟨0x20040, 2, 2⟩
def F.SCHED_CTRL_THR_EN : Fld := ⟨0x20040, 0, 0⟩
def F.SCHED_CTRL_WRK_EN : Fld := ⟨0x20040, 1, 1⟩
def F.SCHED_IRQMAP_EN : Fld := ⟨0x2004C, 31, 31⟩
def F.SCHED_IRQMAP_INDEX_PAGE : Fld := ⟨0x20048, 11, 0⟩
def F.SCHED_IRQMAP_MSIX : Fld := ⟨0x2004C, 30, 30⟩
def F.SCHED_IRQMAP_TARGET : Fld := ⟨0x2004C, 8, 0⟩
def F.SCHED_JOB_CTRL_GRANT_QUEUE : Fld := ⟨0x23040, 5, 0⟩
def F.SCHED_JOB_EXPIRED_COUNT : Fld := ⟨0x23078, 31, 0⟩
def F.SCHED_JOB_GRANTS_COUNT : Fld := ⟨0x23070, 31, 0⟩
def F.SCHED_JOB_GRANT_LOST_COUNT : Fld := ⟨0x2307C, 31, 0⟩
def F.SCHED_JOB_TIMEOUTS_COUNT : Fld := ⟨0x23074, 31, 0⟩
def F.SCHED_LATE_SWITCH_COUNT : Fld := ⟨0x20054, 31, 0⟩
def F.SCHED_SWITCH_LIMIT_US : Fld := ⟨0x20050, 15, 0⟩
def F.SCHED_THR_INDEX_THREAD : Fld := ⟨0x21040, 8, 0⟩
def F.SCHED_THR_PREEMPTS_COUNT : Fld := ⟨0x21060, 31, 0⟩
def F.SCHED_THR_STAGE_AFFINITY : Fld := ⟨0x21044, 3, 0⟩
def F.SCHED_THR_STAGE_LEVEL : Fld := ⟨0x21044, 31, 26⟩
def F.SCHED_THR_SWITCHES_COUNT : Fld := ⟨0x2105C, 31, 0⟩
def F.SCHED_TRC_BASE_ADDR : Fld := ⟨0x24044, 63, 17⟩
def F.SCHED_TRC_CTRL_EN : Fld := ⟨0x24040, 0, 0⟩
def F.SCHED_TRC_CTRL_KIND_EN : Fld := ⟨0x24040, 31, 16⟩
def F.SCHED_TRC_CTRL_SET_EN : Fld := ⟨0x24040, 6, 4⟩
def F.SCHED_TRC_CTRL_STOP_FULL : Fld := ⟨0x24040, 1, 1⟩
def F.SCHED_TRC_LOST_COUNT : Fld := ⟨0x24054, 31, 0⟩
def F.SCHED_TRC_RPTR_INDEX : Fld := ⟨0x24050, 12, 0⟩
def F.SCHED_WRK_GRANTS_COUNT : Fld := ⟨0x2206C, 31, 0⟩
def F.SCHED_WRK_PULL_IGNORED_COUNT : Fld := ⟨0x22070, 31, 0⟩
def F.SCHED_WRK_QUEUES_REQ_Q : Fld := ⟨0x22040, 21, 16⟩
def F.SCHED_WRK_QUEUES_SUBMIT_Q : Fld := ⟨0x22040, 29, 24⟩
def F.SCHED_WRK_REFUSED_COUNT : Fld := ⟨0x22068, 31, 0⟩
def F.SCHED_WRK_SUB0_AFFINITY : Fld := ⟨0x22050, 25, 22⟩
def F.SCHED_WRK_SUB0_DELAY : Fld := ⟨0x22050, 15, 0⟩
def F.SCHED_WRK_SUB0_LEVEL : Fld := ⟨0x22050, 31, 26⟩
def F.SCHED_WRK_SUB1_HANDLER : Fld := ⟨0x22054, 31, 16⟩
def F.SCHED_WRK_SUB2_ARG : Fld := ⟨0x22058, 63, 0⟩
def F.SECT_ACK_MISS_COUNT (n : Nat) : Fld := ⟨0xB1088 + 0x1000 * n, 31, 0⟩
def F.SECT_CHANNEL_ID (n : Nat) : Fld := ⟨0xB1050 + 0x1000 * n, 7, 0⟩
def F.SECT_COMP_RX_NS (n : Nat) : Fld := ⟨0xB104C + 0x1000 * n, 31, 16⟩
def F.SECT_COMP_TX_NS (n : Nat) : Fld := ⟨0xB104C + 0x1000 * n, 15, 0⟩
def F.SECT_CTRL_BANK (n : Nat) : Fld := ⟨0xB1040 + 0x1000 * n, 8, 8⟩
def F.SECT_CTRL_DATA_RATE (n : Nat) : Fld := ⟨0xB1040 + 0x1000 * n, 5, 4⟩
def F.SECT_CTRL_EN (n : Nat) : Fld := ⟨0xB1040 + 0x1000 * n, 0, 0⟩
def F.SECT_CTRL_WIDTH (n : Nat) : Fld := ⟨0xB1040 + 0x1000 * n, 1, 1⟩
def F.SECT_DUP_COUNT (n : Nat) : Fld := ⟨0xB107C + 0x1000 * n, 31, 0⟩
def F.SECT_FOREIGN_COUNT (n : Nat) : Fld := ⟨0xB1080 + 0x1000 * n, 31, 0⟩
def F.SECT_GIANT_COUNT (n : Nat) : Fld := ⟨0xB1074 + 0x1000 * n, 31, 0⟩
def F.SECT_OVERLONG_COUNT (n : Nat) : Fld := ⟨0xB1084 + 0x1000 * n, 31, 0⟩
def F.SECT_PROG_TAG_TAG (n : Nat) : Fld := ⟨0xB1054 + 0x1000 * n, 15, 0⟩
def F.SECT_RUNT_COUNT (n : Nat) : Fld := ⟨0xB1070 + 0x1000 * n, 31, 0⟩
def F.SECT_RX_FCS_COUNT (n : Nat) : Fld := ⟨0xB1068 + 0x1000 * n, 31, 0⟩
def F.SECT_RX_OK_COUNT (n : Nat) : Fld := ⟨0xB1064 + 0x1000 * n, 31, 0⟩
def F.SECT_RX_PHY_COUNT (n : Nat) : Fld := ⟨0xB1078 + 0x1000 * n, 31, 0⟩
def F.SECT_RX_TAG_COUNT (n : Nat) : Fld := ⟨0xB106C + 0x1000 * n, 31, 0⟩
def F.SECT_STAT_BANK_ACTIVE (n : Nat) : Fld := ⟨0xB1044 + 0x1000 * n, 9, 9⟩
def F.SECT_STAT_BANK_PENDING (n : Nat) : Fld := ⟨0xB1044 + 0x1000 * n, 10, 10⟩
def F.SECT_STAT_JESD_RX (n : Nat) : Fld := ⟨0xB1044 + 0x1000 * n, 18, 16⟩
def F.SECT_STAT_JESD_TX (n : Nat) : Fld := ⟨0xB1044 + 0x1000 * n, 21, 19⟩
def F.SECT_STAT_PROG_WORD (n : Nat) : Fld := ⟨0xB1044 + 0x1000 * n, 7, 0⟩
def F.SECT_TOKEN_ABSENT_COUNT (n : Nat) : Fld := ⟨0xB108C + 0x1000 * n, 31, 0⟩
def F.SECT_TX_FRAMES_COUNT (n : Nat) : Fld := ⟨0xB1060 + 0x1000 * n, 31, 0⟩
def F.SEG_CTRL_ACK_QUEUE : Fld := ⟨0xA0040, 27, 22⟩
def F.SEG_CTRL_EN : Fld := ⟨0xA0040, 0, 0⟩
def F.SEG_CTRL_EVT_EN : Fld := ⟨0xA0040, 1, 1⟩
def F.SEG_CTRL_EVT_QUEUE : Fld := ⟨0xA0040, 21, 16⟩
def F.SEG_CTRL_GIVEUP_EP : Fld := ⟨0xA0040, 15, 8⟩
def F.SEG_EVT_LOST_COUNT : Fld := ⟨0xA0058, 31, 0⟩
def F.SEG_GIVEUP_COUNT : Fld := ⟨0xA0054, 31, 0⟩
def F.SEG_LATE_COUNT : Fld := ⟨0xA0050, 31, 0⟩
def F.SEG_MSTAT_INDEX_MACHINE : Fld := ⟨0xA005C, 7, 0⟩
def F.SEG_RESENT_COUNT : Fld := ⟨0xA004C, 31, 0⟩
def F.SEG_SENT_COUNT : Fld := ⟨0xA0048, 31, 0⟩
def F.SHADOW_BASE_BASE : Fld := ⟨0x82044, 63, 12⟩
def F.SHADOW_CTRL_EN : Fld := ⟨0x82040, 0, 0⟩
def F.SHADOW_CTRL_REGION_EN : Fld := ⟨0x82040, 20, 16⟩
def F.SHADOW_CTRL_REPAIR : Fld := ⟨0x82040, 1, 1⟩
def F.SHADOW_MISMATCH_COUNT : Fld := ⟨0x82054, 31, 0⟩
def F.SHADOW_REPAIRED_COUNT : Fld := ⟨0x82058, 31, 0⟩
def F.SHADOW_SKIPPED_COUNT : Fld := ⟨0x8205C, 31, 0⟩
def F.SHADOW_STAT_PASSES : Fld := ⟨0x82050, 31, 16⟩
def F.SOLV_CMD_STAT_BUSY : Fld := ⟨0x600AC, 31, 31⟩
def F.SOLV_CMD_STAT_RESULT : Fld := ⟨0x600AC, 3, 0⟩
def F.SOLV_CTRL_BANK : Fld := ⟨0x60040, 8, 8⟩
def F.SOLV_CTRL_EPOCH : Fld := ⟨0x60040, 17, 16⟩
def F.SOLV_CTRL_PREEMPT_EN : Fld := ⟨0x60040, 1, 1⟩
def F.SOLV_CTRL_SHARE_EN : Fld := ⟨0x60040, 0, 0⟩
def F.SOLV_DEADLINE_US : Fld := ⟨0x6004C, 16, 0⟩
def F.SOLV_DROP_COUNT : Fld := ⟨0x60090, 31, 0⟩
def F.SOLV_FIXES_COUNT : Fld := ⟨0x600B8, 31, 0⟩
def F.SOLV_LATE_COUNT : Fld := ⟨0x6008C, 31, 0⟩
def F.SOLV_MCFG_BASE_MEMBER (k : Nat) : Fld := ⟨0x60400 + 0x4 * k, 27, 24⟩
def F.SOLV_MCFG_DOPPLER (k : Nat) : Fld := ⟨0x60400 + 0x4 * k, 3, 3⟩
def F.SOLV_MCFG_MODE (k : Nat) : Fld := ⟨0x60400 + 0x4 * k, 1, 0⟩
def F.SOLV_MCFG_RESET (k : Nat) : Fld := ⟨0x60400 + 0x4 * k, 31, 31⟩
def F.SOLV_MCFG_RTCM_IN (k : Nat) : Fld := ⟨0x60400 + 0x4 * k, 4, 4⟩
def F.SOLV_NONE_LIMIT_EPOCHS : Fld := ⟨0x60058, 7, 0⟩
def F.SOLV_OUTQ_FW_EN : Fld := ⟨0x6007C, 31, 31⟩
def F.SOLV_OUTQ_FW_QUEUE : Fld := ⟨0x6007C, 13, 8⟩
def F.SOLV_OUTQ_TRACK_QUEUE : Fld := ⟨0x6007C, 5, 0⟩
def F.SOLV_PAR_DROP : Fld := ⟨0x60060, 7, 0⟩
def F.SOLV_PAR_MIN_AMB : Fld := ⟨0x60060, 15, 8⟩
def F.SOLV_PL_ALERT_HAL_MM : Fld := ⟨0x60078, 31, 16⟩
def F.SOLV_PL_ALERT_VAL_MM : Fld := ⟨0x60078, 15, 0⟩
def F.SOLV_PL_K_KH : Fld := ⟨0x60074, 31, 16⟩
def F.SOLV_PL_K_KV : Fld := ⟨0x60074, 15, 0⟩
def F.SOLV_PREEMPT_US : Fld := ⟨0x60050, 16, 0⟩
def F.SOLV_QUEUE_STAT_PEAK : Fld := ⟨0x60088, 25, 16⟩
def F.SOLV_REFUSED_COUNT : Fld := ⟨0x60094, 31, 0⟩
def F.SOLV_SCRIPT_A_WORD (k : Nat) : Fld := ⟨0x60800 + 0x4 * k, 31, 0⟩
def F.SOLV_SCRIPT_B_WORD (k : Nat) : Fld := ⟨0x60900 + 0x4 * k, 31, 0⟩
def F.SOLV_SEARCH_NODES : Fld := ⟨0x60068, 31, 0⟩
def F.SOLV_SHARE_MASK_MEMBERS : Fld := ⟨0x600A0, 15, 0⟩
def F.SOLV_SHARE_WAIT_US : Fld := ⟨0x60054, 15, 0⟩
def F.SOLV_SLIP_GF_MM : Fld := ⟨0x60064, 31, 16⟩
def F.SOLV_SLIP_MW : Fld := ⟨0x60064, 15, 0⟩
def F.SOLV_STATE_BASE_BASE : Fld := ⟨0x60080, 63, 12⟩
def F.SOLV_STAT_BANK_ACTIVE : Fld := ⟨0x60044, 8, 8⟩
def F.SOLV_STAT_BANK_PENDING : Fld := ⟨0x60044, 10, 10⟩
def F.SOLV_STAT_EPOCH_ACTIVE : Fld := ⟨0x60044, 1, 0⟩
def F.SOLV_STAT_EPOCH_PENDING : Fld := ⟨0x60044, 9, 9⟩
def F.SOLV_TILES_EN : Fld := ⟨0x60048, 15, 0⟩
def F.SOLV_VALID_PSUCC : Fld := ⟨0x6005C, 15, 0⟩
def F.SOLV_VALID_RATIO : Fld := ⟨0x6005C, 31, 16⟩
def F.SOLV_XFER_ADDR_ADDR : Fld := ⟨0x600B0, 63, 12⟩
def F.SWCH_AGE_SECONDS : Fld := ⟨0xD0044, 15, 0⟩
def F.SWCH_ATU_DATA_AGE_LEFT : Fld := ⟨0xD0054, 15, 0⟩
def F.SWCH_ATU_DATA_PORT : Fld := ⟨0xD0054, 20, 16⟩
def F.SWCH_ATU_DATA_STATIC : Fld := ⟨0xD0054, 30, 30⟩
def F.SWCH_ATU_DATA_VALID : Fld := ⟨0xD0054, 31, 31⟩
def F.SWCH_ATU_KEY_MAC : Fld := ⟨0xD004C, 47, 0⟩
def F.SWCH_ATU_KEY_VID : Fld := ⟨0xD004C, 59, 48⟩
def F.SWCH_ATU_RESULT_RESULT : Fld := ⟨0xD0060, 3, 0⟩
def F.SWCH_BUF_PORT_LIMIT_KB : Fld := ⟨0xD008C, 15, 0⟩
def F.SWCH_BUF_Q7_RESERVE_KB : Fld := ⟨0xD008C, 31, 16⟩
def F.SWCH_CTRL_FWD_EN : Fld := ⟨0xD0040, 0, 0⟩
def F.SWCH_CTRL_LEARN_EN : Fld := ⟨0xD0040, 1, 1⟩
def F.SWCH_FLAPS_COUNT : Fld := ⟨0xD0068, 31, 0⟩
def F.SWCH_LEARN_FULL_COUNT : Fld := ⟨0xD0064, 31, 0⟩
def F.SWCH_MOVE_HOLD_US : Fld := ⟨0xD0048, 15, 0⟩
def F.SWCH_P21_DROP_COUNT : Fld := ⟨0xD0098, 31, 0⟩
def F.SWCH_P21_RX_QUEUE : Fld := ⟨0xD0094, 13, 8⟩
def F.SWCH_P21_TX_QUEUE : Fld := ⟨0xD0094, 5, 0⟩
def F.SWCH_PRP_CFG_ENTRY_FORGET_MS : Fld := ⟨0xD0080, 31, 16⟩
def F.SWCH_PRP_CFG_LIFE_CHECK_MS : Fld := ⟨0xD0080, 15, 0⟩
def F.SWCH_PRP_DUP_COUNT : Fld := ⟨0xD0084, 31, 0⟩
def F.SWCH_PRP_EN : Fld := ⟨0xD007C, 9, 0⟩
def F.SWCH_PRP_WRONG_LAN_COUNT : Fld := ⟨0xD0088, 31, 0⟩
def F.SWCH_RING_BASE_ADDR : Fld := ⟨0xD00A4, 63, 5⟩
def F.SWCH_RING_HEAD_INDEX : Fld := ⟨0xD00B0, 11, 0⟩
def F.SWCH_RING_INDEX_RING : Fld := ⟨0xD00A0, 3, 0⟩
def F.SWCH_RING_SIZE_COUNT : Fld := ⟨0xD00AC, 12, 0⟩
def F.SWCH_RING_STAT_STOPPED : Fld := ⟨0xD00B8, 31, 31⟩
def F.SWCH_RING_TAIL_INDEX : Fld := ⟨0xD00B4, 11, 0⟩
def F.SWCH_RX_MAP_RING9 : Fld := ⟨0xD00C4, 7, 0⟩
def F.SWCH_VLAN_MEMBER_PORTS : Fld := ⟨0xD0074, 21, 0⟩
def F.SWCH_VLAN_UNTAG_PORTS : Fld := ⟨0xD0078, 21, 0⟩
def F.SWCH_WAKE_CTRL_MAGIC_EN : Fld := ⟨0xD0100, 16, 16⟩
def F.SWCH_WAKE_CTRL_PAT_EN : Fld := ⟨0xD0100, 7, 0⟩
def F.SWCH_WAKE_CTRL_PORT_EN : Fld := ⟨0xD0100, 11, 8⟩
def F.SWCH_WAKE_MAC_MAC : Fld := ⟨0xD0108, 47, 0⟩
def F.SWCH_WAKE_STAT_COUNT : Fld := ⟨0xD0104, 30, 16⟩
def F.SWCH_WAKE_STAT_MAGIC : Fld := ⟨0xD0104, 3, 3⟩
def F.SWCH_WAKE_STAT_PATTERN : Fld := ⟨0xD0104, 6, 4⟩
def F.SWCH_WAKE_STAT_PORT : Fld := ⟨0xD0104, 1, 0⟩
def F.SWCH_WAKE_STAT_VALID : Fld := ⟨0xD0104, 31, 31⟩
def F.SYS_BOOT_STAT_ERROR : Fld := ⟨0x58, 23, 16⟩
def F.SYS_BOOT_STAT_POPPY_FAIL : Fld := ⟨0x58, 15, 15⟩
def F.SYS_BOOT_STAT_SLOT : Fld := ⟨0x58, 27, 24⟩
def F.SYS_BOOT_STAT_STAGE : Fld := ⟨0x58, 31, 28⟩
def F.SYS_CORE_RUN_START : Fld := ⟨0x88, 7, 0⟩
def F.SYS_CORE_VEC_ADDR : Fld := ⟨0x90, 63, 0⟩
def F.SYS_LC_AUTH_ADDR_ADDR : Fld := ⟨0x50, 63, 0⟩
def F.SYS_LC_MARKER_WIPE : Fld := ⟨0x40, 9, 9⟩
def F.SYS_LC_STAT_RESULT : Fld := ⟨0x48, 3, 0⟩
def F.SYS_LOAD_STAT_READY : Fld := ⟨0xB0, 31, 31⟩
def F.SYS_LOAD_STAT_RESULT : Fld := ⟨0xB0, 7, 0⟩
def F.SYS_STRAP_PCIE : Fld := ⟨0x4C, 1, 1⟩
def F.SYS_STRAP_RECOV_IGNORED : Fld := ⟨0x4C, 3, 3⟩
def F.SYS_WARM_VEC_C_ADDR : Fld := ⟨0x98, 63, 0⟩
def F.SYS_WARM_VEC_D_ADDR : Fld := ⟨0xA0, 63, 0⟩
def F.TAMP_CFG_SRC_EN : Fld := ⟨0x101040, 4, 0⟩
def F.TAMP_CFG_STOP_EN : Fld := ⟨0x101040, 5, 5⟩
def F.TAMP_CFG_TEMP_HI : Fld := ⟨0x101040, 31, 24⟩
def F.TAMP_CFG_TEMP_LO : Fld := ⟨0x101040, 23, 16⟩
def F.TIME_B_ASYM_CORR_CORR_NS : Fld := ⟨0x41070, 31, 0⟩
def F.TIME_B_ASYM_STAT_FLAGGED : Fld := ⟨0x41074, 31, 31⟩
def F.TIME_B_ASYM_STAT_PORT : Fld := ⟨0x41074, 4, 0⟩
def F.TIME_B_ASYM_THR_CNT : Fld := ⟨0x4106C, 31, 24⟩
def F.TIME_B_ASYM_THR_NS : Fld := ⟨0x4106C, 23, 0⟩
def F.TIME_B_DISCARD_COUNT : Fld := ⟨0x41080, 31, 0⟩
def F.TIME_B_MASTER_CLASS : Fld := ⟨0x4107C, 7, 0⟩
def F.TIME_B_MASTER_STEPS : Fld := ⟨0x4107C, 23, 16⟩
def F.TIME_B_MPD_MPD : Fld := ⟨0x41078, 31, 0⟩
def F.TIME_B_MPORTS_MASTER : Fld := ⟨0x41064, 19, 0⟩
def F.TIME_B_PORT_ACTIVE : Fld := ⟨0x41060, 20, 16⟩
def F.TIME_B_PORT_BACKUP : Fld := ⟨0x41060, 12, 8⟩
def F.TIME_B_PORT_BACKUP_EN : Fld := ⟨0x41060, 15, 15⟩
def F.TIME_B_PORT_PRIMARY : Fld := ⟨0x41060, 4, 0⟩
def F.TIME_B_PORT_SLAVE_EN : Fld := ⟨0x41060, 31, 31⟩
def F.TIME_B_PTPCFG_DOMAIN : Fld := ⟨0x41068, 7, 0⟩
def F.TIME_B_PTPCFG_TWO_STEP : Fld := ⟨0x41068, 8, 8⟩
def F.TIME_B_PTPCFG_VID : Fld := ⟨0x41068, 27, 16⟩
def F.TIME_D_CTRL_LOCK_CNT (n : Nat) : Fld := ⟨0x40040 + 0x1000 * n, 23, 16⟩
def F.TIME_D_CTRL_SERVO_EN (n : Nat) : Fld := ⟨0x40040 + 0x1000 * n, 0, 0⟩
def F.TIME_D_LOSS_LOSS_MS (n : Nat) : Fld := ⟨0x40048 + 0x1000 * n, 15, 0⟩
def F.TIME_D_SERVO_BW_MHZ (n : Nat) : Fld := ⟨0x40044 + 0x1000 * n, 15, 0⟩
def F.TIME_D_SERVO_LOCK_NS (n : Nat) : Fld := ⟨0x40044 + 0x1000 * n, 31, 16⟩
def F.TIME_EVT_CTRL_EDGE : Fld := ⟨0x43040, 15, 0⟩
def F.TIME_EVT_LOST_COUNT : Fld := ⟨0x43048, 31, 0⟩
def F.TIME_EVT_STAT_OVF : Fld := ⟨0x43044, 15, 8⟩
def F.TIME_OUT_CTRL_SEL : Fld := ⟨0x42040, 1, 0⟩
def F.TIME_OUT_HOLD_LIMIT_S_SECONDS : Fld := ⟨0x42068, 31, 0⟩
def F.TIME_OUT_HOLD_WARN_S_SECONDS : Fld := ⟨0x42064, 31, 0⟩
def F.TIME_OUT_INCR_REG : Fld := ⟨0x42044, 63, 0⟩
def F.TIME_OUT_PULSE_CTRL_EN : Fld := ⟨0x420C4, 31, 31⟩
def F.TIME_OUT_PULSE_CTRL_GATE_VALID : Fld := ⟨0x420C4, 1, 1⟩
def F.TIME_OUT_PULSE_CTRL_INVERT : Fld := ⟨0x420C4, 0, 0⟩
def F.TIME_OUT_PULSE_INDEX_INDEX : Fld := ⟨0x420C0, 3, 0⟩
def F.TIME_OUT_PULSE_PERIOD_NS_PERIOD : Fld := ⟨0x420D4, 31, 0⟩
def F.TIME_OUT_PULSE_SKIP_COUNT : Fld := ⟨0x420DC, 31, 0⟩
def F.TIME_OUT_PULSE_START_NS_NS : Fld := ⟨0x420D0, 29, 0⟩
def F.TIME_OUT_PULSE_START_SEC_SECONDS : Fld := ⟨0x420C8, 47, 0⟩
def F.TIME_OUT_PULSE_WIDTH_NS_WIDTH : Fld := ⟨0x420D8, 31, 0⟩
def F.TIME_OUT_SET_NS_NS : Fld := ⟨0x42098, 29, 0⟩
def F.TIME_OUT_SET_SEC_SECONDS : Fld := ⟨0x42090, 47, 0⟩
def F.TIME_OUT_STEPS_COUNT : Fld := ⟨0x4209C, 31, 0⟩
def F.TIME_OUT_UTC_AT_SECOND : Fld := ⟨0x42084, 47, 0⟩
def F.TIME_OUT_UTC_NEXT_OFFSET : Fld := ⟨0x42080, 31, 16⟩
def F.TIME_OUT_UTC_OFFSET : Fld := ⟨0x42080, 15, 0⟩
def F.TIME_OUT_VALID_LIMIT_NS : Fld := ⟨0x4206C, 31, 0⟩
def F.TRACK_BUMP_LEAD_TICKS : Fld := ⟨0x90058, 15, 0⟩
def F.TRACK_BUMP_MAX : Fld := ⟨0x90058, 26, 24⟩
def F.TRACK_CLASS_CORRIDOR (k : Nat) : Fld := ⟨0x90100 + 0x4 * k, 15, 0⟩
def F.TRACK_CLASS_VMAX (k : Nat) : Fld := ⟨0x90100 + 0x4 * k, 31, 16⟩
def F.TRACK_CTRL_BUMP_EN : Fld := ⟨0x90040, 3, 3⟩
def F.TRACK_CTRL_DEV_COUNT : Fld := ⟨0x90040, 31, 24⟩
def F.TRACK_CTRL_EARLY_REL : Fld := ⟨0x90040, 2, 2⟩
def F.TRACK_CTRL_MIN_STATUS : Fld := ⟨0x90040, 10, 8⟩
def F.TRACK_CTRL_PLAN_EN : Fld := ⟨0x90040, 0, 0⟩
def F.TRACK_CTRL_TRACK_EN : Fld := ⟨0x90040, 1, 1⟩
def F.TRACK_EVT_LOST_COUNT : Fld := ⟨0x90078, 31, 0⟩
def F.TRACK_FIX_DISCARD_COUNT : Fld := ⟨0x90074, 31, 0⟩
def F.TRACK_HORIZON_TICKS : Fld := ⟨0x9004C, 13, 0⟩
def F.TRACK_LEAD_TICKS : Fld := ⟨0x90050, 15, 0⟩
def F.TRACK_OVERRUNS_COUNT : Fld := ⟨0x90070, 31, 0⟩
def F.TRACK_OVR_EXT : Fld := ⟨0x9005C, 31, 16⟩
def F.TRACK_OVR_GRACE : Fld := ⟨0x9005C, 15, 0⟩
def F.TRACK_PLAN_BUDGET_NODES : Fld := ⟨0x92068, 20, 0⟩
def F.TRACK_PLAN_COMMIT_SEQ_SEQ : Fld := ⟨0x9208C, 27, 0⟩
def F.TRACK_PLAN_FAILS_COUNT : Fld := ⟨0x9207C, 31, 0⟩
def F.TRACK_PLAN_HEAP_PEAK_NODES : Fld := ⟨0x92080, 16, 0⟩
def F.TRACK_PLAN_LAST_US_US : Fld := ⟨0x92070, 31, 0⟩
def F.TRACK_PLAN_MAX_US_US : Fld := ⟨0x92074, 31, 0⟩
def F.TRACK_PLAN_PLANS_COUNT : Fld := ⟨0x92078, 31, 0⟩
def F.TRACK_PLAN_REQ_WORD (k : Nat) : Fld := ⟨0x92040 + 0x4 * k, 31, 0⟩
def F.TRACK_PLAN_SEARCH_EXPANSIONS : Fld := ⟨0x9206C, 22, 0⟩
def F.TRACK_PLAN_SEARCH_OUTCOME : Fld := ⟨0x9206C, 31, 28⟩
def F.TRACK_PLAN_SHR_SERIAL_SERIAL : Fld := ⟨0x92088, 31, 0⟩
def F.TRACK_QUEUES_ACK_QUEUE : Fld := ⟨0x90054, 6, 1⟩
def F.TRACK_QUEUES_EVT_EN : Fld := ⟨0x90054, 0, 0⟩
def F.TRACK_QUEUES_EVT_QUEUE : Fld := ⟨0x90054, 13, 8⟩
def F.TRACK_QUEUES_FIX_QUEUE : Fld := ⟨0x90054, 29, 24⟩
def F.TRACK_QUEUES_RES_QUEUE : Fld := ⟨0x90054, 21, 16⟩
def F.TRACK_REPLANS_COUNT : Fld := ⟨0x9006C, 31, 0⟩
def F.TRACK_RES_ARG0_ARG : Fld := ⟨0x91058, 31, 0⟩
def F.TRACK_RES_ARG1_PRIO : Fld := ⟨0x9105C, 3, 0⟩
def F.TRACK_RES_CMD_STAT_BUSY : Fld := ⟨0x91060, 31, 31⟩
def F.TRACK_RES_CMD_STAT_RESULT : Fld := ⟨0x91060, 3, 0⟩
def F.TRACK_RES_CTRL_SWEEP_EN : Fld := ⟨0x91040, 0, 0⟩
def F.TRACK_RES_FULL_COUNT : Fld := ⟨0x9104C, 31, 0⟩
def F.TRACK_RES_PEAK_COUNT : Fld := ⟨0x91048, 20, 0⟩
def F.TRACK_RES_SWEPT_COUNT : Fld := ⟨0x91080, 31, 0⟩
def F.TRACK_SEG_BASE_BASE : Fld := ⟨0x90064, 63, 22⟩
def F.TRACK_SHR_RETRY_US : Fld := ⟨0x90060, 15, 0⟩
def F.TRACK_SHR_TRIES : Fld := ⟨0x90060, 27, 24⟩
def F.XTAB_CELL_COUNT_COUNT : Fld := ⟨0x81050, 16, 0⟩
def F.XTAB_CMD_STAT_BUSY : Fld := ⟨0x81058, 31, 31⟩
def F.XTAB_CMD_STAT_RESULT : Fld := ⟨0x81058, 3, 0⟩
def F.XTAB_PROT_ERR_COUNT : Fld := ⟨0x8105C, 31, 0⟩
def F.XTAB_STAGE_WORD (k : Nat) : Fld := ⟨0x81080 + 0x4 * k, 31, 0⟩
def F.ZONE_CMD_STAT_BUSY : Fld := ⟨0x800A4, 31, 31⟩
def F.ZONE_CMD_STAT_RESULT : Fld := ⟨0x800A4, 3, 0⟩
def F.ZONE_CTRL_LOOKUP_EN : Fld := ⟨0x80040, 0, 0⟩
def F.ZONE_CTRL_MIN_STATUS : Fld := ⟨0x80040, 6, 4⟩
def F.ZONE_CTRL_SPEED_EVT : Fld := ⟨0x80040, 3, 3⟩
def F.ZONE_DEFAULT_FLAGS_FLAGS : Fld := ⟨0x80064, 4, 0⟩
def F.ZONE_DEFAULT_SPEED_SPEED : Fld := ⟨0x80060, 31, 0⟩
def F.ZONE_ENTRY_WORD (k : Nat) : Fld := ⟨0x80094 + 0x4 * k, 31, 0⟩
def F.ZONE_HASH_SEED_SEED : Fld := ⟨0x80084, 31, 0⟩
def F.ZONE_IMG_ADDR_ADDR : Fld := ⟨0x800A8, 63, 0⟩
def F.ZONE_LOOKUPS_COUNT : Fld := ⟨0x800B0, 31, 0⟩
def F.ZONE_LVL_BASE (k : Nat) : Fld := ⟨0x80100 + 0x4 * k, 15, 0⟩
def F.ZONE_LVL_LOG2_BUCKETS (k : Nat) : Fld := ⟨0x80100 + 0x4 * k, 31, 27⟩
def F.ZONE_MAXKICK_STEPS : Fld := ⟨0x80088, 7, 0⟩
def F.ZONE_MOVE_GEN_GEN : Fld := ⟨0x8008C, 31, 0⟩
def F.ZONE_MSTATE_INDEX_MACHINE : Fld := ⟨0x800C0, 7, 0⟩
def F.ZONE_ORIGIN_X_ORIGIN : Fld := ⟨0x80048, 63, 0⟩
def F.ZONE_ORIGIN_Y_ORIGIN : Fld := ⟨0x80050, 63, 0⟩
def F.ZONE_ORIGIN_Z_ORIGIN : Fld := ⟨0x80058, 63, 0⟩
def F.ZONE_REPEATS_COUNT : Fld := ⟨0x800B4, 31, 0⟩
def F.ZONE_SITE_ID_ID : Fld := ⟨0x800CC, 31, 0⟩
def F.ZONE_SPEED_TAB_HIGH (k : Nat) : Fld := ⟨0x80068 + 0x4 * k, 31, 16⟩
def F.ZONE_SPEED_TAB_LOW (k : Nat) : Fld := ⟨0x80068 + 0x4 * k, 15, 0⟩
def F.ZONE_STAT_USED : Fld := ⟨0x80044, 18, 0⟩
def F.ZONE_VIOLATIONS_COUNT : Fld := ⟨0x800B8, 31, 0⟩

end Sys2Proof.Machine
end

