-- ==== Sys2Proof/Machine/RegMapA.lean ====
section
/-! DEFINITION. The register tables of spec/03_satellite_receiver.md, spec/04_time_base.md,
field by field: bits, access type and reset value as the tables give them. -/

namespace Sys2Proof.Machine

/-! spec/03_satellite_receiver.md, pages 0x050 to 0x053. -/

def Reg.GNSS_FE_CTRL : RegDef :=
  { name := "GNSS_FE_CTRL", off := 0x040,
    fields := [⟨"ANT_SUPPLY_CHK", 7, 7, .rwl, 0x1⟩, ⟨"SIGNMAG", 6, 6, .rwl, 0x0⟩, ⟨"L5_QINV", 5, 5, .rwl, 0x0⟩, ⟨"L5_IQSWAP", 4, 4, .rwl, 0x0⟩, ⟨"L5_EN", 3, 3, .rwl, 0x0⟩, ⟨"L1_QINV", 2, 2, .rwl, 0x0⟩, ⟨"L1_IQSWAP", 1, 1, .rwl, 0x0⟩, ⟨"L1_EN", 0, 0, .rwl, 0x0⟩] }

def Reg.GNSS_FE_STAT : RegDef :=
  { name := "GNSS_FE_STAT", off := 0x044,
    fields := [⟨"L5_CAUSE", 11, 8, .ro, 0x0⟩, ⟨"L1_CAUSE", 7, 4, .ro, 0x0⟩, ⟨"L5_FAULT", 3, 3, .ro, 0x0⟩, ⟨"L1_FAULT", 2, 2, .ro, 0x0⟩, ⟨"L5_CLK_OK", 1, 1, .ro, 0x0⟩, ⟨"L1_CLK_OK", 0, 0, .ro, 0x0⟩] }

def Reg.GNSS_FE_L1_IF : RegDef :=
  { name := "GNSS_FE_L1_IF", off := 0x048,
    fields := [⟨"IF_HZ", 31, 0, .rwl, 0x0⟩] }

def Reg.GNSS_FE_L5_IF : RegDef :=
  { name := "GNSS_FE_L5_IF", off := 0x04C,
    fields := [⟨"IF_HZ", 31, 0, .rwl, 0x0⟩] }

def Reg.GNSS_FE_L1_DELAY : RegDef :=
  { name := "GNSS_FE_L1_DELAY", off := 0x050,
    fields := [⟨"DELAY_PS", 31, 0, .rw, 0x0⟩] }

def Reg.GNSS_FE_L5_DELAY : RegDef :=
  { name := "GNSS_FE_L5_DELAY", off := 0x054,
    fields := [⟨"DELAY_PS", 31, 0, .rw, 0x0⟩] }

def Reg.GNSS_FE_AGC : RegDef :=
  { name := "GNSS_FE_AGC", off := 0x058,
    fields := [⟨"L5_TARGET", 15, 8, .rw, 0x21⟩, ⟨"L1_TARGET", 7, 0, .rw, 0x21⟩] }

def Reg.GNSS_FE_AGC_STAT : RegDef :=
  { name := "GNSS_FE_AGC_STAT", off := 0x05C,
    fields := [⟨"L5_DUTY", 25, 16, .ro, 0x200⟩, ⟨"L1_DUTY", 9, 0, .ro, 0x200⟩] }

def Reg.GNSS_FE_LEVEL : RegDef :=
  { name := "GNSS_FE_LEVEL", off := 0x060,
    fields := [⟨"L5_FS", 31, 24, .ro, 0x0⟩, ⟨"L5_OCC", 23, 16, .ro, 0x0⟩, ⟨"L1_FS", 15, 8, .ro, 0x0⟩, ⟨"L1_OCC", 7, 0, .ro, 0x0⟩] }

def Reg.GNSS_FE_CLK_PPB : RegDef :=
  { name := "GNSS_FE_CLK_PPB", off := 0x064,
    fields := [⟨"L5_PPB", 31, 16, .ro, 0x0⟩, ⟨"L1_PPB", 15, 0, .ro, 0x0⟩] }

def Reg.GNSS_FE_POS_X : RegDef :=
  { name := "GNSS_FE_POS_X", off := 0x068, words := 2,
    fields := [⟨"X", 63, 0, .rwl, 0x0⟩] }

def Reg.GNSS_FE_POS_Y : RegDef :=
  { name := "GNSS_FE_POS_Y", off := 0x070, words := 2,
    fields := [⟨"Y", 63, 0, .rwl, 0x0⟩] }

def Reg.GNSS_FE_POS_Z : RegDef :=
  { name := "GNSS_FE_POS_Z", off := 0x078, words := 2,
    fields := [⟨"Z", 63, 0, .rwl, 0x0⟩] }

/-- The registers of pages 0x050 to 0x053. -/
def pageRegs050_053 : List RegDef :=
  [Reg.GNSS_FE_CTRL, Reg.GNSS_FE_STAT, Reg.GNSS_FE_L1_IF, Reg.GNSS_FE_L5_IF, Reg.GNSS_FE_L1_DELAY, Reg.GNSS_FE_L5_DELAY, Reg.GNSS_FE_AGC, Reg.GNSS_FE_AGC_STAT] ++
  [Reg.GNSS_FE_LEVEL, Reg.GNSS_FE_CLK_PPB, Reg.GNSS_FE_POS_X, Reg.GNSS_FE_POS_Y, Reg.GNSS_FE_POS_Z]

/-! spec/03_satellite_receiver.md, pages 0x054 to 0x054. -/

def Reg.GNSS_CH_INDEX : RegDef :=
  { name := "GNSS_CH_INDEX", off := 0x040,
    fields := [⟨"INDEX", 9, 0, .rw, 0x0⟩] }

def Reg.GNSS_CH_CFG : RegDef :=
  { name := "GNSS_CH_CFG", off := 0x044,
    fields := [⟨"EN", 31, 31, .rw, 0x0⟩, ⟨"ANT", 21, 20, .rw, 0x0⟩, ⟨"BAND", 19, 19, .rw, 0x0⟩, ⟨"SYS", 18, 16, .rw, 0x0⟩, ⟨"SVID", 15, 8, .rw, 0x0⟩, ⟨"AID_PARTNER", 1, 1, .rw, 0x1⟩] }

def Reg.GNSS_CH_STAT : RegDef :=
  { name := "GNSS_CH_STAT", off := 0x048,
    fields := [⟨"CN0", 31, 22, .ro, 0x0⟩, ⟨"STATE", 21, 19, .ro, 0x0⟩, ⟨"TRACK_FLAGS", 7, 0, .ro, 0x0⟩] }

def Reg.GNSS_CH_LOOP_L1 : RegDef :=
  { name := "GNSS_CH_LOOP_L1", off := 0x04C,
    fields := [⟨"PLL_BW", 31, 24, .rwl, 0x3C⟩, ⟨"DLL_BW", 23, 16, .rwl, 0x32⟩, ⟨"FLL_BW", 15, 8, .rwl, 0x28⟩, ⟨"PLL_ORDER", 7, 6, .rwl, 0x3⟩] }

def Reg.GNSS_CH_LOOP_L5 : RegDef :=
  { name := "GNSS_CH_LOOP_L5", off := 0x050,
    fields := [⟨"PLL_BW", 31, 24, .rwl, 0x3C⟩, ⟨"DLL_BW", 23, 16, .rwl, 0x32⟩, ⟨"FLL_BW", 15, 8, .rwl, 0x28⟩, ⟨"PLL_ORDER", 7, 6, .rwl, 0x3⟩] }

def Reg.GNSS_CH_ACQ : RegDef :=
  { name := "GNSS_CH_ACQ", off := 0x054,
    fields := [⟨"NONCOH", 31, 24, .rwl, 0x4⟩, ⟨"DOP_WIN", 15, 0, .rwl, 0x1388⟩] }

def Reg.GNSS_CH_THR : RegDef :=
  { name := "GNSS_CH_THR", off := 0x058,
    fields := [⟨"LOSS_CN0", 25, 16, .rwl, 0x10E⟩, ⟨"ACQ_CN0", 9, 0, .rwl, 0x14A⟩] }

def Reg.GNSS_CH_REACQ : RegDef :=
  { name := "GNSS_CH_REACQ", off := 0x05C,
    fields := [⟨"WINDOW_MS", 15, 0, .rwl, 0x1388⟩] }

def Reg.GNSS_CH_CMD : RegDef :=
  { name := "GNSS_CH_CMD", off := 0x060,
    fields := [⟨"CMD", 31, 28, .wo, 0x0⟩, ⟨"ALL", 16, 16, .wo, 0x0⟩, ⟨"CHANNEL", 9, 0, .wo, 0x0⟩] }

def Reg.GNSS_CH_COUNT : RegDef :=
  { name := "GNSS_CH_COUNT", off := 0x064,
    fields := [⟨"ACQ", 26, 16, .ro, 0x0⟩, ⟨"TRACK", 10, 0, .ro, 0x0⟩] }

def Reg.GNSS_RX_STATE : RegDef :=
  { name := "GNSS_RX_STATE", off := 0x068,
    fields := [⟨"NSAT_TIME", 31, 24, .ro, 0x0⟩, ⟨"TIME_SOLN_OK", 11, 11, .ro, 0x0⟩, ⟨"RETAINED_OK", 10, 10, .ro, 0x0⟩, ⟨"START_TYPE", 9, 8, .ro, 0x0⟩, ⟨"RX_STATE", 2, 0, .ro, 0x0⟩] }

def Reg.GNSS_RX_TTFF : RegDef :=
  { name := "GNSS_RX_TTFF", off := 0x06C,
    fields := [⟨"TTFF_MS", 19, 0, .ro, 0x0⟩] }

def Reg.GNSS_CH_ACQ_FAIL : RegDef :=
  { name := "GNSS_CH_ACQ_FAIL", off := 0x070,
    fields := [⟨"COUNT", 31, 0, .rc, 0x0⟩] }

/-- The registers of pages 0x054 to 0x054. -/
def pageRegs054_054 : List RegDef :=
  [Reg.GNSS_CH_INDEX, Reg.GNSS_CH_CFG, Reg.GNSS_CH_STAT, Reg.GNSS_CH_LOOP_L1, Reg.GNSS_CH_LOOP_L5, Reg.GNSS_CH_ACQ, Reg.GNSS_CH_THR, Reg.GNSS_CH_REACQ] ++
  [Reg.GNSS_CH_CMD, Reg.GNSS_CH_COUNT, Reg.GNSS_RX_STATE, Reg.GNSS_RX_TTFF, Reg.GNSS_CH_ACQ_FAIL]

/-! spec/03_satellite_receiver.md, pages 0x055 to 0x055. -/

def Reg.GNSS_MEAS_CTRL : RegDef :=
  { name := "GNSS_MEAS_CTRL", off := 0x040,
    fields := [⟨"RING_EN", 8, 8, .rwl, 0x0⟩, ⟨"PERIOD", 7, 0, .rwl, 0xA⟩] }

def Reg.GNSS_MEAS_RING_BASE : RegDef :=
  { name := "GNSS_MEAS_RING_BASE", off := 0x044, words := 2,
    fields := [⟨"BASE", 63, 5, .rwl, 0x0⟩] }

def Reg.GNSS_MEAS_RING_SIZE : RegDef :=
  { name := "GNSS_MEAS_RING_SIZE", off := 0x04C,
    fields := [⟨"SIZE", 20, 0, .rwl, 0x800⟩] }

def Reg.GNSS_MEAS_WPTR : RegDef :=
  { name := "GNSS_MEAS_WPTR", off := 0x050,
    fields := [⟨"INDEX", 19, 0, .ro, 0x0⟩] }

def Reg.GNSS_MEAS_RPTR : RegDef :=
  { name := "GNSS_MEAS_RPTR", off := 0x054,
    fields := [⟨"INDEX", 19, 0, .rw, 0x0⟩] }

def Reg.GNSS_MEAS_SEQ : RegDef :=
  { name := "GNSS_MEAS_SEQ", off := 0x058,
    fields := [⟨"SET_SEQ", 31, 0, .ro, 0x0⟩] }

def Reg.GNSS_MEAS_DROP : RegDef :=
  { name := "GNSS_MEAS_DROP", off := 0x05C,
    fields := [⟨"COUNT", 31, 0, .rc, 0x0⟩] }

def Reg.GNSS_MEAS_NOTIFY : RegDef :=
  { name := "GNSS_MEAS_NOTIFY", off := 0x060,
    fields := [⟨"EN", 31, 31, .rwl, 0x0⟩, ⟨"QUEUE", 5, 0, .rwl, 0x0⟩] }

def Reg.GNSS_MEAS_BASE : RegDef :=
  { name := "GNSS_MEAS_BASE", off := 0x064,
    fields := [⟨"DONE_US", 31, 16, .ro, 0x0⟩, ⟨"NSAT", 15, 8, .ro, 0x0⟩, ⟨"VALID", 7, 7, .ro, 0x0⟩, ⟨"SWITCHED", 6, 6, .ro, 0x0⟩, ⟨"BASE_ANT", 1, 0, .ro, 0x0⟩] }

def Reg.GNSS_MEAS_BASE_ORDER : RegDef :=
  { name := "GNSS_MEAS_BASE_ORDER", off := 0x068,
    fields := [⟨"ORDER", 7, 0, .rw, 0xE4⟩] }

def Reg.GNSS_MEAS_STAT : RegDef :=
  { name := "GNSS_MEAS_STAT", off := 0x06C,
    fields := [⟨"RING_FULL", 1, 1, .ro, 0x0⟩, ⟨"PERIOD_FORCED", 0, 0, .ro, 0x0⟩] }

def Reg.GNSS_MEAS_NOTIFY_LOST : RegDef :=
  { name := "GNSS_MEAS_NOTIFY_LOST", off := 0x070,
    fields := [⟨"COUNT", 31, 0, .rc, 0x0⟩] }

/-- The registers of pages 0x055 to 0x055. -/
def pageRegs055_055 : List RegDef :=
  [Reg.GNSS_MEAS_CTRL, Reg.GNSS_MEAS_RING_BASE, Reg.GNSS_MEAS_RING_SIZE, Reg.GNSS_MEAS_WPTR, Reg.GNSS_MEAS_RPTR, Reg.GNSS_MEAS_SEQ, Reg.GNSS_MEAS_DROP, Reg.GNSS_MEAS_NOTIFY] ++
  [Reg.GNSS_MEAS_BASE, Reg.GNSS_MEAS_BASE_ORDER, Reg.GNSS_MEAS_STAT, Reg.GNSS_MEAS_NOTIFY_LOST]

/-! spec/03_satellite_receiver.md, pages 0x056 to 0x056. -/

def Reg.GNSS_GUARD_CTRL : RegDef :=
  { name := "GNSS_GUARD_CTRL", off := 0x040,
    fields := [⟨"LIST_EN", 3, 3, .rwl, 0x1⟩, ⟨"CLK_EN", 2, 2, .rwl, 0x1⟩, ⟨"DOA_EN", 1, 1, .rwl, 0x1⟩, ⟨"IB_EN", 0, 0, .rwl, 0x1⟩] }

def Reg.GNSS_GUARD_IB_THR : RegDef :=
  { name := "GNSS_GUARD_IB_THR", off := 0x044,
    fields := [⟨"IONO_NEG_MM", 31, 16, .rwl, 0x7D0⟩, ⟨"IB_MM", 15, 0, .rwl, 0xBB8⟩] }

def Reg.GNSS_GUARD_DOA_THR : RegDef :=
  { name := "GNSS_GUARD_DOA_THR", off := 0x048,
    fields := [⟨"SPOOF_FRAC", 15, 8, .rwl, 0x55⟩, ⟨"THR", 7, 0, .rwl, 0x26⟩] }

def Reg.GNSS_GUARD_CLK_THR : RegDef :=
  { name := "GNSS_GUARD_CLK_THR", off := 0x04C,
    fields := [⟨"DOP", 31, 16, .rwl, 0x32⟩, ⟨"RNG_M", 15, 0, .rwl, 0x1E⟩] }

def Reg.GNSS_GUARD_JUMP_THR : RegDef :=
  { name := "GNSS_GUARD_JUMP_THR", off := 0x050,
    fields := [⟨"NS", 31, 0, .rwl, 0x64⟩] }

def Reg.GNSS_GUARD_MASK : RegDef :=
  { name := "GNSS_GUARD_MASK", off := 0x054,
    fields := [⟨"CN0", 17, 8, .rwl, 0x12C⟩, ⟨"ELEV", 7, 0, .rwl, 0xA⟩] }

def Reg.GNSS_GUARD_READMIT : RegDef :=
  { name := "GNSS_GUARD_READMIT", off := 0x058,
    fields := [⟨"LATCHES", 15, 0, .rwl, 0x64⟩] }

def Reg.GNSS_GUARD_MIN_SAT : RegDef :=
  { name := "GNSS_GUARD_MIN_SAT", off := 0x05C,
    fields := [⟨"COUNT", 7, 0, .rwl, 0x8⟩] }

def Reg.GNSS_GUARD_EXCL_LOG : RegDef :=
  { name := "GNSS_GUARD_EXCL_LOG", off := 0x060,
    fields := [⟨"VALID", 31, 31, .rc, 0x0⟩, ⟨"READMIT", 30, 30, .rc, 0x0⟩, ⟨"CAUSE", 28, 24, .rc, 0x0⟩, ⟨"SVID", 23, 16, .rc, 0x0⟩, ⟨"SYS", 15, 13, .rc, 0x0⟩, ⟨"BAND", 12, 12, .rc, 0x0⟩, ⟨"ANT", 11, 10, .rc, 0x0⟩, ⟨"CHANNEL", 9, 0, .rc, 0x0⟩] }

def Reg.GNSS_GUARD_EXCL_OVF : RegDef :=
  { name := "GNSS_GUARD_EXCL_OVF", off := 0x064,
    fields := [⟨"COUNT", 31, 0, .rc, 0x0⟩] }

def Reg.GNSS_GUARD_STAT : RegDef :=
  { name := "GNSS_GUARD_STAT", off := 0x068,
    fields := [⟨"EXCLUDED", 15, 8, .ro, 0x0⟩, ⟨"DOA_ACTIVE", 2, 2, .ro, 0x0⟩, ⟨"TIME_JUMP", 1, 1, .ro, 0x0⟩, ⟨"SPOOF_SUSPECT", 0, 0, .ro, 0x0⟩] }

def Reg.GNSS_GUARD_CNT : RegDef :=
  { name := "GNSS_GUARD_CNT", off := 0x080, count := 16, stride := 0x4,
    fields := [⟨"COUNT", 31, 0, .rc, 0x0⟩] }

def Reg.GNSS_GUARD_EXCL_LIST : RegDef :=
  { name := "GNSS_GUARD_EXCL_LIST", off := 0x100, count := 32, stride := 0x4,
    fields := [⟨"EXCL", 31, 0, .rw, 0x0⟩] }

/-- The registers of pages 0x056 to 0x056. -/
def pageRegs056_056 : List RegDef :=
  [Reg.GNSS_GUARD_CTRL, Reg.GNSS_GUARD_IB_THR, Reg.GNSS_GUARD_DOA_THR, Reg.GNSS_GUARD_CLK_THR, Reg.GNSS_GUARD_JUMP_THR, Reg.GNSS_GUARD_MASK, Reg.GNSS_GUARD_READMIT, Reg.GNSS_GUARD_MIN_SAT] ++
  [Reg.GNSS_GUARD_EXCL_LOG, Reg.GNSS_GUARD_EXCL_OVF, Reg.GNSS_GUARD_STAT, Reg.GNSS_GUARD_CNT, Reg.GNSS_GUARD_EXCL_LIST]

/-! spec/04_time_base.md, pages 0x040 to 0x041. -/

def Reg.TIME_d_CTRL : RegDef :=
  { name := "TIME_d_CTRL", off := 0x040,
    fields := [⟨"LOCK_CNT", 23, 16, .rwl, 0xA⟩, ⟨"SERVO_EN", 0, 0, .rwl, 0x1⟩] }

def Reg.TIME_d_SERVO : RegDef :=
  { name := "TIME_d_SERVO", off := 0x044,
    fields := [⟨"LOCK_NS", 31, 16, .rwl, 0x64⟩, ⟨"BW_MHZ", 15, 0, .rwl, 0xA⟩] }

def Reg.TIME_d_LOSS : RegDef :=
  { name := "TIME_d_LOSS", off := 0x048,
    fields := [⟨"LOSS_MS", 15, 0, .rwl, 0x3E8⟩] }

def Reg.TIME_d_STAT : RegDef :=
  { name := "TIME_d_STAT", off := 0x04C,
    fields := [⟨"GOOD", 31, 24, .ro, 0x0⟩, ⟨"FOLLOWED", 3, 3, .ro, 0x0⟩, ⟨"STATE", 2, 0, .ro, 0x0⟩] }

def Reg.TIME_d_OFFSET : RegDef :=
  { name := "TIME_d_OFFSET", off := 0x050, words := 2,
    fields := [⟨"OFFSET", 63, 0, .ro, 0x0⟩] }

def Reg.TIME_d_FREQ : RegDef :=
  { name := "TIME_d_FREQ", off := 0x058,
    fields := [⟨"FREQ", 31, 0, .ro, 0x0⟩] }

def Reg.TIME_d_CMD : RegDef :=
  { name := "TIME_d_CMD", off := 0x05C,
    fields := [⟨"CMD", 3, 0, .wo, 0x0⟩] }

/-- The registers of pages 0x040 to 0x041. -/
def pageRegs040_041 : List RegDef :=
  [Reg.TIME_d_CTRL, Reg.TIME_d_SERVO, Reg.TIME_d_LOSS, Reg.TIME_d_STAT, Reg.TIME_d_OFFSET, Reg.TIME_d_FREQ, Reg.TIME_d_CMD]

/-! spec/04_time_base.md, pages 0x041 to 0x041. -/

def Reg.TIME_B_PORT : RegDef :=
  { name := "TIME_B_PORT", off := 0x060,
    fields := [⟨"SLAVE_EN", 31, 31, .rwl, 0x0⟩, ⟨"ACTIVE", 20, 16, .ro, 0x0⟩, ⟨"BACKUP_EN", 15, 15, .rwl, 0x0⟩, ⟨"BACKUP", 12, 8, .rwl, 0x0⟩, ⟨"PRIMARY", 4, 0, .rwl, 0x0⟩] }

def Reg.TIME_B_MPORTS : RegDef :=
  { name := "TIME_B_MPORTS", off := 0x064,
    fields := [⟨"MASTER", 19, 0, .rwl, 0x0⟩] }

def Reg.TIME_B_PTPCFG : RegDef :=
  { name := "TIME_B_PTPCFG", off := 0x068,
    fields := [⟨"VID", 27, 16, .rwl, 0x0⟩, ⟨"TWO_STEP", 8, 8, .rwl, 0x0⟩, ⟨"DOMAIN", 7, 0, .rwl, 0x2C⟩] }

def Reg.TIME_B_ASYM_THR : RegDef :=
  { name := "TIME_B_ASYM_THR", off := 0x06C,
    fields := [⟨"CNT", 31, 24, .rwl, 0x8⟩, ⟨"NS", 23, 0, .rwl, 0x1F4⟩] }

def Reg.TIME_B_ASYM_CORR : RegDef :=
  { name := "TIME_B_ASYM_CORR", off := 0x070,
    fields := [⟨"CORR_NS", 31, 0, .rw, 0x0⟩] }

def Reg.TIME_B_ASYM_STAT : RegDef :=
  { name := "TIME_B_ASYM_STAT", off := 0x074,
    fields := [⟨"FLAGGED", 31, 31, .ro, 0x0⟩, ⟨"PORT", 4, 0, .ro, 0x0⟩] }

def Reg.TIME_B_MPD : RegDef :=
  { name := "TIME_B_MPD", off := 0x078,
    fields := [⟨"MPD", 31, 0, .ro, 0x0⟩] }

def Reg.TIME_B_MASTER : RegDef :=
  { name := "TIME_B_MASTER", off := 0x07C,
    fields := [⟨"STEPS", 23, 16, .ro, 0x0⟩, ⟨"CLASS", 7, 0, .ro, 0xFF⟩] }

def Reg.TIME_B_DISCARD : RegDef :=
  { name := "TIME_B_DISCARD", off := 0x080,
    fields := [⟨"COUNT", 31, 0, .rc, 0x0⟩] }

/-- The registers of pages 0x041 to 0x041. -/
def pageRegs041_041 : List RegDef :=
  [Reg.TIME_B_PORT, Reg.TIME_B_MPORTS, Reg.TIME_B_PTPCFG, Reg.TIME_B_ASYM_THR, Reg.TIME_B_ASYM_CORR, Reg.TIME_B_ASYM_STAT, Reg.TIME_B_MPD, Reg.TIME_B_MASTER] ++
  [Reg.TIME_B_DISCARD]

/-! spec/04_time_base.md, pages 0x042 to 0x042. -/

def Reg.TIME_OUT_CTRL : RegDef :=
  { name := "TIME_OUT_CTRL", off := 0x040,
    fields := [⟨"SEL", 1, 0, .rw, 0x0⟩] }

def Reg.TIME_OUT_INCR : RegDef :=
  { name := "TIME_OUT_INCR", off := 0x044, words := 2,
    fields := [⟨"INCR_LO", 31, 0, .rw, 0x0⟩, ⟨"INCR_HI", 39, 32, .rw, 0x2⟩] }

def Reg.TIME_OUT_TIME : RegDef :=
  { name := "TIME_OUT_TIME", off := 0x050, words := 4,
    fields := [⟨"FRAC", 31, 0, .ro, 0x0⟩, ⟨"NS", 63, 32, .ro, 0x0⟩, ⟨"SEC_LO", 95, 64, .ro, 0x0⟩, ⟨"SEC_HI", 111, 96, .ro, 0x0⟩] }

def Reg.TIME_OUT_STAT : RegDef :=
  { name := "TIME_OUT_STAT", off := 0x060,
    fields := [⟨"QUALITY", 31, 24, .ro, 0x0⟩, ⟨"TIME_VALID", 16, 16, .ro, 0x0⟩, ⟨"STEP_PENDING", 3, 3, .ro, 0x0⟩, ⟨"HOLDOVER", 2, 2, .ro, 0x0⟩, ⟨"FOLLOW", 1, 0, .ro, 0x0⟩] }

def Reg.TIME_OUT_HOLD_WARN_S : RegDef :=
  { name := "TIME_OUT_HOLD_WARN_S", off := 0x064,
    fields := [⟨"SECONDS", 31, 0, .rwl, 0x3C⟩] }

def Reg.TIME_OUT_HOLD_LIMIT_S : RegDef :=
  { name := "TIME_OUT_HOLD_LIMIT_S", off := 0x068,
    fields := [⟨"SECONDS", 31, 0, .rwl, 0xE10⟩] }

def Reg.TIME_OUT_VALID_LIMIT : RegDef :=
  { name := "TIME_OUT_VALID_LIMIT", off := 0x06C,
    fields := [⟨"NS", 31, 0, .rwl, 0xC350⟩] }

def Reg.TIME_OUT_TRANS : RegDef :=
  { name := "TIME_OUT_TRANS", off := 0x070, words := 2,
    fields := [⟨"X", 63, 0, .ro, 0x0⟩] }

def Reg.TIME_OUT_CORR : RegDef :=
  { name := "TIME_OUT_CORR", off := 0x078, words := 2,
    fields := [⟨"D", 63, 0, .ro, 0x0⟩] }

def Reg.TIME_OUT_UTC : RegDef :=
  { name := "TIME_OUT_UTC", off := 0x080,
    fields := [⟨"NEXT_OFFSET", 31, 16, .rw, 0x25⟩, ⟨"OFFSET", 15, 0, .rw, 0x25⟩] }

def Reg.TIME_OUT_UTC_AT : RegDef :=
  { name := "TIME_OUT_UTC_AT", off := 0x084, words := 2,
    fields := [⟨"SECOND", 47, 0, .rw, 0x0⟩] }

def Reg.TIME_OUT_CMD : RegDef :=
  { name := "TIME_OUT_CMD", off := 0x08C,
    fields := [⟨"CMD", 3, 0, .wo, 0x0⟩] }

def Reg.TIME_OUT_SET_SEC : RegDef :=
  { name := "TIME_OUT_SET_SEC", off := 0x090, words := 2,
    fields := [⟨"SECONDS", 47, 0, .rw, 0x0⟩] }

def Reg.TIME_OUT_SET_NS : RegDef :=
  { name := "TIME_OUT_SET_NS", off := 0x098,
    fields := [⟨"NS", 29, 0, .rw, 0x0⟩] }

def Reg.TIME_OUT_STEPS : RegDef :=
  { name := "TIME_OUT_STEPS", off := 0x09C,
    fields := [⟨"COUNT", 31, 0, .rc, 0x0⟩] }

def Reg.TIME_OUT_PULSE_INDEX : RegDef :=
  { name := "TIME_OUT_PULSE_INDEX", off := 0x0C0,
    fields := [⟨"INDEX", 3, 0, .rw, 0x0⟩] }

def Reg.TIME_OUT_PULSE_CTRL : RegDef :=
  { name := "TIME_OUT_PULSE_CTRL", off := 0x0C4,
    fields := [⟨"EN", 31, 31, .rw, 0x0⟩, ⟨"GATE_VALID", 1, 1, .rw, 0x0⟩, ⟨"INVERT", 0, 0, .rw, 0x0⟩] }

def Reg.TIME_OUT_PULSE_START_SEC : RegDef :=
  { name := "TIME_OUT_PULSE_START_SEC", off := 0x0C8, words := 2,
    fields := [⟨"SECONDS", 47, 0, .rw, 0x0⟩] }

def Reg.TIME_OUT_PULSE_START_NS : RegDef :=
  { name := "TIME_OUT_PULSE_START_NS", off := 0x0D0,
    fields := [⟨"NS", 29, 0, .rw, 0x0⟩] }

def Reg.TIME_OUT_PULSE_PERIOD_NS : RegDef :=
  { name := "TIME_OUT_PULSE_PERIOD_NS", off := 0x0D4,
    fields := [⟨"PERIOD", 31, 0, .rw, 0x3B9ACA00⟩] }

def Reg.TIME_OUT_PULSE_WIDTH_NS : RegDef :=
  { name := "TIME_OUT_PULSE_WIDTH_NS", off := 0x0D8,
    fields := [⟨"WIDTH", 31, 0, .rw, 0x989680⟩] }

def Reg.TIME_OUT_PULSE_SKIP : RegDef :=
  { name := "TIME_OUT_PULSE_SKIP", off := 0x0DC,
    fields := [⟨"COUNT", 31, 0, .rc, 0x0⟩] }

/-- The registers of pages 0x042 to 0x042. -/
def pageRegs042_042 : List RegDef :=
  [Reg.TIME_OUT_CTRL, Reg.TIME_OUT_INCR, Reg.TIME_OUT_TIME, Reg.TIME_OUT_STAT, Reg.TIME_OUT_HOLD_WARN_S, Reg.TIME_OUT_HOLD_LIMIT_S, Reg.TIME_OUT_VALID_LIMIT, Reg.TIME_OUT_TRANS] ++
  [Reg.TIME_OUT_CORR, Reg.TIME_OUT_UTC, Reg.TIME_OUT_UTC_AT, Reg.TIME_OUT_CMD, Reg.TIME_OUT_SET_SEC, Reg.TIME_OUT_SET_NS, Reg.TIME_OUT_STEPS, Reg.TIME_OUT_PULSE_INDEX] ++
  [Reg.TIME_OUT_PULSE_CTRL, Reg.TIME_OUT_PULSE_START_SEC, Reg.TIME_OUT_PULSE_START_NS, Reg.TIME_OUT_PULSE_PERIOD_NS, Reg.TIME_OUT_PULSE_WIDTH_NS, Reg.TIME_OUT_PULSE_SKIP]

/-! spec/04_time_base.md, pages 0x043 to 0x043. -/

def Reg.TIME_EVT_CTRL : RegDef :=
  { name := "TIME_EVT_CTRL", off := 0x040,
    fields := [⟨"EDGE", 15, 0, .rw, 0x0⟩] }

def Reg.TIME_EVT_STAT : RegDef :=
  { name := "TIME_EVT_STAT", off := 0x044,
    fields := [⟨"OVF", 15, 8, .w1c, 0x0⟩, ⟨"NONEMPTY", 7, 0, .ro, 0x0⟩] }

def Reg.TIME_EVT_LOST : RegDef :=
  { name := "TIME_EVT_LOST", off := 0x048,
    fields := [⟨"COUNT", 31, 0, .rc, 0x0⟩] }

def Reg.TIME_EVT_CAP_0x0 : RegDef :=
  { name := "TIME_EVT_CAP_0x0", off := 0x080, count := 8, stride := 0x10,
    fields := [⟨"VALID", 31, 31, .rc, 0x0⟩, ⟨"RISING", 30, 30, .rc, 0x0⟩, ⟨"NS", 29, 0, .rc, 0x0⟩] }

def Reg.TIME_EVT_CAP_0x4 : RegDef :=
  { name := "TIME_EVT_CAP_0x4", off := 0x084, count := 8, stride := 0x10,
    fields := [⟨"SEC_LO", 31, 0, .ro, 0x0⟩] }

def Reg.TIME_EVT_CAP_0x8 : RegDef :=
  { name := "TIME_EVT_CAP_0x8", off := 0x088, count := 8, stride := 0x10,
    fields := [⟨"QUALITY", 31, 24, .ro, 0x0⟩, ⟨"SEC_HI", 15, 0, .ro, 0x0⟩] }

/-- The registers of pages 0x043 to 0x043. -/
def pageRegs043_043 : List RegDef :=
  [Reg.TIME_EVT_CTRL, Reg.TIME_EVT_STAT, Reg.TIME_EVT_LOST, Reg.TIME_EVT_CAP_0x0, Reg.TIME_EVT_CAP_0x4, Reg.TIME_EVT_CAP_0x8]

/-- The pages described in this file. -/
def pageDefsA : List PageDef :=
  [⟨0x050, 0x053, pageRegs050_053⟩,
   ⟨0x054, 0x054, pageRegs054_054⟩,
   ⟨0x055, 0x055, pageRegs055_055⟩,
   ⟨0x056, 0x056, pageRegs056_056⟩,
   ⟨0x040, 0x041, pageRegs040_041⟩,
   ⟨0x041, 0x041, pageRegs041_041⟩,
   ⟨0x042, 0x042, pageRegs042_042⟩,
   ⟨0x043, 0x043, pageRegs043_043⟩]

end Sys2Proof.Machine
end

