-- ==== Sys2Proof/Machine/RegMapB.lean ====
section
/-! DEFINITION. The register tables of spec/05_fix_engine.md, spec/06_site_map.md, spec/07_track_planner.md,
field by field: bits, access type and reset value as the tables give them. -/

namespace Sys2Proof.Machine

/-! spec/05_fix_engine.md, pages 0x060 to 0x060. -/

def Reg.SOLV_CTRL : RegDef :=
  { name := "SOLV_CTRL", off := 0x040,
    fields := [⟨"EPOCH", 17, 16, .rwl, 0x1⟩, ⟨"BANK", 8, 8, .rw, 0x0⟩, ⟨"PREEMPT_EN", 1, 1, .rw, 0x1⟩, ⟨"SHARE_EN", 0, 0, .rwl, 0x0⟩] }

def Reg.SOLV_STAT : RegDef :=
  { name := "SOLV_STAT", off := 0x044,
    fields := [⟨"TILES_BUSY", 31, 16, .ro, 0x0⟩, ⟨"BANK_PENDING", 10, 10, .ro, 0x0⟩, ⟨"EPOCH_PENDING", 9, 9, .ro, 0x0⟩, ⟨"BANK_ACTIVE", 8, 8, .ro, 0x0⟩, ⟨"EPOCH_ACTIVE", 1, 0, .ro, 0x1⟩] }

def Reg.SOLV_TILES : RegDef :=
  { name := "SOLV_TILES", off := 0x048,
    fields := [⟨"EN", 15, 0, .rw, 0xFFFF⟩] }

def Reg.SOLV_DEADLINE : RegDef :=
  { name := "SOLV_DEADLINE", off := 0x04C,
    fields := [⟨"US", 16, 0, .rwl, 0x61A8⟩] }

def Reg.SOLV_PREEMPT : RegDef :=
  { name := "SOLV_PREEMPT", off := 0x050,
    fields := [⟨"US", 16, 0, .rw, 0x1388⟩] }

def Reg.SOLV_SHARE_WAIT : RegDef :=
  { name := "SOLV_SHARE_WAIT", off := 0x054,
    fields := [⟨"US", 15, 0, .rwl, 0x2710⟩] }

def Reg.SOLV_NONE_LIMIT : RegDef :=
  { name := "SOLV_NONE_LIMIT", off := 0x058,
    fields := [⟨"EPOCHS", 7, 0, .rw, 0xA⟩] }

def Reg.SOLV_VALID : RegDef :=
  { name := "SOLV_VALID", off := 0x05C,
    fields := [⟨"RATIO", 31, 16, .rwl, 0x300⟩, ⟨"PSUCC", 15, 0, .rwl, 0xFFBE⟩] }

def Reg.SOLV_PAR : RegDef :=
  { name := "SOLV_PAR", off := 0x060,
    fields := [⟨"MIN_AMB", 15, 8, .rwl, 0xA⟩, ⟨"DROP", 7, 0, .rwl, 0xE⟩] }

def Reg.SOLV_SLIP : RegDef :=
  { name := "SOLV_SLIP", off := 0x064,
    fields := [⟨"GF_MM", 31, 16, .rwl, 0x32⟩, ⟨"MW", 15, 0, .rwl, 0x32⟩] }

def Reg.SOLV_SEARCH : RegDef :=
  { name := "SOLV_SEARCH", off := 0x068,
    fields := [⟨"NODES", 31, 0, .rwl, 0x10000⟩] }

def Reg.SOLV_SIGMA : RegDef :=
  { name := "SOLV_SIGMA", off := 0x06C,
    fields := [⟨"CODE_CM", 31, 24, .rwl, 0x1E⟩, ⟨"PHASE_MM", 23, 16, .rwl, 0x3⟩, ⟨"DOP_CMS", 15, 8, .rwl, 0x5⟩] }

def Reg.SOLV_PROC : RegDef :=
  { name := "SOLV_PROC", off := 0x070,
    fields := [⟨"QV", 31, 16, .rwl, 0x2710⟩, ⟨"QI", 15, 0, .rwl, 0x64⟩] }

def Reg.SOLV_PL_K : RegDef :=
  { name := "SOLV_PL_K", off := 0x074,
    fields := [⟨"KH", 31, 16, .rwl, 0x62E⟩, ⟨"KV", 15, 0, .rwl, 0x554⟩] }

def Reg.SOLV_PL_ALERT : RegDef :=
  { name := "SOLV_PL_ALERT", off := 0x078,
    fields := [⟨"HAL_MM", 31, 16, .rw, 0x1F4⟩, ⟨"VAL_MM", 15, 0, .rw, 0x3E8⟩] }

def Reg.SOLV_OUTQ : RegDef :=
  { name := "SOLV_OUTQ", off := 0x07C,
    fields := [⟨"FW_EN", 31, 31, .rwl, 0x0⟩, ⟨"FW_QUEUE", 13, 8, .rwl, 0x0⟩, ⟨"TRACK_QUEUE", 5, 0, .rwl, 0x0⟩] }

def Reg.SOLV_STATE_BASE : RegDef :=
  { name := "SOLV_STATE_BASE", off := 0x080, words := 2,
    fields := [⟨"BASE", 63, 12, .rwl, 0x0⟩] }

def Reg.SOLV_QUEUE_STAT : RegDef :=
  { name := "SOLV_QUEUE_STAT", off := 0x088,
    fields := [⟨"PEAK", 25, 16, .rc, 0x0⟩, ⟨"DEPTH", 9, 0, .ro, 0x0⟩] }

def Reg.SOLV_LATE : RegDef :=
  { name := "SOLV_LATE", off := 0x08C,
    fields := [⟨"COUNT", 31, 0, .rc, 0x0⟩] }

def Reg.SOLV_DROP : RegDef :=
  { name := "SOLV_DROP", off := 0x090,
    fields := [⟨"COUNT", 31, 0, .rc, 0x0⟩] }

def Reg.SOLV_REFUSED : RegDef :=
  { name := "SOLV_REFUSED", off := 0x094,
    fields := [⟨"COUNT", 31, 0, .rc, 0x0⟩] }

def Reg.SOLV_REFUSE_LOG : RegDef :=
  { name := "SOLV_REFUSE_LOG", off := 0x098,
    fields := [⟨"VALID", 31, 31, .rc, 0x0⟩, ⟨"CAUSE", 27, 24, .rc, 0x0⟩, ⟨"MACHINE", 23, 16, .rc, 0x0⟩, ⟨"OBS_SEQ", 15, 0, .rc, 0x0⟩] }

def Reg.SOLV_NONE_LOG : RegDef :=
  { name := "SOLV_NONE_LOG", off := 0x09C,
    fields := [⟨"VALID", 31, 31, .rc, 0x0⟩, ⟨"MACHINE", 15, 8, .rc, 0x0⟩, ⟨"EPOCHS", 7, 0, .rc, 0x0⟩] }

def Reg.SOLV_SHARE_MASK : RegDef :=
  { name := "SOLV_SHARE_MASK", off := 0x0A0,
    fields := [⟨"MEMBERS", 15, 0, .rwl, 0x0⟩] }

def Reg.SOLV_SHARE_STAT : RegDef :=
  { name := "SOLV_SHARE_STAT", off := 0x0A4,
    fields := [⟨"ARRIVED", 15, 0, .ro, 0x0⟩] }

def Reg.SOLV_CMD : RegDef :=
  { name := "SOLV_CMD", off := 0x0A8,
    fields := [⟨"CMD", 31, 28, .wo, 0x0⟩, ⟨"MACHINE", 7, 0, .wo, 0x0⟩] }

def Reg.SOLV_CMD_STAT : RegDef :=
  { name := "SOLV_CMD_STAT", off := 0x0AC,
    fields := [⟨"BUSY", 31, 31, .ro, 0x0⟩, ⟨"RESULT", 3, 0, .ro, 0x0⟩] }

def Reg.SOLV_XFER_ADDR : RegDef :=
  { name := "SOLV_XFER_ADDR", off := 0x0B0, words := 2,
    fields := [⟨"ADDR", 63, 12, .rw, 0x0⟩] }

def Reg.SOLV_FIXES : RegDef :=
  { name := "SOLV_FIXES", off := 0x0B8,
    fields := [⟨"COUNT", 31, 0, .rc, 0x0⟩] }

def Reg.SOLV_MCFG : RegDef :=
  { name := "SOLV_MCFG", off := 0x400, count := 256, stride := 0x4,
    fields := [⟨"RESET", 31, 31, .w1s, 0x0⟩, ⟨"BASE_MEMBER", 27, 24, .ro, 0x0⟩, ⟨"RTCM_IN", 4, 4, .rw, 0x0⟩, ⟨"DOPPLER", 3, 3, .rw, 0x1⟩, ⟨"MODE", 1, 0, .rw, 0x0⟩] }

def Reg.SOLV_SCRIPT_A : RegDef :=
  { name := "SOLV_SCRIPT_A", off := 0x800, count := 64, stride := 0x4,
    fields := [⟨"WORD", 31, 0, .rw, 0x0⟩] }

def Reg.SOLV_SCRIPT_B : RegDef :=
  { name := "SOLV_SCRIPT_B", off := 0x900, count := 64, stride := 0x4,
    fields := [⟨"WORD", 31, 0, .rw, 0x0⟩] }

/-- The registers of pages 0x060 to 0x060. -/
def pageRegs060_060 : List RegDef :=
  [Reg.SOLV_CTRL, Reg.SOLV_STAT, Reg.SOLV_TILES, Reg.SOLV_DEADLINE, Reg.SOLV_PREEMPT, Reg.SOLV_SHARE_WAIT, Reg.SOLV_NONE_LIMIT, Reg.SOLV_VALID] ++
  [Reg.SOLV_PAR, Reg.SOLV_SLIP, Reg.SOLV_SEARCH, Reg.SOLV_SIGMA, Reg.SOLV_PROC, Reg.SOLV_PL_K, Reg.SOLV_PL_ALERT, Reg.SOLV_OUTQ] ++
  [Reg.SOLV_STATE_BASE, Reg.SOLV_QUEUE_STAT, Reg.SOLV_LATE, Reg.SOLV_DROP, Reg.SOLV_REFUSED, Reg.SOLV_REFUSE_LOG, Reg.SOLV_NONE_LOG, Reg.SOLV_SHARE_MASK] ++
  [Reg.SOLV_SHARE_STAT, Reg.SOLV_CMD, Reg.SOLV_CMD_STAT, Reg.SOLV_XFER_ADDR, Reg.SOLV_FIXES, Reg.SOLV_MCFG, Reg.SOLV_SCRIPT_A, Reg.SOLV_SCRIPT_B]

/-! spec/05_fix_engine.md, pages 0x061 to 0x070. -/

def Reg.ASTER_CTRL : RegDef :=
  { name := "ASTER_CTRL", off := 0x040,
    fields := [⟨"EVICT", 1, 1, .w1s, 0x0⟩, ⟨"HOLD", 0, 0, .rw, 0x0⟩] }

def Reg.ASTER_STAT : RegDef :=
  { name := "ASTER_STAT", off := 0x044,
    fields := [⟨"CTX1", 31, 28, .ro, 0x0⟩, ⟨"CTX0", 27, 24, .ro, 0x0⟩, ⟨"INDEX", 21, 16, .ro, 0x0⟩, ⟨"MACHINE", 15, 8, .ro, 0x0⟩, ⟨"RUN_CTX", 7, 7, .ro, 0x0⟩] }

def Reg.ASTER_SLACK : RegDef :=
  { name := "ASTER_SLACK", off := 0x048,
    fields := [⟨"US", 31, 0, .ro, 0x0⟩] }

def Reg.ASTER_FAULT : RegDef :=
  { name := "ASTER_FAULT", off := 0x04C,
    fields := [⟨"VALID", 31, 31, .rc, 0x0⟩, ⟨"CTX", 30, 30, .rc, 0x0⟩, ⟨"INDEX", 29, 24, .rc, 0x0⟩, ⟨"OP", 23, 16, .rc, 0x0⟩, ⟨"CAUSE", 7, 0, .rc, 0x0⟩] }

def Reg.ASTER_RUNS : RegDef :=
  { name := "ASTER_RUNS", off := 0x050,
    fields := [⟨"COUNT", 31, 0, .rc, 0x0⟩] }

def Reg.ASTER_BUSY_US : RegDef :=
  { name := "ASTER_BUSY_US", off := 0x054,
    fields := [⟨"COUNT", 31, 0, .rc, 0x0⟩] }

def Reg.ASTER_TEST : RegDef :=
  { name := "ASTER_TEST", off := 0x058,
    fields := [⟨"START", 31, 31, .w1s, 0x0⟩, ⟨"DONE", 30, 30, .ro, 0x0⟩, ⟨"PASS", 29, 29, .ro, 0x0⟩, ⟨"SIGNATURE", 15, 0, .ro, 0x0⟩] }

def Reg.ASTER_PREEMPTS : RegDef :=
  { name := "ASTER_PREEMPTS", off := 0x05C,
    fields := [⟨"COUNT", 31, 0, .rc, 0x0⟩] }

/-- The registers of pages 0x061 to 0x070. -/
def pageRegs061_070 : List RegDef :=
  [Reg.ASTER_CTRL, Reg.ASTER_STAT, Reg.ASTER_SLACK, Reg.ASTER_FAULT, Reg.ASTER_RUNS, Reg.ASTER_BUSY_US, Reg.ASTER_TEST, Reg.ASTER_PREEMPTS]

/-! spec/05_fix_engine.md, pages 0x071 to 0x071. -/

def Reg.CORR_CTRL : RegDef :=
  { name := "CORR_CTRL", off := 0x040,
    fields := [⟨"MSM7", 16, 16, .rw, 0x1⟩, ⟨"MBOX_EN", 9, 9, .rw, 0x0⟩, ⟨"RADIO_EN", 8, 8, .rw, 0x1⟩, ⟨"SYS_EN", 3, 0, .rw, 0xF⟩] }

def Reg.CORR_STAID : RegDef :=
  { name := "CORR_STAID", off := 0x044,
    fields := [⟨"ARP_H", 16, 16, .rw, 0x1⟩, ⟨"STAID", 11, 0, .rw, 0x0⟩] }

def Reg.CORR_PERIOD : RegDef :=
  { name := "CORR_PERIOD", off := 0x048,
    fields := [⟨"STA_EP", 31, 24, .rw, 0xA⟩, ⟨"DESC_EP", 23, 16, .rw, 0x64⟩, ⟨"BIAS_EP", 15, 8, .rw, 0x64⟩, ⟨"MSM_EP", 7, 0, .rw, 0x1⟩] }

def Reg.CORR_ARP_H : RegDef :=
  { name := "CORR_ARP_H", off := 0x04C,
    fields := [⟨"SETUP_ID", 23, 16, .rw, 0x0⟩, ⟨"HEIGHT", 15, 0, .rw, 0x0⟩] }

def Reg.CORR_QUEUE : RegDef :=
  { name := "CORR_QUEUE", off := 0x050,
    fields := [⟨"QUEUE", 5, 0, .rw, 0x0⟩] }

def Reg.CORR_STAT : RegDef :=
  { name := "CORR_STAT", off := 0x054,
    fields := [⟨"BYTES", 31, 16, .ro, 0x0⟩, ⟨"MSGS", 15, 8, .ro, 0x0⟩, ⟨"SKIPPED", 0, 0, .ro, 0x0⟩] }

def Reg.CORR_SKIP : RegDef :=
  { name := "CORR_SKIP", off := 0x058,
    fields := [⟨"COUNT", 31, 0, .rc, 0x0⟩] }

def Reg.CORR_SENT : RegDef :=
  { name := "CORR_SENT", off := 0x05C,
    fields := [⟨"COUNT", 31, 0, .rc, 0x0⟩] }

def Reg.CORR_DESC : RegDef :=
  { name := "CORR_DESC", off := 0x100, count := 40, stride := 0x4,
    fields := [⟨"TEXT", 31, 0, .rw, 0x0⟩] }

/-- The registers of pages 0x071 to 0x071. -/
def pageRegs071_071 : List RegDef :=
  [Reg.CORR_CTRL, Reg.CORR_STAID, Reg.CORR_PERIOD, Reg.CORR_ARP_H, Reg.CORR_QUEUE, Reg.CORR_STAT, Reg.CORR_SKIP, Reg.CORR_SENT] ++
  [Reg.CORR_DESC]

/-! spec/06_site_map.md, pages 0x080 to 0x080. -/

def Reg.ZONE_CTRL : RegDef :=
  { name := "ZONE_CTRL", off := 0x040,
    fields := [⟨"MIN_STATUS", 6, 4, .rw, 0x1⟩, ⟨"SPEED_EVT", 3, 3, .rw, 0x0⟩, ⟨"LOOKUP_EN", 0, 0, .rw, 0x0⟩] }

def Reg.ZONE_STAT : RegDef :=
  { name := "ZONE_STAT", off := 0x044,
    fields := [⟨"CMD_ACTIVE", 31, 31, .ro, 0x0⟩, ⟨"USED", 18, 0, .ro, 0x0⟩] }

def Reg.ZONE_ORIGIN_X : RegDef :=
  { name := "ZONE_ORIGIN_X", off := 0x048, words := 2,
    fields := [⟨"ORIGIN", 63, 0, .rwl, 0x0⟩] }

def Reg.ZONE_ORIGIN_Y : RegDef :=
  { name := "ZONE_ORIGIN_Y", off := 0x050, words := 2,
    fields := [⟨"ORIGIN", 63, 0, .rwl, 0x0⟩] }

def Reg.ZONE_ORIGIN_Z : RegDef :=
  { name := "ZONE_ORIGIN_Z", off := 0x058, words := 2,
    fields := [⟨"ORIGIN", 63, 0, .rwl, 0x0⟩] }

def Reg.ZONE_DEFAULT_SPEED : RegDef :=
  { name := "ZONE_DEFAULT_SPEED", off := 0x060,
    fields := [⟨"SPEED", 31, 0, .rw, 0xFFFFFFFF⟩] }

def Reg.ZONE_DEFAULT_FLAGS : RegDef :=
  { name := "ZONE_DEFAULT_FLAGS", off := 0x064,
    fields := [⟨"FLAGS", 4, 0, .rw, 0x0⟩] }

def Reg.ZONE_SPEED_TAB : RegDef :=
  { name := "ZONE_SPEED_TAB", off := 0x068, count := 7, stride := 0x4,
    fields := [⟨"HIGH", 31, 16, .rw, 0x0⟩, ⟨"LOW", 15, 0, .rw, 0x0⟩] }

def Reg.ZONE_HASH_SEED : RegDef :=
  { name := "ZONE_HASH_SEED", off := 0x084,
    fields := [⟨"SEED", 31, 0, .rwl, 0x5A17C3E9⟩] }

def Reg.ZONE_MAXKICK : RegDef :=
  { name := "ZONE_MAXKICK", off := 0x088,
    fields := [⟨"STEPS", 7, 0, .rw, 0x80⟩] }

def Reg.ZONE_MOVE_GEN : RegDef :=
  { name := "ZONE_MOVE_GEN", off := 0x08C,
    fields := [⟨"GEN", 31, 0, .ro, 0x0⟩] }

def Reg.ZONE_CMD : RegDef :=
  { name := "ZONE_CMD", off := 0x090,
    fields := [⟨"CMD", 31, 28, .wo, 0x0⟩] }

def Reg.ZONE_ENTRY : RegDef :=
  { name := "ZONE_ENTRY", off := 0x094, count := 4, stride := 0x4,
    fields := [⟨"WORD", 31, 0, .rw, 0x0⟩] }

def Reg.ZONE_CMD_STAT : RegDef :=
  { name := "ZONE_CMD_STAT", off := 0x0A4,
    fields := [⟨"BUSY", 31, 31, .ro, 0x0⟩, ⟨"RESULT", 3, 0, .ro, 0x0⟩] }

def Reg.ZONE_IMG_ADDR : RegDef :=
  { name := "ZONE_IMG_ADDR", off := 0x0A8, words := 2,
    fields := [⟨"ADDR", 63, 0, .rw, 0x0⟩] }

def Reg.ZONE_LOOKUPS : RegDef :=
  { name := "ZONE_LOOKUPS", off := 0x0B0,
    fields := [⟨"COUNT", 31, 0, .rc, 0x0⟩] }

def Reg.ZONE_REPEATS : RegDef :=
  { name := "ZONE_REPEATS", off := 0x0B4,
    fields := [⟨"COUNT", 31, 0, .rc, 0x0⟩] }

def Reg.ZONE_VIOLATIONS : RegDef :=
  { name := "ZONE_VIOLATIONS", off := 0x0B8,
    fields := [⟨"COUNT", 31, 0, .rc, 0x0⟩] }

def Reg.ZONE_VIOL_LOG : RegDef :=
  { name := "ZONE_VIOL_LOG", off := 0x0BC,
    fields := [⟨"VALID", 31, 31, .rc, 0x0⟩, ⟨"KIND", 30, 28, .rc, 0x0⟩, ⟨"MACHINE", 27, 20, .rc, 0x0⟩, ⟨"ZONE_ID", 15, 0, .rc, 0xFFFF⟩] }

def Reg.ZONE_MSTATE_INDEX : RegDef :=
  { name := "ZONE_MSTATE_INDEX", off := 0x0C0,
    fields := [⟨"MACHINE", 7, 0, .rw, 0x0⟩] }

def Reg.ZONE_MSTATE : RegDef :=
  { name := "ZONE_MSTATE", off := 0x0C4,
    fields := [⟨"ZONE_ID", 31, 16, .ro, 0xFFFF⟩, ⟨"FLAGS", 15, 11, .ro, 0x0⟩, ⟨"LEVEL", 10, 6, .ro, 0x0⟩, ⟨"OVERSPEED", 2, 2, .ro, 0x0⟩, ⟨"OUTSIDE", 1, 1, .ro, 0x0⟩, ⟨"KNOWN", 0, 0, .ro, 0x0⟩] }

def Reg.ZONE_MSTATE_EPOCH : RegDef :=
  { name := "ZONE_MSTATE_EPOCH", off := 0x0C8,
    fields := [⟨"EPOCH_MS", 31, 0, .ro, 0x0⟩] }

def Reg.ZONE_SITE_ID : RegDef :=
  { name := "ZONE_SITE_ID", off := 0x0CC,
    fields := [⟨"ID", 31, 0, .ro, 0x0⟩] }

def Reg.ZONE_SLOT_BASE : RegDef :=
  { name := "ZONE_SLOT_BASE", off := 0x0D0, words := 2,
    fields := [⟨"ADDR", 63, 0, .ro, 0x10000000⟩] }

def Reg.ZONE_FILTER_BASE : RegDef :=
  { name := "ZONE_FILTER_BASE", off := 0x0D8, words := 2,
    fields := [⟨"ADDR", 63, 0, .ro, 0x10400000⟩] }

def Reg.ZONE_LVL : RegDef :=
  { name := "ZONE_LVL", off := 0x100, count := 17, stride := 0x4,
    fields := [⟨"LOG2_BUCKETS", 31, 27, .rwl, 0x0⟩, ⟨"BASE", 15, 0, .rwl, 0x0⟩] }

/-- The registers of pages 0x080 to 0x080. -/
def pageRegs080_080 : List RegDef :=
  [Reg.ZONE_CTRL, Reg.ZONE_STAT, Reg.ZONE_ORIGIN_X, Reg.ZONE_ORIGIN_Y, Reg.ZONE_ORIGIN_Z, Reg.ZONE_DEFAULT_SPEED, Reg.ZONE_DEFAULT_FLAGS, Reg.ZONE_SPEED_TAB] ++
  [Reg.ZONE_HASH_SEED, Reg.ZONE_MAXKICK, Reg.ZONE_MOVE_GEN, Reg.ZONE_CMD, Reg.ZONE_ENTRY, Reg.ZONE_CMD_STAT, Reg.ZONE_IMG_ADDR, Reg.ZONE_LOOKUPS] ++
  [Reg.ZONE_REPEATS, Reg.ZONE_VIOLATIONS, Reg.ZONE_VIOL_LOG, Reg.ZONE_MSTATE_INDEX, Reg.ZONE_MSTATE, Reg.ZONE_MSTATE_EPOCH, Reg.ZONE_SITE_ID, Reg.ZONE_SLOT_BASE] ++
  [Reg.ZONE_FILTER_BASE, Reg.ZONE_LVL]

/-! spec/06_site_map.md, pages 0x081 to 0x081. -/

def Reg.XTAB_MACH_BASE : RegDef :=
  { name := "XTAB_MACH_BASE", off := 0x040, words := 2,
    fields := [⟨"ADDR", 63, 0, .ro, 0x10840000⟩] }

def Reg.XTAB_CELL_BASE : RegDef :=
  { name := "XTAB_CELL_BASE", off := 0x048, words := 2,
    fields := [⟨"ADDR", 63, 0, .ro, 0x10440000⟩] }

def Reg.XTAB_CELL_COUNT : RegDef :=
  { name := "XTAB_CELL_COUNT", off := 0x050,
    fields := [⟨"COUNT", 16, 0, .ro, 0x0⟩] }

def Reg.XTAB_CMD : RegDef :=
  { name := "XTAB_CMD", off := 0x054,
    fields := [⟨"CMD", 31, 28, .wo, 0x0⟩, ⟨"INDEX", 19, 0, .wo, 0x0⟩] }

def Reg.XTAB_CMD_STAT : RegDef :=
  { name := "XTAB_CMD_STAT", off := 0x058,
    fields := [⟨"BUSY", 31, 31, .ro, 0x0⟩, ⟨"RESULT", 3, 0, .ro, 0x0⟩] }

def Reg.XTAB_PROT_ERR : RegDef :=
  { name := "XTAB_PROT_ERR", off := 0x05C,
    fields := [⟨"COUNT", 31, 0, .rc, 0x0⟩] }

def Reg.XTAB_STAGE : RegDef :=
  { name := "XTAB_STAGE", off := 0x080, count := 16, stride := 0x4,
    fields := [⟨"WORD", 31, 0, .rw, 0x0⟩] }

/-- The registers of pages 0x081 to 0x081. -/
def pageRegs081_081 : List RegDef :=
  [Reg.XTAB_MACH_BASE, Reg.XTAB_CELL_BASE, Reg.XTAB_CELL_COUNT, Reg.XTAB_CMD, Reg.XTAB_CMD_STAT, Reg.XTAB_PROT_ERR, Reg.XTAB_STAGE]

/-! spec/06_site_map.md, pages 0x082 to 0x082. -/

def Reg.SHADOW_CTRL : RegDef :=
  { name := "SHADOW_CTRL", off := 0x040,
    fields := [⟨"REGION_EN", 20, 16, .rw, 0x1F⟩, ⟨"REPAIR", 1, 1, .rw, 0x1⟩, ⟨"EN", 0, 0, .rw, 0x0⟩] }

def Reg.SHADOW_BASE : RegDef :=
  { name := "SHADOW_BASE", off := 0x044, words := 2,
    fields := [⟨"BASE", 63, 12, .rwl, 0x0⟩] }

def Reg.SHADOW_RATE : RegDef :=
  { name := "SHADOW_RATE", off := 0x04C,
    fields := [⟨"BLOCKS", 15, 0, .rw, 0x10⟩] }

def Reg.SHADOW_STAT : RegDef :=
  { name := "SHADOW_STAT", off := 0x050,
    fields := [⟨"PASSES", 31, 16, .ro, 0x0⟩, ⟨"BLOCK", 15, 0, .ro, 0x0⟩] }

def Reg.SHADOW_MISMATCH : RegDef :=
  { name := "SHADOW_MISMATCH", off := 0x054,
    fields := [⟨"COUNT", 31, 0, .rc, 0x0⟩] }

def Reg.SHADOW_REPAIRED : RegDef :=
  { name := "SHADOW_REPAIRED", off := 0x058,
    fields := [⟨"COUNT", 31, 0, .rc, 0x0⟩] }

def Reg.SHADOW_SKIPPED : RegDef :=
  { name := "SHADOW_SKIPPED", off := 0x05C,
    fields := [⟨"COUNT", 31, 0, .rc, 0x0⟩] }

def Reg.SHADOW_LOG : RegDef :=
  { name := "SHADOW_LOG", off := 0x060,
    fields := [⟨"VALID", 31, 31, .rc, 0x0⟩, ⟨"REGION", 30, 28, .rc, 0x0⟩, ⟨"OUTCOME", 27, 24, .rc, 0x0⟩, ⟨"BLOCK", 15, 0, .rc, 0x0⟩] }

def Reg.SHADOW_CMD : RegDef :=
  { name := "SHADOW_CMD", off := 0x064,
    fields := [⟨"PASS", 0, 0, .wo, 0x0⟩] }

/-- The registers of pages 0x082 to 0x082. -/
def pageRegs082_082 : List RegDef :=
  [Reg.SHADOW_CTRL, Reg.SHADOW_BASE, Reg.SHADOW_RATE, Reg.SHADOW_STAT, Reg.SHADOW_MISMATCH, Reg.SHADOW_REPAIRED, Reg.SHADOW_SKIPPED, Reg.SHADOW_LOG] ++
  [Reg.SHADOW_CMD]

/-! spec/07_track_planner.md, pages 0x090 to 0x090. -/

def Reg.TRACK_CTRL : RegDef :=
  { name := "TRACK_CTRL", off := 0x040,
    fields := [⟨"DEV_COUNT", 31, 24, .rw, 0x1⟩, ⟨"MIN_STATUS", 10, 8, .rw, 0x2⟩, ⟨"BUMP_EN", 3, 3, .rw, 0x1⟩, ⟨"EARLY_REL", 2, 2, .rw, 0x1⟩, ⟨"TRACK_EN", 1, 1, .rw, 0x0⟩, ⟨"PLAN_EN", 0, 0, .rw, 0x0⟩] }

def Reg.TRACK_STAT : RegDef :=
  { name := "TRACK_STAT", off := 0x044,
    fields := [⟨"SHARED_WAIT", 3, 3, .ro, 0x0⟩, ⟨"COMMITTING", 2, 2, .ro, 0x0⟩, ⟨"SEARCHING", 1, 1, .ro, 0x0⟩, ⟨"STANDBY", 0, 0, .ro, 0x0⟩] }

def Reg.TRACK_TICK : RegDef :=
  { name := "TRACK_TICK", off := 0x048,
    fields := [⟨"TICK", 31, 0, .ro, 0x0⟩] }

def Reg.TRACK_HORIZON : RegDef :=
  { name := "TRACK_HORIZON", off := 0x04C,
    fields := [⟨"TICKS", 13, 0, .rwl, 0x2000⟩] }

def Reg.TRACK_LEAD : RegDef :=
  { name := "TRACK_LEAD", off := 0x050,
    fields := [⟨"TICKS", 15, 0, .rw, 0x14⟩] }

def Reg.TRACK_QUEUES : RegDef :=
  { name := "TRACK_QUEUES", off := 0x054,
    fields := [⟨"FIX_QUEUE", 29, 24, .rwl, 0x0⟩, ⟨"RES_QUEUE", 21, 16, .rwl, 0x0⟩, ⟨"EVT_QUEUE", 13, 8, .rwl, 0x0⟩, ⟨"ACK_QUEUE", 6, 1, .rwl, 0x0⟩, ⟨"EVT_EN", 0, 0, .rw, 0x1⟩] }

def Reg.TRACK_BUMP : RegDef :=
  { name := "TRACK_BUMP", off := 0x058,
    fields := [⟨"MAX", 26, 24, .rw, 0x4⟩, ⟨"LEAD_TICKS", 15, 0, .rw, 0xC8⟩] }

def Reg.TRACK_OVR : RegDef :=
  { name := "TRACK_OVR", off := 0x05C,
    fields := [⟨"EXT", 31, 16, .rw, 0x32⟩, ⟨"GRACE", 15, 0, .rw, 0xA⟩] }

def Reg.TRACK_SHR : RegDef :=
  { name := "TRACK_SHR", off := 0x060,
    fields := [⟨"TRIES", 27, 24, .rw, 0x3⟩, ⟨"RETRY_US", 15, 0, .rw, 0x7D0⟩] }

def Reg.TRACK_SEG_BASE : RegDef :=
  { name := "TRACK_SEG_BASE", off := 0x064, words := 2,
    fields := [⟨"BASE", 63, 22, .rwl, 0x0⟩] }

def Reg.TRACK_REPLANS : RegDef :=
  { name := "TRACK_REPLANS", off := 0x06C,
    fields := [⟨"COUNT", 31, 0, .rc, 0x0⟩] }

def Reg.TRACK_OVERRUNS : RegDef :=
  { name := "TRACK_OVERRUNS", off := 0x070,
    fields := [⟨"COUNT", 31, 0, .rc, 0x0⟩] }

def Reg.TRACK_FIX_DISCARD : RegDef :=
  { name := "TRACK_FIX_DISCARD", off := 0x074,
    fields := [⟨"COUNT", 31, 0, .rc, 0x0⟩] }

def Reg.TRACK_EVT_LOST : RegDef :=
  { name := "TRACK_EVT_LOST", off := 0x078,
    fields := [⟨"COUNT", 31, 0, .rc, 0x0⟩] }

def Reg.TRACK_CLASS : RegDef :=
  { name := "TRACK_CLASS", off := 0x100, count := 8, stride := 0x4,
    fields := [⟨"VMAX", 31, 16, .rw, 0x1388⟩, ⟨"CORRIDOR", 15, 0, .rw, 0x1F4⟩] }

/-- The registers of pages 0x090 to 0x090. -/
def pageRegs090_090 : List RegDef :=
  [Reg.TRACK_CTRL, Reg.TRACK_STAT, Reg.TRACK_TICK, Reg.TRACK_HORIZON, Reg.TRACK_LEAD, Reg.TRACK_QUEUES, Reg.TRACK_BUMP, Reg.TRACK_OVR] ++
  [Reg.TRACK_SHR, Reg.TRACK_SEG_BASE, Reg.TRACK_REPLANS, Reg.TRACK_OVERRUNS, Reg.TRACK_FIX_DISCARD, Reg.TRACK_EVT_LOST, Reg.TRACK_CLASS]

/-! spec/07_track_planner.md, pages 0x091 to 0x091. -/

def Reg.TRACK_RES_CTRL : RegDef :=
  { name := "TRACK_RES_CTRL", off := 0x040,
    fields := [⟨"SWEEP_EN", 0, 0, .rw, 0x1⟩] }

def Reg.TRACK_RES_USED : RegDef :=
  { name := "TRACK_RES_USED", off := 0x044,
    fields := [⟨"COUNT", 20, 0, .ro, 0x0⟩] }

def Reg.TRACK_RES_PEAK : RegDef :=
  { name := "TRACK_RES_PEAK", off := 0x048,
    fields := [⟨"COUNT", 20, 0, .rc, 0x0⟩] }

def Reg.TRACK_RES_FULL : RegDef :=
  { name := "TRACK_RES_FULL", off := 0x04C,
    fields := [⟨"COUNT", 31, 0, .rc, 0x0⟩] }

def Reg.TRACK_RES_DOUBT : RegDef :=
  { name := "TRACK_RES_DOUBT", off := 0x050,
    fields := [⟨"COUNT", 20, 0, .ro, 0x0⟩] }

def Reg.TRACK_RES_CMD : RegDef :=
  { name := "TRACK_RES_CMD", off := 0x054,
    fields := [⟨"CMD", 31, 28, .wo, 0x0⟩, ⟨"INDEX", 19, 0, .wo, 0x0⟩] }

def Reg.TRACK_RES_ARG0 : RegDef :=
  { name := "TRACK_RES_ARG0", off := 0x058,
    fields := [⟨"ARG", 31, 0, .rw, 0x0⟩] }

def Reg.TRACK_RES_ARG1 : RegDef :=
  { name := "TRACK_RES_ARG1", off := 0x05C,
    fields := [⟨"PRIO", 3, 0, .rw, 0x0⟩] }

def Reg.TRACK_RES_CMD_STAT : RegDef :=
  { name := "TRACK_RES_CMD_STAT", off := 0x060,
    fields := [⟨"BUSY", 31, 31, .ro, 0x0⟩, ⟨"COUNT", 18, 12, .ro, 0x0⟩, ⟨"RESULT", 3, 0, .ro, 0x0⟩] }

def Reg.TRACK_RES_RESULT : RegDef :=
  { name := "TRACK_RES_RESULT", off := 0x070, count := 4, stride := 0x4,
    fields := [⟨"WORD", 31, 0, .ro, 0x0⟩] }

def Reg.TRACK_RES_SWEPT : RegDef :=
  { name := "TRACK_RES_SWEPT", off := 0x080,
    fields := [⟨"COUNT", 31, 0, .rc, 0x0⟩] }

/-- The registers of pages 0x091 to 0x091. -/
def pageRegs091_091 : List RegDef :=
  [Reg.TRACK_RES_CTRL, Reg.TRACK_RES_USED, Reg.TRACK_RES_PEAK, Reg.TRACK_RES_FULL, Reg.TRACK_RES_DOUBT, Reg.TRACK_RES_CMD, Reg.TRACK_RES_ARG0, Reg.TRACK_RES_ARG1] ++
  [Reg.TRACK_RES_CMD_STAT, Reg.TRACK_RES_RESULT, Reg.TRACK_RES_SWEPT]

/-! spec/07_track_planner.md, pages 0x092 to 0x092. -/

def Reg.TRACK_PLAN_REQ : RegDef :=
  { name := "TRACK_PLAN_REQ", off := 0x040, count := 8, stride := 0x4,
    fields := [⟨"WORD", 31, 0, .rw, 0x0⟩] }

def Reg.TRACK_PLAN_SUBMIT : RegDef :=
  { name := "TRACK_PLAN_SUBMIT", off := 0x060,
    fields := [⟨"GO", 0, 0, .wo, 0x0⟩] }

def Reg.TRACK_PLAN_QSTAT : RegDef :=
  { name := "TRACK_PLAN_QSTAT", off := 0x064,
    fields := [⟨"DEPTH", 6, 0, .ro, 0x0⟩] }

def Reg.TRACK_PLAN_BUDGET : RegDef :=
  { name := "TRACK_PLAN_BUDGET", off := 0x068,
    fields := [⟨"NODES", 20, 0, .rw, 0x40000⟩] }

def Reg.TRACK_PLAN_SEARCH : RegDef :=
  { name := "TRACK_PLAN_SEARCH", off := 0x06C,
    fields := [⟨"OUTCOME", 31, 28, .ro, 0x0⟩, ⟨"EXPANSIONS", 22, 0, .ro, 0x0⟩] }

def Reg.TRACK_PLAN_LAST_US : RegDef :=
  { name := "TRACK_PLAN_LAST_US", off := 0x070,
    fields := [⟨"US", 31, 0, .ro, 0x0⟩] }

def Reg.TRACK_PLAN_MAX_US : RegDef :=
  { name := "TRACK_PLAN_MAX_US", off := 0x074,
    fields := [⟨"US", 31, 0, .rc, 0x0⟩] }

def Reg.TRACK_PLAN_PLANS : RegDef :=
  { name := "TRACK_PLAN_PLANS", off := 0x078,
    fields := [⟨"COUNT", 31, 0, .rc, 0x0⟩] }

def Reg.TRACK_PLAN_FAILS : RegDef :=
  { name := "TRACK_PLAN_FAILS", off := 0x07C,
    fields := [⟨"COUNT", 31, 0, .rc, 0x0⟩] }

def Reg.TRACK_PLAN_HEAP_PEAK : RegDef :=
  { name := "TRACK_PLAN_HEAP_PEAK", off := 0x080,
    fields := [⟨"NODES", 16, 0, .rc, 0x0⟩] }

def Reg.TRACK_PLAN_CANCEL : RegDef :=
  { name := "TRACK_PLAN_CANCEL", off := 0x084,
    fields := [⟨"GO", 31, 31, .wo, 0x0⟩, ⟨"MACHINE", 7, 0, .wo, 0x0⟩] }

def Reg.TRACK_PLAN_SHR_SERIAL : RegDef :=
  { name := "TRACK_PLAN_SHR_SERIAL", off := 0x088,
    fields := [⟨"SERIAL", 31, 0, .ro, 0x0⟩] }

def Reg.TRACK_PLAN_COMMIT_SEQ : RegDef :=
  { name := "TRACK_PLAN_COMMIT_SEQ", off := 0x08C,
    fields := [⟨"SEQ", 27, 0, .ro, 0x0⟩] }

/-- The registers of pages 0x092 to 0x092. -/
def pageRegs092_092 : List RegDef :=
  [Reg.TRACK_PLAN_REQ, Reg.TRACK_PLAN_SUBMIT, Reg.TRACK_PLAN_QSTAT, Reg.TRACK_PLAN_BUDGET, Reg.TRACK_PLAN_SEARCH, Reg.TRACK_PLAN_LAST_US, Reg.TRACK_PLAN_MAX_US, Reg.TRACK_PLAN_PLANS] ++
  [Reg.TRACK_PLAN_FAILS, Reg.TRACK_PLAN_HEAP_PEAK, Reg.TRACK_PLAN_CANCEL, Reg.TRACK_PLAN_SHR_SERIAL, Reg.TRACK_PLAN_COMMIT_SEQ]

/-- The pages described in this file. -/
def pageDefsB : List PageDef :=
  [⟨0x060, 0x060, pageRegs060_060⟩,
   ⟨0x061, 0x070, pageRegs061_070⟩,
   ⟨0x071, 0x071, pageRegs071_071⟩,
   ⟨0x080, 0x080, pageRegs080_080⟩,
   ⟨0x081, 0x081, pageRegs081_081⟩,
   ⟨0x082, 0x082, pageRegs082_082⟩,
   ⟨0x090, 0x090, pageRegs090_090⟩,
   ⟨0x091, 0x091, pageRegs091_091⟩,
   ⟨0x092, 0x092, pageRegs092_092⟩]

end Sys2Proof.Machine
end

