-- ==== Sys2Proof/Machine/RegMapC.lean ====
section
/-! DEFINITION. The register tables of spec/08_segments_and_axes.md, spec/09_malvo_radio.md, spec/10_poppy_plane.md,
field by field: bits, access type and reset value as the tables give them. -/

namespace Sys2Proof.Machine

/-! spec/08_segments_and_axes.md, pages 0x0A0 to 0x0A0. -/

def Reg.SEG_CTRL : RegDef :=
  { name := "SEG_CTRL", off := 0x040,
    fields := [⟨"ACK_QUEUE", 27, 22, .rwl, 0x0⟩, ⟨"EVT_QUEUE", 21, 16, .rwl, 0x0⟩, ⟨"GIVEUP_EP", 15, 8, .rw, 0xA⟩, ⟨"EVT_EN", 1, 1, .rw, 0x1⟩, ⟨"EN", 0, 0, .rw, 0x0⟩] }

def Reg.SEG_STAT : RegDef :=
  { name := "SEG_STAT", off := 0x044,
    fields := [⟨"PENDING", 8, 0, .ro, 0x0⟩] }

def Reg.SEG_SENT : RegDef :=
  { name := "SEG_SENT", off := 0x048,
    fields := [⟨"COUNT", 31, 0, .rc, 0x0⟩] }

def Reg.SEG_RESENT : RegDef :=
  { name := "SEG_RESENT", off := 0x04C,
    fields := [⟨"COUNT", 31, 0, .rc, 0x0⟩] }

def Reg.SEG_LATE : RegDef :=
  { name := "SEG_LATE", off := 0x050,
    fields := [⟨"COUNT", 31, 0, .rc, 0x0⟩] }

def Reg.SEG_GIVEUP : RegDef :=
  { name := "SEG_GIVEUP", off := 0x054,
    fields := [⟨"COUNT", 31, 0, .rc, 0x0⟩] }

def Reg.SEG_EVT_LOST : RegDef :=
  { name := "SEG_EVT_LOST", off := 0x058,
    fields := [⟨"COUNT", 31, 0, .rc, 0x0⟩] }

def Reg.SEG_MSTAT_INDEX : RegDef :=
  { name := "SEG_MSTAT_INDEX", off := 0x05C,
    fields := [⟨"MACHINE", 7, 0, .rw, 0x0⟩] }

def Reg.SEG_MSTAT : RegDef :=
  { name := "SEG_MSTAT", off := 0x060,
    fields := [⟨"CHUNK_OK", 31, 16, .ro, 0x0⟩, ⟨"CHUNKS", 15, 8, .ro, 0x0⟩, ⟨"COMPLETE", 1, 1, .ro, 0x0⟩, ⟨"DELIVERING", 0, 0, .ro, 0x0⟩] }

def Reg.SEG_MPLAN : RegDef :=
  { name := "SEG_MPLAN", off := 0x064,
    fields := [⟨"PLAN_ID", 31, 0, .ro, 0x0⟩] }

/-- The registers of pages 0x0A0 to 0x0A0. -/
def pageRegs0A0_0A0 : List RegDef :=
  [Reg.SEG_CTRL, Reg.SEG_STAT, Reg.SEG_SENT, Reg.SEG_RESENT, Reg.SEG_LATE, Reg.SEG_GIVEUP, Reg.SEG_EVT_LOST, Reg.SEG_MSTAT_INDEX] ++
  [Reg.SEG_MSTAT, Reg.SEG_MPLAN]

/-! spec/08_segments_and_axes.md, pages 0x0A1 to 0x0A8. -/

def Reg.AXIS_CTRL : RegDef :=
  { name := "AXIS_CTRL", off := 0x040,
    fields := [⟨"ENC_FAULT", 10, 10, .rw, 0x1⟩, ⟨"IDLE_EN", 9, 9, .rw, 0x1⟩, ⟨"STALL_EN", 8, 8, .rw, 0x0⟩, ⟨"SITE_STOP", 7, 7, .rwl, 0x0⟩, ⟨"HOME_LOW", 6, 6, .rwl, 0x0⟩, ⟨"LIM_LOW", 5, 5, .rwl, 0x0⟩, ⟨"ENC_INV", 4, 4, .rwl, 0x0⟩, ⟨"DIR_INV", 3, 3, .rwl, 0x0⟩, ⟨"ENA_LOW", 2, 2, .rwl, 0x0⟩, ⟨"ENC_EN", 1, 1, .rw, 0x0⟩, ⟨"EN", 0, 0, .rw, 0x0⟩] }

def Reg.AXIS_STAT : RegDef :=
  { name := "AXIS_STAT", off := 0x044,
    fields := [⟨"STATE", 31, 28, .ro, 0x0⟩, ⟨"CAUSE", 27, 24, .ro, 0x0⟩, ⟨"ACC_DEFERRED", 8, 8, .ro, 0x0⟩, ⟨"RESUMABLE", 7, 7, .ro, 0x0⟩, ⟨"HOMED", 6, 6, .ro, 0x0⟩, ⟨"AT_REST", 5, 5, .ro, 0x1⟩, ⟨"IDLE_CURRENT", 4, 4, .ro, 0x0⟩, ⟨"HOME", 2, 2, .ro, 0x0⟩, ⟨"LIM_POS", 1, 1, .ro, 0x0⟩, ⟨"LIM_NEG", 0, 0, .ro, 0x0⟩] }

def Reg.AXIS_CMD : RegDef :=
  { name := "AXIS_CMD", off := 0x048,
    fields := [⟨"CMD", 3, 0, .wo, 0x0⟩] }

def Reg.AXIS_TARGET : RegDef :=
  { name := "AXIS_TARGET", off := 0x04C,
    fields := [⟨"STEPS", 31, 0, .rw, 0x0⟩] }

def Reg.AXIS_VMAX : RegDef :=
  { name := "AXIS_VMAX", off := 0x050,
    fields := [⟨"STEPS_S", 20, 0, .rw, 0x2710⟩] }

def Reg.AXIS_ACC : RegDef :=
  { name := "AXIS_ACC", off := 0x054,
    fields := [⟨"STEPS_S2", 31, 0, .rw, 0x186A0⟩] }

def Reg.AXIS_DEC : RegDef :=
  { name := "AXIS_DEC", off := 0x058,
    fields := [⟨"STEPS_S2", 31, 0, .rw, 0x186A0⟩] }

def Reg.AXIS_STOP_DEC : RegDef :=
  { name := "AXIS_STOP_DEC", off := 0x05C,
    fields := [⟨"STEPS_S2", 31, 0, .rw, 0x186A0⟩] }

def Reg.AXIS_CMD_POS : RegDef :=
  { name := "AXIS_CMD_POS", off := 0x060,
    fields := [⟨"STEPS", 31, 0, .ro, 0x0⟩] }

def Reg.AXIS_ENC_POS : RegDef :=
  { name := "AXIS_ENC_POS", off := 0x064,
    fields := [⟨"COUNTS", 31, 0, .ro, 0x0⟩] }

def Reg.AXIS_CMD_VEL : RegDef :=
  { name := "AXIS_CMD_VEL", off := 0x068,
    fields := [⟨"VEL", 31, 0, .ro, 0x0⟩] }

def Reg.AXIS_REMAIN : RegDef :=
  { name := "AXIS_REMAIN", off := 0x06C,
    fields := [⟨"STEPS", 31, 0, .ro, 0x0⟩] }

def Reg.AXIS_ENC_RATIO : RegDef :=
  { name := "AXIS_ENC_RATIO", off := 0x070,
    fields := [⟨"NUM", 31, 16, .rwl, 0x1⟩, ⟨"DEN", 15, 0, .rwl, 0x1⟩] }

def Reg.AXIS_STALL : RegDef :=
  { name := "AXIS_STALL", off := 0x074,
    fields := [⟨"MS", 31, 24, .rw, 0x5⟩, ⟨"WINDOW", 23, 0, .rw, 0x64⟩] }

def Reg.AXIS_DEBOUNCE : RegDef :=
  { name := "AXIS_DEBOUNCE", off := 0x078,
    fields := [⟨"HOME_US", 31, 16, .rw, 0x7D0⟩, ⟨"LIM_US", 15, 0, .rw, 0xC8⟩] }

def Reg.AXIS_IDLE : RegDef :=
  { name := "AXIS_IDLE", off := 0x07C,
    fields := [⟨"WAKE_MS", 31, 24, .rw, 0x0⟩, ⟨"DELAY_MS", 23, 16, .rw, 0x64⟩, ⟨"IDLE_PCT", 15, 8, .rw, 0x32⟩, ⟨"RUN_PCT", 7, 0, .rw, 0x64⟩] }

def Reg.AXIS_HOME_CFG : RegDef :=
  { name := "AXIS_HOME_CFG", off := 0x080,
    fields := [⟨"DIR", 0, 0, .rw, 0x1⟩] }

def Reg.AXIS_HOME_FAST : RegDef :=
  { name := "AXIS_HOME_FAST", off := 0x084,
    fields := [⟨"STEPS_S", 20, 0, .rw, 0x2710⟩] }

def Reg.AXIS_HOME_SLOW : RegDef :=
  { name := "AXIS_HOME_SLOW", off := 0x088,
    fields := [⟨"STEPS_S", 20, 0, .rw, 0x7D0⟩] }

def Reg.AXIS_BACKOFF : RegDef :=
  { name := "AXIS_BACKOFF", off := 0x08C,
    fields := [⟨"STEPS", 31, 0, .rw, 0x190⟩] }

def Reg.AXIS_HOME_OFFSET : RegDef :=
  { name := "AXIS_HOME_OFFSET", off := 0x090,
    fields := [⟨"STEPS", 31, 0, .rw, 0x0⟩] }

def Reg.AXIS_HOME_LATCH : RegDef :=
  { name := "AXIS_HOME_LATCH", off := 0x094,
    fields := [⟨"COUNTS", 31, 0, .ro, 0x0⟩] }

def Reg.AXIS_TABLE_BASE : RegDef :=
  { name := "AXIS_TABLE_BASE", off := 0x098, words := 2,
    fields := [⟨"ADDR", 63, 4, .rw, 0x0⟩] }

def Reg.AXIS_TABLE_COUNT : RegDef :=
  { name := "AXIS_TABLE_COUNT", off := 0x0A0,
    fields := [⟨"COUNT", 15, 0, .rw, 0x0⟩] }

def Reg.AXIS_TABLE_AT : RegDef :=
  { name := "AXIS_TABLE_AT", off := 0x0A4,
    fields := [⟨"MS", 31, 0, .rw, 0x0⟩] }

def Reg.AXIS_SEQ : RegDef :=
  { name := "AXIS_SEQ", off := 0x0A8,
    fields := [⟨"SEGAUX", 31, 16, .ro, 0x0⟩, ⟨"SEQ", 15, 0, .ro, 0x0⟩] }

def Reg.AXIS_STEP_CFG : RegDef :=
  { name := "AXIS_STEP_CFG", off := 0x0AC,
    fields := [⟨"DIR_NS", 31, 16, .rw, 0x3E8⟩, ⟨"PULSE_NS", 15, 0, .rw, 0xFA⟩] }

def Reg.AXIS_ENC_ERR : RegDef :=
  { name := "AXIS_ENC_ERR", off := 0x0B0,
    fields := [⟨"COUNT", 31, 0, .rc, 0x0⟩] }

/-- The registers of pages 0x0A1 to 0x0A8. -/
def pageRegs0A1_0A8 : List RegDef :=
  [Reg.AXIS_CTRL, Reg.AXIS_STAT, Reg.AXIS_CMD, Reg.AXIS_TARGET, Reg.AXIS_VMAX, Reg.AXIS_ACC, Reg.AXIS_DEC, Reg.AXIS_STOP_DEC] ++
  [Reg.AXIS_CMD_POS, Reg.AXIS_ENC_POS, Reg.AXIS_CMD_VEL, Reg.AXIS_REMAIN, Reg.AXIS_ENC_RATIO, Reg.AXIS_STALL, Reg.AXIS_DEBOUNCE, Reg.AXIS_IDLE] ++
  [Reg.AXIS_HOME_CFG, Reg.AXIS_HOME_FAST, Reg.AXIS_HOME_SLOW, Reg.AXIS_BACKOFF, Reg.AXIS_HOME_OFFSET, Reg.AXIS_HOME_LATCH, Reg.AXIS_TABLE_BASE, Reg.AXIS_TABLE_COUNT] ++
  [Reg.AXIS_TABLE_AT, Reg.AXIS_SEQ, Reg.AXIS_STEP_CFG, Reg.AXIS_ENC_ERR]

/-! spec/09_malvo_radio.md, pages 0x0B0 to 0x0B0. -/

def Reg.RADIO_CTRL : RegDef :=
  { name := "RADIO_CTRL", off := 0x040,
    fields := [⟨"PRIMROSE_EN", 8, 8, .rwl, 0x0⟩, ⟨"UNIT", 2, 2, .rwl, 0x0⟩, ⟨"PAIR", 1, 1, .rwl, 0x0⟩, ⟨"EN", 0, 0, .rw, 0x0⟩] }

def Reg.RADIO_STAT : RegDef :=
  { name := "RADIO_STAT", off := 0x044,
    fields := [⟨"LINK_UP", 23, 16, .ro, 0x0⟩, ⟨"SECT_RUN", 15, 8, .ro, 0x0⟩, ⟨"GRID", 2, 2, .ro, 0x0⟩, ⟨"WATCH", 1, 1, .ro, 0x0⟩, ⟨"ACTIVE", 0, 0, .ro, 0x0⟩] }

def Reg.RADIO_MEMBER_ID : RegDef :=
  { name := "RADIO_MEMBER_ID", off := 0x048, words := 2,
    fields := [⟨"ID", 47, 0, .rwl, 0x0⟩] }

def Reg.RADIO_KEY : RegDef :=
  { name := "RADIO_KEY", off := 0x050,
    fields := [⟨"LINK_SLOT", 9, 0, .rwl, 0x0⟩] }

def Reg.RADIO_RANGE : RegDef :=
  { name := "RADIO_RANGE", off := 0x054,
    fields := [⟨"METRES", 11, 0, .rwl, 0xBB8⟩] }

def Reg.RADIO_FWQ : RegDef :=
  { name := "RADIO_FWQ", off := 0x058,
    fields := [⟨"EN", 31, 31, .rwl, 0x0⟩, ⟨"RX_QUEUE", 13, 8, .rwl, 0x0⟩, ⟨"TX_QUEUE", 5, 0, .rwl, 0x0⟩] }

def Reg.RADIO_PRIMROSE : RegDef :=
  { name := "RADIO_PRIMROSE", off := 0x05C,
    fields := [⟨"ASSOC_EN", 16, 16, .rw, 0x1⟩, ⟨"TIMEOUT_S", 15, 0, .rw, 0x3C⟩] }

def Reg.RADIO_WATCH : RegDef :=
  { name := "RADIO_WATCH", off := 0x060,
    fields := [⟨"EN", 8, 8, .rw, 0x0⟩, ⟨"SECT", 2, 0, .rw, 0x0⟩] }

def Reg.RADIO_MSTAT_INDEX : RegDef :=
  { name := "RADIO_MSTAT_INDEX", off := 0x064,
    fields := [⟨"MACHINE", 7, 0, .rw, 0x0⟩] }

def Reg.RADIO_MSTAT : RegDef :=
  { name := "RADIO_MSTAT", off := 0x068,
    fields := [⟨"SHORT_ADDR", 31, 16, .ro, 0xFFFF⟩, ⟨"ASSOC", 15, 15, .ro, 0x0⟩, ⟨"HEARD", 7, 7, .ro, 0x0⟩, ⟨"SECT", 2, 0, .ro, 0x0⟩] }

def Reg.RADIO_FW_DROP : RegDef :=
  { name := "RADIO_FW_DROP", off := 0x06C,
    fields := [⟨"COUNT", 31, 0, .rc, 0x0⟩] }

def Reg.RADIO_CORR_CUT : RegDef :=
  { name := "RADIO_CORR_CUT", off := 0x070,
    fields := [⟨"COUNT", 31, 0, .rc, 0x0⟩] }

def Reg.RADIO_ASSOCS : RegDef :=
  { name := "RADIO_ASSOCS", off := 0x074,
    fields := [⟨"COUNT", 31, 0, .rc, 0x0⟩] }

def Reg.RADIO_WATCH_POLLS : RegDef :=
  { name := "RADIO_WATCH_POLLS", off := 0x078,
    fields := [⟨"COUNT", 31, 0, .rc, 0x0⟩] }

/-- The registers of pages 0x0B0 to 0x0B0. -/
def pageRegs0B0_0B0 : List RegDef :=
  [Reg.RADIO_CTRL, Reg.RADIO_STAT, Reg.RADIO_MEMBER_ID, Reg.RADIO_KEY, Reg.RADIO_RANGE, Reg.RADIO_FWQ, Reg.RADIO_PRIMROSE, Reg.RADIO_WATCH] ++
  [Reg.RADIO_MSTAT_INDEX, Reg.RADIO_MSTAT, Reg.RADIO_FW_DROP, Reg.RADIO_CORR_CUT, Reg.RADIO_ASSOCS, Reg.RADIO_WATCH_POLLS]

/-! spec/09_malvo_radio.md, pages 0x0B1 to 0x0B8. -/

def Reg.SECT_CTRL : RegDef :=
  { name := "SECT_CTRL", off := 0x040,
    fields := [⟨"BANK", 8, 8, .rw, 0x0⟩, ⟨"DATA_RATE", 5, 4, .rw, 0x3⟩, ⟨"WIDTH", 1, 1, .rwl, 0x0⟩, ⟨"EN", 0, 0, .rw, 0x0⟩] }

def Reg.SECT_STAT : RegDef :=
  { name := "SECT_STAT", off := 0x044,
    fields := [⟨"CYCLE_SLOT", 31, 22, .ro, 0x0⟩, ⟨"JESD_TX", 21, 19, .ro, 0x0⟩, ⟨"JESD_RX", 18, 16, .ro, 0x0⟩, ⟨"BANK_PENDING", 10, 10, .ro, 0x0⟩, ⟨"BANK_ACTIVE", 9, 9, .ro, 0x0⟩, ⟨"RUNNING", 8, 8, .ro, 0x0⟩, ⟨"PROG_WORD", 7, 0, .ro, 0x0⟩] }

def Reg.SECT_JESD : RegDef :=
  { name := "SECT_JESD", off := 0x048,
    fields := [⟨"RBD", 12, 8, .rwl, 0x0⟩, ⟨"SCRAMBLE", 2, 2, .rwl, 0x1⟩, ⟨"RX_INV", 1, 1, .rwl, 0x0⟩, ⟨"TX_INV", 0, 0, .rwl, 0x0⟩] }

def Reg.SECT_COMP : RegDef :=
  { name := "SECT_COMP", off := 0x04C,
    fields := [⟨"RX_NS", 31, 16, .rwl, 0x0⟩, ⟨"TX_NS", 15, 0, .rwl, 0x0⟩] }

def Reg.SECT_CHANNEL : RegDef :=
  { name := "SECT_CHANNEL", off := 0x050,
    fields := [⟨"ID", 7, 0, .rw, 0x0⟩] }

def Reg.SECT_PROG_TAG : RegDef :=
  { name := "SECT_PROG_TAG", off := 0x054,
    fields := [⟨"TAG", 15, 0, .rw, 0x0⟩] }

def Reg.SECT_TX_FRAMES : RegDef :=
  { name := "SECT_TX_FRAMES", off := 0x060,
    fields := [⟨"COUNT", 31, 0, .rc, 0x0⟩] }

def Reg.SECT_RX_OK : RegDef :=
  { name := "SECT_RX_OK", off := 0x064,
    fields := [⟨"COUNT", 31, 0, .rc, 0x0⟩] }

def Reg.SECT_RX_FCS : RegDef :=
  { name := "SECT_RX_FCS", off := 0x068,
    fields := [⟨"COUNT", 31, 0, .rc, 0x0⟩] }

def Reg.SECT_RX_TAG : RegDef :=
  { name := "SECT_RX_TAG", off := 0x06C,
    fields := [⟨"COUNT", 31, 0, .rc, 0x0⟩] }

def Reg.SECT_RUNT : RegDef :=
  { name := "SECT_RUNT", off := 0x070,
    fields := [⟨"COUNT", 31, 0, .rc, 0x0⟩] }

def Reg.SECT_GIANT : RegDef :=
  { name := "SECT_GIANT", off := 0x074,
    fields := [⟨"COUNT", 31, 0, .rc, 0x0⟩] }

def Reg.SECT_RX_PHY : RegDef :=
  { name := "SECT_RX_PHY", off := 0x078,
    fields := [⟨"COUNT", 31, 0, .rc, 0x0⟩] }

def Reg.SECT_DUP : RegDef :=
  { name := "SECT_DUP", off := 0x07C,
    fields := [⟨"COUNT", 31, 0, .rc, 0x0⟩] }

def Reg.SECT_FOREIGN : RegDef :=
  { name := "SECT_FOREIGN", off := 0x080,
    fields := [⟨"COUNT", 31, 0, .rc, 0x0⟩] }

def Reg.SECT_OVERLONG : RegDef :=
  { name := "SECT_OVERLONG", off := 0x084,
    fields := [⟨"COUNT", 31, 0, .rc, 0x0⟩] }

def Reg.SECT_ACK_MISS : RegDef :=
  { name := "SECT_ACK_MISS", off := 0x088,
    fields := [⟨"COUNT", 31, 0, .rc, 0x0⟩] }

def Reg.SECT_TOKEN_ABSENT : RegDef :=
  { name := "SECT_TOKEN_ABSENT", off := 0x08C,
    fields := [⟨"COUNT", 31, 0, .rc, 0x0⟩] }

def Reg.SECT_PROG_A : RegDef :=
  { name := "SECT_PROG_A", off := 0x800, count := 256, stride := 0x4,
    fields := [⟨"WORD", 31, 0, .rw, 0x0⟩] }

def Reg.SECT_PROG_B : RegDef :=
  { name := "SECT_PROG_B", off := 0xC00, count := 256, stride := 0x4,
    fields := [⟨"WORD", 31, 0, .rw, 0x0⟩] }

/-- The registers of pages 0x0B1 to 0x0B8. -/
def pageRegs0B1_0B8 : List RegDef :=
  [Reg.SECT_CTRL, Reg.SECT_STAT, Reg.SECT_JESD, Reg.SECT_COMP, Reg.SECT_CHANNEL, Reg.SECT_PROG_TAG, Reg.SECT_TX_FRAMES, Reg.SECT_RX_OK] ++
  [Reg.SECT_RX_FCS, Reg.SECT_RX_TAG, Reg.SECT_RUNT, Reg.SECT_GIANT, Reg.SECT_RX_PHY, Reg.SECT_DUP, Reg.SECT_FOREIGN, Reg.SECT_OVERLONG] ++
  [Reg.SECT_ACK_MISS, Reg.SECT_TOKEN_ABSENT, Reg.SECT_PROG_A, Reg.SECT_PROG_B]

/-! spec/10_poppy_plane.md, pages 0x0C0 to 0x0C0. -/

def Reg.POPPY_STAT : RegDef :=
  { name := "POPPY_STAT", off := 0x040,
    fields := [⟨"CAUSE", 31, 24, .ro, 0xD⟩, ⟨"DETAIL", 23, 16, .ro, 0x0⟩, ⟨"SITE_PERMIT", 15, 15, .ro, 0x0⟩, ⟨"ISSUING", 14, 14, .ro, 0x0⟩, ⟨"OUT_ENERGISED", 13, 13, .ro, 0x0⟩, ⟨"FAULT", 12, 12, .ro, 0x0⟩, ⟨"PARTNER_OK", 11, 11, .ro, 0x0⟩, ⟨"KEYS_OK", 7, 7, .ro, 0x0⟩, ⟨"AGREE", 6, 6, .ro, 0x0⟩, ⟨"LOOPS_CLOSED", 5, 5, .ro, 0x0⟩, ⟨"ARM_OK", 4, 4, .ro, 0x0⟩, ⟨"TIME_OK", 3, 3, .ro, 0x0⟩, ⟨"ROLE", 1, 0, .ro, 0x0⟩] }

def Reg.POPPY_TOKEN_SFN : RegDef :=
  { name := "POPPY_TOKEN_SFN", off := 0x044,
    fields := [⟨"SFN", 31, 0, .ro, 0x0⟩] }

def Reg.POPPY_ARM : RegDef :=
  { name := "POPPY_ARM", off := 0x048,
    fields := [⟨"WORD", 31, 0, .wo, 0x0⟩] }

def Reg.POPPY_ARM_STAT : RegDef :=
  { name := "POPPY_ARM_STAT", off := 0x04C,
    fields := [⟨"AGE_MS", 31, 16, .ro, 0xFFFF⟩, ⟨"COUNT", 15, 0, .ro, 0x0⟩] }

def Reg.POPPY_REQ : RegDef :=
  { name := "POPPY_REQ", off := 0x050,
    fields := [⟨"OP", 31, 28, .wo, 0x0⟩, ⟨"DETAIL", 23, 16, .wo, 0x0⟩, ⟨"MACHINE", 7, 0, .wo, 0x0⟩] }

def Reg.POPPY_REQ_STAT : RegDef :=
  { name := "POPPY_REQ_STAT", off := 0x054,
    fields := [⟨"LAST_STOP_ID", 31, 16, .ro, 0x0⟩, ⟨"COUNT", 15, 0, .ro, 0x0⟩] }

def Reg.POPPY_ROLE : RegDef :=
  { name := "POPPY_ROLE", off := 0x058,
    fields := [⟨"ROLE", 1, 0, .wo, 0x0⟩] }

def Reg.POPPY_DISAGREE : RegDef :=
  { name := "POPPY_DISAGREE", off := 0x05C,
    fields := [⟨"COUNT", 31, 0, .rc, 0x0⟩] }

def Reg.POPPY_MAP : RegDef :=
  { name := "POPPY_MAP", off := 0x060, count := 8, stride := 0x4,
    fields := [⟨"BITS", 31, 0, .ro, 0x0⟩] }

def Reg.POPPY_STOPS : RegDef :=
  { name := "POPPY_STOPS", off := 0x080,
    fields := [⟨"NEWEST_ID", 31, 16, .ro, 0x0⟩, ⟨"PRESENTING", 15, 8, .ro, 0x0⟩, ⟨"ACTIVE", 7, 0, .ro, 0x0⟩] }

def Reg.POPPY_STOP_LOG : RegDef :=
  { name := "POPPY_STOP_LOG", off := 0x084,
    fields := [⟨"VALID", 31, 31, .rc, 0x0⟩, ⟨"SCOPE", 30, 29, .rc, 0x0⟩, ⟨"ENDED", 28, 28, .rc, 0x0⟩, ⟨"ORIGIN", 27, 24, .rc, 0x0⟩, ⟨"CAUSE", 23, 16, .rc, 0x0⟩, ⟨"STOP_ID", 15, 0, .rc, 0x0⟩] }

def Reg.POPPY_WIRED : RegDef :=
  { name := "POPPY_WIRED", off := 0x088,
    fields := [⟨"IN_B", 31, 24, .ro, 0x0⟩, ⟨"IN_A", 23, 16, .ro, 0x0⟩, ⟨"OUT_B", 15, 12, .ro, 0x0⟩, ⟨"OUT_A", 11, 8, .ro, 0x0⟩, ⟨"MARKER_B", 3, 3, .ro, 0x0⟩, ⟨"MARKER_A", 2, 2, .ro, 0x0⟩] }

def Reg.POPPY_FAULT : RegDef :=
  { name := "POPPY_FAULT", off := 0x08C,
    fields := [⟨"TP", 31, 24, .ro, 0x0⟩, ⟨"DISC", 23, 16, .ro, 0x0⟩, ⟨"FB_B", 15, 12, .ro, 0x0⟩, ⟨"FB_A", 11, 8, .ro, 0x0⟩, ⟨"DISAGREE", 3, 3, .ro, 0x0⟩, ⟨"CFG_MISMATCH", 2, 2, .ro, 0x0⟩, ⟨"HB_LOST", 1, 1, .ro, 0x0⟩, ⟨"KEYS_MISSING", 0, 0, .ro, 0x1⟩] }

def Reg.POPPY_BUS : RegDef :=
  { name := "POPPY_BUS", off := 0x090,
    fields := [⟨"EXPECT", 31, 16, .ro, 0x0⟩, ⟨"SEEN", 15, 0, .ro, 0x0⟩] }

def Reg.POPPY_BUS_MISS : RegDef :=
  { name := "POPPY_BUS_MISS", off := 0x094,
    fields := [⟨"COUNT", 31, 0, .rc, 0x0⟩] }

def Reg.POPPY_REL_CMD : RegDef :=
  { name := "POPPY_REL_CMD", off := 0x0A0,
    fields := [⟨"SCOPE", 31, 30, .rw, 0x0⟩, ⟨"MEMBER", 23, 20, .rw, 0x0⟩, ⟨"FIRST", 15, 8, .rw, 0x0⟩, ⟨"LAST", 7, 0, .rw, 0x0⟩] }

def Reg.POPPY_REL_SFN : RegDef :=
  { name := "POPPY_REL_SFN", off := 0x0A4,
    fields := [⟨"SFN", 31, 0, .rw, 0x0⟩] }

def Reg.POPPY_REL_SERIAL : RegDef :=
  { name := "POPPY_REL_SERIAL", off := 0x0A8,
    fields := [⟨"SERIAL", 31, 0, .rw, 0x0⟩] }

def Reg.POPPY_REL_TAG : RegDef :=
  { name := "POPPY_REL_TAG", off := 0x0AC, words := 2,
    fields := [⟨"TAG", 63, 0, .rw, 0x0⟩] }

def Reg.POPPY_REL_GO : RegDef :=
  { name := "POPPY_REL_GO", off := 0x0B4,
    fields := [⟨"GO", 0, 0, .wo, 0x0⟩] }

def Reg.POPPY_REL_RESULT : RegDef :=
  { name := "POPPY_REL_RESULT", off := 0x0B8,
    fields := [⟨"BUSY", 31, 31, .ro, 0x0⟩, ⟨"RESULT", 3, 0, .ro, 0x0⟩] }

def Reg.POPPY_REL_LAST_SERIAL : RegDef :=
  { name := "POPPY_REL_LAST_SERIAL", off := 0x0BC,
    fields := [⟨"SERIAL", 31, 0, .ro, 0x0⟩] }

def Reg.POPPY_CFG_UNIT : RegDef :=
  { name := "POPPY_CFG_UNIT", off := 0x100,
    fields := [⟨"MEMBER", 15, 12, .rw, 0x0⟩, ⟨"PAIR", 1, 1, .rw, 0x0⟩, ⟨"UNIT", 0, 0, .rw, 0x0⟩] }

def Reg.POPPY_CFG_TP : RegDef :=
  { name := "POPPY_CFG_TP", off := 0x104,
    fields := [⟨"PERIOD_US", 31, 16, .rw, 0x2710⟩, ⟨"WIDTH_US", 15, 0, .rw, 0x64⟩] }

def Reg.POPPY_CFG_OUT : RegDef :=
  { name := "POPPY_CFG_OUT", off := 0x108,
    fields := [⟨"EN", 3, 0, .rw, 0x0⟩] }

def Reg.POPPY_CFG_BUS : RegDef :=
  { name := "POPPY_CFG_BUS", off := 0x10C,
    fields := [⟨"EN", 31, 31, .rw, 0x0⟩, ⟨"LEAD", 30, 30, .rw, 0x0⟩, ⟨"ABSENT_RELEASE", 29, 29, .rw, 0x0⟩, ⟨"LEAD_MEMBER", 19, 16, .rw, 0x0⟩, ⟨"EXPECT", 15, 0, .rw, 0x0⟩] }

def Reg.POPPY_CFG_IN : RegDef :=
  { name := "POPPY_CFG_IN", off := 0x110, count := 8, stride := 0x4,
    fields := [⟨"EN", 31, 31, .rw, 0x0⟩, ⟨"TEST_EN", 30, 30, .rw, 0x1⟩, ⟨"SITE", 29, 29, .rw, 0x0⟩, ⟨"DISC_MS", 23, 16, .rw, 0x14⟩, ⟨"FILT_US", 9, 0, .rw, 0x12C⟩] }

def Reg.POPPY_CFG_COMMIT : RegDef :=
  { name := "POPPY_CFG_COMMIT", off := 0x130,
    fields := [⟨"GO", 0, 0, .wo, 0x0⟩] }

def Reg.POPPY_CFG_CRC : RegDef :=
  { name := "POPPY_CFG_CRC", off := 0x134,
    fields := [⟨"CRC", 31, 0, .ro, 0x0⟩] }

def Reg.POPPY_TOKEN : RegDef :=
  { name := "POPPY_TOKEN", off := 0x200, count := 12, stride := 0x4,
    fields := [⟨"WORD", 31, 0, .ro, 0x0⟩] }

def Reg.POPPY_IMAGE : RegDef :=
  { name := "POPPY_IMAGE", off := 0x240, count := 16, stride := 0x4,
    fields := [⟨"WORD", 31, 0, .ro, 0x0⟩] }

/-- The registers of pages 0x0C0 to 0x0C0. -/
def pageRegs0C0_0C0 : List RegDef :=
  [Reg.POPPY_STAT, Reg.POPPY_TOKEN_SFN, Reg.POPPY_ARM, Reg.POPPY_ARM_STAT, Reg.POPPY_REQ, Reg.POPPY_REQ_STAT, Reg.POPPY_ROLE, Reg.POPPY_DISAGREE] ++
  [Reg.POPPY_MAP, Reg.POPPY_STOPS, Reg.POPPY_STOP_LOG, Reg.POPPY_WIRED, Reg.POPPY_FAULT, Reg.POPPY_BUS, Reg.POPPY_BUS_MISS, Reg.POPPY_REL_CMD] ++
  [Reg.POPPY_REL_SFN, Reg.POPPY_REL_SERIAL, Reg.POPPY_REL_TAG, Reg.POPPY_REL_GO, Reg.POPPY_REL_RESULT, Reg.POPPY_REL_LAST_SERIAL, Reg.POPPY_CFG_UNIT, Reg.POPPY_CFG_TP] ++
  [Reg.POPPY_CFG_OUT, Reg.POPPY_CFG_BUS, Reg.POPPY_CFG_IN, Reg.POPPY_CFG_COMMIT, Reg.POPPY_CFG_CRC, Reg.POPPY_TOKEN, Reg.POPPY_IMAGE]

/-- The pages described in this file. -/
def pageDefsC : List PageDef :=
  [⟨0x0A0, 0x0A0, pageRegs0A0_0A0⟩,
   ⟨0x0A1, 0x0A8, pageRegs0A1_0A8⟩,
   ⟨0x0B0, 0x0B0, pageRegs0B0_0B0⟩,
   ⟨0x0B1, 0x0B8, pageRegs0B1_0B8⟩,
   ⟨0x0C0, 0x0C0, pageRegs0C0_0C0⟩]

end Sys2Proof.Machine
end

