-- ==== Sys2Proof/Machine/RegMapD.lean ====
section
/-! DEFINITION. The register tables of spec/11_dispatch_engine.md, spec/12_switch_and_ports.md, spec/13_pairs_and_cascades.md,
field by field: bits, access type and reset value as the tables give them. -/

namespace Sys2Proof.Machine

/-! spec/11_dispatch_engine.md, pages 0x020 to 0x020. -/

def Reg.SCHED_CTRL : RegDef :=
  { name := "SCHED_CTRL", off := 0x040,
    fields := [⟨"JOB_EN", 2, 2, .rw, 0x0⟩, ⟨"WRK_EN", 1, 1, .rw, 0x0⟩, ⟨"THR_EN", 0, 0, .rw, 0x0⟩] }

def Reg.SCHED_TICK : RegDef :=
  { name := "SCHED_TICK", off := 0x044,
    fields := [⟨"TICK", 31, 0, .ro, 0x0⟩] }

def Reg.SCHED_IRQMAP_INDEX : RegDef :=
  { name := "SCHED_IRQMAP_INDEX", off := 0x048,
    fields := [⟨"PAGE", 11, 0, .rw, 0x0⟩] }

def Reg.SCHED_IRQMAP : RegDef :=
  { name := "SCHED_IRQMAP", off := 0x04C,
    fields := [⟨"EN", 31, 31, .rw, 0x0⟩, ⟨"MSIX", 30, 30, .rw, 0x0⟩, ⟨"TARGET", 8, 0, .rw, 0x0⟩] }

def Reg.SCHED_SWITCH_LIMIT : RegDef :=
  { name := "SCHED_SWITCH_LIMIT", off := 0x050,
    fields := [⟨"US", 15, 0, .rw, 0x32⟩] }

def Reg.SCHED_LATE_SWITCH : RegDef :=
  { name := "SCHED_LATE_SWITCH", off := 0x054,
    fields := [⟨"COUNT", 31, 0, .rc, 0x0⟩] }

def Reg.SCHED_CORE_NEXT : RegDef :=
  { name := "SCHED_CORE_NEXT", off := 0x080, count := 4, stride := 0x10,
    fields := [⟨"VALID", 31, 31, .ro, 0x0⟩, ⟨"LEVEL", 30, 25, .ro, 0x0⟩, ⟨"THREAD", 24, 16, .ro, 0x0⟩, ⟨"PREV_VALID", 15, 15, .ro, 0x0⟩, ⟨"PREV", 8, 0, .ro, 0x0⟩] }

def Reg.SCHED_CORE_ACK : RegDef :=
  { name := "SCHED_CORE_ACK", off := 0x084, count := 4, stride := 0x10,
    fields := [⟨"THREAD", 8, 0, .wo, 0x0⟩] }

def Reg.SCHED_CORE_RUN : RegDef :=
  { name := "SCHED_CORE_RUN", off := 0x088, count := 4, stride := 0x10,
    fields := [⟨"BUSY", 31, 31, .ro, 0x0⟩, ⟨"LEVEL", 30, 25, .ro, 0x0⟩, ⟨"THREAD", 24, 16, .ro, 0x0⟩] }

/-- The registers of pages 0x020 to 0x020. -/
def pageRegs020_020 : List RegDef :=
  [Reg.SCHED_CTRL, Reg.SCHED_TICK, Reg.SCHED_IRQMAP_INDEX, Reg.SCHED_IRQMAP, Reg.SCHED_SWITCH_LIMIT, Reg.SCHED_LATE_SWITCH, Reg.SCHED_CORE_NEXT, Reg.SCHED_CORE_ACK] ++
  [Reg.SCHED_CORE_RUN]

/-! spec/11_dispatch_engine.md, pages 0x021 to 0x021. -/

def Reg.SCHED_THR_INDEX : RegDef :=
  { name := "SCHED_THR_INDEX", off := 0x040,
    fields := [⟨"THREAD", 8, 0, .rw, 0x0⟩] }

def Reg.SCHED_THR_STAGE : RegDef :=
  { name := "SCHED_THR_STAGE", off := 0x044,
    fields := [⟨"LEVEL", 31, 26, .rw, 0x0⟩, ⟨"AFFINITY", 3, 0, .rw, 0xF⟩] }

def Reg.SCHED_THR_CMD : RegDef :=
  { name := "SCHED_THR_CMD", off := 0x048,
    fields := [⟨"CMD", 31, 28, .wo, 0x0⟩, ⟨"SELF", 27, 27, .wo, 0x0⟩, ⟨"ARG", 23, 0, .wo, 0x0⟩] }

def Reg.SCHED_THR_CMD_STAT : RegDef :=
  { name := "SCHED_THR_CMD_STAT", off := 0x04C,
    fields := [⟨"BUSY", 31, 31, .ro, 0x0⟩, ⟨"RESULT", 3, 0, .ro, 0x0⟩] }

def Reg.SCHED_THR_TSTAT : RegDef :=
  { name := "SCHED_THR_TSTAT", off := 0x050,
    fields := [⟨"STATE", 31, 28, .ro, 0x0⟩, ⟨"WAIT_RESULT", 27, 25, .ro, 0x0⟩, ⟨"IRQ_PENDING", 24, 24, .ro, 0x0⟩, ⟨"LEVEL", 23, 18, .ro, 0x0⟩, ⟨"AFFINITY", 17, 14, .ro, 0x0⟩, ⟨"CORE", 13, 12, .ro, 0x0⟩] }

def Reg.SCHED_THR_WAKE_AT : RegDef :=
  { name := "SCHED_THR_WAKE_AT", off := 0x054,
    fields := [⟨"TICK", 31, 0, .ro, 0x0⟩] }

def Reg.SCHED_THR_READY : RegDef :=
  { name := "SCHED_THR_READY", off := 0x058,
    fields := [⟨"COUNT", 9, 0, .ro, 0x0⟩] }

def Reg.SCHED_THR_SWITCHES : RegDef :=
  { name := "SCHED_THR_SWITCHES", off := 0x05C,
    fields := [⟨"COUNT", 31, 0, .rc, 0x0⟩] }

def Reg.SCHED_THR_PREEMPTS : RegDef :=
  { name := "SCHED_THR_PREEMPTS", off := 0x060,
    fields := [⟨"COUNT", 31, 0, .rc, 0x0⟩] }

/-- The registers of pages 0x021 to 0x021. -/
def pageRegs021_021 : List RegDef :=
  [Reg.SCHED_THR_INDEX, Reg.SCHED_THR_STAGE, Reg.SCHED_THR_CMD, Reg.SCHED_THR_CMD_STAT, Reg.SCHED_THR_TSTAT, Reg.SCHED_THR_WAKE_AT, Reg.SCHED_THR_READY, Reg.SCHED_THR_SWITCHES] ++
  [Reg.SCHED_THR_PREEMPTS]

/-! spec/11_dispatch_engine.md, pages 0x022 to 0x022. -/

def Reg.SCHED_WRK_QUEUES : RegDef :=
  { name := "SCHED_WRK_QUEUES", off := 0x040,
    fields := [⟨"SUBMIT_Q", 29, 24, .rwl, 0x0⟩, ⟨"REQ_Q", 21, 16, .rwl, 0x0⟩] }

def Reg.SCHED_WRK_GRANT_Q : RegDef :=
  { name := "SCHED_WRK_GRANT_Q", off := 0x044,
    fields := [⟨"CORE3", 29, 24, .rwl, 0x0⟩, ⟨"CORE2", 21, 16, .rwl, 0x0⟩, ⟨"CORE1", 13, 8, .rwl, 0x0⟩, ⟨"CORE0", 5, 0, .rwl, 0x0⟩] }

def Reg.SCHED_WRK_STAT : RegDef :=
  { name := "SCHED_WRK_STAT", off := 0x048,
    fields := [⟨"WAITING", 31, 28, .ro, 0x0⟩, ⟨"USED", 12, 0, .ro, 0x0⟩] }

def Reg.SCHED_WRK_READY : RegDef :=
  { name := "SCHED_WRK_READY", off := 0x04C,
    fields := [⟨"COUNT", 12, 0, .ro, 0x0⟩] }

def Reg.SCHED_WRK_SUB0 : RegDef :=
  { name := "SCHED_WRK_SUB0", off := 0x050,
    fields := [⟨"LEVEL", 31, 26, .rw, 0x0⟩, ⟨"AFFINITY", 25, 22, .rw, 0xF⟩, ⟨"DELAY", 15, 0, .rw, 0x0⟩] }

def Reg.SCHED_WRK_SUB1 : RegDef :=
  { name := "SCHED_WRK_SUB1", off := 0x054,
    fields := [⟨"HANDLER", 31, 16, .rw, 0x0⟩] }

def Reg.SCHED_WRK_SUB2 : RegDef :=
  { name := "SCHED_WRK_SUB2", off := 0x058, words := 2,
    fields := [⟨"ARG", 63, 0, .rw, 0x0⟩] }

def Reg.SCHED_WRK_SUBMIT : RegDef :=
  { name := "SCHED_WRK_SUBMIT", off := 0x060,
    fields := [⟨"GO", 0, 0, .wo, 0x0⟩] }

def Reg.SCHED_WRK_SUBMIT_STAT : RegDef :=
  { name := "SCHED_WRK_SUBMIT_STAT", off := 0x064,
    fields := [⟨"RESULT", 31, 28, .ro, 0x0⟩, ⟨"HANDLE", 11, 0, .ro, 0x0⟩] }

def Reg.SCHED_WRK_REFUSED : RegDef :=
  { name := "SCHED_WRK_REFUSED", off := 0x068,
    fields := [⟨"COUNT", 31, 0, .rc, 0x0⟩] }

def Reg.SCHED_WRK_GRANTS : RegDef :=
  { name := "SCHED_WRK_GRANTS", off := 0x06C,
    fields := [⟨"COUNT", 31, 0, .rc, 0x0⟩] }

def Reg.SCHED_WRK_PULL_IGNORED : RegDef :=
  { name := "SCHED_WRK_PULL_IGNORED", off := 0x070,
    fields := [⟨"COUNT", 31, 0, .rc, 0x0⟩] }

/-- The registers of pages 0x022 to 0x022. -/
def pageRegs022_022 : List RegDef :=
  [Reg.SCHED_WRK_QUEUES, Reg.SCHED_WRK_GRANT_Q, Reg.SCHED_WRK_STAT, Reg.SCHED_WRK_READY, Reg.SCHED_WRK_SUB0, Reg.SCHED_WRK_SUB1, Reg.SCHED_WRK_SUB2, Reg.SCHED_WRK_SUBMIT] ++
  [Reg.SCHED_WRK_SUBMIT_STAT, Reg.SCHED_WRK_REFUSED, Reg.SCHED_WRK_GRANTS, Reg.SCHED_WRK_PULL_IGNORED]

/-! spec/11_dispatch_engine.md, pages 0x023 to 0x023. -/

def Reg.SCHED_JOB_CTRL : RegDef :=
  { name := "SCHED_JOB_CTRL", off := 0x040,
    fields := [⟨"GRANT_QUEUE", 5, 0, .rwl, 0x0⟩] }

def Reg.SCHED_JOB_STAT : RegDef :=
  { name := "SCHED_JOB_STAT", off := 0x044,
    fields := [⟨"ASKS", 24, 16, .ro, 0x0⟩, ⟨"USED", 12, 0, .ro, 0x0⟩] }

def Reg.SCHED_JOB_JOB : RegDef :=
  { name := "SCHED_JOB_JOB", off := 0x048, count := 4, stride := 0x4,
    fields := [⟨"WORD", 31, 0, .rw, 0x0⟩] }

def Reg.SCHED_JOB_SUBMIT : RegDef :=
  { name := "SCHED_JOB_SUBMIT", off := 0x058,
    fields := [⟨"GO", 0, 0, .wo, 0x0⟩] }

def Reg.SCHED_JOB_SUBMIT_STAT : RegDef :=
  { name := "SCHED_JOB_SUBMIT_STAT", off := 0x05C,
    fields := [⟨"RESULT", 31, 28, .ro, 0x0⟩, ⟨"HANDLE", 11, 0, .ro, 0x0⟩] }

def Reg.SCHED_JOB_ASK : RegDef :=
  { name := "SCHED_JOB_ASK", off := 0x060,
    fields := [⟨"TIMEOUT", 31, 16, .wo, 0x0⟩, ⟨"MACHINE", 7, 0, .wo, 0x0⟩] }

def Reg.SCHED_JOB_CANCEL_ASK : RegDef :=
  { name := "SCHED_JOB_CANCEL_ASK", off := 0x064,
    fields := [⟨"MACHINE", 7, 0, .wo, 0x0⟩] }

def Reg.SCHED_JOB_WITHDRAW : RegDef :=
  { name := "SCHED_JOB_WITHDRAW", off := 0x068,
    fields := [⟨"HANDLE", 11, 0, .wo, 0x0⟩] }

def Reg.SCHED_JOB_CMD_STAT : RegDef :=
  { name := "SCHED_JOB_CMD_STAT", off := 0x06C,
    fields := [⟨"RESULT", 3, 0, .ro, 0x0⟩] }

def Reg.SCHED_JOB_GRANTS : RegDef :=
  { name := "SCHED_JOB_GRANTS", off := 0x070,
    fields := [⟨"COUNT", 31, 0, .rc, 0x0⟩] }

def Reg.SCHED_JOB_TIMEOUTS : RegDef :=
  { name := "SCHED_JOB_TIMEOUTS", off := 0x074,
    fields := [⟨"COUNT", 31, 0, .rc, 0x0⟩] }

def Reg.SCHED_JOB_EXPIRED : RegDef :=
  { name := "SCHED_JOB_EXPIRED", off := 0x078,
    fields := [⟨"COUNT", 31, 0, .rc, 0x0⟩] }

def Reg.SCHED_JOB_GRANT_LOST : RegDef :=
  { name := "SCHED_JOB_GRANT_LOST", off := 0x07C,
    fields := [⟨"COUNT", 31, 0, .rc, 0x0⟩] }

/-- The registers of pages 0x023 to 0x023. -/
def pageRegs023_023 : List RegDef :=
  [Reg.SCHED_JOB_CTRL, Reg.SCHED_JOB_STAT, Reg.SCHED_JOB_JOB, Reg.SCHED_JOB_SUBMIT, Reg.SCHED_JOB_SUBMIT_STAT, Reg.SCHED_JOB_ASK, Reg.SCHED_JOB_CANCEL_ASK, Reg.SCHED_JOB_WITHDRAW] ++
  [Reg.SCHED_JOB_CMD_STAT, Reg.SCHED_JOB_GRANTS, Reg.SCHED_JOB_TIMEOUTS, Reg.SCHED_JOB_EXPIRED, Reg.SCHED_JOB_GRANT_LOST]

/-! spec/11_dispatch_engine.md, pages 0x024 to 0x024. -/

def Reg.SCHED_TRC_CTRL : RegDef :=
  { name := "SCHED_TRC_CTRL", off := 0x040,
    fields := [⟨"KIND_EN", 31, 16, .rw, 0xFFFF⟩, ⟨"SET_EN", 6, 4, .rw, 0x7⟩, ⟨"STOP_FULL", 1, 1, .rw, 0x0⟩, ⟨"EN", 0, 0, .rw, 0x0⟩] }

def Reg.SCHED_TRC_BASE : RegDef :=
  { name := "SCHED_TRC_BASE", off := 0x044, words := 2,
    fields := [⟨"ADDR", 63, 17, .rwl, 0x0⟩] }

def Reg.SCHED_TRC_WPTR : RegDef :=
  { name := "SCHED_TRC_WPTR", off := 0x04C,
    fields := [⟨"INDEX", 12, 0, .ro, 0x0⟩] }

def Reg.SCHED_TRC_RPTR : RegDef :=
  { name := "SCHED_TRC_RPTR", off := 0x050,
    fields := [⟨"INDEX", 12, 0, .rw, 0x0⟩] }

def Reg.SCHED_TRC_LOST : RegDef :=
  { name := "SCHED_TRC_LOST", off := 0x054,
    fields := [⟨"COUNT", 31, 0, .rc, 0x0⟩] }

def Reg.SCHED_TRC_SEQ : RegDef :=
  { name := "SCHED_TRC_SEQ", off := 0x058,
    fields := [⟨"SEQ", 15, 0, .ro, 0x0⟩] }

/-- The registers of pages 0x024 to 0x024. -/
def pageRegs024_024 : List RegDef :=
  [Reg.SCHED_TRC_CTRL, Reg.SCHED_TRC_BASE, Reg.SCHED_TRC_WPTR, Reg.SCHED_TRC_RPTR, Reg.SCHED_TRC_LOST, Reg.SCHED_TRC_SEQ]

/-! spec/12_switch_and_ports.md, pages 0x0D0 to 0x0D0. -/

def Reg.SWCH_CTRL : RegDef :=
  { name := "SWCH_CTRL", off := 0x040,
    fields := [⟨"LEARN_EN", 1, 1, .rw, 0x1⟩, ⟨"FWD_EN", 0, 0, .rw, 0x0⟩] }

def Reg.SWCH_AGE : RegDef :=
  { name := "SWCH_AGE", off := 0x044,
    fields := [⟨"SECONDS", 15, 0, .rw, 0x12C⟩] }

def Reg.SWCH_MOVE_HOLD : RegDef :=
  { name := "SWCH_MOVE_HOLD", off := 0x048,
    fields := [⟨"US", 15, 0, .rw, 0x3E8⟩] }

def Reg.SWCH_ATU_KEY : RegDef :=
  { name := "SWCH_ATU_KEY", off := 0x04C, words := 2,
    fields := [⟨"VID", 59, 48, .rw, 0x0⟩, ⟨"MAC", 47, 0, .rw, 0x0⟩] }

def Reg.SWCH_ATU_DATA : RegDef :=
  { name := "SWCH_ATU_DATA", off := 0x054,
    fields := [⟨"VALID", 31, 31, .rw, 0x0⟩, ⟨"STATIC", 30, 30, .rw, 0x0⟩, ⟨"PORT", 20, 16, .rw, 0x0⟩, ⟨"AGE_LEFT", 15, 0, .ro, 0x0⟩] }

def Reg.SWCH_ATU_CMD : RegDef :=
  { name := "SWCH_ATU_CMD", off := 0x058,
    fields := [⟨"CMD", 31, 28, .wo, 0x0⟩, ⟨"PORT", 4, 0, .wo, 0x0⟩] }

def Reg.SWCH_ATU_STAT : RegDef :=
  { name := "SWCH_ATU_STAT", off := 0x05C,
    fields := [⟨"BUSY", 31, 31, .ro, 0x0⟩, ⟨"USED", 14, 0, .ro, 0x0⟩] }

def Reg.SWCH_ATU_RESULT : RegDef :=
  { name := "SWCH_ATU_RESULT", off := 0x060,
    fields := [⟨"RESULT", 3, 0, .ro, 0x0⟩] }

def Reg.SWCH_LEARN_FULL : RegDef :=
  { name := "SWCH_LEARN_FULL", off := 0x064,
    fields := [⟨"COUNT", 31, 0, .rc, 0x0⟩] }

def Reg.SWCH_FLAPS : RegDef :=
  { name := "SWCH_FLAPS", off := 0x068,
    fields := [⟨"COUNT", 31, 0, .rc, 0x0⟩] }

def Reg.SWCH_FLAP_LOG : RegDef :=
  { name := "SWCH_FLAP_LOG", off := 0x06C,
    fields := [⟨"VALID", 31, 31, .rc, 0x0⟩, ⟨"KEPT", 30, 26, .rc, 0x0⟩, ⟨"NEW", 25, 21, .rc, 0x0⟩, ⟨"MAC_LO", 15, 0, .rc, 0x0⟩] }

def Reg.SWCH_VLAN_INDEX : RegDef :=
  { name := "SWCH_VLAN_INDEX", off := 0x070,
    fields := [⟨"VID", 11, 0, .rw, 0x1⟩] }

def Reg.SWCH_VLAN_MEMBER : RegDef :=
  { name := "SWCH_VLAN_MEMBER", off := 0x074,
    fields := [⟨"PORTS", 21, 0, .rw, 0x0⟩] }

def Reg.SWCH_VLAN_UNTAG : RegDef :=
  { name := "SWCH_VLAN_UNTAG", off := 0x078,
    fields := [⟨"PORTS", 21, 0, .rw, 0x0⟩] }

def Reg.SWCH_PRP : RegDef :=
  { name := "SWCH_PRP", off := 0x07C,
    fields := [⟨"EN", 9, 0, .rwl, 0x0⟩] }

def Reg.SWCH_PRP_CFG : RegDef :=
  { name := "SWCH_PRP_CFG", off := 0x080,
    fields := [⟨"ENTRY_FORGET_MS", 31, 16, .rw, 0x190⟩, ⟨"LIFE_CHECK_MS", 15, 0, .rw, 0x7D0⟩] }

def Reg.SWCH_PRP_DUP : RegDef :=
  { name := "SWCH_PRP_DUP", off := 0x084,
    fields := [⟨"COUNT", 31, 0, .rc, 0x0⟩] }

def Reg.SWCH_PRP_WRONG_LAN : RegDef :=
  { name := "SWCH_PRP_WRONG_LAN", off := 0x088,
    fields := [⟨"COUNT", 31, 0, .rc, 0x0⟩] }

def Reg.SWCH_BUF : RegDef :=
  { name := "SWCH_BUF", off := 0x08C,
    fields := [⟨"Q7_RESERVE_KB", 31, 16, .rwl, 0x40⟩, ⟨"PORT_LIMIT_KB", 15, 0, .rw, 0x400⟩] }

def Reg.SWCH_BUF_USED : RegDef :=
  { name := "SWCH_BUF_USED", off := 0x090,
    fields := [⟨"KB", 13, 0, .ro, 0x0⟩] }

def Reg.SWCH_P21 : RegDef :=
  { name := "SWCH_P21", off := 0x094,
    fields := [⟨"RX_QUEUE", 13, 8, .rwl, 0x0⟩, ⟨"TX_QUEUE", 5, 0, .rwl, 0x0⟩] }

def Reg.SWCH_P21_DROP : RegDef :=
  { name := "SWCH_P21_DROP", off := 0x098,
    fields := [⟨"COUNT", 31, 0, .rc, 0x0⟩] }

def Reg.SWCH_RING_INDEX : RegDef :=
  { name := "SWCH_RING_INDEX", off := 0x0A0,
    fields := [⟨"RING", 3, 0, .rw, 0x0⟩] }

def Reg.SWCH_RING_BASE : RegDef :=
  { name := "SWCH_RING_BASE", off := 0x0A4, words := 2,
    fields := [⟨"ADDR", 63, 5, .rw, 0x0⟩] }

def Reg.SWCH_RING_SIZE : RegDef :=
  { name := "SWCH_RING_SIZE", off := 0x0AC,
    fields := [⟨"COUNT", 12, 0, .rw, 0x40⟩] }

def Reg.SWCH_RING_HEAD : RegDef :=
  { name := "SWCH_RING_HEAD", off := 0x0B0,
    fields := [⟨"INDEX", 11, 0, .ro, 0x0⟩] }

def Reg.SWCH_RING_TAIL : RegDef :=
  { name := "SWCH_RING_TAIL", off := 0x0B4,
    fields := [⟨"INDEX", 11, 0, .rw, 0x0⟩] }

def Reg.SWCH_RING_STAT : RegDef :=
  { name := "SWCH_RING_STAT", off := 0x0B8,
    fields := [⟨"STOPPED", 31, 31, .ro, 0x0⟩] }

def Reg.SWCH_RING_CMD : RegDef :=
  { name := "SWCH_RING_CMD", off := 0x0BC,
    fields := [⟨"RESUME", 0, 0, .wo, 0x0⟩] }

def Reg.SWCH_RX_BUF : RegDef :=
  { name := "SWCH_RX_BUF", off := 0x0C0,
    fields := [⟨"BYTES", 13, 0, .rwl, 0x600⟩] }

def Reg.SWCH_RX_MAP : RegDef :=
  { name := "SWCH_RX_MAP", off := 0x0C4,
    fields := [⟨"RING9", 7, 0, .rw, 0xC0⟩] }

def Reg.SWCH_WAKE_CTRL : RegDef :=
  { name := "SWCH_WAKE_CTRL", off := 0x100,
    fields := [⟨"MAGIC_EN", 16, 16, .rw, 0x0⟩, ⟨"PORT_EN", 11, 8, .rw, 0x0⟩, ⟨"PAT_EN", 7, 0, .rw, 0x0⟩] }

def Reg.SWCH_WAKE_STAT : RegDef :=
  { name := "SWCH_WAKE_STAT", off := 0x104,
    fields := [⟨"VALID", 31, 31, .rc, 0x0⟩, ⟨"COUNT", 30, 16, .rc, 0x0⟩, ⟨"PATTERN", 6, 4, .rc, 0x0⟩, ⟨"MAGIC", 3, 3, .rc, 0x0⟩, ⟨"PORT", 1, 0, .rc, 0x0⟩] }

def Reg.SWCH_WAKE_MAC : RegDef :=
  { name := "SWCH_WAKE_MAC", off := 0x108, words := 2,
    fields := [⟨"MAC", 47, 0, .rw, 0x0⟩] }

def Reg.SWCH_WAKE_PAT : RegDef :=
  { name := "SWCH_WAKE_PAT", off := 0x200, count := 256, stride := 0x4,
    fields := [⟨"BYTES", 31, 0, .rw, 0x0⟩] }

def Reg.SWCH_WAKE_MASK : RegDef :=
  { name := "SWCH_WAKE_MASK", off := 0x600, count := 32, stride := 0x4,
    fields := [⟨"MASK", 31, 0, .rw, 0x0⟩] }

/-- The registers of pages 0x0D0 to 0x0D0. -/
def pageRegs0D0_0D0 : List RegDef :=
  [Reg.SWCH_CTRL, Reg.SWCH_AGE, Reg.SWCH_MOVE_HOLD, Reg.SWCH_ATU_KEY, Reg.SWCH_ATU_DATA, Reg.SWCH_ATU_CMD, Reg.SWCH_ATU_STAT, Reg.SWCH_ATU_RESULT] ++
  [Reg.SWCH_LEARN_FULL, Reg.SWCH_FLAPS, Reg.SWCH_FLAP_LOG, Reg.SWCH_VLAN_INDEX, Reg.SWCH_VLAN_MEMBER, Reg.SWCH_VLAN_UNTAG, Reg.SWCH_PRP, Reg.SWCH_PRP_CFG] ++
  [Reg.SWCH_PRP_DUP, Reg.SWCH_PRP_WRONG_LAN, Reg.SWCH_BUF, Reg.SWCH_BUF_USED, Reg.SWCH_P21, Reg.SWCH_P21_DROP, Reg.SWCH_RING_INDEX, Reg.SWCH_RING_BASE] ++
  [Reg.SWCH_RING_SIZE, Reg.SWCH_RING_HEAD, Reg.SWCH_RING_TAIL, Reg.SWCH_RING_STAT, Reg.SWCH_RING_CMD, Reg.SWCH_RX_BUF, Reg.SWCH_RX_MAP, Reg.SWCH_WAKE_CTRL] ++
  [Reg.SWCH_WAKE_STAT, Reg.SWCH_WAKE_MAC, Reg.SWCH_WAKE_PAT, Reg.SWCH_WAKE_MASK]

/-! spec/12_switch_and_ports.md, pages 0x0D1 to 0x0E4. -/

def Reg.EMAC_CTRL : RegDef :=
  { name := "EMAC_CTRL", off := 0x040,
    fields := [⟨"MODE", 14, 12, .rwl, 0x0⟩, ⟨"AN_EN", 11, 11, .rw, 0x1⟩, ⟨"ACCEPT", 9, 8, .rw, 0x0⟩, ⟨"INGRESS_FILTER", 7, 7, .rw, 0x1⟩, ⟨"LEARN_EN", 6, 6, .rw, 0x1⟩, ⟨"RX_EN", 5, 5, .rw, 0x1⟩, ⟨"TX_EN", 4, 4, .rw, 0x1⟩, ⟨"LL_TRAP", 3, 3, .rw, 0x1⟩, ⟨"TS_ALL", 2, 2, .rw, 0x0⟩] }

def Reg.EMAC_STAT : RegDef :=
  { name := "EMAC_STAT", off := 0x044,
    fields := [⟨"SPEED", 5, 4, .ro, 0x0⟩, ⟨"AN_DONE", 3, 3, .ro, 0x0⟩, ⟨"LINK", 2, 2, .ro, 0x0⟩, ⟨"LOCK", 1, 1, .ro, 0x0⟩, ⟨"SIGNAL", 0, 0, .ro, 0x0⟩] }

def Reg.EMAC_MAX_LEN : RegDef :=
  { name := "EMAC_MAX_LEN", off := 0x048,
    fields := [⟨"BYTES", 13, 0, .rw, 0x5EE⟩] }

def Reg.EMAC_PVID : RegDef :=
  { name := "EMAC_PVID", off := 0x04C,
    fields := [⟨"DEFAULT_PCP", 15, 13, .rw, 0x0⟩, ⟨"PVID", 11, 0, .rw, 0x1⟩] }

def Reg.EMAC_PCP_MAP : RegDef :=
  { name := "EMAC_PCP_MAP", off := 0x050,
    fields := [⟨"MAP", 23, 0, .rw, 0xDAC688⟩] }

def Reg.EMAC_TS_LAT : RegDef :=
  { name := "EMAC_TS_LAT", off := 0x054,
    fields := [⟨"RX_NS", 31, 16, .rw, 0x0⟩, ⟨"TX_NS", 15, 0, .rw, 0x0⟩] }

def Reg.EMAC_MAC : RegDef :=
  { name := "EMAC_MAC", off := 0x058, words := 2,
    fields := [⟨"ADDR", 47, 0, .rwl, 0x0⟩] }

def Reg.EMAC_TSQ0 : RegDef :=
  { name := "EMAC_TSQ0", off := 0x060,
    fields := [⟨"VALID", 31, 31, .rc, 0x0⟩, ⟨"MISSING", 30, 30, .rc, 0x0⟩, ⟨"TS_ID", 15, 0, .rc, 0x0⟩] }

def Reg.EMAC_TSQ1 : RegDef :=
  { name := "EMAC_TSQ1", off := 0x064,
    fields := [⟨"NS", 31, 0, .ro, 0x0⟩] }

def Reg.EMAC_TSQ2 : RegDef :=
  { name := "EMAC_TSQ2", off := 0x068,
    fields := [⟨"SEC_LO", 31, 0, .ro, 0x0⟩] }

def Reg.EMAC_TSQ3 : RegDef :=
  { name := "EMAC_TSQ3", off := 0x06C,
    fields := [⟨"QUALITY", 31, 24, .ro, 0x0⟩, ⟨"SEC_HI", 15, 0, .ro, 0x0⟩] }

def Reg.EMAC_TSQ_STAT : RegDef :=
  { name := "EMAC_TSQ_STAT", off := 0x070,
    fields := [⟨"MARKERS", 31, 16, .ro, 0x0⟩, ⟨"DEPTH", 6, 0, .ro, 0x0⟩] }

def Reg.EMAC_TS_MISSING : RegDef :=
  { name := "EMAC_TS_MISSING", off := 0x074,
    fields := [⟨"COUNT", 31, 0, .rc, 0x0⟩] }

def Reg.EMAC_RX_OK : RegDef :=
  { name := "EMAC_RX_OK", off := 0x080,
    fields := [⟨"COUNT", 31, 0, .rc, 0x0⟩] }

def Reg.EMAC_RX_FCS : RegDef :=
  { name := "EMAC_RX_FCS", off := 0x084,
    fields := [⟨"COUNT", 31, 0, .rc, 0x0⟩] }

def Reg.EMAC_RUNT : RegDef :=
  { name := "EMAC_RUNT", off := 0x088,
    fields := [⟨"COUNT", 31, 0, .rc, 0x0⟩] }

def Reg.EMAC_GIANT : RegDef :=
  { name := "EMAC_GIANT", off := 0x08C,
    fields := [⟨"COUNT", 31, 0, .rc, 0x0⟩] }

def Reg.EMAC_RX_DISCARD : RegDef :=
  { name := "EMAC_RX_DISCARD", off := 0x090,
    fields := [⟨"COUNT", 31, 0, .rc, 0x0⟩] }

def Reg.EMAC_PAUSE_DISC : RegDef :=
  { name := "EMAC_PAUSE_DISC", off := 0x094,
    fields := [⟨"COUNT", 31, 0, .rc, 0x0⟩] }

def Reg.EMAC_TX_OK : RegDef :=
  { name := "EMAC_TX_OK", off := 0x098,
    fields := [⟨"COUNT", 31, 0, .rc, 0x0⟩] }

def Reg.EMAC_TX_DROP : RegDef :=
  { name := "EMAC_TX_DROP", off := 0x09C,
    fields := [⟨"COUNT", 31, 0, .rc, 0x0⟩] }

def Reg.EMAC_TX_LATE : RegDef :=
  { name := "EMAC_TX_LATE", off := 0x0A0,
    fields := [⟨"COUNT", 31, 0, .rc, 0x0⟩] }

def Reg.EMAC_TX_LATE_DROP : RegDef :=
  { name := "EMAC_TX_LATE_DROP", off := 0x0A4,
    fields := [⟨"COUNT", 31, 0, .rc, 0x0⟩] }

def Reg.EMAC_RX_BYTES : RegDef :=
  { name := "EMAC_RX_BYTES", off := 0x0A8, words := 2,
    fields := [⟨"COUNT", 63, 0, .ro, 0x0⟩] }

def Reg.EMAC_TX_BYTES : RegDef :=
  { name := "EMAC_TX_BYTES", off := 0x0B0, words := 2,
    fields := [⟨"COUNT", 63, 0, .ro, 0x0⟩] }

/-- The registers of pages 0x0D1 to 0x0E4. -/
def pageRegs0D1_0E4 : List RegDef :=
  [Reg.EMAC_CTRL, Reg.EMAC_STAT, Reg.EMAC_MAX_LEN, Reg.EMAC_PVID, Reg.EMAC_PCP_MAP, Reg.EMAC_TS_LAT, Reg.EMAC_MAC, Reg.EMAC_TSQ0] ++
  [Reg.EMAC_TSQ1, Reg.EMAC_TSQ2, Reg.EMAC_TSQ3, Reg.EMAC_TSQ_STAT, Reg.EMAC_TS_MISSING, Reg.EMAC_RX_OK, Reg.EMAC_RX_FCS, Reg.EMAC_RUNT] ++
  [Reg.EMAC_GIANT, Reg.EMAC_RX_DISCARD, Reg.EMAC_PAUSE_DISC, Reg.EMAC_TX_OK, Reg.EMAC_TX_DROP, Reg.EMAC_TX_LATE, Reg.EMAC_TX_LATE_DROP, Reg.EMAC_RX_BYTES] ++
  [Reg.EMAC_TX_BYTES]

/-! spec/13_pairs_and_cascades.md, pages 0x0F0 to 0x0F0. -/

def Reg.PAIR_CTRL : RegDef :=
  { name := "PAIR_CTRL", off := 0x040,
    fields := [⟨"PROMOTE_SF", 23, 16, .rwl, 0x3⟩, ⟨"PRP_SPLIT", 13, 13, .rwl, 0x0⟩, ⟨"WITNESS_MEMBER", 11, 8, .rwl, 0x0⟩, ⟨"WITNESS", 7, 6, .rwl, 0x1⟩, ⟨"LINK_PORT", 5, 4, .rwl, 0x0⟩, ⟨"EN", 0, 0, .rwl, 0x0⟩] }

def Reg.PAIR_STAT : RegDef :=
  { name := "PAIR_STAT", off := 0x044,
    fields := [⟨"NOEVID", 31, 24, .ro, 0x0⟩, ⟨"ROLE", 10, 8, .ro, 0x0⟩, ⟨"WITNESS_ALIVE", 4, 4, .ro, 0x0⟩, ⟨"AIR", 3, 3, .ro, 0x0⟩, ⟨"HB", 2, 2, .ro, 0x0⟩, ⟨"LINK", 1, 1, .ro, 0x0⟩, ⟨"UNIT", 0, 0, .ro, 0x0⟩] }

def Reg.PAIR_CMD : RegDef :=
  { name := "PAIR_CMD", off := 0x048,
    fields := [⟨"CMD", 3, 0, .wo, 0x0⟩] }

def Reg.PAIR_JSEQ : RegDef :=
  { name := "PAIR_JSEQ", off := 0x04C,
    fields := [⟨"JSEQ", 31, 0, .ro, 0x0⟩] }

def Reg.PAIR_JLAG : RegDef :=
  { name := "PAIR_JLAG", off := 0x050,
    fields := [⟨"COUNT", 15, 0, .ro, 0x0⟩] }

def Reg.PAIR_JBUF_BASE : RegDef :=
  { name := "PAIR_JBUF_BASE", off := 0x054, words := 2,
    fields := [⟨"ADDR", 63, 20, .rwl, 0x0⟩] }

def Reg.PAIR_JBUF_SIZE : RegDef :=
  { name := "PAIR_JBUF_SIZE", off := 0x05C,
    fields := [⟨"MIB", 7, 0, .rwl, 0x40⟩] }

def Reg.PAIR_CONF : RegDef :=
  { name := "PAIR_CONF", off := 0x060,
    fields := [⟨"US", 15, 0, .rw, 0x1F4⟩] }

def Reg.PAIR_QUERY_Q : RegDef :=
  { name := "PAIR_QUERY_Q", off := 0x064,
    fields := [⟨"QUEUE", 5, 0, .rwl, 0x0⟩] }

def Reg.PAIR_HEALTH_CFG : RegDef :=
  { name := "PAIR_HEALTH_CFG", off := 0x068,
    fields := [⟨"TEST_S", 31, 16, .rw, 0xE10⟩, ⟨"PERIOD_MS", 15, 0, .rw, 0x64⟩] }

def Reg.PAIR_PHEALTH : RegDef :=
  { name := "PAIR_PHEALTH", off := 0x070, words := 8,
    fields := [⟨"WORD0", 31, 0, .ro, 0x0⟩, ⟨"WORD1", 63, 32, .ro, 0x0⟩, ⟨"WORD2", 95, 64, .ro, 0x0⟩, ⟨"WORD3", 127, 96, .ro, 0x0⟩, ⟨"WORD4", 159, 128, .ro, 0x0⟩, ⟨"WORD5", 191, 160, .ro, 0x0⟩, ⟨"WORD6", 223, 192, .ro, 0x0⟩, ⟨"WORD7", 255, 224, .ro, 0x0⟩] }

def Reg.PAIR_TAKEOVERS : RegDef :=
  { name := "PAIR_TAKEOVERS", off := 0x090,
    fields := [⟨"COUNT", 31, 0, .rc, 0x0⟩] }

def Reg.PAIR_RESENDS : RegDef :=
  { name := "PAIR_RESENDS", off := 0x094,
    fields := [⟨"COUNT", 31, 0, .rc, 0x0⟩] }

def Reg.PAIR_RESYNCS : RegDef :=
  { name := "PAIR_RESYNCS", off := 0x098,
    fields := [⟨"COUNT", 31, 0, .rc, 0x0⟩] }

def Reg.PAIR_CONF_TIMEOUTS : RegDef :=
  { name := "PAIR_CONF_TIMEOUTS", off := 0x09C,
    fields := [⟨"COUNT", 31, 0, .rc, 0x0⟩] }

def Reg.PAIR_DUAL : RegDef :=
  { name := "PAIR_DUAL", off := 0x0A0,
    fields := [⟨"COUNT", 31, 0, .rc, 0x0⟩] }

def Reg.PAIR_DISCARDED : RegDef :=
  { name := "PAIR_DISCARDED", off := 0x0A4,
    fields := [⟨"COUNT", 31, 0, .rc, 0x0⟩] }

def Reg.PAIR_PRP_NEXT : RegDef :=
  { name := "PAIR_PRP_NEXT", off := 0x0A8,
    fields := [⟨"SEQ", 15, 0, .ro, 0x8000⟩] }

/-- The registers of pages 0x0F0 to 0x0F0. -/
def pageRegs0F0_0F0 : List RegDef :=
  [Reg.PAIR_CTRL, Reg.PAIR_STAT, Reg.PAIR_CMD, Reg.PAIR_JSEQ, Reg.PAIR_JLAG, Reg.PAIR_JBUF_BASE, Reg.PAIR_JBUF_SIZE, Reg.PAIR_CONF] ++
  [Reg.PAIR_QUERY_Q, Reg.PAIR_HEALTH_CFG, Reg.PAIR_PHEALTH, Reg.PAIR_TAKEOVERS, Reg.PAIR_RESENDS, Reg.PAIR_RESYNCS, Reg.PAIR_CONF_TIMEOUTS, Reg.PAIR_DUAL] ++
  [Reg.PAIR_DISCARDED, Reg.PAIR_PRP_NEXT]

/-! spec/13_pairs_and_cascades.md, pages 0x0F1 to 0x0F1. -/

def Reg.CASC_CTRL : RegDef :=
  { name := "CASC_CTRL", off := 0x040,
    fields := [⟨"LEAD", 23, 20, .rwl, 0x0⟩, ⟨"MEMBER", 19, 16, .rwl, 0x0⟩, ⟨"PTP_AUTO", 1, 1, .rwl, 0x1⟩, ⟨"EN", 0, 0, .rwl, 0x0⟩] }

def Reg.CASC_EXPECT : RegDef :=
  { name := "CASC_EXPECT", off := 0x044,
    fields := [⟨"MEMBERS", 15, 0, .rwl, 0x0⟩] }

def Reg.CASC_STAT : RegDef :=
  { name := "CASC_STAT", off := 0x048,
    fields := [⟨"REACHABLE", 31, 16, .ro, 0x0⟩, ⟨"SNAP_PENDING", 2, 2, .ro, 0x0⟩, ⟨"LEAD_OK", 1, 1, .ro, 0x0⟩, ⟨"IS_LEAD", 0, 0, .ro, 0x0⟩] }

def Reg.CASC_NET : RegDef :=
  { name := "CASC_NET", off := 0x04C,
    fields := [⟨"VID", 27, 16, .rwl, 0x1⟩, ⟨"KEY_SLOT", 9, 0, .rwl, 0x0⟩] }

def Reg.CASC_MAC : RegDef :=
  { name := "CASC_MAC", off := 0x050, words := 2,
    fields := [⟨"ADDR", 47, 0, .rwl, 0x0⟩] }

def Reg.CASC_KEEPALIVE : RegDef :=
  { name := "CASC_KEEPALIVE", off := 0x058,
    fields := [⟨"MS", 7, 0, .rw, 0xA⟩] }

def Reg.CASC_UPLINK : RegDef :=
  { name := "CASC_UPLINK", off := 0x05C,
    fields := [⟨"PORT", 4, 0, .rwl, 0x10⟩] }

def Reg.CASC_UPD_SEQ : RegDef :=
  { name := "CASC_UPD_SEQ", off := 0x060,
    fields := [⟨"SEQ", 31, 0, .ro, 0x0⟩] }

def Reg.CASC_MOVE : RegDef :=
  { name := "CASC_MOVE", off := 0x064,
    fields := [⟨"CMD", 31, 28, .wo, 0x0⟩, ⟨"DEST", 19, 16, .wo, 0x0⟩, ⟨"MACHINE", 7, 0, .wo, 0x0⟩] }

def Reg.CASC_MOVE_STAT : RegDef :=
  { name := "CASC_MOVE_STAT", off := 0x068,
    fields := [⟨"BUSY", 31, 31, .ro, 0x0⟩, ⟨"RESULT", 3, 0, .ro, 0x0⟩] }

def Reg.CASC_GAPS : RegDef :=
  { name := "CASC_GAPS", off := 0x06C,
    fields := [⟨"COUNT", 31, 0, .rc, 0x0⟩] }

def Reg.CASC_TAG_FAIL : RegDef :=
  { name := "CASC_TAG_FAIL", off := 0x070,
    fields := [⟨"COUNT", 31, 0, .rc, 0x0⟩] }

def Reg.CASC_STALE : RegDef :=
  { name := "CASC_STALE", off := 0x074,
    fields := [⟨"COUNT", 31, 0, .rc, 0x0⟩] }

def Reg.CASC_REASM_FAIL : RegDef :=
  { name := "CASC_REASM_FAIL", off := 0x078,
    fields := [⟨"COUNT", 31, 0, .rc, 0x0⟩] }

def Reg.CASC_RX_DISCARD : RegDef :=
  { name := "CASC_RX_DISCARD", off := 0x07C,
    fields := [⟨"COUNT", 31, 0, .rc, 0x0⟩] }

def Reg.CASC_TX : RegDef :=
  { name := "CASC_TX", off := 0x080,
    fields := [⟨"COUNT", 31, 0, .rc, 0x0⟩] }

def Reg.CASC_RX : RegDef :=
  { name := "CASC_RX", off := 0x084,
    fields := [⟨"COUNT", 31, 0, .rc, 0x0⟩] }

/-- The registers of pages 0x0F1 to 0x0F1. -/
def pageRegs0F1_0F1 : List RegDef :=
  [Reg.CASC_CTRL, Reg.CASC_EXPECT, Reg.CASC_STAT, Reg.CASC_NET, Reg.CASC_MAC, Reg.CASC_KEEPALIVE, Reg.CASC_UPLINK, Reg.CASC_UPD_SEQ] ++
  [Reg.CASC_MOVE, Reg.CASC_MOVE_STAT, Reg.CASC_GAPS, Reg.CASC_TAG_FAIL, Reg.CASC_STALE, Reg.CASC_REASM_FAIL, Reg.CASC_RX_DISCARD, Reg.CASC_TX] ++
  [Reg.CASC_RX]

/-- The pages described in this file. -/
def pageDefsD : List PageDef :=
  [⟨0x020, 0x020, pageRegs020_020⟩,
   ⟨0x021, 0x021, pageRegs021_021⟩,
   ⟨0x022, 0x022, pageRegs022_022⟩,
   ⟨0x023, 0x023, pageRegs023_023⟩,
   ⟨0x024, 0x024, pageRegs024_024⟩,
   ⟨0x0D0, 0x0D0, pageRegs0D0_0D0⟩,
   ⟨0x0D1, 0x0E4, pageRegs0D1_0E4⟩,
   ⟨0x0F0, 0x0F0, pageRegs0F0_0F0⟩,
   ⟨0x0F1, 0x0F1, pageRegs0F1_0F1⟩]

end Sys2Proof.Machine
end

