-- ==== Sys2Proof/Machine/RegMapE.lean ====
section
/-! DEFINITION. The register tables of spec/14_keys_and_tamper.md, spec/15_memory_and_dma.md, spec/16_mailbox_queues.md, spec/17_clocks_and_power.md, spec/18_reset_and_lifecycle.md,
field by field: bits, access type and reset value as the tables give them. -/

namespace Sys2Proof.Machine

/-! spec/14_keys_and_tamper.md, pages 0x100 to 0x100. -/

def Reg.KEY_STAT : RegDef :=
  { name := "KEY_STAT", off := 0x040,
    fields := [⟨"ROOT_OK", 31, 31, .ro, 0x0⟩, ⟨"ROOT_FAIL", 30, 30, .ro, 0x0⟩, ⟨"ENROLLED_NOW", 29, 29, .ro, 0x0⟩, ⟨"DRBG_OK", 28, 28, .ro, 0x0⟩, ⟨"TAMPER_LOCK", 27, 27, .ro, 0x0⟩, ⟨"POPPY_LOADED", 26, 26, .ro, 0x0⟩, ⟨"PUF_BANK", 25, 24, .ro, 0x0⟩, ⟨"USED", 10, 0, .ro, 0x0⟩] }

def Reg.KEY_CMD : RegDef :=
  { name := "KEY_CMD", off := 0x044,
    fields := [⟨"OP", 31, 26, .wo, 0x0⟩, ⟨"PARENT", 25, 16, .wo, 0x0⟩, ⟨"SLOT", 9, 0, .wo, 0x0⟩] }

def Reg.KEY_CMD_STAT : RegDef :=
  { name := "KEY_CMD_STAT", off := 0x048,
    fields := [⟨"BUSY", 31, 31, .ro, 0x0⟩, ⟨"RESULT", 3, 0, .ro, 0x0⟩] }

def Reg.KEY_ATTR : RegDef :=
  { name := "KEY_ATTR", off := 0x04C,
    fields := [⟨"TYPE", 31, 28, .rw, 0x0⟩, ⟨"LC", 27, 25, .rw, 0x7⟩, ⟨"USAGE", 12, 0, .rw, 0x0⟩] }

def Reg.KEY_SRC : RegDef :=
  { name := "KEY_SRC", off := 0x050, words := 2,
    fields := [⟨"ADDR", 63, 0, .rw, 0x0⟩] }

def Reg.KEY_DST : RegDef :=
  { name := "KEY_DST", off := 0x058, words := 2,
    fields := [⟨"ADDR", 63, 0, .rw, 0x0⟩] }

def Reg.KEY_LEN : RegDef :=
  { name := "KEY_LEN", off := 0x060,
    fields := [⟨"BYTES", 23, 0, .rw, 0x0⟩] }

def Reg.KEY_AAD_LEN : RegDef :=
  { name := "KEY_AAD_LEN", off := 0x064,
    fields := [⟨"BYTES", 15, 0, .rw, 0x0⟩] }

def Reg.KEY_IV : RegDef :=
  { name := "KEY_IV", off := 0x068, count := 3, stride := 0x4,
    fields := [⟨"WORD", 31, 0, .rw, 0x0⟩] }

def Reg.KEY_OUT_LEN : RegDef :=
  { name := "KEY_OUT_LEN", off := 0x074,
    fields := [⟨"BYTES", 31, 0, .ro, 0x0⟩] }

def Reg.KEY_SLOT_INDEX : RegDef :=
  { name := "KEY_SLOT_INDEX", off := 0x078,
    fields := [⟨"SLOT", 9, 0, .rw, 0x0⟩] }

def Reg.KEY_SLOT_INFO : RegDef :=
  { name := "KEY_SLOT_INFO", off := 0x07C,
    fields := [⟨"VALID", 31, 31, .ro, 0x0⟩, ⟨"DEPTH", 30, 28, .ro, 0x0⟩, ⟨"TYPE", 27, 24, .ro, 0x0⟩, ⟨"LC", 23, 21, .ro, 0x0⟩, ⟨"ORIGIN", 20, 19, .ro, 0x0⟩, ⟨"USAGE", 12, 0, .ro, 0x0⟩] }

def Reg.KEY_SLOT_PARENT : RegDef :=
  { name := "KEY_SLOT_PARENT", off := 0x080,
    fields := [⟨"PARENT", 9, 0, .ro, 0x0⟩] }

def Reg.KEY_BLOB_BASE : RegDef :=
  { name := "KEY_BLOB_BASE", off := 0x084,
    fields := [⟨"ADDR", 31, 18, .rwl, 0x0⟩] }

def Reg.KEY_BLOB_STAT : RegDef :=
  { name := "KEY_BLOB_STAT", off := 0x088,
    fields := [⟨"G_CTR", 31, 21, .ro, 0x0⟩, ⟨"G_CUR", 20, 20, .ro, 0x0⟩, ⟨"G_VALID", 19, 19, .ro, 0x0⟩, ⟨"P_CTR", 15, 5, .ro, 0x0⟩, ⟨"P_CUR", 4, 4, .ro, 0x0⟩, ⟨"P_VALID", 3, 3, .ro, 0x0⟩] }

def Reg.KEY_HEALTH_FAIL : RegDef :=
  { name := "KEY_HEALTH_FAIL", off := 0x08C,
    fields := [⟨"COUNT", 31, 0, .rc, 0x0⟩] }

def Reg.KEY_OPS : RegDef :=
  { name := "KEY_OPS", off := 0x090,
    fields := [⟨"COUNT", 31, 0, .rc, 0x0⟩] }

/-- The registers of pages 0x100 to 0x100. -/
def pageRegs100_100 : List RegDef :=
  [Reg.KEY_STAT, Reg.KEY_CMD, Reg.KEY_CMD_STAT, Reg.KEY_ATTR, Reg.KEY_SRC, Reg.KEY_DST, Reg.KEY_LEN, Reg.KEY_AAD_LEN] ++
  [Reg.KEY_IV, Reg.KEY_OUT_LEN, Reg.KEY_SLOT_INDEX, Reg.KEY_SLOT_INFO, Reg.KEY_SLOT_PARENT, Reg.KEY_BLOB_BASE, Reg.KEY_BLOB_STAT, Reg.KEY_HEALTH_FAIL] ++
  [Reg.KEY_OPS]

/-! spec/14_keys_and_tamper.md, pages 0x101 to 0x101. -/

def Reg.TAMP_CFG : RegDef :=
  { name := "TAMP_CFG", off := 0x040,
    fields := [⟨"TEMP_HI", 31, 24, .rw, 0x7D⟩, ⟨"TEMP_LO", 23, 16, .rw, 0xC9⟩, ⟨"STOP_EN", 5, 5, .rw, 0x1⟩, ⟨"SRC_EN", 4, 0, .rw, 0x7⟩] }

def Reg.TAMP_CMD : RegDef :=
  { name := "TAMP_CMD", off := 0x044,
    fields := [⟨"CMD", 3, 0, .wo, 0x0⟩] }

def Reg.TAMP_STAT : RegDef :=
  { name := "TAMP_STAT", off := 0x048,
    fields := [⟨"ACTIVE", 20, 16, .ro, 0x0⟩, ⟨"BOOT_HELD", 8, 8, .ro, 0x0⟩, ⟨"OVF", 5, 5, .ro, 0x0⟩, ⟨"COUNT", 4, 0, .ro, 0x0⟩] }

def Reg.TAMP_TEMP_NOW : RegDef :=
  { name := "TAMP_TEMP_NOW", off := 0x04C,
    fields := [⟨"DEG_C", 7, 0, .ro, 0x0⟩] }

def Reg.TAMP_PROGS_LEFT : RegDef :=
  { name := "TAMP_PROGS_LEFT", off := 0x050,
    fields := [⟨"COUNT", 2, 0, .ro, 0x4⟩] }

def Reg.TAMP_LOG : RegDef :=
  { name := "TAMP_LOG", off := 0x080, count := 16, stride := 0x8,
    fields := [⟨"VALID", 31, 31, .ro, 0x0⟩, ⟨"SOURCE", 30, 28, .ro, 0x0⟩, ⟨"PHASE", 27, 26, .ro, 0x0⟩] }

def Reg.TAMP_LOG_TAI : RegDef :=
  { name := "TAMP_LOG_TAI", off := 0x084, count := 16, stride := 0x8,
    fields := [⟨"SECONDS", 31, 0, .ro, 0x0⟩] }

/-- The registers of pages 0x101 to 0x101. -/
def pageRegs101_101 : List RegDef :=
  [Reg.TAMP_CFG, Reg.TAMP_CMD, Reg.TAMP_STAT, Reg.TAMP_TEMP_NOW, Reg.TAMP_PROGS_LEFT, Reg.TAMP_LOG, Reg.TAMP_LOG_TAI]

/-! spec/14_keys_and_tamper.md, pages 0x102 to 0x102. -/

def Reg.ATTEST_CMD : RegDef :=
  { name := "ATTEST_CMD", off := 0x040,
    fields := [⟨"CMD", 31, 28, .wo, 0x0⟩, ⟨"INDEX", 3, 0, .wo, 0x0⟩] }

def Reg.ATTEST_STAT : RegDef :=
  { name := "ATTEST_STAT", off := 0x044,
    fields := [⟨"BUSY", 31, 31, .ro, 0x0⟩, ⟨"RESULT", 3, 0, .ro, 0x0⟩] }

def Reg.ATTEST_MLOCK : RegDef :=
  { name := "ATTEST_MLOCK", off := 0x048,
    fields := [⟨"LOCK", 8, 0, .w1s, 0x0⟩] }

def Reg.ATTEST_CHAIN_LEN : RegDef :=
  { name := "ATTEST_CHAIN_LEN", off := 0x04C,
    fields := [⟨"BYTES", 12, 0, .rw, 0x0⟩] }

def Reg.ATTEST_CHAIN_ADDR : RegDef :=
  { name := "ATTEST_CHAIN_ADDR", off := 0x050, words := 2,
    fields := [⟨"ADDR", 63, 0, .rw, 0x0⟩] }

def Reg.ATTEST_OUT_ADDR : RegDef :=
  { name := "ATTEST_OUT_ADDR", off := 0x058, words := 2,
    fields := [⟨"ADDR", 63, 0, .rw, 0x0⟩] }

def Reg.ATTEST_NONCE : RegDef :=
  { name := "ATTEST_NONCE", off := 0x060, count := 8, stride := 0x4,
    fields := [⟨"WORD", 31, 0, .rw, 0x0⟩] }

def Reg.ATTEST_EXT : RegDef :=
  { name := "ATTEST_EXT", off := 0x080, count := 12, stride := 0x4,
    fields := [⟨"WORD", 31, 0, .rw, 0x0⟩] }

def Reg.ATTEST_READ_INDEX : RegDef :=
  { name := "ATTEST_READ_INDEX", off := 0x0B0,
    fields := [⟨"INDEX", 3, 0, .rw, 0x0⟩] }

def Reg.ATTEST_VALUE : RegDef :=
  { name := "ATTEST_VALUE", off := 0x0C0, count := 12, stride := 0x4,
    fields := [⟨"WORD", 31, 0, .ro, 0x0⟩] }

def Reg.ATTEST_STATEMENTS : RegDef :=
  { name := "ATTEST_STATEMENTS", off := 0x0F0,
    fields := [⟨"COUNT", 31, 0, .rc, 0x0⟩] }

/-- The registers of pages 0x102 to 0x102. -/
def pageRegs102_102 : List RegDef :=
  [Reg.ATTEST_CMD, Reg.ATTEST_STAT, Reg.ATTEST_MLOCK, Reg.ATTEST_CHAIN_LEN, Reg.ATTEST_CHAIN_ADDR, Reg.ATTEST_OUT_ADDR, Reg.ATTEST_NONCE, Reg.ATTEST_EXT] ++
  [Reg.ATTEST_READ_INDEX, Reg.ATTEST_VALUE, Reg.ATTEST_STATEMENTS]

/-! spec/15_memory_and_dma.md, pages 0x008 to 0x00F. -/

def Reg.DTU_CTRL : RegDef :=
  { name := "DTU_CTRL", off := 0x040,
    fields := [⟨"MODE", 3, 0, .rwl, 0x0⟩] }

def Reg.DTU_INVAL : RegDef :=
  { name := "DTU_INVAL", off := 0x044,
    fields := [⟨"CMD", 31, 28, .wo, 0x0⟩] }

def Reg.DTU_ROOT : RegDef :=
  { name := "DTU_ROOT", off := 0x048, words := 2,
    fields := [⟨"PPN", 63, 12, .rw, 0x0⟩] }

def Reg.DTU_INVAL_VA : RegDef :=
  { name := "DTU_INVAL_VA", off := 0x050, words := 2,
    fields := [⟨"VA", 63, 12, .rw, 0x0⟩] }

def Reg.DTU_INVAL_STAT : RegDef :=
  { name := "DTU_INVAL_STAT", off := 0x058,
    fields := [⟨"BUSY", 31, 31, .ro, 0x0⟩] }

def Reg.DTU_HITS : RegDef :=
  { name := "DTU_HITS", off := 0x05C,
    fields := [⟨"COUNT", 31, 0, .rc, 0x0⟩] }

def Reg.DTU_MISSES : RegDef :=
  { name := "DTU_MISSES", off := 0x060,
    fields := [⟨"COUNT", 31, 0, .rc, 0x0⟩] }

def Reg.DTU_FAULTS : RegDef :=
  { name := "DTU_FAULTS", off := 0x064,
    fields := [⟨"COUNT", 31, 0, .rc, 0x0⟩] }

/-- The registers of pages 0x008 to 0x00F. -/
def pageRegs008_00F : List RegDef :=
  [Reg.DTU_CTRL, Reg.DTU_INVAL, Reg.DTU_ROOT, Reg.DTU_INVAL_VA, Reg.DTU_INVAL_STAT, Reg.DTU_HITS, Reg.DTU_MISSES, Reg.DTU_FAULTS]

/-! spec/15_memory_and_dma.md, pages 0x008 to 0x008. -/

def Reg.DTU_CLIENT_INDEX : RegDef :=
  { name := "DTU_CLIENT_INDEX", off := 0x100,
    fields := [⟨"CLIENT", 7, 0, .rw, 0x1⟩] }

def Reg.DTU_CLIENT_CTX : RegDef :=
  { name := "DTU_CLIENT_CTX", off := 0x104,
    fields := [⟨"CTX", 3, 0, .rwl, 0x0⟩] }

def Reg.DTU_RESUME : RegDef :=
  { name := "DTU_RESUME", off := 0x108,
    fields := [⟨"CMD", 31, 28, .wo, 0x0⟩, ⟨"CLIENT", 15, 8, .wo, 0x0⟩, ⟨"INDEX", 7, 0, .wo, 0x0⟩] }

def Reg.DTU_FAULT_OVF : RegDef :=
  { name := "DTU_FAULT_OVF", off := 0x10C,
    fields := [⟨"COUNT", 31, 0, .rc, 0x0⟩] }

def Reg.DTU_FAULT0 : RegDef :=
  { name := "DTU_FAULT0", off := 0x110,
    fields := [⟨"VALID", 31, 31, .rc, 0x0⟩, ⟨"WRITE", 30, 30, .rc, 0x0⟩, ⟨"CAUSE", 29, 26, .rc, 0x0⟩, ⟨"CTX", 25, 23, .rc, 0x0⟩, ⟨"CLIENT", 15, 8, .rc, 0x0⟩, ⟨"INDEX", 7, 0, .rc, 0x0⟩] }

def Reg.DTU_FAULT1 : RegDef :=
  { name := "DTU_FAULT1", off := 0x114,
    fields := [⟨"TICK", 31, 0, .ro, 0x0⟩] }

def Reg.DTU_FAULT2 : RegDef :=
  { name := "DTU_FAULT2", off := 0x118, words := 2,
    fields := [⟨"VA", 63, 0, .ro, 0x0⟩] }

def Reg.DTU_ECC_CTRL : RegDef :=
  { name := "DTU_ECC_CTRL", off := 0x120,
    fields := [⟨"SCRUB_WORDS", 15, 1, .rw, 0x40⟩, ⟨"SCRUB_EN", 0, 0, .rw, 0x1⟩] }

def Reg.DTU_ECC_CE : RegDef :=
  { name := "DTU_ECC_CE", off := 0x124,
    fields := [⟨"COUNT", 31, 0, .rc, 0x0⟩] }

def Reg.DTU_ECC_UE : RegDef :=
  { name := "DTU_ECC_UE", off := 0x128,
    fields := [⟨"COUNT", 31, 0, .rc, 0x0⟩] }

def Reg.DTU_ECC_LOG : RegDef :=
  { name := "DTU_ECC_LOG", off := 0x12C,
    fields := [⟨"VALID", 31, 31, .rc, 0x0⟩, ⟨"MEMORY", 30, 28, .rc, 0x0⟩] }

def Reg.DTU_ECC_ADDR : RegDef :=
  { name := "DTU_ECC_ADDR", off := 0x130, words := 2,
    fields := [⟨"ADDR", 63, 0, .ro, 0x0⟩] }

def Reg.DTU_LPDDR_CFG : RegDef :=
  { name := "DTU_LPDDR_CFG", off := 0x138,
    fields := [⟨"RATE", 7, 6, .ro, 0x0⟩, ⟨"SIZE", 5, 4, .ro, 0x0⟩, ⟨"IECC", 1, 1, .ro, 0x0⟩, ⟨"LINK_ECC", 0, 0, .ro, 0x0⟩] }

def Reg.DTU_LPDDR_STAT : RegDef :=
  { name := "DTU_LPDDR_STAT", off := 0x13C,
    fields := [⟨"SELF_REFRESH", 1, 1, .ro, 0x0⟩, ⟨"READY", 0, 0, .ro, 0x0⟩] }

/-- The registers of pages 0x008 to 0x008. -/
def pageRegs008_008 : List RegDef :=
  [Reg.DTU_CLIENT_INDEX, Reg.DTU_CLIENT_CTX, Reg.DTU_RESUME, Reg.DTU_FAULT_OVF, Reg.DTU_FAULT0, Reg.DTU_FAULT1, Reg.DTU_FAULT2, Reg.DTU_ECC_CTRL] ++
  [Reg.DTU_ECC_CE, Reg.DTU_ECC_UE, Reg.DTU_ECC_LOG, Reg.DTU_ECC_ADDR, Reg.DTU_LPDDR_CFG, Reg.DTU_LPDDR_STAT]

/-! spec/15_memory_and_dma.md, pages 0x010 to 0x017. -/

def Reg.DMA_CTRL : RegDef :=
  { name := "DMA_CTRL", off := 0x040, count := 2, stride := 0x40,
    fields := [⟨"EN", 31, 31, .rw, 0x0⟩, ⟨"PRIO", 30, 28, .rw, 0x7⟩, ⟨"CTX", 27, 24, .rw, 0x8⟩, ⟨"NOTIFY_EN", 6, 6, .rw, 0x0⟩, ⟨"NOTIFY_QUEUE", 5, 0, .rw, 0x0⟩] }

def Reg.DMA_CMD : RegDef :=
  { name := "DMA_CMD", off := 0x044, count := 2, stride := 0x40,
    fields := [⟨"CMD", 3, 0, .wo, 0x0⟩] }

def Reg.DMA_DESC_ADDR : RegDef :=
  { name := "DMA_DESC_ADDR", off := 0x048, count := 2, stride := 0x40, words := 2,
    fields := [⟨"ADDR", 63, 5, .rw, 0x0⟩] }

def Reg.DMA_CUR_DESC : RegDef :=
  { name := "DMA_CUR_DESC", off := 0x050, count := 2, stride := 0x40, words := 2,
    fields := [⟨"ADDR", 63, 5, .ro, 0x0⟩] }

def Reg.DMA_STAT : RegDef :=
  { name := "DMA_STAT", off := 0x058, count := 2, stride := 0x40,
    fields := [⟨"STATE", 31, 28, .ro, 0x0⟩, ⟨"CAUSE", 27, 24, .ro, 0x0⟩, ⟨"STOP_KEPT", 23, 23, .ro, 0x0⟩] }

def Reg.DMA_DONE : RegDef :=
  { name := "DMA_DONE", off := 0x05C, count := 2, stride := 0x40,
    fields := [⟨"BYTES", 31, 0, .ro, 0x0⟩] }

def Reg.DMA_COMPLETED : RegDef :=
  { name := "DMA_COMPLETED", off := 0x060, count := 2, stride := 0x40,
    fields := [⟨"COUNT", 31, 0, .rc, 0x0⟩] }

def Reg.DMA_PREEMPTED : RegDef :=
  { name := "DMA_PREEMPTED", off := 0x064, count := 2, stride := 0x40,
    fields := [⟨"COUNT", 31, 0, .rc, 0x0⟩] }

def Reg.DMA_NOTIFY_LOST : RegDef :=
  { name := "DMA_NOTIFY_LOST", off := 0x068, count := 2, stride := 0x40,
    fields := [⟨"COUNT", 31, 0, .rc, 0x0⟩] }

/-- The registers of pages 0x010 to 0x017. -/
def pageRegs010_017 : List RegDef :=
  [Reg.DMA_CTRL, Reg.DMA_CMD, Reg.DMA_DESC_ADDR, Reg.DMA_CUR_DESC, Reg.DMA_STAT, Reg.DMA_DONE, Reg.DMA_COMPLETED, Reg.DMA_PREEMPTED] ++
  [Reg.DMA_NOTIFY_LOST]

/-! spec/16_mailbox_queues.md, pages 0x030 to 0x03F. -/

def Reg.MBOX_CFG : RegDef :=
  { name := "MBOX_CFG", off := 0x040, count := 4, stride := 0x20,
    fields := [⟨"EN", 31, 31, .rwl, 0x0⟩, ⟨"PROT", 30, 30, .rwl, 0x0⟩, ⟨"DEPTH", 25, 16, .rwl, 0x40⟩, ⟨"LIMIT_NS", 15, 0, .rwl, 0x1F40⟩] }

def Reg.MBOX_STAT : RegDef :=
  { name := "MBOX_STAT", off := 0x044, count := 4, stride := 0x20,
    fields := [⟨"LEVEL", 26, 16, .ro, 0x0⟩, ⟨"PKT_OPEN", 15, 15, .ro, 0x0⟩, ⟨"DROP_PENDING", 14, 14, .ro, 0x0⟩, ⟨"FULL", 13, 13, .ro, 0x0⟩, ⟨"FILL_BANK", 12, 12, .ro, 0x0⟩, ⟨"HELD", 4, 0, .ro, 0x0⟩] }

def Reg.MBOX_CMD : RegDef :=
  { name := "MBOX_CMD", off := 0x048, count := 4, stride := 0x20,
    fields := [⟨"CMD", 31, 28, .wo, 0x0⟩] }

def Reg.MBOX_WR_FAIL : RegDef :=
  { name := "MBOX_WR_FAIL", off := 0x04C, count := 4, stride := 0x20,
    fields := [⟨"COUNT", 31, 0, .rc, 0x0⟩] }

def Reg.MBOX_POISON : RegDef :=
  { name := "MBOX_POISON", off := 0x050, count := 4, stride := 0x20,
    fields := [⟨"COUNT", 31, 0, .rc, 0x0⟩] }

def Reg.MBOX_PTR_RESETS : RegDef :=
  { name := "MBOX_PTR_RESETS", off := 0x054, count := 4, stride := 0x20,
    fields := [⟨"COUNT", 31, 0, .rc, 0x0⟩] }

def Reg.MBOX_PEAK : RegDef :=
  { name := "MBOX_PEAK", off := 0x058, count := 4, stride := 0x20,
    fields := [⟨"LEVEL", 10, 0, .rc, 0x0⟩] }

def Reg.MBOX_DROPPED : RegDef :=
  { name := "MBOX_DROPPED", off := 0x05C, count := 4, stride := 0x20,
    fields := [⟨"COUNT", 31, 0, .rc, 0x0⟩] }

/-- The registers of pages 0x030 to 0x03F. -/
def pageRegs030_03F : List RegDef :=
  [Reg.MBOX_CFG, Reg.MBOX_STAT, Reg.MBOX_CMD, Reg.MBOX_WR_FAIL, Reg.MBOX_POISON, Reg.MBOX_PTR_RESETS, Reg.MBOX_PEAK, Reg.MBOX_DROPPED]

/-! spec/17_clocks_and_power.md, pages 0x001 to 0x001. -/

def Reg.CLK_STAT : RegDef :=
  { name := "CLK_STAT", off := 0x040,
    fields := [⟨"REF_FALLBACK", 13, 13, .ro, 0x0⟩, ⟨"PCIEREF_OK", 12, 12, .ro, 0x0⟩, ⟨"SDSREF1_OK", 11, 11, .ro, 0x0⟩, ⟨"SDSREF0_OK", 10, 10, .ro, 0x0⟩, ⟨"REF10_OK", 9, 9, .ro, 0x0⟩, ⟨"X25_OK", 8, 8, .ro, 0x0⟩, ⟨"X32K_OK", 7, 7, .ro, 0x0⟩, ⟨"PLL_LOCK", 6, 0, .ro, 0x0⟩] }

def Reg.CLK_DOMAIN_ON : RegDef :=
  { name := "CLK_DOMAIN_ON", off := 0x044,
    fields := [⟨"RADIO", 12, 5, .ro, 0x0⟩, ⟨"GNSS", 4, 4, .ro, 0x0⟩, ⟨"TILE", 3, 3, .ro, 0x0⟩, ⟨"CORE", 2, 2, .ro, 0x0⟩, ⟨"FABRIC", 1, 1, .ro, 0x1⟩, ⟨"TB", 0, 0, .ro, 0x0⟩] }

def Reg.CLK_HOLD : RegDef :=
  { name := "CLK_HOLD", off := 0x048,
    fields := [⟨"TILE_US", 31, 16, .rw, 0x64⟩, ⟨"CORE_US", 15, 0, .rw, 0x32⟩] }

def Reg.CLK_REF10_PPB : RegDef :=
  { name := "CLK_REF10_PPB", off := 0x04C,
    fields := [⟨"PPB", 31, 0, .ro, 0x0⟩] }

def Reg.CLK_STARTS : RegDef :=
  { name := "CLK_STARTS", off := 0x050,
    fields := [⟨"COUNT", 31, 0, .rc, 0x0⟩] }

def Reg.CLK_REF_LOST : RegDef :=
  { name := "CLK_REF_LOST", off := 0x054,
    fields := [⟨"COUNT", 31, 0, .rc, 0x0⟩] }

/-- The registers of pages 0x001 to 0x001. -/
def pageRegs001_001 : List RegDef :=
  [Reg.CLK_STAT, Reg.CLK_DOMAIN_ON, Reg.CLK_HOLD, Reg.CLK_REF10_PPB, Reg.CLK_STARTS, Reg.CLK_REF_LOST]

/-! spec/17_clocks_and_power.md, pages 0x002 to 0x002. -/

def Reg.PWR_CMD : RegDef :=
  { name := "PWR_CMD", off := 0x040,
    fields := [⟨"CMD", 31, 28, .wo, 0x0⟩] }

def Reg.PWR_STAT : RegDef :=
  { name := "PWR_STAT", off := 0x044,
    fields := [⟨"RESULT", 15, 12, .ro, 0x0⟩, ⟨"RETURN_BUD", 8, 8, .ro, 0x0⟩, ⟨"STATE", 2, 0, .ro, 0x0⟩] }

def Reg.PWR_WAKE_EN : RegDef :=
  { name := "PWR_WAKE_EN", off := 0x048,
    fields := [⟨"EN", 3, 0, .rw, 0xF⟩] }

def Reg.PWR_WAKE_STAT : RegDef :=
  { name := "PWR_WAKE_STAT", off := 0x04C,
    fields := [⟨"VALID", 31, 31, .rc, 0x0⟩, ⟨"FIRST", 17, 16, .rc, 0x0⟩, ⟨"SOURCES", 3, 0, .rc, 0x0⟩] }

def Reg.PWR_WAKE_AT : RegDef :=
  { name := "PWR_WAKE_AT", off := 0x050, words := 2,
    fields := [⟨"SECOND", 47, 0, .rw, 0x0⟩] }

def Reg.PWR_ENTRY_US : RegDef :=
  { name := "PWR_ENTRY_US", off := 0x058,
    fields := [⟨"US", 31, 0, .ro, 0x0⟩] }

def Reg.PWR_WAKE_US : RegDef :=
  { name := "PWR_WAKE_US", off := 0x05C,
    fields := [⟨"US", 31, 0, .ro, 0x0⟩] }

def Reg.PWR_LPDDR : RegDef :=
  { name := "PWR_LPDDR", off := 0x060,
    fields := [⟨"IDLE_US", 31, 16, .rw, 0x64⟩, ⟨"SR_EN", 0, 0, .rw, 0x0⟩] }

def Reg.PWR_SNOWDROPS : RegDef :=
  { name := "PWR_SNOWDROPS", off := 0x064,
    fields := [⟨"COUNT", 31, 0, .rc, 0x0⟩] }

def Reg.PWR_WFI_WAIT : RegDef :=
  { name := "PWR_WFI_WAIT", off := 0x068,
    fields := [⟨"US", 15, 0, .rw, 0x3E8⟩] }

/-- The registers of pages 0x002 to 0x002. -/
def pageRegs002_002 : List RegDef :=
  [Reg.PWR_CMD, Reg.PWR_STAT, Reg.PWR_WAKE_EN, Reg.PWR_WAKE_STAT, Reg.PWR_WAKE_AT, Reg.PWR_ENTRY_US, Reg.PWR_WAKE_US, Reg.PWR_LPDDR] ++
  [Reg.PWR_SNOWDROPS, Reg.PWR_WFI_WAIT]

/-! spec/18_reset_and_lifecycle.md, pages 0x000 to 0x000. -/

def Reg.SYS_LC : RegDef :=
  { name := "SYS_LC", off := 0x040,
    fields := [⟨"MARKER_WIPE", 9, 9, .ro, 0x0⟩, ⟨"HASH_SET", 8, 8, .ro, 0x0⟩, ⟨"STATE", 2, 0, .ro, 0x0⟩] }

def Reg.SYS_LC_CMD : RegDef :=
  { name := "SYS_LC_CMD", off := 0x044,
    fields := [⟨"CMD", 31, 28, .wo, 0x0⟩, ⟨"TARGET", 2, 0, .wo, 0x0⟩] }

def Reg.SYS_LC_STAT : RegDef :=
  { name := "SYS_LC_STAT", off := 0x048,
    fields := [⟨"BUSY", 31, 31, .ro, 0x0⟩, ⟨"RESULT", 3, 0, .ro, 0x0⟩] }

def Reg.SYS_STRAP : RegDef :=
  { name := "SYS_STRAP", off := 0x04C,
    fields := [⟨"RECOV_IGNORED", 3, 3, .ro, 0x0⟩, ⟨"RECOV", 2, 2, .ro, 0x0⟩, ⟨"PCIE", 1, 1, .ro, 0x0⟩, ⟨"XSPI", 0, 0, .ro, 0x0⟩] }

def Reg.SYS_LC_AUTH_ADDR : RegDef :=
  { name := "SYS_LC_AUTH_ADDR", off := 0x050, words := 2,
    fields := [⟨"ADDR", 63, 0, .rw, 0x0⟩] }

def Reg.SYS_BOOT_STAT : RegDef :=
  { name := "SYS_BOOT_STAT", off := 0x058,
    fields := [⟨"STAGE", 31, 28, .ro, 0x0⟩, ⟨"SLOT", 27, 24, .ro, 0x0⟩, ⟨"ERROR", 23, 16, .ro, 0x0⟩, ⟨"POPPY_FAIL", 15, 15, .ro, 0x0⟩, ⟨"HOST_OPEN", 14, 14, .ro, 0x0⟩] }

def Reg.SYS_MIN_SVN : RegDef :=
  { name := "SYS_MIN_SVN", off := 0x05C,
    fields := [⟨"SVN", 5, 0, .ro, 0x0⟩] }

def Reg.SYS_LC_NONCE : RegDef :=
  { name := "SYS_LC_NONCE", off := 0x060, count := 8, stride := 0x4,
    fields := [⟨"WORD", 31, 0, .ro, 0x0⟩] }

def Reg.SYS_OTP_CMD : RegDef :=
  { name := "SYS_OTP_CMD", off := 0x080,
    fields := [⟨"CMD", 31, 28, .wo, 0x0⟩] }

def Reg.SYS_OTP_STAT : RegDef :=
  { name := "SYS_OTP_STAT", off := 0x084,
    fields := [⟨"BUSY", 31, 31, .ro, 0x0⟩] }

def Reg.SYS_CORE_RUN : RegDef :=
  { name := "SYS_CORE_RUN", off := 0x088,
    fields := [⟨"START", 7, 0, .w1s, 0x1⟩] }

def Reg.SYS_CORE_VEC : RegDef :=
  { name := "SYS_CORE_VEC", off := 0x090, words := 2,
    fields := [⟨"ADDR", 63, 0, .rw, 0x0⟩] }

def Reg.SYS_WARM_VEC_C : RegDef :=
  { name := "SYS_WARM_VEC_C", off := 0x098, words := 2,
    fields := [⟨"ADDR", 63, 0, .rw, 0x0⟩] }

def Reg.SYS_WARM_VEC_D : RegDef :=
  { name := "SYS_WARM_VEC_D", off := 0x0A0, words := 2,
    fields := [⟨"ADDR", 63, 0, .rw, 0x0⟩] }

def Reg.SYS_LOAD_CTRL : RegDef :=
  { name := "SYS_LOAD_CTRL", off := 0x0A8,
    fields := [⟨"GO", 0, 0, .wo, 0x0⟩] }

def Reg.SYS_LOAD_DATA : RegDef :=
  { name := "SYS_LOAD_DATA", off := 0x0AC,
    fields := [⟨"WORD", 31, 0, .wo, 0x0⟩] }

def Reg.SYS_LOAD_STAT : RegDef :=
  { name := "SYS_LOAD_STAT", off := 0x0B0,
    fields := [⟨"READY", 31, 31, .ro, 0x0⟩, ⟨"RESULT", 7, 0, .ro, 0x0⟩] }

def Reg.SYS_OTP_DATA : RegDef :=
  { name := "SYS_OTP_DATA", off := 0x100, count := 8, stride := 0x4,
    fields := [⟨"WORD", 31, 0, .rw, 0x0⟩] }

/-- The registers of pages 0x000 to 0x000. -/
def pageRegs000_000 : List RegDef :=
  [Reg.SYS_LC, Reg.SYS_LC_CMD, Reg.SYS_LC_STAT, Reg.SYS_STRAP, Reg.SYS_LC_AUTH_ADDR, Reg.SYS_BOOT_STAT, Reg.SYS_MIN_SVN, Reg.SYS_LC_NONCE] ++
  [Reg.SYS_OTP_CMD, Reg.SYS_OTP_STAT, Reg.SYS_CORE_RUN, Reg.SYS_CORE_VEC, Reg.SYS_WARM_VEC_C, Reg.SYS_WARM_VEC_D, Reg.SYS_LOAD_CTRL, Reg.SYS_LOAD_DATA] ++
  [Reg.SYS_LOAD_STAT, Reg.SYS_OTP_DATA]

/-! spec/18_reset_and_lifecycle.md, pages 0x003 to 0x003. -/

def Reg.RST_CMD : RegDef :=
  { name := "RST_CMD", off := 0x040,
    fields := [⟨"CMD", 31, 28, .wo, 0x0⟩, ⟨"KEY", 15, 0, .wo, 0x0⟩] }

def Reg.RST_CAUSE : RegDef :=
  { name := "RST_CAUSE", off := 0x044,
    fields := [⟨"FIRST", 23, 16, .ro, 0x0⟩, ⟨"SOURCES", 7, 0, .ro, 0x1⟩] }

def Reg.RST_PLANE : RegDef :=
  { name := "RST_PLANE", off := 0x048,
    fields := [⟨"SOURCE", 5, 4, .ro, 0x0⟩, ⟨"WHICH", 1, 0, .ro, 0x0⟩] }

def Reg.RST_DEV_COUNT : RegDef :=
  { name := "RST_DEV_COUNT", off := 0x04C,
    fields := [⟨"COUNT", 31, 0, .rc, 0x0⟩] }

def Reg.RST_PLANE_COUNT : RegDef :=
  { name := "RST_PLANE_COUNT", off := 0x050,
    fields := [⟨"COUNT", 31, 0, .rc, 0x0⟩] }

def Reg.RST_WDOG_CTRL : RegDef :=
  { name := "RST_WDOG_CTRL", off := 0x054,
    fields := [⟨"EN", 31, 31, .rw, 0x0⟩, ⟨"TARGET", 30, 28, .rw, 0x2⟩, ⟨"TIMEOUT_MS", 15, 0, .rw, 0x3E8⟩] }

def Reg.RST_WDOG_KICK : RegDef :=
  { name := "RST_WDOG_KICK", off := 0x058,
    fields := [⟨"VALUE", 31, 0, .wo, 0x0⟩] }

def Reg.RST_WIPE_US : RegDef :=
  { name := "RST_WIPE_US", off := 0x05C,
    fields := [⟨"US", 31, 0, .ro, 0x0⟩] }

/-- The registers of pages 0x003 to 0x003. -/
def pageRegs003_003 : List RegDef :=
  [Reg.RST_CMD, Reg.RST_CAUSE, Reg.RST_PLANE, Reg.RST_DEV_COUNT, Reg.RST_PLANE_COUNT, Reg.RST_WDOG_CTRL, Reg.RST_WDOG_KICK, Reg.RST_WIPE_US]

/-! spec/18_reset_and_lifecycle.md, pages 0x110 to 0x110. -/

def Reg.DBG_CTRL : RegDef :=
  { name := "DBG_CTRL", off := 0x040,
    fields := [⟨"SYS_RESET", 31, 31, .w1s, 0x0⟩, ⟨"HALT_REQ", 7, 0, .rw, 0x0⟩] }

def Reg.DBG_STAT : RegDef :=
  { name := "DBG_STAT", off := 0x044,
    fields := [⟨"SCAN_ACTIVE", 9, 9, .ro, 0x0⟩, ⟨"TAP_DEBUG", 8, 8, .ro, 0x0⟩, ⟨"HALTED", 7, 0, .ro, 0x0⟩] }

def Reg.DBG_IDCODE : RegDef :=
  { name := "DBG_IDCODE", off := 0x048,
    fields := [⟨"ID", 31, 0, .ro, 0x220403A3⟩] }

/-- The registers of pages 0x110 to 0x110. -/
def pageRegs110_110 : List RegDef :=
  [Reg.DBG_CTRL, Reg.DBG_STAT, Reg.DBG_IDCODE]

/-- The pages described in this file. -/
def pageDefsE : List PageDef :=
  [⟨0x100, 0x100, pageRegs100_100⟩,
   ⟨0x101, 0x101, pageRegs101_101⟩,
   ⟨0x102, 0x102, pageRegs102_102⟩,
   ⟨0x008, 0x00F, pageRegs008_00F⟩,
   ⟨0x008, 0x008, pageRegs008_008⟩,
   ⟨0x010, 0x017, pageRegs010_017⟩,
   ⟨0x030, 0x03F, pageRegs030_03F⟩,
   ⟨0x001, 0x001, pageRegs001_001⟩,
   ⟨0x002, 0x002, pageRegs002_002⟩,
   ⟨0x000, 0x000, pageRegs000_000⟩,
   ⟨0x003, 0x003, pageRegs003_003⟩,
   ⟨0x110, 0x110, pageRegs110_110⟩]

end Sys2Proof.Machine
end

