-- ==== Sys2Proof/Machine/RegMap.lean ====
section
/-! DEFINITION. The register map (02_register_pages.md R30, R36, R37): pages, planes, the header of every page, the
windowed registers, and what every register holds at reset. -/

namespace Sys2Proof.Machine

/-- Where a page belongs (R36): the plane that resets it, or a meeting point, which no plane reset reaches (R14). The
pages of the translation unit lie in the data plane but are reset by a device reset only (R12). -/
inductive PagePlane where
  | mgmt | data | control | meeting | dtu
  deriving DecidableEq, Repr

/-- One row of the page map of R36: pages `first` to `last`, block type code, instance number of the first page. -/
structure PageRow where
  first : Nat
  last  : Nat
  code  : Nat
  inst  : Nat
  plane : PagePlane
  deriving DecidableEq, Repr

/-- The page map of R36. -/
def pageTable : List PageRow :=
  [⟨0x000, 0x000, 0x0001, 0, .mgmt⟩, ⟨0x001, 0x001, 0x0002, 0, .mgmt⟩, ⟨0x002, 0x002, 0x0003, 0, .mgmt⟩,
   ⟨0x003, 0x003, 0x0004, 0, .mgmt⟩, ⟨0x008, 0x00F, 0x0010, 0, .dtu⟩, ⟨0x010, 0x017, 0x0011, 0, .data⟩,
   ⟨0x020, 0x020, 0x0020, 0, .control⟩, ⟨0x021, 0x021, 0x0021, 0, .control⟩, ⟨0x022, 0x022, 0x0022, 0, .control⟩,
   ⟨0x023, 0x023, 0x0023, 0, .control⟩, ⟨0x024, 0x024, 0x0024, 0, .control⟩, ⟨0x030, 0x03F, 0x0030, 0, .meeting⟩] ++
  [⟨0x040, 0x041, 0x0040, 0, .meeting⟩, ⟨0x042, 0x042, 0x0041, 0, .meeting⟩, ⟨0x043, 0x043, 0x0042, 0, .meeting⟩,
   ⟨0x050, 0x053, 0x0050, 0, .data⟩, ⟨0x054, 0x054, 0x0051, 0, .data⟩, ⟨0x055, 0x055, 0x0052, 0, .data⟩,
   ⟨0x056, 0x056, 0x0053, 0, .data⟩, ⟨0x060, 0x060, 0x0060, 0, .data⟩, ⟨0x061, 0x070, 0x0061, 0, .data⟩,
   ⟨0x071, 0x071, 0x0062, 0, .data⟩, ⟨0x080, 0x080, 0x0080, 0, .meeting⟩, ⟨0x081, 0x081, 0x0081, 0, .meeting⟩,
   ⟨0x082, 0x082, 0x0082, 0, .meeting⟩, ⟨0x090, 0x090, 0x0090, 0, .control⟩, ⟨0x091, 0x091, 0x0091, 0, .control⟩] ++
  [⟨0x092, 0x092, 0x0092, 0, .control⟩, ⟨0x0A0, 0x0A0, 0x00A0, 0, .data⟩, ⟨0x0A1, 0x0A8, 0x00A1, 0, .data⟩,
   ⟨0x0B0, 0x0B0, 0x00B0, 0, .data⟩, ⟨0x0B1, 0x0B8, 0x00B1, 0, .data⟩, ⟨0x0C0, 0x0C0, 0x00C0, 0, .meeting⟩,
   ⟨0x0D0, 0x0D0, 0x00D0, 0, .data⟩, ⟨0x0D1, 0x0E4, 0x00D1, 0, .data⟩, ⟨0x0F0, 0x0F0, 0x00F0, 0, .control⟩,
   ⟨0x0F1, 0x0F1, 0x00F1, 0, .control⟩, ⟨0x100, 0x100, 0x0100, 0, .mgmt⟩, ⟨0x101, 0x101, 0x0101, 0, .mgmt⟩,
   ⟨0x102, 0x102, 0x0102, 0, .mgmt⟩, ⟨0x110, 0x110, 0x0110, 0, .mgmt⟩]

/-- The row of the page map that holds page `p`, if `p` is assigned (R36). -/
def pageRow (p : Nat) : Option PageRow :=
  pageTable.find? fun r => decide (r.first ≤ p) && decide (p ≤ r.last)

/-- Page `p` is assigned (R36). -/
def pageAssigned (p : Nat) : Bool := (pageRow p).isSome

/-- The pages that own SRAM (R561): ASTER0 to ASTER15, SWCH, TRACK. -/
def pageOwnsSram (p : Nat) : Bool :=
  (decide (0x061 ≤ p) && decide (p ≤ 0x070)) || p == 0x0D0 || p == 0x090

/-- The pages whose ENABLE is fixed at 1 (R37): SYS, CLK, PWR, RST, TIME_A, TIME_B, POPPY. -/
def pageAlwaysEnabled (p : Nat) : Bool :=
  decide (p ≤ 0x003) || p == 0x040 || p == 0x041 || p == 0x0C0

/-- The pages without retention: RET_REQ reads 0 and ignores writes (R37, R501). -/
def pageKeptInSnowdrop (p : Nat) : Bool :=
  decide (p ≤ 0x003) || (decide (0x030 ≤ p) && decide (p ≤ 0x043)) || (decide (0x080 ≤ p) && decide (p ≤ 0x082)) ||
    p == 0x0C0 || (decide (0x100 ≤ p) && decide (p ≤ 0x102))

/-- The events of a page, as the highest and the lowest bit that its chapter lists (R97, R120, R168, R193, R233, R261, R294, R329, R356,
R381, R417, R449, R474, R490, R509, R532). -/
def pageEvents (p : Nat) : Nat × Nat :=
  if p = 0x000 then (2, 0) else if p = 0x001 then (5, 0) else if p = 0x002 then (3, 0) else if p = 0x003 then (1, 0)
  else if p = 0x008 then (5, 0) else if p ≤ 0x00F then (2, 2) else if p ≤ 0x017 then (7, 0)
  else if p ≤ 0x021 then (1, 0) else if p = 0x022 then (2, 0) else if p = 0x023 then (3, 0) else if p = 0x024 then (1, 0)
  else if p ≤ 0x03F then (15, 0) else if p ≤ 0x041 then (4, 0) else if p ≤ 0x043 then (8, 0)
  else if p ≤ 0x054 then (3, 0) else if p ≤ 0x056 then (4, 0) else if p = 0x060 then (9, 0) else if p ≤ 0x070 then (3, 0)
  else if p = 0x071 then (2, 0) else if p = 0x080 then (4, 0) else if p = 0x081 then (0, 0) else if p = 0x082 then (4, 0)
  else if p = 0x090 then (4, 0) else if p = 0x091 then (2, 0) else if p = 0x092 then (4, 0) else if p = 0x0A0 then (3, 0)
  else if p ≤ 0x0A8 then (6, 0) else if p = 0x0B0 then (4, 0) else if p ≤ 0x0B8 then (6, 0) else if p = 0x0C0 then (11, 0)
  else if p = 0x0D0 then (8, 0) else if p ≤ 0x0E4 then (6, 0) else if p = 0x0F0 then (8, 0) else if p = 0x0F1 then (5, 0)
  else if p = 0x100 then (4, 0) else if p = 0x101 then (2, 0) else (1, 0)

/-- The bits of PG_IRQ_RAW that a page has: ERR and its listed events; the others are reserved (R42). -/
def eventMask (p : Nat) : Nat := 2 ^ 31 + (2 ^ ((pageEvents p).1 + 1) - 2 ^ (pageEvents p).2)

/-- The header registers of every page (R37). -/
def headerRegs (p : Nat) : List RegDef :=
  [{ name := "PG_ID", off := 0x000, fields := [⟨"BLOCK_TYPE", 31, 16, .ro, 0⟩, ⟨"INSTANCE", 15, 8, .ro, 0⟩, ⟨"HDR_VER", 7, 0, .ro, 1⟩] },
   { name := "PG_VER", off := 0x004, fields := [⟨"BLK_MAJOR", 31, 24, .ro, 2⟩, ⟨"BLK_MINOR", 23, 16, .ro, 0⟩, ⟨"STEPPING", 7, 0, .ro, 0x20⟩] },
   { name := "PG_CTRL", off := 0x008, fields := [⟨"LOCK", 31, 31, .w1s, 0⟩,
       ⟨"RET_REQ", 3, 3, if pageKeptInSnowdrop p then .ro else .rwl, 0⟩, ⟨"CLK_REQ", 2, 2, .rw, 0⟩,
       ⟨"SOFT_RESET", 1, 1, .w1s, 0⟩,
       ⟨"ENABLE", 0, 0, if pageAlwaysEnabled p then .ro else .rwl, if pageAlwaysEnabled p then 1 else 0⟩] },
   { name := "PG_STAT", off := 0x00C, fields := [⟨"WIPED", 4, 4, .ro, if pageOwnsSram p then 1 else 0⟩, ⟨"FAULT", 3, 3, .ro, 0⟩,
       ⟨"BUSY", 2, 2, .ro, 0⟩, ⟨"CLK_ON", 1, 1, .ro, 0⟩, ⟨"READY", 0, 0, .ro, 0⟩] },
   { name := "PG_IRQ_RAW", off := 0x010, fields := [⟨"ERR", 31, 31, .w1c, 0⟩, ⟨"EVENTS", (pageEvents p).1, (pageEvents p).2, .w1c, 0⟩] },
   { name := "PG_IRQ_EN", off := 0x014, fields := [⟨"EN", 31, 0, .rw, 0⟩] },
   { name := "PG_IRQ_STAT", off := 0x018, fields := [⟨"STAT", 31, 0, .ro, 0⟩] },
   { name := "PG_IRQ_FORCE", off := 0x01C, fields := [⟨"FORCE", 31, 0, .wo, 0⟩] }] ++
  [{ name := "PG_ERR_INFO", off := 0x020, fields := [⟨"CODE", 31, 24, .ro, 0⟩, ⟨"INITIATOR", 23, 20, .ro, 0⟩,
       ⟨"CORE", 19, 16, .ro, 0⟩, ⟨"COUNT", 15, 8, .ro, 0⟩, ⟨"VALID", 0, 0, .ro, 0⟩] },
   { name := "PG_ERR_ADDR", off := 0x024, fields := [⟨"ADDR", 31, 0, .ro, 0⟩] },
   { name := "PG_ERR_CLR", off := 0x028, fields := [⟨"CLEAR", 0, 0, .wo, 0⟩] },
   { name := "PG_SCRATCH", off := 0x02C, fields := [⟨"SCRATCH", 31, 0, .rw, 0⟩] }]

/-- Every page's block registers. -/
def pageDefs : List PageDef := pageDefsA ++ pageDefsB ++ pageDefsC ++ pageDefsD ++ pageDefsE

/-- Word `w` of a register at offset `off`: the copy and the word that the offset names, if it names one. -/
def RegDef.locate (r : RegDef) (off : Nat) : Option (Nat × Nat) :=
  if off < r.off then none
  else
    let copy := if r.count ≤ 1 then 0 else (off - r.off) / r.stride
    let rest := off - r.off - copy * r.stride
    if copy < max r.count 1 ∧ rest < 4 * r.words then some (copy, rest / 4) else none

/-- The first register of a list that holds offset `off`, with the word. -/
def findReg : List RegDef → Nat → Option (RegDef × Nat)
  | [], _ => none
  | r :: rs, off =>
    match r.locate off with
    | some (_, w) => some (r, w)
    | none => findReg rs off

/-- The register of page `p` that holds offset `off`, with the word. -/
def findPageReg : List PageDef → Nat → Nat → Option (RegDef × Nat)
  | [], _, _ => none
  | d :: ds, p, off =>
    if d.first ≤ p ∧ p ≤ d.last then
      match findReg d.regs off with
      | some x => some x
      | none => findPageReg ds p off
    else findPageReg ds p off

/-- A windowed register keeps one home per window index: its key is the register's own key plus this much per index. -/
def windowStep : Nat := 0x1000000

/-- The register key of a storage key: the window index removed. -/
def plainKey (key : Nat) : Nat := key % windowStep

/-- The register that holds a key (page × 0x1000 + offset), with the word (R30, R37). -/
def regAt (key : Nat) : Option (RegDef × Nat) :=
  let p := plainKey key / 0x1000
  let off := plainKey key % 0x1000
  if pageAssigned p then
    if off < 0x040 then findReg (headerRegs p) off else findPageReg pageDefs p off
  else none

/-- The reset value of one word of a register, from its fields. -/
def fieldsReset (w : Nat) : List FieldDef → Nat
  | [] => 0
  | f :: fs => (f.reset * 2 ^ f.lo / 2 ^ (32 * w)) % 2 ^ 32 + fieldsReset w fs

/-- The standard script of R135, from word 0; words 16 to 63 are 0. -/
def standardScript : List Nat :=
  [0x01000000, 0x02000000, 0x03000000, 0x0C01000D, 0x04030000, 0x05000000, 0x05010000, 0x05020000,
   0x06000000, 0x0C02000D, 0x07000000, 0x08000000, 0x0903000A, 0x0A000000, 0x0B000000, 0x00000000]

/-- The reset values that differ between copies of one register: TIME_B's bandwidth and loss limit (04_time_base.md
R117), the speed table (06_site_map.md R190), class 0 (07_track_planner.md R230), the scripts (05_fix_engine.md R135). -/
def copyReset (key : Nat) : Option Nat :=
  if key == 0x41044 then some 0x00640064
  else if key == 0x41048 then some 0xFA
  else if 0x80068 ≤ key ∧ key < 0x80084 then
    let k := (key - 0x80068) / 4
    some ((2 * k + 2) * 1000 * 0x10000 + (2 * k + 1) * 1000)
  else if key == 0x90100 then some 0x1F40012C
  else if 0x60800 ≤ key ∧ key < 0x60A00 then some (standardScript.getD ((key % 0x100) / 4) 0)
  else if key == windowStep + 0xD0074 ∨ key == windowStep + 0xD0078 then some 0x3FFFFF
  else none

/-- What a register word holds at reset (R37 and the tables of every chapter). -/
def resetWord (key : Nat) : Word :=
  match copyReset key with
  | some v => BitVec.ofNat 32 v
  | none =>
    if plainKey key % 0x1000 == 0x000 then
      match pageRow (plainKey key / 0x1000) with
      | some r => BitVec.ofNat 32 (r.code * 0x10000 + (r.inst + plainKey key / 0x1000 - r.first) * 0x100 + 1)
      | none => 0
    else
      match regAt key with
      | some (r, w) => BitVec.ofNat 32 (fieldsReset w r.fields)
      | none => 0

/-- The windowed registers: first and last key, and the index register that selects the copy (R118, R351, R379, R472). -/
def windows : List (Nat × Nat × Fld) :=
  [(0x420C4, 0x420DC, ⟨0x420C0, 3, 0⟩), (0x2004C, 0x2004C, ⟨0x20048, 11, 0⟩), (0xD0074, 0xD0078, ⟨0xD0070, 11, 0⟩),
   (0xD00A4, 0xD00BC, ⟨0xD00A0, 3, 0⟩), (0x08104, 0x08104, ⟨0x08100, 7, 0⟩)]

end Sys2Proof.Machine
end

