-- ==== Sys2Proof/Machine/State.lean ====
section
/-! DEFINITION. The state of the block: everything the spec gives the machine, as plain data, and the queue of the
commands that wait. `State.reset` is the block when device reset is released. -/

namespace Sys2Proof.Machine

/-- Why a step could stop with a fault. No rule of the spec stops the block, so no meaning answers a fault. -/
inductive Fault where
  /-- Raised by no meaning; it stands for a stop that the spec does not describe (safe). -/
  | blockStopped
  deriving DecidableEq, Repr

/-- Why a step could refuse a command. -/
inductive Refusal where
  /-- Raised by an arm of Dispatch.lean whose command has no meaning yet (safe). -/
  | notModelled (mnemonic : String)
  deriving DecidableEq, Repr

/-! ## Register access (02_register_pages.md) -/

/-- An initiator's read latch: the words above the lowest of one wide value (R46, R47). -/
structure ReadLatch where
  base  : Nat
  words : List Word
  deriving DecidableEq, Repr

/-- The lower words of one wide value that wait in an initiator's write buffer, by word number (R48). -/
structure WriteBuffer where
  base  : Nat
  words : List (Nat × Word)
  deriving DecidableEq, Repr

/-- What the last access returned to its initiator: data, and whether with a bus error (R31). -/
structure BusResponse where
  data  : DWord
  error : Bool
  deriving DecidableEq, Repr

/-! ## Mailbox queues (16_mailbox_queues.md) -/

/-- The blocks that post words to mailbox queues (R488). -/
inductive Block where
  | receiver | solver | formatter | planner | seg | radio | dispatch | pair | switch | keyStore
  | dma (channel : Nat)
  deriving DecidableEq, Repr

/-- Who writes a word: an initiator or a block of the device (R481). -/
inductive Writer where
  | ini (i : Initiator)
  | blk (b : Block)
  deriving DecidableEq, Repr

/-- A stored word with the state of its parity bit (R485). -/
structure MboxWord where
  word : DWord
  bad  : Bool
  deriving DecidableEq, Repr

/-- How a block counts a word that is lost at the bus limit: a counter, an event of a page, an entry of a log. -/
structure Lost where
  count : Fld
  event : Option (Nat × Nat)
  log   : Option (Nat × Nat × Word)
  deriving DecidableEq, Repr

/-- A held write (R481): `since` is the fabric time at which the hold began; `lost` says how a block counts
the word when it is lost. -/
structure HeldWrite where
  writer : Writer
  word   : DWord
  packet : Bool
  since  : Nat
  lost   : Option Lost
  deriving DecidableEq, Repr

/-- One mailbox queue (R475 to R485). -/
structure MboxQueue where
  fill        : List MboxWord := []
  drain       : List MboxWord := []
  opener      : Option Writer := none
  lastPacket  : Nat := 0
  held        : List HeldWrite := []
  dropPending : Bool := false
  ptrBad      : Bool := false
  /-- The bank now taking writes (0 or 1). -/
  fillBank    : Nat := 0
  deriving DecidableEq, Repr

/-! ## Memory, translation, DMA (15_memory_and_dma.md) -/

/-- A bad 64-bit word of a memory (R453). -/
inductive EccError where
  | none | correctable | uncorrectable
  deriving DecidableEq, Repr

/-- One entry of the translation cache (R460): context, leaf level (0 for 4 KiB), virtual page number at that level's
granularity, the PTE, and whether a commit of the planner needs it (R467). -/
structure DtuEntry where
  ctx    : Nat
  level  : Nat
  vpn    : Nat
  pte    : DWord
  locked : Bool := false
  deriving DecidableEq, Repr

/-- The states of a DMA channel (R473). -/
inductive DmaState where
  | idle | running | stopped | paused | error
  deriving DecidableEq, Repr

/-- A DMA channel: its state, the descriptor in progress with the words read (R466, R468), DONE, a kept STOP, and the error STATUS
that its word 0 still has to be given (0 none). -/
structure DmaChannel where
  state    : DmaState := .idle
  desc     : Nat := 0
  words    : List Word := []
  done     : Nat := 0
  crc      : Word := 0xFFFFFFFF
  cause    : Nat := 0
  stopKept : Bool := false
  status   : Nat := 0
  deriving DecidableEq, Repr

/-- Memory and what serves it. -/
structure MemSt where
  /-- Bytes of on-chip SRAM, retained SRAM and LPDDR5 by physical address; an unlisted byte reads 0. -/
  bytes      : List Host.Cell := []
  /-- Bytes of boot flash by offset; an unlisted byte reads 0xFF. -/
  flash      : List Host.Cell := []
  /-- Bad words by the address of their first byte. -/
  ecc        : List (Nat × EccError) := []
  dtuCache   : List DtuEntry := []
  /-- Contexts with an INVAL in progress, with the page or none for ALL. -/
  dtuInval   : List (Nat × Option Nat) := []
  /-- Paused clients of R463: client and index. -/
  dtuPaused  : List (Nat × Nat) := []
  dma        : List (Nat × DmaChannel) := []
  /-- The channel the mover served last, and the channel whose descriptor is unfinished (R469). -/
  dmaLast    : Nat := 15
  dmaRunning : Option Nat := none
  scrubPos   : Nat := 0
  /-- The device time of the last LPDDR5 access (R506). -/
  lpddrLast  : Nat := 0
  deriving DecidableEq, Repr

/-! ## What leaves the block -/

/-- Something the block sends: a heartbeat frame of a Poppy channel (R389), a frame of a radio sector (09_malvo_radio.md), an
Ethernet frame of a port, an MSI-X message (R50), an interrupt to a control or data core (R51). -/
inductive Sent where
  | heartbeat (chan : Nat) (bytes : List Byte)
  | radio (sector : Nat) (bytes : List Byte)
  | eth (port : Nat) (bytes : List Byte)
  | msix (vector address data : Nat)
  | coreIrq (core : Nat) (line : Nat)
  deriving DecidableEq, Repr

/-! ## Satellite receiver (03_satellite_receiver.md) -/

/-- The states of a tracking channel (R64). -/
inductive ChState where
  | idle | acq | pullin | track | lost | held
  deriving DecidableEq, Repr

/-- What a latch records of a channel besides its measurement: state, C/N0, TRACK_FLAGS, lock time, HALF_CYCLE (R71). -/
structure ChTrack where
  state : ChState := .idle
  cn0   : Nat := 0
  flags : Nat := 0
  lock  : Nat := 0
  half  : Bool := false
  deriving DecidableEq, Repr

/-- A tracking channel: CH_CFG, its tracking, how both stood before a change in the loop tick named (R69), the milliseconds in
PULLIN, below LOSS_CN0 and without carrier lock (R64), its reacquisition timer, SLIP for the next latch, whether it has held
lock since it was last found, its exclusion cause, a readmission pending with its clean latches (R85). -/
structure Channel where
  cfg    : Word := 2
  now    : ChTrack := {}
  was    : Option (Nat × Word × ChTrack) := none
  pullMs : Nat := 0
  lowMs  : Nat := 0
  failMs : Nat := 0
  reacq  : Nat := 0
  slip   : Bool := false
  /-- Losses of lock, modulo 4 (R161); the alignment of CARRIER_PHASE since lock (R125). -/
  lli    : Nat := 0
  align  : Option Int := none
  locked : Bool := false
  cause  : Nat := 0
  held   : Bool := false
  clean  : Nat := 0
  deriving DecidableEq, Repr

/-- An acquisition request: the loop tick of its entry, the channel, aided (R65, R66). -/
structure AcqRequest where
  tick  : Nat
  ch    : Nat
  aided : Bool
  deriving DecidableEq, Repr

/-- One measurement record (R71). `rawRange` is the pseudorange before cable delay. -/
structure MeasRec where
  ch        : Nat
  ant       : Nat
  band      : Nat
  sys       : Nat
  svid      : Nat
  flags     : Nat
  cn0       : Nat
  lock      : Nat
  range     : Nat
  phase     : Int
  doppler   : Int
  half      : Bool
  slip      : Bool
  cause     : Nat
  elev      : Int
  az        : Nat
  noPartner : Bool
  base      : Bool
  /-- The signal's lock-loss count modulo 4 (R161), and the whole cycles that align CARRIER_PHASE to the pseudorange (R125). -/
  lli       : Nat := 0
  align     : Int := 0
  deriving DecidableEq, Repr

/-- A measurement set (R71): header fields and records. `flags` is byte 0 of header word 5. -/
structure MeasSet where
  seq     : Nat
  quality : Nat
  instant : Nat
  nsat    : Nat
  antOk   : Nat
  ant     : Nat
  flags   : Nat
  /-- CLK_OFFSET, 2^-8 ns, and the frequency of the time solution, with the satellites used. -/
  soln    : Option (Int × Int × Nat)
  recs    : List MeasRec
  latchAt : Nat
  /-- Output time at the latch, 2^-32 ns. -/
  latchOut : Nat := 0
  deriving DecidableEq, Repr

/-- A base set as the fix engine keeps it (R155): the member that formed it, its epoch, antenna, position, validity, base
records, the device time of its completion or arrival, and whether this unit's own receiver formed it. -/
structure BaseSet where
  member : Nat
  epoch  : Nat
  ant    : Nat
  pos    : Nat × Nat × Nat
  valid  : Bool
  recs   : List MeasRec
  doneAt : Nat
  own    : Bool := false
  deriving DecidableEq, Repr

/-- An integer fixed by the cross-antenna guard (R79). -/
structure DoaInteger where
  ant  : Nat
  base : Nat
  sat  : Nat
  ref  : Nat
  band : Nat
  n    : Int
  deriving DecidableEq, Repr

/-- What navigation data the receiver holds of a satellite (R66, R90): an ephemeris, an almanac. -/
structure NavSat where
  sat : Nat
  eph : Option Ephemeris
  alm : Option (List Nat)
  deriving DecidableEq, Repr

/-- The receiver: channels, the acquisition queue and the device time at which the search of its head began (R65), the loop
settings in force per band (R63), navigation data, the last time solution (R90), the guards' memory, the set that waits for
completion, base sets of the last epochs, and the start in progress. -/
structure GnssSt where
  chans     : List (Nat × Channel) := []
  queue     : List AcqRequest := []
  acqFrom   : Nat := 0
  loops     : List Word := [0x3C3228C0, 0x3C3228C0]
  nav       : List NavSat := []
  lastSoln  : Option (Int × Int) := none
  ibMean    : List (Nat × List (Nat × Int)) := []
  doaInts   : List DoaInteger := []
  doaSkip   : Option Nat := none
  spoofRun  : Nat := 0
  jumpRun   : Nat := 0
  lastClk   : Option (Int × Nat) := none
  delays    : List Nat := [0, 0, 0, 0, 0, 0, 0, 0]
  jumpSeen  : Option (Nat × Nat) := none
  reorder   : Bool := false
  lastAnt   : Nat := 0
  pending   : Option MeasSet := none
  baseSets  : List BaseSet := []
  startAt   : Nat := 0
  deriving DecidableEq, Repr

/-! ## Time base (04_time_base.md) -/

/-- The states of the quality code (R100). -/
inductive TimeState where
  | none | lockA | lockB | hold | holdLong | holdExpired | manual
  deriving DecidableEq, Repr

/-- The states of a domain (R101). -/
inductive DomainState where
  | none | acquire | locked | hold | frozen
  deriving DecidableEq, Repr

/-- A time domain (R101): its estimate of TAI (`tai`, in 2^-32 ns, at device time `upd`), its frequency correction in
0.001 ppb, the count of good updates, the offset shown at the last update and the device time at which that came. -/
structure Domain where
  state  : DomainState := .none
  tai    : Int := 0
  upd   : Nat := 0
  freq   : Int := 0
  good   : Nat := 0
  offset : Int := 0
  heard  : Option Nat := none
  deriving DecidableEq, Repr

/-- A pulse output (R112, R113): the committed parameters, a commit that waits for the end of a pulse, the next instant,
and the pulse in progress. Instants are in nanoseconds of output time. -/
structure Pulse where
  en      : Bool := false
  gate    : Bool := false
  invert  : Bool := false
  start   : Nat := 0
  period  : Nat := 0
  width   : Nat := 0
  nextAt  : Option Nat := none
  active  : Bool := false
  fallAt  : Nat := 0
  commit  : Option (Bool × Bool × Bool × Nat × Nat × Nat) := none
  deriving DecidableEq, Repr

/-- A two-step Sync that waits for its Follow_Up (R110): source, sequence, output time (2^-32 ns) and device time (ns) at its
receipt, correction. -/
structure PendingSync where
  source : Nat
  seq    : Nat
  rxOut  : Nat
  rxAt   : Nat
  corr   : Int
  deriving DecidableEq, Repr

/-- The PTP slave and master (R110, R111). Times are in 2^-32 ns. -/
structure PtpSt where
  pendingSync  : Option PendingSync := none
  /-- Device time at the receipt of the last Sync minus its corrected origin time. -/
  syncDelta    : Option Int := none
  mpd          : Option Int := none
  lastSync     : Nat := 0
  lastAnnounce : Nat := 0
  class248     : Bool := false
  /-- stepsRemoved of the last Announce. -/
  steps        : Nat := 0
  /-- Sequence and device time (2^-32 ns) of the Delay_Req that waits for its response. -/
  delayReq     : Option (Nat × Nat) := none
  delaySeq     : Nat := 0
  delaySentAt  : Option Nat := none
  sentSync     : List (Nat × Nat) := []
  sentAnnounce : List (Nat × Nat) := []
  masterSeq    : Nat := 0
  asymRun      : Nat := 0
  deriving DecidableEq, Repr

/-- The time base: output time in 2^-32 ns, transition offset X, outstanding correction D, the correction in use, the
followed domain (0 none, 1 A, 2 B), holdover, the domains, PTP, pulses and the captures' last edges. -/
structure TimeSt where
  out         : Nat := 0
  state       : TimeState := .none
  follow      : Nat := 0
  x           : Int := 0
  d           : Int := 0
  f           : Int := 0
  correcting  : Bool := false
  valid       : Bool := false
  stepPending : Bool := false
  holdSince   : Nat := 0
  domA        : Domain := {}
  domB        : Domain := {}
  ptp         : PtpSt := {}
  pulses      : List (Nat × Pulse) := []
  capLast     : List (Nat × Nat) := []
  /-- The last interval of output time jumped over, in whole ns: its first instant, and the first after it (R106, R108). -/
  jump        : Option (Nat × Nat) := none
  /-- The output time (ns) at the first jump whose skipped ticks have not been caught up (R563). -/
  catchFrom   : Option Nat := none
  /-- The last instant (ns) produced by each periodic event of the output time. -/
  edges       : List (Nat × Nat) := []
  deriving DecidableEq, Repr

/-! ## Fix engine (05_fix_engine.md) -/

/-- An accepted observation frame: machine (of the base-pair run of member n: 256 + n, R162), epoch (TAI ms), OBS_SEQ, the offset of its sampling, restarts, Doppler present,
observables, acceptance instant and deadline (device time, ns), order of acceptance. -/
structure ObsFrame where
  machine  : Nat
  epoch    : Nat
  seq      : Nat
  offset   : Int
  restart  : Bool
  doppler  : Bool
  sats     : List SatObs
  accepted : Nat
  deadline : Nat
  order    : Nat
  deriving DecidableEq, Repr

/-- A satellite of a filter (R132 SATS): ambiguities active, lock-loss counts, last geometry-free and wide-lane values. -/
structure FilterSat where
  sat  : Nat
  l1   : Bool
  l5   : Bool
  lli1 : Nat
  lli5 : Nat
  gf   : Nat
  wl   : Nat
  deriving DecidableEq, Repr

/-- A filter state (R132, R137); `x` and `p` are FP64 words. -/
structure FilterState where
  member : Nat := 0
  seq    : Nat := 0
  epoch  : Nat := 0
  ref    : Nat := 0
  nfixed : Nat := 0
  obsSeq : Nat := 0
  sats   : List FilterSat := []
  x      : List Nat := []
  p      : List Nat := []
  deriving DecidableEq, Repr

/-- The states of a tile context (R166). -/
inductive CtxState where
  | free | running | ready | paused | held
  deriving DecidableEq, Repr

/-- A run on a tile context: its frame, its script, the script index, the filter, the slot it was loaded from, and what the
run has found so far. `test` marks the known-answer script (R166). -/
structure RunCtx where
  st      : CtxState := .free
  frame   : ObsFrame
  script  : List Nat
  index   : Nat := 0
  test    : Bool := false
  filter  : FilterState := {}
  slot    : Nat := 1
  restart : Bool := false
  base    : Option BaseSet := none
  common  : List Nat := []
  nodd    : Nat := 0
  phase   : Bool := false
  diverged : Bool := false
  /-- The satellites of the state as LOAD found them (R139). -/
  loaded  : List FilterSat := []
  /-- Signals marked slipped in this run, and phase rows skipped, whose signals are slipped for the next run (R138, R139). -/
  slips   : List (Nat × Nat) := []
  skips   : List (Nat × Nat) := []
  /-- The normalised innovations of the rows applied, 2^-16 σ (R140). -/
  innovs  : List Nat := []
  retries : Nat := 0
  /-- The ambiguities to be fixed, what DECOR made of them, and what SEARCH found: the best and the second-best integer vector with
  their squared norms (R141, R142). -/
  set     : List (Nat × Nat) := []
  decor   : List Nat := []
  best    : List Int := []
  second  : List Int := []
  norms   : Nat × Nat := (0, 0)
  searched : Bool := false
  failed  : Bool := false
  valid   : Bool := false
  fixed   : Bool := false
  /-- The machine has left mode 1 since LOAD: the run commits nothing (R122). -/
  dropped : Bool := false
  deriving DecidableEq, Repr

/-- The base-pair solution of a foreign member (R162): its filter, the integers of its last validated epoch (satellite × 2 + band)
with their reference satellite, the consecutive epochs validated and the last of them. -/
structure BasePair where
  filter : FilterState := {}
  ints   : List (Nat × Int) := []
  ref    : Nat := 0
  count  : Nat := 0
  epoch  : Nat := 0
  deriving DecidableEq, Repr

/-- A machine at the fix engine: the mode in force, its last committed epoch, committed states discarded (R122), the lock time
indicator and lock-loss count of its RTCM signals (satellite × 2 + band; R127), epochs with a usable fix, the count of R147 and
whether it has been logged. -/
structure SolvMachine where
  mode     : Nat := 0
  epoch    : Option Nat := none
  discard  : Bool := false
  locks    : List (Nat × Nat × Nat) := []
  good     : List Nat := []
  none_    : Nat := 0
  logged   : Bool := false
  deriving DecidableEq, Repr

/-- The fix engine: machines, the input queue, tile contexts (tile × 2 + context), tiles whose EVICT or TEST is awaited, the
epochs whose wait for foreign sets expired, the base-pair solutions of R162, the ns in which a tile has run (R166), a command in
progress, fixes for the radio, the last epoch's corrections and their number, and what the last station message said. -/
structure SolvSt where
  machines : List (Nat × SolvMachine) := []
  queue    : List ObsFrame := []
  ctxs     : List (Nat × RunCtx) := []
  order    : Nat := 0
  expired  : List Nat := []
  pairs    : List (Nat × BasePair) := []
  busyNs   : List (Nat × Nat) := []
  cmd      : Option (Nat × Nat) := none
  fixes    : List (Nat × List Byte) := []
  corr     : List (Nat × List Byte) := []
  corrNo   : Nat := 0
  corrEp   : Nat := 0
  station  : Option (Nat × Nat × Nat × Nat × Nat) := none
  deriving DecidableEq, Repr

/-! ## Site map (06_site_map.md) -/

/-- A machine's zone state (R177). -/
structure ZoneState where
  known   : Bool := false
  outside : Bool := false
  fast    : Bool := false
  zone    : Nat := 0xFFFF
  flags   : Nat := 0
  level   : Nat := 0
  epoch   : Nat := 0
  deriving DecidableEq, Repr

/-- The zone store's write count (R172), the machines' zone states, the results that commands in progress will give, a LOAD
paused for translation, and the shadow engine's place: region, block, discarded comparisons, mismatches since reset (R189). -/
structure ZoneSt where
  writes     : Nat := 0
  mstate     : List (Nat × ZoneState) := []
  result     : Nat := 0
  xtabResult : Nat := 0
  loading    : Bool := false
  region     : Nat := 0
  block      : Nat := 0
  discards   : Nat := 0
  mismatches : Nat := 0
  /-- Shadow writes kept while the engine is paused (R188, R463), a block to be checked at once (R176), whether the command in progress
  relocates, and the device time of the last repair of a zone slot (R180). -/
  owed       : List (Nat × List Byte) := []
  check      : Option (Nat × Nat) := none
  relocates  : Bool := false
  repairAt   : Option Nat := none
  deriving DecidableEq, Repr

/-! ## Track planner (07_track_planner.md) -/

/-- A plan request (R203). -/
structure PlanReq where
  tag      : Nat
  prio     : Nat
  bump     : Bool
  machine  : Nat
  start    : Nat
  goal     : Nat
  earliest : Nat
  hold     : Nat
  budget   : Nat
  /-- A bit that R203 gives as 0 is 1. -/
  bad      : Bool
  deriving DecidableEq, Repr

/-- A cell of a route found: its tick of entry, its first ready tick, the tick of leaving; ticks count from S. -/
structure PlanVisit where
  cell  : Nat
  entry : Int
  first : Int
  ready : Int
  deriving DecidableEq, Repr

/-- What a search has found (R205 to R215): outcome, expansions, TRIMMED, greatest heap occupancy, the departure tick and the
arrival counted from S, the route, the machines bumped with the ENTRY from which they are. -/
structure PlanFound where
  outcome : Nat
  count   : Nat := 0
  trimmed : Bool := false
  peak    : Nat := 0
  depart  : Int := 0
  arrival : Int := 0
  route   : List PlanVisit := []
  bumps   : List (Nat × Nat) := []
  deriving DecidableEq, Repr

/-- The search in hand: the request, S, the device time of S, what it finds, and whether it is cancelled, has run (false while a
probe of R465 has paused it). -/
structure PlanSearch where
  req    : PlanReq
  s      : Nat
  since  : Nat
  found  : PlanFound
  cancel : Bool := false
  ready  : Bool := true
  deriving DecidableEq, Repr

/-- A shared request sent to the lead (R225): its records, SERIAL, PLAN_ID, sends so far, the device time of the last; `release`
marks the release that follows a silent lead. -/
structure SharedWait where
  records : List (List Nat)
  machine : Nat
  serial  : Nat
  plan    : Nat
  from_   : Nat
  sends   : Nat
  sentAt  : Nat
  deriving DecidableEq, Repr

/-- A segment (R234). -/
structure Segment where
  dur  : Nat
  pos  : Int
  vel  : Int
  wait : Bool
  last : Bool
  evt  : Bool := false
  aux  : Nat
  seq  : Nat
  deriving DecidableEq, Repr

/-- What the tracker knows of a machine's plan (R214, R217 to R221): PLAN_ID, START_TICK, FIRST_SEQ, ARRIVAL, the segments, the
cells with their records, the centres in mm and their distances along the route; the cell in which it places the machine,
the last fix tracked (epoch in ms, position along the route in µm), the records it has acted on. -/
structure TrackPlan where
  plan     : Nat
  start    : Nat
  firstSeq : Nat
  arrival  : Nat
  segs     : List Segment
  cells    : List (Nat × Nat)
  points   : List (Int × Int)
  dist     : List Int
  at_      : Nat := 0
  prev     : Option (Nat × Int) := none
  acted    : List Nat := []
  deriving DecidableEq, Repr

/-- The planner: records in use, those out of which a machine has been stamped or on which the overrun rule has acted (R201), the
plans tracked, queued requests, the search in hand, the shared request that waits and the releases that follow, the lead's requests
to itself, each with the packets of port 21 that arrived before it, and its replies to itself (R225), the store
command in progress (command, index, argument, priority) and whether it waits for a search, its result. -/
structure PlanSt where
  used    : List Nat := []
  stamped : List Nat := []
  plans   : List (Nat × Option TrackPlan) := []
  queue   : List PlanReq := []
  search  : Option PlanSearch := none
  shared  : Option SharedWait := none
  orphans : List SharedWait := []
  ownReqs : List (List Byte × Nat) := []
  ownReplies : List (List Byte) := []
  cmd     : Option (Nat × Nat × Nat × Nat) := none
  waiting : Bool := false
  result  : Nat := 0
  deriving DecidableEq, Repr

/-! ## Segment delivery and axes (08_segments_and_axes.md) -/

/-- A machine's table at SEG (R237 to R240): PLAN_ID, START_TICK, chunks, those delivered and those sent at least once (bit k:
chunk k), those in frames that wait for their acknowledgement, whether delivery runs, is complete, and LATE has been posted. -/
structure SegTable where
  plan     : Nat := 0
  start    : Nat := 0
  chunks   : Nat := 0
  ok       : Nat := 0
  sent     : Nat := 0
  flight   : Nat := 0
  running  : Bool := false
  complete : Bool := false
  late     : Bool := false
  deriving DecidableEq, Repr

/-- SEG: the tables by machine, the machine whose chunk read is paused for translation. -/
structure SegSt where
  tables : List (Nat × SegTable) := []
  paused : Option Nat := none
  deriving DecidableEq, Repr

/-- The states of an axis (R247). -/
inductive AxisMode where
  | disabled | idle | move | table | stopping | homing | fault
  deriving DecidableEq, Repr

/-- The phases of homing (R254, R255): search, brake after home, turn after a limit ahead, back off, the steps beyond, approach,
brake after the latch. -/
inductive HomePhase where
  | search | found | turn | backOff | beyond | approach | latched
  deriving DecidableEq, Repr

/-- A table in progress on an axis (R252): its records' address and number, the TAI ms that it waits for, whether it has begun, the
record in hand, the position (steps) and velocity (24.8) from which its segment starts, the segment, µs elapsed in it, the SEQ
before it, and the record read ahead. -/
structure AxisTable where
  base  : Nat
  count : Nat
  wait  : Option Nat
  begun : Bool := false
  index : Nat := 0
  p0    : Int := 0
  v0    : Int := 0
  seg   : Option Segment := none
  t     : Nat := 0
  last  : Option Nat := none
  next  : Option (List Nat) := none
  deriving DecidableEq, Repr

/-- A debounced input (R246): the level at the pin, the debounced level, the device time of the last raw edge, and the encoder count at
the raw first edge of a change in progress. An input that nothing drives is high (R539). -/
structure AxisInput where
  raw   : Bool := true
  level : Bool := true
  since : Nat := 0
  first : Option Int := none
  deriving DecidableEq, Repr

/-- One axis: its state, fault cause, commanded position in 5 × 10^-11 steps and velocity in 10^-5 steps/s, the target in steps, the
parameters sampled at the last update, whether it brakes toward the target (and has begun to), a DEC deferred; how it stops (at
STOP_DEC, the fault that follows, a move kept); RESUMABLE, HOMED, REMAIN; commands written since the last update and whether a move
or table has ended since then; the encoder's count, input levels, pin levels of the debounced inputs, HOME_LATCH; the phase of
homing, its direction (true negative), whether it has reversed; the table; updates beyond the stall window; the device time since
when it is at rest, whether IREF is reduced, 10 µs intervals until the first step; SEQ and SEGAUX; DIR (true for positive motion) and
the steps of the last interval, steps that wait for DIR, the device time at which DIR changed, the ns of the interval before its first
step (R244); the point at which a STOP ramp whose DEC was raised comes to rest (R249). -/
structure AxisSt where
  mode      : AxisMode := .disabled
  cause     : Nat := 0
  pos       : Int := 0
  vel       : Int := 0
  target    : Int := 0
  vmax      : Nat := 10000
  acc       : Nat := 100000
  dec       : Nat := 100000
  stop      : Nat := 100000
  fast      : Nat := 10000
  slow      : Nat := 2000
  braking   : Bool := false
  braked    : Bool := false
  deferred  : Bool := false
  quick     : Bool := false
  after     : Nat := 0
  keep      : Bool := false
  resumable : Bool := false
  homed     : Bool := false
  remain    : Int := 0
  cmds      : List (Initiator × Nat) := []
  ended     : Bool := false
  enc       : Int := 0
  encA      : Bool := true
  encB      : Bool := true
  limNeg    : AxisInput := {}
  limPos    : AxisInput := {}
  homePin   : AxisInput := {}
  latch     : Int := 0
  phase     : HomePhase := .search
  neg       : Bool := false
  reversed  : Bool := false
  tab       : Option AxisTable := none
  stall     : Nat := 0
  restAt    : Nat := 0
  reduced   : Bool := false
  wake      : Nat := 0
  seq       : Nat := 0
  aux       : Nat := 0
  dirPos    : Bool := false
  steps     : Nat := 0
  owed      : Int := 0
  dirAt     : Nat := 0
  stepFrom  : Nat := 0
  stopAt    : Option Int := none
  deriving DecidableEq, Repr

/-! ## Malvo site radio (09_malvo_radio.md) -/

/-- A frame as a sector sends it: the slot (number of 250 µs of output time) in which it begins, its start at the antenna after the slot
edge in µs, its rate in Mb/s, the MPDU, and the output time in ns at which the device starts it (R265). -/
structure AirFrame where
  slot  : Nat
  offUs : Nat
  rate  : Nat
  bytes : List Byte
  startNs : Int
  deriving DecidableEq, Repr

/-- What a TX block carries (R275, R277), before its header is made: the receiver (none for a broadcast), Primrose framing, KIND,
SEQ, MORE, RETRY, payload, rate, the firmware frames in it, its fix element, and its chunks (bit k: chunk k) with the plan of their
table. -/
structure TxContent where
  machine  : Option Nat
  primrose : Bool
  kind     : Nat
  seq      : Nat
  more     : Bool
  retry    : Bool
  payload  : List Byte
  rate     : Nat
  fw       : List Nat
  fix      : Option (List Byte) := none
  chunks   : Nat := 0
  plan     : Nat := 0
  deriving DecidableEq, Repr

/-- A TX block of the cycle (R276): its slots, and its frame where it had something to send. -/
structure TxBlock where
  slots : Nat
  frame : Option TxContent
  deriving DecidableEq, Repr

/-- The blocks in which a sector receives (R283, R288, R289). -/
inductive RxKind where
  | rx (machine : Nat)
  | contention (assoc : Bool)
  | poll
  deriving DecidableEq, Repr

/-- A block that is open for reception: its kind, first slot, slots, the machines whose frame it has taken, and those whose poll has
been accepted, first to last. -/
structure RxBlock where
  kind   : RxKind
  first  : Nat
  slots  : Nat
  heard  : List Nat
  polled : List Nat
  deriving DecidableEq, Repr

/-- An acknowledgement awaited (R282): machine, SEQ, the output times (ns) between which it starts in time, the firmware frames and the
chunks (bit k: chunk k) of plan `plan` sent. -/
structure AckWait where
  machine : Nat
  seq     : Nat
  from_   : Nat
  until_  : Nat
  fw      : List Nat
  chunks  : Nat
  plan    : Nat
  deriving DecidableEq, Repr

/-- A sector (R265 to R276): the cycle whose program runs and the next entry of it, the slot in which its links came back, TX blocks
that no TWIN has taken, those a TWIN repeats by slot, the block open for reception, the last frame sent, the acknowledgement awaited,
the RTCM frames of the newest corrections left to broadcast (native, Primrose), the formatter's outputs they belong to and the epochs
(numbers of epoch lengths) of those. -/
structure SectSt where
  cycle  : Option Nat := none
  next   : Nat := 0
  back   : Option Nat := none
  blocks : List TxBlock := []
  twin   : List (Nat × TxBlock) := []
  rx     : Option RxBlock := none
  sent   : Option AirFrame := none
  wait   : Option AckWait := none
  corr   : List (List Byte) := []
  prCorr : List (List Byte) := []
  corrNo : Nat := 0
  prNo   : Nat := 0
  corrEp : Nat := 0
  prEp   : Nat := 0
  deriving DecidableEq, Repr

/-- A firmware frame to send (R275, R292): the model's number for it, the machine or none for a broadcast, the sector of a broadcast,
its bytes, the attempts made. -/
structure FwFrame where
  id      : Nat
  machine : Option Nat
  sector  : Nat
  bytes   : List Byte
  tries   : Nat
  deriving DecidableEq, Repr

/-- The radio: its sectors; the duplicate windows by machine (SEQ and device time, newest first), the last Primrose SEQ accepted;
Primrose associations by the device time at which the machine was last heard, ASSOC_RESP frames to send (machine, STATUS); the
sector and output time (ns) of the last accepted frame; firmware frames to send and the next number; the SEQ of the next Primrose
frame. -/
structure RadioSt where
  sects  : List (Nat × SectSt) := []
  wins   : List (Nat × List (Nat × Nat)) := []
  prSeq  : List (Nat × Option Nat) := []
  assoc  : List (Nat × Option Nat) := []
  reply  : List (Nat × Nat) := []
  heard  : List (Nat × Option (Nat × Nat)) := []
  fw     : List FwFrame := []
  fwNext : Nat := 0
  prTx   : Nat := 0
  deriving DecidableEq, Repr

/-! ## Stop plane (10_poppy_plane.md) -/

/-- A stop (R305, R307): identifier, scope (0 site, 1 member, 2 machine list), cause, detail, origin, the machines listed,
the device time of its registration and of its last presentation, whether it was adopted from the stop bus, and which
channels have registered it (R564). -/
structure PoppyStop where
  id       : Nat
  scope    : Nat
  cause    : Nat
  detail   : Nat
  origin   : Nat
  machines : List Nat := []
  raisedAt : Nat
  shownAt  : Option Nat := none
  fromBus  : Bool := false
  inA      : Bool := true
  inB      : Bool := true
  deriving DecidableEq, Repr

/-- What a partner's heartbeat frame reports (R389): site-permit bit, ISSUING, map, and stops as (STOP_ID, scope, origin,
cause, detail). -/
structure HbReport where
  site    : Bool
  issuing : Bool
  map     : BitVec 256
  stops   : List (Nat × Nat × Nat × Nat × Nat)
  deriving DecidableEq, Repr

/-- The words of the Poppy configuration at reset (R328), offsets 0x100 to 0x130. -/
def poppyCfgReset : List Nat :=
  [0, 0x27100064, 0, 0, 0x4014012C, 0x4014012C, 0x4014012C, 0x4014012C, 0x4014012C, 0x4014012C, 0x4014012C, 0x4014012C, 0]

/-- One Poppy channel (R295, R296): its reset, its site-permit bit and map, its adopted configuration and that one's CRC,
its inputs that are closed, its outputs with a readback fault, its test output (next pulse, low until), its stop-bus line
(start of driving, cycle start, last marker edge, marker loss, marker pulled until, slot pulled, edges outside the
window), its heartbeat line (next frame, FSEQ, last accepted frame and its report, line present). Times are device
times in ns. -/
structure PoppyChan where
  held      : Bool := false
  site      : Bool := false
  map       : BitVec 256 := 0
  cfg       : List Nat := poppyCfgReset
  crc       : Nat := 0
  closed    : Nat := 0
  fb        : Nat := 0
  tpNext    : Nat := 0
  tpLow     : Nat := 0
  busFrom   : Nat := 0
  cycle     : Option Nat := none
  marker    : Option Nat := none
  busLost   : Bool := false
  markerLow : Nat := 0
  slotPull  : Bool := false
  outRun    : Nat := 0
  outAt     : Nat := 0
  hbNext    : Nat := 0
  fseq      : Nat := 0
  hbAt      : Nat := 0
  hbOk      : Bool := false
  hb        : Option HbReport := none
  deriving DecidableEq, Repr

/-- A token sampled and not yet placed (R300): superframe, bytes, the output time of its placing in ns. -/
structure SampledToken where
  sfn     : Nat
  bytes   : List Byte
  placeAt : Nat
  deriving DecidableEq, Repr

/-- A release taken at the write of REL_GO (R310). -/
structure PoppyRelease where
  cmd    : Nat
  sfn    : Nat
  serial : Nat
  tag    : Nat
  deriving DecidableEq, Repr

/-- The Poppy plane: both channels, the active stops in the order of registration, STOP_IDs, requests, role and arm (ended by a
control-plane reset), the withholding, the withdrawal in force (cause, detail) and whether this withholding made it, the last
superframe issued, the last sample's difference, whether a sample has compared the channels since device reset, DISAGREE,
a check of channel B that failed, the token and image in the mirror, the keys, the release in progress, wiring faults, the
times at which inputs came to differ, the stop-bus members missing and seen. -/
structure PoppySt where
  a          : PoppyChan := {}
  b          : PoppyChan := { tpNext := 5000000 }
  stops      : List PoppyStop := [⟨0, 1, 0x0D, 0, 0, [], 0, none, false, true, true⟩]
  nextId     : Nat := 1
  lastId     : Nat := 0
  reqCount   : Nat := 0
  role       : Nat := 0
  armAt      : Option Nat := none
  armCount   : Nat := 0
  armEnded   : Bool := false
  withheld   : Bool := true
  withdrawn  : Option (Nat × Nat) := none
  lapsed     : Bool := false
  lastIssued : Option Nat := none
  firstSf    : Nat := 1
  diff       : Option (Bool × BitVec 256) := none
  compared   : Bool := false
  disagree   : Bool := false
  blocked    : Bool := false
  blockRun   : Nat := 0
  sampled    : Option SampledToken := none
  token      : List Byte := []
  tokenSfn   : Nat := 0
  image      : List Byte := []
  imageSlot  : Option Nat := none
  keys       : Option (List Byte × List Byte) := none
  loaded     : Bool := false
  release    : Option PoppyRelease := none
  result     : Nat := 0
  lastSerial : Nat := 0
  tpFault    : Nat := 0
  discFault  : Nat := 0
  diffAt     : List (Nat × Nat) := []
  clearFrom  : List (Nat × Nat) := []
  missing    : Nat := 0
  seen       : Nat := 0
  deriving DecidableEq, Repr

/-! ## Dispatch engine (11_dispatch_engine.md) -/

/-- The states of a thread (R334). -/
inductive ThreadState where
  | free | ready | running | delayed | waitIrq | suspended
  deriving DecidableEq, Repr

/-- A thread context (R334): state, level, affinity, wait result, IRQ_PENDING, the wake or deadline tick, whether a wait has a
deadline, and its core. -/
structure Thread where
  st       : ThreadState := .free
  level    : Nat := 0
  aff      : Nat := 0
  result   : Nat := 0
  irq      : Bool := false
  tick     : Nat := 0
  deadline : Bool := false
  core     : Nat := 0
  deriving DecidableEq, Repr

/-- A control core as the engine sees it (R336, R337): the thread it runs, the switch pending (a thread, or none to go idle),
the thread to save, and when the interrupt was asserted. -/
structure SchedCore where
  run   : Option Nat := none
  next  : Option (Option Nat) := none
  prev  : Option Nat := none
  irqAt : Nat := 0
  deriving DecidableEq, Repr

/-- A work item (R339): handle, level, affinity, handler, argument, ready, the tick from which it is ready. -/
structure WorkItem where
  handle  : Nat
  level   : Nat
  aff     : Nat
  handler : Nat
  arg     : Nat
  ready   : Bool
  tick    : Nat
  deriving DecidableEq, Repr

/-- A job (R343). -/
structure SchedJob where
  handle    : Nat
  level     : Nat
  classMask : Nat
  zone      : Nat
  ref       : Nat
  notBefore : Nat
  expires   : Nat
  ready     : Bool
  deriving DecidableEq, Repr

/-- An ask (R344): machine and the tick at whose end it times out. -/
structure JobAsk where
  machine  : Nat
  deadline : Option Nat
  deriving DecidableEq, Repr

/-- A thread command (R334, R335), with what it takes when it is written. -/
inductive ThreadOp where
  | create (level aff : Nat)
  | delete
  | sleep (ticks : Nat)
  | waitIrq (ticks : Nat)
  | yield
  | setLevel (level : Nat)
  | wake
  | suspend
  | resume
  deriving DecidableEq, Repr

/-- What reaches the dispatch engine from outside: a command on a thread (none where SELF names none), a work item, a job, an ask, the
end of an ask or a job, the edge of a page's summary line. -/
inductive SchedReq where
  | thread (t : Option Nat) (op : ThreadOp)
  | work (level aff handler delay arg : Nat)
  | job (words : List Nat)
  | ask (machine timeout : Nat)
  | cancelAsk (machine : Nat)
  | withdraw (handle : Nat)
  | edge (page : Nat)
  deriving DecidableEq, Repr

/-- The dispatch engine: threads, READY threads not yet chosen (those of one level in order of entry), cores, work items
(ready ones in order of entry), data cores that wait (first registered first), jobs (likewise), asks, results, trace, and what has
arrived while a jump of the time base is still to be caught up with (R563). -/
structure SchedSt where
  threads  : List (Nat × Thread) := []
  ready    : List Nat := []
  cores    : List (Nat × SchedCore) := []
  thrRes   : Nat := 0
  items    : List WorkItem := []
  waiting  : List Nat := []
  subRes   : Nat := 0
  subHand  : Nat := 0
  jobs     : List SchedJob := []
  asks     : List JobAsk := []
  jobRes   : Nat := 0
  jobHand  : Nat := 0
  cmdRes   : Nat := 0
  wptr     : Nat := 0
  seq      : Nat := 0
  held     : List SchedReq := []
  deriving DecidableEq, Repr

/-! ## Ethernet switch and port MACs (12_switch_and_ports.md) -/

/-- An entry of the address table (R363, R364): address (as a number, first byte highest), VID, port, static, refresh time (µs). -/
structure AtuEntry where
  mac    : Nat
  vid    : Nat
  port   : Nat
  static : Bool
  seen   : Nat
  deriving DecidableEq, Repr

/-- How a frame of the time base leaves (R376): Sync one-step, Sync two-step, Delay_Req. -/
inductive PtpTx where
  | oneStep | twoStep | delayReq
  deriving DecidableEq, Repr

/-- A frame in an egress queue (R365 to R367): its bytes without FCS, launch time (ns), LATE_DROP, TS_ID where a stamp is wanted, the
descriptor it comes from (ring, index), its part in PTP. -/
structure EgFrame where
  bytes    : List Byte
  launch   : Option Nat := none
  lateDrop : Bool := false
  ts       : Option Nat := none
  desc     : Option (Nat × Nat) := none
  ptp      : Option PtpTx := none
  deriving DecidableEq, Repr

/-- A transmit descriptor in process (R368, R369): index, its first word, copies of its frames not yet sent, and what became of
them. -/
structure DescOut where
  index   : Nat
  word0   : Nat
  left    : Nat
  late    : Bool := false
  dropped : Bool := false
  unsent  : Bool := false
  bad     : Bool := false
  deriving DecidableEq, Repr

/-- A frame for port 20 (R370): ingress port, queue, receive stamp, TAGGED, PRP, PCP, VID, bytes without FCS. -/
structure RxItem where
  port   : Nat
  queue  : Nat
  stamp  : Option Nat
  tagged : Bool
  prp    : Bool
  pcp    : Nat
  vid    : Nat
  bytes  : List Byte
  deriving DecidableEq, Repr

/-- A ring of port 20 (R368, R371): the next descriptor to read, transmit descriptors in process, the frame that met a fault. -/
structure RingSt where
  fetch : Nat := 0
  out   : List DescOut := []
  held  : Option RxItem := none
  deriving DecidableEq, Repr

/-- An entry of the duplicate-discard table (R374): source address, sequence, the device time at which it was made. -/
structure PrpSeen where
  src : Nat
  seq : Nat
  at_ : Nat
  deriving DecidableEq, Repr

/-- A PTP frame trapped for the time base (R360, R375): ingress port, receive stamp (ns of output time) and device time, the message
from its header on. -/
structure PtpRx where
  port  : Nat
  stamp : Nat
  at_   : Nat
  msg   : List Byte
  deriving DecidableEq, Repr

/-- The switch: address table, egress queues (port × 8 + queue), the device time until which a port is sending and the frame it sent
last (with FCS), rings, PRP sequence numbers by pair, the duplicate-discard table (oldest first), the device time of the last
supervision frames, markers of R377 that wait by port, PTP frames trapped. -/
structure SwSt where
  atu     : List AtuEntry := []
  queues  : List (Nat × List EgFrame) := []
  busy    : List (Nat × Nat) := []
  sent    : List (Nat × List Byte) := []
  rings   : List (Nat × RingSt) := []
  prpSeq  : List (Nat × Nat) := []
  prpSeen : List PrpSeen := []
  lifeAt  : Nat := 0
  markers : List (Nat × List Nat) := []
  ptpIn   : List PtpRx := []
  deriving DecidableEq, Repr

/-! ## Pairs and cascades (13_pairs_and_cascades.md) -/

/-- An object of the fleet store that a transaction carries (R396): OBJ, INDEX, its bytes. -/
structure JEntry where
  obj   : Nat
  idx   : Nat
  bytes : List Byte
  deriving DecidableEq, Repr

/-- A message of which fragments have arrived (R394): sender (member × 2 + unit), MSG_SEQ, TYPE, BCAST, FLAGS, NFRAG, TOTAL, the
device time of its first fragment, whether all came over the pair link, the bodies by FRAG. -/
structure Reasm where
  src   : Nat
  seq   : Nat
  type  : Nat
  bcast : Bool
  flags : Nat
  nfrag : Nat
  total : Nat
  since : Nat
  link  : Bool
  parts : List (Nat × List Byte)
  deriving DecidableEq, Repr

/-- An output that waits for the confirmation of its transaction (R399): a segment table of a machine, or a reply of the lead. -/
inductive HeldOut where
  | table (machine plan start count : Nat)
  | reply (member : Nat) (body : List Byte)
  deriving DecidableEq, Repr

/-- The lead's record of a machine's last shared request (R226): SERIAL, RESULT, FIRST_BAD, PLAN_ID. -/
structure SerialRec where
  serial   : Nat
  result   : Nat
  firstBad : Nat
  plan     : Nat
  deriving DecidableEq, Repr

/-- The pair and cascade engine: superframes counted in START and without a partner's keepalive (and whether this one holds one); the evidence of this
superframe and the last; the witness's answer of this superframe, and whether a query is due and WITNESS_BLOCK has been
raised in the run; the device time of the last PAIR_KEEPALIVE; MSG_SEQ (the next one, none before R394 starts it; the last
one kept in retained SRAM); senders' last MSG_SEQ and its device time; fragments; keepalives heard; the objects changed by
the transaction in hand; the journal's position (none before a copy begins), transactions not confirmed, outputs held, the
ring in LPDDR5 (JSEQ, offset, length; next offset); transactions held beyond a gap, the last JREQ with its JSEQ, LOOKUP_EN kept back while
a copy runs; the handoff in progress (the output time at which it fails, whether HANDOFF has gone out) and the one asked for; the lead's
serial records; shared updates held and machines named by the snapshot in progress; the MOVE in progress (machine, device
time) and the last self-test; health reports; the output times of the last periodic messages. -/
structure PairSt where
  startSf   : Nat := 0
  quietSf   : Nat := 0
  kaNow     : Bool := false
  evidNow   : Bool := false
  evidPrev  : Bool := false
  answer    : Option Bool := none
  answered  : Option Bool := none
  askDue    : Bool := false
  blockSeen : Bool := false
  airNow    : Bool := false
  linkAt    : Option Nat := none
  nextSeq   : Option Nat := none
  lastSeq   : Option Nat := none
  heardSeq  : List (Nat × Option (Nat × Nat)) := []
  reasm     : List Reasm := []
  heard     : List (Nat × Option Nat) := []
  touched   : List JEntry := []
  pos       : Option Nat := none
  unconf    : List (Nat × Nat) := []
  heldOut   : List (Nat × HeldOut) := []
  ring      : List (Nat × Nat × Nat) := []
  ringNext  : Nat := 0
  beyond    : List (Nat × List Byte) := []
  jreqAt    : Option (Nat × Nat) := none
  lookupEn  : Bool := false
  handoff   : Option Nat := none
  handSent  : Bool := false
  handTo    : Option Nat := none
  serials   : List (Nat × Option SerialRec) := []
  updHeld   : List (Nat × List Byte) := []
  snapNamed : List Nat := []
  move      : Option (Nat × Nat) := none
  testAt    : Option Nat := none
  reportSeq : Nat := 0
  sectRx    : Nat := 0
  mismatch0 : Nat := 0
  kaSent    : Option Nat := none
  pkaSent   : Option Nat := none
  healthAt  : Option Nat := none
  deriving DecidableEq, Repr

/-! ## Keys, attestation and tamper (14_keys_and_tamper.md) -/

/-- A key slot that holds a key (R422): TYPE, PARENT, DEPTH, USAGE, LC, ORIGIN; the secret, or nothing for a public key; the
public key x ‖ y of TYPE 3 and 4. -/
structure KeySlot where
  type   : Nat
  parent : Nat
  depth  : Nat
  usage  : Nat
  lc     : Nat
  origin : Nat
  secret : List Byte
  pub    : List Byte
  deriving DecidableEq, Repr

/-- What a key store command will do when it completes (R428): its OP, the slots it uses and writes, its RESULT as far as it is
known, the slots it fills and empties, its output and where it goes, the blob it makes current (KIND, counter, flash slot),
the Poppy configuration and keys it loads. -/
structure KeyWork where
  op     : Nat
  uses   : List Nat := []
  result : Nat := 0
  fill   : List (Nat × KeySlot) := []
  empty  : List Nat := []
  out    : Option (Nat × List Byte) := none
  blob   : Option (Nat × Nat × Nat) := none
  config : Option (List Nat) := none
  poppy  : Option (List Byte × List Byte) := none
  deriving DecidableEq, Repr

/-- The key store: the slots, the root's state (R418 to R420), the random source (R430), TAMPER_LOCK, the command in
progress, the last result and output length, the blobs (KIND 1 and 2: flash slot current, and whether one is valid), and
the copies that the radio and the cascade engine hold with the slots they came from (R426). -/
structure KeySt where
  slots      : List (Nat × Option KeySlot) := []
  rootOk     : Bool := false
  rootFail   : Bool := false
  enrolled   : Bool := false
  pufBank    : Nat := 0
  drbgOk     : Bool := false
  lock       : Bool := false
  work       : Option KeyWork := none
  result     : Nat := 0
  outLen     : Nat := 0
  gCur       : Nat := 0
  gValid     : Bool := false
  pCur       : Nat := 0
  pValid     : Bool := false
  kRadio     : Option (List Byte) := none
  kRadioSlot : Nat := 0
  kCasc      : Option (List Byte) := none
  kCascSlot  : Nat := 0
  deriving DecidableEq, Repr

/-- The tamper logic (R441 to R445): the sources detected now, the junction temperature in °C, the log with its overflow
(SOURCE, PHASE, TAI seconds). -/
structure TampSt where
  active : Nat := 0
  temp   : Nat := 0
  log    : List (Nat × Nat × Nat) := []
  ovf    : Bool := false
  deriving DecidableEq, Repr

/-- Attestation (R439, R440): M0 to M7 and CFGM, the statement in progress (its address, its bytes, its RESULT), the last
RESULT. -/
structure AttestSt where
  meas      : List (List Byte) := List.replicate 9 (List.replicate 48 0)
  statement : Option (Nat × List Byte × Nat) := none
  result    : Nat := 0
  deriving DecidableEq, Repr

/-! ## Clocks and power states (17_clocks_and_power.md) -/

/-- The power states (R498). -/
inductive PwrState where
  | bloom | bud | entering | snowdrop | waking
  deriving DecidableEq, Repr

/-- Power and clocks: the state, the state to return to, the result of the last command, the device time at which the transition in
progress began; the device time at which every core is in WFI and whether the entry's work has been done (R502); the device time at
which the wake of R503 was registered; in Bud the core and tile domains that run and the ends of their holds (R496), and until when
each sector's baseband is requested (R495); the clock inputs that are lost (bit 0 the 32.768 kHz crystal, 1 the 25 MHz crystal, 2
REF10, 3 and 4 the SerDes references, 5 the PCIe reference), and since when the 25 MHz crystal is (R493). -/
structure PwrSt where
  state      : PwrState := .bloom
  returnBud  : Bool := false
  result     : Nat := 0
  startedAt  : Nat := 0
  wfiAt      : Option Nat := none
  slept      : Bool := false
  wakeAt     : Option Nat := none
  coreOn     : Bool := true
  tileOn     : Bool := true
  coreHold   : Nat := 0
  tileHold   : Nat := 0
  radioUntil : List (Nat × Nat) := []
  lost       : Nat := 0
  x25LostAt  : Option Nat := none
  deriving DecidableEq, Repr

/-! ## Reset, start-up and life cycle (18_reset_and_lifecycle.md) -/

/-- An OTP programming operation in progress (R519, R529). -/
inductive OtpOp where
  | lifeCycle (target : Nat) | hash (words : List Word) | svn (v : Nat)
  deriving DecidableEq, Repr

/-- The contents of OTP: the four life-cycle bits (R517: bit 0 PROVISION, 1 FIELD, 2 RETURN, 3 SCRAP), BOOT_KEY_HASH,
MIN_SVN, the blob counters (14_keys_and_tamper.md R431), the tamper configuration programmed (R445), and the two PUF banks
(R420: 0 blank, 1 begun, 2 complete) with the helper data and SEED of the complete one. -/
structure Otp where
  lc       : Nat := 0
  hash     : Option (List Word) := none
  minSvn   : Nat := 0
  ctrG     : Nat := 0
  ctrP     : Nat := 0
  tampCfg  : Option Word := none
  tampProg : Nat := 0
  puf0     : Nat := 0
  puf1     : Nat := 0
  helper   : Nat := 0
  seed     : Nat := 0
  deriving DecidableEq, Repr

/-- Reset and life cycle: device reset held and from when it may be released, the boot ROM has run to its end or to a halt, the SRAM
wipe in progress; the pages in a soft reset, and those whose reset waits for a command in progress (R562); OTP and the operation that
programs it; the watchdog (running, the start of its count, half of it passed); the words of the recovery image; the warm vectors
written; where each core last started; host-open, and for the SYS page alone (R523); the boot held at the tamper state; the PCIe link
down; the TAP's instruction; VDDIO_3V3 lost. -/
structure RstSt where
  held      : Bool := false
  heldFrom  : Nat := 0
  heldUntil : Nat := 0
  booted    : Bool := false
  wiping    : Bool := true
  soft      : List Nat := []
  softLate  : List Nat := []
  otp       : Otp := {}
  otpOp     : Option OtpOp := none
  wdogOn    : Bool := false
  wdogFrom  : Nat := 0
  wdogHalf  : Bool := false
  loadLen   : Nat := 0
  warmC     : Bool := false
  warmD     : Bool := false
  starts    : List (Nat × Nat) := []
  hostOpen  : Bool := false
  sysOpen   : Bool := false
  tampHeld  : Bool := false
  pcieDown  : Bool := false
  /-- Planes in reset (R512): 1 data, 2 control, 3 management, with the instant at which it ends. -/
  planeHeld : List (Nat × Nat) := []
  tap       : TapInstruction := .bypass
  deriving DecidableEq, Repr

/-! ## The whole state -/

/-- The state of the block. -/
structure State where
  /-- Every register, by key (page × 0x1000 + offset, plus the window index); an unlisted register holds its reset value. -/
  regs       : List (Nat × Word)
  /-- First-in, first-out logs that a register pops, by the key of that register; newest entry last. -/
  fifos      : List (Nat × List (List Word))
  latches    : List (Nat × Option ReadLatch)
  wrBufs     : List (Nat × List WriteBuffer)
  bus        : BusResponse
  /-- Summary lines that were asserted when last signalled, by page (R49). -/
  lines      : List (Nat × Bool)
  /-- MSI-X vectors not masked, and vectors pending (R50); the address and data words of BAR4's table, by word (R35). -/
  msixOpen   : List (Nat × Bool)
  msixPend   : List (Nat × Bool)
  msixMsg    : List (Nat × Word)
  /-- Device time in nanoseconds (the fabric and time-base clocks of R26). -/
  now        : Nat
  mbox       : List (Nat × MboxQueue)
  mem        : MemSt
  /-- What the block has sent to the world outside, newest first. -/
  sent       : List Sent
  gnss       : GnssSt
  time       : TimeSt
  solv       : SolvSt
  zone       : ZoneSt
  plan       : PlanSt
  seg        : SegSt
  axes       : List (Nat × AxisSt)
  ioLost     : Bool
  radio      : RadioSt
  poppy      : PoppySt
  sched      : SchedSt
  sw         : SwSt
  pair       : PairSt
  keys       : KeySt
  tamp       : TampSt
  att        : AttestSt
  pwr        : PwrSt
  rst        : RstSt
  /-- The model's own counter of free values (Config.freeNat). -/
  freeCtr    : Nat
  /-- The commands that wait, first in, first out. -/
  pending    : List Instr
  deriving DecidableEq, Repr

/-- The block when device reset is released after power-on. -/
def State.reset : State :=
  { regs := [], fifos := [], latches := [], wrBufs := [], bus := ⟨0, false⟩, lines := [], msixOpen := [], msixPend := [], msixMsg := [],
    now := 0, mbox := [], mem := {},
    sent := [],
    gnss := {},
    time := {},
    solv := {},
    zone := {},
    plan := {},
    seg := {}, axes := [], ioLost := false,
    radio := {},
    poppy := {},
    sched := {},
    sw := {},
    pair := {},
    keys := {}, tamp := {}, att := {},
    pwr := {}, rst := {},
    freeCtr := 0, pending := [] }

end Sys2Proof.Machine
end

