-- ==== Sys2Proof/Machine/Ops.lean ====
section
/-! DEFINITION. The named operations over registers, error records, logs and memory bytes that every meaning is written
with. -/

namespace Sys2Proof.Machine

/-- The outcome of a command on the block. -/
abbrev Res := Host.Outcome State Fault Refusal

/-! ## Bit fields -/

/-- Bits `hi` down to `lo` of a number. -/
def bitsOf (v hi lo : Nat) : Nat := v / 2 ^ lo % 2 ^ (hi + 1 - lo)

/-- A number with its bits `hi` down to `lo` replaced by the low bits of `x`. -/
def setBits (v hi lo x : Nat) : Nat :=
  v - bitsOf v hi lo * 2 ^ lo + x % 2 ^ (hi + 1 - lo) * 2 ^ lo

/-- Bit `i` of a number. -/
def bitAt (v i : Nat) : Bool := v / 2 ^ i % 2 == 1

/-- A Boolean as a bit. -/
def bit (b : Bool) : Nat := if b then 1 else 0

/-- A `w`-bit number read as a signed two's-complement value. -/
def toSigned (w v : Nat) : Int :=
  if v % 2 ^ w < 2 ^ (w - 1) then (v % 2 ^ w : Int) else (v % 2 ^ w : Int) - (2 ^ w : Int)

/-- A signed value as a `w`-bit two's-complement number. -/
def ofSigned (w : Nat) (v : Int) : Nat := (v % (2 ^ w : Int)).toNat

/-- The bits that fields of an access type occupy in word `w` of a register. -/
def accessMask (w : Nat) (p : Access → Bool) : List FieldDef → Nat
  | [] => 0
  | f :: fs =>
    (if p f.acc then ((2 ^ (f.hi + 1) - 2 ^ f.lo) / 2 ^ (32 * w)) % 2 ^ 32 else 0) ||| accessMask w p fs

/-! ## Registers -/

/-- The word at a storage key. -/
def State.reg (s : State) (key : Nat) : Word := Assoc.get resetWord s.regs key

/-- Write the word at a storage key. -/
def State.setReg (s : State) (key : Nat) (v : Word) : State :=
  { s with regs := Assoc.put resetWord s.regs key v }

/-- The value of a field (R46: a value above 32 bits continues in the next word). -/
def State.getF (s : State) (f : Fld) : Nat :=
  if f.hi < 32 then bitsOf (s.reg f.key).toNat f.hi f.lo
  else if 32 ≤ f.lo then bitsOf (s.reg (f.key + 4)).toNat (f.hi - 32) (f.lo - 32)
  else bitsOf ((s.reg f.key).toNat + 2 ^ 32 * (s.reg (f.key + 4)).toNat) f.hi f.lo

/-- The value of a one-bit field. -/
def State.flag (s : State) (f : Fld) : Bool := s.getF f == 1

/-- Set a field of a register. -/
def State.setF (s : State) (f : Fld) (v : Nat) : State :=
  if f.hi < 32 then s.setReg f.key (BitVec.ofNat 32 (setBits (s.reg f.key).toNat f.hi f.lo v))
  else if 32 ≤ f.lo then
    s.setReg (f.key + 4) (BitVec.ofNat 32 (setBits (s.reg (f.key + 4)).toNat (f.hi - 32) (f.lo - 32) v))
  else
    let x := setBits ((s.reg f.key).toNat + 2 ^ 32 * (s.reg (f.key + 4)).toNat) f.hi f.lo v
    (s.setReg f.key (BitVec.ofNat 32 (x % 2 ^ 32))).setReg (f.key + 4) (BitVec.ofNat 32 (x / 2 ^ 32))

/-- Set a one-bit field. -/
def State.setFlag (s : State) (f : Fld) (b : Bool) : State := s.setF f (bit b)

/-- Count `n` in a counter register. The spec gives no value past the last one, so that value is left free (log 4). -/
def State.bumpBy (s : State) (f : Fld) (n : Nat) : State :=
  let v := s.getF f + n
  s.setF f (if v < 2 ^ f.width then v else Config.counterPast f.key v)

/-- Count one in a counter register. -/
def State.bump (s : State) (f : Fld) : State := s.bumpBy f 1

/-- Count one in a counter that saturates. -/
def State.bumpSat (s : State) (f : Fld) : State :=
  s.setF f (min (s.getF f + 1) (2 ^ f.width - 1))

/-- The value of a field selected by a window index. -/
def Fld.win (f : Fld) (i : Nat) : Fld := { f with key := f.key + windowStep * i }

/-- The storage key of a register key: a windowed register is the copy that its index register selects. -/
def State.winKey (s : State) (key : Nat) : Nat :=
  match windows.find? fun w => decide (w.1 ≤ key) && decide (key ≤ w.2.1) with
  | some (_, _, ix) => key + windowStep * s.getF ix
  | none => key

/-! ## Events and errors (R37, R38) -/

/-- Set event bit `b` of page `p`. -/
def State.raise (s : State) (p b : Nat) : State :=
  s.setF ⟨p * 0x1000 + 0x10, b, b⟩ 1

/-- The summary line of a page is asserted: PG_IRQ_RAW and PG_IRQ_EN have a common bit (R37, R49). -/
def State.lineLevel (s : State) (p : Nat) : Bool :=
  (s.reg (p * 0x1000 + 0x010) &&& s.reg (p * 0x1000 + 0x014)) != 0

/-- The line of page `p` as it was last signalled. -/
def State.line (s : State) (p : Nat) : Bool := Assoc.get (fun _ => false) s.lines p

/-- A line falls when PG_IRQ_STAT has become zero: a bit set after that is a new rising edge (R51). -/
def State.lineFall (s : State) (p : Nat) : State :=
  if s.lineLevel p then s else { s with lines := Assoc.put (fun _ => false) s.lines p false }

/-- The INITIATOR and CORE codes of PG_ERR_INFO: an initiator, or the block itself. -/
def errSource : Option Initiator → Nat × Nat
  | none => (5, 0)
  | some (.ctl k) => (0, k.val)
  | some (.data k) => (1, k.val)
  | some .host => (2, 0)
  | some .dma => (3, 0)
  | some .debug => (4, 0)

/-- Record an error in the header of page `p`: the first one since a clear is kept and raises ERR, later ones count. -/
def State.err (s : State) (p code : Nat) (who : Option Initiator) (addr : Nat) : State :=
  if s.flag (F.PG_ERR_INFO_VALID p) then s.bumpSat (F.PG_ERR_INFO_COUNT p)
  else
    let src := errSource who
    ((s.setReg (p * 0x1000 + 0x20)
        (BitVec.ofNat 32 (code % 256 * 0x1000000 + src.1 * 0x100000 + src.2 * 0x10000 + 0x100 + 1))).setReg
      (p * 0x1000 + 0x24) (BitVec.ofNat 32 addr)).raise p 31

/-- The internal byte address of a register key (R30). -/
def regAddr (key : Nat) : Nat := 0x40000000 + plainKey key

/-- Record an error of an access to a register; `sub` is the byte within the word at which the access begins (R37). -/
def State.accessErr (s : State) (code : Nat) (who : Initiator) (key : Nat) (sub : Nat := 0) : State :=
  s.err (plainKey key / 0x1000) code (some who) (regAddr key + sub)

/-- A block meets an uncorrectable word of its own tables at physical address `a` (R38, code 0x05). -/
def State.tableEcc (s : State) (p a : Nat) : State := s.err p 0x05 none a

/-- Answer the access in progress. -/
def State.respond (s : State) (data : Nat) (error : Bool) : State :=
  { s with bus := ⟨BitVec.ofNat 64 data, error⟩ }

/-- The first write to a block's own SRAM clears PG_STAT.WIPED (R37, R561). -/
def State.unwipe (s : State) (p : Nat) : State := s.setFlag (F.PG_STAT_WIPED p) false

/-! ## Logs that a register pops -/

/-- The entries of the log at a register key, oldest first. -/
def State.fifo (s : State) (key : Nat) : List (List Word) := Assoc.get (fun _ => []) s.fifos key

/-- Replace the entries of a log. -/
def State.setFifo (s : State) (key : Nat) (l : List (List Word)) : State :=
  { s with fifos := Assoc.put (fun _ => []) s.fifos key l }

/-- Append an entry to a log of `depth` entries; `full` acts where the log is full and the entry is lost. -/
def State.pushFifo (s : State) (key depth : Nat) (entry : List Word) (full : State → State) : State :=
  if (s.fifo key).length < depth then s.setFifo key (s.fifo key ++ [entry]) else full s

/-! ## Free values -/

/-- Draw a free value below `bound`. -/
def State.fresh (s : State) (bound : Nat) : Nat × State :=
  (Config.freeNat s.freeCtr % bound, { s with freeCtr := s.freeCtr + 1 })

/-! ## Memory bytes -/

/-- What a byte of memory that nothing has written reads as: the wipes of R514 and R515 leave zero (log 5). -/
def memDefault : Nat → Byte := fun _ => 0

/-- What a byte of boot flash that nothing has programmed reads as (log 6). -/
def flashDefault : Nat → Byte := fun _ => 0xFF

/-- The canonical form of a memory. -/
abbrev Memory.wf (m : List Host.Cell) : Bool := Assoc.wf memDefault m

def State.memByte (s : State) (a : Nat) : Byte := Assoc.get memDefault s.mem.bytes a

/-- Write one byte of memory. -/
def State.setMemByte (s : State) (a : Nat) (v : Byte) : State :=
  { s with mem := { s.mem with bytes := Assoc.put memDefault s.mem.bytes a v } }

def State.flashByte (s : State) (a : Nat) : Byte := Assoc.get flashDefault s.mem.flash a

/-- The little-endian value of `n` bytes of memory. -/
def State.memLE (s : State) (a : Nat) : Nat → Nat
  | 0 => 0
  | n + 1 => (s.memByte a).toNat + 256 * s.memLE (a + 1) n

/-- The little-endian value of `n` bytes of boot flash. -/
def State.flashLE (s : State) (a : Nat) : Nat → Nat
  | 0 => 0
  | n + 1 => (s.flashByte a).toNat + 256 * s.flashLE (a + 1) n

/-- The bytes of memory at `a`. -/
def State.memBytes (s : State) (a : Nat) : Nat → List Byte
  | 0 => []
  | n + 1 => s.memByte a :: s.memBytes (a + 1) n

/-- Store `n` bytes of `v`, little-endian. -/
def State.storeLE (s : State) (a : Nat) : Nat → Nat → State
  | 0, _ => s
  | n + 1, v => (s.setMemByte a (BitVec.ofNat 8 v)).storeLE (a + 1) n (v / 256)

/-- Store a list of bytes. -/
def State.storeBytes (s : State) (a : Nat) : List Byte → State
  | [] => s
  | b :: bs => (s.setMemByte a b).storeBytes (a + 1) bs

/-- Store a list of 32-bit words, little-endian. -/
def State.storeWords (s : State) (a : Nat) : List Nat → State
  | [] => s
  | w :: ws => (s.storeLE a 4 w).storeWords (a + 4) ws

/-- The 32-bit word of memory at `a`. -/
def State.memWord (s : State) (a : Nat) : Nat := s.memLE a 4

/-- `n` 32-bit words of memory from `a`. -/
def State.memWords (s : State) (a : Nat) : Nat → List Nat
  | 0 => []
  | n + 1 => s.memWord a :: s.memWords (a + 4) n

/-- The little-endian bytes of a number. -/
def bytesLE (v : Nat) : Nat → List Byte
  | 0 => []
  | n + 1 => BitVec.ofNat 8 v :: bytesLE (v / 256) n

/-- The big-endian bytes of a number. -/
def bytesBE (v n : Nat) : List Byte := (bytesLE v n).reverse

/-- The number that a list of bytes spells, least significant first. -/
def leValue : List Byte → Nat
  | [] => 0
  | b :: bs => b.toNat + 256 * leValue bs

end Sys2Proof.Machine
end

