-- ==== Sys2Proof/Machine/Bytes.lean ====
section
/-! DEFINITION. Byte strings: pieces, little-endian words, and the packing of bytes into mailbox words. -/

namespace Sys2Proof.Machine

/-- Cut a list into pieces of `n`. -/
def chunks (n : Nat) : Nat → List Byte → List (List Byte)
  | 0, _ => []
  | k + 1, l => l.take n :: chunks n k (l.drop n)

/-- The little-endian 32-bit words of a byte string. -/
def bytesWords (l : List Byte) : List Nat := (chunks 4 (l.length / 4) l).map leValue

/-- The bytes of 32-bit words, little-endian. -/
def wordsBytes (l : List Nat) : List Byte := l.flatMap fun w => bytesLE w 4

/-- The little-endian word at offset `o`. -/
def wordAt (b : List Byte) (o : Nat) : Nat := leValue ((b.drop o).take 4)

/-- Bytes packed seven to a payload word, low byte first (R145, R372). -/
def pack7 (b : List Byte) : List Nat := (chunks 7 ((b.length + 6) / 7) b).map leValue

/-- The first `n` bytes of payload words that hold seven bytes each. -/
def unpack7 (n : Nat) (ps : List Nat) : List Byte := (ps.flatMap fun p => bytesLE p 7).take n

/-- The big-endian number that bytes spell. -/
def beValue (b : List Byte) : Nat := leValue b.reverse

/-! ## Integer square roots -/

/-- The square root of `n`, bit by bit from bit `k` down. -/
def sqrtBits (n : Nat) : Nat → Nat → Nat
  | 0, r => r
  | k + 1, r => sqrtBits n k (if (r + 2 ^ k) * (r + 2 ^ k) ≤ n then r + 2 ^ k else r)

/-- The square root rounded down, for numbers below 2^96. -/
def isqrt (n : Nat) : Nat := sqrtBits n 48 0

/-- The square root rounded to the nearest number. -/
def nearSqrt (n : Nat) : Nat :=
  let r := isqrt n
  if (2 * r + 1) * (2 * r + 1) ≤ 4 * n then r + 1 else r

/-- A quotient rounded to the nearest number, ties away from zero (R236), for a positive divisor. -/
def roundAway (a : Int) (b : Nat) : Int :=
  if 0 ≤ a then (2 * a + b) / (2 * b) else -((2 * (-a) + b) / (2 * b))

end Sys2Proof.Machine
end

