-- ==== Sys2Proof/Machine/MboxOps.lean ====
section
/-! DEFINITION. The mailbox queues (16_mailbox_queues.md R475 to R487): banks, reads, writes, held writes, packets. -/

namespace Sys2Proof.Machine

/-! ## The word format (R478, R479) -/

/-- A mailbox word: tag in [63:60], payload in [55:0]. -/
def mboxWord (tag payload : Nat) : DWord := BitVec.ofNat 64 (tag * 2 ^ 60 + payload % 2 ^ 56)

def wordTag (w : DWord) : Nat := w.toNat / 2 ^ 60
def wordPayload (w : DWord) : Nat := w.toNat % 2 ^ 56

/-- A word that a writer may push: TAG 0x1 or 0x3 and 0 in [59:56] (R479). -/
def wordValid (w : DWord) : Bool :=
  (wordTag w == 1 || wordTag w == 3) && bitsOf w.toNat 59 56 == 0

/-! ## The banks (R475, R476) -/

def MboxQueue.level (q : MboxQueue) : Nat := q.fill.length + q.drain.length

/-- Full: the fill bank is full and the drain bank holds a word. -/
def MboxQueue.full (q : MboxQueue) (depth : Nat) : Bool :=
  decide (depth ≤ q.fill.length) && !q.drain.isEmpty

/-- Take the head word; an empty drain bank swaps with the fill bank first. -/
def MboxQueue.pop (q : MboxQueue) : Option (MboxWord × MboxQueue) :=
  match q.drain with
  | w :: t => some (w, { q with drain := t })
  | [] =>
    match q.fill with
    | w :: t => some (w, { q with drain := t, fill := [], fillBank := (q.fillBank + 1) % 2 })
    | [] => none

/-- Store a word in a queue that is not full; a full fill bank swaps with an empty drain bank first. -/
def MboxQueue.push (q : MboxQueue) (depth : Nat) (w : MboxWord) : MboxQueue :=
  if depth ≤ q.fill.length ∧ q.drain = [] then { q with drain := q.fill, fill := [w], fillBank := (q.fillBank + 1) % 2 }
  else { q with fill := q.fill ++ [w] }

/-- The words of a queue, head first. -/
def MboxQueue.words (q : MboxQueue) : List MboxWord := q.drain ++ q.fill

/-! ## Queues of the state -/

def State.mboxQ (s : State) (q : Nat) : MboxQueue := Assoc.get (fun _ => {}) s.mbox q

/-- The level that a queue shows: a corrupted single pointer leaves it open (R485). -/
def State.mboxLevel (s : State) (q : Nat) : Nat :=
  if (s.mboxQ q).ptrBad then Config.freeNat s.freeCtr % 2048 else (s.mboxQ q).level

def State.setMbox (s : State) (q : Nat) (v : MboxQueue) : State :=
  { s with mbox := Assoc.put (fun _ => {}) s.mbox q v }

/-- The page of queue `q` (R489). -/
def mboxPage (q : Nat) : Nat := 0x030 + q / 4

/-- Event `e` of queue `q` (R490): 0 stored in an empty queue, 1 write failed, 2 poison, 3 pointer reset. -/
def State.mboxEvent (s : State) (q e : Nat) : State := s.raise (mboxPage q) (4 * (q % 4) + e)

/-- Queues 62 and 63 read EN 1 and DEPTH 16 (R489). -/
def State.mboxEnabled (s : State) (q : Nat) : Bool :=
  decide (62 ≤ q) || s.flag (F.MBOX_CFG_EN (q / 4) (q % 4))

def State.mboxDepth (s : State) (q : Nat) : Nat :=
  if 62 ≤ q then 16 else s.getF (F.MBOX_CFG_DEPTH (q / 4) (q % 4))

def State.mboxLimit (s : State) (q : Nat) : Nat := s.getF (F.MBOX_CFG_LIMIT_NS (q / 4) (q % 4))

def State.mboxProt (s : State) (q : Nat) : Bool :=
  decide (62 ≤ q) || s.flag (F.MBOX_CFG_PROT (q / 4) (q % 4))

/-- A pointer mismatch found by an access to a queue with duplicated pointers empties it (R485). -/
def State.mboxCheckPtr (s : State) (q : Nat) : State :=
  let x := s.mboxQ q
  if x.ptrBad && s.mboxProt q then
    (((s.setMbox q { x with fill := [], drain := [], dropPending := false, ptrBad := false }).bump
      (F.MBOX_PTR_RESETS_COUNT (q / 4) (q % 4))).err (mboxPage q) 0x12 none q).mboxEvent q 3
  else s

/-- May `w` store a word now: no other writer holds the queue open, and it is not full (R481, R482). -/
def State.mboxTakes (s : State) (q : Nat) (w : Writer) : Bool :=
  let x := s.mboxQ q
  (x.opener == none || x.opener == some w) && !x.full (s.mboxDepth q)

/-- Store a word of writer `w`; under DROP_PENDING it is discarded and counted instead (R484). A packet word opens the
queue to its writer, its last word closes it (R482). -/
def State.mboxStore (s : State) (q : Nat) (w : Writer) (word : DWord) (packet : Bool) : State :=
  let x := s.mboxQ q
  let opener := if packet then (if wordTag word == 3 then none else some w) else
    (if x.opener == some w ∧ wordTag word == 3 then none else x.opener)
  let last := if packet then s.now else x.lastPacket
  if x.dropPending then
    (s.setMbox q { x with opener := opener, lastPacket := last, dropPending := !(wordTag word == 3) }).bump
      (F.MBOX_DROPPED_COUNT (q / 4) (q % 4))
  else
    let y := { x.push (s.mboxDepth q) ⟨word, false⟩ with opener := opener, lastPacket := last }
    let s1 := s.setMbox q y
    let s2 := s1.setF (F.MBOX_PEAK_LEVEL (q / 4) (q % 4)) (max (s1.getF (F.MBOX_PEAK_LEVEL (q / 4) (q % 4))) y.level)
    if x.level == 0 then s2.mboxEvent q 0 else s2

/-- The first held write that can be stored, with the others. -/
def firstReady (ok : Writer → Bool) : List HeldWrite → Option (HeldWrite × List HeldWrite)
  | [] => none
  | h :: t =>
    if ok h.writer then some (h, t)
    else
      match firstReady ok t with
      | some (r, rest) => some (r, h :: rest)
      | none => none

/-- Complete held writes, in the order in which their holds began, while space and packets allow (R481). -/
def State.mboxServeHeld (s : State) (q : Nat) : Nat → State
  | 0 => s
  | n + 1 =>
    match firstReady (s.mboxTakes q) (s.mboxQ q).held with
    | some (h, rest) =>
      let s1 := (s.setMbox q { s.mboxQ q with held := rest }).mboxStore q h.writer h.word h.packet
      let s2 := match h.writer with
        | .ini _ => s1.respond 0 false
        | .blk _ => s1
      s2.mboxServeHeld q n
    | none => s

/-- Complete every held write that now can be. -/
def State.mboxServe (s : State) (q : Nat) : State := s.mboxServeHeld q (s.mboxQ q).held.length

/-- Count a word that a block lost. -/
def State.countLost (s : State) (lost : Option Lost) : State :=
  match lost with
  | some l =>
    let s1 := s.bump l.count
    let s2 := match l.event with
      | some (p, b) => s1.raise p b
      | none => s1
    match l.log with
    | some (key, depth, e) => s2.pushFifo key depth [e] id
    | none => s2
  | none => s

/-- A word lost at the bus limit, or as if at it (R481, R486). -/
def State.mboxFail (s : State) (q : Nat) (w : Writer) (lost : Option Lost) : State :=
  let s1 := (s.bump (F.MBOX_WR_FAIL_COUNT (q / 4) (q % 4))).mboxEvent q 1
  match w with
  | .blk _ => s1.countLost lost
  | .ini i => (s1.err (mboxPage q) 0x13 (some i) (0x41000000 + q * 0x1000)).respond 0 (i != .host)

/-- Write one word to queue `q` (R479 to R482): refused, stored, or held. `packet` marks the PACKET window and the packets
of the device's own blocks. -/
def State.mboxWrite (s : State) (q : Nat) (w : Writer) (word : DWord) (packet : Bool) (lost : Option Lost) : State :=
  let s := s.mboxCheckPtr q
  let addr := 0x41000000 + q * 0x1000
  let src := match w with
    | .ini i => some i
    | .blk _ => none
  if 62 ≤ q then s.mboxFail q w lost
  else if !s.mboxEnabled q then (s.err (mboxPage q) 0x11 src addr).countLost lost
  else if !wordValid word then (s.err (mboxPage q) 0x10 src addr).countLost lost
  else if s.mboxTakes q w then
    (s.mboxStore q w word packet).mboxServe q
  else
    let x := s.mboxQ q
    s.setMbox q { x with held := x.held ++ [⟨w, word, packet, s.now, lost⟩] }

/-- A block posts one word with tag 0x1 (R482: a complete message). -/
def State.post (s : State) (q : Nat) (b : Block) (payload : Nat) (lost : Option Lost) : State :=
  s.mboxWrite q (.blk b) (mboxWord 1 payload) false lost

/-- A block posts a packet: words with tag 0x1, the last with tag 0x3 (R482). A packet is lost with its last word. -/
def State.postPacket (s : State) (q : Nat) (b : Block) (lost : Option Lost) : List Nat → State
  | [] => s
  | [p] => s.mboxWrite q (.blk b) (mboxWord 3 p) true lost
  | p :: ps => (s.mboxWrite q (.blk b) (mboxWord 1 p) true none).postPacket q b lost ps

/-- Take the head word of queue `q` as it is delivered (R478, R485); `none` is the not-valid answer. Writes that are held go on
into the space that the read leaves, or that a pointer mismatch found by it has left. -/
def State.mboxTake (s : State) (q : Nat) : Option DWord × State :=
  let s := s.mboxCheckPtr q
  let x := s.mboxQ q
  if !s.mboxEnabled q || x.dropPending then (none, s.mboxServe q)
  else if x.ptrBad then
    -- single pointers, corrupted: which word is delivered is undefined (R485)
    let (v, s) := s.fresh (2 ^ 64)
    (some (BitVec.ofNat 64 v), s)
  else
    match x.pop with
    | none => (none, s.mboxServe q)
    | some (w, y) =>
      let s1 := (s.setMbox q y).mboxServe q
      if w.bad then
        (some (mboxWord 8 (wordPayload w.word)), (s1.bump (F.MBOX_POISON_COUNT (q / 4) (q % 4))).mboxEvent q 2)
      else (some w.word, s1)

/-- Take words up to the end of a packet: a word with tag 0x3 or the closure word; at most `n` words. The payloads come
with whether a poison word lay among them. -/
def State.mboxTakePacket (s : State) (q : Nat) : Nat → List Nat × Bool × State
  | 0 => ([], true, s)
  | n + 1 =>
    match s.mboxTake q with
    | (none, s1) => ([], true, s1)
    | (some w, s1) =>
      if wordTag w == 3 then ([wordPayload w], false, s1)
      else if wordTag w == 8 ∧ wordPayload w == 0 then ([], true, s1)
      else
        let (ps, bad, s2) := s1.mboxTakePacket q n
        (wordPayload w :: ps, bad || wordTag w == 8, s2)

/-- A whole packet waits at the head of queue `q`. -/
def State.mboxPacketReady (s : State) (q : Nat) : Bool :=
  s.mboxEnabled q && !(s.mboxQ q).dropPending && (s.mboxQ q).words.any fun w => wordTag w.word == 3 || wordTag w.word == 8

/-- Discard words from the head up to the first with tag 0x3; how many, and what is left (R484). -/
def dropPacketWords : List MboxWord → Option (Nat × List MboxWord)
  | [] => none
  | w :: t =>
    if wordTag w.word == 3 then some (1, t)
    else
      match dropPacketWords t with
      | some (n, r) => some (n + 1, r)
      | none => none

/-- Empty a queue, counting its words in DROPPED (R484, R487). -/
def State.mboxDiscard (s : State) (q : Nat) (pending : Bool) : State :=
  let x := s.mboxQ q
  (s.setMbox q { x with fill := [], drain := [], dropPending := pending, ptrBad := false }).bumpBy
    (F.MBOX_DROPPED_COUNT (q / 4) (q % 4)) x.level

end Sys2Proof.Machine
end

