-- ==== Sys2Proof/Machine/Crc.lean ====
section
/-! DEFINITION. The checksums the spec names: CRC-32 with the IEEE 802.3 polynomial (R71), the device's CRC over the bytes of
a record or a slot. -/

namespace Sys2Proof.Machine

/-- One bit of the reflected CRC-32 register. -/
def crc32Bit (c : Nat) : Nat := if c % 2 = 1 then (c / 2) ^^^ 0xEDB88320 else c / 2

/-- Eight bits of the reflected CRC-32 register. -/
def crc32Byte (c : Nat) (b : Byte) : Nat :=
  crc32Bit (crc32Bit (crc32Bit (crc32Bit (crc32Bit (crc32Bit (crc32Bit (crc32Bit (c ^^^ b.toNat))))))))

/-- The CRC-32 register after a list of bytes, from register `c`. -/
def crc32From (c : Nat) (l : List Byte) : Nat := l.foldl crc32Byte c

/-- CRC-32 of a list of bytes: initial value all ones and final inversion (R71, R468). -/
def crc32 (l : List Byte) : Nat := crc32From 0xFFFFFFFF l ^^^ 0xFFFFFFFF

end Sys2Proof.Machine
end

