-- ==== Sys2Proof/Machine/TimeOps.lean ====
section
/-! DEFINITION. The time base (04_time_base.md R98 to R116): the output time, its increment, the domains, selection, holdover,
step and slew. -/

namespace Sys2Proof.Machine

/-- One nanosecond in the units of the output time (R98). -/
def nsUnit : Nat := 2 ^ 32

/-- One second in the units of the output time. -/
def secUnit : Nat := 1000000000 * 2 ^ 32

/-! ## Readings of the output time -/

/-- TAI in nanoseconds. -/
def State.taiNs (s : State) : Nat := s.time.out / nsUnit

/-- TAI seconds, 48 bits (R98). -/
def State.taiSec (s : State) : Nat := s.time.out / secUnit % 2 ^ 48

/-- The nanoseconds of the second. -/
def State.taiNsec (s : State) : Nat := s.time.out / nsUnit % 1000000000

/-- The 10 µs tick of threads and work (11_dispatch_engine.md R331). -/
def State.tick10us (s : State) : Nat := s.taiNs / 10000 % 2 ^ 32

/-- The plan tick (07_track_planner.md R194). -/
def State.planTick (s : State) : Nat := s.taiNs / 10000000 % 2 ^ 32

/-- The superframe number (01_planes_and_epochs.md R22). -/
def State.superframe (s : State) : Nat := s.taiNs / 20000000 % 2 ^ 32

/-- TAI in milliseconds, 32 bits: the epoch stamps of fixes and zone states. -/
def State.taiMs (s : State) : Nat := s.taiNs / 1000000 % 2 ^ 32

/-- The signed difference `a − b` of two 32-bit ticks (R194, R331). -/
def tickDiff (a b : Nat) : Int := toSigned 32 ((a % 2 ^ 32 + 2 ^ 32 - b % 2 ^ 32) % 2 ^ 32)

/-! ## Periodic instants of the output time -/

/-- An instant (ns) lies in the interval that the last step or SET jumped over (R106, R108). -/
def State.jumped (s : State) (n : Nat) : Bool :=
  match s.time.jump with
  | some (a, b) => decide (a ≤ n) && decide (n < b)
  | none => false

/-- The latest multiple of `period` ns of the output time, where it has not been produced yet and no step or SET jumped over
it. `id` names the periodic event. -/
def State.edgeDue (s : State) (id period : Nat) : Option Nat :=
  let n := s.taiNs / period * period
  if Assoc.get (fun _ => 0) s.time.edges id < n ∧ !s.jumped n then some n else none

/-- Mark an instant as produced. -/
def State.edgeDone (s : State) (id n : Nat) : State :=
  { s with time := { s.time with edges := Assoc.put (fun _ => 0) s.time.edges id n } }

/-- Act at the latest instant of a periodic event, once. -/
def State.atEdge (s : State) (id period : Nat) (k : Nat → State → State) : State :=
  match s.edgeDue id period with
  | some n => k n (s.edgeDone id n)
  | none => s

/-! ## The quality code (R100) -/

def TimeState.code : TimeState → Nat
  | .none => 0x0
  | .lockA => 0x1
  | .lockB => 0x2
  | .hold => 0x8
  | .holdLong => 0x9
  | .holdExpired => 0xA
  | .manual => 0xF

/-- The states in which TIME_VALID is possible. -/
def TimeState.validPossible : TimeState → Bool
  | .lockA | .lockB | .hold | .holdLong => true
  | .none | .holdExpired | .manual => false

/-- A holdover state (R104). -/
def TimeState.holdover : TimeState → Bool
  | .hold | .holdLong | .holdExpired => true
  | .none | .lockA | .lockB | .manual => false

/-- NONE or MANUAL: the states in which no domain has been followed since reset or SET. -/
def TimeState.unfollowed : TimeState → Bool
  | .none | .manual => true
  | .lockA | .lockB | .hold | .holdLong | .holdExpired => false

/-- The quality code (R100). -/
def State.quality (s : State) : Nat :=
  s.time.state.code + (if s.time.x = 0 then 0 else 0x10) + (if s.time.correcting then 0x20 else 0)

/-- Re-evaluate TIME_VALID, raising the events of its edges (R100, R120). -/
def State.timeEval (s : State) : State :=
  let v := !s.time.correcting && s.time.state.validPossible
  let s1 := { s with time := { s.time with valid := v } }
  if v && !s.time.valid then s1.raise 0x042 0
  else if !v && s.time.valid then s1.raise 0x042 1
  else s1

/-- TIME_OUT_VALID_LIMIT in the units of the output time. -/
def State.validLimit (s : State) : Int := (s.getF F.TIME_OUT_VALID_LIMIT_NS * nsUnit : Nat)

/-- 500 µs: the largest forward correction that is slewed (R105). -/
def stepLimit : Int := (500000 * nsUnit : Nat)

/-- Apply R105 to a new outstanding correction: a step is pending when it is forward and more than 500 µs; CORRECTING is
set while a step is pending or D exceeds the limit (R100). -/
def State.timeSetD (s : State) (d : Int) : State :=
  let pend := decide (stepLimit < d)
  State.timeEval { s with time := { s.time with d := d, stepPending := pend, correcting := pend || decide (s.validLimit < d.natAbs) } }

/-! ## Domains (R101) -/

/-- The domain's time at device time `now`, in 2^-32 ns: its estimate carried on at its frequency. -/
def Domain.timeAt (d : Domain) (now : Nat) : Int :=
  d.tai + (((now : Int) - d.upd) * nsUnit * (1000000000000 + d.freq)) / 1000000000000

/-- Domain `i`: 1 is A, 2 is B. -/
def State.dom (s : State) (i : Nat) : Domain := if i = 1 then s.time.domA else s.time.domB

def State.setDom (s : State) (i : Nat) (d : Domain) : State :=
  if i = 1 then { s with time := { s.time with domA := d } } else { s with time := { s.time with domB := d } }

/-- The page of domain `i`. -/
def domPage (i : Nat) : Nat := 0x03F + i

/-- The domain that SEL selects (R102). -/
def State.selected (s : State) : Nat :=
  let a := s.time.domA.state == .locked
  let b := s.time.domB.state == .locked
  match s.getF F.TIME_OUT_CTRL_SEL with
  | 0 => if a then 1 else if b then 2 else 0
  | 1 => if a then 1 else 0
  | 2 => if b then 2 else 0
  | _ => 0

/-- Follow the domain that SEL selects (R102 to R106): a switch between domains forms X unless D is outstanding; a first
domain computes D; no domain enters holdover. Any change raises TIME_OUT event 3. -/
def State.reselect (s : State) : State :=
  let new := s.selected
  let old := s.time.follow
  if new = old then s
  else
    let s1 := { s with time := { s.time with follow := new } }.raise 0x042 3
    if new = 0 then
      -- holdover (R104): D and CORRECTING stay as at entry, a pending step is cancelled
      State.timeEval ({ s1 with time := { s1.time with state := .hold, holdSince := s.now, stepPending := false } }.raise 0x042 4)
    else
      let d := s.dom new
      let t := d.timeAt s.now
      let st := if new = 1 then TimeState.lockA else TimeState.lockB
      let s2 := { s1 with time := { s1.time with state := st, f := d.freq } }
      if old = 0 ∨ s.time.d ≠ 0 ∨ s.time.stepPending then
        { s2 with time := { s2.time with x := 0 } }.timeSetD (t - s.time.out)
      else
        State.timeEval { s2 with time := { s2.time with x := (s.time.out : Int) - t } }

/-- Leave the locked state or any other: set the domain's state, then re-evaluate the selection. -/
def State.domState (s : State) (i : Nat) (st : DomainState) : State :=
  (s.setDom i { s.dom i with state := st }).reselect

/-- The count of consecutive disagreeing updates of domain B begins anew (R109). -/
def State.asymRestart (s : State) : State := { s with time := { s.time with ptp := { s.time.ptp with asymRun := 0 } } }

/-- Discard a domain's estimate (SERVO_EN 0, RESTART). -/
def State.domDiscard (s : State) (i : Nat) : State :=
  let s1 := if i = 2 then s.asymRestart else s
  (s1.setDom i {}).reselect

/-- The slave role moves to a port (R110, R111): the announce and Sync times start anew, and what the master of another port said or
left open is dropped. -/
def State.ptpMove (s : State) (port : Nat) : State :=
  let s1 := s.setF F.TIME_B_PORT_ACTIVE port
  let same := s.getF F.TIME_B_PORT_ACTIVE == port
  let q := { s.time.ptp with lastSync := s.now, lastAnnounce := s.now }
  let q1 := { q with class248 := false, pendingSync := none, syncDelta := none, delayReq := none, steps := 0 }
  { s1 with time := { s1.time with ptp := cond same q q1 } }

/-- |T_B − T_A| is beyond TIME_B_ASYM_THR.NS while both domains are LOCKED (R109). -/
def State.asymBeyond (s : State) : Bool :=
  decide ((s.getF F.TIME_B_ASYM_THR_NS * nsUnit : Nat) <
    (s.time.domB.timeAt s.now - s.time.domA.timeAt s.now).natAbs)

/-- The asymmetry check of R109 after an update of domain B; an update without a comparison ends the run. -/
def State.asymCheck (s : State) : State :=
  if s.time.domA.state == .locked && s.time.domB.state == .locked then
    if s.asymBeyond then
      let n := s.time.ptp.asymRun + 1
      let s1 := { s with time := { s.time with ptp := { s.time.ptp with asymRun := n } } }
      if s.getF F.TIME_B_ASYM_THR_CNT ≤ n then
        let s3 := (s1.asymRestart.setF F.TIME_B_ASYM_STAT_PORT (s.getF F.TIME_B_PORT_ACTIVE)).setFlag F.TIME_B_ASYM_STAT_FLAGGED true
        (s3.raise 0x041 2).domState 2 .frozen
      else s1
    else s.asymRestart
  else s.asymRestart

/-- A domain update (R101), stamped at device time `at_`, when the output time was `out` (2^-32 ns): `offset` is the measured domain
time minus that output time, `freq` the measured frequency (0.001 ppb). The servo's law is open (Config.servoTai, Config.servoFreq; log
9). A domain that entered ACQUIRE without an estimate (R111) begins with the update. -/
def State.domUpdate (s : State) (i at_ : Nat) (out offset freq : Int) : State :=
  let d := s.dom i
  let tai := out + offset
  let lockNs : Int := (s.getF (F.TIME_D_SERVO_LOCK_NS (i - 1)) * nsUnit : Nat)
  let lockCnt := s.getF (F.TIME_D_CTRL_LOCK_CNT (i - 1))
  if !s.flag (F.TIME_D_CTRL_SERVO_EN (i - 1)) || d.state == .frozen then s
  else
    let start (fr : Int) : Domain :=
      { state := .acquire, tai := tai, upd := at_, freq := fr, good := 1, offset := offset, heard := some s.now }
    let bw := s.getF (F.TIME_D_SERVO_BW_MHZ (i - 1))
    let pred := d.timeAt at_
    let res := tai - pred
    let good := decide ((res.natAbs : Int) ≤ lockNs)
    let run : Domain := { d with
      tai := Config.servoTai bw d.tai d.freq pred tai, upd := at_, freq := Config.servoFreq bw d.tai d.freq pred tai,
      good := if good then min (d.good + 1) 255 else 0, offset := offset, heard := some s.now }
    let lock (s : State) : State :=
      if (s.dom i).state == .acquire && decide (lockCnt ≤ (s.dom i).good) then
        (s.raise (domPage i) 0).domState i .locked
      else s
    let s1 := match d.state with
      | .none => lock (s.setDom i (start freq))
      | .hold => lock (s.setDom i (start d.freq))
      | .acquire => lock (s.setDom i (if d.heard.isNone then start freq else run))
      | .locked => s.setDom i run
      | .frozen => s
    let s2 := if s1.time.follow = i ∧ s.time.follow = i then
        let dm := s1.dom i
        { s1 with time := { s1.time with f := dm.freq } }.timeSetD (dm.timeAt s.now + s1.time.x - s1.time.out)
      else s1
    if i = 2 then s2.asymCheck else s2

/-! ## The increment (R99) and the tick -/

/-- The nominal increment. -/
def nominalIncr : Nat := 0x0200000000

/-- The slew and bleed rates in ppb, within their bounds (R103, R105); the rates themselves are open (log 9). -/
def State.slewPpb (s : State) : Int :=
  if s.time.state.unfollowed || s.time.state.holdover || s.time.stepPending then 0
  else if 0 < s.time.d then (1 + Config.slewForward % 20000 : Nat)
  else if s.time.d < 0 then -((1 + Config.slewBackward % 200000 : Nat) : Int)
  else 0

def State.bleedPpb (s : State) : Int :=
  if s.time.state.unfollowed || s.time.state.holdover then 0
  else if 0 < s.time.x then -((1 + Config.bleed % 10000 : Nat) : Int)
  else if s.time.x < 0 then (1 + Config.bleed % 10000 : Nat)
  else 0

/-- The clamp of R99: nominal ± 1,000 ppm. -/
def clampIncr (v : Int) : Nat := (min (max v 0x01FF7CED91) 0x020083126F).toNat

/-- The effective increment of one tick without the dither of its last bit (R99). -/
def State.effIncr (s : State) : Nat :=
  if s.time.state.unfollowed then s.getF F.TIME_OUT_INCR_REG % 2 ^ 40
  else clampIncr ((nominalIncr * (1000000000000 + s.time.f + 1000 * (s.slewPpb + s.bleedPpb)) : Int) / 1000000000000)

/-- The next instant of a pulse output where it lies in an interval that is jumped over, from `lo` up to `hi` ns: the instants in it are
skipped and counted, and the next is the first after it (R106, R112). -/
def Pulse.jumpTo (p : Pulse) (lo hi : Nat) : Nat × Pulse :=
  match p.nextAt with
  | none => (0, p)
  | some t =>
    if p.en ∧ lo ≤ t ∧ t < hi then
      if p.period = 0 then (1, { p with nextAt := none })
      else
        let n := (hi - t + p.period - 1) / p.period
        (n, { p with nextAt := some (t + n * p.period) })
    else (0, p)

def State.pulse (s : State) (i : Nat) : Pulse := Assoc.get (fun _ => {}) s.time.pulses i

def State.setPulse (s : State) (i : Nat) (p : Pulse) : State :=
  { s with time := { s.time with pulses := Assoc.put (fun _ => {}) s.time.pulses i p } }

/-- Count `n` skipped instants of pulse output `i`. -/
def State.pulseSkip (s : State) (i n : Nat) : State :=
  if n = 0 then s else (s.bumpBy (F.TIME_OUT_PULSE_SKIP_COUNT.win i) n).raise 0x042 7

/-- Set a pulse output whose next instant may lie in the interval jumped over last. -/
def State.putPulse (s : State) (i : Nat) (p : Pulse) : State :=
  match s.time.jump with
  | some (a, b) =>
    let r := p.jumpTo a b
    (s.setPulse i r.2).pulseSkip i r.1
  | none => s.setPulse i p

/-- Move the output time to `out` over an interval whose first instant is `lo` ns (R106, R108): the pulse instants in it are skipped and the
consumers see the jump. -/
def State.jumpOut (s : State) (lo out : Nat) : State :=
  let s1 := { s with time := { s.time with out := out, jump := some (lo, (out + nsUnit - 1) / nsUnit),
                                           catchFrom := some (s.time.catchFrom.getD s.taiNs) } }
  (List.range 16).foldl (fun s i => s.putPulse i (s.pulse i)) s1

/-- The step of R106: at the next whole second S the output is set to S + D. -/
def State.stepOut (s : State) : State :=
  let sec := (s.time.out / secUnit + 1) * secUnit
  let s1 := s.jumpOut (sec / nsUnit) (sec + s.time.d.toNat)
  ((s1.bump F.TIME_OUT_STEPS_COUNT).raise 0x042 2).timeSetD 0

/-- A pending step falls due: the next tick reaches a whole second (R106). -/
def State.stepDue (s : State) : Bool :=
  s.time.stepPending && s.time.follow != 0 && decide ((s.time.out / secUnit + 1) * secUnit ≤ s.time.out + s.effIncr)

/-- One tick of the 500 MHz clock (R98, R99): the output time advances by the effective increment, whose last bit is
dithered, and the slewed part of D and the bled part of X are taken off. -/
def State.timeTick (s : State) : State :=
  let s0 := { s with now := s.now + 2 }
  if s.stepDue then s0.stepOut
  else
    let (dither, s1) := s0.fresh 2
    let inc := if s.time.state.unfollowed then s.effIncr else clampIncr (s.effIncr + dither)
    let slew : Int := nominalIncr * s.slewPpb / 1000000000
    let bleed : Int := nominalIncr * s.bleedPpb / 1000000000
    let d := if 0 < s.time.d then max 0 (s.time.d - slew) else if s.time.d < 0 then min 0 (s.time.d - slew) else 0
    let x := if 0 < s.time.x then max 0 (s.time.x + bleed) else if s.time.x < 0 then min 0 (s.time.x + bleed) else 0
    { s1 with time := { s1.time with out := s.time.out + inc, d := d, x := x } }

end Sys2Proof.Machine
end

