-- ==== Sys2Proof/Machine/MemOps.lean ====
section
/-! DEFINITION. Memory as the device's blocks reach it (15_memory_and_dma.md R450 to R463): regions, error correction,
Sv48 translation, the fault log, and a client's reads and writes. -/

namespace Sys2Proof.Machine

/-! ## Regions (R29, R450, R452, R455) -/

/-- Where a physical address lies. -/
inductive Region where
  | rom | retained | retainedDevice | fleet | aster | frameBuffer | general | l2 | regs | mailbox | flash | lpddr | pcie
  | unmapped
  deriving DecidableEq, Repr

/-- The LPDDR5 bytes that are addressable (R455): 2, 4, 8 or 16 GB, 7/8 of it under inline ECC. -/
def State.lpddrSize (s : State) : Nat :=
  let full := 0x80000000 * 2 ^ s.getF F.DTU_LPDDR_CFG_SIZE
  if s.flag F.DTU_LPDDR_CFG_IECC then full / 8 * 7 else full

/-- The region of a physical address (R29, R31, R450, R452). -/
def State.region (s : State) (a : Nat) : Region :=
  if a < 0x20000 then .rom
  else if 0x08000000 ≤ a ∧ a < 0x08020000 then .retained
  else if 0x08020000 ≤ a ∧ a < 0x08030000 then .retainedDevice
  else if 0x08030000 ≤ a ∧ a < 0x08040000 then .retained
  else if 0x10000000 ≤ a ∧ a < 0x12000000 then .fleet
  else if 0x12000000 ≤ a ∧ a < 0x13000000 then .aster
  else if 0x13000000 ≤ a ∧ a < 0x13800000 then .frameBuffer
  else if 0x13800000 ≤ a ∧ a < 0x13E00000 then .general
  else if 0x13E00000 ≤ a ∧ a < 0x14000000 then .l2
  else if 0x40000000 ≤ a ∧ a < 0x41000000 then .regs
  else if 0x41000000 ≤ a ∧ a < 0x41040000 then .mailbox
  else if 0x60000000 ≤ a ∧ a < 0x70000000 then .flash
  else if 0x800000000 ≤ a ∧ a < 0xC00000000 then
    if s.flag F.DTU_LPDDR_STAT_READY ∧ a - 0x800000000 < s.lpddrSize then .lpddr else .unmapped
  else if 0x1000000000 ≤ a ∧ a < 0x2000000000 then .pcie
  else .unmapped

/-- A device may read (or write) this region (R450, R461 cause 8). -/
def Region.deviceMay (r : Region) (write : Bool) : Bool :=
  match r with
  | .general | .retained | .lpddr | .pcie | .regs | .mailbox => true
  | .rom | .flash | .retainedDevice => !write
  | .fleet | .aster | .frameBuffer | .l2 | .unmapped => false

/-- A DMA channel may read (or write) this region (R450): the fleet store, the tiles' SRAM and the device's retained SRAM refuse
a write by a code of their page, not by a fault. -/
def Region.dmaMay (r : Region) (write : Bool) : Bool :=
  match r with
  | .general | .retained | .lpddr | .pcie | .regs | .mailbox | .fleet | .aster | .retainedDevice => true
  | .rom | .flash => !write
  | .frameBuffer | .l2 | .unmapped => false

/-- An access to LPDDR5 ends its self-refresh and starts its idle time anew (R506). -/
def State.lpddrTouch (s : State) (a : Nat) : State :=
  if s.region a == .lpddr then { s.setFlag F.DTU_LPDDR_STAT_SELF_REFRESH false with mem := { s.mem with lpddrLast := s.now } }
  else s

/-- The byte at a physical address outside the register pages; the boot ROM's contents are not given (log 7). -/
def State.physByte (s : State) (a : Nat) : Byte :=
  if a < 0x20000 then Config.romByte a
  else if 0x60000000 ≤ a ∧ a < 0x70000000 then s.flashByte (a - 0x60000000)
  else s.memByte a

def State.physBytes (s : State) (a : Nat) : Nat → List Byte
  | 0 => []
  | n + 1 => s.physByte a :: s.physBytes (a + 1) n

/-! ## Error correction (R453) -/

/-- The MEMORY code of DTU_ECC_LOG for an address. -/
def eccMemory (a : Nat) : Nat :=
  if a < 0x10000000 then 1 else if a < 0x800000000 then 0 else 2

/-- Log an uncorrectable word (R453, R472): 16 entries, overflow discarded. -/
def State.eccLog (s : State) (memory a : Nat) : State :=
  ((s.bump F.DTU_ECC_UE_COUNT).raise 0x008 4).pushFifo 0x0812C 16
    [BitVec.ofNat 32 (0x80000000 + memory * 0x10000000), BitVec.ofNat 32 a, BitVec.ofNat 32 (a / 2 ^ 32)] id

/-- The bad words that an access of `n` bytes at `a` meets. -/
def State.badWords (s : State) (a n : Nat) : List (Nat × EccError) :=
  s.mem.ecc.filter fun e => decide (e.1 < a + n) && decide (a < e.1 + 8)

/-- Read `n` bytes at `a` as far as error correction goes: correctable words are corrected and counted, uncorrectable ones
logged; answers whether one was met. `memory` overrides the log's MEMORY code (3, a page table). -/
def State.eccRead (s : State) (a n : Nat) (memory : Option Nat) : Bool × State :=
  (s.badWords a n).foldl (fun (bad, s) e =>
    match e.2 with
    | .none => (bad, s)
    | .correctable =>
      (bad, (({ s with mem := { s.mem with ecc := s.mem.ecc.filter (· != e) } }).bump F.DTU_ECC_CE_COUNT).raise 0x008 3)
    | .uncorrectable => (true, s.eccLog (memory.getD (eccMemory e.1)) e.1)) (false, s)

/-- Write bytes at a physical address (R453): a whole word replaces a bad word; a part of an uncorrectable word is
discarded and logged; a part of a correctable word corrects it. -/
def State.physWrite (s : State) (a : Nat) (bytes : List Byte) : State :=
  let n := bytes.length
  let whole (e : Nat × EccError) : Bool := decide (a ≤ e.1) && decide (e.1 + 8 ≤ a + n)
  let bad := s.badWords a n
  let lost := bad.filter fun e => e.2 == .uncorrectable && !whole e
  let s1 := { s with mem := { s.mem with ecc := s.mem.ecc.filter fun e => !(bad.elem e) || lost.elem e } }
  let s2 := (bad.filter fun e => e.2 == .correctable && !whole e).foldl
    (fun s _ => (s.bump F.DTU_ECC_CE_COUNT).raise 0x008 3) s1
  let s3 := lost.foldl (fun s e => s.eccLog (eccMemory e.1) e.1) s2
  let skip (x : Nat) : Bool := lost.any fun e => decide (e.1 ≤ x) && decide (x < e.1 + 8)
  if lost.isEmpty then s3.storeBytes a bytes
  else (bytes.zipIdx).foldl (fun s b => if skip (a + b.2) then s else s.setMemByte (a + b.2) b.1) s3

/-! ## Translation (R459 to R461) -/

/-- The access rights of a leaf PTE for an access: the fault cause, or none. -/
def leafCause (pte : Nat) (write : Bool) : Option Nat :=
  if write && !bitAt pte 2 then some 3
  else if !write && !bitAt pte 1 then some 2
  else if !bitAt pte 6 then some 4
  else if write && !bitAt pte 7 then some 5
  else none

/-- A PTE that is not valid (R459, R461 cause 1). -/
def pteInvalid (pte : Nat) : Bool :=
  !bitAt pte 0 || bitsOf pte 63 54 != 0 || (bitAt pte 2 && !bitAt pte 1)

/-- The physical address that a leaf PTE of a level gives (level 0 is 4 KiB). -/
def leafAddr (pte level va : Nat) : Nat :=
  let size := 0x1000 * 512 ^ level
  bitsOf pte 53 10 * 0x1000 / size * size + va % size

/-- A Sv48 walk from table `table` at level `level` (3 first): the cause, or the leaf PTE and its level. -/
def State.walk (s : State) (va : Nat) (write : Bool) (table : Nat) : Nat → (Nat ⊕ (Nat × Nat)) × State
  | 0 => (.inl 1, s)
  | level + 1 =>
    let at_ := table + 8 * (va / (0x1000 * 512 ^ level) % 512)
    let r := s.region at_
    if r == .regs || r == .mailbox || !r.deviceMay false then (.inl 8, s)
    else
      let (bad, s1) := s.eccRead at_ 8 (some 3)
      if bad then (.inl 7, s1)
      else
        let pte := leValue (s1.physBytes at_ 8)
        if pteInvalid pte then (.inl 1, s1)
        else if bitAt pte 1 || bitAt pte 3 then
          if 0 < level ∧ bitsOf pte 53 10 % 512 ^ level ≠ 0 then (.inl 1, s1)
          else
            match leafCause pte write with
            | some c => (.inl c, s1)
            | none => (.inr (pte, level), s1)
        else s1.walk va write (bitsOf pte 53 10 * 0x1000) level

/-- A virtual address whose bits [63:47] are all equal. -/
def canonical (va : Nat) : Bool := bitsOf va 63 47 == 0 || bitsOf va 63 47 == 0x1FFFF

/-- Keep a translation in the cache of 2,048 entries; which entry it replaces in a full cache is not given, but never one that is
locked (R467). -/
def State.dtuFill (s : State) (e : DtuEntry) : State :=
  if s.mem.dtuCache.length < 2048 then { s with mem := { s.mem with dtuCache := s.mem.dtuCache ++ [e] } }
  else
    let free := s.mem.dtuCache.filter fun x => !x.locked
    let (v, s1) := s.fresh free.length
    let kept := match free[v]? with
      | some x => s1.mem.dtuCache.erase x
      | none => s1.mem.dtuCache
    { s1 with mem := { s1.mem with dtuCache := kept ++ [e] } }

/-- The entry is of the page that holds an address of context `ctx`. -/
def DtuEntry.isFor (e : DtuEntry) (ctx va : Nat) : Bool := e.ctx == ctx && e.vpn == va % 2 ^ 48 / (0x1000 * 512 ^ e.level)

/-- An INVAL, of a context or of one of its pages, covers an entry (R460). -/
def invalCovers (i : Nat × Option Nat) (e : DtuEntry) : Bool :=
  match i.2 with
  | none => e.ctx == i.1
  | some va => e.isFor i.1 va

/-- An INVAL in progress covers an entry: a lock alone keeps it, for the commit that needs it (R460, R467). -/
def State.dtuStale (s : State) (e : DtuEntry) : Bool := s.mem.dtuInval.any fun i => invalCovers i e

/-- Translate an access through context `ctx` (8 is Bare): the cause of R461 or the physical address; `may` says which regions
the client may reach, `pinned` that it may use the translations locked for it. -/
def State.translate (s : State) (may : Region → Bool) (pinned : Bool) (ctx va : Nat) (write : Bool) : (Nat ⊕ Nat) × State :=
  let target (pa : Nat) (s : State) : (Nat ⊕ Nat) × State :=
    if may (s.region pa) then (.inr pa, s) else (.inl 8, s)
  if 8 ≤ ctx ∨ s.getF (F.DTU_CTRL_MODE ctx) = 0 then target (va % 2 ^ 64) s
  else
    let root := s.getF (F.DTU_ROOT_PPN ctx) * 0x1000
    if root = 0 then (.inl 9, s)
    else if !canonical va then (.inl 6, s)
    else
      let hit := s.mem.dtuCache.find? fun e =>
        e.isFor ctx va && (leafCause e.pte.toNat write).isNone && (pinned || !s.dtuStale e)
      match hit with
      | some e => target (leafAddr e.pte.toNat e.level (va % 2 ^ 48)) (s.bump (F.DTU_HITS_COUNT ctx))
      | none =>
        match (s.bump (F.DTU_MISSES_COUNT ctx)).walk (va % 2 ^ 48) write root 4 with
        | (.inl c, s1) => (.inl c, s1)
        | (.inr (pte, level), s1) =>
          match target (leafAddr pte level (va % 2 ^ 48)) s1 with
          | (.inl c, s2) => (.inl c, s2)
          | (.inr pa, s2) => (.inr pa, s2.dtuFill ⟨ctx, level, va % 2 ^ 48 / (0x1000 * 512 ^ level), BitVec.ofNat 64 pte, false⟩)

/-! ## Clients (R462, R463) -/

/-- The context of a client (R463): a DMA channel's own, else CLIENT_CTX of the client. -/
def State.clientCtx (s : State) (client index : Nat) : Nat :=
  if client = 0 then s.getF (F.DMA_CTRL_CTX (index / 2) (index % 2)) else s.getF ((F.DTU_CLIENT_CTX_CTX).win client)

/-- Log a translation fault (R462). -/
def State.dtuFault (s : State) (ctx client index va cause : Nat) (write : Bool) : State :=
  let s1 := if ctx < 8 then s.bump (F.DTU_FAULTS_COUNT ctx) else s
  let e := [BitVec.ofNat 32 (0x80000000 + bit write * 0x40000000 + cause * 0x4000000 + ctx % 8 * 0x800000 +
      client * 0x100 + index), BitVec.ofNat 32 s.tick10us, BitVec.ofNat 32 va, BitVec.ofNat 32 (va / 2 ^ 32)]
  (s1.raise 0x008 0).pushFifo 0x08110 32 e fun s => (s.bump F.DTU_FAULT_OVF_COUNT).raise 0x008 1

/-- Translate one access of a client; a fault is logged. -/
def State.clientAddr (s : State) (client index va : Nat) (write : Bool) : (Nat ⊕ Nat) × State :=
  let ctx := s.clientCtx client index
  match s.translate (fun r => if client = 0 then r.dmaMay write else r.deviceMay write) (client == 3) ctx va write with
  | (.inr pa, s1) => (.inr pa, s1.lpddrTouch pa)
  | (.inl c, s1) => (.inl c, s1.dtuFault ctx client index va c write)

/-- What a client's read gives: the bytes read before a fault, the fault's cause, an uncorrectable word. -/
structure ClientData where
  data  : List Byte
  fault : Option Nat
  bad   : Bool

/-- A client's read of `n` bytes at `va`, page by page; `pages` bounds the pages. -/
def State.clientReadPages (s : State) (client index : Nat) : Nat → Nat → Nat → ClientData × State
  | 0, _, _ => (⟨[], none, false⟩, s)
  | pages + 1, va, n =>
    if n = 0 then (⟨[], none, false⟩, s)
    else
      let k := min n (0x1000 - va % 0x1000)
      match s.clientAddr client index va false with
      | (.inl c, s1) => (⟨[], some c, false⟩, s1)
      | (.inr pa, s1) =>
        let (bad, s2) := s1.eccRead pa k none
        let d := s2.physBytes pa k
        let (r, s3) := s2.clientReadPages client index pages (va + k) (n - k)
        (⟨d ++ r.data, r.fault, bad || r.bad⟩, s3)

def State.clientRead (s : State) (client index va n : Nat) : ClientData × State :=
  s.clientReadPages client index (n / 0x1000 + 2) va n

/-- A client's write at `va`, page by page: the cause of a fault, or none. Bytes before the fault are written. -/
def State.clientWritePages (s : State) (client index : Nat) : Nat → Nat → List Byte → Option Nat × State
  | 0, _, _ => (none, s)
  | pages + 1, va, bytes =>
    if bytes.isEmpty then (none, s)
    else
      let k := 0x1000 - va % 0x1000
      match s.clientAddr client index va true with
      | (.inl c, s1) => (some c, s1)
      | (.inr pa, s1) => (s1.physWrite pa (bytes.take k)).clientWritePages client index pages (va + k) (bytes.drop k)

def State.clientWrite (s : State) (client index va : Nat) (bytes : List Byte) : Option Nat × State :=
  s.clientWritePages client index (bytes.length / 0x1000 + 2) va bytes

/-- Translate every page of a range for write without writing (the planner's probes, a set written whole or not at all):
the cause of the first fault, or none. -/
def State.clientProbe (s : State) (client index : Nat) : Nat → Nat → Nat → Option Nat × State
  | 0, _, _ => (none, s)
  | pages + 1, va, n =>
    if n = 0 then (none, s)
    else
      let k := min n (0x1000 - va % 0x1000)
      match s.clientAddr client index va true with
      | (.inl c, s1) => (some c, s1)
      | (.inr _, s1) => s1.clientProbe client index pages (va + k) (n - k)

/-- Lock the translations of a range that the planner has probed (R467): of each page the one that its commit will use. -/
def State.dtuLock (s : State) (client index : Nat) : Nat → Nat → State
  | 0, _ => s
  | pages + 1, va =>
    let used (e : DtuEntry) : Bool := e.isFor (s.clientCtx client index) va && (leafCause e.pte.toNat true).isNone
    let l := match s.mem.dtuCache.find? used with
      | some x => s.mem.dtuCache.map fun e => if e = x then { e with locked := true } else e
      | none => s.mem.dtuCache
    { s with mem := { s.mem with dtuCache := l } }.dtuLock client index pages (va + 0x1000)

/-- The commit has ended, or needs its translations no more: the locks end, and entries that an INVAL in progress covers go (R460,
R467). -/
def State.dtuUnlock (s : State) : State :=
  let kept := s.mem.dtuCache.filter fun e => !(e.locked && s.dtuStale e)
  { s with mem := { s.mem with dtuCache := kept.map fun e => { e with locked := false } } }

/-! ## Writes that are refused (R450 to R452) -/

/-- The page that owns a part of the fleet store (R451). -/
def fleetOwner (off : Nat) : Nat :=
  if off < 0x440000 then 0x080 else if off < 0x900000 then 0x081 else 0x091

/-- A write to the fleet store, a tile's SRAM or the device's retained SRAM is refused with code 0x07 in the page that owns the part
written; those to the machine and cell tables count in XTAB_PROT_ERR (R181, R450 to R452). -/
def State.storeRefused (s : State) (who : Initiator) (a : Nat) : State :=
  let off := a - 0x10000000
  let page := match s.region a with
    | .fleet => fleetOwner off
    | .aster => 0x061 + (a - 0x12000000) / 0x100000
    | _ => 0x000
  let s1 := s.err page 0x07 (some who) a
  if s.region a == .fleet && decide (0x440000 ≤ off) && decide (off < 0x844000) then s1.bump F.XTAB_PROT_ERR_COUNT else s1

/-- Mark a client paused (R462). -/
def State.dtuPause (s : State) (client index : Nat) : State :=
  { s with mem := { s.mem with dtuPaused := (client, index) :: s.mem.dtuPaused.filter (· != (client, index)) } }

def State.dtuUnpause (s : State) (client index : Nat) : State :=
  { s with mem := { s.mem with dtuPaused := s.mem.dtuPaused.filter (· != (client, index)) } }

def State.dtuIsPaused (s : State) (client index : Nat) : Bool := s.mem.dtuPaused.elem (client, index)

end Sys2Proof.Machine
end

