-- ==== Sys2Proof/Machine/GnssOps.lean ====
section
/-! DEFINITION. The satellite receiver (03_satellite_receiver.md R56 to R92): port faults, channels and their acquisition
queue, records, guards, sets and the receiver's start and sleep. -/

namespace Sys2Proof.Machine

/-- Write the low `n` digits of a value: a two's-complement field. -/
def field (w : Nat) (v : Int) : Nat := ofSigned w v

/-- Round a quotient to the nearest integer, halves upward (the worked example of R71 rounds). -/
def roundDiv (a b : Int) : Int := (2 * a + b) / (2 * b)

/-! ## Port faults (R60) -/

def State.portFault (s : State) (ant band : Nat) : Bool :=
  if band = 0 then s.flag (F.GNSS_FE_STAT_L1_FAULT ant) else s.flag (F.GNSS_FE_STAT_L5_FAULT ant)

def State.antOk (s : State) (ant : Nat) : Bool := !s.portFault ant 0 && !s.portFault ant 1

def State.antOkMask (s : State) : Nat := (List.range 4).foldl (fun a n => a + bit (s.antOk n) * 2 ^ n) 0

/-- The antenna holds a surveyed position (R93). -/
def State.surveyed (s : State) (ant : Nat) : Bool :=
  !(s.getF (F.GNSS_FE_POS_X_X ant) == 0 && s.getF (F.GNSS_FE_POS_Y_Y ant) == 0 && s.getF (F.GNSS_FE_POS_Z_Z ant) == 0)

/-! ## Samples (R56, R57) -/

/-- A band input is enabled (R93). -/
def State.bandOn (s : State) (ant band : Nat) : Bool :=
  if band = 0 then s.flag (F.GNSS_FE_CTRL_L1_EN ant) else s.flag (F.GNSS_FE_CTRL_L5_EN ant)

/-- The value of a 4-bit sample code: two's complement, or sign and magnitude. -/
def sampleValue (signMag : Bool) (code : Nat) : Int :=
  if signMag then (if bitAt code 3 then -((code % 8 : Nat) : Int) else (code % 8 : Nat)) else toSigned 4 (code % 16)

/-- The code stands at full scale: −8 or +7 of two's complement, magnitude 7 of sign and magnitude. -/
def sampleFull (signMag : Bool) (code : Nat) : Bool :=
  let v := sampleValue signMag code
  v == 7 || v == (if signMag then -7 else -8)

def State.iqSwap (s : State) (ant band : Nat) : Bool :=
  if band = 0 then s.flag (F.GNSS_FE_CTRL_L1_IQSWAP ant) else s.flag (F.GNSS_FE_CTRL_L5_IQSWAP ant)

def State.qInv (s : State) (ant band : Nat) : Bool :=
  if band = 0 then s.flag (F.GNSS_FE_CTRL_L1_QINV ant) else s.flag (F.GNSS_FE_CTRL_L5_QINV ant)

/-- The complex sample that a band takes from the codes of I and Q: exchanged, then Q negated, as its port is set. -/
def State.sampleOf (s : State) (ant band : Nat) (x : Nat × Nat) : Int × Int :=
  let v := sampleValue (s.flag (F.GNSS_FE_CTRL_SIGNMAG ant))
  let y := if s.iqSwap ant band then (v x.2, v x.1) else (v x.1, v x.2)
  (y.1, if s.qInv ant band then -y.2 else y.2)

/-- The signed IF offset of a band, Hz. -/
def State.ifHz (s : State) (ant band : Nat) : Int :=
  toSigned 32 (if band = 0 then s.getF (F.GNSS_FE_L1_IF_IF_HZ ant) else s.getF (F.GNSS_FE_L5_IF_IF_HZ ant))

/-- The frequency of a signal against its band's centre, 2^-8 Hz, from that in the samples on the pins: exchanging I and Q mirrors
the spectrum, negating Q mirrors it too, and the IF offset is removed. -/
def State.bandFreq (s : State) (ant band : Nat) (f : Int) : Int :=
  (if s.iqSwap ant band != s.qInv ant band then -f else f) - 256 * s.ifHz ant band

/-! ## Channels (R62, R64) -/

/-- The STATE code of GNSS_CH_STAT (R64, R94). -/
def ChState.code : ChState → Nat
  | .idle => 0
  | .acq => 1
  | .pullin => 2
  | .track => 3
  | .lost => 4
  | .held => 5

def State.chan (s : State) (ch : Nat) : Channel := Assoc.get (fun _ => {}) s.gnss.chans ch

def State.setChan (s : State) (ch : Nat) (c : Channel) : State :=
  { s with gnss := { s.gnss with chans := Assoc.put (fun _ => {}) s.gnss.chans ch c } }

def Channel.en (c : Channel) : Bool := bitAt c.cfg.toNat 31
def Channel.ant (c : Channel) : Nat := bitsOf c.cfg.toNat 21 20
def Channel.band (c : Channel) : Nat := bitsOf c.cfg.toNat 19 19
def Channel.sys (c : Channel) : Nat := bitsOf c.cfg.toNat 18 16
def Channel.svid (c : Channel) : Nat := bitsOf c.cfg.toNat 15 8
def Channel.aidPartner (c : Channel) : Bool := bitAt c.cfg.toNat 1
def Channel.sat (c : Channel) : Nat := c.sys * 256 + c.svid

/-- The channel's band, system and satellite. -/
def Channel.sameSignal (c d : Channel) : Bool := c.ant == d.ant && c.band == d.band && c.sat == d.sat

/-- The signal has a pilot component (R61): every one but L1 C/A. -/
def hasPilot (sys band : Nat) : Bool := band == 1 || sys == 1 || sys == 2

/-- A channel that changes in loop tick `tick` keeps how it stood before the tick (R69). -/
def Channel.snap (c : Channel) (tick : Nat) : Channel :=
  match c.was with
  | some (k, _) => if k = tick then c else { c with was := some (tick, c.cfg, c.now) }
  | none => { c with was := some (tick, c.cfg, c.now) }

/-- The channel's tracking changes in loop tick `tick`. -/
def Channel.track (c : Channel) (tick : Nat) (t : ChTrack) : Channel := { c.snap tick with now := t }

/-- The channel as it stands for a latch in loop tick `tick` (R69). -/
def Channel.atLatch (c : Channel) (tick : Nat) : Channel :=
  match c.was with
  | some (k, w, t) => if k = tick then { c with cfg := w, now := t } else c
  | none => c

/-- Insert a request at the back of the queue; requests of one loop tick are ordered by channel (R65). -/
def acqInsert (r : AcqRequest) : List AcqRequest → List AcqRequest
  | [] => [r]
  | h :: t => if h.tick = r.tick ∧ r.ch < h.ch ∧ t.all (fun x => x.tick == r.tick) then r :: h :: t else h :: acqInsert r t

/-- The partner band of the channel's satellite on its antenna is in TRACK (R66). -/
def State.partnerTracks (s : State) (c : Channel) : Bool :=
  s.gnss.chans.any fun e =>
    e.2.en && e.2.ant == c.ant && e.2.sat == c.sat && e.2.band != c.band && e.2.now.state == .track

/-- The navigation data of a satellite. -/
def State.navSat (s : State) (sat : Nat) : Option NavSat := s.gnss.nav.find? fun e => e.sat == sat

/-- The ephemeris of a satellite. -/
def State.ephOf (s : State) (sat : Nat) : Option Ephemeris := (s.navSat sat).bind fun e => e.eph

/-- An ephemeris is within its fit interval at a second of TAI. -/
def ephCurrent (e : Ephemeris) (sec : Nat) : Bool := decide (e.fitFrom ≤ sec) && decide (sec < e.fitTo)

/-- The satellite has an ephemeris within its fit interval, and is healthy by its navigation message. -/
def State.navOf (s : State) (sat : Nat) : Bool × Bool :=
  match s.ephOf sat with
  | some e => (ephCurrent e (s.taiMs / 1000), e.healthy)
  | none => (false, true)

/-- The channel's code phase and Doppler can be predicted (R66): from its partner band, or from valid time with an ephemeris within
its fit interval or an almanac. -/
def State.aids (s : State) (c : Channel) : Bool :=
  (c.aidPartner && s.partnerTracks c) ||
  (s.time.valid && ((s.navOf c.sat).1 || (((s.navSat c.sat).bind fun e => e.alm).isSome)))

/-- The coherent interval of a signal, ms: one primary code period (R61, R65). -/
def codePeriodMs (sys band : Nat) : Nat := if band = 1 then 1 else if sys = 1 then 4 else if sys = 2 then 10 else 1

/-- The code cells of a signal: half a chip apart, a quarter for BOC (R61, R65). -/
def codeCells (sys band : Nat) : Nat :=
  if band = 1 then 20460 else if sys = 1 then 16368 else if sys = 2 then 40920 else 2046

/-- The Doppler cells of an unaided search, 1/(2 × coherent interval) wide, over ±DOP_WIN (R65, R66). -/
def dopplerCells (win ms : Nat) : Nat := 2 * ((2 * win * ms + 999) / 1000) + 1

/-- The passes over the 16,384 correlators that a request takes: one when it is aided (R65, R66). -/
def State.acqPasses (s : State) (r : AcqRequest) : Nat :=
  let c := s.chan r.ch
  if r.aided then 1
  else (codeCells c.sys c.band * dopplerCells (s.getF F.GNSS_CH_ACQ_DOP_WIN) (codePeriodMs c.sys c.band) + 16383) / 16384

/-- The time of one pass, ns: NONCOH coherent intervals (R65). -/
def State.passNs (s : State) (r : AcqRequest) : Nat :=
  codePeriodMs (s.chan r.ch).sys (s.chan r.ch).band * s.getF F.GNSS_CH_ACQ_NONCOH * 1000000

/-- The search of the queue's head has run for `n` passes. -/
def State.searched (s : State) (r : AcqRequest) (n : Nat) : Bool := decide (s.gnss.acqFrom + n * s.passNs r ≤ s.now)

/-- The acquisition queue becomes `q`; the search of a new head begins now. -/
def State.setQueue (s : State) (q : List AcqRequest) : State :=
  { s with gnss := { s.gnss with queue := q, acqFrom := if q.head? = s.gnss.queue.head? then s.gnss.acqFrom else s.now } }

/-- Take a channel out of the acquisition queue. -/
def State.acqDrop (s : State) (ch : Nat) : State := s.setQueue (s.gnss.queue.filter fun r => r.ch != ch)

/-- Move a channel to a state, keeping the rest of its tracking. -/
def State.chanTo (s : State) (ch : Nat) (st : ChState) : State :=
  let c := s.chan ch
  let s1 := s.setChan ch (c.track s.taiMs { c.now with state := st })
  if c.now.state == .acq && st != .acq then s1.acqDrop ch else s1

/-- A channel loses its signal (R64): lock flags cleared, the reacquisition timer started. -/
def State.chanLost (s : State) (ch : Nat) : State :=
  let c := s.chan ch
  let t : ChTrack := { c.now with state := .lost, flags := c.now.flags % 64, lock := 0 }
  ((s.acqDrop ch).setChan ch { c.track s.taiMs t with reacq := s.getF F.GNSS_CH_REACQ_WINDOW_MS }).raise 0x054 0

/-- Queue an acquisition request and enter ACQ; under a port fault the channel is LOST instead (R60, R64). -/
def State.chanAcquire (s : State) (ch : Nat) (aided : Bool) : State :=
  let c := s.chan ch
  if s.portFault c.ant c.band then s.chanLost ch
  else
    let s1 := (s.acqDrop ch).setChan ch (c.track s.taiMs { c.now with state := .acq, flags := 0, lock := 0 })
    s1.setQueue (acqInsert ⟨s.taiMs, ch, aided⟩ s1.gnss.queue)

/-- Apply an operation to every channel that satisfies a test. -/
def State.forChans (s : State) (p : Channel → Bool) (f : State → Nat → State) : State :=
  (s.gnss.chans.filter fun e => p e.2).foldl (fun s e => f s e.1) s

/-- A valid identity (R61). -/
def validSignal (sys svid : Nat) : Bool :=
  match sys with
  | 0 => decide (1 ≤ svid) && decide (svid ≤ 32)
  | 1 => decide (1 ≤ svid) && decide (svid ≤ 36)
  | 2 => decide (19 ≤ svid) && decide (svid ≤ 63)
  | 3 => decide (193 ≤ svid) && decide (svid ≤ 202)
  | _ => false

/-- A port fault begins on a band input that is enabled (R60, R93). -/
def State.portFaultOn (s : State) (ant band cause : Nat) : State :=
  if s.portFault ant band || !s.bandOn ant band then s
  else
    let s1 := if band = 0 then (s.setFlag (F.GNSS_FE_STAT_L1_FAULT ant) true).setF (F.GNSS_FE_STAT_L1_CAUSE ant) cause
      else (s.setFlag (F.GNSS_FE_STAT_L5_FAULT ant) true).setF (F.GNSS_FE_STAT_L5_CAUSE ant) cause
    let s2 := if cause = 1 then
        (if band = 0 then s1.setFlag (F.GNSS_FE_STAT_L1_CLK_OK ant) false else s1.setFlag (F.GNSS_FE_STAT_L5_CLK_OK ant) false)
      else s1
    (s2.raise (0x050 + ant) band).forChans
      (fun c => c.ant == ant && c.band == band && c.now.state != .idle && c.now.state != .held && c.now.state != .lost)
      State.chanLost

/-- A port fault ends (R60). -/
def State.portFaultOff (s : State) (ant band : Nat) : State :=
  if !s.portFault ant band then s
  else if band = 0 then
    let s1 := if s.getF (F.GNSS_FE_STAT_L1_CAUSE ant) = 1 then s.setFlag (F.GNSS_FE_STAT_L1_CLK_OK ant) true else s
    ((s1.setFlag (F.GNSS_FE_STAT_L1_FAULT ant) false).setF (F.GNSS_FE_STAT_L1_CAUSE ant) 0).raise (0x050 + ant) 2
  else
    let s1 := if s.getF (F.GNSS_FE_STAT_L5_CAUSE ant) = 1 then s.setFlag (F.GNSS_FE_STAT_L5_CLK_OK ant) true else s
    ((s1.setFlag (F.GNSS_FE_STAT_L5_FAULT ant) false).setF (F.GNSS_FE_STAT_L5_CAUSE ant) 0).raise (0x050 + ant) 2

/-! ## Loop updates (R63, R64) -/

/-- TRACK_FLAGS of a signal (R61, R71): PILOT as the signal has a pilot, SEC_SYNC of a pilot signal alone. -/
def signalFlags (sys band flags : Nat) : Nat :=
  (flags &&& 0xE8) ||| (if hasPilot sys band then (flags &&& 0x10) ||| 0x04 else 0)

/-- What a channel's loops find: nothing without an observation, no signal on an input that is not enabled; the polarity of a
data-only signal alone can be unresolved (R71). -/
def Channel.observe (c : Channel) (on : Bool) (o : Option LoopObs) : ChTrack :=
  if !on then { c.now with cn0 := 0, flags := 0 }
  else match o with
    | some o => { c.now with cn0 := o.cn0 % 1024, flags := signalFlags c.sys c.band o.flags, half := o.half && !hasPilot c.sys c.band }
    | none => c.now

/-- One channel's loop update: what its loops find, the pull-in and loss counts, the lock time, the reacquisition timer
(frozen under a port fault). A carrier-lock indicator that fails for less than 20 ms clears CARRIER_LOCK and begins LOCKTIME anew, without
SLIP (DESIGN CHOICE, log 104). -/
def loopChannel (tick lossCn0 : Nat) (faulted on : Bool) (o : Option LoopObs) (c : Channel) : Channel :=
  let t := c.observe on o
  match c.now.state with
  | .pullin =>
    if bitAt t.flags 7 && bitAt t.flags 6 && decide (c.pullMs < 500) then
      { c.track tick { t with state := .track, lock := 0 } with lowMs := 0, failMs := 0, locked := true }
    else { c.track tick t with pullMs := c.pullMs + 1 }
  | .track =>
    { c.track tick { t with lock := if bitAt t.flags 6 then min (t.lock + 1) 4194303 else 0 } with
      lowMs := if t.cn0 < lossCn0 then c.lowMs + 1 else 0
      failMs := if bitAt t.flags 6 then 0 else c.failMs + 1 }
  | .lost => if faulted then c else { c with reacq := c.reacq - 1 }
  | .idle | .acq | .held => c

/-- Decoded data replaces what is held of a satellite. -/
def navPut (o : NavObs) (l : List NavSat) : List NavSat :=
  let old := l.find? fun e => e.sat == o.sat
  if validSignal (o.sat / 256) (o.sat % 256) then
    { sat := o.sat, eph := o.eph.or (old.bind fun e => e.eph), alm := o.alm.or (old.bind fun e => e.alm) } ::
      l.filter fun e => e.sat != o.sat
  else l

/-! ## Start data in retained SRAM (R90) -/

/-- The address of a section of the start data and the words it may hold (log 105): navigation data, time solution, surveyed
positions, channel assignments. -/
def retBase (k : Nat) : Nat := [0x08030000, 0x08038000, 0x08039000, 0x0803A000].getD k 0
def retLimit (k : Nat) : Nat := [8190, 1022, 1022, 6142].getD k 0

/-- Write a section: the count of its words, the words, a CRC-32 over both. -/
def State.retWrite (s : State) (k : Nat) (words : List Nat) : State :=
  let w := words.take (retLimit k)
  let body := w.length :: w
  s.physWrite (retBase k) (wordsBytes (body ++ [crc32 (wordsBytes body)]))

/-- The words of a section whose CRC holds. -/
def State.retRead (s : State) (k : Nat) : Option (List Nat) :=
  let n := s.memWord (retBase k)
  if retLimit k < n then none
  else
    let w := s.memWords (retBase k + 4) n
    if s.memWord (retBase k + 4 + 4 * n) = crc32 (wordsBytes (n :: w)) ∧
      !((s.badWords (retBase k) (8 + 4 * n)).any fun e => e.2 == .uncorrectable) then some w else none

def words64 (v : Int) : List Nat := [field 64 v % 2 ^ 32, field 64 v / 2 ^ 32]

def ephWords (e : Ephemeris) : List Nat :=
  words64 e.fitFrom ++ words64 e.fitTo ++ [bit e.healthy, field 32 e.group, e.words.length] ++ e.words

def NavSat.retWords (n : NavSat) : List Nat :=
  [n.sat, bit n.eph.isSome + 2 * bit n.alm.isSome] ++
  (match n.eph with
   | some e => ephWords e
   | none => []) ++
  (match n.alm with
   | some a => a.length :: a
   | none => [])

/-- The ephemeris that words begin with, and the words after it. -/
def parseEph : List Nat → Option (Ephemeris × List Nat)
  | f0 :: f1 :: t0 :: t1 :: h :: g :: n :: rest =>
    some ({ fitFrom := f1 * 2 ^ 32 + f0, fitTo := t1 * 2 ^ 32 + t0, healthy := h == 1, group := toSigned 32 g, words := rest.take n }, rest.drop n)
  | _ => none

/-- The navigation data that words spell, of at most `k` satellites. -/
def parseNav : Nat → List Nat → List NavSat
  | k + 1, sat :: kind :: rest =>
    let (eph, r1) := if bitAt kind 0 then (match parseEph rest with
      | some (e, r) => (some e, r)
      | none => (none, [])) else (none, rest)
    let (alm, r2) := if bitAt kind 1 then (match r1 with
      | n :: r => (some (r.take n), r.drop n)
      | [] => (none, [])) else (none, r1)
    ⟨sat, eph, alm⟩ :: parseNav k r2
  | _, _ => []

/-- The navigation section, kept as data is decoded. -/
def State.retNav (s : State) : State := s.retWrite 0 (s.gnss.nav.length :: s.gnss.nav.flatMap NavSat.retWords)

/-- The section of the last time solution (offset, frequency) and the frequency correction. -/
def State.retTime (s : State) : State :=
  s.retWrite 1 (match s.gnss.lastSoln with
    | some x => 1 :: words64 x.1 ++ words64 x.2 ++ words64 s.time.f
    | none => [0])

/-- The time solution that a section spells. -/
def parseSoln : List Nat → Option (Int × Int)
  | 1 :: a :: b :: c :: d :: _ => some (toSigned 64 (b * 2 ^ 32 + a), toSigned 64 (d * 2 ^ 32 + c))
  | _ => none

/-- The section of the surveyed positions. -/
def State.retPos (s : State) : State :=
  s.retWrite 2 ((List.range 4).flatMap fun a =>
    [F.GNSS_FE_POS_X_X a, F.GNSS_FE_POS_Y_Y a, F.GNSS_FE_POS_Z_Z a].flatMap fun f => [s.getF f % 2 ^ 32, s.getF f / 2 ^ 32])

/-- The section of the channel assignments. -/
def State.retChans (s : State) : State := s.retWrite 3 (s.gnss.chans.flatMap fun e => [e.1, e.2.cfg.toNat])

/-! ## Records and guards (R71, R75, R77 to R85) -/

/-- The speed of light in 2^-10 m per picosecond, as a fraction: c × 1024 / 10^12. -/
def delayUnits (ps : Int) : Int := roundDiv (ps * 299792458 * 1024) 1000000000000

/-- The cable delay of a port and band, ps (R75). -/
def State.cableDelay (s : State) (ant band : Nat) : Int :=
  toSigned 32 (if band = 0 then s.getF (F.GNSS_FE_L1_DELAY_DELAY_PS ant) else s.getF (F.GNSS_FE_L5_DELAY_DELAY_PS ant))

def State.allDelays (s : State) : List Nat :=
  (List.range 4).flatMap fun a => [s.getF (F.GNSS_FE_L1_DELAY_DELAY_PS a), s.getF (F.GNSS_FE_L5_DELAY_DELAY_PS a)]

def MeasRec.sat (r : MeasRec) : Nat := r.sys * 256 + r.svid

/-- What a channel measured, as the command gives it. -/
def measOf (meas : List ChanMeas) (ch : Nat) : ChanMeas :=
  (meas.find? fun m => m.ch == ch).getD ⟨ch, 0, 0, 0, 0, 0⟩

/-- The carrier of a band, Hz (R56). -/
def carrierHz (band : Nat) : Int := if band = 0 then 1575420000 else 1176450000

/-- The whole cycles that bring a carrier phase (2^-16 cycles) nearest to a pseudorange (2^-10 m; R125). -/
def alignCycles (band : Nat) (range phase : Int) : Int :=
  roundDiv (range * carrierHz band * 65536 - phase * 1024 * 299792458) (1024 * 299792458 * 65536)

/-- The record of a measuring channel as it stands for the latch, before the guards; one that carries SLIP has LOCKTIME 0 (R87). -/
def State.formRec (s : State) (meas : List ChanMeas) (ch : Nat) (c : Channel) : MeasRec :=
  let t := c.now
  let m := measOf meas ch
  let ranged := bitAt t.flags 3
  let range : Int := (m.range : Int) - delayUnits (s.cableDelay c.ant c.band)
  { ch := ch, ant := c.ant, band := c.band, sys := c.sys, svid := c.svid, flags := t.flags, cn0 := t.cn0,
    lock := if c.slip then 0 else t.lock, range := if ranged then field 64 range else 0, lli := c.lli,
    align := match if c.slip then none else c.align with
      | some n => n
      | none => if ranged then alignCycles c.band range m.phase else 0
    phase := m.phase, doppler := s.bandFreq c.ant c.band m.carrier, half := t.half, slip := c.slip, cause := 0, elev := m.elev, az := m.az,
    noPartner := false, base := false }

/-- The other band of a record's satellite on its antenna produced no record (R71). -/
def markPartners (l : List MeasRec) : List MeasRec :=
  l.map fun r => { r with noPartner := !(l.any fun x => x.ant == r.ant && x.sat == r.sat && x.band != r.band) }

/-- Give a record a cause unless it has one (R77: the first that applies). -/
def MeasRec.fail (r : MeasRec) (cause : Nat) : MeasRec := if r.cause = 0 then { r with cause := cause } else r

/-- Step 1 of R77: conditions that do not depend on other measurements. -/
def State.guardOwn (s : State) (r : MeasRec) : MeasRec :=
  let nav := s.navOf r.sat
  let listed := s.flag F.GNSS_GUARD_CTRL_LIST_EN &&
    bitAt (s.reg (0x56100 + r.sys * 0x20 + r.svid / 32 * 4)).toNat (r.svid % 32)
  if !nav.1 then r.fail 0x0A
  else if listed then r.fail 0x09
  else if !nav.2 then r.fail 0x08
  else if r.elev < (s.getF F.GNSS_GUARD_MASK_ELEV : Int) then r.fail 0x07
  else if r.cn0 < s.getF F.GNSS_GUARD_MASK_CN0 then r.fail 0x06
  else r

/-- A carrier phase of 2^-16 cycles in micrometres on a band. -/
def phaseUm (band : Nat) (phase : Int) : Int :=
  roundDiv (phase * 299792458 * 1000000) (carrierHz band * 65536)

/-- The speed of light, 0.1 mm/s. -/
def lightSpeed : Int := 2997924580000

/-- The product of two vectors. -/
def dotProd (a b : List Int) : Int := (List.zipWith (· * ·) a b).foldl (· + ·) 0

def vecSub (a b : List Int) : List Int := List.zipWith (· - ·) a b

/-- The length of a vector. -/
def vecLen (a : List Int) : Nat := isqrt (dotProd a a).toNat

/-- An antenna's surveyed ECEF coordinates, 0.1 mm (R93). -/
def State.antXyz (s : State) (ant : Nat) : List Int :=
  [toSigned 64 (s.getF (F.GNSS_FE_POS_X_X ant)), toSigned 64 (s.getF (F.GNSS_FE_POS_Y_Y ant)), toSigned 64 (s.getF (F.GNSS_FE_POS_Z_Z ant))]

/-- A satellite's coordinates and velocity at an instant, by its ephemeris. -/
def ephXyz (e : Ephemeris) (instant : Nat) : List Int := (List.range 3).map (Config.satPos e.words instant)
def ephVel (e : Ephemeris) (instant : Nat) : List Int := (List.range 3).map (Config.satVel e.words instant)

/-- The pseudorange that the clock guard predicts (R80), 2^-10 m: the distance of antenna and satellite, its clock, the
troposphere. -/
def State.predRange (s : State) (instant ant : Nat) (e : Ephemeris) : Int :=
  let p := s.antXyz ant
  let q := ephXyz e instant
  roundDiv (vecLen (vecSub q p) * 1024) 10000 - Config.satClock e.words instant + Config.troposphere p q

/-- The Doppler that the clock guard predicts (R81), 2^-8 Hz: the satellite's motion along the line of sight, positive when it
approaches, and the time base's frequency correction (0.001 ppb) on the carrier (DEDUCED, log 103). -/
def State.predDop (s : State) (instant ant band : Nat) (e : Ephemeris) : Int :=
  let los := vecSub (ephXyz e instant) (s.antXyz ant)
  roundDiv (-(dotProd los (ephVel e instant)) * carrierHz band * 256) (vecLen los * lightSpeed) +
    roundDiv (carrierHz band * 256 * s.time.f) 1000000000000

/-- The phase that the surveyed baseline from antenna `a` to `b` gives a satellite's single difference (R79), 2^-16 cycles: the
baseline along the satellite's direction shortens the path. -/
def State.basePhase (s : State) (instant a b band : Nat) (e : Ephemeris) : Int :=
  let dir := vecSub (ephXyz e instant) (s.antXyz a)
  roundDiv (-(dotProd (vecSub (s.antXyz b) (s.antXyz a)) dir) * carrierHz band * 65536) (vecLen dir * lightSpeed)

/-- The inter-band guard (R78) for the pair of one satellite on one antenna: C − Φ and the ionospheric delay, µm. -/
def State.interBand (s : State) (meas : List ChanMeas) (l1 l5 : MeasRec) : Int × Int :=
  let m1 := measOf meas l1.ch
  let m5 := measOf meas l5.ch
  let c := roundDiv (((m5.range : Int) - m1.range) * 1000000) 1024
  let phi := phaseUm 0 l1.phase - phaseUm 1 l5.phase
  let cable := roundDiv ((s.cableDelay l1.ant 1 - s.cableDelay l1.ant 0) * 299792458) 1000000
  let group := ((s.ephOf l1.sat).map fun e => e.group).getD 0
  (c - phi, roundDiv ((c - cable - group) * 100000) 79327)

/-- The mean of a list. -/
def meanOf (l : List Int) : Int := roundDiv (l.foldl (· + ·) 0) l.length

/-- What the running mean of a pair holds at a latch (R78, R87): the entries of the last 300 s (device time, ms), none where either
record slipped or lost its lock since the last entry. -/
def meanHeld (nowMs : Nat) (l1 l5 : MeasRec) (old : List (Nat × Int)) : List (Nat × Int) :=
  let last := (old.getLast?.map fun e => e.1).getD nowMs
  let kept (r : MeasRec) : Bool := bitAt r.flags 6 && !r.slip && decide (nowMs ≤ last + r.lock + 1)
  if kept l1 && kept l5 then old.filter fun e => decide (nowMs ≤ e.1 + 300000) else []

/-- The inter-band guard over one pair of records. -/
def State.guardPair (s : State) (meas : List ChanMeas) (nowMs : Nat) (r1 r5 : MeasRec) (l : List MeasRec) : List MeasRec × State :=
  let key := r1.ch * 1024 + r5.ch
  let v := s.interBand meas r1 r5
  let mean := meanHeld nowMs r1 r5 (Assoc.get (fun _ => []) s.gnss.ibMean key)
  let apart := decide (10 ≤ mean.length) &&
    decide ((s.getF F.GNSS_GUARD_IB_THR_IB_MM * 1000 : Nat) < (v.1 - meanOf (mean.map (·.2))).natAbs)
  let iono := decide (v.2 < -((s.getF F.GNSS_GUARD_IB_THR_IONO_NEG_MM * 1000 : Nat) : Int)) || decide (100000000 < v.2)
  let mean2 := if bitAt r1.flags 6 && bitAt r5.flags 6 then mean ++ [(nowMs, v.1)] else []
  let mark (x : MeasRec) : MeasRec :=
    if x.ch = r1.ch ∨ x.ch = r5.ch then (if apart then x.fail 0x01 else if iono then x.fail 0x02 else x) else x
  (l.map mark, { s with gnss := { s.gnss with ibMean := Assoc.put (fun _ => []) s.gnss.ibMean key mean2 } })

/-- The inter-band guard over the pairs of a set: records with their causes, and the running means. Where several channels track one
signal, every L1 record pairs with every L5 record, each pair with its own mean (DESIGN CHOICE, log 104). -/
def State.guardInterBand (s : State) (meas : List ChanMeas) (nowMs : Nat) (recs : List MeasRec) : List MeasRec × State :=
  if !s.flag F.GNSS_GUARD_CTRL_IB_EN then (recs, s)
  else
    let pairs := (recs.filter fun r => r.band == 0).flatMap fun r1 =>
      (recs.filter fun x => x.band == 1 && x.ant == r1.ant && x.sat == r1.sat).map fun r5 => (r1, r5)
    pairs.foldl (fun (l, s) p => s.guardPair meas nowMs p.1 p.2 l) (recs, s)

/-- Two antennas qualify as a pair of the cross-antenna guard (R79): neither has a port fault, both are surveyed, 0.5 m to 200 m
apart. -/
def State.doaPaired (s : State) (a b : Nat) : Bool :=
  let d := vecSub (s.antXyz a) (s.antXyz b)
  a != b && s.antOk a && s.surveyed a && s.antOk b && s.surveyed b &&
    decide (5000 * 5000 ≤ dotProd d d) && decide (dotProd d d ≤ 2000000 * 2000000)

/-- The antennas that qualify for the cross-antenna guard: those that pair with another. -/
def State.doaAnts (s : State) : List Nat := (List.range 4).filter fun a => (List.range 4).any fun b => s.doaPaired a b

/-- Insert by descending elevation, then ascending satellite. -/
def elevInsert (e : Int × Nat) : List (Int × Nat) → List (Int × Nat)
  | [] => [e]
  | h :: t => if h.1 < e.1 ∨ (h.1 = e.1 ∧ e.2 < h.2) then e :: h :: t else h :: elevInsert e t

/-- The candidates for the reference satellite, by elevation (R79). -/
def refCandidates (ants : List Nat) (recs : List MeasRec) : List (Int × Nat) :=
  let sats := (recs.map fun r => r.sat).eraseDups
  let ok (x : Nat) : Bool := ants.all fun a =>
    (recs.any fun r => r.ant == a && r.sat == x) && (recs.all fun r => !(r.ant == a && r.sat == x) || r.cause == 0)
  (sats.filter ok).foldl (fun l x =>
    elevInsert (((recs.find? fun r => r.sat == x).map fun r => r.elev).getD 0, x) l) []

/-- The reference after the one that failed at the last latch, else the highest. -/
def chooseRef (skip : Option Nat) (l : List (Int × Nat)) : Option Nat :=
  let first := l.head?.map fun e => e.2
  match skip with
  | none => first
  | some x =>
    match (l.dropWhile fun e => e.2 != x).drop 1 with
    | e :: _ => some e.2
    | [] => (l.filter fun e => e.2 != x).head?.map fun e => e.2

/-- The double difference of one pair less its prediction, 2^-16 cycles (R79): antenna `b` against the base antenna, a satellite
against the reference; none without the four records and both ephemerides. -/
def State.doubleDiff (s : State) (instant : Nat) (recs : List MeasRec) (base b ref sat band : Nat) : Option (Int × MeasRec × MeasRec) :=
  let at_ (a x : Nat) := recs.find? fun r => r.ant == a && r.sat == x && r.band == band
  match at_ b sat, at_ base sat, at_ b ref, at_ base ref, s.ephOf sat, s.ephOf ref with
  | some p, some q, some u, some v, some e, some f =>
    some ((p.phase - q.phase - s.basePhase instant base b band e) - (u.phase - v.phase - s.basePhase instant base b band f), p, q)
  | _, _, _, _, _, _ => none

/-- The outcome of one pair (R79): not checked, passed or failed, with the integer fixed. -/
def State.doaPair (s : State) (tick instant : Nat) (recs : List MeasRec) (base b ref sat band : Nat) : Option Bool × State :=
  match s.doubleDiff instant recs base b ref sat band with
  | none => (none, s)
  | some (dd, p, q) =>
    let ready := [p, q].all fun r => ((s.chan r.ch).atLatch tick).now.state == .track && !r.half
    let known := s.gnss.doaInts.find? fun d =>
      d.ant == b && d.base == base && d.sat == sat && d.ref == ref && d.band == band
    let thr := s.getF F.GNSS_GUARD_DOA_THR_THR
    let test (n : Int) : Bool := decide (thr * 65536 < (dd - n * 65536).natAbs * 256)
    match known with
    | some d => (some (test d.n), s)
    | none =>
      if ready then
        let n := roundDiv dd 65536
        (some (test n), { s with gnss := { s.gnss with doaInts := ⟨b, base, sat, ref, band, n⟩ :: s.gnss.doaInts } })
      else (none, s)

/-- The pairs of one satellite and band: how many were checked, how many failed. -/
def State.doaCell (s : State) (tick instant base : Nat) (partners : List Nat) (recs : List MeasRec) (ref sat band : Nat) :
    (Nat × Nat) × State :=
  partners.foldl (fun (n, s) b =>
    match s.doaPair tick instant recs base b ref sat band with
    | (some bad, s') => ((n.1 + 1, n.2 + bit bad), s')
    | (none, s') => (n, s')) ((0, 0), s)

/-- The cross-antenna guard over one set (R79, R84, R89): records, and the satellites checked and failing. The reference fails against the
others where at least half of the cells of satellite and band checked fail (DESIGN CHOICE, log 104). -/
def State.guardDoa (s : State) (tick instant base : Nat) (recs : List MeasRec) : List MeasRec × Nat × Nat × State :=
  let ants := s.doaAnts
  let active := s.flag F.GNSS_GUARD_CTRL_DOA_EN && !ants.isEmpty
  let s0 := if active == s.flag F.GNSS_GUARD_STAT_DOA_ACTIVE then s
    else (s.setFlag F.GNSS_GUARD_STAT_DOA_ACTIVE active).raise 0x056 4
  if !active then (recs, 0, 0, s0)
  else
    match chooseRef s0.gnss.doaSkip (refCandidates ants recs) with
    | none => (recs, 0, 0, { s0 with gnss := { s0.gnss with doaSkip := none } })
    | some ref =>
      let partners := ants.filter fun b => s.doaPaired base b
      let sats := (recs.map fun r => r.sat).eraseDups.filter fun x => x != ref
      let cells := sats.flatMap fun x => [(x, 0), (x, 1)]
      let (res, s1) := cells.foldl (fun (acc, s) (cell : Nat × Nat) =>
        let (n, s2) := s.doaCell tick instant base partners recs ref cell.1 cell.2
        (acc ++ [(cell, n.1, n.2)], s2)) (([] : List ((Nat × Nat) × Nat × Nat)), s0)
      let tested := res.filter fun e => decide (0 < e.2.1)
      let failing := tested.filter fun e => decide (e.2.1 ≤ 2 * e.2.2)
      let failSats := (failing.map fun e => e.1.1).eraseDups
      let skip := if decide (0 < tested.length) && decide (tested.length ≤ 2 * failing.length) then some ref else none
      (recs.map fun r => if failing.any fun e => e.1 == (r.sat, r.band) then r.fail 0x03 else r,
        (tested.map fun e => e.1.1).eraseDups.length, failSats.length,
        { s1 with gnss := { s1.gnss with doaSkip := skip } })

/-- Insertion into an ascending list. -/
def intInsert (v : Int) : List Int → List Int
  | [] => [v]
  | h :: t => if v ≤ h then v :: h :: t else h :: intInsert v t

/-- The median of a list; of an even count, the mean of the middle two (log 20). -/
def medianOf (l : List Int) : Int :=
  let x := l.foldl (fun a v => intInsert v a) []
  let n := x.length
  if n % 2 = 1 then x.getD (n / 2) 0 else (x.getD (n / 2 - 1) 0 + x.getD (n / 2) 0) / 2

/-- The residual of a record's pseudorange (R80): with TOW_DECODED, from an antenna that is surveyed, with an ephemeris. -/
def State.rangeResidual (s : State) (instant : Nat) (r : MeasRec) : Option Int :=
  if bitAt r.flags 3 && s.surveyed r.ant then (s.ephOf r.sat).map fun e => toSigned 64 r.range - s.predRange instant r.ant e
  else none

/-- A record fails the range part (R80): its residual less the median `med` is beyond RNG_M. -/
def State.rangeFails (s : State) (instant : Nat) (med : Int) (r : MeasRec) : Bool :=
  match s.rangeResidual instant r with
  | some v => decide (s.getF F.GNSS_GUARD_CLK_THR_RNG_M * 1024 < (v - med).natAbs)
  | none => false

/-- A record fails the Doppler part (R81): its Doppler is off the prediction by more than DOP. -/
def State.dopplerFails (s : State) (instant : Nat) (r : MeasRec) : Bool :=
  match s.ephOf r.sat with
  | some e => s.surveyed r.ant &&
    decide (s.getF F.GNSS_GUARD_CLK_THR_DOP * 256 < (r.doppler - s.predDop instant r.ant r.band e).natAbs * 10)
  | none => false

/-- The clock guard (R80, R81); records of an antenna that is not surveyed have no prediction and pass (log 103). -/
def State.guardClock (s : State) (instant : Nat) (recs : List MeasRec) : List MeasRec :=
  if !s.flag F.GNSS_GUARD_CTRL_CLK_EN then recs
  else
    let med := medianOf (recs.filterMap (s.rangeResidual instant))
    recs.map fun r =>
      if s.rangeFails instant med r then r.fail 0x04 else if s.dopplerFails instant r then r.fail 0x05 else r

/-- Log a transition of a signal's exclusion state (R82, R85). GUARD_CNTk counts transitions into cause k, not the latches that
follow with the same cause (DESIGN CHOICE, log 104). -/
def State.exclLog (s : State) (r : MeasRec) (cause : Nat) : State :=
  let e := 0x80000000 + bit (cause == 0) * 0x40000000 + cause * 0x1000000 + r.svid * 0x10000 + r.sys * 0x2000 +
    r.band * 0x1000 + r.ant * 0x400 + r.ch
  let s1 := if 1 ≤ cause ∧ cause ≤ 11 then s.bump (F.GNSS_GUARD_CNT_COUNT cause) else s
  (s1.raise 0x056 0).pushFifo 0x56060 64 [BitVec.ofNat 32 e] fun s => (s.bump F.GNSS_GUARD_EXCL_OVF_COUNT).raise 0x056 3

/-- Readmission and reporting of one record (R85): its final cause. A channel given another signal in the latch's tick keeps nothing of
the one it had (R69). -/
def State.readmit (s : State) (r : MeasRec) : MeasRec × State :=
  let c := s.chan r.ch
  let fails := decide (1 ≤ r.cause) && decide (r.cause ≤ 5)
  let clean := if r.cause = 0 then c.clean + 1 else 0
  let held := (fails || c.held) && !(r.cause == 0 && decide (s.getF F.GNSS_GUARD_READMIT_LATCHES ≤ clean))
  let cause := if r.cause = 0 ∧ held then 0x0B else r.cause
  let s1 := if cause = c.cause then s else s.exclLog r cause
  let same := c.ant == r.ant && c.band == r.band && c.sat == r.sat
  ({ r with cause := cause },
    if same then s1.setChan r.ch { s1.chan r.ch with cause := cause, held := held, clean := if held then clean else 0 } else s1)

/-- Every record of a set in turn. -/
def State.readmitAll (s : State) : List MeasRec → List MeasRec × State
  | [] => ([], s)
  | r :: rs =>
    let (r1, s1) := s.readmit r
    let (rs1, s2) := s1.readmitAll rs
    (r1 :: rs1, s2)

/-! ## The base antenna (R88) and the base set (R86) -/

/-- The antenna at place `i` of GNSS_MEAS_BASE_ORDER. -/
def State.orderAnt (s : State) (i : Nat) : Nat :=
  let v := s.getF F.GNSS_MEAS_BASE_ORDER_ORDER
  bitsOf v (2 * i + 1) (2 * i)

/-- The base antenna for an epoch latch (R88), and whether one qualifies: where the choice finds none, it stays and BASE_VALID is
0. -/
def State.chooseBase (s : State) : Nat × Bool :=
  let cur := s.getF F.GNSS_MEAS_BASE_BASE_ANT
  if s.antOk cur && !s.gnss.reorder then (cur, true)
  else match ((List.range 4).map s.orderAnt).find? fun a => s.antOk a && s.surveyed a with
    | some a => (a, true)
    | none => (cur, false)

/-- Satellites with both bands among base records (R86). -/
def nsatBase (recs : List MeasRec) : Nat :=
  let b := recs.filter fun r => r.base
  ((b.map fun r => r.sat).eraseDups.filter fun x =>
    (b.any fun r => r.sat == x && r.band == 0 && !r.noPartner) && (b.any fun r => r.sat == x && r.band == 1 && !r.noPartner)).length

/-! ## Words of a set (R71) -/

def MeasRec.words (r : MeasRec) : List Nat :=
  [r.ch * 2 ^ 22 + r.ant * 2 ^ 20 + r.band * 2 ^ 19 + r.sys * 2 ^ 16 + r.svid * 2 ^ 8 + r.flags,
   r.cn0 % 1024 * 2 ^ 22 + r.lock % 2 ^ 22, r.range % 2 ^ 32, r.range / 2 ^ 32 % 2 ^ 32,
   field 64 r.phase % 2 ^ 32, field 64 r.phase / 2 ^ 32, field 32 r.doppler,
   bit r.half * 2 ^ 31 + bit r.slip * 2 ^ 30 + bit (r.cause != 0) * 2 ^ 29 + r.cause * 2 ^ 24 + field 8 r.elev * 2 ^ 16 +
     r.az % 512 * 2 ^ 7 + bit r.noPartner * 2 ^ 6 + bit r.base * 2 ^ 5]

def MeasSet.headWords (m : MeasSet) : List Nat :=
  [0xA7 * 2 ^ 24 + m.quality * 2 ^ 16 + m.recs.length, m.seq % 2 ^ 32, m.instant / 1000000000 % 2 ^ 32,
   m.instant / 1000000000 / 2 ^ 32 % 2 ^ 16, m.instant % 1000000000,
   m.nsat * 2 ^ 16 + m.antOk * 2 ^ 12 + m.ant * 2 ^ 8 + m.flags,
   match m.soln with
   | some x => field 32 x.1
   | none => 0x80000000]

/-- A set's header and records, 32 bytes each. -/
def MeasSet.entries (m : MeasSet) : List (List Byte) :=
  let recs := m.recs.map fun r => wordsBytes r.words
  let crc := crc32 (wordsBytes m.headWords ++ recs.flatten)
  wordsBytes (m.headWords ++ [crc]) :: recs

/-! ## The ring (R72, R74) -/

/-- Write entries into the ring from an index, wrapping; the pages are probed before anything is written. -/
def State.ringWrite (s : State) (base size : Nat) (at_ : Nat) (entries : List (List Byte)) : Option Nat × State :=
  let first := entries.take (size - at_)
  let rest := entries.drop (size - at_)
  match s.clientProbe 5 0 (first.length / 128 + 2) (base + 32 * at_) (32 * first.length) with
  | (some c, s1) => (some c, s1)
  | (none, s1) =>
    match s1.clientProbe 5 0 (rest.length / 128 + 2) base (32 * rest.length) with
    | (some c, s2) => (some c, s2)
    | (none, s2) =>
      match s2.clientWrite 5 0 (base + 32 * at_) first.flatten with
      | (some c, s3) => (some c, s3)
      | (none, s3) => s3.clientWrite 5 0 base rest.flatten

/-- Write a set to the ring and post its notice, or drop it (R72, R74). -/
def State.ringSet (s : State) (m : MeasSet) : State :=
  if !s.flag F.GNSS_MEAS_CTRL_RING_EN then s
  else
    let size := s.getF F.GNSS_MEAS_RING_SIZE_SIZE
    let w := s.getF F.GNSS_MEAS_WPTR_INDEX % size
    let r := s.getF F.GNSS_MEAS_RPTR_INDEX
    let free := (((r : Int) - s.getF F.GNSS_MEAS_WPTR_INDEX - 1) % size).toNat
    let es := m.entries
    let dropped (s : State) : State :=
      ((s.bump F.GNSS_MEAS_DROP_COUNT).raise 0x055 1).setFlag F.GNSS_MEAS_STAT_RING_FULL true
    if free < es.length then dropped s
    else
      match s.ringWrite (s.getF F.GNSS_MEAS_RING_BASE_BASE * 32) size w es with
      | (some _, s1) => dropped s1
      | (none, s1) =>
        let s2 := ((s1.setF F.GNSS_MEAS_WPTR_INDEX ((w + es.length) % size)).raise 0x055 0).setFlag
          F.GNSS_MEAS_STAT_RING_FULL false
        if s2.flag F.GNSS_MEAS_NOTIFY_EN then
          s2.post (s2.getF F.GNSS_MEAS_NOTIFY_QUEUE) .receiver (m.seq % 2 ^ 32 + w * 2 ^ 32) (some ⟨F.GNSS_MEAS_NOTIFY_LOST_COUNT, some (0x055, 4), none⟩)
        else s2

/-! ## Start and sleep (R91, R92) -/

/-- Every section of the start data holds its CRC (R92). -/
def State.retainedOk (s : State) : Bool := (List.range 4).all fun k => (s.retRead k).isSome

/-- The start type (R92): 1 hot, 2 warm, 3 cold; the receiver already holds the navigation data it starts with. -/
def State.startType (s : State) : Nat :=
  if !s.retainedOk then 3
  else if s.time.valid ∧ s.getF F.GNSS_GUARD_MIN_SAT_COUNT ≤ (s.gnss.nav.filter fun e => (s.navOf e.sat).1).length then 1
  else 2

/-- Take what the start data holds: a section that fails its CRC is discarded alone (R92). -/
def State.retLoad (s : State) : State :=
  { s with gnss := { s.gnss with
      nav := (match s.retRead 0 with
        | some (n :: w) => parseNav n w
        | _ => [])
      lastSoln := (s.retRead 1).bind parseSoln } }

/-- Enter START: check the retained sections and choose the start type. -/
def State.rxStart (s : State) : State :=
  let s0 := s.retLoad
  let s1 := ((s0.setF F.GNSS_RX_STATE_START_TYPE s0.startType).setFlag F.GNSS_RX_STATE_RETAINED_OK s.retainedOk).setF
    F.GNSS_RX_STATE_RX_STATE 1
  { s1 with gnss := { s1.gnss with startAt := s.now } }

/-- The receiver is in SLEEP_ENTRY or SLEEP. -/
def State.rxAsleep (s : State) : Bool :=
  s.getF F.GNSS_RX_STATE_RX_STATE == 3 || s.getF F.GNSS_RX_STATE_RX_STATE == 4

/-- Enter SLEEP_ENTRY: every channel but the idle ones is HELD (R64, R91). -/
def State.rxSleep (s : State) : State :=
  (s.setF F.GNSS_RX_STATE_RX_STATE 3).forChans (fun c => c.now.state != .idle && c.now.state != .held)
    fun s ch => s.chanTo ch .held

/-- The flush into retained SRAM is complete (R90, R91); a set that was not complete is not produced. -/
def State.rxFlush (s : State) : State :=
  let s1 := (s.retNav.retTime.retPos.retChans.setF F.GNSS_RX_STATE_RX_STATE 4)
  { (s1.setFlag F.GNSS_RX_STATE_RETAINED_OK s1.retainedOk).raise 0x054 2 with gnss := { s1.gnss with pending := none } }

/-- The receiver stops (R91: ENABLE cleared or SOFT_RESET): every channel IDLE, RX_STATE OFF. -/
def State.rxOff (s : State) : State :=
  let s1 := (s.setF F.GNSS_RX_STATE_RX_STATE 0).forChans (fun c => c.now.state != .idle) fun s ch => s.chanTo ch .idle
  { s1.setQueue [] with gnss := { (s1.setQueue []).gnss with pending := none } }

/-- The epoch length in force, ms (R22, R155). -/
def State.epochMs (s : State) : Nat := 50 * 2 ^ s.getF F.SOLV_STAT_EPOCH_ACTIVE

/-- The latch period, ns (R67, R68). -/
def State.latchNs (s : State) : Nat :=
  if s.flag F.GNSS_MEAS_STAT_PERIOD_FORCED then s.epochMs * 1000000 else s.getF F.GNSS_MEAS_CTRL_PERIOD * 10000000

/-! ## The latch (R67 to R70) -/

/-- Forget what the guards keep of a satellite that slipped (R87). -/
def State.guardRestart (s : State) (recs : List MeasRec) : State :=
  let gone (x : Nat) : Bool := recs.any fun r => r.slip && r.sat == x
  { s with gnss := { s.gnss with doaInts := s.gnss.doaInts.filter fun d => !gone d.sat && !gone d.ref } }

/-- The spoofing flag after one latch (R84). A latch at which the guard checks nothing, also with DOA_EN clear, is at or below the fraction
(DESIGN CHOICE, log 104). -/
def State.spoofEval (s : State) (checked failing : Nat) : State :=
  if s.getF F.GNSS_GUARD_DOA_THR_SPOOF_FRAC * checked < failing * 256 then
    { (s.setFlag F.GNSS_GUARD_STAT_SPOOF_SUSPECT true).raise 0x056 1 with gnss := { s.gnss with spoofRun := 0 } }
  else
    let n := s.gnss.spoofRun + 1
    let s1 := { s with gnss := { s.gnss with spoofRun := n } }
    if s.getF F.GNSS_GUARD_READMIT_LATCHES ≤ n then s1.setFlag F.GNSS_GUARD_STAT_SPOOF_SUSPECT false else s1

/-- The clock jump check (R83): the change of CLK_OFFSET (2^-8 ns) less the frequency correction of domain A (0.001 ppb) times the
time since the last one; that the correction is subtracted, and that a latch with CLK_EN clear is one without the condition, are
DESIGN CHOICES (log 104). -/
def State.jumpEval (s : State) (instant : Nat) (clk : Option Int) : State :=
  let jump : Bool := match clk, s.gnss.lastClk with
    | some c, some (p, t) =>
      let drift := s.time.domA.freq * ((instant : Int) - t) * 256 / 1000000000000
      s.flag F.GNSS_GUARD_CTRL_CLK_EN && s.time.domA.state == .locked &&
        decide (s.getF F.GNSS_GUARD_JUMP_THR_NS * 256 < (c - p - drift).natAbs)
    | _, _ => false
  let s1 := { s with gnss := { s.gnss with lastClk := match clk with
    | some c => some (c, instant)
    | none => s.gnss.lastClk } }
  if jump then { (s1.setFlag F.GNSS_GUARD_STAT_TIME_JUMP true).raise 0x056 2 with gnss := { s1.gnss with jumpRun := 0 } }
  else
    let n := s1.gnss.jumpRun + 1
    let s2 := { s1 with gnss := { s1.gnss with jumpRun := n } }
    if s.getF F.GNSS_GUARD_READMIT_LATCHES ≤ n then s2.setFlag F.GNSS_GUARD_STAT_TIME_JUMP false else s2

/-- The channels that produce a record at a latch, as they stand for it (R67, R69). -/
def State.measuring (s : State) (tick : Nat) : List (Nat × Channel) :=
  (s.gnss.chans.map fun e => (e.1, e.2.atLatch tick)).filter fun e => e.2.en && (e.2.now.state == .pullin || e.2.now.state == .track)

/-- Form and screen the set of a latch at an instant (ns of TAI). -/
def State.formSet (s : State) (instant : Nat) (meas : List ChanMeas) (soln : Option TimeSolution) : State :=
  let tick := s.taiMs
  let epoch := instant % (s.epochMs * 1000000) == 0
  let old := s.getF F.GNSS_MEAS_BASE_BASE_ANT
  let (base, found) := if epoch then s.chooseBase else (old, true)
  let s1 := s.setF F.GNSS_MEAS_BASE_BASE_ANT base
  let s2 := if base ≠ old then s1.raise 0x055 2 else s1
  let s3 := if epoch then { s2 with gnss := { s2.gnss with reorder := false } } else s2
  let recs0 := markPartners ((s3.measuring tick).map fun e => s3.formRec meas e.1 e.2)
  let s4 := s3.guardRestart recs0
  let recs1 := recs0.map s4.guardOwn
  let (recs2, s5) := s4.guardInterBand meas (s.now / 1000000) recs1
  let (recs3, checked, failing, s6) := s5.guardDoa tick instant base recs2
  let recs4 := s6.guardClock instant recs3
  let (recs5, s7) := s6.readmitAll recs4
  let recs6 := recs5.map fun r => { r with base := epoch && r.cause == 0 && r.ant == base }
  let s8 := s7.spoofEval checked failing
  let usable := recs6.filter fun r => r.ant == base && r.cause == 0 && bitAt r.flags 3
  let nuse := (usable.map fun r => r.sat).eraseDups.length
  let sol := match soln with
    | some x => if 4 ≤ nuse then some (x.offset, x.freq, nuse) else none
    | none => none
  let s9 := s8.jumpEval instant (sol.map fun x => x.1)
  let nsat := nsatBase recs6
  let valid := epoch && found && s9.time.valid && s9.antOk base && decide (s9.getF F.GNSS_GUARD_MIN_SAT_COUNT ≤ nsat)
  let stepped := s9.time.jump != s9.gnss.jumpSeen
  let seq := (s9.getF F.GNSS_MEAS_SEQ_SET_SEQ + 1) % 2 ^ 32
  let flags := bit (s9.allDelays != s9.gnss.delays) * 128 + bit (s9.flag F.GNSS_GUARD_STAT_TIME_JUMP) * 64 +
    bit (s9.flag F.GNSS_GUARD_STAT_SPOOF_SUSPECT) * 32 + bit (base != s9.gnss.lastAnt) * 16 + bit valid * 8 + bit stepped * 4 +
    bit s9.time.valid * 2 + bit epoch
  let mset : MeasSet :=
    { seq := seq, quality := s9.quality, instant := instant, nsat := nsat, antOk := s9.antOkMask, ant := base,
      flags := flags, soln := sol, recs := recs6, latchAt := s.now, latchOut := s.time.out }
  let s10 := (s9.setF F.GNSS_MEAS_SEQ_SET_SEQ seq).setF F.GNSS_GUARD_STAT_EXCLUDED
    (min 255 (recs6.filter fun r => r.cause != 0).length)
  let s11 := recs6.foldl (fun s r =>
    let c := s.chan r.ch
    s.setChan r.ch { c with slip := false, align := if r.range ≠ 0 then some r.align else if r.slip then none else c.align }) s10
  let g := { s11.gnss with pending := some mset, delays := s9.allDelays, jumpSeen := s9.time.jump }
  { s11 with gnss := { g with lastAnt := if epoch then base else g.lastAnt } }

/-- Keep a base set, one of each member, epoch and source (R164); sets of the four most recent epochs are kept (R155). -/
def State.keepBase (s : State) (b : BaseSet) : State :=
  let l := b :: s.gnss.baseSets.filter fun x => !(x.member == b.member && x.epoch == b.epoch && x.own == b.own)
  let epochs := (l.map fun x => x.epoch).eraseDups
  let recent (e : Nat) : Bool := decide ((epochs.filter fun x => e < x).length < 4)
  { s with gnss := { s.gnss with baseSets := l.filter fun x => recent x.epoch } }

/-- The surveyed position of an antenna. -/
def State.antPos (s : State) (a : Nat) : Nat × Nat × Nat :=
  (s.getF (F.GNSS_FE_POS_X_X a), s.getF (F.GNSS_FE_POS_Y_Y a), s.getF (F.GNSS_FE_POS_Z_Z a))

/-- A complete set (R72, R73, R76, R86, R91), up to the correction formatter. The domain's time is output time less CLK_OFFSET; the
solution's frequency is taken as the domain's frequency as it stands, without change of sign (DESIGN CHOICE, log 104). -/
def State.completeSet (s : State) (m : MeasSet) (member : Nat) : State :=
  let epoch := bitAt m.flags 0
  let valid := bitAt m.flags 3
  let s1 := s.setF F.GNSS_MEAS_BASE_DONE_US (min 65535 ((s.now - m.latchAt) / 1000))
  let s2 := if epoch then
      let t := ((s1.setF F.GNSS_MEAS_BASE_NSAT (min 255 m.nsat)).setFlag F.GNSS_MEAS_BASE_VALID valid).setFlag
        F.GNSS_MEAS_BASE_SWITCHED (bitAt m.flags 4)
      let t1 := if valid then t else t.raise 0x055 3
      t1.keepBase ⟨member, m.instant / 1000000, m.ant, t1.antPos m.ant, valid, m.recs.filter (fun r => r.base), s.now, true⟩
    else s1
  let s3 := s2.ringSet m
  let post := m.soln.isSome && !bitAt m.flags 5 && !bitAt m.flags 6
  let s4 := s3.setFlag F.GNSS_RX_STATE_TIME_SOLN_OK post
  let s5 := match m.soln with
    | some x =>
      let t := s4.setF F.GNSS_RX_STATE_NSAT_TIME (min 255 x.2.2)
      let t1 := { t with gnss := { t.gnss with lastSoln := some (x.1, x.2.1) } }
      if post then t1.domUpdate 1 m.latchAt m.latchOut (-x.1 * 2 ^ 24) x.2.1 else t1
    | none => s4
  let s6 := if s5.getF F.GNSS_RX_STATE_RX_STATE = 1 ∧ valid then
      ((s5.setF F.GNSS_RX_STATE_RX_STATE 2).setF F.GNSS_RX_TTFF_TTFF_MS
        (min 0xFFFFF ((s5.now - s5.gnss.startAt) / 1000000))).raise 0x054 3
    else s5
  { s6 with gnss := { s6.gnss with pending := none } }

end Sys2Proof.Machine
end

