-- ==== Sys2Proof/Machine/MsgOps.lean ====
section
/-! DEFINITION. Messages between units and members (13_pairs_and_cascades.md R391 to R394): fragments sent through port 21, and
fragments received, checked and reassembled. -/

namespace Sys2Proof.Machine

/-- The unit's own member number. -/
def State.member (s : State) : Nat := s.getF F.CASC_CTRL_MEMBER

/-! ## Roles (R383, R384) -/

/-- ROLE: 0 OFF, 1 START, 2 SYNC, 3 STANDBY, 4 ACTIVE, 5 ALONE. -/
def State.role (s : State) : Nat := s.getF F.PAIR_STAT_ROLE

/-- A unit of a pair that is not active. -/
def State.notActive (s : State) : Bool := s.role == 1 || s.role == 2 || s.role == 3

/-- A unit of a pair that is active: it makes journal transactions (R395). -/
def State.pairActive (s : State) : Bool := s.role == 4 || s.role == 5

/-- The unit letter in messages: 0 A, 1 B; 0 for a single unit (R392). -/
def State.unitLetter (s : State) : Nat := if s.role = 0 then 0 else s.getF F.RADIO_CTRL_UNIT

/-! ## MSG_SEQ (R394) -/

/-- The later of two sequence numbers. -/
def laterSeq (a b : Nat) : Nat := if 0 < toSigned 32 ((a + 2 ^ 32 - b % 2 ^ 32) % 2 ^ 32) then a else b

/-- MSG_SEQ starts when the quality state first leaves NONE for a state other than MANUAL. -/
def State.msgStart (s : State) : State :=
  if s.pair.nextSeq.isSome then s
  else
    match s.time.state with
    | .none | .manual => s
    | .lockA | .lockB | .hold | .holdLong | .holdExpired =>
      let a := s.taiSec % 2 ^ 16 * 2 ^ 16
      let n := match s.pair.lastSeq with
        | some l => laterSeq a ((l + 1) % 2 ^ 32)
        | none => a
      { s with pair := { s.pair with nextSeq := some n } }

/-! ## Sending (R391, R392) -/

/-- Where a message goes. -/
inductive MsgDest where
  | group
  | member (m : Nat)
  | partner
  deriving DecidableEq, Repr

/-- The group address 03-46-54-4D-00-00. -/
def groupMac : Nat := 0x0346544D0000

/-- The bodies of a message's fragments (R392). -/
def fragments (body : List Byte) : List (List Byte) :=
  if body.isEmpty then [[]] else chunks 2000 ((body.length + 1999) / 2000) body

/-- A fragment with its tag. -/
def State.fragment (s : State) (key : List Byte) (type seq flags total nfrag : Nat) (dest : MsgDest) (k : Nat) (body : List Byte) :
    List Byte :=
  let addr := match dest with
    | .group => 0x400
    | .member m => m % 16
    | .partner => s.member
  let h := wordsBytes [type * 0x1000000 + 0x10000 + s.member * 0x1000 + s.unitLetter * 0x800 + addr, seq,
    k * 0x4000000 + (nfrag - 1) * 0x100000 + flags * 0x10000 + body.length, total] ++ body
  h ++ (hmac256 key h).take 8

/-- The messages sent URGENT (R391). -/
def urgentType (type : Nat) : Bool := type == 0x01 || type == 0x10 || type == 0x08 || type == 0x09 || type == 0x12

/-- Post one fragment as a packet of port 21 (R372, R391). The queue of a message that is not URGENT and its PCP are open (log
30). -/
def State.sendFragment (s : State) (type : Nat) (dest : MsgDest) (frag : List Byte) : State :=
  let mac := match dest with
    | .group => groupMac
    | .member m => Config.memberMac m % 2 ^ 48
    | .partner => s.getF F.CASC_MAC_ADDR
  let (v, s1) := s.fresh 56
  let frame := bytesBE mac 6 ++ bytesBE (s.getF F.CASC_MAC_ADDR) 6 ++
    bytesBE (0x81000000 + v / 7 * 0x2000 + s.getF F.CASC_NET_VID) 4 ++ bytesBE 0x88B5 2 ++ frag
  let mask := if dest = .partner then 2 ^ (16 + s.getF F.PAIR_CTRL_LINK_PORT) else 0
  let head := bit (urgentType type) * 2 ^ 55 + v % 7 * 2 ^ 52 + mask * 2 ^ 32 + frame.length * 2 ^ 16
  s1.postPacket (s1.getF F.SWCH_P21_TX_QUEUE) .pair none (head :: pack7 frame)

/-- Send a message (R391 to R394, R427): none without K_casc, and none before MSG_SEQ has started. -/
def State.sendMsg (s : State) (type : Nat) (dest : MsgDest) (flags : Nat) (body : List Byte) : State :=
  match s.keys.kCasc, s.pair.nextSeq with
  | some key, some seq =>
    let parts := fragments body
    let s1 := { s with pair := { s.pair with nextSeq := some ((seq + 1) % 2 ^ 32), lastSeq := some seq } }.bump F.CASC_TX_COUNT
    (parts.zipIdx).foldl (fun s p =>
      s.sendFragment type dest (s.fragment key type seq flags body.length parts.length dest p.2 p.1)) s1
  | _, _ => s

/-! ## Receiving (R392 to R394) -/

/-- A complete message. -/
structure Msg where
  type   : Nat
  member : Nat
  unit   : Nat
  bcast  : Bool
  flags  : Nat
  link   : Bool
  body   : List Byte
  deriving DecidableEq, Repr

/-- The message is from the other unit of the own pair. -/
def State.fromPartner (s : State) (m : Msg) : Bool :=
  s.role != 0 && m.member == s.member && m.unit != s.unitLetter

/-- The types of R393. -/
def msgKnown (t : Nat) : Bool := decide (0x01 ≤ t ∧ t ≤ 0x0C) || decide (0x10 ≤ t ∧ t ≤ 0x17)

/-- The types that a standby discards (R393). -/
def standbyDiscards (t : Nat) : Bool := t == 0x03 || t == 0x04 || t == 0x05 || t == 0x07 || t == 0x0A

/-- Discard messages incomplete after 10 ms (R394). -/
def State.reasmExpire (s : State) : State :=
  let old := s.pair.reasm.filter fun r => decide (r.since + 10000000 < s.now)
  if old.isEmpty then s
  else { s with pair := { s.pair with reasm := s.pair.reasm.filter fun r => decide (s.now ≤ r.since + 10000000) } }.bumpBy
    F.CASC_REASM_FAIL_COUNT old.length

/-- The body of a message whose fragments have all arrived. -/
def Reasm.whole (r : Reasm) : Option (List Byte) :=
  let ps := (List.range r.nfrag).map fun k => (r.parts.find? fun p => p.1 == k).map fun p => p.2
  if ps.all fun p => p.isSome then some (ps.flatMap fun p => p.getD []) else none

/-- A complete message passes unless it is stale (R394). -/
def State.acceptMsg (s : State) (r : Reasm) (body : List Byte) : Option Msg × State :=
  let last := Assoc.get (fun _ => none) s.pair.heardSeq r.src
  let stale := match last with
    | some (q, at_) => decide (toSigned 32 ((r.seq + 2 ^ 32 - q) % 2 ^ 32) ≤ 0) && decide (s.now ≤ at_ + 10000000000)
    | none => false
  if body.length ≠ r.total then (none, s.bump F.CASC_REASM_FAIL_COUNT)
  else if stale then (none, s.bump F.CASC_STALE_COUNT)
  else
    let s1 := { s with pair := { s.pair with heardSeq := Assoc.put (fun _ => none) s.pair.heardSeq r.src (some (r.seq, s.now)) } }
    if s.notActive && standbyDiscards r.type then (none, s1)
    else (some ⟨r.type, r.src / 2, r.src % 2, r.bcast, r.flags, r.link, body⟩, s1)

/-- One fragment (R392 to R394); `link` says that it came over the pair link. -/
def State.rxFragment (s : State) (link : Bool) (f : List Byte) : Option Msg × State :=
  let s := s.reasmExpire
  let h := wordAt f 0
  let w2 := wordAt f 8
  let len := bitsOf w2 15 0
  let text := f.take (16 + len)
  let good := match s.keys.kCasc with
    | some key => decide (16 + len + 8 ≤ f.length) && (f.drop (16 + len)).take 8 == (hmac256 key text).take 8
    | none => false
  if !good then (none, (s.bump F.CASC_TAG_FAIL_COUNT).raise 0x0F1 5)
  else if bitsOf h 23 16 ≠ 1 ∨ !msgKnown (bitsOf h 31 24) then (none, s.bump F.CASC_RX_DISCARD_COUNT)
  else
    let src := bitsOf h 15 11
    let seq := wordAt f 4
    let same (r : Reasm) : Bool := r.src == src && r.seq == seq
    let r0 := (s.pair.reasm.find? same).getD
      ⟨src, seq, bitsOf h 31 24, bitAt h 10, bitsOf w2 19 16, bitsOf w2 25 20 + 1, wordAt f 12, s.now, true, []⟩
    let k := bitsOf w2 31 26
    let r1 := { r0 with link := r0.link && link, parts := (k, text.drop 16) :: r0.parts.filter fun p => p.1 != k }
    let others := s.pair.reasm.filter fun r => !same r
    match r1.whole with
    | none => (none, { s with pair := { s.pair with reasm := others ++ [r1] } })
    | some body => { s with pair := { s.pair with reasm := others } }.acceptMsg r1 body

/-- One packet of port 21 (R372): the header word and the frame; a frame of another EtherType carries no message. -/
def State.rxPacket (s : State) (ps : List Nat) : Option Msg × State :=
  let head := ps.getD 0 0
  let frame := unpack7 (bitsOf head 31 16) (ps.drop 1)
  let tagged := beValue ((frame.drop 12).take 2) == 0x8100
  let rest := frame.drop (if tagged then 16 else 12)
  if beValue (rest.take 2) = 0x88B5 then
    s.rxFragment (bitsOf head 36 32 == 16 + s.getF F.PAIR_CTRL_LINK_PORT) (rest.drop 2)
  else (none, s)

/-- Take packets from the queue of port 21 until a message of `type` is complete. A message of another type stays at the head of
the queue for the command of its own row. -/
def State.takeMsg (s : State) (type : Nat) : Nat → Option Msg × State
  | 0 => (none, s)
  | n + 1 =>
    let q := s.getF F.SWCH_P21_RX_QUEUE
    if !s.mboxPacketReady q then (none, s)
    else
      let (ps, bad, s1) := s.mboxTakePacket q (s.mboxQ q).level
      if bad then s1.takeMsg type n
      else
        match s1.rxPacket ps with
        | (none, s2) => s2.takeMsg type n
        | (some m, s2) => if m.type = type then (some m, s2.bump F.CASC_RX_COUNT) else (none, s)

/-- The packets that wait in the queue of port 21. -/
def State.msgsWaiting (s : State) : Nat :=
  ((s.mboxQ (s.getF F.SWCH_P21_RX_QUEUE)).words.filter fun w => wordTag w.word == 3 || wordTag w.word == 8).length

/-- Packets have left the queue of port 21: the lead's own requests come nearer to their turn (R225). -/
def State.msgsPassed (s : State) (before : State) : State :=
  let n := before.msgsWaiting - s.msgsWaiting
  if n = 0 ∨ s.plan.ownReqs = [] then s
  else { s with plan := { s.plan with ownReqs := s.plan.ownReqs.map fun r => (r.1, r.2 - n) } }

/-- Act on the next message of a type, if one has arrived. -/
def State.onMsg (s : State) (type : Nat) (k : Msg → State → State) : State :=
  match s.takeMsg type (s.mboxQ (s.getF F.SWCH_P21_RX_QUEUE)).level with
  | (some m, s1) => k m (s1.msgsPassed s)
  | (none, s1) => s1.msgsPassed s

end Sys2Proof.Machine
end

