-- ==== Sys2Proof/Machine/JournalOps.lean ====
section
/-! DEFINITION. The journal of an active unit (13_pairs_and_cascades.md R395 to R399): transactions made of what a change of the
fleet store touched, the ring in LPDDR5, confirmation and the outputs held for it. -/

namespace Sys2Proof.Machine

/-! ## What a change touches (R396) -/

/-- The objects of the fleet store that lie at `n` bytes from offset `off`: OBJ and INDEX. -/
def storeObjects (off n : Nat) : List (Nat × Nat) :=
  let cover (obj base size : Nat) : List (Nat × Nat) :=
    (List.range ((off - base + n + size - 1) / size - (off - base) / size)).map fun i => (obj, (off - base) / size + i)
  if off < 0x400000 then cover 0x01 0 16
  else if off < 0x440000 then cover 0x02 0x400000 4
  else if off < 0x840000 then cover 0x03 0x440000 64
  else if off < 0x844000 then cover 0x04 0x840000 64
  else if 0x900000 ≤ off ∧ off < 0x1900000 then cover 0x05 0x900000 16
  else if 0x1900000 ≤ off ∧ off < 0x1D00000 then cover 0x05 0x1900000 4
  else if 0x1D00000 ≤ off ∧ off < 0x1D40000 then cover 0x06 0x1D00000 4
  else []

/-- Note an object whose bytes the transaction itself carries. -/
def State.jnoteObj (s : State) (obj idx : Nat) (bytes : List Byte) : State :=
  let others := s.pair.touched.filter fun e => !(e.obj == obj && e.idx == idx)
  if s.pairActive then { s with pair := { s.pair with touched := ⟨obj, idx, bytes⟩ :: others } } else s

/-- Note the objects that a write of `bytes` at `a` touched. -/
def State.jnote (s : State) (a : Nat) (bytes : List Byte) : State :=
  (storeObjects (a - 0x10000000) bytes.length).foldl (fun s o => s.jnoteObj o.1 o.2 []) s

/-- The site registers (R396, OBJ 0x0A), in register order. -/
def siteKeys : List Nat := [0x80040] ++ (List.range 6).map (fun i => 0x80048 + 4 * i) ++ [0x80084] ++ (List.range 17).map fun l => 0x80100 + 4 * l

/-- The bytes of an object as the store holds it. -/
def State.objBytes (s : State) (e : JEntry) : List Byte :=
  match e.obj with
  | 0x01 => s.memBytes (0x10000000 + 16 * e.idx) 16
  | 0x02 => s.memBytes (0x10400000 + 4 * e.idx) 4
  | 0x03 => s.memBytes (0x10440000 + 64 * e.idx) 64
  | 0x04 => s.memBytes (0x10840000 + 64 * e.idx) 64
  | 0x05 => s.memBytes (0x10900000 + 16 * e.idx) 16 ++ s.memBytes (0x11900000 + 4 * e.idx) 4
  | 0x06 => s.memBytes (0x11D00000 + 4 * e.idx) 4
  | 0x0A => siteKeys.flatMap fun k => bytesLE (s.reg k).toNat 4
  | 0x0B => bytesLE (s.getF F.TRACK_PLAN_COMMIT_SEQ_SEQ) 4 ++ bytesLE (s.getF F.TRACK_PLAN_SHR_SERIAL_SERIAL) 4 ++
      bytesLE (s.getF F.CASC_UPD_SEQ_SEQ) 4
  | _ => e.bytes

/-- An entry's bytes in a transaction. -/
def entryBytes (obj idx : Nat) (b : List Byte) : List Byte :=
  wordsBytes [obj * 0x1000000 + idx, b.length] ++ b ++ List.replicate ((4 - b.length % 4) % 4) 0

/-- A transaction (R396). -/
def State.transaction (s : State) (src jseq : Nat) (entries : List (List Byte)) : List Byte :=
  let body := entries.flatten
  let head (crc : Nat) : List Byte := wordsBytes [0xD1010000 + s.member * 0x1000 + src * 0x100 + entries.length, jseq,
    32 + body.length, s.planTick, 0, 0, 0, crc]
  head (crc32 (head 0 ++ body)) ++ body

/-! ## The ring (R395) -/

/-- Keep a transaction in JBUF: it follows the one before it, or starts at the base where it would pass the end; what it
covers is no longer held. At a translation fault it is not kept (R463). -/
def State.ringKeep (s : State) (jseq : Nat) (t : List Byte) : State :=
  let size := s.getF F.PAIR_JBUF_SIZE_MIB * 0x100000
  let at_ := if s.pair.ringNext + t.length ≤ size then s.pair.ringNext else 0
  let kept := s.pair.ring.filter fun e => decide (e.2.1 + e.2.2 ≤ at_) || decide (at_ + t.length ≤ e.2.1)
  match s.clientWrite 0x0A 0 (s.getF F.PAIR_JBUF_BASE_ADDR * 0x100000 + at_) t with
  | (some _, s1) => s1
  | (none, s1) => { s1 with pair := { s1.pair with ring := kept ++ [(jseq, at_, t.length)], ringNext := at_ + t.length } }

/-! ## Outputs held (R399) -/

/-- A table's delivery begins (R237). -/
def State.segOffer (s : State) (m plan start count : Nat) : State :=
  let t : SegTable := { plan := plan, start := start, chunks := (count + 31) / 32, running := true }
  if s.flag F.SEG_CTRL_EN then { s with seg := { s.seg with tables := Assoc.put (fun _ => {}) s.seg.tables m t } } else s

/-- Let an output go. -/
def State.letGo (s : State) : HeldOut → State
  | .table m plan start count =>
    -- a newer committed table ends an older one's delivery (R240)
    if s.memWord (0x10840000 + 64 * m + 32) = plan then s.segOffer m plan start count else s
  | .reply member body =>
    -- the lead answers its own requests internally (R225)
    if member = s.member then { s with plan := { s.plan with ownReplies := s.plan.ownReplies ++ [body] } }
    else s.sendMsg 0x04 (.member member) 0 body

/-- Let the outputs of the transactions that pass `p` go. -/
def State.letGoIf (s : State) (p : Nat → Bool) : State :=
  let s1 := { s with pair := { s.pair with heldOut := s.pair.heldOut.filter fun h => !p h.1 } }
  (s.pair.heldOut.filter fun h => p h.1).foldl (fun s h => s.letGo h.2) s1

/-- An output of the transaction just made: held while the role is ACTIVE, let go at once otherwise. -/
def State.output (s : State) (o : HeldOut) : State :=
  if s.role = 4 then { s with pair := { s.pair with heldOut := s.pair.heldOut ++ [(s.getF F.PAIR_JSEQ_JSEQ, o)] } } else s.letGo o

/-! ## Making transactions (R395) -/

/-- Send one transaction with the next JSEQ and keep it. -/
def State.journalSend (s : State) (src : Nat) (entries : List (List Byte)) : State :=
  let jseq := (s.getF F.PAIR_JSEQ_JSEQ + 1) % 2 ^ 32
  let t := s.transaction src jseq entries
  let s1 := ((s.setF F.PAIR_JSEQ_JSEQ jseq).ringKeep jseq t).sendMsg 0x11 .partner 0 t
  if s1.role = 4 then { s1 with pair := { s1.pair with unconf := s1.pair.unconf ++ [(jseq, s1.now)] } } else s1

/-- Cut entries into transactions of at most 255 entries and 128,000 bytes (R396; log 32). -/
def batches : List (List Byte) → List (List Byte) → Nat → List (List (List Byte))
  | [], acc, _ => if acc.isEmpty then [] else [acc.reverse]
  | e :: es, acc, n =>
    if acc.length < 255 ∧ n + e.length ≤ 128000 then batches es (e :: acc) (n + e.length)
    else acc.reverse :: batches es [e] (32 + e.length)

/-- The end of a change of the fleet store: what it touched makes one journal transaction of SOURCE `src` (R395). A unit that is
not active makes none. -/
def State.journal (s : State) (src : Nat) : State :=
  let entries := s.pair.touched.reverse.map fun e => entryBytes e.obj e.idx (s.objBytes e)
  let s1 := { s with pair := { s.pair with touched := [] } }
  if s.pairActive && !entries.isEmpty then (batches entries [] 32).foldl (fun s es => s.journalSend src es) s1 else s1

/-- Journal a change for which R396 names no SOURCE (the tracker's changes, R219 and R220): its value is open (log 33). -/
def State.journalOpen (s : State) : State :=
  if s.pair.touched.isEmpty then s
  else
    let (v, s1) := s.fresh 7
    s1.journal (v + 1)

end Sys2Proof.Machine
end

