-- ==== Sys2Proof/Machine/PoppyOps.lean ====
section
/-! DEFINITION. The Poppy plane (10_poppy_plane.md R295 to R327): its two channels, stops, unit conditions, withdrawal and
adoption, tokens, images, releases. -/

namespace Sys2Proof.Machine

/-! ## Channels and configuration -/

/-- The CRC of a Poppy configuration (R328): 13 words, the word at 0x130 taken as 0. -/
def poppyCrc (cfg : List Nat) : Nat := crc32 ((cfg.take 12).flatMap (fun w => bytesLE w 4) ++ bytesLE 0 4)

/-- A word of a channel's adopted configuration, by its register offset. -/
def PoppyChan.word (c : PoppyChan) (off : Nat) : Nat := c.cfg.getD ((off - 0x100) / 4) 0

def PoppyChan.member (c : PoppyChan) : Nat := bitsOf (c.word 0x100) 15 12
def PoppyChan.pair (c : PoppyChan) : Bool := bitAt (c.word 0x100) 1
def PoppyChan.unit (c : PoppyChan) : Nat := bitsOf (c.word 0x100) 0 0
def PoppyChan.outEn (c : PoppyChan) : Nat := bitsOf (c.word 0x108) 3 0
def PoppyChan.busEn (c : PoppyChan) : Bool := bitAt (c.word 0x10C) 31
def PoppyChan.lead (c : PoppyChan) : Bool := bitAt (c.word 0x10C) 30
def PoppyChan.absentRelease (c : PoppyChan) : Bool := bitAt (c.word 0x10C) 29
def PoppyChan.leadMember (c : PoppyChan) : Nat := bitsOf (c.word 0x10C) 19 16
def PoppyChan.expect (c : PoppyChan) : Nat := bitsOf (c.word 0x10C) 15 0
def PoppyChan.inEn (c : PoppyChan) (n : Nat) : Bool := bitAt (c.word (0x110 + 4 * n)) 31
def PoppyChan.inTest (c : PoppyChan) (n : Nat) : Bool := bitAt (c.word (0x110 + 4 * n)) 30
def PoppyChan.inSite (c : PoppyChan) (n : Nat) : Bool := bitAt (c.word (0x110 + 4 * n)) 29
def PoppyChan.discMs (c : PoppyChan) (n : Nat) : Nat := bitsOf (c.word (0x110 + 4 * n)) 23 16

/-- Channel A (0) or B (1). -/
def State.pchan (s : State) (x : Nat) : PoppyChan := if x = 0 then s.poppy.a else s.poppy.b

/-- The published site-permit bit and map: the AND of the channels (R296). -/
def PoppySt.site (p : PoppySt) : Bool := p.a.site && p.b.site
def PoppySt.map (p : PoppySt) : BitVec 256 := p.a.map &&& p.b.map

/-- Store the Poppy plane, raising event 11 when the published site-permit bit changes (R329). -/
def State.setPoppy (s : State) (p : PoppySt) : State :=
  let s1 := { s with poppy := p }
  if p.site == s.poppy.site then s1 else s1.raise 0x0C0 11

def State.setPchan (s : State) (x : Nat) (c : PoppyChan) : State :=
  s.setPoppy (if x = 0 then { s.poppy with a := c } else { s.poppy with b := c })

/-- The unit's member number and letter, from channel A's configuration. -/
def State.poppyMember (s : State) : Nat := s.poppy.a.member
def State.poppyUnit (s : State) : Nat := s.poppy.a.unit

/-! ## Unit conditions (R301 to R304) -/

/-- The configuration CRCs of the channels differ (R298). -/
def PoppySt.mismatch (p : PoppySt) : Bool := !p.a.held && !p.b.held && p.a.crc != p.b.crc

/-- The channels agree: they have compared since device reset, none is in reset, channel B blocks nothing, no DISAGREE
(R297, and the reset value of STAT.AGREE in R328). -/
def PoppySt.agree (p : PoppySt) : Bool := p.compared && !p.disagree && !p.blocked && !p.a.held && !p.b.held

/-- The last arm is fresh: up to 50 ms after it in channel ticks, unless a control-plane reset has ended it (R303, R324). -/
def State.armFresh (s : State) : Bool :=
  match s.poppy.armAt with
  | some t => !s.poppy.armEnded && decide (s.now / 1000 ≤ t / 1000 + 50000)
  | none => false

/-- The unit conditions that fail, as withdrawal causes in the order of R302. -/
def State.poppyFailing (s : State) : List Nat :=
  (if s.poppy.mismatch then [0x10] else []) ++ (if s.poppy.agree then [] else [0x11]) ++
  (if s.poppy.keys.isSome then [] else [0x0E]) ++ (if s.time.valid then [] else [0x08]) ++
  (if s.poppy.role = 0 then [0x09] else []) ++ (if s.armFresh then [] else [0x07])

def State.withholding (s : State) : Bool := !s.poppyFailing.isEmpty

/-- The unit withholds whatever channel B's check of its next token finds (R297, R301). -/
def State.withholdingBut (s : State) : Bool := { s with poppy := { s.poppy with blocked := false } }.withholding

/-! ## Stops (R305 to R307, R564) -/

/-- The STOP_LOG word of a stop (R328). -/
def PoppyStop.logWord (x : PoppyStop) (ended : Bool) : Word :=
  BitVec.ofNat 32 (0x80000000 + x.scope * 0x20000000 + bit ended * 0x10000000 + x.origin % 16 * 0x1000000 +
    x.cause % 256 * 0x10000 + x.id % 65536)

/-- Record a stop in STOP_LOG: 32 entries, overflow discarded. -/
def State.stopLog (s : State) (x : PoppyStop) (ended : Bool) : State := s.pushFifo 0xC0084 32 [x.logWord ended] id

/-- The map bits of a list of machines. -/
def machineBits (l : List Nat) : BitVec 256 := l.foldl (fun a m => a ||| (1#256 <<< m)) 0

/-- Clear in a channel the bits that a stop covers: START_SLEEP covers every machine besides (R305). -/
def PoppyChan.cover (c : PoppyChan) (scope cause : Nat) (machines : List Nat) : PoppyChan :=
  if cause = 0x0D then { c with site := false, map := 0 }
  else if scope = 2 then { c with map := c.map &&& ~~~ machineBits machines }
  else { c with site := false }

/-- Give a stop the next STOP_ID and record it (R307). -/
def State.newStop (s : State) (x : PoppyStop) : State :=
  let y := { x with id := s.poppy.nextId % 65536, raisedAt := s.now }
  let s1 := { s with poppy := { s.poppy with stops := s.poppy.stops ++ [y], nextId := (s.poppy.nextId + 1) % 65536, lastId := y.id } }
  (s1.stopLog y false).raise 0x0C0 2

/-- Cut a list into pieces of `k`; `n` bounds the pieces. -/
def cut {α : Type} (k : Nat) : Nat → List α → List (List α)
  | 0, _ => []
  | n + 1, l => if l.isEmpty then [] else l.take k :: cut k n (l.drop k)

/-- Machine-list stops of one tick with one cause, detail and origin hold up to 22 machines each, in ascending order (R307):
the machines of `pieces` go to the stops of the group in turn; the pieces left over are returned. -/
def regroup (same : PoppyStop → Bool) : List PoppyStop → List (List Nat) → List PoppyStop × List (List Nat)
  | [], ps => ([], ps)
  | x :: t, ps =>
    if same x then
      match ps with
      | p :: rest => let (t', r) := regroup same t rest; ({ x with machines := p } :: t', r)
      | [] => let (t', r) := regroup same t []; (x :: t', r)
    else let (t', r) := regroup same t ps; (x :: t', r)

/-- Raise a stop in channel A, in channel B or in both (R305, R307). -/
def State.raiseStop (s : State) (inA inB : Bool) (scope cause detail origin : Nat) (machines : List Nat) (fromBus : Bool) :
    State :=
  let ra := inA && !s.poppy.a.held
  let rb := inB && !s.poppy.b.held
  if !ra && !rb then s
  else
    let origin := if scope = 0 then origin else s.poppyMember
    let x : PoppyStop := ⟨0, scope, cause, detail, origin, [], 0, none, fromBus, ra, rb⟩
    let s1 :=
      if scope = 2 then
        let same (y : PoppyStop) : Bool := y.scope == 2 && y.cause == cause && y.detail == detail && y.origin == origin &&
          y.raisedAt / 1000 == s.now / 1000 && y.inA == ra && y.inB == rb
        let all := (s.poppy.stops.filter same).flatMap (·.machines) ++ machines
        let sorted := (List.range 256).filter all.elem
        let (stops, rest) := regroup same s.poppy.stops (cut 22 12 sorted)
        rest.foldl (fun s p => s.newStop { x with machines := p }) { s with poppy := { s.poppy with stops := stops } }
      else s.newStop x
    let a := if ra then s1.poppy.a.cover scope cause machines else s1.poppy.a
    let b := if rb then s1.poppy.b.cover scope cause machines else s1.poppy.b
    s1.setPoppy { s1.poppy with a := a, b := b }

/-- A request (R306): it counts, and raises its stop; a bit already cleared raises none. -/
def State.poppyRequest (s : State) (op cause detail machine : Nat) : State :=
  let s1 := { s with poppy := { s.poppy with reqCount := (s.poppy.reqCount + 1) % 65536 } }
  let org := s.poppyMember
  if op = 1 then s1.raiseStop true true 1 cause detail org [] false
  else if op = 2 then s1.raiseStop true true 0 cause detail org [] false
  else
    let m := machine % 256
    if s.poppy.a.map.getLsbD m || s.poppy.b.map.getLsbD m then s1.raiseStop true true 2 cause detail org [m] false else s1

/-- The zone path's request (R176, R306): CLEAR_MACHINE with cause ZONE and the violation's KIND. -/
def State.zoneRequest (s : State) (m kind : Nat) : State := s.poppyRequest 3 0x03 kind m

/-- The cause code of a request by its initiator (R306). -/
def requestCause : Initiator → Nat
  | .data _ | .dma => 0x04
  | .ctl _ => 0x05
  | .host | .debug => 0x06

/-- A channel registers the stops that the other one holds and it does not (R564). -/
def State.adoptStops (s : State) (x : Nat) : State :=
  let new := s.poppy.stops.filter fun y => if x = 0 then !y.inA else !y.inB
  let c := new.foldl (fun c y => PoppyChan.cover c y.scope y.cause y.machines) (s.pchan x)
  let stops := s.poppy.stops.map fun y => if x = 0 then { y with inA := true } else { y with inB := true }
  let s1 := s.setPchan x c
  { s1 with poppy := { s1.poppy with stops := stops } }

/-- Channel `x` finds a stop's cause by itself (R312, R313, R319): where the unit holds the stop of that cause and detail already, the
channel registers that one (R564, log 66); else it raises it. -/
def State.raiseOwn (s : State) (x scope cause detail : Nat) (fromBus : Bool) : State :=
  if s.poppy.stops.any (fun y => y.scope == scope && y.cause == cause && y.detail == detail) then s.adoptStops x
  else s.raiseStop (x == 0) (x == 1) scope cause detail s.poppyMember [] fromBus

/-- START_SLEEP: a member stop that covers every machine (R324, R325). -/
def State.startSleep (s : State) : State := s.raiseStop true true 1 0x0D 0 s.poppyMember [] false

/-- End stops: each is recorded with ENDED and raises event 3. -/
def State.endStops (s : State) (l : List PoppyStop) : State := l.foldl (fun s x => (s.stopLog x true).raise 0x0C0 3) s

/-! ## Withholding, withdrawal, adoption (R302, R320) -/

/-- The partner's heartbeat is present on both lines (R390). -/
def PoppySt.partnerOk (p : PoppySt) : Bool := p.a.hbOk && p.b.hbOk

/-- A stop that the partner reports is one the unit holds (R320): the same scope and origin, and the same cause and detail, or
one of the two is the other's adopted copy. -/
def holdsStop (l : List PoppyStop) (r : Nat × Nat × Nat × Nat × Nat) : Bool :=
  l.any fun x => x.scope == r.2.1 && x.origin == r.2.2.1 &&
    ((x.cause == r.2.2.2.1 && x.detail == r.2.2.2.2) || (x.cause == 0x0C && x.detail == r.2.2.2.1) ||
      (r.2.2.2.1 == 0x0C && r.2.2.2.2 == x.cause))

/-- Raise in one channel every stop the partner reports and the unit does not hold, and clear the bits it reports cleared
(R320). -/
def State.mirrorPartner (s : State) (x : Nat) (r : HbReport) : State :=
  let s1 := r.stops.foldl (fun (s : State) t =>
    if holdsStop s.poppy.stops t then s
    else s.raiseStop (x == 0) (x == 1) t.2.1 0x0C t.2.2.2.1 t.2.2.1 [] false) s
  s1.setPchan x { s1.pchan x with map := (s1.pchan x).map &&& r.map }

/-- The unit adopts its partner's site-permit bit, map and active stops (R302). -/
def State.adoptPartner (s : State) (ra rb : HbReport) : State :=
  let s1 := s.endStops s.poppy.stops
  let p := s1.poppy
  let s2 := s1.setPoppy { p with
    stops := [], withdrawn := none, lapsed := false, a := { p.a with site := ra.site, map := ra.map }, b := { p.b with site := rb.site, map := rb.map } }
  (ra.stops ++ rb.stops).foldl (fun (s : State) t =>
    if holdsStop s.poppy.stops t then s else s.raiseStop true true t.2.1 0x0C t.2.2.2.1 t.2.2.1 [] false) s2

/-- Re-evaluate the unit conditions (R301, R302): the events of withholding, and the adoption when a withdrawn unit's
conditions hold again. -/
def State.poppyEval (s : State) : State :=
  let w := s.withholding
  if w == s.poppy.withheld then s
  else
    let s1 := { s with poppy := { s.poppy with withheld := w, lapsed := false } }.raise 0x0C0 (if w then 0 else 1)
    if w || !s.poppy.lapsed then s1
    else
      match s.poppy.a.hb, s.poppy.b.hb with
      | some ra, some rb => if s.poppy.partnerOk then s1.adoptPartner ra rb else s1
      | _, _ => s1

/-- The withdrawal falls due: the unit has withheld through the end of superframe N + 3, N its last issued one; with no token
since device reset, through the first superframe begun after it (R302). -/
def State.withdrawalDue (s : State) : Bool :=
  s.withholding && !s.poppy.lapsed &&
  match s.poppy.lastIssued with
  | some n =>
    -- the token of N is placed before the edge of N: an N ahead of the output time is not past
    let d := (s.superframe + 2 ^ 32 - n) % 2 ^ 32
    decide (4 ≤ d) && decide (d < 2 ^ 31)
  | none => decide (s.poppy.firstSf < s.superframe)

/-- The withdrawal (R302): the site-permit bit is cleared with the cause of the first failing condition. -/
def State.withdraw (s : State) : State :=
  match s.poppyFailing with
  | [] => s
  | c :: _ =>
    let p := s.poppy
    s.setPoppy { p with withdrawn := some (c, if c = 0x08 then s.quality else 0), lapsed := true, a := { p.a with site := false },
                        b := { p.b with site := false } }

/-- The published CAUSE and DETAIL (R299). -/
def PoppySt.cause (p : PoppySt) : Nat × Nat :=
  if p.site then (0, 0)
  else
    match p.stops.find? (·.scope == 0) with
    | some x => (x.cause, x.detail)
    | none =>
      match p.stops.find? (·.scope == 1) with
      | some x => (x.cause, x.detail)
      | none => p.withdrawn.getD (0, 0)

/-! ## Differences (R297) -/

/-- Some stop is on its way from one channel to the other, within 10 µs of its registration (R564). -/
def State.passing (s : State) : Bool :=
  s.poppy.stops.any fun x => (!x.inA || !x.inB) && decide (s.now ≤ x.raisedAt + 10000)

/-- The DISAGREE stop, flag and count (R297). -/
def State.disagreeStop (s : State) : State :=
  let s1 := (s.raiseStop true true 1 0x0A 0 s.poppyMember [] false).bump F.POPPY_DISAGREE_COUNT
  if s.poppy.disagree then s1 else { s1 with poppy := { s1.poppy with disagree := true } }.raise 0x0C0 7

/-- The difference between the channels now. -/
def State.poppyDiff (s : State) : Option (Bool × BitVec 256) :=
  let p := s.poppy
  if p.a.held || p.b.held || s.passing || (p.a.site == p.b.site && p.a.map == p.b.map) then none
  else some (p.a.site != p.b.site, p.a.map ^^^ p.b.map)

/-- Compare the channels at a sample: the same difference at two consecutive samples is DISAGREE. -/
def State.poppyCompare (s : State) : State :=
  let d := s.poppyDiff
  let s1 := { s with poppy := { s.poppy with diff := d, compared := true } }
  if d.isSome && d == s.poppy.diff then s1.disagreeStop else s1

/-! ## Tokens and images (R299, R300, R308, R309) -/

/-- The first 8 bytes of HMAC-SHA-256 under a Poppy key. -/
def poppyTag (key msg : List Byte) : List Byte := (hmac256 key msg).take 8

/-- The token for superframe `sfn` (R299). -/
def State.tokenBytes (s : State) (sfn : Nat) (key : List Byte) : List Byte :=
  let (c, d) := s.poppy.cause
  let w1 := c * 0x1000000 + d % 256 * 0x10000 + s.poppyMember * 0x1000 + 0x100 + s.poppyUnit * 2 + bit s.poppy.site
  let body := bytesLE sfn 4 ++ bytesLE w1 4 ++ bytesLE s.poppy.map.toNat 32
  body ++ poppyTag key body

/-- The stop image of a group (R308), `oldest` and `newest` being its stops' extremes. -/
def State.imageBytes (s : State) (key : List Byte) (sfn scope cause detail id origin : Nat) (machines : List Nat) : List Byte :=
  let m := s.poppyMember
  let w1 := cause * 0x1000000 + detail % 256 * 0x10000 + m * 0x1000 + 0x100 + scope * 0x40 + s.poppyUnit * 0x20 +
    (if scope = 2 then machines.length else 0)
  let list := machines.map (fun x => m * 256 + x) ++ List.replicate (22 - machines.length) 0xFFFF
  let body := bytesLE sfn 4 ++ bytesLE w1 4 ++ bytesLE (id * 0x10000 + origin * 0x1000) 4 ++ list.flatMap (fun x => bytesLE x 2)
  body ++ poppyTag key body

/-- The machines of a group of stops, oldest stop first, each once. -/
def listed (g : List PoppyStop) : List Nat := (g.flatMap (·.machines)).eraseDups

/-- The unit's presentation opportunities: slots of the superframe (R309). -/
def State.presentSlot (s : State) (slot : Nat) : Bool :=
  (if s.poppy.a.pair && s.poppyUnit == 1 then [1, 20, 40, 60] else [0, 20, 40, 60]).elem slot

/-- Take from the front the stops whose machines fit together in 22. -/
def fitting : List Nat → List PoppyStop → List PoppyStop
  | _, [] => []
  | ms, x :: t =>
    let u := (ms ++ x.machines).eraseDups
    if 22 < u.length then [] else x :: fitting u t

/-- Insert in order; equal elements keep their order. -/
def insertBy {α : Type} (le : α → α → Bool) (x : α) : List α → List α
  | [] => [x]
  | y :: t => if le x y then x :: y :: t else y :: insertBy le x t

/-- Sort by insertion, stable. -/
def sortBy {α : Type} (le : α → α → Bool) (l : List α) : List α := l.foldr (insertBy le) []

/-- The age order of presentations: longest ago first. -/
def shownBefore (x y : PoppyStop) : Bool := decide (x.shownAt.getD 0 ≤ y.shownAt.getD 0)

/-- What an opportunity presents (R309): the stops presented, and SCOPE, CAUSE, DETAIL, machines. The first rule that applies
decides; `live` is in the order of registration. -/
def choosePresentation (live : List PoppyStop) : Option (List PoppyStop × Nat × Nat × Nat × List Nat) :=
  let fresh := live.filter (·.shownAt.isNone)
  let one (x : PoppyStop) := some ([x], x.scope, x.cause, x.detail, ([] : List Nat))
  match fresh.find? (·.scope == 0) with
  | some x => one x
  | none =>
    match fresh.find? (·.scope == 1) with
    | some x => one x
    | none =>
      match fresh with
      | x :: t =>
        let ms := listed (x :: t)
        if 22 < ms.length then some (x :: t, 1, 0x12, min ms.length 255, [])
        else some (x :: t, 2, x.cause, x.detail, ms)
      | [] =>
        match sortBy shownBefore (live.filter (·.scope == 0)) with
        | x :: _ => one x
        | [] =>
          match sortBy shownBefore (live.filter (·.scope == 1)) with
          | x :: _ => one x
          | [] =>
            let g := fitting [] (sortBy shownBefore live)
            let g' := live.filter g.elem
            match g' with
            | x :: t => some (x :: t, 2, x.cause, x.detail, listed (x :: t))
            | [] => none

/-- A presentation at the slot edge `at_` (ns of output time) of superframe `sfn` (R309). The image of a stop is ready up to
60 µs after its registration (R307); when within them is free (log 3). Channel A publishes only what channel B has checked: with a
channel in reset nothing is presented (R297). -/
def State.present (s : State) (sfn at_ : Nat) : State :=
  match (if s.poppy.a.held || s.poppy.b.held then none else s.poppy.keys) with
  | none => s
  | some (tok, _) =>
    let (delay, s1) := s.fresh 60001
    let live := s1.poppy.stops.filter fun x => decide (x.raisedAt + delay ≤ s.now) && decide (s.now ≤ x.raisedAt + 500000000)
    match choosePresentation live with
    | none => s1
    | some (g, scope, cause, detail, ms) =>
      let newest := (g.getLast?.map (·.id)).getD 0
      let origin := if scope = 0 then (g.head?.map (·.origin)).getD 0 else s.poppyMember
      let wide := g.any (fun x => x.scope != 2)
      let shown (x : PoppyStop) : Bool := g.elem x || (wide && x.scope == 2 && x.shownAt.isNone && live.elem x)
      let stops := s1.poppy.stops.map fun x => if shown x then { x with shownAt := some s.now } else x
      let img := s1.imageBytes tok sfn scope cause detail newest origin ms
      { s1 with poppy := { s1.poppy with stops := stops, image := img, imageSlot := some at_ } }

/-! ## Release (R310, R311) -/

/-- An enabled wired input is open in either channel or has a WIRING fault. -/
def PoppySt.inputBlocks (p : PoppySt) : Bool :=
  (List.range 8).any fun n => (p.a.inEn n || p.b.inEn n) &&
    (!bitAt p.a.closed n || !bitAt p.b.closed n || bitAt p.tpFault n || bitAt p.discFault n)

/-- A watched member or the lead marker is missing while ABSENT_RELEASE is 0. -/
def PoppySt.busBlocks (p : PoppySt) : Bool :=
  p.a.busEn && !p.a.absentRelease && (p.a.expect &&& p.missing != 0 || p.a.busLost || p.b.busLost)

/-- The result of a release's checks, in the order of R311. -/
def State.releaseResult (s : State) (r : PoppyRelease) : Nat :=
  let scope := bitsOf r.cmd 31 30
  let wide := scope = 0 ∨ scope = 2
  match s.poppy.keys with
  | none => 6
  | some (_, rel) =>
    if poppyTag rel (bytesLE r.cmd 4 ++ bytesLE r.sfn 4 ++ bytesLE r.serial 4) ≠ bytesLE r.tag 8 then 1
    else if 2 < (s.superframe + 2 ^ 32 - r.sfn) % 2 ^ 32 then 2
    else if r.serial ≤ s.poppy.lastSerial then 3
    else if wide ∧ s.poppy.inputBlocks then 4
    else if wide ∧ s.poppy.busBlocks then 5
    else if s.withholding || s.poppyDiff.isSome then 6
    else if bitsOf r.cmd 23 20 ≠ s.poppyMember then 7
    else if scope = 3 ∨ (scope = 1 ∧ bitsOf r.cmd 7 0 < bitsOf r.cmd 15 8) then 8
    else 0

/-- Apply a release (R311). -/
def State.applyRelease (s : State) (scope first last : Nat) : State :=
  let lo := if scope = 2 then 0 else first
  let hi := if scope = 2 then 255 else last
  let onSite := scope != 1
  let onMap := scope != 0
  let cutDown (x : PoppyStop) : PoppyStop :=
    if x.scope = 2 ∧ onMap then { x with machines := x.machines.filter fun m => decide (m < lo) || decide (hi < m) } else x
  let stops := s.poppy.stops.map cutDown
  let gone (x : PoppyStop) : Bool := if x.scope = 2 then onMap && x.machines.isEmpty else onSite
  let s1 := s.endStops (stops.filter gone)
  let p := s1.poppy
  let bits := if onMap then machineBits ((List.range 256).filter fun m => decide (lo ≤ m) && decide (m ≤ hi)) else 0
  let up (c : PoppyChan) : PoppyChan := { c with site := c.site || onSite, map := c.map ||| bits }
  s1.setPoppy { p with stops := stops.filter (fun x => !gone x), a := up p.a, b := up p.b,
                       withdrawn := if onSite then none else p.withdrawn }

/-- Finish the release in progress. -/
def State.releaseDone (s : State) (r : PoppyRelease) : State :=
  let res := s.releaseResult r
  let s1 := { s with poppy := { s.poppy with release := none, result := res } }
  if res = 0 then
    let s2 := s1.applyRelease (bitsOf r.cmd 31 30) (bitsOf r.cmd 15 8) (bitsOf r.cmd 7 0)
    { s2 with poppy := { s2.poppy with lastSerial := r.serial } }.raise 0x0C0 4
  else s1.raise 0x0C0 5

/-! ## Adoption of a configuration, inputs, markers, channel resets -/

/-- A channel that is not in reset adopts a configuration (R298); a first EN of the stop bus begins its listening (R316). -/
def PoppyChan.adopt (c : PoppyChan) (now : Nat) (words : List Nat) : PoppyChan :=
  if c.held then c
  else
    let d := { c with cfg := words, crc := poppyCrc words }
    if d.busEn && !c.busEn then { d with busFrom := now, cycle := none, marker := none, busLost := false }
    else if d.busEn then d
    else { d with cycle := none, marker := none, busLost := false, slotPull := false }

/-- Both channels adopt a configuration, which the CFG registers show (R298). When the test-pulse period changes, B is aimed half a period after A (R312). -/
def State.poppyAdopt (s : State) (words : List Nat) : State :=
  let p := s.poppy
  let a := p.a.adopt s.now words
  let b := p.b.adopt s.now words
  let per := 1000 * bitsOf (words.getD 1 0) 31 16
  let b := if bitsOf (p.a.word 0x104) 31 16 = bitsOf (words.getD 1 0) 31 16 then b else { b with tpNext := a.tpNext + per / 2 }
  let s0 := (List.range 12).foldl (fun (s : State) i => s.setReg (0xC0100 + 4 * i) (BitVec.ofNat 32 (words.getD i 0))) s
  let s1 := s0.setPoppy { p with a := a, b := b }
  (if s1.poppy.mismatch && !p.mismatch then s1.raise 0x0C0 7 else s1).poppyEval

/-- An input's open or closed state has changed: note when its channels came to differ, and when both came to be closed
(R313). -/
def State.inputChanged (s : State) (n : Nat) : State :=
  let p := s.poppy
  let ca := bitAt p.a.closed n
  let cb := bitAt p.b.closed n
  let diffAt := if ca == cb then p.diffAt.filter (fun e => e.1 != n)
    else if p.diffAt.any (fun e => e.1 == n) then p.diffAt else (n, s.now) :: p.diffAt
  let clearFrom := if ca && cb then (n, s.now) :: p.clearFrom.filter (fun e => e.1 != n)
    else p.clearFrom.filter (fun e => e.1 != n)
  { s with poppy := { p with diffAt := diffAt, clearFrom := clearFrom } }

/-- Set a WIRING fault of an input: the 100 ms of clean readings start again. -/
def State.setWiring (s : State) (n : Nat) (disc : Bool) : State :=
  let p := s.poppy
  let clear := p.clearFrom.filter (fun e => e.1 != n)
  let clear := if bitAt p.a.closed n && bitAt p.b.closed n then (n, s.now) :: clear else clear
  if disc then { s with poppy := { p with discFault := p.discFault ||| 2 ^ n, clearFrom := clear } }
  else { s with poppy := { p with tpFault := p.tpFault ||| 2 ^ n, clearFrom := clear } }

/-- The stop of a new WIRING fault (R313). -/
def State.wiringStop (s : State) (new inA inB : Bool) (scope detail : Nat) : State :=
  if new then (s.raise 0x0C0 7).raiseStop inA inB scope 0x0B detail s.poppyMember [] false else s

/-- A falling edge of the marker seen on the line (R316): other members time their cycle from it; a lead unit takes it while
it listens or within 20 µs of its own cycle start, and unit B of a lead pair after edges outside the window in two
consecutive cycles. -/
def PoppyChan.markerEdge (c : PoppyChan) (now : Nat) : PoppyChan :=
  let c1 := { c with marker := some now, busLost := false }
  if !c.lead then { c1 with cycle := some now }
  else
    match c.cycle with
    | none => { c1 with cycle := some now }
    | some t =>
      let near := decide (now ≤ t + 20000) || (decide (t + 1780000 ≤ now) && decide (now ≤ t + 1820000))
      if near then { c1 with cycle := some now, outRun := 0 }
      else if !(c.pair && c.unit == 1) then c1
      else if 2 ≤ c.outRun ∧ c.outAt < t then { c1 with cycle := some now, outRun := 0 }
      else if c.outAt ≥ t ∧ c.outRun ≠ 0 then { c1 with outAt := now }
      else if t ≤ c.outAt + 1800000 ∧ c.outRun ≠ 0 then { c1 with outRun := c.outRun + 1, outAt := now }
      else { c1 with outRun := 1, outAt := now }

/-- Hold a channel in reset (R295, R324): its outputs, bus and heartbeat lines are released. -/
def State.poppyHold (s : State) (x : Nat) : State :=
  (s.setPchan x { held := true, hbNext := s.now }).poppyEval

/-- A channel leaves its own reset: its state is the reset state, and it registers the stops the other holds. -/
def State.poppyRelease (s : State) (x : Nat) : State :=
  if !(s.pchan x).held then s
  else
    let per := 1000 * bitsOf (({} : PoppyChan).word 0x104) 31 16
    let s1 := s.setPchan x { tpNext := s.now + (if x = 0 then 0 else per / 2), hbNext := s.now, busFrom := s.now }
    let unregister (y : PoppyStop) : PoppyStop := if x = 0 then { y with inA := false } else { y with inB := false }
    let s2 := { s1 with poppy := { s1.poppy with stops := s1.poppy.stops.map unregister } }
    ((List.range 8).foldl State.inputChanged (s2.adoptStops x)).poppyEval

/-! ## Outputs, views -/

/-- The outputs a channel drives (R314): its enabled ones, while the unit conditions hold, its site-permit bit is 1 and it
has no readback fault. -/
def State.outputs (s : State) (x : Nat) : Nat :=
  let c := s.pchan x
  if s.withholding || !c.site || c.held || c.fb != 0 then 0 else c.outEn

/-- The levels at a channel's outputs: without VDDIO_3V3 each is low (R549). -/
def State.outLevel (s : State) (x : Nat) : Nat := if s.ioLost then 0 else s.outputs x

/-- POPPY_FAULT (R328). -/
def State.poppyFaultWord (s : State) : Nat :=
  let p := s.poppy
  p.tpFault * 0x1000000 + p.discFault * 0x10000 + p.b.fb * 0x1000 + p.a.fb * 0x100 + bit p.disagree * 8 +
    bit p.mismatch * 4 + bit (p.a.pair && !p.a.hbOk && !p.b.hbOk) * 2 + bit p.keys.isNone

/-- POPPY_STAT (R328). -/
def State.poppyStat (s : State) : Nat :=
  let p := s.poppy
  let (c, d) := p.cause
  let en := p.a.outEn
  let energised := en != 0 && s.outLevel 0 == en && s.outLevel 1 == p.b.outEn
  let loops := (List.range 8).all fun n => !(p.a.inEn n) || (bitAt p.a.closed n && bitAt p.b.closed n)
  c * 0x1000000 + d % 256 * 0x10000 + bit p.site * 0x8000 + bit (!s.withholding) * 0x4000 + bit energised * 0x2000 +
    bit (s.poppyFaultWord != 0) * 0x1000 + bit p.partnerOk * 0x800 + bit p.keys.isSome * 0x80 + bit p.agree * 0x40 +
    bit loops * 0x20 + bit s.armFresh * 0x10 + bit s.time.valid * 8 + p.role

/-- The marker was seen in the last cycle. -/
def State.markerSeen (s : State) (x : Nat) : Bool :=
  match (s.pchan x).marker with
  | some t => decide (s.now ≤ t + 1800000)
  | none => false

/-- The 32-bit word `i` of a list of bytes. -/
def wordOf (l : List Byte) (i : Nat) : Nat := leValue ((l.drop (4 * i)).take 4)

/-- Views of the POPPY page (R328). -/
def State.viewPoppy (s : State) (key : Nat) : Option Nat :=
  let p := s.poppy
  let off := key - 0xC0000
  let active := p.stops.length
  let pres := (p.stops.filter fun x => decide (s.now ≤ x.raisedAt + 500000000)).length
  if off = 0x040 then some s.poppyStat
  else if off = 0x044 then some p.tokenSfn
  else if off = 0x04C then
    some ((match p.armAt with
      | some t => min ((s.now - t) / 1000000) 0xFFFF
      | none => 0xFFFF) * 0x10000 + p.armCount)
  else if off = 0x054 then some (p.lastId * 0x10000 + p.reqCount)
  else if 0x060 ≤ off ∧ off < 0x080 then some (p.map.toNat / 2 ^ (8 * (off - 0x060)) % 2 ^ 32)
  else if off = 0x080 then some (p.lastId * 0x10000 + min pres 255 * 0x100 + min active 255)
  else if off = 0x088 then
    some (p.b.closed * 0x1000000 + p.a.closed * 0x10000 + s.outLevel 1 * 0x1000 + s.outLevel 0 * 0x100 +
      bit (s.markerSeen 1) * 8 + bit (s.markerSeen 0) * 4)
  else if off = 0x08C then some s.poppyFaultWord
  else if off = 0x090 then some (p.a.expect * 0x10000 + if s.markerSeen 0 && s.markerSeen 1 then p.seen else 0)
  else if off = 0x0B8 then some (bit p.release.isSome * 0x80000000 + p.result)
  else if off = 0x0BC then some p.lastSerial
  else if off = 0x134 then some p.a.crc
  else if 0x200 ≤ off ∧ off < 0x230 then some (wordOf p.token ((off - 0x200) / 4))
  else if 0x240 ≤ off ∧ off < 0x280 then some (wordOf p.image ((off - 0x240) / 4))
  else none

end Sys2Proof.Machine
end

