-- ==== Sys2Proof/Machine/ZoneOps.lean ====
section
/-! DEFINITION. The site map (06_site_map.md R169 to R192): grid, zone store, filter, lookup, the tables and their shadow. -/

namespace Sys2Proof.Machine

/-! ## The grid (R170, R171) -/

/-- The grid column or row of a coordinate in mm, if it lies in the site. -/
def gridIndex (mm : Int) : Option Nat :=
  let i := (mm + 8192000) / 250
  if 0 ≤ i ∧ i < 65536 then some i.toNat else none

/-- Spread the low `n` bits of a number to the even places. -/
def spread (v : Nat) : Nat → Nat
  | 0 => 0
  | n + 1 => spread v n + bitsOf v n n * 4 ^ n

/-- The Morton code of a grid position (R171). -/
def morton (col row : Nat) : Nat := spread col 16 + 2 * spread row 16

/-- The prefix of a Morton code at a level. -/
def prefixAt (code level : Nat) : Nat := code / 2 ^ (32 - 2 * level) * 2 ^ (32 - 2 * level)

/-- The Morton code of a position, none outside the site. -/
def siteCode (e n : Int) : Option Nat :=
  match gridIndex e, gridIndex n with
  | some c, some r => some (morton c r)
  | _, _ => none

/-! ## Entries and buckets (R172, R173) -/

/-- A zone entry's four words. -/
structure ZoneEntry where
  w0 : Nat
  w1 : Nat
  w2 : Nat
  w3 : Nat
  deriving DecidableEq, Repr

def ZoneEntry.id (e : ZoneEntry) : Nat := bitsOf e.w1 31 16
def ZoneEntry.flags (e : ZoneEntry) : Nat := bitsOf e.w1 11 7
def ZoneEntry.level (e : ZoneEntry) : Nat := bitsOf e.w1 6 2
def ZoneEntry.valid (e : ZoneEntry) : Bool := bitAt e.w1 0

/-- The key is well formed: a level of 0 to 16 and no prefix bit below it. -/
def ZoneEntry.keyOk (e : ZoneEntry) : Bool :=
  decide (e.level ≤ 16) && prefixAt e.w0 e.level == e.w0

/-- The entry is valid for INSERT, MODIFY and images (R172). -/
def ZoneEntry.ok (e : ZoneEntry) : Bool :=
  e.valid && !bitAt e.w1 1 && bitsOf e.w3 15 0 == 0 && e.keyOk && e.id != 0xFFFF

/-- One bit and one byte of the reflected CRC-32C register. -/
def crc32cBit (c : Nat) : Nat := if c % 2 = 1 then (c / 2) ^^^ 0x82F63B78 else c / 2

def crc32cByte (c : Nat) (b : Byte) : Nat :=
  crc32cBit (crc32cBit (crc32cBit (crc32cBit (crc32cBit (crc32cBit (crc32cBit (crc32cBit (c ^^^ b.toNat))))))))

/-- The hash of a key (R173): CRC-32C over PREFIX, LEVEL and three zero bytes, with the register preset to `preset`. -/
def zoneHash (preset pre level : Nat) : Nat :=
  ((bytesLE pre 4 ++ bytesLE level 4).foldl crc32cByte preset) ^^^ 0xFFFFFFFF

/-- The table of a level: log2 of its buckets and its first bucket; none where it has no table (R173). -/
def State.zoneTable (s : State) (level : Nat) : Option (Nat × Nat) :=
  let n := s.getF (F.ZONE_LVL_LOG2_BUCKETS level)
  let b := s.getF (F.ZONE_LVL_BASE level)
  if level ≤ 16 ∧ 1 ≤ n ∧ n ≤ 16 ∧ b + 2 ^ n ≤ 65536 then some (n, b) else none

/-- The two candidate buckets of a key (R173). -/
def State.zoneBuckets (s : State) (pre level : Nat) : Option (Nat × Nat) :=
  match s.zoneTable level with
  | none => none
  | some (n, b) =>
    let seed := s.getF F.ZONE_HASH_SEED_SEED
    let h1 := zoneHash seed pre level % 2 ^ n
    let h2 := zoneHash (0xFFFFFFFF - seed) pre level % 2 ^ n
    some (b + h1, b + (if h2 = h1 then h1 ^^^ 1 else h2))

/-- The address of slot `i` of a bucket. -/
def slotAddr (bucket i : Nat) : Nat := 0x10000000 + 64 * bucket + 16 * i

def State.zoneAt (s : State) (a : Nat) : ZoneEntry :=
  ⟨s.memWord a, s.memWord (a + 4), s.memWord (a + 8), s.memWord (a + 12)⟩

/-- The slots of a key's two buckets, h1 first. -/
def candidateSlots (b : Nat × Nat) : List Nat :=
  [slotAddr b.1 0, slotAddr b.1 1, slotAddr b.1 2, slotAddr b.1 3, slotAddr b.2 0, slotAddr b.2 1, slotAddr b.2 2, slotAddr b.2 3]

/-- The slot that holds a key. -/
def State.zoneFind (s : State) (pre level : Nat) : Option Nat :=
  match s.zoneBuckets pre level with
  | none => none
  | some b => (candidateSlots b).find? fun a =>
      (s.zoneAt a).valid && (s.zoneAt a).w0 == pre && (s.zoneAt a).level == level

/-- The lowest free slot of a bucket. -/
def State.freeSlot (s : State) (bucket : Nat) : Option Nat :=
  ([0, 1, 2, 3].map (slotAddr bucket)).find? fun a => !(s.zoneAt a).valid

/-! ## Table writes and the shadow (R188) -/

/-- Write to the shadow what a table at address `a` now holds (R188). Where the shadow's address faults the shadow engine pauses (R463);
the write, and every one after it, is kept until RESUME, and the command in progress does not end before (log 110). -/
def State.shadowWrite (s : State) (a : Nat) (bytes : List Byte) : State :=
  let keep (s : State) : State := { s with zone := { s.zone with owed := s.zone.owed ++ [(a, bytes)] } }
  if !s.zone.owed.isEmpty then keep s
  else
    match s.clientWrite 0x0B 0 (s.getF F.SHADOW_BASE_BASE * 0x1000 + (a - 0x10000000)) bytes with
    | (some _, s1) => keep (s1.dtuPause 0x0B 0)
    | (none, s1) => s1

/-- The shadow writes kept go on, in their order. -/
def State.shadowFlush (s : State) : State :=
  s.zone.owed.foldl (fun s e => s.shadowWrite e.1 e.2) { s with zone := { s.zone with owed := [] } }

/-- Write bytes of a table and of its shadow; the write belongs to the journal transaction in hand (R188, R395). -/
def State.tableWrite (s : State) (a : Nat) (bytes : List Byte) : State :=
  ((s.storeBytes a bytes).jnote a bytes).shadowWrite a bytes

/-- Clear a range of memory. -/
def State.clearMem (s : State) (lo hi : Nat) : State :=
  { s with mem := { s.mem with bytes := s.mem.bytes.filter fun e => decide (e.1 < lo) || decide (hi ≤ e.1) } }

/-- Clear a range of a table and of its shadow. -/
def State.tableClear (s : State) (a n : Nat) : State :=
  (s.clearMem a (a + n)).shadowWrite a (List.replicate n 0)

def State.zonePut (s : State) (a : Nat) (e : ZoneEntry) : State :=
  s.tableWrite a (wordsBytes [e.w0, e.w1, e.w2, e.w3])

/-! ## INSERT, DELETE, MODIFY (R172, R178, R179) -/

/-- Count a write of the zone store; the entry with its VERSION. -/
def State.zoneVersion (s : State) (e : ZoneEntry) : ZoneEntry × State :=
  let n := (s.zone.writes + 1) % 65536
  ({ e with w3 := n * 65536 }, { s with zone := { s.zone with writes := n } })

/-- The other candidate bucket of the entry in a slot. -/
def State.otherBucket (s : State) (a bucket : Nat) : Option Nat :=
  match s.zoneBuckets (s.zoneAt a).w0 (s.zoneAt a).level with
  | some (b1, b2) => some (if bucket = b1 then b2 else b1)
  | none => none

/-- The relocation chain from a full bucket: the slots displaced, last first, and the slot that is free (R179). A chain that comes back to
a slot it displaces goes round until the limit. -/
def State.chain (s : State) (i bucket : Nat) (acc : List Nat) : Nat → Option (List Nat × Nat)
  | 0 => none
  | n + 1 =>
    let a := slotAddr bucket (i % 4)
    match s.otherBucket a bucket with
    | none => none
    | some b =>
      match s.freeSlot b with
      | some f => some (a :: acc, f)
      | none => s.chain (i + 1) b (a :: acc) n

/-- Advance ZONE_MOVE_GEN (R179, R189). -/
def State.moveGen (s : State) : State := s.setF F.ZONE_MOVE_GEN_GEN (s.getF F.ZONE_MOVE_GEN_GEN + 1)

/-- Carry out the moves of a chain from its far end: each entry goes to the slot that is free (R179). -/
def State.relocate (s : State) : List Nat → Nat → State
  | [], _ => s
  | a :: rest, free =>
    let s1 := s.zonePut free (s.zoneAt a)
    let s2 := { s1.moveGen with zone := { s1.zone with relocates := true } }
    (s2.zonePut a ⟨0, 0, 0, 0⟩).relocate rest a

/-- Set the filter bit of a level in `n` regions from `region` (R174, R179). -/
def State.filterSet (s : State) (level region : Nat) : Nat → State
  | 0 => s
  | n + 1 =>
    let a := 0x10400000 + 4 * region
    (s.tableWrite a (bytesLE (s.memWord a ||| 2 ^ level) 4)).filterSet level (region + 1) n

/-- The regions that a node covers: the first, and how many. -/
def nodeRegions (pre level : Nat) : Nat × Nat :=
  (pre / 65536, if 8 ≤ level then 1 else 4 ^ (8 - level))

def State.zoneCovers (s : State) (e : ZoneEntry) : State :=
  let r := nodeRegions e.w0 e.level
  s.filterSet e.level r.1 r.2

/-- Place a valid entry: RESULT, and the store after it (R179). -/
def State.zoneInsert (s : State) (e : ZoneEntry) : Nat × State :=
  if !e.ok then (4, s)
  else if (s.zoneFind e.w0 e.level).isSome then (2, s)
  else
    match s.zoneBuckets e.w0 e.level with
    | none => (3, s)
    | some (b1, b2) =>
      let place (s : State) (a : Nat) : Nat × State :=
        let (e1, s1) := s.zoneVersion e
        let s2 := (s1.zonePut a e1).zoneCovers e1
        (0, s2.setF F.ZONE_STAT_USED (s2.getF F.ZONE_STAT_USED + 1))
      match s.freeSlot b1 with
      | some a => place s a
      | none =>
        match s.freeSlot b2 with
        | some a => place s a
        | none =>
          match s.chain 0 b1 [] (s.getF F.ZONE_MAXKICK_STEPS) with
          | none => (3, s)
          | some (moves, free) => place (s.relocate moves free) (slotAddr b1 0)

def State.zoneDelete (s : State) (e : ZoneEntry) : Nat × State :=
  if !e.keyOk then (4, s)
  else
    match s.zoneFind e.w0 e.level with
    | none => (1, s)
    | some a => (0, (s.zonePut a ⟨0, 0, 0, 0⟩).setF F.ZONE_STAT_USED (s.getF F.ZONE_STAT_USED - 1))

def State.zoneModify (s : State) (e : ZoneEntry) : Nat × State :=
  if !e.ok then (4, s)
  else
    match s.zoneFind e.w0 e.level with
    | none => (1, s)
    | some a =>
      let (e1, s1) := s.zoneVersion e
      (0, s1.tableWrite (a + 4) (wordsBytes [e1.w1, e1.w2, e1.w3]))

/-- The slots in use. -/
def State.usedSlots (s : State) : List Nat :=
  s.mem.bytes.filterMap fun e =>
    if 0x10000000 ≤ e.1 ∧ e.1 < 0x10400000 ∧ e.1 % 16 = 4 ∧ e.2.toNat % 2 = 1 then some (e.1 - 4) else none

/-- Recompute the filter from the slots. -/
def State.zoneRefilter (s : State) : State :=
  s.usedSlots.foldl (fun s a => s.zoneCovers (s.zoneAt a)) (s.tableClear 0x10400000 0x40000)

/-- Every machine's zone state becomes unknown; the epochs last looked up stay (R175, R177). -/
def State.zoneForget (s : State) : State :=
  { s with zone := { s.zone with mstate := Assoc.mapVals (fun _ => {}) (fun _ z => { epoch := z.epoch }) s.zone.mstate } }

/-- Empty the zone store and its filter. -/
def State.zoneEmpty (s : State) : State :=
  ((s.tableClear 0x10000000 0x400000).tableClear 0x10400000 0x40000).setF F.ZONE_STAT_USED 0

/-- The level ranges obey R173: aligned, inside the store, LOG2_BUCKETS at most 16, no overlap. -/
def State.levelsOk (s : State) : Bool :=
  let lv := (List.range 17).map fun l => (l, s.getF (F.ZONE_LVL_LOG2_BUCKETS l), s.getF (F.ZONE_LVL_BASE l))
  let used := lv.filter fun x => x.2.1 != 0
  used.all fun x => decide (x.2.1 ≤ 16) && x.2.2 % 2 ^ x.2.1 == 0 && decide (x.2.2 + 2 ^ x.2.1 ≤ 65536) &&
    used.all fun y => x.1 == y.1 || decide (x.2.2 + 2 ^ x.2.1 ≤ y.2.2) || decide (y.2.2 + 2 ^ y.2.1 ≤ x.2.2)

/-! ## Cells and machines (R181 to R184) -/

def machAddr (m : Nat) : Nat := 0x10840000 + 64 * m
def cellAddr (c : Nat) : Nat := 0x10440000 + 64 * c

/-- Word `w` of machine record `m` and of cell record `c`. -/
def State.machWord (s : State) (m w : Nat) : Nat := s.memWord (machAddr m + 4 * w)
def State.cellWord (s : State) (c w : Nat) : Nat := s.memWord (cellAddr c + 4 * w)

def State.machValid (s : State) (m : Nat) : Bool := bitAt (s.machWord m 0) 0
def State.machClass (s : State) (m : Nat) : Nat := bitsOf (s.machWord m 0) 7 5

/-- The result of the checks of a global machine index (R184): 0 where it passes. -/
def State.machIndexResult (s : State) (index : Nat) : Nat :=
  if bitsOf index 19 12 ≠ 0 then 1 else if bitsOf index 11 8 ≠ s.member then 2 else 0

/-- The result of the checks of a global cell index (R184). -/
def State.cellIndexResult (s : State) (index : Nat) : Nat :=
  if bitsOf index 19 16 ≠ s.member then 2 else if s.getF F.XTAB_CELL_COUNT_COUNT ≤ bitsOf index 15 0 then 1 else 0

/-- A machine record obeys R182 in words 0 to 7. -/
def machineRecordOk (w : List Nat) : Bool :=
  bitsOf (w.getD 0 0) 15 8 == 0 && bitsOf (w.getD 0 0) 4 2 == 0 && [3, 4, 5, 6, 7].all fun i => w.getD i 0 == 0

/-- Neighbour `k` of a cell record's words: member and cell id. -/
def cellNeighbour (w : List Nat) (k : Nat) : Nat × Nat :=
  (bitsOf (w.getD 3 0) (4 * k + 3) (4 * k), bitsOf (w.getD (4 + k / 2) 0) (16 * (k % 2) + 15) (16 * (k % 2)))

/-- A cell record obeys R183, with `count` cells on member `own`. -/
def cellRecordOk (own count : Nat) (w : List Nat) : Bool :=
  bitsOf (w.getD 0 0) 15 8 == 0 && bitsOf (w.getD 0 0) 2 1 == 0 && bitsOf (w.getD 2 0) 15 4 == 0 &&
    !(bitAt (w.getD 0 0) 0 && bitsOf (w.getD 0 0) 7 4 == 0) && ([12, 13, 14, 15].all fun i => w.getD i 0 == 0) &&
    (List.range 8).all fun k =>
      let (m, c) := cellNeighbour w k
      c == 0xFFFF || m != own || decide (c < count)

/-- Write words of a table record with VERSION one greater than before. -/
def State.recordWrite (s : State) (a : Nat) (w0 : Nat) (rest : List Nat) : State :=
  let v := (bitsOf (s.memWord a) 31 16 + 1) % 65536
  s.tableWrite a (wordsBytes ((w0 % 65536 + v * 65536) :: rest))

/-! ## Lookup (R174 to R177) -/

/-- What a lookup finds: zone id, flags, level, speeds. -/
structure ZoneHit where
  id    : Nat
  flags : Nat
  level : Nat
  speed : Nat
  deriving DecidableEq, Repr

/-- Probe the levels of a filter word from the highest down. `none` is an uncorrectable error at the address given. -/
def State.probe (s : State) (code filter : Nat) : Nat → Nat ⊕ ZoneHit
  | 0 => .inr ⟨0xFFFF, s.getF F.ZONE_DEFAULT_FLAGS_FLAGS, 0, s.getF F.ZONE_DEFAULT_SPEED_SPEED⟩
  | l + 1 =>
    if bitAt filter l then
      match s.zoneBuckets (prefixAt code l) l with
      | none => s.probe code filter l
      | some b =>
        match (candidateSlots b).find? fun a => (s.badWords a 16).any fun e => e.2 == .uncorrectable with
        | some a => .inl a
        | none =>
          match s.zoneFind (prefixAt code l) l with
          | some a => .inr ⟨(s.zoneAt a).id, (s.zoneAt a).flags, l, (s.zoneAt a).w2⟩
          | none => s.probe code filter l
    else s.probe code filter l

/-- Look a Morton code up: the address of a table error, or the result (R174). -/
def State.zoneLookup (s : State) (code : Nat) : Nat ⊕ ZoneHit :=
  let a := 0x10400000 + 4 * (code / 65536)
  if (s.badWords a 4).any fun e => e.2 == .uncorrectable then .inl a
  else s.probe code (s.memWord a) 17

def State.zoneState (s : State) (m : Nat) : ZoneState := Assoc.get (fun _ => {}) s.zone.mstate m

def State.setZoneState (s : State) (m : Nat) (z : ZoneState) : State :=
  { s with zone := { s.zone with mstate := Assoc.put (fun _ => {}) s.zone.mstate m z } }

/-- A violation (R176): the Poppy request, the log entry and the count. -/
def State.violation (s : State) (kind m zone : Nat) : State :=
  let e := 0x80000000 + kind * 0x10000000 + m * 0x100000 + zone
  (((s.pushFifo 0x800BC 16 [BitVec.ofNat 32 e] id).bump F.ZONE_VIOLATIONS_COUNT).raise 0x080 1).zoneRequest m kind

/-- The speed limit of a speed index in mm/s (R172, R190), for index 1 to 14. -/
def State.speedLimit (s : State) (i : Nat) : Nat :=
  if i % 2 = 1 then s.getF (F.ZONE_SPEED_TAB_LOW (i / 2)) else s.getF (F.ZONE_SPEED_TAB_HIGH (i / 2 - 1))

/-- A record's velocity exceeds the limit of its zone (R177). -/
def State.overspeed (s : State) (index ve vn : Nat) : Bool :=
  ve != 0x8000 && vn != 0x8000 && 0 < index && index < 15 &&
    decide (s.speedLimit index ^ 2 < (toSigned 16 ve).natAbs ^ 2 + (toSigned 16 vn).natAbs ^ 2)

/-- Act on the result of a lookup (R176, R177). -/
def State.zoneResult (s : State) (m epoch : Nat) (hit : Option ZoneHit) (ve vn : Nat) : State :=
  let z := s.zoneState m
  match hit with
  | none => (s.violation 4 m 0xFFFF).setZoneState m
      { known := true, outside := true, fast := false, zone := 0xFFFF, flags := 0, level := 0, epoch := epoch }
  | some h =>
    let index := bitsOf h.speed (4 * s.machClass m + 3) (4 * s.machClass m)
    let s1 :=
      if bitAt h.flags 4 then s.violation 1 m h.id
      else if index = 0 then s.violation 3 m h.id
      else if bitAt h.flags 3 && (!z.known || z.outside || z.zone != h.id) then s.violation 2 m h.id
      else s
    let fast := s.overspeed index ve vn
    let s2 := if fast && s.flag F.ZONE_CTRL_SPEED_EVT then s1.raise 0x080 2 else s1
    s2.setZoneState m { known := true, outside := false, fast := fast, zone := h.id, flags := h.flags, level := h.level, epoch := epoch }

/-! ## The shadow engine (R187, R189) -/

/-- A shadow region: offset in the fleet store, and its blocks of 4 KiB (R187, R451). -/
def shadowRegion : Nat → Nat × Nat
  | 0 => (0, 1024)
  | 1 => (0x400000, 64)
  | 2 => (0x440000, 1024)
  | 3 => (0x840000, 4)
  | _ => (0x900000, 5184)

/-- What one repair write copies: an entry of the region; of the filter the two entries of a 64-bit word, which a whole write puts right
(R453). -/
def shadowEntry : Nat → Nat
  | 0 => 16
  | 1 => 8
  | 2 => 64
  | 3 => 64
  | _ => 8

/-- The next enabled region after one, and whether a pass ends there. -/
def State.nextRegion (s : State) (r : Nat) : Nat → Nat × Bool
  | 0 => (r, true)
  | n + 1 =>
    let q := (r + 1) % 5
    let wrap := q == 0
    if bitAt (s.getF F.SHADOW_CTRL_REGION_EN) q then (q, wrap)
    else
      let (x, w) := s.nextRegion q n
      (x, wrap || w)

/-- Go on to the next block. -/
def State.shadowNext (s : State) : State :=
  let z := s.zone
  if z.block + 1 < (shadowRegion z.region).2 then
    { s with zone := { z with block := z.block + 1, discards := 0 } }
  else
    let (r, wrap) := s.nextRegion z.region 5
    let s1 := { s with zone := { z with region := r, block := 0, discards := 0 } }
    if wrap then (s1.setF F.SHADOW_STAT_PASSES (s1.getF F.SHADOW_STAT_PASSES + 1)).raise 0x082 3 else s1

/-- Log an outcome of the shadow engine for a block. -/
def State.shadowLog (s : State) (region block outcome : Nat) : State :=
  s.pushFifo 0x82060 16 [BitVec.ofNat 32 (0x80000000 + region * 0x10000000 + outcome * 0x1000000 + block)] id

/-- Skip the block for this pass (outcome 5). -/
def State.shadowSkip (s : State) : State :=
  (((s.shadowLog s.zone.region s.zone.block 5).bump F.SHADOW_SKIPPED_COUNT).raise 0x082 4).shadowNext

/-- A repair of a zone slot advances ZONE_MOVE_GEN: a lookup that runs now repeats (R189). -/
def State.repairGen (s : State) : State := { s.moveGen with zone := { s.zone with repairAt := some s.now } }

/-- Copy the entries that differ from the shadow or hold an uncorrectable word, one write each; region 0 advances MOVE_GEN first (R189). -/
def State.shadowRepair (s : State) (region a size : Nat) : Nat → List Byte → State
  | 0, _ => s
  | n + 1, sh =>
    let e := sh.take size
    let bad := (s.badWords a size).any fun x => x.2 == .uncorrectable
    let s1 := if !bad && s.memBytes a size == e then s else (if region = 0 then s.repairGen else s).physWrite a e
    s1.shadowRepair region (a + size) size n (sh.drop size)

/-- Count a mismatch. -/
def State.mismatch (s : State) : State :=
  { s.bump F.SHADOW_MISMATCH_COUNT with zone := { s.zone with mismatches := s.zone.mismatches + 1 } }

/-- Compare one block (R189): the state, and whether the engine pauses at its shadow copy. -/
def State.shadowBlock (s : State) (region block : Nat) : Bool × State :=
  let off := (shadowRegion region).1 + 0x1000 * block
  let (sh, s1) := s.clientRead 0x0B 0 (s.getF F.SHADOW_BASE_BASE * 0x1000 + off) 0x1000
  match sh.fault with
  | some _ => (true, s1.dtuPause 0x0B 0)
  | none =>
    (false,
      if sh.bad then ((s1.shadowLog region block 3).mismatch).raise 0x082 2
      else
        let (bad, s2) := s1.eccRead (0x10000000 + off) 0x1000 none
        if !bad && s2.memBytes (0x10000000 + off) 0x1000 == sh.data then s2
        else
          let s3 := s2.mismatch.raise 0x082 0
          if !s3.flag F.SHADOW_CTRL_REPAIR then s3.shadowLog region block 2
          else
            let size := shadowEntry region
            let s4 := s3.shadowRepair region (0x10000000 + off) size (0x1000 / size) sh.data
            ((s4.shadowLog region block (if bad then 4 else 1)).bump F.SHADOW_REPAIRED_COUNT).raise 0x082 1)

/-- The block of a table error is checked at once, whatever the pass is at and whether or not one runs (R176); where the engine is paused
the check is the first thing it does after. -/
def State.shadowCheck (s : State) (region block : Nat) : State :=
  let wait (s : State) : State := { s with zone := { s.zone with check := some (region, block) } }
  if s.dtuIsPaused 0x0B 0 then wait s
  else
    match s.shadowBlock region block with
    | (true, s1) => wait s1
    | (false, s1) => { s1 with zone := { s1.zone with check := none } }

/-- Compare the block in hand (R189); a check that waited goes first. -/
def State.shadowCompare (s : State) (raced : Bool) : State :=
  if s.dtuIsPaused 0x0B 0 then s
  else
    match s.zone.check with
    | some (r, b) => s.shadowCheck r b
    | none =>
      if !s.flag F.SHADOW_CTRL_EN then s
      else if !bitAt (s.getF F.SHADOW_CTRL_REGION_EN) s.zone.region then
        let (r, _) := s.nextRegion s.zone.region 5
        { s with zone := { s.zone with region := r, block := 0, discards := 0 } }
      else if raced then
        if 2 ≤ s.zone.discards then s.shadowSkip
        else { s with zone := { s.zone with discards := s.zone.discards + 1 } }
      else
        match s.shadowBlock s.zone.region s.zone.block with
        | (true, s1) => s1
        | (false, s1) => s1.shadowNext

/-- The shadow engine resumes (R463): the writes kept, then the comparison. -/
def State.shadowResume (s : State) : State :=
  let s1 := s.shadowFlush
  if s1.dtuIsPaused 0x0B 0 then s1 else s1.shadowCompare false

/-- ABORT of the shadow engine's access (R463): the writes kept are lost, and a block in hand is skipped. -/
def State.shadowAbort (s : State) : State :=
  { s with zone := { s.zone with owed := [], check := none } }.shadowSkip

/-! ## Fix records (R175 to R177, R180) -/

/-- Levels of a filter word that a lookup probes. -/
def State.probes (s : State) (filter : Nat) : Bool := (List.range 17).any fun l => bitAt filter l && (s.zoneTable l).isSome

/-- MOVE_GEN may change within a lookup made now (R180): a zone command with relocation steps is in progress, or a repair of the zone store
falls in this tick. -/
def State.mayMove (s : State) : Bool :=
  (s.zone.relocates && s.flag F.ZONE_CMD_STAT_BUSY) || s.zone.repairAt == some s.now

/-- A lookup finds an uncorrectable word at address `a` (R176, R177): KIND 7, the engine checks the block at once; the machine's zone is then
not known (DESIGN CHOICE, log 110). -/
def State.zoneTableError (s : State) (m epoch a : Nat) : State :=
  let s1 := ((s.violation 7 m 0xFFFF).raise 0x080 4).tableEcc 0x080 a
  (s1.setZoneState m { epoch := epoch }).shadowCheck (if a < 0x10400000 then 0 else 1) ((a - 0x10000000) % 0x400000 / 0x1000)

/-- The zone path of a fix record (R175 to R177, R180): status, epoch in full, position, velocity. KIND 5 and 6 come before the
skips, since they need no lookup (R176, R186). `moved` says that a step of MOVE_GEN which may fall within the lookup does. -/
def State.zoneFix (s : State) (m status epoch : Nat) (e n : Int) (ve vn : Nat) (moved : Bool) : State :=
  if !s.flag F.ZONE_CTRL_LOOKUP_EN then s.violation 5 m 0xFFFF
  else if !s.machValid m then s.violation 6 m 0xFFFF
  else if status < s.getF F.ZONE_CTRL_MIN_STATUS then s
  else if epoch < (s.zoneState m).epoch then s
  else
    let s1 := s.bump F.ZONE_LOOKUPS_COUNT
    match siteCode e n with
    | none => s1.zoneResult m epoch none ve vn
    | some code =>
      let filter := s.memWord (0x10400000 + 4 * (code / 65536))
      let s2 := if moved && s.mayMove && s.probes filter then (s1.bump F.ZONE_REPEATS_COUNT).raise 0x080 3 else s1
      match s2.zoneLookup code with
      | .inl a => s2.zoneTableError m epoch a
      | .inr h => s2.zoneResult m epoch (some h) ve vn

/-! ## Site images (R185, R186) -/

/-- The header of an image is correct for this unit, by its bytes (R185, R186). -/
def State.imageHeadOk (s : State) (h : List Byte) : Bool :=
  let word (o : Nat) : Nat := leValue ((h.drop o).take 4)
  word 0 == 0x4B524D42 && word 4 / 65536 == s.member && word 4 % 65536 == 1 && decide (word 0x20 ≤ 65536) &&
    decide (word 0x24 ≤ 262144) && word 0x2C == 64 + 64 * word 0x20 + 16 * word 0x24 &&
    word 0x30 == 0 && word 0x34 == 0 && word 0x38 == 0


/-- A zone entry from its words. -/
def wordsZone (w : List Nat) : ZoneEntry := ⟨w.getD 0 0, w.getD 1 0, w.getD 2 0, w.getD 3 0⟩

/-- The records of an image are valid and no two zones share a key (R186). -/
def State.imageBodyOk (s : State) (cells : List (List Nat)) (zones : List ZoneEntry) : Bool :=
  (cells.all fun w => cellRecordOk s.member cells.length w) && (zones.all fun e => e.ok) &&
    ((zones.map fun e => (e.w0, e.level)).eraseDups.length == zones.length)

/-- An image's cell record as it is installed: VERSION is set by the device, one greater than the record's before (R181, R183). -/
def State.cellInstalled (s : State) (c : Nat) (w : List Nat) : List Nat :=
  (w.getD 0 0 % 65536 + (bitsOf (s.cellWord c 0) 31 16 + 1) % 65536 * 65536) :: w.drop 1

/-- Install a checked image (R186 stage 2): the result and the state. -/
def State.imageInstall (s : State) (h : List Byte) (cells : List (List Nat)) (zones : List ZoneEntry) : Nat × State :=
  let word (o : Nat) : Nat := leValue ((h.drop o).take 4)
  let s1 := (s.zoneEmpty.tableClear 0x10440000 0x400000).zoneForget
  let s2 := (cells.zipIdx).foldl (fun t c => t.tableWrite (cellAddr c.2) (wordsBytes (s.cellInstalled c.2 c.1))) s1
  let s3 := (s2.setF F.XTAB_CELL_COUNT_COUNT cells.length).setF F.ZONE_SITE_ID_ID (word 0x28)
  let s4 := ((s3.setF F.ZONE_ORIGIN_X_ORIGIN (word 8 + 2 ^ 32 * word 0xC)).setF F.ZONE_ORIGIN_Y_ORIGIN
    (word 0x10 + 2 ^ 32 * word 0x14)).setF F.ZONE_ORIGIN_Z_ORIGIN (word 0x18 + 2 ^ 32 * word 0x1C)
  let (bad, s5) := zones.foldl (fun (bad, s) e =>
    if bad then (bad, s) else
      let (r, s') := s.zoneInsert e
      (r != 0, s')) (false, s4)
  if bad then (3, s5.zoneEmpty) else (0, s5)

/-- Run a LOAD (R186): read and check the image, then install it; a translation fault pauses it. -/
def State.zoneLoadRun (s : State) : State :=
  let done (r : Nat) (s : State) : State := { s with zone := { s.zone with result := r, loading := false } }
  let at_ := s.getF F.ZONE_IMG_ADDR_ADDR
  if at_ % 64 ≠ 0 then done 5 s
  else
    let (h, s1) := s.clientRead 0x0C 0 at_ 64
    match h.fault with
    | some _ => { s1.dtuPause 0x0C 0 with zone := { s1.zone with loading := true } }
    | none =>
      if h.bad || !s1.imageHeadOk h.data then done 5 s1
      else
        let nc := leValue ((h.data.drop 0x20).take 4)
        let nz := leValue ((h.data.drop 0x24).take 4)
        let (b, s2) := s1.clientRead 0x0C 0 (at_ + 64) (64 * nc + 16 * nz)
        match b.fault with
        | some _ => { s2.dtuPause 0x0C 0 with zone := { s2.zone with loading := true } }
        | none =>
          let crc := crc32 (h.data.take 0x3C ++ [0, 0, 0, 0] ++ b.data)
          let cells := (chunks 64 nc b.data).map bytesWords
          let zones := (chunks 16 nz (b.data.drop (64 * nc))).map fun x => wordsZone (bytesWords x)
          if b.bad || crc != leValue ((h.data.drop 0x3C).take 4) || !s2.imageBodyOk cells zones then done 5 s2
          else
            let (r, s3) := s2.imageInstall h.data cells zones
            done r s3

/-! ## Direct writes to the fleet store (R181, R451) -/

/-- A direct write to the fleet store (R181, R451). -/
def State.directWrite (s : State) (who : Initiator) (addr : Nat) : State :=
  (s.storeRefused who addr).respond 0 false

end Sys2Proof.Machine
end

