-- ==== Sys2Proof/Machine/RsvOps.lean ====
section
/-! DEFINITION. The reservation store (07_track_planner.md R195 to R201): cells as the planner reads them, records, their chains,
held spans and whether a span fits. -/

namespace Sys2Proof.Machine

/-! ## Cells (R183, R195) -/

def State.cellValid (s : State) (c : Nat) : Bool := bitAt (s.cellWord c 0) 0
def State.cellShared (s : State) (c : Nat) : Bool := s.cellValid c && bitAt (s.cellWord c 0) 3
def State.cellCapacity (s : State) (c : Nat) : Nat := bitsOf (s.cellWord c 0) 7 4

/-- TRAVERSE and GUARD of a cell for a class. -/
def State.cellTraverse (s : State) (c cls : Nat) : Nat := bitsOf (s.cellWord c (8 + cls / 4)) (8 * (cls % 4) + 7) (8 * (cls % 4))
def State.cellGuard (s : State) (c cls : Nat) : Nat := bitsOf (s.cellWord c (10 + cls / 4)) (8 * (cls % 4) + 7) (8 * (cls % 4))

/-- The bits at the even places of a number, gathered: `n` of them. -/
def gather (v : Nat) : Nat → Nat
  | 0 => 0
  | n + 1 => gather v n + bitsOf v (2 * n) (2 * n) * 2 ^ n

/-- The column and the row of a Morton code (R171). -/
def unmorton (v : Nat) : Nat × Nat := (gather v 16, gather (v / 2) 16)

/-- The distance of two cells' centres in mm (R214): 250 mm times that of their grid positions, to the nearest millimetre. -/
def State.cellDist (s : State) (a b : Nat) : Nat :=
  let p := unmorton (s.cellWord a 1)
  let q := unmorton (s.cellWord b 1)
  nearSqrt (62500 * (((p.1 : Int) - q.1).natAbs ^ 2 + ((p.2 : Int) - q.2).natAbs ^ 2))

/-- The site point of a cell's centre in mm: the middle of its 0.25 m square (log 40). -/
def State.cellPoint (s : State) (c : Nat) : Int × Int :=
  let p := unmorton (s.cellWord c 1)
  ((p.1 : Int) * 250 - 8192000 + 125, (p.2 : Int) * 250 - 8192000 + 125)

/-! ## Records (R197, R200) -/

/-- A reservation record, with its index. -/
structure Rsv where
  idx     : Nat
  cell    : Nat
  machine : Nat
  prio    : Nat
  open_   : Bool := false
  doubt   : Bool := false
  edge    : Bool := false
  entry   : Nat
  exit    : Nat := 0xFFFFFFFF
  guard   : Nat := 0
  other   : Nat := 0
  member  : Nat
  tag     : Nat
  deriving DecidableEq, Repr

def rsvAddr (i : Nat) : Nat := 0x10900000 + 16 * i
def linkAddr (i : Nat) : Nat := 0x11900000 + 4 * i
def headAddr (c : Nat) : Nat := 0x11D00000 + 4 * c

/-- A record from its four words. -/
def rsvOf (i : Nat) (w : List Nat) : Rsv :=
  let w0 := w.getD 0 0
  let w3 := w.getD 3 0
  let edge := bitAt w0 1
  { idx := i, cell := bitsOf w0 31 16, machine := bitsOf w0 15 8, prio := bitsOf w0 7 4, open_ := bitAt w0 3, doubt := bitAt w0 2,
    edge := edge, entry := w.getD 1 0, exit := w.getD 2 0, guard := if edge then 0 else bitsOf w3 31 24,
    other := if edge then bitsOf w3 31 16 else 0, member := bitsOf w3 15 12, tag := bitsOf w3 11 0 }

def Rsv.words (r : Rsv) : List Nat :=
  [r.cell % 65536 * 65536 + r.machine % 256 * 256 + r.prio % 16 * 16 + bit r.open_ * 8 + bit r.doubt * 4 + bit r.edge * 2 + 1,
   r.entry % 2 ^ 32, if r.open_ then 0xFFFFFFFF else r.exit % 2 ^ 32,
   (if r.edge then r.other % 65536 * 65536 else r.guard % 256 * 0x1000000) + r.member % 16 * 4096 + r.tag % 4096]

def State.rsv (s : State) (i : Nat) : Rsv := rsvOf i (s.memWords (rsvAddr i) 4)

/-- Every record in use. -/
def State.rsvs (s : State) : List Rsv := s.plan.used.map s.rsv

/-- The tick at which a record's held span ends, excluded; none for an OPEN record (R198, R199). -/
def Rsv.ends (r : Rsv) : Option Nat := if r.open_ && !r.edge then none else some ((r.exit + r.guard) % 2 ^ 32)

/-- Sort by a strict order. -/
def insertWith {α : Type} (lt : α → α → Bool) (x : α) : List α → List α
  | [] => [x]
  | y :: t => if lt x y then x :: y :: t else y :: insertWith lt x t

def sortWith {α : Type} (lt : α → α → Bool) (l : List α) : List α := l.foldr (insertWith lt) []

/-- The order of a cell's chain: ENTRY, then record index (R200). -/
def State.chainLt (s : State) (a b : Rsv) : Bool :=
  let x := tickDiff a.entry s.planTick
  let y := tickDiff b.entry s.planTick
  decide (x < y) || (x == y && decide (a.idx < b.idx))

/-- The records of a cell and of a machine of this member, in chain order. -/
def State.cellChain (s : State) (c : Nat) : List Rsv := sortWith s.chainLt (s.rsvs.filter fun r => r.cell == c)

def State.machRecords (s : State) (m : Nat) : List Rsv :=
  sortWith s.chainLt (s.rsvs.filter fun r => r.machine == m && r.member == s.member)

/-- Write a word of the store where it changes. -/
def State.storeWord (s : State) (a v : Nat) : State := if s.memWord a = v then s else s.tableWrite a (bytesLE v 4)

/-- Write the links of a chain. -/
def State.linkChain (s : State) : List Rsv → State
  | [] => s
  | [r] => s.storeWord (linkAddr r.idx) 0x800FFFFF
  | r :: q :: t => (s.storeWord (linkAddr r.idx) (0x80000000 + q.idx)).linkChain (q :: t)

/-- Write the links and the head of a cell. -/
def State.relink (s : State) (c : Nat) : State :=
  let l := s.cellChain c
  let head := match l with
    | [] => 0xFFFFF
    | r :: _ => l.length * 0x100000 + r.idx
  (s.linkChain l).storeWord (headAddr c) head

/-- The `v`-th index that a rising list of indexes leaves free. -/
def nthFree : List Nat → Nat → Nat
  | [], v => v
  | i :: t, v => if i ≤ v then nthFree t (v + 1) else v

def insertIndex (i : Nat) : List Nat → List Nat
  | [] => [i]
  | j :: t => if i < j then i :: j :: t else if i = j then j :: t else j :: insertIndex i t

/-- Keep PEAK. -/
def State.rsvPeak (s : State) : State :=
  s.setF F.TRACK_RES_PEAK_COUNT (max (s.getF F.TRACK_RES_PEAK_COUNT) s.plan.used.length)

/-- Write a record at its index. -/
def State.rsvPut (s : State) (r : Rsv) : State :=
  (({ s with plan := { s.plan with used := insertIndex r.idx s.plan.used } }.tableWrite (rsvAddr r.idx) (wordsBytes r.words)).relink
    r.cell).rsvPeak

/-- Add a record; which free index it takes is open (log 41); a caller has found room (R212). -/
def State.rsvAdd (s : State) (r : Rsv) : State :=
  let (v, s1) := s.fresh (1048576 - s.plan.used.length)
  s1.rsvPut { r with idx := nthFree s.plan.used v }

/-- Free a record. -/
def State.rsvFree (s : State) (i : Nat) : State :=
  let c := (s.rsv i).cell
  let s1 := { s with plan := { s.plan with used := s.plan.used.filter (· != i), stamped := s.plan.stamped.filter (· != i) } }
  (((s1.tableWrite (rsvAddr i) (List.replicate 16 0)).storeWord (linkAddr i) 0).relink c)

def State.rsvFreeAll (s : State) (l : List Nat) : State := l.foldl (fun s i => s.rsvFree i) s

/-- Room for a change (R200): `add` more records in the store, and no cell past 4,095; `cells` lists the cells of the records
that come, `gone` those of the records that go. -/
def State.rsvRoom (s : State) (cells gone : List Nat) : Bool :=
  decide (s.plan.used.length + cells.length ≤ 1048576 + gone.length) &&
    cells.all fun c => decide ((s.rsvs.filter fun r => r.cell == c).length + cells.count c ≤ 4095 + gone.count c)

/-! ## Spans and fits (R198, R199), with bumps (R215) -/

/-- A held span counted from a tick: its record's kind, cells and holder. -/
structure Held where
  cell    : Nat
  other   : Nat
  edge    : Bool
  machine : Nat
  member  : Nat
  lo      : Int
  hi      : Option Int
  deriving DecidableEq, Repr

/-- The records that go when the records of a machine of this member from tick `cut` on are bumped, and its last cell record
kept. An edge record goes with the record of the cell that it leads into (log 42). -/
def bumpSet (recs : List Rsv) (own x cut : Nat) : List Nat × Option Nat :=
  let mine := recs.filter fun r => r.machine == x && r.member == own
  let cells := mine.filter fun r => !r.edge
  let gone := cells.filter fun r => decide (0 ≤ tickDiff r.entry cut)
  let kept := cells.filter fun r => decide (tickDiff r.entry cut < 0)
  let edges := mine.filter fun r => r.edge &&
    match cells.find? fun d => d.cell == r.other && decide (0 ≤ tickDiff d.entry r.entry) && decide (tickDiff d.entry r.exit < 0) with
    | some d => decide (0 ≤ tickDiff d.entry cut)
    | none => decide (0 ≤ tickDiff r.entry cut)
  let last := kept.foldl (fun (b : Option Rsv) r =>
    match b with
    | some x => if 0 < tickDiff r.entry x.entry then some r else b
    | none => some r) none
  ((gone ++ edges).map fun r => r.idx, last.map fun r => r.idx)

/-- The spans held against a search, counted from tick `base`: bumped records are free, and a bumped machine's last record kept is
OPEN. -/
def heldSpans (recs : List Rsv) (own base : Nat) (bumps : List (Nat × Nat)) : List Held :=
  let sets := bumps.map fun b => bumpSet recs own b.1 b.2
  (recs.filter fun r => !(sets.any fun x => x.1.elem r.idx)).map fun r =>
    { cell := r.cell, other := r.other, edge := r.edge, machine := r.machine, member := r.member, lo := tickDiff r.entry base,
      hi := if sets.any fun x => x.2 == some r.idx then none else r.ends.map fun e => tickDiff e base }

/-- A tick lies before the end of a span. -/
def beforeEnd (t : Int) : Option Int → Bool
  | none => true
  | some h => decide (t < h)

/-- Two half-open spans overlap. -/
def spansMeet (lo : Int) (hi : Option Int) (h : Held) : Bool := beforeEnd h.lo hi && beforeEnd lo h.hi && beforeEnd lo hi && beforeEnd h.lo h.hi

/-- A cell record from `lo` to `hi` fits R198: at every tick fewer than `cap` other machines hold the cell. -/
def cellFits (v : List Held) (own m c cap : Nat) (lo : Int) (hi : Option Int) : Bool :=
  let o := v.filter fun h => !h.edge && h.cell == c && !(h.machine == m && h.member == own) && spansMeet lo hi h
  !beforeEnd lo hi ||
    (lo :: (o.map fun h => h.lo).filter fun p => decide (lo < p)).all fun p =>
      decide ((o.filter fun h => decide (h.lo ≤ p) && beforeEnd p h.hi).length < cap)

/-- An edge record (u, w) from `lo` to `hi` fits R199: no other machine passes from w to u in that time. -/
def edgeFits (v : List Held) (own m u w : Nat) (lo hi : Int) : Bool :=
  !(v.any fun h => h.edge && h.cell == w && h.other == u && !(h.machine == m && h.member == own) && spansMeet lo (some hi) h)

/-- A record fits R198 and R199 against the records `recs`, with the bumps given. -/
def State.recFits (s : State) (recs : List Rsv) (bumps : List (Nat × Nat)) (r : Rsv) : Bool :=
  let v := heldSpans recs s.member r.entry bumps
  let hi := r.ends.map fun e => tickDiff e r.entry
  if r.edge then edgeFits v r.member r.machine r.cell r.other 0 (hi.getD 0)
  else s.cellValid r.cell && cellFits v r.member r.machine r.cell (s.cellCapacity r.cell) 0 hi

/-- A record on a shared cell, or an edge record that leaves or enters one (R224). -/
def State.rsvShared (s : State) (r : Rsv) : Bool := s.cellShared r.cell || (r.edge && s.cellShared r.other)

/-- The records that a commit for machine `m` meets: its own go with it, but for those in doubt (R198, R228). -/
def State.rsvOthers (s : State) (recs : List Rsv) (m : Nat) : List Rsv :=
  recs.filter fun r => !(r.machine == m && r.member == s.member) || r.doubt

/-- The bumps of a plan for machine `m` leave R198 whole: the last record kept of each machine, once OPEN, fits the others, and it is
one that a commit may change (R215, R224, R228; log 42). -/
def State.bumpsFit (s : State) (recs : List Rsv) (m : Nat) (bumps : List (Nat × Nat)) : Bool :=
  let rest := s.rsvOthers recs m
  bumps.all fun b =>
    match (bumpSet rest s.member b.1 b.2).2.bind fun i => rest.find? fun r => r.idx == i with
    | some r => !r.doubt && !s.rsvShared r && s.recFits rest bumps { r with open_ := true }
    | none => true

/-! ## DOUBT (R228, R233) -/

/-- Records with DOUBT. -/
def State.doubts (s : State) : List Rsv := s.rsvs.filter fun r => r.doubt

/-- The last DOUBT record has been cleared (R233). -/
def State.doubtEvent (s : State) (before : State) : State :=
  if !before.doubts.isEmpty && s.doubts.isEmpty then s.raise 0x091 2 else s

end Sys2Proof.Machine
end

