-- ==== Sys2Proof/Machine/SearchOps.lean ====
section
/-! DEFINITION. The planner's search (07_track_planner.md R206 to R210, R214, R215): nodes, moves, order, rounds of 64 lanes, the heap
and the budget. Ticks count from the start tick S. -/

namespace Sys2Proof.Machine

/-- What a search works with: the request and its class, S, the departure tick, the settings, the records at S. -/
structure SearchCtx where
  own     : Nat
  machine : Nat
  cls     : Nat
  prio    : Nat
  start   : Nat
  goal    : Nat
  hold    : Nat
  budget  : Nat
  base    : Nat
  depart  : Int
  horizon : Int
  vmax    : Nat
  bump    : Bool
  maxBump : Nat
  least   : Nat
  recs    : List Rsv

/-- A node: the machine is in the first cell of the route, ready to leave at its last tick; whether the last move was a wait, and
the bumps it needs. -/
structure SearchNode where
  at_   : PlanVisit
  past  : List PlanVisit
  wait  : Bool
  /-- The heuristic of its cell. -/
  h     : Nat
  bumps : List (Nat × Nat)
  deriving DecidableEq, Repr

def SearchNode.tick (n : SearchNode) : Int := n.at_.ready

/-- The heuristic (R208). -/
def State.searchH (s : State) (c : SearchCtx) (cell : Nat) : Nat :=
  if cell = c.goal then 0 else 100 * s.cellDist cell c.goal / max c.vmax 1

/-- The order of R208: f, h, cell id, tick. -/
def nodeLt (a b : SearchNode) : Bool :=
  let fa := a.tick + a.h
  let fb := b.tick + b.h
  decide (fa < fb) || (fa == fb && (decide (a.h < b.h) || (a.h == b.h &&
    (decide (a.at_.cell < b.at_.cell) || (a.at_.cell == b.at_.cell && decide (a.tick < b.tick))))))

/-! ## Spans settled by a move, with bumps (R206, R215) -/

/-- A span that a move settles: a cell record, or an edge record. -/
inductive Span where
  | cell (c : Nat) (lo : Int) (hi : Option Int)
  | edge (u w : Nat) (lo hi : Int)
  deriving DecidableEq, Repr

def State.spanFits (s : State) (c : SearchCtx) (b : List (Nat × Nat)) : Span → Bool
  | .cell x lo hi => cellFits (heldSpans c.recs c.own c.base b) c.own c.machine x (s.cellCapacity x) lo hi
  | .edge u w lo hi => edgeFits (heldSpans c.recs c.own c.base b) c.own c.machine u w lo hi

/-- A record that the search may treat as free (R215); the records that go with it may be neither DOUBT nor on shared cells. -/
def State.mayBump (s : State) (c : SearchCtx) (r : Rsv) : Bool :=
  let sharedRec (r : Rsv) : Bool := s.cellShared r.cell || (r.edge && s.cellShared r.other)
  r.member == c.own && decide (c.prio < r.prio) && !r.open_ && !r.doubt && decide (0 ≤ tickDiff r.entry c.least) && !sharedRec r &&
    (bumpSet c.recs c.own r.machine r.entry).1.all fun i =>
      match c.recs.find? fun q => q.idx == i with
      | some q => !q.doubt && !sharedRec q
      | none => true

/-- The record to bump for a span that does not fit: of those in its way the one with the highest PRIO, then the latest ENTRY, then
the lowest index (log 42). -/
def State.bumpChoice (s : State) (c : SearchCtx) (b : List (Nat × Nat)) (sp : Span) : Option Rsv :=
  let sets := b.map fun x => bumpSet c.recs c.own x.1 x.2
  let inWay (r : Rsv) : Bool :=
    !(r.machine == c.machine && r.member == c.own) && !(sets.any fun x => x.1.elem r.idx) &&
      (heldSpans [r] c.own c.base []).any fun h =>
        let h1 := if sets.any fun x => x.2 == some r.idx then { h with hi := none } else h
        match sp with
        | .cell x lo hi => !h1.edge && h1.cell == x && spansMeet lo hi h1
        | .edge u w lo hi => h1.edge && h1.cell == w && h1.other == u && spansMeet lo (some hi) h1
  (c.recs.filter fun r => inWay r && s.mayBump c r).foldl (fun (best : Option Rsv) r =>
    match best with
    | none => some r
    | some x =>
      let d := tickDiff r.entry x.entry
      if x.prio < r.prio ∨ (x.prio = r.prio ∧ (0 < d ∨ (d = 0 ∧ r.idx < x.idx))) then some r else best) none

/-- The bumps with which a span fits; `n` bounds how many are tried. -/
def State.fitSpan (s : State) (c : SearchCtx) (sp : Span) : Nat → List (Nat × Nat) → Option (List (Nat × Nat))
  | 0, b => if s.spanFits c b sp then some b else none
  | n + 1, b =>
    if s.spanFits c b sp then some b
    else if !c.bump then none
    else
      match s.bumpChoice c b sp with
      | none => none
      | some r =>
        let b1 := insertWith (fun x y => decide (x.1 < y.1)) (r.machine, r.entry) (b.filter fun x => x.1 != r.machine)
        if c.maxBump < b1.length then none else s.fitSpan c sp n b1

/-- The spans that the moves of a route have settled. -/
def State.routeSpans (s : State) (c : SearchCtx) : List PlanVisit → List Span
  | v :: u :: t =>
    .cell u.cell u.entry (some (u.ready + s.cellGuard u.cell c.cls)) :: .edge u.cell v.cell u.entry v.first :: s.routeSpans c (u :: t)
  | _ => []

/-- Settle spans: the bumps with which they all fit, with which the spans settled before still do, and which leave R198 whole. -/
def State.settle (s : State) (c : SearchCtx) (n : SearchNode) (sps : List Span) : Option (List (Nat × Nat)) :=
  let r := sps.foldl (fun (b : Option (List (Nat × Nat))) sp =>
    match b with
    | none => none
    | some x => s.fitSpan c sp (c.recs.length + 1) x) (some n.bumps)
  match r with
  | none => none
  | some b =>
    if b = n.bumps ∨ ((sps ++ s.routeSpans c (n.at_ :: n.past)).all (fun sp => s.spanFits c b sp) ∧ s.bumpsFit c.recs c.machine b) then some b
    else none

/-! ## The frontier (R208, R210) -/

/-- A search in progress. -/
structure Frontier where
  live    : List SearchNode
  done    : List (Nat × Int) := []
  trimmed : Bool := false
  peak    : Nat := 0
  count   : Nat := 0

def sameSpot (a b : SearchNode) : Bool := a.at_.cell == b.at_.cell && a.tick == b.tick

/-- Of two paths to a node the one kept (R208): a traverse before a wait, then the lower cell id before it. -/
def preferred (new old : SearchNode) : Bool :=
  let prev (n : SearchNode) : Nat := match n.past with
    | v :: _ => v.cell
    | [] => 0
  (!new.wait && old.wait) || (!new.wait && !old.wait && decide (prev new < prev old))

/-- Put a node into the frontier (R208, R210). -/
def pushNode (f : Frontier) (n : SearchNode) : Frontier :=
  if f.done.elem (n.at_.cell, n.tick) then f
  else
    match f.live.find? (sameSpot n) with
    | some o => if preferred n o then { f with live := f.live.map fun x => if sameSpot n x then n else x } else f
    | none =>
      let full := decide (65536 ≤ f.live.length)
      let l := (insertWith nodeLt n f.live).take 65536
      { f with live := l, trimmed := f.trimmed || full, peak := max f.peak l.length }

/-! ## Moves (R206) -/

def State.waitMove (s : State) (c : SearchCtx) (n : SearchNode) : Option SearchNode :=
  let u := n.at_
  if c.horizon < n.tick + 1 then none
  else
    (s.settle c n [.cell u.cell u.entry (some (n.tick + 1 + s.cellGuard u.cell c.cls))]).map fun b =>
      { n with at_ := { u with ready := n.tick + 1 }, wait := true, bumps := b }

def State.traverseMove (s : State) (c : SearchCtx) (n : SearchNode) (v : Nat) : Option SearchNode :=
  let u := n.at_
  let t := n.tick
  let tv := s.cellTraverse v c.cls
  if v = u.cell ∨ !s.cellValid v ∨ tv = 0 ∨ c.horizon < t + tv then none
  else
    (s.settle c n [.cell u.cell u.entry (some (t + s.cellGuard u.cell c.cls)), .cell v t (some (t + tv)),
      .edge u.cell v u.entry (t + tv)]).map fun b =>
      { at_ := ⟨v, t, t + tv, t + tv⟩, past := u :: n.past, wait := false, h := s.searchH c v, bumps := b }

/-- The neighbours into which the planner expands (R195). -/
def State.ownNeighbours (s : State) (c : SearchCtx) (cell : Nat) : List Nat :=
  let w := s.memWords (cellAddr cell) 16
  (List.range 8).filterMap fun k =>
    let (m, v) := cellNeighbour w k
    if v != 0xFFFF && m == c.own then some v else none

def State.expandNode (s : State) (c : SearchCtx) (f : Frontier) (n : SearchNode) : Frontier :=
  let f1 := match s.waitMove c n with
    | some x => pushNode f x
    | none => f
  (s.ownNeighbours c n.at_.cell).foldl (fun f v =>
    match s.traverseMove c n v with
    | some x => pushNode f x
    | none => f) f1

/-- The bumps with which a goal node is acceptable (R207). -/
def State.acceptGoal (s : State) (c : SearchCtx) (n : SearchNode) : Option (List (Nat × Nat)) :=
  if n.at_.cell ≠ c.goal then none
  else
    let x := n.at_.entry
    let half := (s.cellTraverse c.goal c.cls + 1) / 2
    let hi : Option Int := if c.hold = 0 then none else some (x + half + c.hold + s.cellGuard c.goal c.cls)
    s.settle c n [.cell c.goal x hi]

/-! ## Rounds (R209, R210) -/

/-- One popped node: an acceptable goal is set aside, another node is expanded while the budget lasts. -/
def State.lane (s : State) (c : SearchCtx) (acc : Frontier × List (SearchNode × List (Nat × Nat))) (n : SearchNode) :
    Frontier × List (SearchNode × List (Nat × Nat)) :=
  match s.acceptGoal c n with
  | some b => (acc.1, acc.2 ++ [(n, b)])
  | none =>
    if c.budget ≤ acc.1.count then acc else (s.expandNode c { acc.1 with count := acc.1.count + 1 } n, acc.2)

/-- Rounds until a goal ends the search, the frontier empties or the budget is reached; a goal popped while a node has a smaller f
returns to the frontier (log 43). -/
def State.searchRounds (s : State) (c : SearchCtx) : Nat → Frontier → Frontier × Option (SearchNode × List (Nat × Nat))
  | 0, f => (f, none)
  | k + 1, f =>
    if f.live.isEmpty then (f, none)
    else
      let popped := f.live.take 64
      let f0 := { f with live := f.live.drop 64, done := f.done ++ popped.map fun n => (n.at_.cell, n.tick) }
      let (f1, goals) := popped.foldl (s.lane c) (f0, [])
      let fOf (n : SearchNode) : Int := n.tick + n.h
      let least (g : SearchNode) : Bool := popped.all (fun n => decide (fOf g ≤ fOf n)) && f1.live.all fun n => decide (fOf g ≤ fOf n)
      match goals with
      | (g, b) :: _ =>
        if least g then (f1, some (g, b))
        else
          let back := goals.map fun x => (x.1.at_.cell, x.1.tick)
          let f2 := goals.foldl (fun f x => pushNode f x.1) { f1 with done := f1.done.filter fun d => !back.elem d }
          if c.budget ≤ f2.count then (f2, none) else s.searchRounds c k f2
      | [] => if c.budget ≤ f1.count then (f1, none) else s.searchRounds c k f1

/-- The segments that a route needs (R214). -/
def routeSegments : List PlanVisit → Nat
  | [] => 0
  | [_] => 1
  | v :: t =>
    let w := (v.ready - v.first).toNat
    (if w = 0 then 1 else 2 + (w + 1676) / 1677) + routeSegments t

/-- The segments of a whole route: START's wait ends at its own centre (R214). -/
def planSegments : List PlanVisit → Nat
  | [] => 0
  | v :: t => (v.ready - v.first).toNat.add 1676 / 1677 + 1 + routeSegments t

/-! ## The request (R203 to R207) -/

/-- A global cell id of this member: its local id. -/
def State.ownCell (s : State) (g : Nat) : Option Nat :=
  if bitsOf g 31 20 = 0 ∧ bitsOf g 19 16 = s.member then some (g % 65536) else none

/-- The cell may be START or GOAL of a class. -/
def State.openTo (s : State) (cls : Nat) (g : Nat) : Bool :=
  match s.ownCell g with
  | some c => s.cellValid c && s.cellTraverse c cls != 0
  | none => false

/-- The request is well formed (R203, R205 BAD_REQUEST). -/
def State.requestOk (s : State) (r : PlanReq) : Bool :=
  !r.bad && s.machValid r.machine && (r.budget == 0 || decide (1024 ≤ r.budget ∧ r.budget ≤ 262144)) && decide (r.hold < 65536) &&
    s.openTo (s.machClass r.machine) r.start && s.openTo (s.machClass r.machine) r.goal && r.start != r.goal

/-- What a search of a request with S = `base` works with. -/
def State.searchCtx (s : State) (r : PlanReq) (base : Nat) : SearchCtx :=
  let lead : Int := s.getF F.TRACK_LEAD_TICKS
  let e := tickDiff r.earliest base
  { own := s.member, machine := r.machine, cls := s.machClass r.machine, prio := r.prio, start := r.start % 65536,
    goal := r.goal % 65536, hold := r.hold, budget := if r.budget = 0 then s.getF F.TRACK_PLAN_BUDGET_NODES else r.budget,
    base := base, depart := if r.earliest ≠ 0 ∧ lead < e then e else lead, horizon := s.getF F.TRACK_HORIZON_TICKS,
    vmax := s.getF (F.TRACK_CLASS_VMAX (s.machClass r.machine)), bump := s.flag F.TRACK_CTRL_BUMP_EN && r.bump,
    maxBump := s.getF F.TRACK_BUMP_MAX, least := (base + s.getF F.TRACK_BUMP_LEAD_TICKS) % 2 ^ 32, recs := s.rsvs }

/-- The search (R204 to R210): what a request with S = `base` finds in the store as it stands. -/
def State.searchRun (s : State) (r : PlanReq) (base : Nat) : PlanFound :=
  if !s.requestOk r then { outcome := 4 }
  else
    let c := s.searchCtx r base
    if !s.spanFits c [] (.cell c.start 0 (some (c.depart + 1))) then { outcome := 3, depart := c.depart }
    else
      let t0 := c.depart + (s.cellTraverse c.start c.cls / 2 : Nat)
      let n0 : SearchNode := { at_ := ⟨c.start, 0, t0, t0⟩, past := [], wait := false, h := s.searchH c c.start, bumps := [] }
      let f0 : Frontier := if c.horizon < t0 then { live := [] } else { live := [n0], peak := 1 }
      match s.searchRounds c (c.budget + 2) f0 with
      | (f, none) =>
        { outcome := if c.budget ≤ f.count then 2 else 1, count := f.count, trimmed := f.trimmed, peak := f.peak, depart := c.depart }
      | (f, some (g, b)) =>
        let route := (g.at_ :: g.past).reverse
        let half := (s.cellTraverse c.goal c.cls + 1) / 2
        { outcome := if 510 < planSegments route then 8 else 0, count := f.count, trimmed := f.trimmed, peak := f.peak,
          depart := c.depart, arrival := g.at_.entry + half, route := route, bumps := b }

end Sys2Proof.Machine
end

