-- ==== Sys2Proof/Machine/Fp.lean ====
section
/-! DEFINITION. Floating-point words of the fix engine's state slots (05_fix_engine.md R132) and of the interpolation of segments
(08_segments_and_axes.md R236): FP64 and FP32 as exact numbers, the number nearest to a quotient, FP64 arithmetic. -/

namespace Sys2Proof.Machine

/-- A quotient rounded to the nearest number, ties to even. -/
def roundEven (a d : Nat) : Nat :=
  let q := a / d
  let r := a % d
  if d < 2 * r ∨ (2 * r = d ∧ q % 2 = 1) then q + 1 else q

/-- The units per one of a format of `f` fraction and `e` exponent bits: its smallest positive number is one unit. -/
def fpUnit (f e : Nat) : Nat := 2 ^ (2 ^ (e - 1) - 2 + f)

/-- The number that a word spells, in units. -/
def fpNum (f e w : Nat) : Int :=
  let ex := w / 2 ^ f % 2 ^ e
  let m := w % 2 ^ f
  let v : Int := ((if ex = 0 then m else (2 ^ f + m) * 2 ^ (ex - 1) : Nat) : Int)
  if bitAt w (f + e) then -v else v

/-- The word nearest to a quotient, ties to even; beyond the largest number, infinity. -/
def fpOf (f e : Nat) (num : Int) (den : Nat) : Nat :=
  let a := num.natAbs * fpUnit f e
  let sh := Nat.log2 (a / den) - f
  let w := min (sh * 2 ^ f + roundEven a (den * 2 ^ sh)) ((2 ^ e - 1) * 2 ^ f)
  if num < 0 then 2 ^ (f + e) + w else w

def fp64Unit : Nat := fpUnit 52 11
def fp64Num (w : Nat) : Int := fpNum 52 11 w
def fp64Of (num : Int) (den : Nat) : Nat := fpOf 52 11 num den

/-! ## FP64 arithmetic: each result is the number nearest to the exact one, ties to even -/

def f64Int (v : Int) : Nat := fp64Of v 1
def f64Add (a b : Nat) : Nat := fp64Of (fp64Num a + fp64Num b) fp64Unit
def f64Sub (a b : Nat) : Nat := fp64Of (fp64Num a - fp64Num b) fp64Unit
def f64Mul (a b : Nat) : Nat := fp64Of (fp64Num a * fp64Num b) (fp64Unit * fp64Unit)

/-- A number over a positive number. -/
def f64Div (a b : Nat) : Nat := fp64Of (fp64Num a) (fp64Num b).toNat

def fp32Unit : Nat := fpUnit 23 8
def fp32Num (w : Nat) : Int := fpNum 23 8 w
def fp32Of (num : Int) (den : Nat) : Nat := fpOf 23 8 num den

end Sys2Proof.Machine
end

