-- ==== Sys2Proof/Machine/Rtcm.lean ====
section
/-! DEFINITION. RTCM 3 messages of the correction output and of uplink payloads (05_fix_engine.md R127, R156 to R158). The layout of
the messages is that of RTCM 10403.3, which the spec names (PRESUMED; log 11). -/

namespace Sys2Proof.Machine

/-! ## Frames -/

/-- One bit of the CRC-24Q register. -/
def crc24Bit (c : Nat) : Nat := if 2 ^ 23 ≤ c then (2 * c) ^^^ 0x1864CFB else 2 * c

def crc24Byte (c : Nat) (b : Byte) : Nat :=
  crc24Bit (crc24Bit (crc24Bit (crc24Bit (crc24Bit (crc24Bit (crc24Bit (crc24Bit (c ^^^ b.toNat * 65536))))))))

/-- CRC-24Q of a list of bytes. -/
def crc24q (l : List Byte) : Nat := l.foldl crc24Byte 0

/-- Fields of bits (width, value), the first most significant, padded with zeros to whole bytes. -/
def packBits (l : List (Nat × Nat)) : List Byte :=
  let w := l.foldl (fun n e => n + e.1) 0
  let v := l.foldl (fun a e => a * 2 ^ e.1 + e.2 % 2 ^ e.1) 0
  bytesBE (v * 2 ^ ((8 - w % 8) % 8)) ((w + 7) / 8)

/-- A signed field; a value that is absent or does not fit has the code of an invalid one. -/
def signedBits (w : Nat) (v : Option Int) : Nat × Nat :=
  (w, match v with
    | some x => if x.natAbs < 2 ^ (w - 1) then ofSigned w x else 2 ^ (w - 1)
    | none => 2 ^ (w - 1))

/-- An RTCM 3 frame of a payload: preamble, length, payload, CRC-24Q (R156). -/
def rtcmFrame (payload : List Byte) : List Byte :=
  let body := 0xD3 :: (bytesBE (payload.length % 1024) 2 ++ payload)
  body ++ bytesBE (crc24q body) 3

/-- The payloads of frames that follow one another, or the cause of R126: 1 for a bad CRC, 2 for a length that does not fit. -/
def rtcmSplit : Nat → List Byte → Except Nat (List (List Byte))
  | 0, _ => .error 2
  | _ + 1, [] => .ok []
  | n + 1, b =>
    let len := beValue ((b.drop 1).take 2) % 1024
    if b.head? ≠ some 0xD3 ∨ b.length < len + 6 then .error 2
    else if crc24q (b.take (len + 3)) ≠ beValue ((b.drop (len + 3)).take 3) then .error 1
    else
      match rtcmSplit n (b.drop (len + 6)) with
      | .ok l => .ok ((b.drop 3).take len :: l)
      | .error c => .error c

/-! ## Quantities -/

/-- A quantity of 2^-10 m as 2^-29 ms of light time. -/
def toLightMs (v : Int) : Int := roundDiv (v * 2 ^ 29 * 1000) (1024 * 299792458)

/-- A carrier phase of 2^-16 cycles as 2^-29 ms of light time. -/
def phaseLightMs (band : Nat) (phase : Int) : Int := roundDiv (phase * 1000 * 2 ^ 29) (carrierHz band * 65536)

/-- The pseudorange of a record, 2^-29 ms; none without TOW_DECODED. -/
def MeasRec.lightRange (r : MeasRec) : Option Int := if r.range = 0 then none else some (toLightMs (toSigned 64 r.range))

/-- The phase range of a record, 2^-16 cycles, aligned to its pseudorange by whole cycles (R125). -/
def MeasRec.aligned (r : MeasRec) : Int := r.phase + 65536 * r.align

/-- −DOPPLER × wavelength of a record (R157), in 1/`k` m/s. -/
def MeasRec.rangeRate (r : MeasRec) (k : Int) : Int := roundDiv (-(r.doppler * 299792458 * k)) (256 * carrierHz r.band)

/-- The lock time indicators of the standard's tables: of MSM4 (4 bits) and MSM7 (10 bits), from ms of lock. -/
def lockInd4 (ms : Nat) : Nat := if ms < 32 then 0 else min 15 (Nat.log2 ms - 4)
def lockInd7 (ms : Nat) : Nat := if ms < 64 then ms else min 704 (ms / 2 ^ (Nat.log2 ms - 5) + 32 * (Nat.log2 ms - 5))

/-! ## Messages of the formatter (R156 to R158) -/

/-- The place of a satellite in the satellite mask, from 1. -/
def msmSat (sys svid : Nat) : Nat := if sys = 3 then svid - 192 else svid

/-- The place of a signal in the signal mask, from 1: 1C, 1X and 5X (R157). -/
def msmSignal (sys band : Nat) : Nat := if band = 1 then 24 else if sys = 1 then 5 else if sys = 2 then 32 else 2

/-- The MSM message of a system: GPS, Galileo, BeiDou, QZSS (R61, R156). -/
def msmType (sys : Nat) (msm7 : Bool) : Nat :=
  (match sys with
   | 0 => 1074
   | 1 => 1094
   | 2 => 1124
   | _ => 1114) + (if msm7 then 3 else 0)

/-- The epoch time of a system (R157): ms of the week of TAI − 19 s, of BeiDou TAI − 33 s. The week begins with TAI second 315,964,819
modulo 604,800, which log 78 fixes. -/
def msmEpoch (sys taiMs : Nat) : Nat := (taiMs + 604800000 - 259200000 - 33000 + 14000 * bit (sys != 2)) % 604800000

/-- The satellites of records, ascending. -/
def recSats (recs : List MeasRec) : List Nat := ((List.range 256).filter fun v => recs.any fun r => r.svid == v)

/-- The record of a satellite on a band. -/
def recOn (recs : List MeasRec) (svid band : Nat) : Option MeasRec := recs.find? fun r => r.svid == svid && r.band == band

/-- The rough range of a satellite, 2^-10 ms. -/
def roughRange (l : List MeasRec) : Option Nat := (l.findSome? fun r => r.lightRange).map fun v => (roundDiv v 524288).toNat

/-- A fine value against a rough range, in `k` units to 2^-29 ms (1/32 to 4). -/
def fineOf (rough : Option Nat) (v : Option Int) : Option Int :=
  match rough, v with
  | some r, some x => some (x - r * 524288)
  | _, _ => none

/-- One MSM of at most 32 satellites of a system. -/
def msmMessage (sys : Nat) (msm7 : Bool) (staid taiMs ext : Nat) (more : Bool) (recs : List MeasRec) : List Byte :=
  let sats := recSats recs
  let bands := [0, 1].filter fun b => recs.any fun r => r.band == b
  -- signals in the order of their places in the mask
  let order := if sys = 2 ∧ bands = [0, 1] then [1, 0] else bands
  let of (v : Nat) : List MeasRec := [0, 1].filterMap (recOn recs v)
  let cells := sats.flatMap fun v => order.filterMap fun b => recOn recs v b
  let rough (v : Nat) := roughRange (of v)
  let rate (v : Nat) : Option Int := ((of v).head?).map fun r => roundDiv (r.rangeRate 10000) 10000
  let head : List (Nat × Nat) := [(12, msmType sys msm7), (12, staid), (30, msmEpoch sys taiMs), (1, bit more), (3, 0), (7, 0), (2, 1), (2, ext),
    (1, 0), (3, 0), (64, sats.foldl (fun a v => a + 2 ^ (64 - msmSat sys v)) 0),
    (32, order.foldl (fun a b => a + 2 ^ (32 - msmSignal sys b)) 0)] ++
    sats.flatMap fun v => order.map fun b => (1, bit (recOn recs v b).isSome)
  let ms := sats.map fun v => (8, ((rough v).map fun x => min 255 (x / 1024)).getD 255)
  let mods := sats.map fun v => (10, ((rough v).map fun x => x % 1024).getD 0)
  let fine (r : MeasRec) := fineOf (rough r.svid) r.lightRange
  let phase (scale : Int) (r : MeasRec) : Option Int :=
    (rough r.svid).map fun x => roundDiv (r.aligned * 1000 * 2 ^ 29 * scale) (carrierHz r.band * 65536) - x * 524288 * scale
  let body : List (Nat × Nat) := if msm7 then
      ms ++ (sats.map fun _ => (4, 0)) ++ mods ++ (sats.map fun v => signedBits 14 (rate v)) ++
      (cells.map fun r => signedBits 20 (fine r)) ++ (cells.map fun r => signedBits 24 (phase 4 r)) ++
      (cells.map fun r => (10, lockInd7 r.lock)) ++ (cells.map fun r => (1, bit r.half)) ++
      (cells.map fun r => (10, min 1023 ((r.cn0 * 16 + 5) / 10))) ++
      cells.map fun r => signedBits 15 ((rate r.svid).map fun x => r.rangeRate 10000 - x * 10000)
    else
      ms ++ mods ++ (cells.map fun r => signedBits 15 ((fine r).map fun v => roundDiv v 32)) ++
      (cells.map fun r => signedBits 22 (phase 1 r)) ++ (cells.map fun r => (4, lockInd4 r.lock)) ++
      (cells.map fun r => (1, bit r.half)) ++ cells.map fun r => (6, min 63 ((r.cn0 + 5) / 10))
  packBits (head ++ body)

/-- Records cut so that each message has at most 32 satellites, the most that 64 cells of two signals allow. -/
def msmCuts (recs : List MeasRec) : List (List MeasRec) :=
  let sats := recSats recs
  let cut (l : List Nat) := recs.filter fun r => l.elem r.svid
  if sats.length ≤ 32 then [recs] else [cut (sats.take 32), cut (sats.drop 32)]

/-- 1005, or 1006 with the antenna height (R158). -/
def stationMessage (staid sysEn : Nat) (height : Option Nat) (pos : Nat × Nat × Nat) : List Byte :=
  packBits ([(12, if height.isSome then 1006 else 1005), (12, staid), (6, 0), (1, sysEn % 2), (1, 0), (1, sysEn / 2 % 2), (1, 0),
    (38, pos.1), (1, 1), (1, 0), (38, pos.2.1), (2, 0), (38, pos.2.2)] ++
    match height with
    | some h => [(16, h)]
    | none => [])

/-- A descriptor string with its length, of at most 31 characters. -/
def descBits (b : List Byte) : List (Nat × Nat) :=
  let n := min 31 (b.headD 0).toNat
  (8, n) :: ((b.drop 1).take n).map fun c => (8, c.toNat)

/-- 1033 (R158): the antenna's descriptor, the setup ID, its serial, and the receiver's type, firmware and serial. -/
def descMessage (staid setup : Nat) (strings : List (List Byte)) : List Byte :=
  packBits ([(12, 1033), (12, staid)] ++ descBits (strings.getD 0 []) ++ [(8, setup)] ++ (strings.drop 1).flatMap descBits)

/-- 1230 (R156): the bias indicator 1 and an empty signal mask. -/
def biasMessage (staid : Nat) : List Byte := packBits [(12, 1230), (12, staid), (1, 1), (3, 0), (4, 0)]

/-! ## Messages of an uplink payload (R127) -/

/-- An MSM message that the device accepts. -/
def isMsm (t : Nat) : Bool := [1074, 1077, 1094, 1097, 1114, 1117, 1124, 1127].elem t

/-- An MSM as it is read: its epoch in ms of TAI's week, its multiple-message bit, the observables, and the lock time indicator of each
signal (2 × satellite + band). -/
structure MsmRead where
  epoch : Nat
  more  : Bool
  msm7  : Bool
  sats  : List SatObs
  locks : List (Nat × Nat)
  deriving DecidableEq, Repr

/-- The type of a message. -/
def rtcmType (p : List Byte) : Nat := beValue (p.take 2) / 16

/-- The system of an MSM (R61). -/
def msmSys (t : Nat) : Nat := if t < 1080 then 0 else if t < 1100 then 1 else if t < 1120 then 3 else 2

/-- The band of a place in the signal mask, where it is a signal of R61. -/
def msmBand (sys sig : Nat) : Option Nat :=
  if 22 ≤ sig ∧ sig ≤ 24 then some 1
  else if (sys = 1 ∧ 2 ≤ sig ∧ sig ≤ 6) ∨ (sys = 2 ∧ 30 ≤ sig) ∨ ((sys = 0 ∨ sys = 3) ∧ sig = 2) then some 0
  else none

/-- The places set in a mask of `n` bits, from 1. -/
def maskPlaces (n v : Nat) : List Nat := (List.range n).filterMap fun i => if bitAt v (n - 1 - i) then some (i + 1) else none

/-- A signed field, none at its invalid code. -/
def signedOf (w v : Nat) : Option Int := if v = 2 ^ (w - 1) then none else some (toSigned w v)

/-- Read an MSM; none where its parts do not fit its length. -/
def readMsm (p : List Byte) : Option MsmRead :=
  let total := 8 * p.length
  let whole := beValue p
  let get (o w : Nat) : Nat := whole / 2 ^ (total - o - w) % 2 ^ w
  let t := get 0 12
  let sys := msmSys t
  let msm7 := t % 10 == 7
  let sats := maskPlaces 64 (get 73 64)
  let sigs := maskPlaces 32 (get 137 32)
  let ns := sats.length
  let mask := sats.length * sigs.length
  let cells := ((sats.zipIdx).flatMap fun a => (sigs.zipIdx).map fun g => (a, g)).filter fun e =>
    get (169 + e.1.2 * sigs.length + e.2.2) 1 == 1
  let nc := cells.length
  let o1 := 169 + mask
  let o2 := o1 + (if msm7 then 36 else 18) * ns
  if total < 169 ∨ 64 < mask ∨ total < o2 + (if msm7 then 80 else 48) * nc then none
  else
    let rough (i : Nat) : Option Nat :=
      let ms := get (o1 + 8 * i) 8
      if ms = 255 then none else some (ms * 1024 + get (o1 + (if msm7 then 12 else 8) * ns + 10 * i) 10)
    let sig (k i band : Nat) : SigObs × Nat :=
      if msm7 then
        let rate := match signedOf 14 (get (o1 + 22 * ns + 14 * i) 14), signedOf 15 (get (o2 + 65 * nc + 15 * k) 15) with
          | some a, some f => some (roundDiv (a * 10000 + f) 10)
          | _, _ => none
        ({ band := band, pr := fineAdd (rough i) (signedOf 20 (get (o2 + 20 * k) 20)),
           ph := fineAdd (rough i) ((signedOf 24 (get (o2 + 20 * nc + 24 * k) 24)).map fun v => roundDiv v 4), rate := rate,
           cn0 := (get (o2 + 55 * nc + 10 * k) 10 + 8) / 16, half := get (o2 + 54 * nc + k) 1 == 1, lli := 0 }, get (o2 + 44 * nc + 10 * k) 10)
      else
        ({ band := band, pr := fineAdd (rough i) ((signedOf 15 (get (o2 + 15 * k) 15)).map fun v => v * 32),
           ph := fineAdd (rough i) (signedOf 22 (get (o2 + 15 * nc + 22 * k) 22)), rate := none,
           cn0 := get (o2 + 42 * nc + 6 * k) 6, half := get (o2 + 41 * nc + k) 1 == 1, lli := 0 }, get (o2 + 37 * nc + 4 * k) 4)
    let read := (cells.zipIdx).filterMap fun e =>
      let svid := if sys = 3 then e.1.1.1 + 192 else e.1.1.1
      match msmBand sys e.1.2.1 with
      | some b => if validSignal sys svid then some (sys * 256 + svid, sig e.2 e.1.1.2 b) else none
      | none => none
    let ids := (read.map fun e => e.1).eraseDups
    let on (x b : Nat) := (read.find? fun e => e.1 == x && e.2.1.band == b).map fun e => e.2
    some { epoch := (get 24 30 + 259200000 + (if sys = 2 then 33000 else 19000)) % 604800000, more := get 54 1 == 1, msm7 := msm7,
           sats := ids.map fun x => ⟨x, [0, 1].filterMap fun b => (on x b).map fun e => e.1⟩,
           locks := ids.flatMap fun x => [0, 1].filterMap fun b => (on x b).map fun e => (2 * x + b, e.2) }
where
  fineAdd (rough : Option Nat) (v : Option Int) : Option Int :=
    match rough, v with
    | some r, some x => some (r * 524288 + x)
    | _, _ => none

end Sys2Proof.Machine
end

