-- ==== Sys2Proof/Machine/SolvOps.lean ====
section
/-! DEFINITION. Corrections and base-side fixes (05_fix_engine.md R121 to R164): frames and their checks, script banks, the
input queue and the tiles, the filter state and its slots, fix records, corrections, shared base sets. -/

namespace Sys2Proof.Machine

/-! ## Machines and modes (R121, R122) -/

def State.smach (s : State) (m : Nat) : SolvMachine := Assoc.get (fun _ => {}) s.solv.machines m

def State.setSmach (s : State) (m : Nat) (x : SolvMachine) : State :=
  { s with solv := { s.solv with machines := Assoc.put (fun _ => {}) s.solv.machines m x } }

/-- The TAI ms nearest the output time that is `e` modulo `w`. -/
def State.nearest (s : State) (w e : Nat) : Nat :=
  let t := s.taiNs / 1000000
  let c := t / w * w + e % w
  if t + w / 2 < c then c - w else if c + w / 2 < t then c + w else c

/-- A TAI time in ms whose low 32 bits are given, nearest the output time (R129). -/
def State.fullEpoch (s : State) (ms : Nat) : Nat := s.nearest (2 ^ 32) ms

/-! ## Compact observation frames (R124) -/


/-- One signal entry at a byte offset, of a satellite with a rough range and rate. -/
def parseSignal (b : List Byte) (o band rough : Nat) (rate : Int) : SigObs :=
  let w0 := wordAt b o
  let w1 := wordAt b (o + 4)
  let fpr := toSigned 20 (bitsOf w0 31 12)
  let frate := toSigned 12 (bitsOf w0 11 0)
  let fph := toSigned 22 (bitsOf w1 31 10)
  let bad := rough == 0x3FFFF
  { band := band,
    pr := if bad ∨ fpr = -524288 then none else some (rough * 524288 + fpr),
    ph := if bad ∨ fph = -2097152 then none else some (rough * 524288 + fph),
    rate := if rate = -8192 ∨ frate = -2048 then none else some (rate * 1000 + frate),
    cn0 := bitsOf w1 9 4, half := bitAt w1 3, lli := bitsOf w1 1 0 }

/-- The satellites of a frame: entries from `o`, signals from `g`. -/
def parseSats (b : List Byte) : Nat → Nat → Nat → List SatObs
  | 0, _, _ => []
  | n + 1, o, g =>
    let w0 := wordAt b o
    let rate := toSigned 14 (bitsOf (wordAt b (o + 4)) 31 18)
    let sat := bitsOf w0 31 30 * 256 + bitsOf w0 29 22
    let l1 := bitAt w0 21
    let l5 := bitAt w0 20
    let s1 := if l1 then [parseSignal b g 0 (bitsOf w0 17 0) rate] else []
    let g5 := if l1 then g + 8 else g
    let s5 := if l5 then [parseSignal b g5 1 (bitsOf w0 17 0) rate] else []
    ⟨sat, s1 ++ s5⟩ :: parseSats b n (o + 8) (if l5 then g5 + 8 else g5)

/-- The presence bits set in the satellite entries. -/
def presentSignals (b : List Byte) : Nat → Nat → Nat
  | 0, _ => 0
  | n + 1, o => bit (bitAt (wordAt b o) 21) + bit (bitAt (wordAt b o) 20) + presentSignals b n (o + 8)

/-- The sizes of a compact frame agree (R124, R126 cause 2), with limits on satellites and signals. -/
def frameSized (b : List Byte) (maxSat maxSig : Nat) : Bool :=
  let nsig := bitsOf (wordAt b 0) 31 24
  let nsat := bitsOf (wordAt b 0) 23 16
  decide (16 ≤ b.length) && decide (1 ≤ nsat) && decide (nsat ≤ maxSat) && decide (1 ≤ nsig) && decide (nsig ≤ maxSig) &&
    b.length == 16 + 8 * nsat + 8 * nsig && presentSignals b nsat 16 == nsig

def frameSats (b : List Byte) : List SatObs :=
  let nsat := bitsOf (wordAt b 0) 23 16
  parseSats b nsat 16 (16 + 8 * nsat)

/-! ## Acceptance and refusal (R126 to R129) -/

/-- Refuse a payload (R126): counted and logged. -/
def State.obsRefuse (s : State) (m cause seq : Nat) : State :=
  ((s.bump F.SOLV_REFUSED_COUNT).raise 0x060 2).pushFifo 0x60098 16
    [BitVec.ofNat 32 (0x80000000 + cause * 0x1000000 + m * 0x10000 + seq % 65536)] id

/-- The machine's run in process, if it has one. -/
def State.inProcess (s : State) (m : Nat) : Bool := s.solv.ctxs.any fun c => c.2.st != .free && !c.2.test && c.2.frame.machine == m

/-- EPOCH_MS is a multiple of the active epoch length. -/
def State.epochOk (s : State) (epoch : Nat) : Bool := epoch % s.epochMs == 0

/-- The stale check (R126 cause 3): not later than the machine's last committed state, or older than the oldest base set kept,
local or shared (R155). -/
def State.stale (s : State) (m epoch : Nat) : Bool :=
  let committed := match (s.smach m).epoch with
    | some e => decide (epoch ≤ e)
    | none => false
  committed || (!s.gnss.baseSets.isEmpty && s.gnss.baseSets.all fun b => decide (epoch < b.epoch))

/-- The duplicate check (R126 cause 4). -/
def State.duplicate (s : State) (m epoch : Nat) : Bool :=
  (s.solv.queue.any fun f => f.machine == m && f.epoch == epoch) ||
    (s.solv.ctxs.any fun c => c.2.st != .free && !c.2.test && c.2.frame.machine == m && c.2.frame.epoch == epoch)

/-- Put a frame at the back of the input queue, or drop it on a full queue (R148). -/
def State.enqueue (s : State) (f : ObsFrame) : State :=
  if 512 ≤ s.solv.queue.length then (s.bump F.SOLV_DROP_COUNT).raise 0x060 3
  else
    let s1 := { s with solv := { s.solv with queue := s.solv.queue ++ [{ f with order := s.solv.order }], order := s.solv.order + 1 } }
    s1.setF F.SOLV_QUEUE_STAT_PEAK (max (s1.getF F.SOLV_QUEUE_STAT_PEAK) s1.solv.queue.length)

/-- Queue an accepted frame (R129). -/
def State.obsQueue (s : State) (m epoch seq : Nat) (offset : Int) (restart doppler : Bool) (sats : List SatObs) : State :=
  s.enqueue
    { machine := m, epoch := epoch, seq := seq, offset := offset, restart := restart, doppler := doppler, sats := sats,
      accepted := s.now, deadline := s.now + 1000 * s.getF F.SOLV_DEADLINE_US, order := 0 }

/-- A compact observation frame (R124, R126), checked in the order of the table. -/
def State.obsFrame (s : State) (m : Nat) (b : List Byte) : State :=
  let w0 := wordAt b 0
  let seq := wordAt b 8 / 65536
  let offset := toSigned 32 (wordAt b 12)
  let epoch := s.fullEpoch (wordAt b 4)
  if b.length < 4 ∨ w0 % 256 ≠ 0xC5 ∨ bitsOf w0 11 8 ≠ 1 then s.obsRefuse m 1 0
  else if !frameSized b 48 96 then s.obsRefuse m 2 seq
  else if s.stale m epoch then s.obsRefuse m 3 seq
  else if s.duplicate m epoch then s.obsRefuse m 4 seq
  else if (s.smach m).mode ≠ 1 then s.obsRefuse m 5 seq
  else if !s.epochOk epoch || decide (1000000 < offset.natAbs) then s.obsRefuse m 6 seq
  else s.obsQueue m epoch seq offset (bitAt w0 13 || bitAt w0 12) true (frameSats b)

/-! ## RTCM payloads (R127) -/

/-- The observables of several messages, joined by satellite in the order in which the satellites first appear. -/
def joinSats (l : List SatObs) : List SatObs :=
  (l.map fun o => o.sat).eraseDups.map fun x => ⟨x, (l.filter fun o => o.sat == x).flatMap fun o => o.sigs⟩

/-- The lock-loss count of a signal: it advances where its lock time indicator falls (R124; DEDUCED, log 108). -/
def nextLock (old : List (Nat × Nat × Nat)) (e : Nat × Nat) : Nat × Nat × Nat :=
  match old.find? fun o => o.1 == e.1 with
  | some o => (e.1, e.2, (o.2.2 + bit (decide (e.2 < o.2.1))) % 4)
  | none => (e.1, e.2, 0)

/-- A payload of RTCM 3 frames (R123, R126, R127). Other messages are counted where the payload is not refused; where it holds no MSM
nothing else follows. -/
def State.rtcmPayload (s : State) (m : Nat) (b : List Byte) : State :=
  if (s.smach m).mode ≠ 1 ∨ !s.flag (F.SOLV_MCFG_RTCM_IN m) then s.obsRefuse m 5 0
  else
    match rtcmSplit (b.length + 1) b with
    | .error c => s.obsRefuse m c 0
    | .ok msgs =>
      let msm := msgs.filter fun p => isMsm (rtcmType p)
      match msm.mapM readMsm with
      | none => s.obsRefuse m 2 0
      | some reads =>
        let sats := joinSats (reads.flatMap fun r => r.sats)
        let s1 := s.bumpBy F.SOLV_REFUSED_COUNT (msgs.length - msm.length)
        match reads with
        | [] => s1
        | r :: _ =>
          let epoch := s.nearest 604800000 r.epoch
          if 48 < sats.length ∨ sats.isEmpty then s.obsRefuse m 2 0
          else if s.stale m epoch then s.obsRefuse m 3 0
          else if s.duplicate m epoch then s.obsRefuse m 4 0
          else if !s.epochOk epoch then s.obsRefuse m 6 0
          else if (reads.getLast?.map fun x => x.more).getD true || !(reads.dropLast.all fun x => x.more) ||
              reads.any (fun x => x.epoch != r.epoch) then s.obsRefuse m 7 0
          else
            let x := s1.smach m
            let locks := (reads.flatMap fun r => r.locks).map (nextLock x.locks)
            let lli (k : Nat) : Nat := ((locks.find? fun o => o.1 == k).map fun o => o.2.2).getD 0
            let kept := x.locks.filter fun o => !(locks.any fun n => n.1 == o.1)
            (s1.setSmach m { x with locks := locks ++ kept }).obsQueue m epoch 0 0 false (reads.all fun r => r.msm7)
              (sats.map fun o => { o with sigs := o.sigs.map fun g => { g with lli := lli (2 * o.sat + g.band) } })

/-! ## Fix records (R144 to R146) -/

/-- A fix record's fields. -/
structure FixRecord where
  member  : Nat
  machine : Nat
  status  : Nat
  late    : Bool
  part    : Bool
  shared  : Bool
  source  : Bool
  reset   : Bool
  cause   : Nat
  epoch   : Nat
  e       : Nat
  n       : Nat
  u       : Nat
  hpl     : Nat
  vpl     : Nat
  ve      : Nat
  vn      : Nat
  nsat    : Nat
  namb    : Nat
  latency : Nat
  /-- OBS_SEQ of the frame, for the entry of a lost packet (R145); no field of the record. -/
  seq     : Nat
  deriving DecidableEq, Repr

def FixRecord.words (r : FixRecord) : List Nat :=
  [0xF1 * 2 ^ 24 + r.member * 2 ^ 20 + r.machine * 2 ^ 12 + r.status * 2 ^ 9 + bit r.late * 2 ^ 8 + bit r.part * 2 ^ 7 +
     bit r.shared * 2 ^ 6 + bit r.source * 2 ^ 5 + bit r.reset * 2 ^ 4 + r.cause,
   r.epoch % 2 ^ 32, r.e % 2 ^ 32, r.n % 2 ^ 32, r.u % 2 ^ 32, r.hpl % 2 ^ 16 * 2 ^ 16 + r.vpl % 2 ^ 16,
   r.ve % 2 ^ 16 * 2 ^ 16 + r.vn % 2 ^ 16, r.nsat * 2 ^ 24 + r.namb * 2 ^ 16 + r.latency]

/-- A record of STATUS 1 or higher re-arms R147 and counts for its epoch; the count itself changes only as epochs end. -/
def State.markGood (s : State) (m epoch : Nat) : State :=
  let x := s.smach m
  s.setSmach m { x with good := (epoch :: x.good).take 8, logged := false }

/-- Emit a record (R145, R146): late and alert events, zone lookup, progress tracker, firmware, radio. -/
def State.emitFix (s : State) (r : FixRecord) (moved : Bool) : State :=
  let s1 := s.bump F.SOLV_FIXES_COUNT
  let s2 := if r.late then (s1.bump F.SOLV_LATE_COUNT).raise 0x060 0 else s1
  let s3 := if 1 ≤ r.status ∧ (s.getF F.SOLV_PL_ALERT_HAL_MM < r.hpl ∨ s.getF F.SOLV_PL_ALERT_VAL_MM < r.vpl) then s2.raise 0x060 9 else s2
  let s4 := if 1 ≤ r.status then s3.markGood r.machine r.epoch else s3
  let s5 := s4.zoneFix r.machine r.status r.epoch (toSigned 32 r.e) (toSigned 32 r.n) r.ve r.vn moved
  let bytes := wordsBytes r.words
  let lost : Lost := ⟨F.SOLV_REFUSED_COUNT, none, some (0x60098, 16, BitVec.ofNat 32 (0x80000000 + r.machine * 0x10000 + r.seq % 65536))⟩
  let s6 := s5.postPacket (s5.getF F.SOLV_OUTQ_TRACK_QUEUE) .solver (some lost) (pack7 bytes)
  let s7 := if s6.flag F.SOLV_OUTQ_FW_EN then
      s6.postPacket (s6.getF F.SOLV_OUTQ_FW_QUEUE) .solver (some lost) (pack7 bytes)
    else s6
  if r.source then s7
  else { s7 with solv := { s7.solv with fixes := (s7.solv.fixes.filter fun f => f.1 != r.machine) ++ [(r.machine, bytes)] } }

/-- A position report (R128): emitted as a record with SOURCE 1. -/
def State.positionReport (s : State) (m : Nat) (b : List Byte) : State :=
  let w0 := wordAt b 0
  let epoch := s.fullEpoch (wordAt b 4)
  if b.length < 4 ∨ w0 % 256 ≠ 0xC6 ∨ bitsOf w0 11 8 ≠ 1 then s.obsRefuse m 1 0
  else if b.length ≠ 24 then s.obsRefuse m 2 0
  else if (s.smach m).mode ≠ 2 ∧ (s.smach m).mode ≠ 3 then s.obsRefuse m 5 0
  else if !s.epochOk epoch then s.obsRefuse m 6 0
  else
    -- a record of STATUS NONE carries no position (R144)
    let none_ := bitsOf w0 14 12 == 0
    let pos (v : Nat) : Nat := if none_ then 0x80000000 else v
    -- whether a step of MOVE_GEN falls within the lookup is left open (R180, log 34)
    let (x, s1) := if s.mayMove then s.fresh 2 else (0, s)
    s1.emitFix
      { member := s.member, machine := m, status := bitsOf w0 14 12, late := false, part := false, shared := false, source := true,
        reset := false, cause := 0, epoch := epoch, e := pos (wordAt b 8), n := pos (wordAt b 12), u := pos (wordAt b 16),
        hpl := if none_ then 0xFFFF else wordAt b 20 / 65536, vpl := if none_ then 0xFFFF else wordAt b 20 % 65536,
        ve := 0x8000, vn := 0x8000, nsat := 0, namb := 0, latency := 0, seq := 0 } (x == 1)

/-- A payload of one uplink frame, by its first byte (R123). -/
def State.uplinkPayload (s : State) (m : Nat) (b : List Byte) : State :=
  match b with
  | t :: _ =>
    if t = 0xC5 then s.obsFrame m b
    else if t = 0xC6 then s.positionReport m b
    else if t = 0xD3 then s.rtcmPayload m b
    else s.obsRefuse m 1 0
  | [] => s.obsRefuse m 1 0

/-! ## Script banks (R133, R134) -/

def opOf (w : Nat) : Nat := w / 0x1000000
def argA (w : Nat) : Nat := bitsOf w 23 16
def argB (w : Nat) : Nat := bitsOf w 15 0

/-- The 64 words of a bank. -/
def State.bankWords (s : State) (bank : Nat) : List Nat :=
  (List.range 64).map fun i => s.getF (if bank = 0 then F.SOLV_SCRIPT_A_WORD i else F.SOLV_SCRIPT_B_WORD i)

/-- What a path has done: FIXOUT and STORE passed (0, 1 or 2), PREDICT seen, DDFORM seen; as an index of 12. -/
def pathIndex (phase : Nat) (pred dd : Bool) : Nat := phase * 4 + bit pred * 2 + bit dd

/-- Where word `i` leads a path in state `k`: the next words with the path's state there, or none where a rule of R134 is broken. -/
def wordNext (ws : List Nat) (i k : Nat) : Option (List (Nat × Nat)) :=
  let w := ws.getD i 0
  let phase := k / 4
  let pred := bitAt k 1
  let dd := bitAt k 0
  let onward := [(i + 1, k)]
  let next : Option (List (Nat × Nat)) :=
    match opOf w with
    | 0x00 => if phase = 2 then some [] else none
    | 0x02 => some [(i + 1, pathIndex phase true dd)]
    | 0x03 => if pred then some [(i + 1, pathIndex phase pred true)] else none
    | 0x04 | 0x05 | 0x07 => if dd then some onward else none
    | 0x01 | 0x06 | 0x08 | 0x0D => some onward
    | 0x09 =>
      if argB w < i ∧ opOf (ws.getD (argB w) 0) = 0x07 then some (if argA w = 0 then onward else (argB w, k) :: onward) else none
    | 0x0A => if phase = 0 then some [(i + 1, pathIndex 1 pred dd)] else none
    | 0x0B => if phase = 1 then some [(i + 1, pathIndex 2 pred dd)] else none
    | 0x0C => if argA w ≤ 3 ∧ i < argB w then some (if argA w = 0 then [(argB w, k)] else (argB w, k) :: onward) else none
    | _ => none
  match next with
  | some l => if l.all fun e => decide (e.1 < 64) then some l else none
  | none => none

/-- Mark path state `e.2` at word `e.1` as met. -/
def markPath (seen : List Nat) (e : Nat × Nat) : List Nat :=
  let m := seen.getD e.1 0
  if bitAt m e.2 then seen else seen.set e.1 (m + 2 ^ e.2)

/-- Follow every path state met at word `i`. -/
def followWord (ws : List Nat) (i : Nat) (seen : List Nat) : Option (List Nat) :=
  ((List.range 12).filter fun k => bitAt (seen.getD i 0) k).foldl (fun r k =>
    match r, wordNext ws i k with
    | some m, some l => some (l.foldl markPath m)
    | _, _ => none) (some seen)

/-- One pass over the words from word 64 − n on. -/
def followPass (ws : List Nat) : Nat → List Nat → Option (List Nat)
  | 0, seen => some seen
  | n + 1, seen =>
    match followWord ws (63 - n) seen with
    | some m => followPass ws n m
    | none => none

/-- Passes until nothing new is met; each pass but the last meets one of the 768 pairs of word and state for the first time. -/
def followAll (ws : List Nat) : Nat → List Nat → Option (List Nat)
  | 0, _ => none
  | n + 1, seen =>
    match followPass ws 64 seen with
    | some m => if m = seen then some seen else followAll ws n m
    | none => none

/-- The rule of R134 for every BRANCH and every VALIDATE of a bank, reachable or not. -/
def wordTargetOk (ws : List Nat) (i : Nat) : Bool :=
  let w := ws.getD i 0
  match opOf w with
  | 0x0C => decide (i < argB w)
  | 0x09 => decide (argB w < i) && opOf (ws.getD (argB w) 0) == 0x07
  | _ => true

/-- A bank may become active (R134): word 0 is LOAD, every BRANCH and every VALIDATE has a fit target, and every path from word 0,
retries included, obeys the rules. -/
def bankOk (ws : List Nat) : Bool :=
  opOf (ws.getD 0 0) == 0x01 && (List.range 64).all (wordTargetOk ws) && (followAll ws 769 (1 :: List.replicate 63 0)).isSome

/-- The command of a write to SOLV_CTRL.BANK (R134). -/
def State.requestBank (s : State) (bank : Nat) : State :=
  if bank = s.getF F.SOLV_STAT_BANK_ACTIVE then
    (s.setF F.SOLV_CTRL_BANK bank).setFlag F.SOLV_STAT_BANK_PENDING false
  else if bankOk (s.bankWords bank) then (s.setF F.SOLV_CTRL_BANK bank).setFlag F.SOLV_STAT_BANK_PENDING true
  else s.raise 0x060 6

/-- At an epoch edge a pending switch applies; the bank is checked again (R134: a bank may become active only if it passes). -/
def State.applyBank (s : State) : State :=
  if !s.flag F.SOLV_STAT_BANK_PENDING then s
  else
    let bank := s.getF F.SOLV_CTRL_BANK
    let s1 := s.setFlag F.SOLV_STAT_BANK_PENDING false
    if bankOk (s.bankWords bank) then (s1.setF F.SOLV_STAT_BANK_ACTIVE bank).raise 0x060 5
    else ((s1.setF F.SOLV_CTRL_BANK (s.getF F.SOLV_STAT_BANK_ACTIVE)).err 0x060 0x12 none 0x40060040).raise 0x060 6

/-- A machine leaves mode 1 (R122): its committed state is discarded, also for a run that has loaded it. -/
def State.leaveSolving (s : State) (m mode : Nat) : State :=
  let s1 := s.setSmach m { s.smach m with mode := mode, discard := true, epoch := none }
  let drop (c : RunCtx) : RunCtx := if !c.test && c.frame.machine == m then { c with dropped := true } else c
  { s1 with solv := { s1.solv with ctxs := s1.solv.ctxs.map fun e => (e.1, drop e.2) } }

/-- At an epoch edge the modes written come into force (R122). -/
def State.applyModes (s : State) : Nat → State
  | 0 => s
  | m + 1 =>
    let x := s.smach m
    let mode := s.getF (F.SOLV_MCFG_MODE m)
    let s1 := if x.mode = mode then s
      else if x.mode = 1 then s.leaveSolving m mode
      else s.setSmach m { x with mode := mode }
    s1.applyModes m

/-! ## Base sets of a frame (R148, R153, R162, R164) -/

/-- The base set of a member for an epoch; one received from the active unit goes before the unit's own (R164). -/
def State.baseOf (s : State) (member epoch : Nat) : Option BaseSet :=
  match s.gnss.baseSets.find? fun b => b.member == member && b.epoch == epoch && !b.own with
  | some b => some b
  | none => s.gnss.baseSets.find? fun b => b.member == member && b.epoch == epoch

/-- The set of an epoch that the unit's own receiver formed. -/
def State.localBase (s : State) (epoch : Nat) : Option BaseSet := s.gnss.baseSets.find? fun b => b.epoch == epoch && b.own

/-- The set of an epoch that comes from another unit: a foreign member's, or on a standby the active unit's. -/
def State.arrivedBase (s : State) (member epoch : Nat) : Bool :=
  s.gnss.baseSets.any fun b => b.member == member && b.epoch == epoch && !b.own

/-- The member of a base-pair run (R162). -/
def ObsFrame.pair (f : ObsFrame) : Option Nat := if 256 ≤ f.machine then some (f.machine - 256) else none

/-- The member whose base set a frame's run uses: BASE_MEMBER of the committed state, else the unit's own; in a base-pair run the
unit's own. -/
def State.runMember (s : State) (f : ObsFrame) : Nat :=
  if f.pair.isNone ∧ (s.smach f.machine).epoch.isSome then s.getF (F.SOLV_MCFG_BASE_MEMBER f.machine) else s.member

/-- A frame waits for a set from another unit: a foreign member's, or on a standby the active unit's (R153, R164). -/
def State.awaitsShare (s : State) (f : ObsFrame) : Bool := s.runMember f != s.member || (s.notActive && f.pair.isNone)

/-- The local base set of an epoch is complete, or can no longer come: a later one exists, no sets are produced, or the 2.5 ms in which
it is complete (R73) are over. -/
def State.localDone (s : State) (epoch : Nat) : Bool :=
  let rx := s.getF F.GNSS_RX_STATE_RX_STATE
  (s.localBase epoch).isSome || !(rx == 1 || rx == 2) || decide (epoch * 1000000 + 2500000 < s.taiNs) ||
    s.gnss.baseSets.any fun b => b.own && decide (epoch < b.epoch)

/-- The wait for a shared set is over (R153): SOLV_SHARE_WAIT after the local set is complete, or where it does not come after the
instant by which it is complete (R73; DEDUCED, log 108). -/
def State.shareWaitOver (s : State) (epoch : Nat) : Bool :=
  let wait := 1000 * s.getF F.SOLV_SHARE_WAIT_US
  match s.localBase epoch with
  | some b => decide (b.doneAt + wait < s.now)
  | none => decide (epoch * 1000000 + 2500000 + wait < s.taiNs)

/-- A queued frame is eligible (R148). -/
def State.eligible (s : State) (f : ObsFrame) : Bool :=
  let ready := if s.awaitsShare f then s.arrivedBase (s.runMember f) f.epoch || s.solv.expired.elem f.epoch else s.localDone f.epoch
  ready && !s.inProcess f.machine && s.getF F.SOLV_TILES_EN != 0 &&
    !(s.solv.queue.any fun g => g.machine == f.machine && decide (g.order < f.order))

/-- The order of frames (R149): deadline, then acceptance, then machine. -/
def ObsFrame.before (a b : ObsFrame) : Bool :=
  decide (a.deadline < b.deadline) || (a.deadline == b.deadline &&
    (decide (a.accepted < b.accepted) || (a.accepted == b.accepted && decide (a.machine < b.machine))))

/-- The first of a list in an order. -/
def firstBy {α : Type} (lt : α → α → Bool) : List α → Option α
  | [] => none
  | x :: xs =>
    match firstBy lt xs with
    | some y => some (if lt y x then y else x)
    | none => some x

/-- The eligible frame with the earliest deadline. -/
def State.nextFrame (s : State) : Option ObsFrame := firstBy ObsFrame.before (s.solv.queue.filter s.eligible)

/-! ## Tiles (R149 to R152) -/

/-- A context that has never run. -/
def noCtx : RunCtx := { frame := ⟨0, 0, 0, 0, false, false, [], 0, 0, 0⟩, script := [] }

/-- Context `k` of tile `n`. -/
def State.ctx (s : State) (n k : Nat) : RunCtx := Assoc.get (fun _ => noCtx) s.solv.ctxs (2 * n + k)

def State.setCtx (s : State) (n k : Nat) (c : RunCtx) : State :=
  { s with solv := { s.solv with ctxs := Assoc.put (fun _ => noCtx) s.solv.ctxs (2 * n + k) c } }

/-- The running context of a tile. -/
def State.running (s : State) (n : Nat) : Option Nat :=
  if (s.ctx n 0).st == .running then some 0 else if (s.ctx n 1).st == .running then some 1 else none

/-- A free context of a tile. -/
def State.freeCtx (s : State) (n : Nat) : Option Nat :=
  if (s.ctx n 0).st == .free then some 0 else if (s.ctx n 1).st == .free then some 1 else none

/-- A tile that may take frames: enabled, not held, not faulted. -/
def State.tileTakes (s : State) (n : Nat) : Bool :=
  bitAt (s.getF F.SOLV_TILES_EN) n && !s.flag (F.ASTER_CTRL_HOLD n) && !s.flag (F.PG_STAT_FAULT (0x061 + n))

/-- The ready context of a tile with the earlier deadline. -/
def State.readyCtx (s : State) (n : Nat) : Option Nat :=
  match (s.ctx n 0).st == .ready, (s.ctx n 1).st == .ready with
  | true, true => some (if (s.ctx n 1).frame.deadline < (s.ctx n 0).frame.deadline then 1 else 0)
  | true, false => some 0
  | false, true => some 1
  | false, false => none

/-- Take a frame from the queue onto a context. -/
def State.startFrame (s : State) (n k : Nat) (f : ObsFrame) : State :=
  let s1 := { s with solv := { s.solv with queue := s.solv.queue.filter fun g => g.order != f.order } }
  (s1.setCtx n k { frame := f, script := s1.bankWords (s1.getF F.SOLV_STAT_BANK_ACTIVE), st := .running }).unwipe (0x061 + n)

/-- A free tile chooses a ready context or an eligible frame (R149). -/
def State.tileChoose (s : State) (n : Nat) : Option State :=
  if (s.running n).isSome || s.flag (F.PG_STAT_FAULT (0x061 + n)) || s.flag (F.ASTER_CTRL_HOLD n) then none
  else
    let frame := if s.tileTakes n then s.nextFrame else none
    match s.readyCtx n, s.freeCtx n, frame with
    | some k, none, _ => some (s.setCtx n k { s.ctx n k with st := .running })
    | some k, some _, none => some (s.setCtx n k { s.ctx n k with st := .running })
    | some k, some j, some f =>
      if f.deadline < (s.ctx n k).frame.deadline then some (s.startFrame n j f)
      else some (s.setCtx n k { s.ctx n k with st := .running })
    | none, some j, some f => some (s.startFrame n j f)
    | none, _, _ => none

/-- The lowest-numbered tile that has a choice makes it. -/
def State.tileDispatch (s : State) (n : Nat) : Nat → State
  | 0 => s
  | k + 1 =>
    match s.tileChoose n with
    | some t => t
    | none => s.tileDispatch (n + 1) k

/-- Pre-emption (R150): the waiting frame takes the free context of the tile whose running context has the latest deadline. -/
def State.preempt (s : State) : State :=
  match s.nextFrame with
  | none => s
  | some f =>
    let free := (List.range 16).any fun n => s.tileTakes n && (s.running n).isNone && (s.freeCtx n).isSome
    let cand := (List.range 16).filterMap fun n =>
      match s.running n, s.freeCtx n with
      | some k, some j => if s.tileTakes n then some (n, k, j, (s.ctx n k).frame.deadline) else none
      | _, _ => none
    match firstBy (fun a b => decide (b.2.2.2 < a.2.2.2)) cand with
    | some (n, k, j, d) =>
      if s.flag F.SOLV_CTRL_PREEMPT_EN ∧ !free ∧ f.deadline + 1000 * s.getF F.SOLV_PREEMPT_US < d then
        ((s.setCtx n k { s.ctx n k with st := .ready }).bump (F.ASTER_PREEMPTS_COUNT n)).startFrame n j f
      else s
    | none => s

/-- Return the frame of a context to the input queue (R152); after its FIXOUT it is not restarted. -/
def State.evictCtx (s : State) (n k : Nat) : State :=
  let c := s.ctx n k
  if c.st == .free then s
  else
    let s1 := (s.setCtx n k noCtx).dtuUnpause 1 (2 * n + k)
    if c.test || c.fixed then s1
    else
      let s2 := { s1 with solv := { s1.solv with queue := s1.solv.queue ++ [c.frame] } }
      s2.setF F.SOLV_QUEUE_STAT_PEAK (max (s2.getF F.SOLV_QUEUE_STAT_PEAK) s2.solv.queue.length)

/-- Count 2 ns of a tile's running time, in whole µs in BUSY_US (R166). -/
def State.busyAdd (s : State) (n : Nat) : State :=
  let v := Assoc.get (fun _ => 0) s.solv.busyNs n + 2
  let s1 := { s with solv := { s.solv with busyNs := Assoc.put (fun _ => 0) s.solv.busyNs n (v % 1000) } }
  if 1000 ≤ v then s1.bump (F.ASTER_BUSY_US_COUNT n) else s1

/-- A tick of the running time of every tile that runs a context (R166). -/
def State.busyEval (s : State) : State :=
  ((List.range 16).filter fun n => (s.running n).isSome).foldl State.busyAdd s

/-! ## State slots (R131, R132) -/

/-- A list cut or padded with zeros to a length. -/
def fit (n : Nat) (l : List Nat) : List Nat := (l.take n) ++ List.replicate (n - l.length) 0

def padBytes (n : Nat) (l : List Byte) : List Byte := l ++ List.replicate (n - l.length) 0

/-- NSTATE of a filter of `k` satellites (R137). -/
def nstate (k : Nat) : Nat := 6 + 3 * (k - 1)

def FilterState.k (f : FilterState) : Nat := max 1 f.sats.length

/-- One SATS entry. -/
def FilterSat.bytes (ref : Nat) (e : FilterSat) : List Byte :=
  [BitVec.ofNat 8 (e.sat / 256), BitVec.ofNat 8 e.sat, BitVec.ofNat 8 (bit e.l1 + 2 * bit e.l5 + 4 * bit (e.sat == ref)),
   BitVec.ofNat 8 (e.lli1 % 4 + 4 * (e.lli5 % 4)), 0, 0, 0, 0] ++ bytesLE e.gf 4 ++ bytesLE e.wl 4

/-- The bytes of a slot with CRC word `crc`. -/
def FilterState.slotBytes (f : FilterState) (machine crc : Nat) : List Byte :=
  let n := nstate f.k
  let head := wordsBytes [0xA9010000 + machine * 256 + f.member * 16, f.seq % 2 ^ 32, f.epoch % 2 ^ 32,
    f.sats.length * 2 ^ 24 + n * 2 ^ 16 + f.ref / 256 * 2 ^ 14 + f.ref % 256 * 2 ^ 6, f.nfixed * 2 ^ 24 + f.obsSeq % 65536, 0, 0, crc]
  let x := (fit n f.x).flatMap fun v => bytesLE v 8
  let sats := f.sats.flatMap (FilterSat.bytes f.ref)
  let p := (fit (n * (n + 1) / 2) f.p).flatMap fun v => bytesLE v 8
  padBytes 0x18000 (padBytes 0x1000 (padBytes 0x600 (padBytes 0x100 head ++ x) ++ sats) ++ p)

/-- A slot with its CRC (R132: over the slot with the CRC word taken as 0). -/
def FilterState.slot (f : FilterState) (machine : Nat) : List Byte :=
  f.slotBytes machine (crc32 (f.slotBytes machine 0))

/-- The CRC-32 that a slot's bytes call for (R132). -/
def slotCrc (b : List Byte) : Nat := crc32 (b.take 0x1C ++ [0, 0, 0, 0] ++ b.drop 0x20)

/-- A slot whose CRC is right (R131). -/
def slotValid (b : List Byte) : Bool := b.length == 0x18000 && slotCrc b == wordAt b 0x1C

/-- A slot that IMPORT may commit for a machine: MARK, CRC and MACHINE (R163). -/
def importValid (machine : Nat) (b : List Byte) : Bool :=
  slotValid b && wordAt b 0 / 2 ^ 24 == 0xA9 && bitsOf (wordAt b 0) 15 8 == machine

/-- A slot with another COMMIT_SEQ, and its CRC. -/
def reseq (b : List Byte) (seq : Nat) : List Byte :=
  let b1 := b.take 4 ++ bytesLE (seq % 2 ^ 32) 4 ++ b.drop 8
  b1.take 0x1C ++ bytesLE (slotCrc b1) 4 ++ b1.drop 0x20

/-- 8-byte words from an offset. -/
def dwords (b : List Byte) (o n : Nat) : List Nat := (List.range n).map fun i => leValue ((b.drop (o + 8 * i)).take 8)

/-- The filter state that a slot holds; the full epoch is taken near `near`. -/
def parseSlot (full : Nat → Nat) (b : List Byte) : FilterState :=
  let w3 := wordAt b 0xC
  let nsat := w3 / 2 ^ 24
  let n := bitsOf w3 23 16
  let sat (i : Nat) : FilterSat :=
    let o := 0x600 + 16 * i
    let q := wordAt b o
    ⟨q % 256 * 256 + bitsOf q 15 8, bitAt q 16, bitAt q 17, bitsOf q 25 24, bitsOf q 27 26, wordAt b (o + 8), wordAt b (o + 12)⟩
  { member := bitsOf (wordAt b 0) 7 4, seq := wordAt b 4, epoch := full (wordAt b 8), ref := bitsOf w3 15 14 * 256 + bitsOf w3 13 6,
    nfixed := wordAt b 0x10 / 2 ^ 24, obsSeq := wordAt b 0x10 % 65536, sats := (List.range nsat).map sat,
    x := dwords b 0x100 n, p := dwords b 0x1000 (n * (n + 1) / 2) }

/-- The address of slot `i` of machine `m` (R131). -/
def State.slotVa (s : State) (m i : Nat) : Nat := s.getF F.SOLV_STATE_BASE_BASE * 0x1000 + m * 0x30000 + i * 0x18000

/-- The valid committed slot of two: the one with the higher COMMIT_SEQ. -/
def chooseSlot (a b : List Byte) : Option (Nat × List Byte) :=
  match slotValid a, slotValid b with
  | true, true => if wordAt a 4 < wordAt b 4 then some (1, b) else some (0, a)
  | true, false => some (0, a)
  | false, true => some (1, b)
  | false, false => none

/-- Write a slot except its header word 1, and then that word where it is to be committed (R131, R163). -/
def State.slotWrite (s : State) (kind who va : Nat) (b : List Byte) (commit : Bool) : Option Nat × State :=
  match s.clientWrite kind who va (b.take 4) with
  | (some c, s1) => (some c, s1)
  | (none, s1) =>
    match s1.clientWrite kind who (va + 8) (b.drop 8) with
    | (some c, s2) => (some c, s2)
    | (none, s2) => if commit then s2.clientWrite kind who (va + 4) ((b.drop 4).take 4) else (none, s2)

/-! ## Filter commands (R163, R165) -/

/-- A command's end: BUSY falls with its RESULT. -/
def State.solvDone (s : State) (result : Nat) : State :=
  { ((s.setFlag F.SOLV_CMD_STAT_BUSY false).setF F.SOLV_CMD_STAT_RESULT result).raise 0x060 7 with
    solv := { s.solv with cmd := none } }

/-- What IMPORT writes beside the slot chosen by LOAD's rule (`top`): the slot's number, the bytes, and the RESULT; 0 where they are
valid and newer than the committed state and so are committed. -/
def State.importSlot (s : State) (m : Nat) (top : Option (Nat × List Byte)) (b : List Byte) : Nat × List Byte × Nat :=
  let dest := match top with
    | some (i, _) => 1 - i
    | none => 0
  let newer := match (s.smach m).discard, top with
    | false, some (_, c) => decide (s.fullEpoch (wordAt c 8) < s.fullEpoch (wordAt b 8))
    | _, _ => true
  if !importValid m b then (dest, b, 2)
  else if !newer then (dest, b, 1)
  else
    match top with
    | some (_, c) => (dest, reseq b (wordAt c 4 + 1), 0)
    | none => (dest, b, 0)

/-- What a machine's committed slots become known by after an import. -/
def State.imported (s : State) (m : Nat) (b : List Byte) : State :=
  (s.setSmach m { s.smach m with epoch := some (s.fullEpoch (wordAt b 8)), discard := false }).setF
    (F.SOLV_MCFG_BASE_MEMBER m) (bitsOf (wordAt b 0) 7 4)

/-- IMPORT and EXPORT (R163), once the machine has no frame in process; a translation fault pauses them. -/
def State.solvTransfer (s : State) (kind m : Nat) : State :=
  let xfer := s.getF F.SOLV_XFER_ADDR_ADDR * 0x1000
  if s.inProcess m then s
  else
    let (a, s1) := s.clientRead 2 0 (s.slotVa m 0) 0x18000
    let (b, s2) := if a.fault.isSome then (a, s1) else s1.clientRead 2 0 (s.slotVa m 1) 0x18000
    if a.fault.isSome || b.fault.isSome then s2.dtuPause 2 0
    else
      let top := chooseSlot a.data b.data
      if kind = 2 then
        let (n, s3) := s2.clientRead 2 0 xfer 0x18000
        if n.fault.isSome then s3.dtuPause 2 0
        else
          let (dest, bytes, result) := s3.importSlot m top n.data
          match s3.slotWrite 2 0 (s3.slotVa m dest) bytes (result == 0) with
          | (some _, s4) => s4.dtuPause 2 0
          | (none, s4) => (if result = 0 then s4.imported m bytes else s4).solvDone result
      else
        match if (s2.smach m).discard then none else top with
        | none => s2.solvDone 2
        | some (_, c) =>
          match s2.clientWrite 2 0 xfer c with
          | (some _, s3) => s3.dtuPause 2 0
          | (none, s3) => s3.solvDone 0

/-- A filter command that waited for a machine's frame goes on (R163). -/
def State.solvRetry (s : State) : State :=
  match s.solv.cmd with
  | some (kind, m) => if s.dtuIsPaused 2 0 then s else s.solvTransfer kind m
  | none => s

/-! ## Corrections (R156 to R160) -/

/-- The messages of an epoch set, with their types (R156 to R158), in the order of R156. -/
def State.corrMessages (s : State) (m : MeasSet) (forced : Bool) : List (Nat × List Byte) :=
  let taiMs := m.instant / 1000000
  let due (f : Fld) : Bool := s.getF f != 0 && taiMs / s.epochMs % s.getF f == 0
  let staid := s.getF F.CORR_STAID_STAID
  let sysEn := s.getF F.CORR_CTRL_SYS_EN
  let msm7 := s.flag F.CORR_CTRL_MSM7
  let base := m.recs.filter fun r => r.base
  let cuts := if bitAt m.flags 3 && due F.CORR_PERIOD_MSM_EP then
      ([0, 1, 3, 2].filter fun y => bitAt sysEn y && base.any fun r => r.sys == y).flatMap fun y =>
        (msmCuts (base.filter fun r => r.sys == y)).map fun l => (y, l)
    else []
  let ext := if s.quality % 16 = 1 ∨ s.quality % 16 = 2 then 1 else 2
  let msm := cuts.zipIdx.map fun e =>
    (msmType e.1.1 msm7, msmMessage e.1.1 msm7 staid taiMs ext (decide (e.2 + 1 < cuts.length)) e.1.2)
  let arp := s.flag F.CORR_STAID_ARP_H
  let sta := if forced || due F.CORR_PERIOD_STA_EP then
      [(if arp then 1006 else 1005, stationMessage staid sysEn (if arp then some (s.getF F.CORR_ARP_H_HEIGHT) else none) (s.antPos m.ant))]
    else []
  let text (i : Nat) : List Byte := (List.range 8).flatMap fun j => bytesLE (s.reg (0x71100 + 32 * i + 4 * j)).toNat 4
  let desc := if due F.CORR_PERIOD_DESC_EP then
      [(1033, descMessage staid (s.getF F.CORR_ARP_H_SETUP_ID) ((List.range 5).map text))]
    else []
  let bias := if due F.CORR_PERIOD_BIAS_EP then [(1230, biasMessage staid)] else []
  msm ++ sta ++ desc ++ bias

/-- The correction formatter after an epoch set is complete (R156 to R160). -/
def State.corrections (s : State) (m : MeasSet) : State :=
  let valid := bitAt m.flags 3
  let pos := s.antPos m.ant
  let now := (s.getF F.CORR_STAID_STAID, s.getF F.CORR_ARP_H_HEIGHT, pos.1, pos.2.1, pos.2.2)
  let forced := bitAt m.flags 4 || (s.solv.station.isSome && s.solv.station != some now)
  let out := (s.corrMessages m forced).map fun e => (e.1, rtcmFrame e.2)
  let bytes : List Byte := out.flatMap fun e => e.2
  let s1 := ((s.setF F.CORR_STAT_BYTES (min 65535 bytes.length)).setF F.CORR_STAT_MSGS out.length).setFlag F.CORR_STAT_SKIPPED (!valid)
  let s2 := if valid then s1 else (s1.bump F.CORR_SKIP_COUNT).raise 0x071 1
  let s3 := s2.bumpBy F.CORR_SENT_COUNT out.length
  let s4 := if forced then s3.raise 0x071 2 else s3
  let s5 := if out.isEmpty then s4 else s4.raise 0x071 0
  let s6 := { s5 with solv := { s5.solv with corr := if s5.flag F.CORR_CTRL_RADIO_EN then out else [], corrNo := s5.solv.corrNo + 1, corrEp := s5.taiNs / 1000000 / s5.epochMs, station := some now } }
  if s6.flag F.CORR_CTRL_MBOX_EN && !bytes.isEmpty then
    s6.postPacket (s6.getF F.CORR_QUEUE_QUEUE) .formatter none (pack7 bytes)
  else s6

/-! ## Base-set sharing (R161) -/

/-- A signed field, with the code of an invalid value where the value is absent or does not fit (R124). -/
def codeField (w : Nat) (v : Option Int) : Nat := (signedBits w v).2

/-- The rough range of a satellite's records for R124, 2^-10 ms; none where none has a pseudorange or it does not fit. -/
def shareRough (l : List MeasRec) : Option Nat :=
  match roughRange l with
  | some v => if v ≤ 262142 then some v else none
  | none => none

/-- The compact entries of one satellite's base records: the satellite entry's words and the signal entries' words (R124, R161). -/
def shareSat (recs : List MeasRec) (sat : Nat) : List Nat × List Nat :=
  let of (band : Nat) := recs.find? fun r => r.sat == sat && r.band == band
  let both := [0, 1].filterMap of
  let rough := shareRough both
  let rate : Option Int := both.head?.map fun r => r.rangeRate 1
  let sig (r : MeasRec) : List Nat :=
    [codeField 20 (fineOf rough r.lightRange) * 2 ^ 12 + codeField 12 (rate.map fun v => r.rangeRate 1000 - v * 1000),
     codeField 22 (fineOf rough (some (phaseLightMs r.band r.aligned))) * 2 ^ 10 + min 63 ((r.cn0 + 5) / 10) * 2 ^ 4 + bit r.half * 2 ^ 3 +
       r.lli % 4]
  ([sat / 256 * 2 ^ 30 + sat % 256 * 2 ^ 22 + bit (of 0).isSome * 2 ^ 21 + bit (of 1).isSome * 2 ^ 20 + rough.getD 0x3FFFF,
    codeField 14 rate * 2 ^ 18], both.flatMap sig)

/-- A share record (R161): a prefix of eight words and a compact frame of the whole base set. -/
def State.shareRecord (s : State) (b : BaseSet) : List Byte :=
  let sats := (b.recs.map fun r => r.sat).eraseDups
  let parts := sats.map (shareSat b.recs)
  let nsig := b.recs.length
  let pos := [b.pos.1, b.pos.2.1, b.pos.2.2].flatMap fun v => [v % 2 ^ 32, v / 2 ^ 32]
  let head := [b.ant * 2 ^ 16 + s.member * 2 ^ 12 + 0x1C7, b.epoch % 2 ^ 32] ++ pos
  let frame := [nsig * 2 ^ 24 + sats.length * 2 ^ 16 + 0x1C5, b.epoch % 2 ^ 32, 0, 0]
  wordsBytes (head ++ frame ++ (parts.flatMap fun p => p.1) ++ parts.flatMap fun p => p.2)

/-- A record of a shared set from its observables; SLIP where its LLI differs from the one in `last`, an earlier set of the member. -/
def shareRec (ant epoch : Nat) (last : Option BaseSet) (sat : Nat) (g : SigObs) (single : Bool) : MeasRec :=
  let old := last.bind fun b => b.recs.find? fun r => r.sat == sat && r.band == g.band
  { ch := 0, ant := ant, band := g.band, sys := sat / 256, svid := sat % 256, flags := 0xC8, cn0 := 10 * g.cn0, lock := 0,
    range := field 64 (roundDiv (g.pr.getD 0 * 1024 * 299792458) (2 ^ 29 * 1000)),
    phase := roundDiv (g.ph.getD 0 * carrierHz g.band * 65536) (2 ^ 29 * 1000),
    doppler := -roundDiv (g.rate.getD 0 * 256 * carrierHz g.band) (299792458 * 1000), half := g.half,
    slip := (old.map fun r => r.lli != g.lli).getD false, cause := 0, elev := Config.sharedElev sat epoch, az := 0, noPartner := single,
    base := true, lli := g.lli }

/-- The base set that a share record carries: records with the observables in record units. -/
def State.parseShare (s : State) (b : List Byte) : Option BaseSet :=
  let body := b.drop 32
  let w0 := wordAt b 0
  let member := bitsOf w0 15 12
  let ant := bitsOf w0 17 16
  let epoch := s.fullEpoch (wordAt b 4)
  if w0 % 256 ≠ 0xC7 ∨ bitsOf w0 11 8 ≠ 1 ∨ !frameSized body 127 254 then none
  else
    let earlier := s.gnss.baseSets.filter fun x => x.member == member && !x.own && decide (x.epoch < epoch)
    let last := firstBy (fun x y => decide (y.epoch < x.epoch)) earlier
    let recs := (frameSats body).flatMap fun o => o.sigs.map fun g => shareRec ant epoch last o.sat g (o.sigs.length == 1)
    some { member := member, epoch := epoch, ant := ant, valid := true, recs := recs, doneAt := s.now,
           pos := (leValue ((b.drop 8).take 8), leValue ((b.drop 16).take 8), leValue ((b.drop 24).take 8)) }

/-- A shared record's observables as a frame reports them (R162). -/
def MeasRec.obs (r : MeasRec) : SigObs :=
  { band := r.band, pr := r.lightRange, ph := some (phaseLightMs r.band r.aligned), rate := some (r.rangeRate 1000), cn0 := (r.cn0 + 5) / 10,
    half := r.half, lli := r.lli % 4 }

/-- The base-pair run of a foreign member for an epoch (R162), queued once both sets are there: the foreign antenna against the unit's
own, due at the epoch's edge plus the epoch length. -/
def State.pairStart (s : State) (member epoch : Nat) : State :=
  match s.baseOf member epoch, s.baseOf s.member epoch with
  | some f, some o =>
    if member = s.member ∨ !f.valid ∨ !o.valid ∨ s.duplicate (256 + member) epoch then s
    else
      let sats := (f.recs.map fun r => r.sat).eraseDups.map fun x => ⟨x, (f.recs.filter fun r => r.sat == x).map MeasRec.obs⟩
      s.enqueue
        { machine := 256 + member, epoch := epoch, seq := 0, offset := 0, restart := false, doppler := true, sats := sats, accepted := s.now,
          deadline := s.now + ((epoch + s.epochMs) * 1000000 - s.taiNs), order := 0 }
  | _, _ => s

/-- The base-pair runs that a local set of an epoch makes possible. -/
def State.pairStarts (s : State) (epoch : Nat) : State :=
  ((List.range 16).filter fun m => s.arrivedBase m epoch).foldl (fun s m => s.pairStart m epoch) s

end Sys2Proof.Machine
end

