-- ==== Sys2Proof/Machine/PlanOps.lean ====
section
/-! DEFINITION. Results, events, segments and the commit of the planner (07_track_planner.md R202 to R205, R212 to R216, R222). -/

namespace Sys2Proof.Machine

/-! ## Results and events (R205, R222) -/

def planLost : Option Lost := some ⟨F.TRACK_EVT_LOST_COUNT, some (0x090, 1), none⟩

/-- Post the result of a request (R205). -/
def State.planResult (s : State) (r : PlanReq) (f : PlanFound) (out pid slot bumped arrival : Nat) : State :=
  let s1 := s.setF F.TRACK_PLAN_SEARCH_OUTCOME out
  let s2 := if out = 0 then (s1.bump F.TRACK_PLAN_PLANS_COUNT).raise 0x092 0 else (s1.bump F.TRACK_PLAN_FAILS_COUNT).raise 0x092 1
  s2.postPacket (s2.getF F.TRACK_QUEUES_RES_QUEUE) .planner planLost
    [r.tag * 2 ^ 48 + r.machine * 2 ^ 40 + out * 2 ^ 36 + bumped * 2 ^ 33 + slot * 2 ^ 32 + pid,
     bit f.trimmed * 2 ^ 55 + f.count * 2 ^ 32 + arrival]

/-- Post an event (R222): KIND, machine, DETAIL, PLAN_ID. -/
def State.planEvent (s : State) (kind m detail pid : Nat) : State :=
  if s.flag F.TRACK_QUEUES_EVT_EN then
    ((s.bump F.TRACK_REPLANS_COUNT).raise 0x090 0).post (s.getF F.TRACK_QUEUES_EVT_QUEUE) .planner
      (kind * 2 ^ 52 + m * 2 ^ 40 + detail * 2 ^ 32 + pid) planLost
  else s

/-! ## The planner's words (R202) -/

/-- Write planner words of a machine record: the whole record, with VERSION one greater. -/
def State.planWords (s : State) (m : Nat) (upd : List (Nat × Nat)) : State :=
  let w := (List.range 16).map fun i =>
    match upd.find? fun u => u.1 == i with
    | some u => u.2 % 2 ^ 32
    | none => s.machWord m i
  s.recordWrite (machAddr m) (w.getD 0 0) (w.drop 1)

def State.planSlot (s : State) (m : Nat) : Nat := bitsOf (s.machWord m 12) 3 3
def State.planActive (s : State) (m : Nat) : Bool := bitAt (s.machWord m 12) 0

/-- The next plan id (R202): member and commit sequence. -/
def State.newPlanId (s : State) : Nat × State :=
  let q := (s.getF F.TRACK_PLAN_COMMIT_SEQ_SEQ + 1) % 2 ^ 28
  (s.member * 2 ^ 28 + q, (s.setF F.TRACK_PLAN_COMMIT_SEQ_SEQ q).jnoteObj 0x0B 0 [])

/-! ## Segments (R213, R214, R234) -/

/-- A part of a plan: its end in half millimetres along the route, its ticks, a wait, an end at a centre, the cell in which it
ends. -/
structure PlanPart where
  end2   : Int
  ticks  : Nat
  wait   : Bool
  centre : Bool
  aux    : Nat
  deriving DecidableEq, Repr

/-- A wait of `w` ticks at a centre, in waits of 1,677 ticks or less. -/
def waitParts (pos : Int) (aux : Nat) : Nat → Nat → List PlanPart
  | 0, _ => []
  | n + 1, w => if w = 0 then [] else ⟨2 * pos, min w 1677, true, true, aux⟩ :: waitParts pos aux n (w - 1677)

/-- The parts of a route after START (R214): its cells with their distances. -/
def routeParts : List (PlanVisit × Int) → List PlanPart
  | [] => []
  | [(v, p)] => [⟨2 * p, ((v.first - v.entry).toNat + 1) / 2, false, true, v.cell⟩]
  | (v, p) :: (u, q) :: t =>
    let tv := (v.first - v.entry).toNat
    let w := (v.ready - v.first).toNat
    (if w = 0 then [⟨p + q, tv, false, false, u.cell⟩]
     else [⟨2 * p, (tv + 1) / 2, false, true, v.cell⟩] ++ waitParts p v.cell (w / 1677 + 1) w ++ [⟨p + q, tv / 2, false, false, u.cell⟩]) ++
      routeParts ((u, q) :: t)

/-- The parts of a whole plan that departs at `depart`; a part of 0 ticks gives no segment (log 44). -/
def planParts (depart : Int) : List (PlanVisit × Int) → List PlanPart
  | (v, p) :: (u, q) :: t =>
    let w := (v.ready - v.first).toNat
    ((waitParts p v.cell (w / 1677 + 1) w ++ [(⟨p + q, (v.first - depart).toNat, false, false, u.cell⟩ : PlanPart)]) ++
      routeParts ((u, q) :: t)).filter fun x => x.ticks != 0
  | _ => []

/-- A part's mean speed in 24.8 mm/s, rounded toward zero. -/
def PlanPart.mean (x : PlanPart) (prev : Int) : Int := if x.wait then 0 else (x.end2 - prev) * 12800 / x.ticks

/-- The segments of parts: end velocity 0 at rest and at the end, else the smaller of two mean speeds. -/
def partSegments (seq : Nat) (prev : Int) : List PlanPart → List Segment
  | [] => []
  | [x] => [{ dur := x.ticks * 10000, pos := roundAway x.end2 2, vel := 0, wait := x.wait, last := true, aux := x.aux, seq := seq % 65536 }]
  | x :: y :: t =>
    { dur := x.ticks * 10000, pos := roundAway x.end2 2, wait := x.wait, last := false, aux := x.aux, seq := seq % 65536,
      vel := if x.wait || x.centre then 0 else min (x.mean prev) (y.mean x.end2) } :: partSegments (seq + 1) x.end2 (y :: t)

def Segment.words (g : Segment) : List Nat :=
  [bit g.evt * 2 ^ 26 + bit g.last * 2 ^ 25 + bit g.wait * 2 ^ 24 + g.dur, ofSigned 32 g.pos, ofSigned 32 g.vel, g.aux * 65536 + g.seq]

/-- A segment record's fields (R234). -/
def segmentOf (w : List Nat) : Segment :=
  let w0 := w.getD 0 0
  { dur := bitsOf w0 23 0, pos := toSigned 32 (w.getD 1 0), vel := toSigned 32 (w.getD 2 0), wait := bitAt w0 24, last := bitAt w0 25,
    evt := bitAt w0 26, aux := w.getD 3 0 / 65536, seq := w.getD 3 0 % 65536 }

/-- The position in a segment in FP64 (R235, R236), its terms and factors in the order in which R235 writes them (log 113). -/
def hermite64 (T t : Nat) (p0 v0 p1 v1 : Int) : Nat :=
  let n (v : Int) : Nat := f64Int v
  let dur := f64Div (n T) (n 1000000)
  let x := f64Div (n t) (n T)
  let x2 := f64Mul x x
  let x3 := f64Mul x2 x
  let vel (v : Int) : Nat := f64Div (n v) (n 256)
  let a := f64Mul (f64Add (f64Sub (f64Mul (n 2) x3) (f64Mul (n 3) x2)) (n 1)) (n p0)
  let b := f64Mul (f64Mul (f64Add (f64Sub x3 (f64Mul (n 2) x2)) x) dur) (vel v0)
  let c := f64Mul (f64Add (f64Mul (n (-2)) x3) (f64Mul (n 3) x2)) (n p1)
  let d := f64Mul (f64Mul (f64Sub x3 x2) dur) (vel v1)
  f64Add (f64Add (f64Add a b) c) d

/-- The distances of a route's centres along it (R214). -/
def State.routeDist (s : State) (from_ : Int) : List Nat → List Int
  | a :: b :: t => from_ :: s.routeDist (from_ + s.cellDist a b) (b :: t)
  | [_] => [from_]
  | [] => []

/-- A segment slot's bytes (R213). -/
def slotBytes (m pid start firstSeq arrival : Nat) (open_ cut : Bool) (segs : List Segment) : List Byte :=
  let body := wordsBytes (segs.flatMap fun g => g.words)
  let head (crc : Nat) := wordsBytes [0xB5010000 + m * 0x100 + bit open_ * 2 + bit cut, pid, start, segs.length * 65536 + firstSeq, arrival,
    0, 0, crc]
  head (crc32 (head 0 ++ body)) ++ body

/-- The virtual address of a segment slot. -/
def State.segSlotVa (s : State) (m slot : Nat) : Nat := s.getF F.TRACK_SEG_BASE_BASE * 0x400000 + m * 0x4000 + slot * 0x2000

/-- Write a segment slot: the segments, then the header (R213). -/
def State.writeSlot (s : State) (m slot : Nat) (b : List Byte) : State :=
  let va := s.segSlotVa m slot
  (((s.clientWrite 3 0 (va + 32) (b.drop 32)).2.clientWrite 3 0 va (b.take 32)).2).jnoteObj 0x07 (2 * m + slot) b

/-- Probe the two pages of a segment slot for write (R465); the translations found are locked until the commit ends (R467). -/
def State.probeSlot (s : State) (m slot : Nat) : Option Nat × State :=
  match s.clientProbe 3 0 3 (s.segSlotVa m slot) 0x2000 with
  | (some c, s1) => (some c, s1)
  | (none, s1) => (none, s1.dtuLock 3 0 2 (s1.segSlotVa m slot))

/-- A probe has faulted (R465): the planner pauses, what was found is discarded, and its locks end. -/
def State.planPause (s : State) (x : PlanSearch) : State :=
  { s.dtuUnlock.dtuPause 3 0 with plan := { s.plan with search := some { x with ready := false } } }

/-- The end of an older table's delivery at a newer commit (R240). -/
def State.segCut (s : State) (m : Nat) : State :=
  { s with seg := { s.seg with tables := Assoc.mapVals (fun _ => {}) (fun k t => if k = m then { t with running := false } else t) s.seg.tables } }

/-! ## What the tracker follows -/

def State.track (s : State) (m : Nat) : Option TrackPlan := Assoc.get (fun _ => none) s.plan.plans m

def State.setTrack (s : State) (m : Nat) (t : Option TrackPlan) : State :=
  { s with plan := { s.plan with plans := Assoc.put (fun _ => none) s.plan.plans m t } }

/-- The cell records of a machine's current plan, in the order of its route. -/
def State.planRecords (s : State) (m : Nat) : List Rsv :=
  (s.machRecords m).filter fun r => !r.edge && decide (0 ≤ tickDiff r.entry (s.machWord m 13)) &&
    (r.tag != 0 || s.machWord m 8 % 4096 == 0)

/-- Follow the plan of a machine's record: its route from the records of the store, its table from the segments given. -/
def State.trackMake (s : State) (m start firstSeq : Nat) (segs : List Segment) : State :=
  let recs := s.planRecords m
  let cells := recs.map fun r => r.cell
  let total := ((segs.getLast?).map fun g => g.pos).getD 0
  let d0 := s.routeDist 0 cells
  let off := total - (d0.getLast?).getD 0
  s.setTrack m (some
    { plan := s.machWord m 8, start := start, firstSeq := firstSeq, arrival := s.machWord m 14, segs := segs,
      cells := recs.map fun r => (r.cell, r.idx), points := cells.map s.cellPoint, dist := d0.map fun d => d + off })

/-! ## Bumping (R216) -/

/-- The cut table of a bumped machine: the segments kept and the one or more that end it. -/
def State.cutTable (s : State) (x : Nat) (t : TrackPlan) (k : Nat) : List Segment × Nat :=
  let cell := (t.cells.getD k (0, 0)).1
  if k = 0 then
    -- START is the last cell kept: the machine stays at rest at its centre (log 45)
    let waits := t.segs.takeWhile fun g => g.wait
    let l := if waits.isEmpty then [{ dur := 10000, pos := 0, vel := 0, wait := true, last := true, aux := cell, seq := t.firstSeq : Segment }]
      else waits.dropLast ++ (waits.getLast?.toList.map fun g => { g with last := true })
    (l, (t.start + (l.foldl (fun n g => n + g.dur) 0) / 10000) % 2 ^ 32)
  else
    let enter := roundAway (t.dist.getD (k - 1) 0 + t.dist.getD k 0) 2
    let i := ((t.segs.findIdx? fun g => !g.wait && g.aux == cell && g.pos == enter).getD (t.segs.length - 1))
    let kept := t.segs.take (i + 1)
    let half := max ((s.cellTraverse cell (s.machClass x) + 1) / 2) 1
    let seq := ((kept.getLast?.map fun g => g.seq).getD t.firstSeq + 1) % 65536
    (kept ++ [{ dur := half * 10000, pos := t.dist.getD k 0, vel := 0, wait := false, last := true, aux := cell, seq := seq }],
     ((s.rsv (t.cells.getD k (0, 0)).2).entry + half) % 2 ^ 32)

/-- Release a machine's records from a tick on and make its last cell record kept OPEN, which is named (R216). -/
def State.bumpFree (s : State) (b : Nat × Nat) : Option Nat × State :=
  let (gone, last) := bumpSet s.rsvs s.member b.1 b.2
  let s1 := s.rsvFreeAll gone
  (last, match last with
    | some i => s1.rsvPut { s1.rsv i with open_ := true, exit := 0xFFFFFFFF }
    | none => s1)

/-- Cut the table of a machine whose records have been bumped by machine `by_`, `last` the record kept (R216). The outputs made come
with the state. -/
def State.bumpMachine (s2 : State) (by_ x : Nat) (last : Option Nat) : State × List HeldOut :=
  let w12 := s2.machWord x 12 ||| 4
  let k : Option Nat := match s2.track x, last with
    | some (t : TrackPlan), some (i : Nat) => t.cells.findIdx? fun (c : Nat × Nat) => c.2 == i
    | _, _ => none
  match s2.track x, k with
  | some t, some k =>
    let (segs, arrival) := s2.cutTable x t k
    let (pid, s3) := s2.newPlanId
    let slot := 1 - s3.planSlot x
    let s4 := (s3.writeSlot x slot (slotBytes x pid t.start t.firstSeq arrival true true segs)).segCut x
    let next := ((segs.getLast?.map fun (g : Segment) => g.seq).getD t.firstSeq + 1) % 65536
    let s5 := s4.planWords x [(8, pid), (10, next * 65536 + s4.machWord x 10 % 65536), (12, setBits w12 3 3 slot), (14, arrival)]
    let s6 := s5.setTrack x (some { t with plan := pid, segs := segs, arrival := arrival, cells := t.cells.take (k + 1),
                                           points := t.points.take (k + 1), dist := t.dist.take (k + 1), at_ := min t.at_ k })
    (s6.planEvent 4 x by_ pid, [.table x pid t.start segs.length])
  | _, _ =>
    -- records made by RESERVE carry no table to cut (log 45)
    ((s2.planWords x [(12, w12)]).planEvent 4 x by_ (s2.machWord x 8), [])

/-! ## The lead's updates (R224, R227) -/

/-- The unit is of the lead member (R406). -/
def State.isLead (s : State) : Bool := s.member == s.getF F.CASC_CTRL_LEAD

/-- A machine's shared records with ENTRY at or after a tick; none takes all of them. -/
def State.sharedOf (s : State) (member m : Nat) (from_ : Option Nat) : List Rsv :=
  s.rsvs.filter fun r => r.member == member && r.machine == m && s.rsvShared r &&
    match from_ with
    | some t => decide (0 ≤ tickDiff r.entry t)
    | none => true

/-- Send an update of a machine's shared records from a tick (R224, R227); `flags` mark a snapshot (R410). -/
def State.sendUpdate (s : State) (member m plan from_ flags : Nat) (recs : List Rsv) : State :=
  s.sendMsg 0x05 .group flags (wordsBytes ([recs.length * 0x1000000 + m * 0x10000 + member * 0x1000 + 0x1B4,
    s.getF F.CASC_UPD_SEQ_SEQ, plan, from_] ++ recs.flatMap fun r => r.words))

/-- The next update of the lead: the shared records that a machine now holds from a tick (R224). -/
def State.nextUpdate (s : State) (member m plan from_ : Nat) : State :=
  let s1 := (s.setF F.CASC_UPD_SEQ_SEQ ((s.getF F.CASC_UPD_SEQ_SEQ + 1) % 2 ^ 32)).jnoteObj 0x0B 0 []
  s1.sendUpdate member m plan from_ 0 (s1.sharedOf member m (some from_))

/-- The earliest ENTRY of records. -/
def firstEntry (l : List Rsv) : Nat :=
  (l.foldl (fun (b : Option Nat) r =>
    match b with
    | some x => if tickDiff r.entry x < 0 then some r.entry else b
    | none => some r.entry) none).getD 0

/-- The lead tells every member the machines whose shared records have changed (R224); a machine of another member goes with the
plan of its latest grant. -/
def State.leadTell (s : State) (before : State) : State :=
  if s.isLead && s.flag F.CASC_CTRL_EN then
    let sh (s : State) : List Rsv := s.rsvs.filter s.rsvShared
    let old := sh before
    let new := sh s
    ((old ++ new).map fun r => (r.member, r.machine)).eraseDups.foldl (fun t k =>
      let of_ (l : List Rsv) : List Rsv := l.filter fun r => r.member == k.1 && r.machine == k.2
      if ((of_ old).map fun r => r.words).isPerm ((of_ new).map fun r => r.words) then t
      else
        let plan := if k.1 = t.member then t.machWord k.2 8
          else ((Assoc.get (fun _ => none) t.pair.serials (k.1 * 256 + k.2)).map fun (x : SerialRec) => x.plan).getD 0
        t.nextUpdate k.1 k.2 plan (firstEntry (of_ old ++ of_ new))) s
  else s

/-! ## The commit (R212) -/

/-- The records of a plan, still without indexes and PLAN_TAG. -/
def State.planRsvs (s : State) (x : PlanSearch) : List Rsv :=
  let m := x.req.machine
  let cls := s.machClass m
  let at_ (t : Int) : Nat := ((x.s : Int) + t).toNat % 2 ^ 32
  let mk (v : PlanVisit) : Rsv :=
    { idx := 0, cell := v.cell, machine := m, prio := x.req.prio, entry := at_ v.entry, exit := at_ v.ready,
      guard := s.cellGuard v.cell cls, member := s.member, tag := 0 }
  let rec go : List PlanVisit → List Rsv
    | [] => []
    | [v] =>
      [if x.req.hold = 0 then { mk v with open_ := true, exit := 0xFFFFFFFF } else { mk v with exit := at_ (x.found.arrival + x.req.hold) }]
    | v :: u :: t =>
      mk v :: { mk v with edge := true, guard := 0, other := u.cell, exit := at_ u.first } :: go (u :: t)
  go x.found.route

/-- A plan found at S still fits R195, R198 and R199 in the store as it stands (R198, R223). -/
def State.planFits (s : State) (x : PlanSearch) : Bool :=
  (s.planRsvs x).all (s.recFits s.rsvs x.found.bumps) && s.bumpsFit s.rsvs x.req.machine x.found.bumps

/-- The records of the machine that a commit releases (R212 step 1). -/
def State.commitFrees (s : State) (m base : Nat) : List Nat :=
  ((s.machRecords m).filter fun r => !r.doubt &&
    match r.ends with
    | none => true
    | some e => decide (1 < tickDiff e base)).map fun r => r.idx

/-- What a commit gives: outcome, PLAN_ID, slot, machines bumped, arrival. -/
structure Committed where
  outcome : Nat
  pid     : Nat := 0
  slot    : Nat := 0
  bumped  : Nat := 0
  arrival : Nat := 0

/-- The commit (R212), with the serial of a granted shared request. -/
def State.commitPlan (s : State) (x : PlanSearch) (serial : Option Nat) : Committed × State :=
  let m := x.req.machine
  let recs := s.planRsvs x
  let frees := s.commitFrees m x.s
  let gone := x.found.bumps.flatMap fun b => (bumpSet s.rsvs s.member b.1 b.2).1
  let cellsOf (l : List Nat) : List Nat := l.map fun i => (s.rsv i).cell
  if !s.rsvRoom (recs.map fun r => r.cell) (cellsOf (frees ++ gone)) then
    ({ outcome := 5 }, (s.bump F.TRACK_RES_FULL_COUNT).raise 0x091 1)
  else
    let (pid, s1) := s.newPlanId
    let (lasts, s2) := x.found.bumps.foldl (fun (acc : List (Nat × Option Nat) × State) b =>
      let (l, t) := acc.2.bumpFree b
      (acc.1 ++ [(b.1, l)], t)) ([], s1.rsvFreeAll frees)
    let s3 := recs.foldl (fun s r => s.rsvAdd { r with tag := pid % 4096 }) s2
    let (s4, outs) := lasts.foldl (fun (acc : State × List HeldOut) b =>
      let (t, o) := acc.1.bumpMachine m b.1 b.2
      (t, acc.2 ++ o)) (s3, [])
    let start := ((x.s : Int) + x.found.depart).toNat % 2 ^ 32
    let arrival := ((x.s : Int) + x.found.arrival).toNat % 2 ^ 32
    let seq0 := s4.machWord m 10 / 65536
    let segs := partSegments seq0 0 (planParts x.found.depart (x.found.route.zip (s4.routeDist 0 (x.found.route.map fun v => v.cell))))
    let slot := 1 - s4.planSlot m
    let s5 := (s4.writeSlot m slot (slotBytes m pid start seq0 arrival (x.req.hold == 0) false segs)).segCut m
    let words := [(8, pid), (10, (seq0 + segs.length) % 65536 * 65536 + x.req.start % 65536), (11, s5.machWord m 11),
      (12, x.req.prio * 16 + slot * 8 + 1), (13, x.s), (14, arrival)]
    let s6 := s5.planWords m (words ++ (serial.map fun n => (15, n)).toList)
    let s7 := ((s6.trackMake m start seq0 segs).leadTell s).journal 1
    ({ outcome := 0, pid := pid, slot := slot, bumped := x.found.bumps.length, arrival := arrival },
     (outs ++ [HeldOut.table m pid start segs.length]).foldl (fun s o => s.output o) s7)

/-! ## The end of a search (R204, R205) -/

/-- A search has ended, and its locks with it (R467): its result, LAST_US and MAX_US; a store command that waited starts (R229). -/
def State.planEnd (s : State) (x : PlanSearch) (c : Committed) : State :=
  let us := (s.now - x.since) / 1000
  let s1 := (s.setF F.TRACK_PLAN_LAST_US_US us).setF F.TRACK_PLAN_MAX_US_US (max (s.getF F.TRACK_PLAN_MAX_US_US) us)
  let s2 := s1.planResult x.req x.found c.outcome c.pid c.slot c.bumped c.arrival
  { s2 with plan := { s2.plan with search := none, shared := none, waiting := false } }.dtuUnlock

/-- Run the search of a request with its S. -/
def State.searchFrom (s1 : State) (x : PlanSearch) : State :=
  let f := s1.searchRun x.req x.s
  let s2 := ((s1.unwipe 0x090).setF F.TRACK_PLAN_SEARCH_EXPANSIONS f.count).setF F.TRACK_PLAN_HEAP_PEAK_NODES
    (max (s1.getF F.TRACK_PLAN_HEAP_PEAK_NODES) f.peak)
  let s3 := if f.trimmed then s2.raise 0x092 3 else s2
  { s3 with plan := { s3.plan with search := some { x with found := f, ready := true } } }

/-- Probe, and search from S now: a probe that faults pauses the planner (R465). -/
def State.planSearch (s : State) (x : PlanSearch) : State :=
  match s.probeSlot x.req.machine (1 - s.planSlot x.req.machine) with
  | (some _, s1) => s1.planPause x
  | (none, s1) => s1.searchFrom { x with s := s1.planTick, since := s1.now }

/-- Remove a queued request; the queue emptied raises its event (R233). -/
def State.unqueue (s : State) (p : PlanReq → Bool) : State :=
  let l := s.plan.queue.filter fun r => !p r
  let s1 := { s with plan := { s.plan with queue := l } }
  if l.isEmpty && !s.plan.queue.isEmpty then s1.raise 0x092 4 else s1

/-- Every queued request ends CANCELLED (R403). -/
def State.cancelQueue (s : State) : State :=
  s.plan.queue.foldl (fun s r => s.planResult r { outcome := 9 } 9 0 0 0 0) (s.unqueue fun _ => true)

end Sys2Proof.Machine
end

