-- ==== Sys2Proof/Machine/AxisOps.lean ====
section
/-! DEFINITION. The step/direction axes (08_segments_and_axes.md R243 to R258): motion in 10 µs intervals, tables, homing, stops and
faults. Positions count 5 × 10^-11 steps and velocities 10^-5 steps/s, so that an acceleration of 1 step/s² changes the velocity by
1 in an interval and the interval's travel is the sum of its two velocities (log 60). -/

namespace Sys2Proof.Machine

def State.axis (s : State) (n : Nat) : AxisSt := Assoc.get (fun _ => {}) s.axes n

def State.setAxis (s : State) (n : Nat) (a : AxisSt) : State := { s with axes := Assoc.put (fun _ => {}) s.axes n a }

/-- The page of an axis. -/
def axisPage (n : Nat) : Nat := 0x0A1 + n

/-- One step in units of position. -/
def stepUnit : Nat := 20000000000

def AxisMode.code : AxisMode → Nat
  | .disabled => 0
  | .idle => 1
  | .move => 2
  | .table => 3
  | .stopping => 4
  | .homing => 5
  | .fault => 6

/-- The commanded position in steps. -/
def AxisSt.cmdPos (a : AxisSt) : Int := roundAway a.pos stepUnit

/-- A number of steps as a signed 32-bit position. -/
def pos32 (v : Int) : Int := toSigned 32 (ofSigned 32 v)

/-- Counts of the encoder as steps, and steps as counts (R245), to the nearest (log 61). -/
def State.countsToSteps (s : State) (n : Nat) (c : Int) : Int :=
  roundAway (c * s.getF (F.AXIS_ENC_RATIO_DEN n)) (s.getF (F.AXIS_ENC_RATIO_NUM n))

def State.stepsToCounts (s : State) (n : Nat) (p : Int) : Int :=
  roundAway (p * s.getF (F.AXIS_ENC_RATIO_NUM n)) (s.getF (F.AXIS_ENC_RATIO_DEN n))

/-! ## Inputs (R246, R251) -/

/-- A limit is active: the positive or the negative one. -/
def State.limActive (s : State) (n : Nat) (pos : Bool) : Bool :=
  let a := s.axis n
  (if pos then a.limPos else a.limNeg).level != s.flag (F.AXIS_CTRL_LIM_LOW n)

def State.homeActive (s : State) (n : Nat) : Bool := (s.axis n).homePin.level != s.flag (F.AXIS_CTRL_HOME_LOW n)

/-- The pin has held its level for the debounce time `hold` (ns). -/
def AxisInput.held (x : AxisInput) (now hold : Nat) : Bool := decide (x.since + hold ≤ now)

/-- A level held for the debounce time is the input's; with a change comes the encoder count of its raw first edge (R246). -/
def AxisInput.settle (x : AxisInput) (now hold : Nat) : AxisInput × Option Int :=
  if !x.held now hold then (x, none)
  else ({ x with level := x.raw, first := none }, if x.raw == x.level then none else some (x.first.getD 0))

/-- The pin is at a level now, the encoder at a count (R246): an edge is noted, as the first one where the old level had been held. -/
def AxisInput.edge (x : AxisInput) (now : Nat) (enc : Int) (high : Bool) : AxisInput :=
  if high == x.raw then x else { x with raw := high, since := now, first := some (x.first.getD enc) }

/-- The direction of motion (true positive): that of the velocity; at rest in homing, that of the phase. -/
def AxisSt.heading (a : AxisSt) : Option Bool :=
  if 0 < a.vel then some true
  else if a.vel < 0 then some false
  else if a.mode = .homing then
    (match a.phase with
     | .search | .approach | .turn | .found | .latched => some (!a.neg)
     | .backOff | .beyond => some a.neg)
  else none

/-- The site-permit bit stops the axis (R253). -/
def State.siteStops (s : State) (n : Nat) : Bool := s.flag (F.AXIS_CTRL_SITE_STOP n) && !s.poppy.site

/-! ## Stops and faults (R247, R250, R251) -/

/-- The axis is at rest from now on. -/
def AxisSt.rest (a : AxisSt) (now : Nat) : AxisSt :=
  { a with vel := 0, pos := a.cmdPos * stepUnit, braking := false, braked := false, restAt := now, tab := none, wake := 0, stopAt := none }

/-- A fault: steps stop at once. CMD_POS is taken from the encoder, but for a bad table record (R252) and after a limit stop, where
the axis is at rest. -/
def State.axisFault (s : State) (n cause : Nat) : State :=
  let a := s.axis n
  if a.mode = .disabled then s
  else
    let p := if cause ≤ 3 ∨ cause = 6 then a.cmdPos else s.countsToSteps n a.enc
    let b := { a.rest s.now with mode := .fault, cause := cause, pos := p * stepUnit, resumable := false, deferred := false, stall := 0,
                                 steps := 0, owed := 0 }
    (s.setAxis n b).raise (axisPage n) 2

/-- Begin to stop: at STOP_DEC where `quick`, else at DEC; `after` is the fault that follows, `keep` keeps a profile move. -/
def AxisSt.halt (a : AxisSt) (quick : Bool) (after : Nat) (keep : Bool) : AxisSt :=
  { a with mode := .stopping, quick := quick, after := after, keep := keep, tab := none, braked := false,
           resumable := a.resumable && !quick, wake := 0, stopAt := none }

/-- A moving axis stops at STOP_DEC (R247); one that already stops takes the harder stop. -/
def State.axisQuick (s : State) (n after : Nat) : State :=
  let a := s.axis n
  if a.mode = .move ∨ a.mode = .table ∨ a.mode = .homing ∨ a.mode = .stopping then
    s.setAxis n (a.halt true (if a.mode = .stopping ∧ after = 0 then a.after else after) false)
  else s

/-! ## Motion in one interval (R244, R248, R249) -/

/-- A velocity that moves toward another: `up` away from zero, `down` toward it. -/
def rampTo (v goal : Int) (up down : Nat) : Int :=
  if v < goal then (if v < 0 then min (v + down) (min goal 0) else min (v + up) goal)
  else if goal < v then (if 0 < v then max (v - down) (max goal 0) else max (v - up) goal)
  else v

/-- The greatest speed after an interval that starts at speed `u`, from which braking at `dec` ends within distance `d`. -/
def brakeSpeed (u d dec : Nat) : Nat := if d < u then 0 else (isqrt (dec * dec + 4 * dec * (d - u)) - dec) / 2

/-- The distance in which a ramp at `dec` from speed `u` comes to rest. -/
def rampTravel (u dec : Nat) : Nat := let n := u / dec; 2 * n * u - dec * n ^ 2 + u % dec

/-- One interval toward a point in units of position: the velocity and position after it, whether the axis brakes toward the point and
has begun to, and whether it has arrived at rest. A remainder below a twenty-thousandth of a step counts as arrived. -/
def AxisSt.approach (a : AxisSt) (goal vmax : Int) : AxisSt × Bool :=
  let d := goal - a.pos
  let forward := decide (0 ≤ d)
  let away := (decide (a.vel < 0) && forward) || (decide (0 < a.vel) && !forward)
  if away then
    let v := rampTo a.vel 0 a.dec a.dec
    ({ a with vel := v, pos := a.pos + a.vel + v, braking := true, braked := false }, false)
  else
    let u := a.vel.natAbs
    let top := vmax.toNat * 100000
    let free := if a.braked then u else if u ≤ top then min (u + a.acc) top else max (u - a.dec) top
    let safe := brakeSpeed u d.natAbs a.dec
    let w := max (min free safe) (u - a.dec)
    let v : Int := if forward then w else -(w : Int)
    let pos := a.pos + a.vel + v
    let braking := decide (w < u) && decide (safe < free)
    let b := { a with vel := v, pos := pos, braking := braking, braked := a.braked || braking }
    if w = 0 ∧ (goal - pos).natAbs ≤ 1000000 then ({ b with pos := goal }, true) else (b, false)

/-- One interval of a profile move to a target in steps. -/
def AxisSt.profile (a : AxisSt) (target vmax : Int) : AxisSt × Bool := a.approach (target * stepUnit) vmax

/-- One interval toward a constant speed. -/
def AxisSt.cruise (a : AxisSt) (goal : Int) : AxisSt :=
  let v := rampTo a.vel (goal * 100000) a.acc a.dec
  { a with vel := v, pos := a.pos + a.vel + v }

/-- One interval of braking to rest. -/
def AxisSt.brake (a : AxisSt) (rate : Nat) : AxisSt :=
  let v := rampTo a.vel 0 rate rate
  { a with vel := v, pos := a.pos + a.vel + v }

/-! ## Tables (R235, R252) -/

/-- Position and velocity in a segment of `T` µs at `t` µs, in the axis's units; the position is cut toward zero, so that its rounding
to a step is that of R236. -/
def axisHermite (T t : Nat) (p0 v0 p1 v1 : Int) : Int × Int :=
  let a1 : Int := 6 * t ^ 2 - 6 * t * T
  let b1 : Int := 3 * t ^ 2 - 4 * t * T + T ^ 2
  let d1 : Int := 3 * t ^ 2 - 2 * t * T
  (Int.tdiv (fp64Num (hermite64 T t p0 v0 p1 v1) * stepUnit) fp64Unit,
   roundAway ((a1 * (p0 - p1) * 256000000 + (b1 * v0 + d1 * v1) * T) * 100000000000) (T ^ 3 * 256000000))

/-- Read the next record ahead (R252, R463): a translation fault pauses reading, bad data makes a bad record. -/
def State.axisRead (s : State) (n : Nat) : State :=
  let a := s.axis n
  match a.tab with
  | some r =>
    let i := if r.begun then r.index + 1 else 0
    if r.next.isSome || decide (r.count ≤ i) || s.dtuIsPaused 6 n then s
    else
      let (d, s1) := s.clientRead 6 n (r.base + 16 * i) 16
      if d.fault.isSome then s1.dtuPause 6 n
      else s1.setAxis n { a with tab := some { r with next := some (if d.bad then [0, 0, 0, 0] else bytesWords d.data) } }
  | none => s

/-- A record may begin after position `p` and velocity `v` (R252): a WAIT is at rest. -/
def segRecordOk (g : Segment) (last : Option Nat) (p v : Int) : Bool :=
  g.dur != 0 && (!g.wait || (g.pos == p && g.vel == 0 && v == 0)) && (!g.last || g.vel == 0) &&
    match last with
    | some q => g.seq == (q + 1) % 65536
    | none => true

/-- Begin the record read ahead; without one, or with a bad one, the axis faults. -/
def State.axisBegin (s : State) (n : Nat) (p0 v0 : Int) (left : Nat) : State :=
  let a := s.axis n
  match a.tab with
  | some r =>
    match r.next with
    | some w =>
      let g := segmentOf w
      if segRecordOk g r.last p0 v0 then
        let r1 := { r with begun := true, index := if r.begun then r.index + 1 else 0, p0 := p0, v0 := v0, seg := some g, t := left,
                           last := some g.seq, next := none }
        let s1 := s.setAxis n { a with tab := some r1, seq := g.seq, aux := g.aux }
        (if g.evt then s1.raise (axisPage n) 5 else s1).axisRead n
      else s.axisFault n 6
    | none => s.axisFault n 6
  | none => s

/-- Carry a table on by the time elapsed: segments that have ended give way to the next. -/
def State.axisTable (s : State) (n : Nat) : Nat → State
  | 0 => s
  | k + 1 =>
    let a := s.axis n
    match a.tab with
    | some r =>
      match r.seg with
      | some g =>
        if r.t < g.dur then
          let (p, v) := axisHermite g.dur r.t r.p0 r.v0 g.pos g.vel
          s.setAxis n { a with pos := p, vel := v }
        else if g.last then
          let b := { a with pos := g.pos * stepUnit }
          (s.setAxis n { b.rest s.now with mode := .idle, ended := true }).raise (axisPage n) 0
        else if r.count ≤ r.index + 1 then (s.setAxis n { a with pos := g.pos * stepUnit }).axisFault n 6
        else ((s.setAxis n { a with pos := g.pos * stepUnit }).axisBegin n g.pos g.vel (r.t - g.dur)).axisTable n k
      | none => s
    | none => s

/-- The direction in which a segment from rest at position `p` first moves by the interpolation of R235. -/
def Segment.firstMotion (g : Segment) (p : Int) : Option Bool :=
  let q := 3 * (g.pos - p) * 256000000 - g.dur * g.vel
  if q ≠ 0 then some (decide (0 < q)) else if g.pos ≠ p then some (decide (p < g.pos)) else none

/-- The direction of a table's first motion from position `p`, in its first records (R251). -/
def State.tableFirst (s : State) (n base : Nat) (p : Int) : Nat → Nat → Option Bool × State
  | 0, _ => (none, s)
  | k + 1, i =>
    let (d, s1) := s.clientRead 6 n (base + 16 * i) 16
    let g := segmentOf (bytesWords d.data)
    if d.fault.isSome || d.bad || g.dur == 0 then (none, s1)
    else
      match g.firstMotion p with
      | some up => (some up, s1)
      | none => if g.last then (none, s1) else s1.tableFirst n base p k (i + 1)

/-! ## Commands at an update (R247, R248, R250, R252, R254) -/

/-- A motion command restores the current; a current that was reduced delays the first step (R258). -/
def State.axisWake (s : State) (n : Nat) : State :=
  let a := s.axis n
  let delay := if a.reduced && s.flag (F.AXIS_CTRL_IDLE_EN n) then s.getF (F.AXIS_IDLE_WAKE_MS n) * 100 else a.wake
  s.setAxis n { a with reduced := false, wake := delay }

/-- A command that moves the axis. -/
def axisMotion (cmd : Nat) : Bool := cmd == 1 || cmd == 2 || cmd == 3 || cmd == 6 || cmd == 7

/-- A profile move to a target; one to the present position at rest completes at once. -/
def State.axisMove (s : State) (n : Nat) (target : Int) : Option State :=
  let a := s.axis n
  let p := a.cmdPos
  if (p < target ∧ s.limActive n true) ∨ (target < p ∧ s.limActive n false) then none
  else
    let s1 := (s.setAxis n { a with resumable := false }).axisWake n
    let b := s1.axis n
    if target = p ∧ a.vel = 0 then
      some ((s1.setAxis n { (b.rest s.now) with mode := .idle, target := target, ended := true }).raise (axisPage n) 0)
    else some (s1.setAxis n { b with mode := .move, target := target, braked := false })

/-- Start homing: at the search, or with home active at the back off. -/
def State.axisHome (s : State) (n : Nat) : State :=
  let s1 := s.axisWake n
  let neg := s1.getF (F.AXIS_HOME_CFG_DIR n) == 1
  let turned := !s1.homeActive n && s1.limActive n (!neg)
  let neg1 := if turned then !neg else neg
  let phase := if s1.homeActive n then HomePhase.backOff else .search
  s1.setAxis n { s1.axis n with mode := .homing, homed := false, resumable := false, neg := neg1, reversed := turned, phase := phase }

/-- RUN_TABLE: refused where its first motion is toward an active limit. -/
def State.axisRun (s : State) (n : Nat) : Option State :=
  let a := s.axis n
  let base := s.getF (F.AXIS_TABLE_BASE_ADDR n) * 16
  let count := s.getF (F.AXIS_TABLE_COUNT_COUNT n)
  let at_ := s.getF (F.AXIS_TABLE_AT_MS n)
  let (first, s1) := s.tableFirst n base a.cmdPos count 0
  let blocked := match first with
    | some d => s1.limActive n d
    | none => false
  if blocked then none
  else
    let s2 := s1.axisWake n
    let r : AxisTable := { base := base, count := count, wait := if at_ = 0 then none else some at_ }
    some ((s2.setAxis n { s2.axis n with mode := .table, resumable := false, tab := some r }).axisRead n)

/-- SET_POS (R260). -/
def State.axisSetPos (s : State) (n : Nat) : State :=
  let p := toSigned 32 (s.getF (F.AXIS_TARGET_STEPS n))
  s.setAxis n { s.axis n with pos := p * stepUnit, enc := pos32 (s.stepsToCounts n p), homed := false, resumable := false }

/-- One command sampled at an update: none where it is refused in the axis's state. -/
def State.axisCommand (s : State) (n cmd : Nat) : Option State :=
  let a := s.axis n
  let target := toSigned 32 (s.getF (F.AXIS_TARGET_STEPS n))
  let idle := decide (a.mode = .idle)
  let moving := decide (a.mode = .move) || decide (a.mode = .table) || decide (a.mode = .homing)
  if axisMotion cmd && s.siteStops n then none
  else
    match cmd with
    | 1 => if idle || a.mode = .move then s.axisMove n target else none
    | 2 => if idle || a.mode = .move then s.axisMove n (pos32 (a.cmdPos + target)) else none
    | 3 => if idle then s.axisRun n else none
    | 4 => if moving then some (s.setAxis n (a.halt false 0 (a.mode = .move)))
      else if idle && a.ended then some s else none
    | 5 => if moving then some (s.axisQuick n 0) else none
    | 6 => if idle && a.resumable then s.axisMove n a.target else none
    | 7 => if idle then some (s.axisHome n) else none
    | 8 => if a.mode = .fault && !s.siteStops n then some (s.setAxis n { a with mode := .idle, cause := 0 }) else none
    | 9 => if idle then some (s.axisSetPos n) else none
    | _ => none

/-- The commands written since the last update, in order; one refused is an error of its writer. -/
def State.axisCommands (s : State) (n : Nat) : List (Initiator × Nat) → State
  | [] => s
  | (who, cmd) :: t =>
    match s.axisCommand n cmd with
    | some s1 => s1.axisCommands n t
    | none => (s.accessErr 0x11 who (axisPage n * 0x1000 + 0x048)).axisCommands n t

/-! ## The profile update (R247, R249, R252, R253, R257) -/

/-- Sample the parameters (R248, R249): a lower DEC in a braking ramp is deferred; with a higher one a STOP ramp keeps its stop point. -/
def State.axisSample (s : State) (n : Nat) : State :=
  let a := s.axis n
  let dec := s.getF (F.AXIS_DEC_STEPS_S2 n)
  let ramp := (a.mode = .move && a.braking) || (a.mode = .stopping && !a.quick)
  let defer := ramp && decide (dec < a.dec)
  let s1 := s.setAxis n { a with
    vmax := s.getF (F.AXIS_VMAX_STEPS_S n), acc := s.getF (F.AXIS_ACC_STEPS_S2 n), stop := s.getF (F.AXIS_STOP_DEC_STEPS_S2 n),
    fast := s.getF (F.AXIS_HOME_FAST_STEPS_S n), slow := s.getF (F.AXIS_HOME_SLOW_STEPS_S n),
    dec := if defer then a.dec else dec, deferred := defer,
    stopAt := if a.mode = .stopping ∧ !a.quick ∧ a.dec < dec then
        some (a.stopAt.getD (a.pos + a.vel.sign * (rampTravel a.vel.natAbs a.dec : Nat))) else a.stopAt,
    braked := a.braked && !(decide (a.mode = .stopping) && decide (a.dec < dec)) }
  if defer && !a.deferred then s1.raise (axisPage n) 6 else s1

/-- A table whose start update has come begins. -/
def State.axisStart (s : State) (n : Nat) : State :=
  let a := s.axis n
  match a.tab with
  | some r =>
    let due := match r.wait with
      | some ms => decide (0 ≤ tickDiff s.taiMs ms)
      | none => true
    if r.begun || !due then s else s.axisBegin n a.cmdPos 0 0
  | none => s

/-- The comparison of R257 at an update. -/
def State.axisStall (s : State) (n : Nat) : State :=
  let a := s.axis n
  let beyond := decide (s.getF (F.AXIS_STALL_WINDOW n) < (s.stepsToCounts n a.cmdPos - a.enc).natAbs)
  if s.flag (F.AXIS_CTRL_STALL_EN n) && a.vel != 0 && beyond then s.setAxis n { a with stall := a.stall + 1 }
  else if a.stall = 0 then s else s.setAxis n { a with stall := 0 }

/-- The profile update: the supply, parameters, the site-permit bit, commands, the stall comparison, a table's start. -/
def State.profileUpdate (s : State) (n : Nat) : State :=
  let a := s.axis n
  if s.ioLost && a.mode != .disabled && !(a.mode == .fault && a.cause == 8) then s.axisFault n 8
  else
    let s1 := s.axisSample n
    let s2 := if s1.siteStops n then (s1.setAxis n { s1.axis n with resumable := false }).axisQuick n 0 else s1
    let cmds := (s2.axis n).cmds
    let s3 := (s2.setAxis n { s2.axis n with cmds := [] }).axisCommands n cmds
    let s4 := (s3.axisStart n).axisStall n
    s4.setAxis n { s4.axis n with ended := false }

/-! ## The step update (R244, R247, R254, R255) -/

/-- A speed lies beyond the greatest step rate (R244): 2,000,000 steps/s or 10^9 / (2 × PULSE_NS). -/
def State.overRate (s : State) (n v : Nat) : Bool :=
  decide (2000000 * 100000 < v) || decide (100000000000000 < 2 * s.getF (F.AXIS_STEP_CFG_PULSE_NS n) * v)

/-- The end of homing (R254 step 4). -/
def State.homeDone (s : State) (n : Nat) : State :=
  let a := s.axis n
  let off := toSigned 32 (s.getF (F.AXIS_HOME_OFFSET_STEPS n))
  let since := a.enc - a.latch
  let b := { a.rest s.now with mode := .idle, homed := true, pos := (off + s.countsToSteps n since) * stepUnit,
                               enc := pos32 (s.stepsToCounts n off + since) }
  (s.setAxis n b).raise (axisPage n) 3

/-- One interval of homing. -/
def State.homeStep (s : State) (n : Nat) : State :=
  let a := s.axis n
  let dir (v : Nat) : Int := if a.neg then -(v : Int) else v
  match a.phase with
  | .search => s.setAxis n (a.cruise (dir a.fast))
  | .found =>
    let b := a.brake a.dec
    s.setAxis n (if b.vel = 0 then { b with phase := .backOff } else b)
  | .turn =>
    let b := a.brake a.stop
    s.setAxis n (if b.vel = 0 then { b with phase := .search, neg := !a.neg, reversed := true } else b)
  | .backOff => s.setAxis n (a.cruise (-(dir a.slow)))
  | .beyond =>
    let (b, done) := a.profile a.target a.slow
    s.setAxis n (if done then { b with phase := .approach, braked := false } else b)
  | .approach => s.setAxis n (a.cruise (dir a.slow))
  | .latched =>
    let b := a.brake a.dec
    if b.vel = 0 then (s.setAxis n b).homeDone n else s.setAxis n b

/-- The end of a stop (R247, R250). -/
def State.axisStopped (s : State) (n : Nat) : State :=
  let a := s.axis n
  let b := { a.rest s.now with mode := .idle }
  let c := if a.keep then { b with resumable := true, remain := pos32 (a.target - b.cmdPos) } else b
  let s1 := (s.setAxis n c).raise (axisPage n) 1
  if a.after = 0 then s1 else s1.axisFault n a.after

/-- One interval of motion. -/
def State.axisAdvance (s : State) (n : Nat) : State :=
  let a := s.axis n
  match a.mode with
  | .move =>
    let (b, done) := a.profile a.target a.vmax
    if done then (s.setAxis n { b.rest s.now with mode := .idle, ended := true }).raise (axisPage n) 0 else s.setAxis n b
  | .table =>
    match a.tab with
    | some r => if r.begun then (s.setAxis n { a with tab := some { r with t := r.t + 10 } }).axisTable n 12 else s
    | none => s
  | .stopping =>
    -- a raised DEC holds the velocity until the new braking point (R249): `braked` lets it only fall
    let b := match a.stopAt with
      | some goal => if a.quick then a.brake a.stop else { ({ a with braked := true }.approach goal 0).1 with braked := true }
      | none => a.brake (if a.quick then a.stop else a.dec)
    if b.vel = 0 then (s.setAxis n b).axisStopped n else s.setAxis n b
  | .homing => s.homeStep n
  | .disabled | .idle | .fault => s

/-- The steps of an interval go out (R244): DIR changes at its start, and no step comes before it has stood for DIR_NS; steps that it
leaves no time for wait for a later interval (log 113). -/
def State.stepSend (s : State) (n : Nat) (moved : Int) : State :=
  let a := s.axis n
  let out := a.owed + moved
  let turn := out ≠ 0 ∧ decide (0 < out) ≠ a.dirPos
  let dirAt := if turn then s.now else a.dirAt
  let from_ := dirAt + s.getF (F.AXIS_STEP_CFG_DIR_NS n) - s.now
  let b := { a with dirPos := if out = 0 then a.dirPos else decide (0 < out), dirAt := dirAt }
  s.setAxis n (if from_ < 10000 then { b with steps := out.natAbs, owed := 0, stepFrom := from_ } else { b with steps := 0, owed := out })

/-- The step update: a demanded rate above the limit faults the axis; the interval's steps and DIR go out. -/
def State.stepUpdate (s : State) (n : Nat) : State :=
  let a := s.axis n
  if 0 < a.wake then s.setAxis n { a with wake := a.wake - 1, steps := 0 }
  else
    let s1 := s.axisAdvance n
    let b := s1.axis n
    if s1.overRate n b.vel.natAbs then s1.axisFault n 5
    else
      let homeEnd := decide (a.mode = .homing) && decide (b.mode = .idle)
      if b.mode = .fault then s1 else s1.stepSend n (if homeEnd then 0 else b.cmdPos - a.cmdPos)

/-! ## Input changes (R245, R251, R254 to R256) -/

/-- A limit has become active (R251, R255). -/
def State.limitTrip (s : State) (n : Nat) (pos : Bool) : State :=
  let a := s.axis n
  let ahead := a.heading == some pos
  if a.mode = .homing then
    if !ahead then s.axisQuick n 2
    else
      match a.phase with
      | .search => if a.reversed then s.axisQuick n 3 else s.setAxis n { a with phase := .turn }
      | .backOff | .beyond | .approach | .latched => s.axisQuick n 3
      | .turn => s
      | .found => s.axisQuick n (if a.reversed then 3 else 1)
  else if ahead then s.axisQuick n 1
  else s.raise (axisPage n) 4

/-- Home has changed (R254, R256): `first` is the encoder count at the raw first edge of the change. -/
def State.homeEdge (s : State) (n : Nat) (active : Bool) (first : Int) : State :=
  let a := s.axis n
  if a.mode ≠ .homing then s
  else
    match a.phase, active with
    | .search, true => s.setAxis n { a with phase := .found }
    | .backOff, false =>
      let back : Int := s.getF (F.AXIS_BACKOFF_STEPS n)
      s.setAxis n { a with phase := .beyond, braked := false, target := if a.neg then a.cmdPos + back else a.cmdPos - back }
    | .approach, true => s.setAxis n { a with phase := .latched, latch := first }
    | _, _ => s

/-- Views of an axis page (R260). -/
def State.viewAxis (s : State) (n off : Nat) : Option Nat :=
  let a := s.axis n
  if off = 0x044 then
    some (a.mode.code * 0x10000000 + a.cause * 0x1000000 + bit a.deferred * 256 + bit a.resumable * 128 + bit a.homed * 64 +
      bit (a.vel == 0) * 32 + bit (a.reduced && s.flag (F.AXIS_CTRL_IDLE_EN n)) * 16 + bit (s.homeActive n) * 4 +
      bit (s.limActive n true) * 2 + bit (s.limActive n false))
  else if off = 0x060 then some (ofSigned 32 a.cmdPos)
  else if off = 0x064 then some (ofSigned 32 a.enc)
  else if off = 0x068 then some (ofSigned 32 (roundAway (a.vel * 256) 100000))
  else if off = 0x06C then some (ofSigned 32 a.remain)
  else if off = 0x094 then some (ofSigned 32 a.latch)
  else if off = 0x0A8 then some (a.aux * 65536 + a.seq)
  else none

end Sys2Proof.Machine
end

