-- ==== Sys2Proof/Machine/RegRules.lean ====
section
/-! DEFINITION. Rules of register access: the fields whose writes have a row of their own in the command table, the value
ranges that the register tables give, the logs that a read pops, and what the host may reach (R53, R54). -/

namespace Sys2Proof.Machine

/-! ## Fields with a row of their own -/

/-- Bits of a register of pages `p0` to `p1` (`count` copies, `stride` bytes apart) whose write is a command of its own:
REGISTER_WRITE leaves them to that command (R41). -/
structure OwnBits where
  p0     : Nat
  p1     : Nat
  off    : Nat
  mask   : Nat
  count  : Nat := 1
  stride : Nat := 4
  deriving DecidableEq, Repr

def allBits : Nat := 0xFFFFFFFF

/-- The fields whose write is a row of the command table. -/
def ownBits : List OwnBits :=
  [⟨0, 0xFFF, 0x008, 0x80000002, 1, 4⟩, ⟨0, 0xFFF, 0x01C, allBits, 1, 4⟩, ⟨0, 0xFFF, 0x028, allBits, 1, 4⟩,
   ⟨0x054, 0x054, 0x008, 0x80000003, 1, 4⟩, ⟨0x054, 0x054, 0x044, allBits, 1, 4⟩, ⟨0x054, 0x054, 0x060, allBits, 1, 4⟩,
   ⟨0x055, 0x055, 0x068, allBits, 1, 4⟩, ⟨0x040, 0x041, 0x040, 1, 1, 4⟩, ⟨0x040, 0x041, 0x05C, allBits, 1, 4⟩,
   ⟨0x042, 0x042, 0x040, allBits, 1, 4⟩, ⟨0x042, 0x042, 0x08C, allBits, 1, 4⟩, ⟨0x042, 0x042, 0x0C4, allBits, 1, 4⟩] ++
  [⟨0x060, 0x060, 0x040, 0x100, 1, 4⟩, ⟨0x060, 0x060, 0x0A8, allBits, 1, 4⟩, ⟨0x060, 0x060, 0x400, 3, 256, 4⟩,
   ⟨0x061, 0x070, 0x040, allBits, 1, 4⟩, ⟨0x061, 0x070, 0x058, allBits, 1, 4⟩, ⟨0x080, 0x080, 0x040, 1, 1, 4⟩,
   ⟨0x080, 0x080, 0x090, allBits, 1, 4⟩, ⟨0x081, 0x081, 0x054, allBits, 1, 4⟩, ⟨0x082, 0x082, 0x064, allBits, 1, 4⟩,
   ⟨0x091, 0x091, 0x054, allBits, 1, 4⟩, ⟨0x092, 0x092, 0x060, allBits, 1, 4⟩, ⟨0x092, 0x092, 0x084, allBits, 1, 4⟩] ++
  [⟨0x0A1, 0x0A8, 0x040, 1, 1, 4⟩, ⟨0x0A1, 0x0A8, 0x048, allBits, 1, 4⟩, ⟨0x0B1, 0x0B8, 0x040, 0x100, 1, 4⟩,
   ⟨0x0C0, 0x0C0, 0x048, allBits, 1, 4⟩, ⟨0x0C0, 0x0C0, 0x050, allBits, 1, 4⟩, ⟨0x0C0, 0x0C0, 0x058, allBits, 1, 4⟩,
   ⟨0x0C0, 0x0C0, 0x0B4, allBits, 1, 4⟩, ⟨0x0C0, 0x0C0, 0x130, allBits, 1, 4⟩, ⟨0x020, 0x020, 0x040, 2, 1, 4⟩,
   ⟨0x020, 0x020, 0x084, allBits, 4, 16⟩, ⟨0x021, 0x021, 0x048, allBits, 1, 4⟩, ⟨0x022, 0x022, 0x060, allBits, 1, 4⟩] ++
  [⟨0x023, 0x023, 0x058, allBits, 5, 4⟩, ⟨0x0D0, 0x0D0, 0x058, allBits, 1, 4⟩, ⟨0x0D0, 0x0D0, 0x0B4, allBits, 1, 4⟩,
   ⟨0x0D0, 0x0D0, 0x0BC, allBits, 1, 4⟩, ⟨0x0F0, 0x0F0, 0x040, 1, 1, 4⟩, ⟨0x0F0, 0x0F0, 0x048, allBits, 1, 4⟩,
   ⟨0x0F1, 0x0F1, 0x064, allBits, 1, 4⟩, ⟨0x100, 0x100, 0x044, allBits, 1, 4⟩, ⟨0x101, 0x101, 0x044, allBits, 1, 4⟩,
   ⟨0x102, 0x102, 0x040, allBits, 1, 4⟩, ⟨0x008, 0x00F, 0x044, allBits, 1, 4⟩, ⟨0x008, 0x008, 0x108, allBits, 1, 4⟩] ++
  [⟨0x010, 0x017, 0x044, allBits, 2, 64⟩, ⟨0x030, 0x03F, 0x048, allBits, 4, 32⟩, ⟨0x002, 0x002, 0x040, allBits, 1, 4⟩,
   ⟨0x000, 0x000, 0x044, allBits, 1, 4⟩, ⟨0x000, 0x000, 0x080, allBits, 1, 4⟩, ⟨0x000, 0x000, 0x088, allBits, 1, 4⟩,
   ⟨0x000, 0x000, 0x0A8, allBits, 2, 4⟩, ⟨0x003, 0x003, 0x040, allBits, 1, 4⟩, ⟨0x003, 0x003, 0x058, allBits, 1, 4⟩,
   ⟨0x110, 0x110, 0x040, allBits, 1, 4⟩]

/-- An offset is one of the copies of a register. -/
def isCopy (off base count stride : Nat) : Bool :=
  decide (base ≤ off) && (off - base) % stride == 0 && decide ((off - base) / stride < count)

/-- The bits of the word at a register key that REGISTER_WRITE leaves to a command of their own. -/
def ownedMask (key : Nat) : Nat :=
  let p := plainKey key / 0x1000
  let off := plainKey key % 0x1000
  match ownBits.find? fun o => decide (o.p0 ≤ p) && decide (p ≤ o.p1) && isCopy off o.off o.count o.stride &&
      !(p == 0x054 && off == 0x008 && o.p1 == 0xFFF) with
  | some o => o.mask
  | none => 0

/-! ## Value ranges -/

/-- A field of pages `p0` to `p1` that takes values `lo` to `hi` only; another value is refused with code `code`. -/
structure RangeRule where
  p0    : Nat
  p1    : Nat
  off   : Nat
  top   : Nat
  bot   : Nat
  least : Nat
  most  : Nat
  code  : Nat := 0x10
  count : Nat := 1
  stride : Nat := 4
  deriving DecidableEq, Repr

/-- The ranges of the register tables (R94 to R96, R117, R118, R165 to R167, R190, R192, R230, R232). -/
def rangeRules1 : List RangeRule :=
  [⟨0x054, 0x054, 0x04C, 7, 6, 2, 3, 0x10, 2, 4⟩, ⟨0x054, 0x054, 0x054, 31, 24, 1, 20, 0x10, 1, 4⟩,
   ⟨0x054, 0x054, 0x060, 31, 28, 1, 4, 0x10, 1, 4⟩, ⟨0x055, 0x055, 0x04C, 20, 0, 2048, 1048576, 0x10, 1, 4⟩,
   ⟨0x040, 0x041, 0x040, 23, 16, 1, 255, 0x10, 1, 4⟩, ⟨0x040, 0x041, 0x044, 15, 0, 1, 10000, 0x10, 1, 4⟩,
   ⟨0x040, 0x041, 0x05C, 3, 0, 1, 2, 0x10, 1, 4⟩, ⟨0x041, 0x041, 0x060, 12, 8, 0, 19, 0x10, 1, 4⟩,
   ⟨0x041, 0x041, 0x060, 4, 0, 0, 19, 0x10, 1, 4⟩, ⟨0x041, 0x041, 0x068, 27, 16, 0, 4094, 0x10, 1, 4⟩,
   ⟨0x041, 0x041, 0x06C, 31, 24, 1, 255, 0x10, 1, 4⟩, ⟨0x042, 0x042, 0x040, 1, 0, 0, 2, 0x10, 1, 4⟩] ++
  [⟨0x042, 0x042, 0x06C, 31, 0, 1000, 500000, 0x10, 1, 4⟩, ⟨0x042, 0x042, 0x08C, 3, 0, 1, 1, 0x10, 1, 4⟩,
   ⟨0x042, 0x042, 0x098, 29, 0, 0, 999999999, 0x10, 1, 4⟩, ⟨0x060, 0x060, 0x040, 17, 16, 0, 2, 0x10, 1, 4⟩,
   ⟨0x060, 0x060, 0x04C, 16, 0, 1000, 100000, 0x10, 1, 4⟩, ⟨0x060, 0x060, 0x068, 31, 0, 1, 1048576, 0x10, 1, 4⟩,
   ⟨0x060, 0x060, 0x0A8, 31, 28, 1, 3, 0x10, 1, 4⟩, ⟨0x071, 0x071, 0x048, 31, 24, 1, 255, 0x10, 1, 4⟩,
   ⟨0x071, 0x071, 0x048, 23, 16, 1, 255, 0x10, 1, 4⟩, ⟨0x071, 0x071, 0x048, 15, 8, 1, 255, 0x10, 1, 4⟩,
   ⟨0x071, 0x071, 0x048, 7, 0, 1, 255, 0x10, 1, 4⟩, ⟨0x080, 0x080, 0x088, 7, 0, 1, 255, 0x10, 1, 4⟩] ++
  [⟨0x080, 0x080, 0x090, 31, 28, 1, 6, 0x10, 1, 4⟩, ⟨0x081, 0x081, 0x054, 31, 28, 1, 4, 0x10, 1, 4⟩,
   ⟨0x082, 0x082, 0x04C, 15, 0, 1, 1024, 0x10, 1, 4⟩, ⟨0x090, 0x090, 0x040, 31, 24, 1, 255, 0x10, 1, 4⟩,
   ⟨0x090, 0x090, 0x04C, 13, 0, 1, 8192, 0x10, 1, 4⟩, ⟨0x090, 0x090, 0x060, 27, 24, 1, 15, 0x10, 1, 4⟩,
   ⟨0x090, 0x090, 0x100, 31, 16, 1, 65535, 0x10, 8, 4⟩, ⟨0x091, 0x091, 0x054, 31, 28, 1, 7, 0x10, 1, 4⟩,
   ⟨0x092, 0x092, 0x068, 20, 0, 1024, 262144, 0x10, 1, 4⟩]

/-- The ranges of the register tables (R259, R260, R292, R293, R328, R351, R352, R379, R380). -/
def rangeRules2 : List RangeRule :=
  [⟨0x0A0, 0x0A0, 0x040, 15, 8, 1, 255, 0x10, 1, 4⟩, ⟨0x0A1, 0x0A8, 0x048, 3, 0, 1, 9, 0x10, 1, 4⟩,
   ⟨0x0A1, 0x0A8, 0x050, 20, 0, 1, 2000000, 0x10, 1, 4⟩, ⟨0x0A1, 0x0A8, 0x054, 31, 0, 1, 100000000, 0x10, 3, 4⟩,
   ⟨0x0A1, 0x0A8, 0x070, 31, 16, 1, 65535, 0x10, 1, 4⟩, ⟨0x0A1, 0x0A8, 0x070, 15, 0, 1, 65535, 0x10, 1, 4⟩,
   ⟨0x0A1, 0x0A8, 0x074, 31, 24, 1, 255, 0x10, 1, 4⟩, ⟨0x0A1, 0x0A8, 0x07C, 7, 0, 0, 100, 0x10, 1, 4⟩,
   ⟨0x0A1, 0x0A8, 0x0A0, 15, 0, 1, 65535, 0x10, 1, 4⟩, ⟨0x0A1, 0x0A8, 0x0AC, 15, 0, 100, 25000, 0x10, 1, 4⟩,
   ⟨0x0B0, 0x0B0, 0x054, 11, 0, 100, 3000, 0x10, 1, 4⟩, ⟨0x0B0, 0x0B0, 0x05C, 15, 0, 1, 65535, 0x10, 1, 4⟩] ++
  [⟨0x0B1, 0x0B8, 0x040, 5, 4, 1, 3, 0x10, 1, 4⟩, ⟨0x0B1, 0x0B8, 0x048, 12, 8, 0, 19, 0x10, 1, 4⟩,
   ⟨0x0B1, 0x0B8, 0x04C, 31, 16, 0, 10000, 0x10, 1, 4⟩, ⟨0x0B1, 0x0B8, 0x04C, 15, 0, 0, 10000, 0x10, 1, 4⟩,
   ⟨0x021, 0x021, 0x044, 3, 0, 1, 15, 0x10, 1, 4⟩, ⟨0x021, 0x021, 0x048, 31, 28, 1, 9, 0x10, 1, 4⟩,
   ⟨0x0D0, 0x0D0, 0x048, 15, 0, 1, 60000, 0x10, 1, 4⟩, ⟨0x0D0, 0x0D0, 0x054, 20, 16, 0, 21, 0x10, 1, 4⟩] ++
  [⟨0x0D0, 0x0D0, 0x058, 31, 28, 1, 5, 0x10, 1, 4⟩, ⟨0x0D0, 0x0D0, 0x070, 11, 0, 0, 4094, 0x10, 1, 4⟩,
   ⟨0x0D0, 0x0D0, 0x080, 31, 16, 10, 10000, 0x10, 1, 4⟩, ⟨0x0D0, 0x0D0, 0x080, 15, 0, 100, 60000, 0x10, 1, 4⟩,
   ⟨0x0D0, 0x0D0, 0x08C, 31, 16, 16, 1024, 0x10, 1, 4⟩, ⟨0x0D0, 0x0D0, 0x08C, 15, 0, 64, 8192, 0x10, 1, 4⟩,
   ⟨0x0D0, 0x0D0, 0x0A0, 3, 0, 0, 9, 0x10, 1, 4⟩, ⟨0x0D0, 0x0D0, 0x0AC, 12, 0, 16, 4096, 0x10, 1, 4⟩,
   ⟨0x0D0, 0x0D0, 0x0C0, 13, 0, 1528, 9616, 0x10, 1, 4⟩, ⟨0x0D1, 0x0E4, 0x040, 9, 8, 0, 2, 0x10, 1, 4⟩,
   ⟨0x0D1, 0x0E4, 0x048, 13, 0, 1518, 9600, 0x10, 1, 4⟩, ⟨0x0D1, 0x0E4, 0x04C, 11, 0, 1, 4094, 0x10, 1, 4⟩]

/-- The ranges of the register tables (R415, R416, R447, R448, R472, R473, R489, R508, R529, R530). -/
def rangeRules3 : List RangeRule :=
  [⟨0x0F0, 0x0F0, 0x040, 23, 16, 3, 255, 0x10, 1, 4⟩, ⟨0x0F0, 0x0F0, 0x040, 7, 6, 0, 2, 0x10, 1, 4⟩,
   ⟨0x0F0, 0x0F0, 0x048, 3, 0, 1, 3, 0x10, 1, 4⟩, ⟨0x0F0, 0x0F0, 0x05C, 7, 0, 16, 255, 0x10, 1, 4⟩,
   ⟨0x0F0, 0x0F0, 0x068, 15, 0, 1, 65535, 0x10, 1, 4⟩, ⟨0x0F1, 0x0F1, 0x04C, 27, 16, 1, 4094, 0x10, 1, 4⟩,
   ⟨0x0F1, 0x0F1, 0x058, 7, 0, 1, 255, 0x10, 1, 4⟩, ⟨0x0F1, 0x0F1, 0x05C, 4, 0, 0, 19, 0x10, 1, 4⟩,
   ⟨0x0F1, 0x0F1, 0x064, 31, 28, 1, 1, 0x10, 1, 4⟩, ⟨0x101, 0x101, 0x044, 3, 0, 1, 2, 0x10, 1, 4⟩,
   ⟨0x102, 0x102, 0x040, 31, 28, 1, 2, 0x10, 1, 4⟩, ⟨0x102, 0x102, 0x040, 3, 0, 0, 8, 0x10, 1, 4⟩] ++
  [⟨0x008, 0x00F, 0x044, 31, 28, 1, 2, 0x10, 1, 4⟩, ⟨0x008, 0x008, 0x100, 7, 0, 1, 12, 0x10, 1, 4⟩,
   ⟨0x008, 0x008, 0x104, 3, 0, 0, 8, 0x10, 1, 4⟩, ⟨0x008, 0x008, 0x108, 31, 28, 1, 2, 0x10, 1, 4⟩,
   ⟨0x008, 0x008, 0x120, 15, 1, 1, 4096, 0x10, 1, 4⟩, ⟨0x010, 0x017, 0x040, 27, 24, 0, 8, 0x10, 2, 64⟩,
   ⟨0x010, 0x017, 0x044, 3, 0, 1, 4, 0x10, 2, 64⟩, ⟨0x030, 0x03F, 0x040, 25, 16, 16, 512, 0x10, 4, 32⟩,
   ⟨0x030, 0x03F, 0x040, 15, 0, 100, 65535, 0x10, 4, 32⟩, ⟨0x030, 0x03F, 0x048, 31, 28, 1, 2, 0x10, 4, 32⟩,
   ⟨0x002, 0x002, 0x040, 31, 28, 1, 3, 0x10, 1, 4⟩, ⟨0x002, 0x002, 0x060, 31, 16, 1, 65535, 0x10, 1, 4⟩] ++
  [⟨0x002, 0x002, 0x068, 15, 0, 1, 10000, 0x10, 1, 4⟩, ⟨0x000, 0x000, 0x044, 31, 28, 1, 1, 0x10, 1, 4⟩,
   ⟨0x000, 0x000, 0x080, 31, 28, 1, 2, 0x11, 1, 4⟩, ⟨0x003, 0x003, 0x054, 30, 28, 0, 3, 0x10, 1, 4⟩,
   ⟨0x003, 0x003, 0x054, 15, 0, 1, 65535, 0x10, 1, 4⟩, ⟨0x100, 0x100, 0x044, 31, 26, 1, 22, 0x10, 1, 4⟩]

/-- The code with which a range rule refuses value `v` of the register at `key`. -/
def rangeRefusal (key v : Nat) : Option Nat :=
  let p := plainKey key / 0x1000
  let off := plainKey key % 0x1000
  let bad (r : RangeRule) : Bool :=
    decide (r.p0 ≤ p) && decide (p ≤ r.p1) && isCopy off r.off r.count r.stride &&
      !(decide (r.least ≤ bitsOf v r.top r.bot) && decide (bitsOf v r.top r.bot ≤ r.most))
  match rangeRules1.find? bad with
  | some r => some r.code
  | none =>
    match rangeRules2.find? bad with
    | some r => some r.code
    | none =>
      match rangeRules3.find? bad with
      | some r => some r.code
      | none => none

/-! ## Logs that a read pops -/

/-- The logs: the key of the first register, copies, stride, words of an entry, and what an empty log reads as. -/
def fifoRegs : List (Nat × Nat × Nat × Nat × Nat) :=
  [(0x56060, 1, 4, 1, 0), (0x43080, 8, 16, 3, 0), (0x60098, 1, 4, 1, 0), (0x6009C, 1, 4, 1, 0), (0x800BC, 1, 4, 1, 0xFFFF),
   (0x82060, 1, 4, 1, 0), (0x91070, 1, 4, 4, 0), (0xC0084, 1, 4, 1, 0), (0xD006C, 1, 4, 1, 0), (0xD1060, 20, 0x1000, 4, 0),
   (0x08110, 1, 4, 4, 0), (0x0812C, 1, 4, 3, 0)]

/-- The log of which a key is a word: the key of its first register, its words, and what it reads as when empty. -/
def fifoOf (key : Nat) : Option (Nat × Nat × Nat) :=
  let inLog (f : Nat × Nat × Nat × Nat × Nat) : Bool :=
    decide (f.1 ≤ key) && decide ((key - f.1) / f.2.2.1 < f.2.1) && decide ((key - f.1) % f.2.2.1 < 4 * f.2.2.2.1) ||
      (decide (f.1 ≤ key) && decide (f.2.1 = 1) && decide (key - f.1 < 4 * f.2.2.2.1))
  match fifoRegs.find? inLog with
  | some f => some (if f.2.1 = 1 then f.1 else f.1 + (key - f.1) / f.2.2.1 * f.2.2.1, f.2.2.2.1, f.2.2.2.2)
  | none => none

/-! ## Host access by life-cycle state (R53, R54) -/

/-- The life-cycle states (R516). -/
inductive LifeCycle where
  | blank | provision | field | returned | scrap
  deriving DecidableEq, Repr

def LifeCycle.code : LifeCycle → Nat
  | .blank => 0
  | .provision => 1
  | .field => 2
  | .returned => 3
  | .scrap => 4

/-- The state of the highest programmed bit (R517). -/
def lifeCycleOf (lc : Nat) : LifeCycle :=
  if bitAt lc 3 then .scrap else if bitAt lc 2 then .returned else if bitAt lc 1 then .field
  else if bitAt lc 0 then .provision else .blank

def State.lifeCycle (s : State) : LifeCycle := lifeCycleOf s.rst.otp.lc

/-- The host's access to a page group. -/
inductive HostAccess where
  | none | ro | rw | requests
  deriving DecidableEq, Repr

/-- The table of R53. -/
def hostAccess (p : Nat) (lc : LifeCycle) : HostAccess :=
  if p = 0x000 then (if lc = .scrap then .ro else .rw)
  else if p = 0x0C0 then (if lc = .scrap then .ro else .requests)
  else if p = 0x100 then (match lc with | .provision | .field => .rw | _ => .none)
  else if p = 0x101 then (match lc with | .provision => .rw | .scrap => .none | _ => .ro)
  else if p = 0x102 then (match lc with | .blank | .scrap => .none | _ => .rw)
  else if p = 0x110 then (match lc with | .field | .scrap => .none | _ => .rw)
  else if lc = .scrap then .none else .rw

/-- The POPPY registers the host may write (R53): POPPY_REQ and the release registers. -/
def poppyHostWritable (off : Nat) : Bool :=
  off == 0x050 || (decide (0x0A0 ≤ off) && decide (off ≤ 0x0B4))

/-- The SYS registers the host may write before host-open (R529): LOAD_CTRL and LOAD_DATA. -/
def sysEarlyWritable (off : Nat) : Bool := off == 0x0A8 || off == 0x0AC

/-- The host may make this access now (R53, R54, R529). -/
def State.hostMay (s : State) (p off : Nat) (write : Bool) : Bool :=
  let byState := match hostAccess p s.lifeCycle with
    | .none => false
    | .ro => !write
    | .rw => true
    | .requests => !write || poppyHostWritable off
  let opened :=
    if s.rst.hostOpen then true
    else if p = 0x000 then s.rst.sysOpen || !write || sysEarlyWritable off
    else decide (p = 0x101) && s.rst.tampHeld && !write
  byState && opened

/-- The TAP instruction in force: boundary-scan tests and DEBUG select BYPASS where the life-cycle state bars them (R528). -/
def State.tapNow (s : State) : TapInstruction :=
  match s.rst.tap with
  | .bypass => .bypass
  | .idcode => .idcode
  | .sample => .sample
  | t =>
    match s.lifeCycle with
    | .blank | .provision | .returned => t
    | .field | .scrap => .bypass

/-- The PCIe link is up: the endpoint is enabled by its strap (R527), has its reference clock (R491) and is not in reset or off. -/
def State.pcieUp (s : State) : Bool :=
  s.flag F.SYS_STRAP_PCIE && s.flag F.CLK_STAT_PCIEREF_OK && !s.rst.pcieDown && s.pwr.state != .snowdrop && s.pwr.state != .waking

def planePage (x : PagePlane) (p : Nat) : Bool :=
  match pageRow p with
  | some r => r.plane == x
  | none => false

/-- The pages that a plane reset returns to their reset values: of the management plane SYS, RST and TAMP are kept. -/
def planeResets (x : PagePlane) (p : Nat) : Bool :=
  planePage x p && !(x == .mgmt && (p == 0x000 || p == 0x003 || p == 0x101))

/-- The number of a plane in RST_PLANE.WHICH (R530). -/
def PagePlane.code : PagePlane → Nat
  | .data => 1
  | .control => 2
  | .mgmt => 3
  | .meeting | .dtu => 0

/-- A plane is in reset (R511, R512). -/
def State.planeIn (s : State) (x : PagePlane) : Bool := s.rst.planeHeld.any fun e => e.1 == x.code

/-- The plane of a page is in reset, and the page with it. -/
def State.pageInReset (s : State) (p : Nat) : Bool :=
  !s.rst.planeHeld.isEmpty && [PagePlane.data, .control, .mgmt].any fun x => s.planeIn x && planeResets x p

/-- An initiator can make an access: the host over a PCIe link that is up, the debug port while the TAP makes it one, a core or the DMA
engine while its plane is not in reset (R512). -/
def State.reaches (s : State) (who : Initiator) : Bool :=
  match who with
  | .host => s.pcieUp
  | .debug => s.tapNow == .debugPort
  | .ctl _ => !s.planeIn .control
  | .data _ | .dma => !s.planeIn .data

/-- The power domain of a page is on (R39, R500) and out of reset (R14, R512; a page whose plane is in reset is met as one that is off,
DESIGN CHOICE, log 93): in Snowdrop only the always-on, time-base and Poppy pages and the pages of the management plane that keep their
registers are. -/
def State.pagePowered (s : State) (p : Nat) : Bool :=
  !s.rst.held && !s.pageInReset p &&
    (s.pwr.state != .snowdrop || decide (p ≤ 0x003) || (decide (0x040 ≤ p) && decide (p ≤ 0x043)) || p == 0x0C0 || p == 0x100 || p == 0x101)

/-- What the block of page `p` does on its own: nothing while the power domain of the page is off (R500). -/
def State.live (s : State) (p : Nat) (r : Res) : Res := if s.pagePowered p then r else .next s

/-- A block that counts plan or dispatch ticks carries out its actions: its domain is on, and it has caught up with the last jump of
the time base (R563). -/
def State.ticking (s : State) (p : Nat) : Bool := s.pagePowered p && s.time.catchFrom.isNone

/-- What such a block does on its own. -/
def State.liveTick (s : State) (p : Nat) (r : Res) : Res := if s.ticking p then r else .next s

end Sys2Proof.Machine
end

