-- ==== Sys2Proof/Machine/Pins.lean ====
section
/-! DEFINITION. Levels of the 3.3 V output pins as functions of the state (04_time_base.md R112; 10_poppy_plane.md R312 to R317; 08_segments_and_axes.md R243, R244, R258;
19_package_and_electrical.md R538, R539, R549). True is high; none is a pin that floats while its supply is lost. In device reset the
pins are low. -/

namespace Sys2Proof.Machine

/-- A 3.3 V output that drives a level out of reset. -/
def State.pin33 (s : State) (level : Bool) : Option Bool := if s.ioLost then none else some (level && !s.rst.held)

/-- TIME_PULSE (R112): INVERT makes the active level low. -/
def State.pulsePin (s : State) (i : Nat) : Option Bool :=
  let p := s.pulse i
  s.pin33 (p.active != p.invert)

/-- The axes' blocks are on: in Snowdrop STEP and DIR are low, ENA is inactive and the duty of IREF is 0 (R500). -/
def State.axesOn (s : State) : Bool := s.pagePowered 0x0A1

/-- AX_ENA (R243): active while EN is 1 and the axis is not in FAULT; ENA_LOW makes it active low. -/
def State.enaPin (s : State) (n : Nat) : Option Bool :=
  s.pin33 ((s.axesOn && s.flag (F.AXIS_CTRL_EN n) && (s.axis n).mode != .fault) != s.flag (F.AXIS_CTRL_ENA_LOW n))

/-- AX_DIR (R243): high for positive motion, unless DIR_INV is set. -/
def State.dirPin (s : State) (n : Nat) : Option Bool := s.pin33 (s.axesOn && (s.axis n).dirPos != s.flag (F.AXIS_CTRL_DIR_INV n))

/-- The duty of AX_IREF in percent of its period of 10 µs (R243, R258). -/
def State.irefDuty (s : State) (n : Nat) : Option Nat :=
  (s.pin33 true).map fun on =>
    if !on || !s.axesOn then 0
    else if (s.axis n).reduced && s.flag (F.AXIS_CTRL_IDLE_EN n) then s.getF (F.AXIS_IDLE_IDLE_PCT n)
    else s.getF (F.AXIS_IDLE_RUN_PCT n)

/-- The pulses of AX_STEP in the interval of the last step update (R244): their rising and falling edges in ns from its start, evenly
spread over it, or over what DIR_NS leaves of it (log 113). -/
def State.stepPulses (s : State) (n : Nat) : List (Nat × Nat) :=
  let a := s.axis n
  if s.pin33 true ≠ some true || !s.axesOn then []
  else
    (List.range a.steps).map fun k =>
      let rise := a.stepFrom + k * (10000 - a.stepFrom) / a.steps
      (rise, rise + s.getF (F.AXIS_STEP_CFG_PULSE_NS n))

/-- STOP_TP of a channel (R312): driven high, and low for WIDTH_US of each test pulse. -/
def State.testPin (s : State) (x : Nat) : Option Bool :=
  let c := s.pchan x
  s.pin33 (!c.held && decide (c.tpLow ≤ s.now))

/-- STOP_OUT `k` of a channel (R314): high while energised. -/
def State.stopOutPin (s : State) (x k : Nat) : Option Bool := s.pin33 (bitAt (s.outLevel x) k)

/-- The unit pulls the stop-bus line of a channel low (R316, R317): for its marker, and for the first 60 µs of its member's slot unless
it releases that. -/
def State.busPull (s : State) (x : Nat) : Bool :=
  let c := s.pchan x
  let inSlot := match c.cycle with
    | some t => decide (t + 200000 + 100000 * c.member ≤ s.now) && decide (s.now < t + 260000 + 100000 * c.member)
    | none => false
  !c.held && !s.ioLost && c.busEn && (decide (s.now < c.markerLow) || (inSlot && c.slotPull))

end Sys2Proof.Machine
end

