-- ==== Sys2Proof/Machine/TrackOps.lean ====
section
/-! DEFINITION. The progress tracker and the ends of plan ticks (07_track_planner.md R201, R217 to R221, R563). Positions along a route
are in micrometres where R219 interpolates between them. -/

namespace Sys2Proof.Machine

/-! ## Interpolation (R235, R236) -/

/-- The position in a segment of duration `T` µs at elapsed time `t` µs, from `p0`, `v0` to `p1`, `v1` (velocities in 24.8), rounded to
the nearest unit, ties away from zero (R236). -/
def hermite (T t : Nat) (p0 v0 p1 v1 : Int) : Int := roundAway (fp64Num (hermite64 T t p0 v0 p1 v1)) fp64Unit

/-- The position after `us` µs of a table (R218, R235): at rest at its end after the last segment. -/
def tablePos (p0 v0 : Int) (us : Nat) : List Segment → Int
  | [] => p0
  | g :: t => if us ≤ g.dur then hermite g.dur us p0 v0 g.pos g.vel else tablePos g.pos g.vel (us - g.dur) t

/-! ## The route (R214, R219) -/

/-- The site point in µm at a distance in µm along a route of centres in mm. -/
def pointAt (d : Int) : List (Int × Int) → List Int → Int × Int
  | (ax, ay) :: (bx, bY) :: ps, da :: db :: ds =>
    if d ≤ 1000 * db ∨ ps = [] then
      let len := db - da
      let u := min (max (d - 1000 * da) 0) (1000 * len)
      if len = 0 then (1000 * ax, 1000 * ay) else (1000 * ax + u * (bx - ax) / len, 1000 * ay + u * (bY - ay) / len)
    else pointAt d ((bx, bY) :: ps) (db :: ds)
  | (ax, ay) :: _, _ => (1000 * ax, 1000 * ay)
  | [], _ => (0, 0)

/-- The nearest points of a route's legs to a point in mm: square of the distance in µm², distance along the route in µm. -/
def legPoints (e n : Int) : List (Int × Int) → List Int → List (Nat × Int)
  | (ax, ay) :: (bx, bY) :: ps, da :: db :: ds =>
    let dx := bx - ax
    let dy := bY - ay
    let l2 := dx * dx + dy * dy
    let num := min (max ((e - ax) * dx + (n - ay) * dy) 0) l2
    let at_ (d : Int) : Int := if l2 = 0 then 0 else 1000 * d * num / l2
    ((1000 * (e - ax) - at_ dx).natAbs ^ 2 + (1000 * (n - ay) - at_ dy).natAbs ^ 2, 1000 * da + at_ (db - da)) ::
      legPoints e n ((bx, bY) :: ps) (db :: ds)
  | _, _ => []

/-- The position of a fix along the route (R219); of parts equally near, the one nearest to `hint` (log 46). -/
def projectFix (e n hint : Int) (t : TrackPlan) : Int :=
  let best := (legPoints e n t.points t.dist).foldl (fun (b : Option (Nat × Int)) x =>
    match b with
    | none => some x
    | some y => if x.1 < y.1 ∨ (x.1 = y.1 ∧ (x.2 - hint).natAbs < (y.2 - hint).natAbs) then some x else b) none
  match best with
  | some x => x.2
  | none => 0

/-- Twice the distance in mm of the boundary out of cell `k`. -/
def TrackPlan.out2 (t : TrackPlan) (k : Nat) : Int := t.dist.getD k 0 + t.dist.getD (k + 1) 0

/-! ## Overruns (R220) -/

/-- The cell record of cell `k` of a plan, where it has an end. -/
def State.trackRec (s : State) (m : Nat) (t : TrackPlan) (k : Nat) : Option Rsv :=
  let c := t.cells.getD k (0, 0)
  if k < t.cells.length ∧ s.plan.used.elem c.2 then
    let r := s.rsv c.2
    if !r.edge && !r.open_ && r.machine == m && r.member == s.member && r.cell == c.1 then some r else none
  else none

/-- A later EXIT is allowed by R198 and R199 (R220): another machine's records stay. -/
def State.exitAllowed (s : State) (m : Nat) (t : TrackPlan) (k : Nat) (r : Rsv) (exit : Nat) : Bool :=
  let base := r.entry
  let v := heldSpans s.rsvs s.member base []
  let old := tickDiff (r.exit + r.guard) base
  let new := tickDiff (exit + r.guard) base
  decide (new ≤ old) ||
    (s.cellValid r.cell && cellFits v s.member m r.cell (s.cellCapacity r.cell) old (some new) &&
      (decide (t.cells.length ≤ k + 1) || edgeFits v s.member m r.cell (t.cells.getD (k + 1) (0, 0)).1 0 new))

/-- Mark a record as stamped out of or acted on (R201). -/
def State.stampRec (s : State) (i : Nat) : State := { s with plan := { s.plan with stamped := insertIndex i s.plan.stamped } }

/-- The overrun rule acts on cell `k` of a machine's plan, once per record (R220). -/
def State.overrun (s : State) (m k exit case : Nat) : State :=
  match s.track m with
  | none => s
  | some t =>
    match s.trackRec m t k with
    | none => s
    | some r =>
      if t.acted.elem r.idx then s
      else
        let s1 := (s.setTrack m (some { t with acted := r.idx :: t.acted })).stampRec r.idx
        let ok := s1.exitAllowed m t k r exit
        let s2 := if ok then s1.rsvPut { r with exit := exit % 2 ^ 32 } else s1
        let w := s2.machWord m 12
        let s3 := if bitAt w 1 then s2 else s2.planWords m [(12, w ||| 2)]
        ((s3.bump F.TRACK_OVERRUNS_COUNT).raise 0x090 3).planEvent (if ok then 2 else 3) m case t.plan

/-- A crossing out of cell `k` is stamped (R219, R220). -/
def State.stampCrossing (s : State) (m k stamp : Nat) : State :=
  match s.track m with
  | none => s
  | some t =>
    match s.trackRec m t k with
    | none => s
    | some r =>
      let d := tickDiff stamp r.exit
      if d ≤ 0 then
        let s1 := s.stampRec r.idx
        if s1.flag F.TRACK_CTRL_EARLY_REL && decide (d < 0) then s1.rsvPut { r with exit := stamp } else s1
      else (s.overrun m k stamp 2).stampRec r.idx

/-! ## A fix (R217 to R221) -/

/-- The boundaries ahead of the cell in which a plan's machine was last placed. -/
def TrackPlan.ahead (t : TrackPlan) : List Nat := (List.range (t.cells.length - 1)).filter fun k => decide (t.at_ ≤ k)

/-- The crossings between two fixes, of the boundaries out of the cells given: from `prev` (epoch in ms, position) to `(ep, pos)`
(R219). A boundary that lies on neither side of them is not stamped. -/
def State.crossings (s : State) (m : Nat) (prev : Nat × Int) (ep : Nat) (pos : Int) : List Nat → State
  | [] => s
  | k :: ks =>
    match s.track m with
    | none => s
    | some t =>
      let b := 500 * t.out2 k
      if prev.2 < b ∧ b ≤ pos then
        let ms := (prev.1 : Int) + ((ep : Int) - prev.1) * (b - prev.2) / (pos - prev.2)
        let s1 := s.stampCrossing m k (ms.toNat / 10 % 2 ^ 32)
        let t1 := (s1.track m).getD t
        let s2 := s1.setTrack m (some { t1 with at_ := k + 1 })
        let w := s2.machWord m 10
        (s2.planWords m [(10, w / 65536 * 65536 + (t.cells.getD (k + 1) (0, 0)).1)]).crossings m prev ep pos ks
      else s.crossings m prev ep pos ks

/-- Track a fix record of a machine that follows a plan (R217 to R221). -/
def State.trackFix (s : State) (m status ep : Nat) (e n : Int) : State :=
  let tick := ep / 10 % 2 ^ 32
  let last := s.machWord m 11
  match s.track m with
  | none => s
  | some t =>
    if !s.planActive m || decide (status < s.getF F.TRACK_CTRL_MIN_STATUS) ||
        (decide (tickDiff tick last ≤ 0) && !(last == 0 && t.prev.isNone)) then s
    else if status = 0 then s.planWords m [(11, tick)]
    else
      let cls := s.machClass m
      let corridor := s.getF (F.TRACK_CLASS_CORRIDOR cls)
      let us := (tickDiff tick t.start * 10 + (ep % 10 : Nat)) * 1000
      let along := if us ≤ 0 then 0 else tablePos 0 0 us.toNat t.segs
      let p := pointAt (1000 * along) t.points t.dist
      let dev := (nearSqrt ((1000 * e - p.1).natAbs ^ 2 + (1000 * n - p.2).natAbs ^ 2) + 500) / 1000
      let w := s.machWord m 12
      let run := if corridor < dev then bitsOf w 15 8 + 1 else 0
      let hit := decide (s.getF F.TRACK_CTRL_DEV_COUNT ≤ run)
      let s1 := s.planWords m [(11, tick), (12, setBits (setBits w 31 16 (min dev 65535)) 15 8 (if hit then 0 else min run 255))]
      let pos := projectFix e n (1000 * along) t
      let s2 := match t.prev with
        | some pr => s1.crossings m pr ep pos t.ahead
        | none => s1
      let t2 := (s2.track m).getD t
      let s3 := s2.setTrack m (some { t2 with prev := some (ep, pos) })
      let s4 := t2.ahead.foldl (fun s k =>
        match s.trackRec m t2 k with
        | some r =>
          if 0 < tickDiff tick r.exit ∧ pos < 500 * t2.out2 k then s.overrun m k ((s.planTick + s.getF F.TRACK_OVR_EXT) % 2 ^ 32) 0 else s
        | none => s) s3
      let s5 := if hit then s4.planEvent 1 m (min (dev / 100) 255) t.plan else s4
      let g := (t.points.getLast?).getD (0, 0)
      if 0 ≤ tickDiff tick t.arrival ∧ (e - g.1).natAbs ^ 2 + (n - g.2).natAbs ^ 2 ≤ corridor ^ 2 then
        (s5.planWords m [(12, s5.machWord m 12 / 2 * 2)]).planEvent 7 m 0 t.plan
      else s5

/-! ## The ends of plan ticks (R201, R220) -/

/-- Every tracked plan of a VALID machine. -/
def State.tracked (s : State) : List (Nat × TrackPlan) :=
  s.plan.plans.filterMap fun p =>
    match p.2 with
    | some t => if s.machValid p.1 then some (p.1, t) else none
    | none => none

/-- Overruns without a stamp at the end of a tick (R220 case 1); the goal record of a plan that has ended stays (R221). -/
def State.overrunDue (s : State) (tick : Nat) : State :=
  if !s.flag F.TRACK_CTRL_TRACK_EN || s.notActive then s
  else
    s.tracked.foldl (fun s p =>
      (List.range (p.2.cells.length - bit (!s.planActive p.1))).foldl (fun s k =>
        match s.trackRec p.1 p.2 k with
        | some r =>
          if s.plan.stamped.elem r.idx || decide (tickDiff tick (r.exit + s.getF F.TRACK_OVR_GRACE) < 0) then s
          else s.overrun p.1 k ((tick + s.getF F.TRACK_OVR_EXT) % 2 ^ 32) 1
        | none => s) s) s

/-- A record that may retire at the end of a tick (R201): its span has ended, it is neither OPEN nor DOUBT, and while the tracker
runs a cell record of an own machine waits for its stamp. -/
def State.mayRetire (s : State) (tick : Nat) (r : Rsv) : Bool :=
  let ended := match r.ends with
    | none => false
    | some e => decide (tickDiff e tick ≤ 1)
  ended && !r.open_ && !r.doubt &&
    (r.edge || !s.flag F.TRACK_CTRL_TRACK_EN || r.member != s.member || s.plan.stamped.elem r.idx)

/-- Retirements at the end of a tick (R201). -/
def State.sweepEnd (s : State) (tick : Nat) : State :=
  if !s.flag F.TRACK_RES_CTRL_SWEEP_EN || s.notActive then s
  else
    let l := (s.rsvs.filter (s.mayRetire tick)).map fun r => r.idx
    if l.isEmpty then s else ((s.rsvFreeAll l).bumpBy F.TRACK_RES_SWEPT_COUNT l.length).journal 4

/-- The overruns at the end of a plan tick; the lead tells those of its shared records (R224). -/
def State.overrunEnd (s : State) (tick : Nat) : State := ((s.overrunDue tick).leadTell s).journalOpen

/-- The end of one plan tick. -/
def State.planTickEnd (s : State) (tick : Nat) : State := (s.overrunEnd tick).sweepEnd tick

/-- The ticks, counted from `from_`, at whose end something falls due for a record. -/
def State.rsvDue (s : State) (from_ : Nat) (r : Rsv) : List Int :=
  let sweep := if s.flag F.TRACK_RES_CTRL_SWEEP_EN && !r.open_ && !r.doubt then (r.ends.map fun e => tickDiff e from_ - 1).toList else []
  let grace := if s.flag F.TRACK_CTRL_TRACK_EN && !r.edge && !r.open_ then [tickDiff (r.exit + s.getF F.TRACK_OVR_GRACE) from_] else []
  sweep ++ grace

end Sys2Proof.Machine
end

