-- ==== Sys2Proof/Machine/SharedOps.lean ====
section
/-! DEFINITION. Shared cells (07_track_planner.md R224 to R227; 13_pairs_and_cascades.md R409 to R411): the member's requests and the
lead's grants, updates and snapshots. -/

namespace Sys2Proof.Machine

/-! ## The member's side (R225) -/

/-- A request's body (R227); no records make it a release. -/
def State.shrBody (s : State) (x : SharedWait) : List Byte :=
  wordsBytes ([x.records.length * 0x1000000 + x.machine * 0x10000 + s.member * 0x1000 + 0x1B2, x.serial, x.plan, x.from_] ++
    x.records.flatten)

/-- Send a request to the lead; the lead's own requests take their place among those that have arrived (R225). -/
def State.shrSend (s : State) (x : SharedWait) : State :=
  if s.isLead then { s with plan := { s.plan with ownReqs := s.plan.ownReqs ++ [(s.shrBody x, s.msgsWaiting)] } }
  else s.sendMsg 0x03 (.member (s.getF F.CASC_CTRL_LEAD)) 0 (s.shrBody x)

/-- The next serial (R225). -/
def State.nextSerial (s : State) : Nat × State :=
  let n := (s.getF F.TRACK_PLAN_SHR_SERIAL_SERIAL + 1) % 2 ^ 32
  (n, (s.setF F.TRACK_PLAN_SHR_SERIAL_SERIAL n).jnoteObj 0x0B 0 [])

/-- The end of a search that found a plan (R212, R225, R465): the slots of bumped machines are probed; a plan that no longer fits the
store is searched for again with its S (log 111); a plan with shared records waits for the lead, another is committed. -/
def State.planFinish (s : State) (x : PlanSearch) : State :=
  let (bad, s1) := x.found.bumps.foldl (fun (acc : Bool × State) b =>
    if acc.1 then acc
    else
      let (f, t) := acc.2.probeSlot b.1 (1 - acc.2.planSlot b.1)
      (f.isSome, t)) (false, s)
  if bad then s1.planPause x
  else if !s1.planFits x then s1.searchFrom x
  else
    let shared := (s1.planRsvs x).filter s1.rsvShared
    if shared.isEmpty then
      let (c, s2) := s1.commitPlan x none
      s2.planEnd x c
    else if 64 < shared.length then s1.planEnd x { outcome := 6 }
    else
      -- the plan id is that of the commit that follows a grant (log 47)
      let pid := s1.member * 2 ^ 28 + (s1.getF F.TRACK_PLAN_COMMIT_SEQ_SEQ + 1) % 2 ^ 28
      let (n, s2) := s1.nextSerial
      let recs := shared.map fun r => Rsv.words { r with tag := pid % 4096 }
      let w : SharedWait := ⟨recs, x.req.machine, n, pid, x.s, 1, s2.now⟩
      ({ s2 with plan := { s2.plan with shared := some w } }.journalOpen).shrSend w

/-- A shared request is denied (R205 outcome 6). -/
def State.sharedDenied (s : State) : State :=
  match s.plan.search with
  | some x => s.planEnd x { outcome := 6 }
  | none => { s with plan := { s.plan with shared := none } }

/-- A reply of the lead (R225): RESULT 0 commits the plan, another denies it; a reply to a release ends the releases. -/
def State.shrReply (s : State) (b : List Byte) : State :=
  let result := wordAt b 0 / 0x1000000
  let serial := wordAt b 4
  let orphan := s.plan.orphans.any fun o => o.serial == serial
  let s0 := if orphan then { s with plan := { s.plan with orphans := s.plan.orphans.filter fun o => o.serial != serial } } else s
  match s0.plan.shared, s0.plan.search with
  | some w, some x =>
    if w.serial ≠ serial ∨ wordAt b 8 ≠ w.plan then s0
    else if result ≠ 0 then s0.sharedDenied
    else if x.cancel then s0.planEnd x { outcome := 9 }
    else if !s0.planFits x then { s0 with plan := { s0.plan with shared := none } }.searchFrom x
    else
      let (c, s1) := s0.commitPlan x (some serial)
      s1.planEnd x c
  | _, _ => s0

/-- A wait for the lead has expired (R225): the request is sent again, or denied and released; a release is sent again, or its
orphan is reported. -/
def State.shrRetry (s : State) : State :=
  let gap := 1000 * s.getF F.TRACK_SHR_RETRY_US
  let tries := s.getF F.TRACK_SHR_TRIES
  let s1 := match s.plan.shared with
    | some w =>
      if s.now < w.sentAt + gap then s
      else
        let t := s.raise 0x092 2
        if w.sends < tries then
          let w1 := { w with sends := w.sends + 1, sentAt := s.now }
          { t with plan := { t.plan with shared := some w1 } }.shrSend w1
        else
          let (n, t1) := t.sharedDenied.nextSerial
          let r := { w with records := [], serial := n, sends := 1, sentAt := s.now }
          ({ t1 with plan := { t1.plan with orphans := t1.plan.orphans ++ [r] } }.journalOpen).shrSend r
    | none => s
  s.plan.orphans.foldl (fun s o =>
    if s.now < o.sentAt + gap then s
    else
      let rest := s.plan.orphans.filter fun x => x.serial != o.serial
      if o.sends < tries then
        let o1 := { o with sends := o.sends + 1, sentAt := s.now }
        { s with plan := { s.plan with orphans := rest ++ [o1] } }.shrSend o1
      else ({ s with plan := { s.plan with orphans := rest } }.planEvent 6 o.machine 0 o.plan).raise 0x090 4) s1

/-! ## Shared records in the store (R224) -/

/-- The records of a message: 16 bytes each from offset 16. -/
def msgRecords (b : List Byte) (n : Nat) : List Rsv := (chunks 16 n (b.drop 16)).map fun r => rsvOf 0 (bytesWords r)

/-- Write shared records after those that they replace. A DOUBT record stays, and is not written a second time (R228). -/
def State.sharedWrite (s : State) (gone : List Rsv) (recs : List Rsv) : State :=
  let kept := s.rsvs.filter fun r => r.doubt
  let new := recs.filter fun r => !(kept.any fun d => { d with doubt := r.doubt }.words == r.words)
  new.foldl (fun s r => s.rsvAdd r) (s.rsvFreeAll ((gone.filter fun r => !r.doubt).map fun r => r.idx))

/-! ## The lead's side (R226, R409) -/

def State.serialRec (s : State) (k : Nat) : Option SerialRec := Assoc.get (fun _ => none) s.pair.serials k

/-- Keep and journal a serial record (R226, R396). -/
def State.setSerialRec (s : State) (k : Nat) (r : SerialRec) : State :=
  { s with pair := { s.pair with serials := Assoc.put (fun _ => none) s.pair.serials k (some r) } }.jnoteObj 0x0C k
    (wordsBytes [r.serial, r.result])

/-- A reply's body (R227). -/
def replyBody (head result serial plan firstBad : Nat) : List Byte :=
  wordsBytes [result * 0x1000000 + bitsOf head 23 8 * 0x100 + 0xB3, serial, plan, firstBad]

/-- The index of the first record of a request that does not fit R198 and R199 against the lead's records. -/
def State.firstBad (s : State) (recs : List Rsv) : Option Nat :=
  recs.findIdx? fun r => !s.recFits s.rsvs [] r

/-- Serve a shared request (R226, R409). -/
def State.shrServe (s : State) (b : List Byte) : State :=
  let h := wordAt b 0
  let count := h / 0x1000000
  let m := bitsOf h 23 16
  let member := bitsOf h 15 12
  let serial := wordAt b 4
  let plan := wordAt b 8
  let from_ := wordAt b 12
  let k := member * 256 + m
  let answer (s : State) (result firstBad : Nat) : State := s.output (.reply member (replyBody h result serial plan firstBad))
  let grant (s : State) (result : Nat) (bad : Nat) : State := answer ((s.setSerialRec k ⟨serial, result, bad, plan⟩).journal 5) result bad
  if !s.isLead then s.letGo (.reply member (replyBody h 3 serial plan 0xFF))
  else
    let old := s.serialRec k
    let same := match old with
      | some o => o.serial == serial
      | none => false
    let stale := match old with
      | some o => decide (tickDiff serial o.serial < 0)
      | none => false
    if same then
      match old with
      | some o => s.letGo (.reply member (replyBody h o.result serial o.plan o.firstBad))
      | none => s
    else if stale then s.letGo (.reply member (replyBody h 4 serial plan 0xFF))
    else if count = 0 then
      let gone := (s.sharedOf member m none).filter fun r => r.tag == plan % 4096
      let start := firstEntry (gone ++ s.sharedOf member m (some from_))
      grant ((s.sharedWrite gone []).nextUpdate member m plan (if gone.isEmpty then from_ else start)) 0 0xFF
    else
      let recs := (msgRecords b count).map fun r => { r with member := member, machine := m }
      match s.firstBad recs with
      | some i => grant s 1 i
      | none =>
        let gone := (s.sharedOf member m (some from_)).filter fun r => !r.doubt
        if !s.rsvRoom (recs.map fun r => r.cell) (gone.map fun r => r.cell) then grant (s.raise 0x091 1) 2 0xFF
        else grant ((s.sharedWrite gone recs).nextUpdate member m plan from_) 0 0xFF

/-! ## Updates (R224, R410) -/

/-- Apply one update (R224): the machine's shared records from FROM_TICK on are those of the update. -/
def State.applyUpdate (s : State) (b : List Byte) : State :=
  let h := wordAt b 0
  let m := bitsOf h 23 16
  let member := bitsOf h 15 12
  let recs := (msgRecords b (h / 0x1000000)).map fun r => { r with member := member, machine := m }
  let s1 := s.sharedWrite (s.sharedOf member m (some (wordAt b 12))) recs
  ((s1.setF F.CASC_UPD_SEQ_SEQ (wordAt b 4)).jnoteObj 0x0B 0 []).journal 5

/-- Apply held updates while they follow on. -/
def State.applyHeld (s : State) : Nat → State
  | 0 => s
  | n + 1 =>
    let next := (s.getF F.CASC_UPD_SEQ_SEQ + 1) % 2 ^ 32
    match s.pair.updHeld.find? fun u => u.1 == next with
    | some u =>
      ({ s with pair := { s.pair with updHeld := s.pair.updHeld.filter fun x => x.1 != next } }.applyUpdate u.2).applyHeld n
    | none => s

/-- Ask the lead for a snapshot (R410). -/
def State.snapAsk (s : State) : State :=
  if s.isLead || s.notActive then s
  else
    { s.setFlag F.CASC_STAT_SNAP_PENDING true with pair := { s.pair with snapNamed := [] } }.sendMsg 0x06
      (.member (s.getF F.CASC_CTRL_LEAD)) 0 []

/-- An update received (R224, R410): in sequence it is applied; a later one is a gap and is held, an earlier one changes
nothing. A snapshot's update replaces or adds the machine's records. -/
def State.takeUpdate (s : State) (flags : Nat) (b : List Byte) : State :=
  let h := wordAt b 0
  let m := bitsOf h 23 16
  let member := bitsOf h 15 12
  let recs := (msgRecords b (h / 0x1000000)).map fun r => { r with member := member, machine := m }
  if bitAt flags 0 then
    if !s.flag F.CASC_STAT_SNAP_PENDING then s
    else
      let gone := if bitAt flags 1 then [] else s.sharedOf member m none
      let s1 := (s.sharedWrite gone recs).journal 5
      { s1 with pair := { s1.pair with snapNamed := (member * 256 + m) :: s1.pair.snapNamed.filter (· != member * 256 + m) } }
  else
    let seq := wordAt b 4
    let d := tickDiff seq (s.getF F.CASC_UPD_SEQ_SEQ)
    let hold (s : State) : State := { s with pair := { s.pair with updHeld := (seq, b) :: s.pair.updHeld.filter fun x => x.1 != seq } }
    if s.flag F.CASC_STAT_SNAP_PENDING then (if 0 < d then hold s else s)
    else if d = 1 then (s.applyUpdate b).applyHeld s.pair.updHeld.length
    else if 1 < d then (((hold s).bump F.CASC_GAPS_COUNT).raise 0x0F1 2).snapAsk
    else s

/-- The lead's snapshot (R410): every machine's shared records, at most 64 a message, then SNAP_END. -/
def State.sendSnapshot (s : State) (dest : Nat) : State :=
  let shared := s.rsvs.filter s.rsvShared
  let who := (shared.map fun r => r.member * 256 + r.machine).eraseDups
  let s1 := who.foldl (fun s k =>
    let recs := shared.filter fun r => r.member * 256 + r.machine == k
    let rec go (flags : Nat) : Nat → List Rsv → State → State
      | 0, _, s => s
      | n + 1, l, s =>
        if l.isEmpty then s
        else
          let b := wordsBytes ([(l.take 64).length * 0x1000000 + k % 256 * 0x10000 + k / 256 * 0x1000 + 0x1B4,
            s.getF F.CASC_UPD_SEQ_SEQ, 0, 0] ++ (l.take 64).flatMap fun r => r.words)
          go 3 n (l.drop 64) (s.sendMsg 0x05 .group flags b)
    go 1 (recs.length / 64 + 1) recs s) s
  s1.sendMsg 0x07 (.member dest) 0 (bytesLE (s.getF F.CASC_UPD_SEQ_SEQ) 4)

/-- SNAP_END (R410). -/
def State.endSnapshot (s : State) (seq : Nat) : State :=
  if !s.flag F.CASC_STAT_SNAP_PENDING then s
  else
    let gone := s.rsvs.filter fun r => r.member != s.member && s.rsvShared r && !s.pair.snapNamed.elem (r.member * 256 + r.machine)
    let s1 := (((s.sharedWrite gone []).setF F.CASC_UPD_SEQ_SEQ seq).jnoteObj 0x0B 0 []).journal 5
    let s2 := { s1.setFlag F.CASC_STAT_SNAP_PENDING false with
      pair := { s1.pair with snapNamed := [], updHeld := s1.pair.updHeld.filter fun u => decide (0 < tickDiff u.1 seq) } }
    (s2.raise 0x0F1 3).applyHeld s2.pair.updHeld.length

end Sys2Proof.Machine
end

