-- ==== Sys2Proof/Machine/ResOps.lean ====
section
/-! DEFINITION. Commands on the reservation store (07_track_planner.md R223, R228, R229, R566) and the views of the planner's pages. -/

namespace Sys2Proof.Machine

/-- RESERVE (R229): an OPEN record from the current tick; a shared cell is reserved only by the lead (R224). -/
def State.resReserve (s : State) (c m prio : Nat) : Nat × State :=
  let cls := s.machClass m
  let v := heldSpans s.rsvs s.member s.planTick []
  if !s.machValid m then (6, s)
  else if !s.cellValid c || s.cellTraverse c cls == 0 || (s.cellShared c && !s.isLead) then (3, s)
  else if !s.rsvRoom [c] [] then (5, (s.bump F.TRACK_RES_FULL_COUNT).raise 0x091 1)
  else if !cellFits v s.member m c (s.cellCapacity c) 0 none then (4, s)
  else
    let r : Rsv :=
      { idx := 0, cell := c, machine := m, prio := prio, open_ := true, entry := s.planTick, guard := s.cellGuard c cls,
        member := s.member, tag := 0 }
    (0, ((s.rsvAdd r).leadTell s).journal 2)

/-- RELEASE (R229). -/
def State.resRelease (s : State) (m tick : Nat) : Nat × State :=
  let l := (s.machRecords m).filter fun r => tick == 0 || decide (0 ≤ tickDiff r.entry tick)
  (0, ((s.rsvFreeAll (l.map fun r => r.idx)).doubtEvent s |>.leadTell s).journal 2)

/-- QUERY_CELL and QUERY_MACHINE (R229): the records whose span ends after a tick, up to 64, in place of earlier results. -/
def State.resQuery (s : State) (l : List Rsv) (tick : Nat) : Nat × State :=
  let found := l.filter fun r =>
    match r.ends with
    | none => true
    | some e => decide (0 < tickDiff e tick)
  (if 64 < found.length then 8 else 0,
   s.setFifo 0x91070 ((found.take 64).map fun r => r.words.map (BitVec.ofNat 32)))

/-- RECONCILE (R228). -/
def State.resReconcile (s : State) (m pid : Nat) : Nat × State :=
  if !s.machValid m then (6, s)
  else if s.machWord m 8 ≠ pid then (7, s)
  else
    let l := (s.machRecords m).filter fun r => r.doubt
    (0, ((l.foldl (fun s r => s.rsvPut { r with doubt := false }) s).doubtEvent s |>.leadTell s).journal 2)

/-- ACK (R229, R239). -/
def State.setAck (s : State) (m pid : Nat) : State := (s.planWords m [(9, pid)]).journal 7

/-- CLEAR (R229). -/
def State.resClear (s : State) : Nat × State :=
  if s.flag F.TRACK_CTRL_PLAN_EN then (9, s)
  else
    (0, ((s.rsvFreeAll s.plan.used).doubtEvent s |>.leadTell s).journal 2)

/-- Run a store command (R229): CMD, INDEX, ARG0, ARG1. -/
def State.resRun (s : State) (cmd index arg prio : Nat) : Nat × State :=
  let c := index % 65536
  let m := index % 256
  let bad := if cmd = 1 ∨ cmd = 3 then s.cellIndexResult index else if cmd = 7 then 0 else s.machIndexResult index
  if bad ≠ 0 then (bad, s)
  else
    match cmd with
    | 1 => s.resReserve c (arg % 256) prio
    | 2 => s.resRelease m arg
    | 3 => s.resQuery (s.cellChain c) arg
    | 4 => s.resQuery (s.machRecords m) arg
    | 5 => s.resReconcile m arg
    | 6 => if s.machValid m then (0, s.setAck m arg) else (6, s)
    | _ => s.resClear

/-- Start the store command written, unless a search keeps it waiting (R229). -/
def State.resStart (s : State) : State :=
  match s.plan.cmd, s.plan.search, s.time.catchFrom with
  | some (cmd, index, arg, prio), none, none =>
    let (r, s1) := { s with plan := { s.plan with cmd := none, waiting := false } }.resRun cmd index arg prio
    { s1 with plan := { s1.plan with result := r } }
  | _, _, _ => s

/-- WRITE_CELL or INVALIDATE_CELL has changed VALID, CAPACITY, TRAVERSE or GUARD of a cell (R223). Of a plan of
another member the store holds the member and the low bits of its id; its other bits are open (log 111). -/
def State.cellChanged (s : State) (before : State) (c : Nat) : State :=
  let words (s : State) : List Nat := (bitsOf (s.cellWord c 0) 7 4 * 2 + s.cellWord c 0 % 2) :: [8, 9, 10, 11].map (s.cellWord c)
  if words s = words before then s
  else
    let live := s.rsvs.filter fun r => r.cell == c &&
      match r.ends with
      | none => true
      | some e => decide (0 < tickDiff e s.planTick)
    let who := (live.map fun r => (r.member, r.machine)).eraseDups
    who.foldl (fun s k =>
      if k.1 = s.member then s.planEvent 5 k.2 0 (s.machWord k.2 8)
      else
        let tag := ((live.find? fun r => (r.member, r.machine) == k).map fun r => r.tag).getD 0
        let (v, s1) := s.fresh 65536
        s1.planEvent 5 k.2 0 (k.1 * 2 ^ 28 + v * 4096 + tag)) s

/-- Views of the planner's pages (R230 to R232). -/
def State.viewPlan (s : State) (key : Nat) : Option Nat :=
  if key = 0x90044 then
    some (bit s.plan.shared.isSome * 8 + bit (s.plan.search.isSome && s.plan.shared.isNone) * 2 + bit s.notActive)
  else if key = 0x90048 then some s.planTick
  else if key = 0x91044 then some s.plan.used.length
  else if key = 0x91048 then some (max (s.reg key).toNat s.plan.used.length)
  else if key = 0x91050 then some s.doubts.length
  else if key = 0x91060 then some ((s.reg key).toNat % 2 ^ 12 + (s.fifo 0x91070).length * 2 ^ 12 + bit (s.flag F.TRACK_RES_CMD_STAT_BUSY) * 2 ^ 31)
  else if key = 0x92064 then some s.plan.queue.length
  else none

end Sys2Proof.Machine
end

