-- ==== Sys2Proof/Machine/CascOps.lean ====
section
/-! DEFINITION. Pairs and cascades (13_pairs_and_cascades.md R382 to R412): roles, evidence, takeover, the standby's side of the
journal, full copies, hand-over, health, base-set sharing and moves. -/

namespace Sys2Proof.Machine

/-! ## Roles (R383, R384, R408) -/

/-- The pair-link port (R391). -/
def State.linkPort (s : State) : Nat := 16 + s.getF F.PAIR_CTRL_LINK_PORT

/-- The other unit's letter. -/
def State.otherLetter (s : State) : Nat := 1 - s.getF F.RADIO_CTRL_UNIT

/-- POPPY_FAULT.HB_LOST (R390). -/
def State.hbLost (s : State) : Bool := bitAt s.poppyFaultWord 1

/-- The PTP roles of the table of R408: SLAVE_EN, PRIMARY, BACKUP_EN, and whether the pair-link port is a master; values that the
table does not give stay. -/
def State.ptpPorts (s : State) : State :=
  let link := s.linkPort
  let up := s.getF F.CASC_UPLINK_PORT
  let master (b : Bool) (s : State) : State := s.setF F.TIME_B_MPORTS_MASTER (setBits (s.getF F.TIME_B_MPORTS_MASTER) link link (bit b))
  let slave (port : Nat) (s : State) : State :=
    ((s.setFlag F.TIME_B_PORT_SLAVE_EN true).setF F.TIME_B_PORT_PRIMARY port).ptpMove port
  match s.isLead, s.notActive with
  | true, false => master true (s.setFlag F.TIME_B_PORT_SLAVE_EN false)
  | true, true => master false (slave link s)
  | false, false => master true ((slave up s).setFlag F.TIME_B_PORT_BACKUP_EN false)
  | false, true => master false (((slave link s).setF F.TIME_B_PORT_BACKUP up).setFlag F.TIME_B_PORT_BACKUP_EN true)

/-- Domain B after a change of its ports (R101, R408): it re-enters ACQUIRE; with SLAVE_EN 0 it stays NONE. FROZEN is left only by
RESUME (R109). -/
def State.domBAgain (s : State) : State :=
  if !s.flag F.TIME_B_PORT_SLAVE_EN then s.domDiscard 2
  else
    match s.time.domB.state with
    | .none | .frozen => s
    | .acquire | .locked | .hold => (s.setDom 2 { s.time.domB with state := .acquire, good := 0 }).reselect

/-- PTP_AUTO at a change of role (R408). -/
def State.ptpAuto (s : State) : State := if s.flag F.CASC_CTRL_PTP_AUTO then s.ptpPorts.domBAgain else s

/-- End the planner's work when the unit stops being active (R403). -/
def State.planStop (s : State) : State :=
  let s1 := s.cancelQueue
  match s1.plan.search with
  | some x => { (s1.dtuUnpause 3 0).planEnd x { outcome := 9 } with plan := { s1.plan with search := none, shared := none } }
  | none => s1

/-- Enter a role: its event, its counts from zero, the PTP roles; ALONE waits for no confirmation (R399). -/
def State.setRole (s : State) (r : Nat) : State :=
  if s.role = r then s
  else
    let was := s.pairActive
    let s1 := ((s.setF F.PAIR_STAT_ROLE r).setF F.PAIR_STAT_NOEVID 0).raise 0x0F0 0
    let s2 := { s1 with pair := { s1.pair with startSf := 0, quietSf := 0, kaNow := true, blockSeen := false, handoff := none,
                                               handSent := false } }
    let s3 := if was && (r == 2 || r == 3) then s2.planStop else s2
    let s4 := if r = 4 then s3 else { s3 with pair := { s3.pair with unconf := [] } }.letGoIf fun _ => true
    s4.ptpAuto

/-! ## The standby's place in the journal (R397, R400) -/

/-- Ask for a full copy and enter SYNC (R383): the position in the journal is dropped. -/
def State.resyncAsk (s : State) : State :=
  let s1 := s.sendMsg 0x14 .partner 0 []
  ({ s1 with pair := { s1.pair with pos := none, beyond := [], jreqAt := none, handTo := none } }.setRole 2).raise 0x0F0 5

/-- Mark DOUBT on the unit's own records (R401 step 2). -/
def State.doubtOwn (s : State) : State :=
  (s.rsvs.filter fun r => r.member == s.member && !r.doubt).foldl (fun s r => s.rsvPut { r with doubt := true }) s

/-- A plan query as a firmware packet (R292, R402). -/
def planQuery (m : Nat) : List Nat := [m * 2 ^ 48 + 8 * 2 ^ 32] ++ pack7 [1, 0, 0, 0, 0, 0, 0, 0]

/-- Query every machine that has DOUBT records, then ask the lead for a snapshot (R401 step 5). -/
def State.askMachines (s : State) : State :=
  let who := (s.doubts.map fun r => r.machine).eraseDups
  (who.foldl (fun s m => s.postPacket (s.getF F.PAIR_QUERY_Q_QUEUE) .pair none (planQuery m)) s).snapAsk

/-- Two active units meet (R388). -/
def State.dualActive (s : State) : State :=
  let s1 := (s.bump F.PAIR_DUAL_COUNT).raise 0x0F0 2
  if s.getF F.RADIO_CTRL_UNIT = 1 then s1.resyncAsk else s1.doubtOwn.journalOpen.askMachines

/-- An active partner is shown (R383). -/
def State.partnerShown (s : State) : State :=
  if s.role = 1 then s.resyncAsk else if s.pairActive then s.dualActive else s

/-- The PRP counter advances by 0x1000 within the unit's range (R404). -/
def State.prpAdvance (s : State) : State :=
  let base := 0x8000 + 0x4000 * s.getF F.RADIO_CTRL_UNIT
  s.setF F.PAIR_PRP_NEXT_SEQ (base + (s.getF F.PAIR_PRP_NEXT_SEQ + 0x1000 - base) % 0x4000)

/-- Promotion (R401). -/
def State.promote (s : State) : State :=
  let partial_ := s.pair.reasm.filter fun r => r.type == 0x11
  let s1 := { s with pair := { s.pair with reasm := s.pair.reasm.filter fun r => r.type != 0x11, beyond := [], handTo := none } }
  let s2 := (s1.bumpBy F.CASC_REASM_FAIL_COUNT partial_.length).bumpBy F.PAIR_DISCARDED_COUNT s.pair.beyond.length
  let s3 := ((s2.doubtOwn.setRole 5).bump F.PAIR_TAKEOVERS_COUNT).raise 0x0F0 1
  s3.prpAdvance.askMachines

/-! ## Superframes (R385 to R387) -/

/-- The end of a superframe for the pair: what it held becomes the last one's, and the counts go on. -/
def State.pairBoundary (s : State) : State :=
  s.atEdge 13 20000000 fun _ s =>
    let p := s.pair
    let standby := s.role == 2 || s.role == 3
    let n := if standby && !p.evidNow then min 255 (s.getF F.PAIR_STAT_NOEVID + 1) else 0
    { s.setF F.PAIR_STAT_NOEVID n with
      pair := { p with startSf := if s.role = 1 then p.startSf + 1 else 0, quietSf := if p.kaNow then 0 else p.quietSf + 1,
                       kaNow := false, evidPrev := p.evidNow, evidNow := !s.hbLost, answered := p.answer, answer := none,
                       askDue := standby && !p.evidNow, blockSeen := p.blockSeen && !p.evidNow, airNow := false } }

/-- Evidence of the partner (R385). -/
def State.evidence (s : State) : State := { s with pair := { s.pair with evidNow := true } }

/-- A beacon of the partner that meets R385 item 3: `active` is its ACTIVE bit. -/
def State.partnerBeacon (s : State) (active : Bool) : State :=
  if s.role = 0 || !active then s
  else { s with pair := { s.pair with evidNow := true, airNow := true } }.partnerShown

/-- PROMOTE_SF superframes without evidence: promotion, subject to mode 2 (R387). -/
def State.promoteDue (s : State) : State :=
  if !(s.role == 2 || s.role == 3) || decide (s.getF F.PAIR_STAT_NOEVID < s.getF F.PAIR_CTRL_PROMOTE_SF) then s
  else if s.getF F.PAIR_CTRL_WITNESS = 2 ∧ s.pair.answered ≠ some false then
    if s.pair.blockSeen then s else { s with pair := { s.pair with blockSeen := true } }.raise 0x0F0 3
  else s.promote

/-! ## Full copies (R400) -/

/-- The objects of a part of the store that hold more than zeros: INDEX of each, from the bytes listed. -/
def State.usedObjects (s : State) (lo hi size : Nat) : List Nat :=
  ((s.mem.bytes.filter fun e => decide (lo ≤ e.1) && decide (e.1 < hi)).map fun e => (e.1 - lo) / size).eraseDups

/-- The bytes of a state or segment slot as its client reads it; none at a translation fault. -/
def State.slotRead (s : State) (client va n : Nat) : Option (List Byte) × State :=
  let (d, s1) := s.clientRead client 0 va n
  (if d.fault.isSome then none else some d.data, s1)

/-- The segment slots of machines with a plan and the state slots of machines with a committed state. -/
def State.slotEntries (s : State) : List (List Byte) × State :=
  let plans := (List.range 256).filter fun m => s.planActive m
  let states := (List.range 256).filter fun m => (s.smach m).epoch.isSome
  let seg (acc : List (List Byte) × State) (m : Nat) : List (List Byte) × State :=
    [0, 1].foldl (fun (acc : List (List Byte) × State) i =>
      match acc.2.slotRead 3 (acc.2.segSlotVa m i) 0x2000 with
      | (some b, t) =>
        let n := 32 + 16 * (wordAt b 12 / 65536)
        (if wordAt b 0 / 65536 = 0xB501 then acc.1 ++ [entryBytes 0x07 (2 * m + i) (b.take n)] else acc.1, t)
      | (none, t) => (acc.1, t)) acc
  let state (acc : List (List Byte) × State) (m : Nat) : List (List Byte) × State :=
    [0, 1].foldl (fun (acc : List (List Byte) × State) i =>
      match acc.2.slotRead 2 (acc.2.slotVa m i) 0x18000 with
      | (some b, t) => (if importValid m b then acc.1 ++ [entryBytes 0x09 (2 * m + i) b] else acc.1, t)
      | (none, t) => (acc.1, t)) acc
  states.foldl state (plans.foldl seg ([], s))

/-- The entries of a full copy in the order of R400. What the clearing of step 1 has left, zeros, is not sent again (log 50). -/
def State.copyEntries (s : State) : List (List Byte) × State :=
  let part (obj lo hi size : Nat) : List (List Byte) :=
    (s.usedObjects lo hi size).map fun i => entryBytes obj i (s.memBytes (lo + size * i) size)
  let one (obj idx : Nat) (b : List Byte) : List (List Byte) := [entryBytes obj idx (s.objBytes ⟨obj, idx, b⟩)]
  let serials := s.pair.serials.filterMap fun e => e.2.map fun r => entryBytes 0x0C e.1 (wordsBytes [r.serial, r.result])
  let (slots, s1) := s.slotEntries
  (one 0x0A 0 [] ++ part 0x01 0x10000000 0x10400000 16 ++ part 0x02 0x10400000 0x10440000 4 ++
    part 0x03 0x10440000 0x10840000 64 ++ part 0x04 0x10840000 0x10844000 64 ++ one 0x0B 0 [] ++ serials ++
    (s.plan.used.flatMap fun i => one 0x05 i []) ++ part 0x06 0x11D00000 0x11D40000 4 ++ slots, s1)

/-- Send the whole store and end the copy (R400). -/
def State.copyStore (s : State) : State :=
  let (l, s1) := s.copyEntries
  ((batches l [] 32).foldl (fun s es => s.journalSend 8 es) s1).journalSend 9 []

/-- A zone LOAD or CLEAR has replaced the store: an active unit follows it with a full copy (R395). -/
def State.copyAfter (s : State) : State :=
  if s.pairActive then { s with pair := { s.pair with touched := [] } }.copyStore else s

/-- Run a LOAD, or go on with one (R186, R395). -/
def State.zoneLoadGo (s : State) : State :=
  let s1 := s.zoneLoadRun
  if s1.zone.loading || s1.zone.result == 5 then s1 else s1.copyAfter

/-! ## Applying transactions (R397, R398, R400, R403) -/

/-- The entries of a transaction's body. -/
def parseEntries : Nat → List Byte → List JEntry
  | 0, _ => []
  | n + 1, b =>
    let k := wordAt b 4 % 2 ^ 24
    ⟨wordAt b 0 / 2 ^ 24, wordAt b 0 % 2 ^ 24, (b.drop 8).take k⟩ :: parseEntries n (b.drop (8 + (k + 3) / 4 * 4))

/-- Clear the standby's tables (R400 step 1). -/
def State.copyBegin (s : State) : State :=
  let s1 := s.zoneEmpty.zoneForget
  let s2 := ((s1.tableClear 0x10440000 0x400000).tableClear 0x10840000 0x4000).tableClear 0x10900000 0x1440000
  { s2.setFlag F.ZONE_CTRL_LOOKUP_EN false with plan := { s2.plan with used := [], stamped := [], plans := [] } }

/-- The slot of a machine that LOAD's rule chooses (R131): its index and bytes. -/
def State.topSlot (s : State) (m : Nat) : Option (Nat × List Byte) × State :=
  match s.slotRead 2 (s.slotVa m 0) 0x18000 with
  | (some a, s1) =>
    match s1.slotRead 2 (s1.slotVa m 1) 0x18000 with
    | (some b, s2) => (chooseSlot a b, s2)
    | (none, s2) => (none, s2)
  | (none, s1) => (none, s1)

/-- The committed slot of a machine: its index and bytes; none where the committed state has been discarded (R122). -/
def State.committedSlot (s : State) (m : Nat) : Option (Nat × List Byte) × State :=
  let (slot, s1) := s.topSlot m
  (if (s1.smach m).discard then none else slot, s1)

/-- A state digest (R398): a committed slot that differs is asked for. -/
def State.applyDigest (s : State) (m : Nat) (b : List Byte) : State :=
  let (slot, s1) := s.committedSlot m
  let same := match slot with
    | some (_, c) => wordAt c 4 == wordAt b 0 && wordAt c 0x1C == wordAt b 8
    | none => false
  if same then s1 else s1.sendMsg 0x15 .partner 0 (bytesLE m 4)

/-- A state slot (R398): written and committed; a slot that would prevail over it is dropped (log 51). -/
def State.applySlot (s : State) (m i : Nat) (b : List Byte) : State :=
  match s.slotRead 2 (s.slotVa m (1 - i)) 0x18000 with
  | (some o, s1) =>
    match s1.clientWrite 2 0 (s1.slotVa m i) b with
    | (none, s2) =>
      let wins := slotValid o && decide (wordAt b 4 ≤ wordAt o 4)
      let s3 := if wins then (s2.clientWrite 2 0 (s2.slotVa m (1 - i)) [0, 0, 0, 0]).2 else s2
      let f := parseSlot s3.fullEpoch b
      (s3.setSmach m { s3.smach m with epoch := some f.epoch, discard := false }).setF (F.SOLV_MCFG_BASE_MEMBER m) f.member
    | (some _, s2) => s2
  | (none, s1) => s1

/-- Apply one object (R396). -/
def State.applyObj (s : State) (e : JEntry) : State :=
  match e.obj with
  | 0x01 =>
    let v := wordAt e.bytes 12 / 65536
    let s1 := s.tableWrite (0x10000000 + 16 * e.idx) e.bytes
    if 0 < toSigned 16 ((v + 65536 - s1.zone.writes) % 65536) then { s1 with zone := { s1.zone with writes := v } } else s1
  | 0x02 => s.tableWrite (0x10400000 + 4 * e.idx) e.bytes
  | 0x03 => s.tableWrite (0x10440000 + 64 * e.idx) e.bytes
  | 0x04 => s.tableWrite (0x10840000 + 64 * e.idx) e.bytes
  | 0x05 =>
    let s1 := (s.tableWrite (rsvAddr e.idx) (e.bytes.take 16)).tableWrite (linkAddr e.idx) (e.bytes.drop 16)
    let used := s1.plan.used.filter (· != e.idx)
    { s1 with plan := { s1.plan with used := if bitAt (wordAt e.bytes 16) 31 then insertIndex e.idx used else used } }
  | 0x06 => s.tableWrite (headAddr e.idx) e.bytes
  | 0x07 =>
    let va := s.segSlotVa (e.idx / 2) (e.idx % 2)
    ((s.clientWrite 3 0 (va + 32) (e.bytes.drop 32)).2.clientWrite 3 0 va (e.bytes.take 32)).2
  | 0x08 => s.applyDigest e.idx e.bytes
  | 0x09 => s.applySlot (e.idx / 2) (e.idx % 2) e.bytes
  | 0x0A =>
    let s1 := ((siteKeys.zip (bytesWords e.bytes)).foldl (fun s k => s.setReg k.1 (BitVec.ofNat 32 k.2)) s)
    { s1.setFlag F.ZONE_CTRL_LOOKUP_EN false with pair := { s1.pair with lookupEn := s1.flag F.ZONE_CTRL_LOOKUP_EN } }
  | 0x0B =>
    ((s.setF F.TRACK_PLAN_COMMIT_SEQ_SEQ (wordAt e.bytes 0)).setF F.TRACK_PLAN_SHR_SERIAL_SERIAL (wordAt e.bytes 4)).setF
      F.CASC_UPD_SEQ_SEQ (wordAt e.bytes 8)
  | 0x0C =>
    let r : SerialRec := ⟨wordAt e.bytes 0, wordAt e.bytes 4, 0xFF, 0⟩
    { s with pair := { s.pair with serials := Assoc.put (fun _ => none) s.pair.serials e.idx (some r) } }
  | _ => s

/-- What a whole transaction changes besides its objects: the slots in use, and the plans that the tracker would follow. -/
def State.applyAfter (s : State) (l : List JEntry) : State :=
  let s1 := if l.any fun e => e.obj == 0x01 then s.setF F.ZONE_STAT_USED s.usedSlots.length else s
  (l.filter fun e => e.obj == 0x07).foldl (fun s e =>
    let m := e.idx / 2
    let b := e.bytes
    if wordAt b 4 = s.machWord m 8 then
      let t := s.trackMake m (wordAt b 8) (wordAt b 12 % 65536) ((chunks 16 (wordAt b 12 / 65536) (b.drop 32)).map fun r => segmentOf (bytesWords r))
      if t.planActive m && t.machWord m 9 != t.machWord m 8 then t.segOffer m (t.machWord m 8) (wordAt b 8) (wordAt b 12 / 65536) else t
    else s) s1

/-- LOOKUP_EN returns once the copy has passed the zone slots and filter words (R401 step 3). -/
def State.lookupBack (s : State) : State :=
  if s.pair.lookupEn then { s.setFlag F.ZONE_CTRL_LOOKUP_EN true with pair := { s.pair with lookupEn := false } } else s

/-- HANDOFF has been applied up to its JSEQ (R403): the unit is ACTIVE. -/
def State.handNow (s : State) : State :=
  if s.pair.handTo.isSome && s.pair.handTo == s.pair.pos then
    let j := s.pair.pos.getD 0
    ({ s with pair := { s.pair with handTo := none } }.setRole 4).sendMsg 0x17 .partner 0 (bytesLE j 4)
  else s

/-- The source and the entries of a transaction. -/
def txSource (t : List Byte) : Nat := bitsOf (wordAt t 0) 11 8
def txEntries (t : List Byte) : List JEntry := parseEntries (wordAt t 0 % 256) (t.drop 32)

/-- The first transaction of a copy: SOURCE 8 that begins with the site registers (R400). -/
def txCopyStart (t : List Byte) : Bool := txSource t == 8 && (txEntries t).head?.map (fun e => e.obj) == some 0x0A

/-- Apply a transaction and confirm it (R397, R400). -/
def State.applyTx (s : State) (t : List Byte) : State :=
  let seq := wordAt t 4
  let l := txEntries t
  let s1 := if txCopyStart t then s.copyBegin else s
  let s2 : State := ((l.foldl (fun s e => s.applyObj e) s1).doubtEvent s).applyAfter l
  let passed := txSource t == 9 || (txSource t == 8 && l.any fun e => decide (3 ≤ e.obj ∧ e.obj ≤ 9))
  let s3 : State := if passed then s2.lookupBack else s2
  let s4 : State := ({ s3 with pair := { s3.pair with pos := some seq } }.setF F.PAIR_JSEQ_JSEQ seq).sendMsg 0x12 .partner 0 (bytesLE seq 4)
  let s5 : State := if txSource t = 9 ∧ s4.role = 2 then (s4.setRole 3).raise 0x0F0 6 else s4
  s5.handNow

/-- Apply held transactions while they follow on. -/
def State.applyBeyond (s : State) : Nat → State
  | 0 => s
  | n + 1 =>
    match s.pair.pos.bind fun p => s.pair.beyond.find? fun b => b.1 == (p + 1) % 2 ^ 32 with
    | some b => ({ s with pair := { s.pair with beyond := s.pair.beyond.filter fun x => x.1 != b.1 } }.applyTx b.2).applyBeyond n
    | none => s

/-- JREQ for the first missing transaction, at most once per ms. Where an earlier one for it has not helped, whether the standby
takes the gap as one that JBUF cannot fill is open: the spec gives no message that says so (log 52). -/
def State.jreq (s : State) : State :=
  match s.pair.pos with
  | none => s
  | some p =>
    let want := (p + 1) % 2 ^ 32
    let ask (s : State) : State :=
      { s with pair := { s.pair with jreqAt := some (s.now, want) } }.sendMsg 0x13 .partner 0 (bytesLE want 4)
    match s.pair.jreqAt with
    | none => ask s
    | some (at_, q) =>
      if s.now < at_ + 1000000 then s
      else if q ≠ want then ask s
      else
        let (v, s1) := s.fresh 2
        if v = 0 then ask s1 else s1.resyncAsk

/-- A transaction as it arrives (R397). -/
def State.journalRx (s : State) (t : List Byte) : State :=
  let drop (s : State) : State := s.bump F.PAIR_DISCARDED_COUNT
  let sized := decide (32 ≤ t.length) && wordAt t 8 == t.length
  let good := sized && crc32 (t.take 28 ++ [0, 0, 0, 0] ++ t.drop 32) == wordAt t 28
  let seq := wordAt t 4
  if !good then (drop s).jreq
  else if wordAt t 0 / 65536 ≠ 0xD101 ∨ bitsOf (wordAt t 0) 15 12 ≠ s.member then drop s
  else
    match s.pair.pos with
    | none => if txCopyStart t then s.applyTx t else drop s
    | some p =>
      if seq = (p + 1) % 2 ^ 32 then (s.applyTx t).applyBeyond s.pair.beyond.length
      else if tickDiff seq p ≤ 0 then drop s
      else if s.pair.beyond.any fun b => b.1 == seq then s.jreq
      else if 64 ≤ s.pair.beyond.length then (drop s).jreq
      else { s with pair := { s.pair with beyond := (seq, t) :: s.pair.beyond } }.jreq

/-! ## Confirmation and hand-over (R399, R403) -/

/-- HANDOFF goes out when every transaction has been confirmed and no search is in hand. -/
def State.handTry (s : State) : State :=
  if s.pair.handoff.isSome && !s.pair.handSent && s.pair.unconf.isEmpty && s.plan.search.isNone then
    { s with pair := { s.pair with handSent := true } }.sendMsg 0x16 .partner 0 (bytesLE (s.getF F.PAIR_JSEQ_JSEQ) 4)
  else s

/-- Transactions that pass `p` are confirmed: what waited for them goes. -/
def State.confirm (s : State) (p : Nat → Bool) : State :=
  (({ s with pair := { s.pair with unconf := s.pair.unconf.filter fun u => !p u.1 } }.letGoIf p).handTry)

/-- A JREQ (R397): the transaction is sent again from JBUF if it holds it. -/
def State.resend (s : State) (seq : Nat) : State :=
  match s.pair.ring.find? fun e => e.1 == seq with
  | none => s
  | some (_, off, n) =>
    let (d, s1) := s.clientRead 0x0A 0 (s.getF F.PAIR_JBUF_BASE_ADDR * 0x100000 + off) n
    if d.fault.isSome then s1 else (s1.bump F.PAIR_RESENDS_COUNT).sendMsg 0x11 .partner 0 d.data

/-! ## Keepalives (R407) -/

/-- The newest keepalive heard from a unit (member × 2 + unit) is not older than three periods. -/
def State.heardRecently (s : State) (k : Nat) : Bool :=
  match Assoc.get (fun _ => none) s.pair.heard k with
  | some t => decide (s.now ≤ t + 3000000 * s.getF F.CASC_KEEPALIVE_MS)
  | none => false

/-- REACHABLE and LEAD_OK for a member, from what has been heard (R407); a lead that returns is asked for a snapshot (R410). -/
def State.reachEval (s : State) (m : Nat) : State :=
  let now := s.heardRecently (2 * m) || s.heardRecently (2 * m + 1)
  let old := s.getF F.CASC_STAT_REACHABLE
  if bitAt old m = now then s
  else
    let s1 := (s.setF F.CASC_STAT_REACHABLE (setBits old m m (bit now))).raise 0x0F1 1
    if m = s.getF F.CASC_CTRL_LEAD then
      let s2 := (s1.setFlag F.CASC_STAT_LEAD_OK now).raise 0x0F1 0
      if now then s2.snapAsk else s2
    else s1

/-- A keepalive's body (R393). -/
def State.keepaliveBody (s : State) (prp : Nat) : List Byte :=
  wordsBytes [s.role, if s.isLead then s.getF F.CASC_UPD_SEQ_SEQ else 0, s.getF F.PAIR_JSEQ_JSEQ, prp]

/-- A periodic message is due: `last` is the output time at which it was last sent. -/
def State.sendDue (s : State) (last : Option Nat) (period : Nat) : Bool :=
  match last with
  | some t => decide (t + period ≤ s.taiNs)
  | none => true

/-! ## Health (R405) -/

/-- The HEALTH record. -/
def State.healthRecord (s : State) : List Byte :=
  let tiles (p : Nat → Bool) : Nat := (List.range 16).foldl (fun a n => a + bit (p n) * 2 ^ n) 0
  let w : List Nat :=
    [0xD5010000 + s.member * 0x1000 + s.unitLetter * 0x800 + s.role * 0x100,
     tiles (fun n => s.flag (F.PG_STAT_FAULT (0x061 + n))) * 65536 + tiles (fun n => bitAt (s.reg (0x61058 + 0x1000 * n)).toNat 29),
     s.getF F.RADIO_STAT_LINK_UP * 65536 + s.pair.sectRx % 256 * 256 + s.antOkMask,
     s.getF F.SHADOW_STAT_PASSES % 65536 * 65536 + min 65535 (s.zone.mismatches - s.pair.mismatch0), s.getF F.PAIR_JSEQ_JSEQ,
     (if s.pairActive then s.pair.unconf.length else s.pair.beyond.length) % 65536 * 65536 + s.poppyStat % 256 * 256 + s.quality,
     s.pair.reportSeq % 2 ^ 32]
  wordsBytes (w ++ [crc32 (wordsBytes w)])

/-- Start the known-answer test on a tile that has a free context (R166). -/
def State.tileTestStart (s : State) (n : Nat) : Option State :=
  (s.freeCtx n).map fun k =>
    let st := if (s.running n).isSome then CtxState.ready else CtxState.running
    ((s.setCtx n k { noCtx with st := st, test := true }).unwipe (0x061 + n)).setReg (0x61058 + 0x1000 * n) 0x80000000

/-! ## Base-set sharing (R161, R164) -/

/-- Send a valid base set: to the members of SOLV_SHARE_MASK, and from the active unit of a pair to the other over the pair
link. -/
def State.shareSend (s : State) (b : BaseSet) : State :=
  let r := s.shareRecord b
  let mask := if s.flag F.SOLV_CTRL_SHARE_EN then s.getF F.SOLV_SHARE_MASK_MEMBERS else 0
  let s1 := ((List.range 16).filter fun m => bitAt mask m && m != s.member).foldl (fun s m => s.sendMsg 0x02 (.member m) 0 r) s
  if s.pairActive then s1.sendMsg 0x02 .partner 0 r else s1

/-! ## Moves (R412) -/

/-- A move has ended. -/
def State.moveDone (s : State) (result : Nat) : State :=
  { ((s.setFlag F.CASC_MOVE_STAT_BUSY false).setF F.CASC_MOVE_STAT_RESULT result).raise 0x0F1 4 with pair := { s.pair with move := none } }

/-- The VALID machine record with an identity. -/
def State.machineOf (s : State) (lo hi : Nat) : Option Nat :=
  (List.range 256).find? fun m => s.machValid m && s.machWord m 1 == lo && s.machWord m 2 % 65536 == hi

/-- A slot with another MACHINE, and its CRC. -/
def remachine (b : List Byte) (m : Nat) : List Byte := reseq (b.take 1 ++ [BitVec.ofNat 8 m] ++ b.drop 2) (wordAt b 4)

/-- Import a slot sent by another member (R163, R412): RESULT. The slot's MACHINE becomes the local index (log 53). -/
def State.moveImport (s : State) (m : Nat) (b : List Byte) : Nat × State :=
  let (top, s1) := s.topSlot m
  let (dest, bytes, result) := s1.importSlot m top (if slotValid b then remachine b m else b)
  match s1.slotWrite 2 0 (s1.slotVa m dest) bytes (result == 0) with
  | (some _, s2) => (3, s2)
  | (none, s2) =>
    if result ≠ 0 then (3, s2) else (0, ((s2.imported m bytes).jnoteObj 0x09 (2 * m + dest) bytes).journal 6)

/-! ## Views (R415, R416) -/

/-- Views of the pair and cascade pages. -/
def State.viewPair (s : State) (key : Nat) : Option Nat :=
  let p := s.pair
  if key = 0xF0044 then
    let link := match p.linkAt with
      | some t => decide (s.now ≤ t + 3000000)
      | none => false
    some (s.getF F.PAIR_STAT_NOEVID * 0x1000000 + s.role * 0x100 + s.getF F.PAIR_STAT_WITNESS_ALIVE * 16 + bit p.airNow * 8 +
      bit (s.role != 0 && !s.hbLost) * 4 + bit link * 2 + s.unitLetter)
  else if key = 0xF0050 then some ((if s.pairActive then p.unconf.length else p.beyond.length) % 65536)
  else if key = 0xF1048 then some ((s.reg key).toNat / 2 * 2 + bit s.isLead)
  else none

end Sys2Proof.Machine
end

