-- ==== Sys2Proof/Machine/DmaOps.lean ====
section
/-! DEFINITION. The DMA channels (15_memory_and_dma.md R466 to R471): their states, what a fault, the end of a descriptor, START,
STOP, RESUME and ABORT do. The mover's bursts stand in Dma.lean. -/

namespace Sys2Proof.Machine

def State.dmaCh (s : State) (c : Nat) : DmaChannel := Assoc.get (fun _ => {}) s.mem.dma c

def State.setDmaCh (s : State) (c : Nat) (v : DmaChannel) : State :=
  { s with mem := { s.mem with dma := Assoc.put (fun _ => {}) s.mem.dma c v } }

/-- Event `e` of channel `c` (R474): 0 DONE_EVT, 1 paused, 2 error, 3 idle. -/
def State.dmaEvent (s : State) (c e : Nat) : State := s.raise (0x010 + c / 2) (4 * (c % 2) + e)

def DmaState.code : DmaState → Nat
  | .idle => 0
  | .running => 1
  | .stopped => 2
  | .paused => 3
  | .error => 4

/-- Fields of the descriptor in progress (R468). -/
def DmaChannel.w (c : DmaChannel) (i : Nat) : Nat := (c.words.getD i 0).toNat
def DmaChannel.op (c : DmaChannel) : Nat := bitsOf (c.w 0) 30 28
def DmaChannel.len (c : DmaChannel) : Nat := c.w 1
def DmaChannel.src (c : DmaChannel) : Nat := c.w 2 + 2 ^ 32 * c.w 3
def DmaChannel.dst (c : DmaChannel) : Nat := c.w 4 + 2 ^ 32 * c.w 5
def DmaChannel.next (c : DmaChannel) : Nat := (c.w 6 + 2 ^ 32 * c.w 7) / 32 * 32

/-- A translation fault pauses a channel (R463, R466). -/
def State.dmaFault (s : State) (c cause : Nat) : State :=
  ((s.setDmaCh c { s.dmaCh c with state := .paused, cause := cause }).dtuPause 0 c).dmaEvent c 1

/-- The word of NOTIFY (R470). -/
def State.dmaNotify (s : State) (c status : Nat) : State :=
  let x := s.dmaCh c
  if bitAt (x.w 0) 26 && s.flag (F.DMA_CTRL_NOTIFY_EN (c / 2) (c % 2)) then
    s.post (s.getF (F.DMA_CTRL_NOTIFY_QUEUE (c / 2) (c % 2))) (.dma c) (c * 2 ^ 52 + status * 2 ^ 48 + x.desc % 2 ^ 48)
      (some ⟨F.DMA_NOTIFY_LOST_COUNT (c / 2) (c % 2), none, none⟩)
  else s

/-- A channel's write at a physical address of memory (R450): where writes are refused, nothing is written. -/
def State.dmaPut (s : State) (a : Nat) (bytes : List Byte) : State :=
  match s.region a with
  | .fleet | .aster | .retainedDevice => s.storeRefused .dma a
  | _ => s.physWrite a bytes

/-- A channel's write of a word at `va`, inside one page: the cause of a fault, or none. -/
def State.dmaWord (s : State) (c va w : Nat) : Option Nat × State :=
  match s.clientAddr 0 c va true with
  | (.inl k, s1) => (some k, s1)
  | (.inr pa, s1) => (none, s1.dmaPut pa (bytesLE w 4))

/-- Write word 0 back with OWN cleared and STATUS set (R468), and post the notice; a descriptor not read yet has none. -/
def State.dmaWriteback (s : State) (c status : Nat) : Option Nat × State :=
  let x := s.dmaCh c
  if x.words.isEmpty then (none, s)
  else
    match s.dmaWord c x.desc (setBits (setBits (x.w 0) 31 31 0) 23 20 status) with
    | (some cause, s1) => (some cause, s1)
    | (none, s1) => (none, s1.dmaNotify c status)

/-- A channel goes idle (event 3), or to the error state (event 2). -/
def State.dmaIdle (s : State) (c : Nat) : State :=
  ((s.setDmaCh c { s.dmaCh c with state := .idle, words := [], stopKept := false, status := 0 }).dtuUnpause 0 c).dmaEvent c 3

def State.dmaError (s : State) (c : Nat) : State :=
  (s.setDmaCh c { s.dmaCh c with state := .error, words := [], status := 0 }).dmaEvent c 2

/-- A descriptor ends with an error STATUS (R468), which waits while the channel is paused at its writeback. -/
def State.dmaFail (s : State) (c status : Nat) : State :=
  match (s.setDmaCh c { s.dmaCh c with status := status }).dmaWriteback c status with
  | (some cause, s1) => s1.dmaFault c cause
  | (none, s1) => s1.dmaError c

/-- A descriptor is done (R457, R468): writeback, COMPLETED, DONE_EVT, then the next one or idle. -/
def State.dmaDone (s : State) (c : Nat) : State :=
  let x := s.dmaCh c
  match s.dmaWriteback c 0 with
  | (some cause, s1) => s1.dmaFault c cause
  | (none, s1) =>
    let s2 := s1.bump (F.DMA_COMPLETED_COUNT (c / 2) (c % 2))
    let s3 := if bitAt (x.w 0) 27 then s2.dmaEvent c 0 else s2
    if bitAt (x.w 0) 25 then s3.setDmaCh c { s3.dmaCh c with desc := x.next, words := [], done := 0, crc := 0xFFFFFFFF }
    else s3.dmaIdle c

/-- ABORT (R463, R471): STATUS 4, or 1 of a paused channel; the channel is idle. -/
def State.dmaAbort (s : State) (c : Nat) : State :=
  let status := if (s.dmaCh c).state == .paused then 1 else 4
  ((s.dmaWriteback c status).2).dmaIdle c

/-- The access that a paused channel waits for is translated again (R462, R471): of its descriptor, of the bytes
at DONE, or of what follows the last byte. -/
def State.dmaRetry (s : State) (c : Nat) : Option Nat × State :=
  let x := s.dmaCh c
  let tr (va : Nat) (write : Bool) (s : State) : Option Nat × State :=
    match s.clientAddr 0 c va write with
    | (.inl k, s1) => (some k, s1)
    | (.inr _, s1) => (none, s1)
  if x.words.isEmpty then tr x.desc false s
  else if x.status = 0 ∧ x.done < x.len then
    match (if x.op = 1 then (none, s) else tr (x.src + x.done) false s) with
    | (some k, s1) => (some k, s1)
    | (none, s1) => if x.op = 2 then (none, s1) else tr (x.dst + x.done) true s1
  else
    match (if x.status = 0 ∧ x.op = 2 then tr x.dst true s else (none, s)) with
    | (some k, s1) => (some k, s1)
    | (none, s1) => tr x.desc true s1

/-- RESUME of a STOPPED or PAUSED channel (R466, R471): a kept STOP leaves it STOPPED without moving data. -/
def State.dmaResume (s : State) (c : Nat) : State :=
  let x := s.dmaCh c
  if x.state == .paused then
    match s.dmaRetry c with
    | (some k, s1) => s1.dmaFault c k
    | (none, s1) =>
      (s1.setDmaCh c { x with state := if x.stopKept then .stopped else .running, cause := 0, stopKept := false }).dtuUnpause 0 c
  else s.setDmaCh c { x with state := .running }

end Sys2Proof.Machine
end

