-- ==== Sys2Proof/Machine/PwrOps.lean ====
section
/-! DEFINITION. Wake sources (17_clocks_and_power.md R503) and fast clock domains in Bud (R494 to R496). -/

namespace Sys2Proof.Machine

/-- A wake source is registered (R503), while it is enabled: its bit of SOURCES is set; in Snowdrop and in the entry to it VALID and
FIRST are recorded, and the wake follows; elsewhere only event 3 tells of it. -/
def State.wakeSource (s : State) (k : Nat) : State :=
  if !bitAt (s.getF F.PWR_WAKE_EN_EN) k then s
  else
    let s1 := s.setF F.PWR_WAKE_STAT_SOURCES (s.getF F.PWR_WAKE_STAT_SOURCES ||| 2 ^ k)
    let first (s : State) : State := (s.setFlag F.PWR_WAKE_STAT_VALID true).setF F.PWR_WAKE_STAT_FIRST k
    match s1.pwr.state with
    | .snowdrop | .entering =>
      if s1.pwr.wakeAt.isNone then { first s1 with pwr := { s1.pwr with wakeAt := some s1.now } }
      else if s1.pwr.wakeAt = some s1.now ∧ k < s1.getF F.PWR_WAKE_STAT_FIRST then first s1 else s1
    | .waking | .bloom | .bud => s1.raise 0x002 3

/-! ## Domains that stop in Bud -/

/-- A request of the cores (true) or the tiles (false) now: a stopped domain starts and is counted; the hold counts from here. -/
def State.clockRequest (s : State) (cores : Bool) : State :=
  let p := s.pwr
  if p.state != .bud then s
  else if cores then
    let s1 := { s with pwr := { p with coreOn := true, coreHold := s.now + 1000 * s.getF F.CLK_HOLD_CORE_US } }
    if p.coreOn then s1 else s1.bump F.CLK_STARTS_COUNT
  else
    let s1 := { s with pwr := { p with tileOn := true, tileHold := s.now + 1000 * s.getF F.CLK_HOLD_TILE_US } }
    if p.tileOn then s1 else s1.bump F.CLK_STARTS_COUNT

/-- The cores' domain is requested by the machine itself: by software, or by a switch that is pending (R337, R494). -/
def State.coresWanted (s : State) : Bool :=
  (List.range 5).any (fun i => s.flag (F.PG_CTRL_CLK_REQ (0x020 + i))) || s.sched.cores.any fun e => e.2.next.isSome

/-- The tiles' domain is requested: by software, a queued frame, a context that is not free, or a test (R494). -/
def State.tilesWanted (s : State) : Bool :=
  (List.range 17).any (fun i => s.flag (F.PG_CTRL_CLK_REQ (0x060 + i))) || !s.solv.queue.isEmpty ||
    s.solv.ctxs.any fun e => e.2.st != .free

/-- In Bud, standing requests keep their domains running. -/
def State.clockEval (s : State) : State :=
  let s1 := if s.coresWanted then s.clockRequest true else s
  if s1.tilesWanted then s1.clockRequest false else s1

/-- A domain's hold has run out with no request left: it stops (R496). -/
def State.clockStop (s : State) (cores : Bool) : State :=
  let p := s.pwr
  if p.state != .bud then s
  else if cores then
    if s.coresWanted || decide (s.now < p.coreHold) then s else { s with pwr := { p with coreOn := false } }
  else if s.tilesWanted || decide (s.now < p.tileHold) then s else { s with pwr := { p with tileOn := false } }

end Sys2Proof.Machine
end

