-- ==== Sys2Proof/Machine/RadioProg.lean ====
section
/-! DEFINITION. Slot programs of the radio's sectors (09_malvo_radio.md R267, R271 to R273). -/

namespace Sys2Proof.Machine

/-- A program word in its place of the cycle: its index, the word with its MACHINE field stepped by the REPEAT in progress, the cycle
slot at which it starts, the slots it covers (0 for END and REPEAT). -/
structure ProgEntry where
  idx   : Nat
  word  : Nat
  start : Nat
  count : Nat
  deriving DecidableEq, Repr

def progOp (w : Nat) : Nat := bitsOf w 31 28
def progCount (w : Nat) : Nat := bitsOf w 27 24

/-- A TX or RX word with its MACHINE field stepped (R271). -/
def stepMachine (w add : Nat) : Nat :=
  if progOp w = 3 ∨ progOp w = 4 then setBits w 7 0 ((bitsOf w 7 0 + add) % 256) else w

/-- The words of a cycle of `len` slots in the order in which they run, from word `pc` at slot `cur`; `rep` counts the repetition in
progress and `step` is its MSTEP. A reserved word ends the run as END does; the last word is cut at the end of the cycle. -/
def progRun (ws : Nat → Nat) (len : Nat) : Nat → Nat → Nat → Nat → Nat → List ProgEntry
  | 0, _, _, _, _ => []
  | fuel + 1, pc, rep, step, cur =>
    let w := ws pc
    if len ≤ cur ∨ 256 ≤ pc then []
    else if progOp w = 0 ∨ 10 ≤ progOp w then [⟨pc, w, cur, 0⟩]
    else if progOp w = 9 then
      if rep < bitsOf w 15 8 ∧ bitsOf w 7 0 ≤ pc then
        ⟨pc, w, cur, 0⟩ :: progRun ws len fuel (pc - bitsOf w 7 0) (rep + 1) (bitsOf w 23 16) cur
      else ⟨pc, w, cur, 0⟩ :: progRun ws len fuel (pc + 1) 0 0 cur
    else
      ⟨pc, stepMachine w (step * rep), cur, min (progCount w) (len - cur)⟩ :: progRun ws len fuel (pc + 1) rep step (cur + progCount w)

/-- Enough for 800 slots, the REPEAT words between them and END. -/
def progFuel : Nat := 2100

/-- A fixed slot (R267). -/
def fixedSlot (pair : Bool) (c : Nat) : Bool := [0, 20, 40, 60].elem (c % 80) || (pair && c % 80 == 1)

/-- The word is defined, with its reserved bits 0 (R271, R272). -/
def progDefined (primrose : Bool) (w : Nat) : Bool :=
  let n := progCount w
  let a := bitsOf w 23 0
  match progOp w with
  | 0 => n == 0 && a == 0
  | 1 => n == 1 && decide (a < 2)
  | 2 => n == 1 && a == 0
  | 3 =>
    let content := bitsOf w 22 20
    decide (1 ≤ n) && bitsOf w 19 18 == 0 && bitsOf w 15 8 == 0 &&
      (if bitAt w 23 then content == 3 || content == 4 || (content == 5 && primrose) else decide (content < 4))
  | 4 => decide (1 ≤ n) && decide (a < 256)
  | 5 => decide (1 ≤ n) && (a == 0 || a == 0x100)
  | 6 => decide (2 ≤ n) && a == 0
  | 7 => decide (1 ≤ n) && a == 0
  | 8 => decide (1 ≤ n) && a == 0
  | 9 => n == 0 && bitsOf w 15 8 != 0 && bitsOf w 7 0 != 0
  | _ => false

/-- The range of the REPEAT at word `pc` lies in the bank and holds no REPEAT and no END (R273). -/
def repeatOk (ws : Nat → Nat) (pc : Nat) : Bool :=
  let back := bitsOf (ws pc) 7 0
  decide (back ≤ pc) && (List.range back).all fun i => progOp (ws (pc - 1 - i)) != 9 && progOp (ws (pc - 1 - i)) != 0

/-- The slots from `cur` agree with the fixed slots of R267 (R273). -/
def coverOk (pair : Bool) (w cur : Nat) : Bool :=
  match progOp w with
  | 1 => if bitAt w 0 then pair && cur % 80 == 1 else cur % 80 == 0
  | 2 => [20, 40, 60].elem (cur % 80)
  | _ => (List.range (progCount w)).all fun i => !fixedSlot pair (cur + i)

/-- Take from the front TX blocks that total `n` slots (R276). -/
def takeTwin : Nat → List Nat → Option (List Nat)
  | 0, l => some l
  | _ + 1, [] => none
  | n + 1, b :: t => if n + 1 < b then none else takeTwin (n + 1 - b) t

/-- The check of a bank over 800 slots (R273); `blocks` are the TX blocks that no TWIN has taken. -/
def progCheck (ws : Nat → Nat) (pair primrose : Bool) : Nat → Nat → Nat → Nat → List Nat → Bool
  | 0, _, _, _, _ => false
  | fuel + 1, pc, rep, cur, blocks =>
    let w := ws pc
    if 256 ≤ pc ∨ 800 < cur ∨ !progDefined primrose w then false
    else if progOp w = 0 then true
    else if progOp w = 9 then
      repeatOk ws pc &&
        (if rep < bitsOf w 15 8 then progCheck ws pair primrose fuel (pc - bitsOf w 7 0) (rep + 1) cur blocks
         else progCheck ws pair primrose fuel (pc + 1) 0 cur blocks)
    else if !coverOk pair w cur then false
    else if progOp w = 7 then
      match takeTwin (progCount w) blocks with
      | some b => progCheck ws pair primrose fuel (pc + 1) rep (cur + progCount w) b
      | none => false
    else
      progCheck ws pair primrose fuel (pc + 1) rep (cur + progCount w) (if progOp w = 3 then blocks ++ [progCount w] else blocks)

/-- A bank that passes (R273). -/
def progOk (ws : Nat → Nat) (pair primrose : Bool) : Bool := progCheck ws pair primrose progFuel 0 0 0 []

/-! ## Air time (R262, R263, R268) -/

/-- The air time in µs of an MPDU of `len` bytes at `rate` Mb/s. -/
def airUs (wide10 : Bool) (rate len : Nat) : Nat :=
  let bits := rate * (if wide10 then 8 else 4)
  let symbols := (22 + 8 * len + bits - 1) / bits
  if wide10 then 40 + 8 * symbols else 20 + 4 * symbols

/-- The rate of a RATE or DATA_RATE code (R272, R293). -/
def rateOf (code : Nat) : Nat := if code = 1 then 6 else if code = 2 then 12 else 24

end Sys2Proof.Machine
end

