-- ==== Sys2Proof/Machine/RadioState.lean ====
section
/-! DEFINITION. The radio's state: sectors, the slot grid, what it knows of machines (09_malvo_radio.md R265, R266, R284). -/

namespace Sys2Proof.Machine

def State.sect (s : State) (n : Nat) : SectSt := Assoc.get (fun _ => {}) s.radio.sects n

def State.setSect (s : State) (n : Nat) (x : SectSt) : State :=
  { s with radio := { s.radio with sects := Assoc.put (fun _ => {}) s.radio.sects n x } }

/-- The sector of the last frame accepted from a machine (R292 MSTAT). -/
def State.radioSector (s : State) (m : Nat) : Nat := ((Assoc.get (fun _ => none) s.radio.heard m).map (·.1)).getD 0

/-- A machine's record changes: its duplicate window is empty (R284). -/
def State.radioForget (s : State) (m : Nat) : State :=
  { s with radio := { s.radio with wins := Assoc.put (fun _ => []) s.radio.wins m [], prSeq := Assoc.put (fun _ => none) s.radio.prSeq m none } }

/-- The slot of the grid (R266): 250 µs of output time. -/
def State.slotNow (s : State) : Nat := s.taiNs / 250000

/-- Slots of a cycle (R266, R274). -/
def State.cycleSlots (s : State) : Nat := if s.getF F.SOLV_STAT_EPOCH_ACTIVE = 2 then 800 else 400

/-- The time base allows the grid (R265). -/
def State.gridOk (s : State) : Bool := !s.time.state.unfollowed

/-- A sector's two links are in the data phase. -/
def State.linksUp (s : State) (n : Nat) : Bool := s.getF (F.SECT_STAT_JESD_TX n) == 3 && s.getF (F.SECT_STAT_JESD_RX n) == 3

/-- RADIO_STAT.LINK_UP follows the links (R292). -/
def State.linkShow (s : State) : State :=
  s.setF F.RADIO_STAT_LINK_UP ((List.range 8).foldl (fun a n => a + bit (s.linksUp n) * 2 ^ n) 0)

/-- A link leaves the data phase for state `dest`, which is its event (R265); one that is not in the data phase only changes its state. -/
def State.linkDown (s : State) (n : Nat) (rx : Bool) (dest : Nat) : State :=
  let f := if rx then F.SECT_STAT_JESD_RX n else F.SECT_STAT_JESD_TX n
  let s1 := (s.setF f dest).linkShow
  if s.getF f = 3 then s1.raise (0x0B1 + n) 1 else s1

/-- The watch schedule runs (R290). -/
def State.watching (s : State) : Bool := s.pwr.state == .snowdrop && s.flag F.RADIO_WATCH_EN

/-- A sector runs (R265, R290). -/
def State.sectRunning (s : State) (n : Nat) : Bool :=
  s.flag F.RADIO_CTRL_EN && s.flag (F.SECT_CTRL_EN n) && s.linksUp n && s.gridOk &&
    (s.pwr.state != .snowdrop || (s.flag F.RADIO_WATCH_EN && s.getF F.RADIO_WATCH_SECT == n))

/-- A running sector serves the current slot: its links were not down at the slot's edge (R265), and no step jumped over that edge
(R270). -/
def State.sectServes (s : State) (n : Nat) : Bool :=
  s.sectRunning n && (s.sect n).back != some s.slotNow && decide ((s.time.jump.map (·.2)).getD 0 ≤ s.slotNow * 250000)

/-- The word of the active bank, or of the other one (R293). -/
def State.progWord (s : State) (n bank i : Nat) : Nat := (s.reg ((0x0B1 + n) * 0x1000 + 0x800 + 0x400 * bank + 4 * i)).toNat

/-- The check of a bank (R273). -/
def State.bankPasses (s : State) (n bank : Nat) : Bool :=
  progOk (s.progWord n bank) (s.flag F.RADIO_CTRL_PAIR) (s.flag F.RADIO_CTRL_PRIMROSE_EN)

/-- The cycle's program. -/
def State.progEntries (s : State) (n : Nat) : List ProgEntry :=
  progRun (s.progWord n (s.getF (F.SECT_STAT_BANK_ACTIVE n))) s.cycleSlots progFuel 0 0 0 0

/-- The next entry to run, with its number, where it is due in the current slot: it starts there or, for a block in which the sector
only receives (`mid`), a slot of it has come (R270). -/
def State.progDue (s : State) (n : Nat) (mid : ProgEntry → Bool) : Option (Nat × ProgEntry) :=
  let x := s.sect n
  let c := s.slotNow % s.cycleSlots
  let from_ := if x.cycle = some (s.slotNow / s.cycleSlots) then x.next else 0
  let ok (e : Nat × ProgEntry) : Bool := decide (c ≤ e.2.start) || (mid e.2 && decide (c < e.2.start + e.2.count))
  match ((((s.progEntries n).zipIdx.map fun e => (e.2, e.1)).drop from_).find? ok) with
  | some e => if e.2.start ≤ c then some e else none
  | none => none

/-- Blocks from the front that total `c` slots, with the slots at which they are repeated (R276). -/
def twinSlots : Nat → Nat → List TxBlock → List (Nat × TxBlock)
  | _, _, [] => []
  | c, slot, b :: t => if b.slots = 0 ∨ c < b.slots then [] else (slot, b) :: twinSlots (c - b.slots) (slot + b.slots) t

/-- An entry that is passed over keeps the list of blocks in step with the program (R276): a TX block without a frame joins it, and a
TWIN takes its blocks off it. -/
def passOver (l : List TxBlock) (e : ProgEntry) : List TxBlock :=
  if progOp e.word = 3 then l ++ [⟨e.count, none⟩]
  else if progOp e.word = 7 then l.drop (twinSlots e.count 0 l).length
  else l

/-- Go past entry `i`, and past those before it that have not run; a new cycle keeps no blocks of the last. -/
def State.progPast (s : State) (n : Nat) (e : Nat × ProgEntry) : State :=
  let x := s.sect n
  let same := x.cycle = some (s.slotNow / s.cycleSlots)
  let from_ := if same then x.next else 0
  let blocks := (((s.progEntries n).take e.1).drop from_).foldl passOver (if same then x.blocks else [])
  (s.setSect n { x with cycle := some (s.slotNow / s.cycleSlots), next := e.1 + 1, blocks := blocks,
                        twin := if same then x.twin else [] }).setF (F.SECT_STAT_PROG_WORD n) e.2.idx

/-- The entry leaves the fixed slots to their own use (R267): PAIR may have changed since its bank was checked. -/
def State.progFree (s : State) (e : ProgEntry) : Bool :=
  progOp e.word == 1 || progOp e.word == 2 || (List.range e.count).all fun i => !fixedSlot (s.flag F.RADIO_CTRL_PAIR) (e.start + i)

/-- Carry out the entry due in the current slot, when its OP is `op`; in Snowdrop the program is ignored (R290). -/
def State.progAct (s : State) (n op : Nat) (mid : Bool) (k : ProgEntry → State → State) : State :=
  if !s.sectServes n || s.pwr.state == .snowdrop then s
  else
    match s.progDue n fun e => mid && progOp e.word == op with
    | some e =>
      if progOp e.2.word ≠ op then s
      else if s.progFree e.2 then k e.2 (s.progPast n e)
      else
        let s1 := s.progPast n e
        s1.setSect n { s1.sect n with blocks := passOver (s1.sect n).blocks e.2 }
    | none => s

end Sys2Proof.Machine
end

