-- ==== Sys2Proof/Machine/SegOps.lean ====
section
/-! DEFINITION. Delivery of segment tables (08_segments_and_axes.md R237 to R241). -/

namespace Sys2Proof.Machine

def State.segTable (s : State) (m : Nat) : SegTable := Assoc.get (fun _ => {}) s.seg.tables m

def State.setSegTable (s : State) (m : Nat) (t : SegTable) : State :=
  { s with seg := { s.seg with tables := Assoc.put (fun _ => {}) s.seg.tables m t } }

/-- The bits set in a mask of chunks. -/
def chunkCount (v : Nat) : Nat := (List.range 16).foldl (fun a k => a + bit (bitAt v k)) 0

/-- An event of a machine's table (R241): KIND 1 DELIVERED, 2 LATE, 3 GIVEUP. -/
def State.segEvent (s : State) (kind m : Nat) (t : SegTable) : State :=
  let s1 := s.raise 0x0A0 (kind - 1)
  if s1.flag F.SEG_CTRL_EVT_EN then
    s1.post (s1.getF F.SEG_CTRL_EVT_QUEUE) .seg (kind * 2 ^ 52 + m * 2 ^ 40 + chunkCount t.ok * 2 ^ 32 + t.plan)
      (some ⟨F.SEG_EVT_LOST_COUNT, some (0x0A0, 3), none⟩)
  else s1

/-- The lowest undelivered chunk of a machine's table that is not among those of `skip` (R275); none while delivery is paused. -/
def State.segNext (s : State) (m skip : Nat) : Option Nat :=
  let t := s.segTable m
  if s.flag F.SEG_CTRL_EN && t.running && s.seg.paused.isNone then
    (List.range t.chunks).find? fun k => !bitAt t.ok k && !bitAt skip k
  else none

/-- The CRC of a segment slot holds (R213). -/
def segSlotOk (b : List Byte) : Bool :=
  crc32 (b.take 28 ++ [0, 0, 0, 0] ++ (b.drop 32).take (16 * (wordAt b 12 / 65536))) == wordAt b 28

/-- The bytes of chunk `k` as a downlink element (R238); a translation fault pauses all delivery (R463), and a slot whose CRC fails
is not used (R213). -/
def State.segChunk (s : State) (m k : Nat) : Option (List Byte) × State :=
  let t := s.segTable m
  let (d, s1) := s.clientRead 4 0 (s.segSlotVa m (s.planSlot m)) 0x2000
  if d.fault.isSome then
    (none, { s1.dtuPause 4 0 with seg := { s1.seg with paused := some m } })
  else if !segSlotOk d.data then (none, s1)
  else
    let n := min 32 (wordAt d.data 12 / 65536 - 32 * k)
    (some (wordsBytes [t.chunks * 0x1000000 + k * 0x10000 + 0x1C8, 0] ++ d.data.take 32 ++ (d.data.drop (32 + 512 * k)).take (16 * n)), s1)

/-- Chunk `k` goes out in a frame: it is counted, and again where it was sent before (R239). -/
def State.segSend (s : State) (m k : Nat) : State :=
  let t := s.segTable m
  let s1 := s.bump F.SEG_SENT_COUNT
  let s2 := if bitAt t.sent k then s1.bump F.SEG_RESENT_COUNT else s1
  s2.setSegTable m { t with sent := t.sent ||| 2 ^ k, flight := t.flight ||| 2 ^ k }

/-- Chunks of a mask that are no longer in flight. -/
def SegTable.landed (t : SegTable) (mask : Nat) : SegTable := { t with flight := t.flight - (t.flight &&& mask) }

/-- Chunks of plan `plan`'s table that a frame carried have been acknowledged; the last one completes the table: a delivery word, which
a unit that is not active does not post (R384), and DELIVERED (R239). -/
def State.segAcked (s : State) (m plan mask : Nat) : State :=
  let t := s.segTable m
  let t1 := { t.landed mask with ok := t.ok ||| mask }
  if t.plan ≠ plan then s
  else if t.running && t1.ok == 2 ^ t.chunks - 1 then
    let t2 := { t1 with running := false, complete := true }
    let s1 := s.setSegTable m t2
    let s2 := if s1.notActive then s1
      else s1.post (s1.getF F.SEG_CTRL_ACK_QUEUE) .seg (8 * 2 ^ 52 + m * 2 ^ 40 + t.plan) (some ⟨F.SEG_EVT_LOST_COUNT, some (0x0A0, 3), none⟩)
    s2.segEvent 1 m t2
  else s.setSegTable m t1

/-- The acknowledgement of a frame with chunks of plan `plan`'s table is missing. -/
def State.segMissed (s : State) (m plan mask : Nat) : State :=
  let t := s.segTable m
  if t.plan ≠ plan ∨ t.flight &&& mask = 0 then s else s.setSegTable m (t.landed mask)

/-- The tables in delivery. -/
def State.segRunning (s : State) : List (Nat × SegTable) := s.seg.tables.filter fun e => e.2.running

/-- LATE for every table incomplete at the end of its START_TICK, plan tick `tick` having begun (R240). -/
def State.segLateAt (s : State) (tick : Nat) : State :=
  s.segRunning.foldl (fun s e =>
    if !e.2.late && decide (0 < tickDiff tick e.2.start) then
      ((s.setSegTable e.1 { e.2 with late := true }).bump F.SEG_LATE_COUNT).segEvent 2 e.1 e.2
    else s) s

def State.segLate (s : State) : State := s.segLateAt s.planTick

/-- Delivery of a table ends as GIVEUP (R240, R463). -/
def State.segGiveUpOne (s : State) (m : Nat) : State :=
  let t := s.segTable m
  ((s.setSegTable m { t with running := false, flight := 0 }).bump F.SEG_GIVEUP_COUNT).segEvent 3 m t

/-- GIVEUP for every table whose epochs after START_TICK have passed, plan tick `tick` having begun (R240). -/
def State.segGiveUpAt (s : State) (tick : Nat) : State :=
  s.segRunning.foldl (fun s e =>
    if (s.getF F.SEG_CTRL_GIVEUP_EP * s.epochMs : Int) < tickDiff tick e.2.start * 10 then s.segGiveUpOne e.1 else s) s

def State.segGiveUp (s : State) : State := s.segGiveUpAt s.planTick

/-- The ticks, counted from `from_`, at whose end LATE and GIVEUP of a table fall due. -/
def State.segDue (s : State) (from_ : Nat) (t : SegTable) : List Int :=
  let d := tickDiff t.start from_
  (if t.late then [] else [d]) ++ [d + (s.getF F.SEG_CTRL_GIVEUP_EP * s.epochMs / 10 : Nat)]

/-- Views of the SEG page (R259). -/
def State.viewSeg (s : State) (key : Nat) : Option Nat :=
  let t := s.segTable (s.getF F.SEG_MSTAT_INDEX_MACHINE)
  if key = 0xA0044 then some s.segRunning.length
  else if key = 0xA0060 then some (t.ok * 65536 + t.chunks * 256 + bit t.complete * 2 + bit t.running)
  else if key = 0xA0064 then some t.plan
  else none

end Sys2Proof.Machine
end

