-- ==== Sys2Proof/Machine/RadioOps.lean ====
section
/-! DEFINITION. What the radio's sectors send and receive (09_malvo_radio.md R262 to R292). -/

namespace Sys2Proof.Machine

/-! ## Frames (R277, R278, R285) -/

def sectPage (n : Nat) : Nat := 0x0B1 + n

def State.wide10 (s : State) (n : Nat) : Bool := s.flag (F.SECT_CTRL_WIDTH n)

/-- The round trip in µs (R268). -/
def State.rtt (s : State) : Nat := (2 * s.getF F.RADIO_RANGE_METRES * 1000000 + 299792457) / 299792458

/-- A frame fits its slots (R268). -/
def State.airFits (s : State) (n rate len : Nat) (ack : Bool) (slots : Nat) : Bool :=
  decide (airUs (s.wide10 n) rate len + (if ack then 16 + airUs (s.wide10 n) rate 24 else 0) + s.rtt ≤ 250 * slots)

/-- A machine's identity, and the member's (R277). -/
def State.machIdent (s : State) (m : Nat) : Nat := s.machWord m 1 + s.machWord m 2 % 65536 * 2 ^ 32
def State.memberIdent (s : State) : Nat := (s.reg 0xB0048).toNat + (s.reg 0xB004C).toNat % 65536 * 2 ^ 32

/-- The broadcast address. -/
def airAll : Nat := 0xFFFFFFFFFFFF

/-- TAG of a frame that begins in superframe `sfn`, under the key of the identity `ident` (R278); none without a link key (R427). -/
def State.linkTag (s : State) (ident sfn : Nat) (body : List Byte) : Option (List Byte) :=
  s.keys.kRadio.map fun k => (hmac256 (hmac256 k (bytesLE ident 6)) (bytesLE (sfn % 2 ^ 32) 4 ++ body)).take 4

/-- The unit's letter on the air (R277). -/
def State.airUnit (s : State) : Nat := s.getF F.RADIO_CTRL_UNIT

/-- A native MPDU (R277): `flags` are ACK_REQ × 8 + MORE × 4 + RETRY × 2 + TWIN. -/
def State.nativeMpdu (s : State) (n sfn key kind flags seq dst : Nat) (payload : List Byte) : Option (List Byte) :=
  let w0 := 2 * 2 ^ 14 + kind * 2 ^ 10 + flags * 2 ^ 6 + s.airUnit * 2 ^ 4 + n
  let body := bytesLE w0 2 ++ bytesLE seq 2 ++ bytesLE s.memberIdent 6 ++ bytesLE dst 6 ++ payload
  (s.linkTag key sfn body).map fun t => body ++ t ++ bytesLE (crc32 (body ++ t)) 4

/-- A Primrose MPDU (R285): `flags` are ACK_REQ × 2 + MORE. -/
def primroseMpdu (n kind flags seq dst : Nat) (payload : List Byte) : List Byte :=
  let w0 := 2 ^ 14 + kind * 2 ^ 10 + flags * 2 ^ 8
  let body := bytesLE w0 2 ++ [BitVec.ofNat 8 seq, BitVec.ofNat 8 n] ++ bytesLE dst 2 ++ bytesLE 0xFFFE 2 ++ padBytes 12 payload
  body ++ bytesLE (crc32 body) 4

/-- Send a frame, which is counted (R293); the device starts it SECT_COMP.TX_NS early (R265). -/
def State.airSend (s : State) (n slot offUs rate : Nat) (bytes : List Byte) : State :=
  let at_ : Int := slot * 250000 + offUs * 1000 - s.getF (F.SECT_COMP_TX_NS n)
  (s.setSect n { s.sect n with sent := some ⟨slot, offUs, rate, bytes, at_⟩ }).bump (F.SECT_TX_FRAMES_COUNT n)

/-- Send a native broadcast (R278, R427: nothing without a key). -/
def State.airBroadcast (s : State) (n slot offUs rate kind : Nat) (payload : List Byte) : State :=
  match s.nativeMpdu n (slot / 80) airAll kind 0 0 airAll payload with
  | some b => s.airSend n slot offUs rate b
  | none => s

/-! ## Fixed slots (R267, R279) -/

/-- The payload of a BEACON or WATCH in slot `slot` (R279). -/
def State.beaconPayload (s : State) (n slot : Nat) (token image : Option (List Byte)) : List Byte :=
  let w1 := s.getF F.SOLV_STAT_EPOCH_ACTIVE * 2 ^ 30 + s.member * 2 ^ 20 + n * 2 ^ 16 + s.getF (F.SECT_CHANNEL_ID n) * 2 ^ 8 +
    s.getF F.RADIO_CTRL_PAIR * 2 ^ 7 + s.airUnit * 2 ^ 6 + bit (!s.notActive) * 2 ^ 5 + bit token.isSome * 2 ^ 4 + bit image.isSome * 2 ^ 3 +
    bit s.time.valid * 2 ^ 2 + bit (s.flag F.RADIO_PRIMROSE_ASSOC_EN && s.flag F.RADIO_CTRL_PRIMROSE_EN) * 2
  let w2 := s.getF (F.SECT_PROG_TAG_TAG n) * 2 ^ 16 + s.quality * 2 ^ 8
  wordsBytes [slot / 80 % 2 ^ 32, w1, w2] ++ padBytes 48 (token.getD []) ++ padBytes 64 (image.getD [])

/-- The token that the mirror holds for a superframe, while the unit does not withhold (R301), and the image that it presents at a slot's edge (R267, R300, R309). -/
def State.mirrorToken (s : State) (slot : Nat) : Option (List Byte) :=
  if !s.withholding && !s.poppy.token.isEmpty && s.poppy.tokenSfn == slot / 80 % 2 ^ 32 then some s.poppy.token else none
def State.mirrorImage (s : State) (slot : Nat) : Option (List Byte) :=
  if s.poppy.imageSlot == some (slot * 250000) then some s.poppy.image else none

/-- The unit's own beacon slot of a superframe (R267). -/
def State.ownBeacon (s : State) (slot : Nat) : Bool :=
  slot % 80 == (if s.flag F.RADIO_CTRL_PAIR && s.airUnit == 1 then 1 else 0)

/-- The beacon of the current slot (R267); one that goes out without a token is counted. -/
def State.sendBeacon (s : State) (n slot : Nat) : State :=
  let token := s.mirrorToken slot
  let s1 := s.airBroadcast n slot 42 12 2 (s.beaconPayload n slot token (s.mirrorImage slot))
  if token.isNone && s.keys.kRadio.isSome then (s1.bump (F.SECT_TOKEN_ABSENT_COUNT n)).raise (sectPage n) 4 else s1

/-- The stop frame of the current mini-slot (R263, R266, R267). -/
def State.sendStop (s : State) (n slot : Nat) : State :=
  match s.mirrorImage slot with
  | some img =>
    let pair := s.flag F.RADIO_CTRL_PAIR
    s.airBroadcast n slot (if pair && s.airUnit == 1 then 146 else 42) (if pair && s.wide10 n then 24 else 12) 3 img
  | none => s

/-! ## Downlink content (R275, R280) -/

/-- A machine is addressed by Primrose framing. -/
def State.isPrimrose (s : State) (m : Nat) : Bool := bitAt (s.machWord m 0) 1

/-- A Primrose machine's association: the device time at which it was last heard. -/
def State.assocOf (s : State) (m : Nat) : Option Nat := Assoc.get (fun _ => none) s.radio.assoc m

def State.setAssoc (s : State) (m : Nat) (v : Option Nat) : State :=
  { s with radio := { s.radio with assoc := Assoc.put (fun _ => none) s.radio.assoc m v } }

/-- A machine's short address (R286). -/
def State.shortAddr (s : State) (m : Nat) : Nat := s.machWord m 2 / 65536

/-- The sector's unit sends only the copies of TWIN words (R276). -/
def State.onlyTwins (s : State) : Bool := s.flag F.RADIO_CTRL_PAIR && s.airUnit == 1

/-- The frames that unit B has built for a machine (none: broadcasts) and not sent yet: what they carry is not built in again. -/
def State.builtFor (s : State) (m : Option Nat) : List TxContent :=
  if s.onlyTwins then
    (s.radio.sects.flatMap fun e => (e.2.blocks ++ e.2.twin.map fun x => x.2).filterMap fun b => b.frame).filter fun f => f.machine == m
  else []

/-- Firmware frames for a machine, or broadcasts of a sector, that no sector awaits an acknowledgement for, in order. -/
def State.fwFree (s : State) (p : FwFrame → Bool) : List FwFrame :=
  s.radio.fw.filter fun f => p f && !(s.radio.sects.any fun e => (e.2.wait.map fun w => w.fw.elem f.id).getD false) &&
    !((s.builtFor f.machine).any fun c => c.fw.elem f.id)

def State.fwFor (s : State) (m : Nat) : List FwFrame := s.fwFree fun f => f.machine == some m

/-- The fix element to send to a machine (R275). -/
def State.fixFor (s : State) (m : Nat) : Option (List Byte) :=
  ((s.solv.fixes.find? fun f => f.1 == m && !((s.builtFor (some m)).any fun c => c.fix == some f.2)).map fun f => f.2)

/-- The chunks of a machine's table in frames that are under way. -/
def State.chunksOut (s : State) (m : Nat) : Nat :=
  let t := s.segTable m
  (s.builtFor (some m)).foldl (fun v c => if c.plan = t.plan then v ||| c.chunks else v) t.flight

/-- The sender holds a frame for the machine (R277 MORE, R289), besides the firmware frames and chunks given. -/
def State.airHolds (s : State) (m : Nat) (fw : List Nat := []) (chunks : Nat := 0) (fix : Bool := false) : Bool :=
  (!fix && (s.fixFor m).isSome) || (s.segNext m (s.chunksOut m ||| chunks)).isSome || (s.fwFor m).any (fun f => !fw.elem f.id) ||
    s.radio.reply.any fun r => r.1 == m

/-- A firmware element (R280). -/
def fwElement (b : List Byte) : List Byte :=
  wordsBytes [b.length * 0x1000 + 0x1CA] ++ padBytes ((b.length + 3) / 4 * 4) b

/-- Add the lowest undelivered chunks to a payload while they fit (R239, R275): the payload and the chunks in it. -/
def State.addChunks (s : State) (m : Nat) (room : Nat → Bool) : Nat → List Byte → Nat → (List Byte × Nat) × State
  | 0, p, mask => ((p, mask), s)
  | fuel + 1, p, mask =>
    match s.segNext m (s.chunksOut m ||| mask) with
    | none => ((p, mask), s)
    | some k =>
      match s.segChunk m k with
      | (none, s1) => ((p, mask), s1)
      | (some c, s1) =>
        if room (p.length + c.length) then s1.addChunks m room fuel (p ++ c) (mask ||| 2 ^ k)
        else ((p, mask), s1)

/-- Add firmware frames to a payload while they fit. -/
def addFw (room : Nat → Bool) : List FwFrame → List Byte → List Nat → List Byte × List Nat
  | [], p, ids => (p, ids)
  | f :: t, p, ids =>
    let e := fwElement f.bytes
    if room (p.length + e.length) then addFw room t (p ++ e) (ids ++ [f.id]) else (p, ids)

/-- Settle a unicast frame for machine `m` over `slots` slots (R275, R286). What it carries is spent when it is sent. -/
def State.settleUnicast (s : State) (n slot m content rate slots : Nat) : Option TxContent × State :=
  let pr := s.isPrimrose m
  let seq := if pr then s.radio.prTx % 256 else slot % 65536
  let next (s : State) : State := if pr then { s with radio := { s.radio with prTx := (s.radio.prTx + 1) % 256 } } else s
  let head := if pr then 12 else 24
  let room (len : Nat) : Bool := decide (head + len ≤ 2048) && s.airFits n rate (head + len) true slots
  if !s.machValid m || (if pr then !s.flag F.RADIO_CTRL_PRIMROSE_EN else s.keys.kRadio.isNone) then (none, s)
  else
    match (if pr && (content == 0 || content == 3) then s.radio.reply.find? fun r => r.1 == m else none) with
    | some r =>
      if room 12 then
        let s1 := { s with radio := { s.radio with reply := s.radio.reply.filter fun x => x.1 != m } }
        (some { machine := some m, primrose := pr, kind := 8, seq := seq, more := s1.airHolds m, retry := false, rate := rate, fw := []
                payload := bytesLE r.2 2 ++ bytesLE (s.shortAddr m) 2 }, next s1)
      else (none, s)
    | none =>
      if pr && (s.assocOf m).isNone then (none, s)
      else
        let fix : Option (List Byte) := if (content = 0 ∨ content = 1) ∧ room 36 then s.fixFor m else none
        let p1 : List Byte := match fix with
          | some b => wordsBytes [0x1C9] ++ b
          | none => []
        let ((p2, mask), s1) := if content = 0 ∨ content = 2 then s.addChunks m room 16 p1 0 else ((p1, 0), s)
        let (p3, ids) := if content = 0 ∨ content = 3 then addFw room (s1.fwFor m) p2 [] else (p2, [])
        if p3.isEmpty then (none, s1)
        else
          let t := s1.segTable m
          let retry := decide (t.sent &&& mask ≠ 0) || s1.radio.fw.any fun f => ids.elem f.id && decide (0 < f.tries)
          (some { machine := some m, primrose := pr, kind := 0, seq := seq, more := s1.airHolds m ids mask fix.isSome, retry := retry,
                  payload := p3, rate := rate, fw := ids, fix := fix, chunks := mask, plan := t.plan }, next s1)

/-- The number of the epoch in progress. -/
def State.epochNo (s : State) : Nat := s.taiNs / 1000000 / s.epochMs

/-- RTCM frames left over are cut (R275). -/
def State.corrCut (s : State) (n : Nat) (pr : Bool) : State :=
  let x := s.sect n
  let cut := if pr then x.prCorr.length else x.corr.length
  if cut = 0 then s
  else ((s.setSect n (if pr then { x with prCorr := [] } else { x with corr := [] })).bumpBy F.RADIO_CORR_CUT_COUNT cut).raise 0x0B0 4

/-- The corrections of an epoch that has ended are cut. -/
def State.corrEnd (s : State) (n : Nat) (pr : Bool) : State :=
  let x := s.sect n
  if (if pr then x.prEp else x.corrEp) = s.epochNo then s else s.corrCut n pr

/-- The newest corrections become the sector's, for CORR or PR_CORR frames (`pr`); RTCM frames of an earlier epoch that are left are cut,
and so is an output whose own epoch has ended (R275). -/
def State.corrNewest (s : State) (n : Nat) (pr : Bool) : State :=
  let x := s.sect n
  if (if pr then x.prNo else x.corrNo) = s.solv.corrNo then s.corrEnd n pr
  else
    let out := s.solv.corr.map (·.2)
    let s1 := s.corrCut n pr
    let y := s1.sect n
    (s1.setSect n (if pr then { y with prCorr := out, prNo := s.solv.corrNo, prEp := s.solv.corrEp }
                   else { y with corr := out, corrNo := s.solv.corrNo, corrEp := s.solv.corrEp })).corrEnd n pr

/-- The frames at the front of a list that fit together. -/
def takeFit (room : Nat → Bool) : Nat → List (List Byte) → List (List Byte)
  | _, [] => []
  | len, f :: t => if room (len + f.length) then f :: takeFit room (len + f.length) t else []

/-- Settle a broadcast frame (R272, R275, R287). -/
def State.settleBroadcast (s : State) (n slot content rate slots : Nat) : Option TxContent × State :=
  let native := s.keys.kRadio.isSome
  let room (head len : Nat) : Bool := decide (head + len ≤ 2048) && s.airFits n rate (head + len) false slots
  let frame (pr : Bool) (payload : List Byte) (seq : Nat) (fw : List Nat) : Option TxContent :=
    some { machine := none, primrose := pr, kind := 0, seq := seq, more := false, retry := false, payload := payload, rate := rate, fw := fw }
  if content = 3 then
    let (p, ids) := addFw (room 24) (s.fwFree fun f => f.machine.isNone && f.sector == n) [] []
    if p.isEmpty || !native then (none, s) else (frame false p (slot % 65536) ids, s)
  else if content = 4 then
    let s1 := s.corrNewest n false
    let x := s1.sect n
    let out := takeFit (fun len => room 24 (4 + (len + 3) / 4 * 4)) 0 x.corr
    let b : List Byte := out.flatMap id
    if out.isEmpty || !native then (none, s1)
    else (frame false (wordsBytes [b.length * 0x1000 + 0x1CC] ++ padBytes ((b.length + 3) / 4 * 4) b) (slot % 65536) [],
          s1.setSect n { x with corr := x.corr.drop out.length })
  else if content = 5 && s.flag F.RADIO_CTRL_PRIMROSE_EN then
    let s1 := s.corrNewest n true
    let x := s1.sect n
    let out := takeFit (fun len => room 12 (max 12 (1 + len))) 0 x.prCorr
    if out.isEmpty then (none, s1)
    else
      let s2 := s1.setSect n { x with prCorr := x.prCorr.drop out.length }
      (frame true (0x51 :: out.flatMap id) (s.radio.prTx % 256) [], { s2 with radio := { s2.radio with prTx := (s.radio.prTx + 1) % 256 } })
  else (none, s)

/-! ## Acknowledgements (R282) -/

/-- The awaited acknowledgement is declared missing. -/
def State.ackMissed (s : State) (n : Nat) : State :=
  match (s.sect n).wait with
  | none => s
  | some w =>
    let s1 := ((s.setSect n { s.sect n with wait := none }).bump (F.SECT_ACK_MISS_COUNT n)).raise (sectPage n) 5
    let s2 := s1.segMissed w.machine w.plan w.chunks
    let tried := s2.radio.fw.map fun f => if w.fw.elem f.id then { f with tries := f.tries + 1 } else f
    let kept := tried.filter fun f => decide (f.tries < 4)
    let s3 := { s2 with radio := { s2.radio with fw := kept } }
    if kept.length < tried.length then (s3.bumpBy F.RADIO_FW_DROP_COUNT (tried.length - kept.length)).raise 0x0B0 2 else s3

/-- The awaited acknowledgement has come: what the frame carried is delivered (R239, R275). -/
def State.ackDone (s : State) (n : Nat) (w : AckWait) : State :=
  let s1 := s.setSect n { s.sect n with wait := none }
  { s1 with radio := { s1.radio with fw := s1.radio.fw.filter fun f => !w.fw.elem f.id } }.segAcked w.machine w.plan w.chunks

/-- What a frame carries has been sent: a fix is not sent again, a chunk is counted and in flight, a broadcast needs no acknowledgement
(R239, R275). -/
def State.contentSent (s : State) (c : TxContent) : State :=
  match c.machine with
  | none => if c.fw = [] then s else { s with radio := { s.radio with fw := s.radio.fw.filter fun f => !c.fw.elem f.id } }
  | some m =>
    let s1 := match c.fix with
      | some b => { s with solv := { s.solv with fixes := s.solv.fixes.filter fun f => !(f.1 == m && f.2 == b) } }
      | none => s
    if (s1.segTable m).plan = c.plan then
      ((List.range 16).filter fun k => bitAt c.chunks k).foldl (fun s k => s.segSend m k) s1
    else s1

/-- Send what a TX block carries, in slot `slot`; `twin` marks unit B's copy (R276, R277, R282). -/
def State.sendContent (s : State) (n slot : Nat) (twin : Bool) (c : TxContent) : State :=
  let ack := c.machine.isSome
  let mpdu :=
    if c.primrose then
      some (primroseMpdu n c.kind (bit ack * 2 + bit c.more) c.seq ((c.machine.map s.shortAddr).getD 0xFFFF) c.payload)
    else
      let dest := (c.machine.map s.machIdent).getD airAll
      s.nativeMpdu n (slot / 80) dest c.kind (bit ack * 8 + bit c.more * 4 + bit c.retry * 2 + bit twin) c.seq dest c.payload
  match mpdu with
  | none => s
  | some b =>
    let s1 := ((s.ackMissed n).airSend n slot 42 c.rate b).contentSent c
    match c.machine with
    | none => s1
    | some m =>
      let end_ := slot * 250000 + 42000 + 1000 * airUs (s.wide10 n) c.rate b.length
      s1.setSect n { s1.sect n with wait := some ⟨m, c.seq, end_ + 15000, end_ + 19000 + 1000 * s.rtt, c.fw, c.chunks, c.plan⟩ }

/-- A TX word in its first slot (R275, R276): unit A sends, and both keep the block for TWIN. -/
def State.txBlock (s : State) (n : Nat) (e : ProgEntry) : State :=
  let w := e.word
  let slot := s.slotNow
  let code := bitsOf w 17 16
  let rate := rateOf (if code = 0 then s.getF (F.SECT_CTRL_DATA_RATE n) else code)
  let (c, s1) :=
    if bitAt w 23 then s.settleBroadcast n slot (bitsOf w 22 20) rate e.count
    else s.settleUnicast n slot (bitsOf w 7 0) (bitsOf w 22 20) rate e.count
  let s2 := s1.setSect n { s1.sect n with blocks := (s1.sect n).blocks ++ [⟨e.count, c⟩] }
  match c with
  | some f => if s.onlyTwins then s2 else s2.sendContent n slot false f
  | none => s2

/-- The entry's block opens for reception; its slots are those of the program, also where the first of them have been jumped over
(R270). -/
def State.openBlock (s : State) (n : Nat) (kind : RxKind) (e : ProgEntry) : State :=
  s.setSect n { s.sect n with rx := some ⟨kind, s.slotNow - s.slotNow % s.cycleSlots + e.start, e.count, [], []⟩ }

/-- A TWIN word takes its blocks (R276). -/
def State.twinTake (s : State) (n : Nat) (e : ProgEntry) : State :=
  let x := s.sect n
  let t := twinSlots e.count s.slotNow x.blocks
  s.setSect n { x with blocks := x.blocks.drop t.length, twin := t }

/-- The current slot of a TWIN word: unit B repeats the block that falls in it (R276). -/
def State.twinSend (s : State) (n : Nat) : State :=
  let x := s.sect n
  match x.twin.find? fun e => e.1 == s.slotNow with
  | some (slot, b) =>
    let s1 := s.setSect n { x with twin := x.twin.filter fun e => decide (slot < e.1) }
    match b.frame with
    | some f => if s.onlyTwins then s1.sendContent n slot true f else s1
    | none => s1
  | none => s

/-! ## Poll windows (R289) -/

/-- The slots of a poll window that take polls. -/
def RxBlock.pollSlots (b : RxBlock) : Nat := (b.slots + 1) / 2

/-- The current slot answers polls: the frame for the first machine polled; a machine with nothing left makes way. -/
def State.pollAnswer (s : State) (n : Nat) : State :=
  match (s.sect n).rx with
  | some b =>
    let slot := s.slotNow
    if b.kind != .poll || decide (slot < b.first + b.pollSlots) || decide (b.first + b.slots ≤ slot) then s
    else
      match b.polled.dropWhile fun m => !s.airHolds m with
      | [] => s
      | m :: t =>
        match s.settleUnicast n slot m 0 (rateOf (s.getF (F.SECT_CTRL_DATA_RATE n))) 1 with
        | (some c, s1) =>
          let s2 := s1.setSect n { s1.sect n with rx := some { b with polled := if c.more then m :: t else t } }
          s2.sendContent n slot false c
        | (none, s1) => s1.setSect n { s1.sect n with rx := some { b with polled := t } }
  | none => s

/-! ## Reception (R281 to R287) -/

/-- A received frame as its sector stamps it: rate and width of its SIGNAL field, the output time (ns) at which its preamble began at the
device, its bytes. -/
structure RxFrame where
  rate  : Nat
  wide  : Bool
  start : Nat
  bytes : List Byte
  deriving DecidableEq, Repr

/-- A discarded frame: its counter, and the event of FCS, TAG, size and foreign source (R294). -/
def State.airDiscard (s : State) (n : Nat) (f : Fld) : State := (s.bump f).raise (sectPage n) 6

/-- The slots left to a frame that begins in `slot`, in the block that is open there (R268). -/
def RxBlock.slotsFrom (b : RxBlock) (slot : Nat) : Nat :=
  if slot < b.first ∨ b.first + b.slots ≤ slot then 0
  else
    match b.kind with
    | .rx _ => b.first + b.slots - slot
    | .contention _ => 1
    | .poll => if slot < b.first + b.pollSlots then 1 else 0

/-- Acknowledge a frame (R282); a unit that is not active does not. -/
def State.airAck (s : State) (n : Nat) (r : RxFrame) (m seq : Nat) (dst : Nat) (more : Bool) : State :=
  if s.notActive then s
  else
    let slot := r.start / 250000
    let at_ := r.start / 1000 + airUs r.wide r.rate r.bytes.length + 16
    let pr := s.isPrimrose m || dst == 0xFFFF
    let mpdu := if pr then some (primroseMpdu n 1 (bit more) seq dst []) else s.nativeMpdu n (at_ / 20000) (s.machIdent m) 1 (bit more * 4) seq (s.machIdent m) []
    match mpdu with
    | some b => s.airSend n slot (at_ - slot * 250) r.rate b
    | none => s

/-- A firmware element goes to RX_QUEUE (R283, R292); one that is empty or too long, or whose queue is off, is dropped. -/
def State.fwReceived (s : State) (n m : Nat) (b : List Byte) : State :=
  if !s.flag F.RADIO_FWQ_EN || b.isEmpty || decide (2020 < b.length) then (s.bump F.RADIO_FW_DROP_COUNT).raise 0x0B0 2
  else
    s.postPacket (s.getF F.RADIO_FWQ_RX_QUEUE) .radio (some ⟨F.RADIO_FW_DROP_COUNT, some (0x0B0, 2), none⟩)
      ((m * 2 ^ 48 + n * 2 ^ 44 + b.length * 2 ^ 32) :: pack7 b)

/-- A Primrose position report becomes the report of R128 (R287). -/
def State.primroseReport (s : State) (b : List Byte) : List Byte :=
  let gps : Nat := 315964819000
  let week : Nat := 604800000
  let epoch := (s.taiNs / 1000000 - gps) / week * week + gps + wordAt b 4
  let tenfold (o : Nat) : Nat := ofSigned 32 (toSigned 32 (wordAt b o) * 10)
  let level (o : Nat) : Nat := min 65535 (leValue ((b.drop o).take 2) * 10)
  wordsBytes [((b.getD 1 0).toNat % 8) * 0x1000 + 0x1C6, epoch % 2 ^ 32, tenfold 8, tenfold 12, tenfold 16, level 20 * 65536 + level 22]

/-- Route an accepted payload (R283, R287). -/
def State.airRoute (s : State) (n m : Nat) (pr : Bool) (p : List Byte) : State :=
  if pr then (if p.head? = some 0x50 then s.uplinkPayload m (s.primroseReport p) else s.fwReceived n m p)
  else if p.head? = some 0xCA then s.fwReceived n m ((p.drop 4).take (bitsOf (wordAt p 0) 23 12))
  else s.uplinkPayload m p

/-- The duplicate check of R284 and R287: whether the frame is a duplicate, and its entry in the window. -/
def State.dupCheck (s : State) (m : Nat) (pr : Bool) (seq : Nat) : Bool × State :=
  if pr then
    (Assoc.get (fun _ => none) s.radio.prSeq m == some seq,
     { s with radio := { s.radio with prSeq := Assoc.put (fun _ => none) s.radio.prSeq m (some seq) } })
  else
    let win := (Assoc.get (fun _ => []) s.radio.wins m).filter fun e => decide (s.now ≤ e.2 + 8000000000)
    let dup := win.any fun e => e.1 == seq
    (dup, { s with radio := { s.radio with wins := Assoc.put (fun _ => []) s.radio.wins m (if dup then win else ((seq, s.now) :: win).take 32) } })

/-- A frame of the machine has been accepted (R283, R292, R385). -/
def State.airAccepted (s : State) (n m : Nat) : State :=
  let s1 := s.bump (F.SECT_RX_OK_COUNT n)
  { s1 with
    radio := { s1.radio with heard := Assoc.put (fun _ => none) s1.radio.heard m (some (n, s1.taiNs)) }
    pair := { s1.pair with sectRx := s1.pair.sectRx ||| 2 ^ n } }

/-- The block takes a frame of the machine. -/
def State.blockTakes (s : State) (n m : Nat) (poll : Bool) : State :=
  match (s.sect n).rx with
  | some b =>
    s.setSect n { s.sect n with rx := some { b with heard := if b.heard.elem m then b.heard else b.heard ++ [m]
                                                    polled := if poll && !b.polled.elem m then b.polled ++ [m] else b.polled } }
  | none => s

/-- A DATA or POLL frame of machine `m` with good FCS and TAG, in its block (R282 to R284, R289, R290). -/
def State.airUplink (s : State) (n : Nat) (r : RxFrame) (b : RxBlock) (m : Nat) (pr : Bool) (kind seq dst : Nat) (ackReq : Bool)
    (payload : List Byte) : State :=
  if kind = 4 then
    if b.kind != .poll then s
    else
      let s1 := (s.airAccepted n m).blockTakes n m true
      let s2 := if ackReq then s1.airAck n r m seq dst (s1.airHolds m) else s1
      if s2.pwr.state == .snowdrop then ((s2.bump F.RADIO_WATCH_POLLS_COUNT).raise 0x0B0 3).wakeSource 0 else s2
  else if b.kind == .poll || (b.kind == .rx m && b.heard.elem m) then s
  else
    let (dup, s1) := (s.blockTakes n m false).dupCheck m pr seq
    let s2 := if ackReq then s1.airAck n r m seq dst (s1.airHolds m) else s1
    if dup then s2.bump (F.SECT_DUP_COUNT n)
    else (s2.airAccepted n m).airRoute n m pr payload

/-- The machine with an identity or with a Primrose short address that is associated. -/
def State.identMachine (s : State) (ident : Nat) : Option Nat := s.machineOf (ident % 2 ^ 32) (ident / 2 ^ 32)
def State.shortMachine (s : State) (a : Nat) : Option Nat :=
  (List.range 256).find? fun m => s.machValid m && s.isPrimrose m && s.shortAddr m == a && (s.assocOf m).isSome

/-- An ACK frame of a machine (R282): in time, from the machine awaited and for the frame's SEQ. -/
def State.airAckRx (s : State) (n : Nat) (r : RxFrame) (m seq : Nat) : State :=
  match (s.sect n).wait with
  | some w =>
    if w.machine = m ∧ w.seq = seq ∧ w.from_ ≤ r.start ∧ r.start ≤ w.until_ then s.ackDone n w else s
  | none => s

/-- A BEACON from the air (R385 item 3). -/
def State.beaconRx (s : State) (p : List Byte) : State :=
  let w1 := wordAt p 4
  if bitsOf w1 23 20 = s.member ∧ bitsOf w1 6 6 ≠ s.airUnit ∧ wordAt p 0 = s.superframe then s.partnerBeacon (bitAt w1 5) else s

/-- A native frame whose FCS is good (R277, R278, R282, R283). -/
def State.nativeRx (s : State) (n : Nat) (r : RxFrame) : State :=
  let b := r.bytes
  let w0 := wordAt b 0 % 65536
  let kind := bitsOf w0 13 10
  let seq := wordAt b 0 / 65536
  let src := leValue ((b.drop 4).take 6)
  let dst := leValue ((b.drop 10).take 6)
  let len := b.length
  let payload := (b.drop 16).take (len - 24)
  let tagOk (ident : Nat) : Bool := s.linkTag ident (r.start / 20000000) (b.take (len - 8)) == some ((b.drop (len - 8)).take 4)
  if 6 ≤ kind ∨ bitsOf w0 5 4 = 3 then s
  else if bitsOf w0 5 4 ≠ 2 then
    -- a frame of a unit: only a beacon says anything to a receiver that is no machine
    if !tagOk dst then s.airDiscard n (F.SECT_RX_TAG_COUNT n) else if kind = 2 ∧ dst = airAll then s.beaconRx payload else s
  else
    let block := (s.sect n).rx
    let named : Bool := match block with
      | some ⟨.rx m, f, c, _, _⟩ => decide (s.machIdent m = src) || !(decide (f ≤ r.start / 250000) && decide (r.start / 250000 < f + c))
      | _ => true
    match s.identMachine src with
    | none => s.airDiscard n (F.SECT_FOREIGN_COUNT n)
    | some m =>
      if !named && kind != 1 then s.airDiscard n (F.SECT_FOREIGN_COUNT n)
      else if !tagOk src then s.airDiscard n (F.SECT_RX_TAG_COUNT n)
      else if dst ≠ s.memberIdent then s
      else if kind = 1 then s.airAckRx n r m seq
      else if kind = 0 ∨ kind = 4 then
        match block with
        | some x => if x.slotsFrom (r.start / 250000) = 0 then s else s.airUplink n r x m false kind seq (s.machIdent m) (bitAt w0 9) payload
        | none => s
      else s

/-- End a Primrose association (R286). -/
def State.assocEnd (s : State) (m : Nat) : State := if (s.assocOf m).isNone then s else (s.setAssoc m none).raise 0x0B0 1

/-- The STATUS of an ASSOC_RESP (R286). -/
def State.assocStatus (s : State) (m : Nat) : Nat :=
  if !s.isPrimrose m then 2 else if !s.flag F.RADIO_PRIMROSE_ASSOC_EN then 3 else 0

/-- An ASSOC_REQ (R286): acknowledged, and answered in the machine's first TX block that may carry the answer. -/
def State.assocReq (s : State) (n : Nat) (r : RxFrame) (seq : Nat) (ackReq : Bool) (ident : Nat) : State :=
  match (s.sect n).rx with
  | some ⟨.contention true, f, c, _, _⟩ =>
    if r.start / 250000 < f ∨ f + c ≤ r.start / 250000 then s
    else
      let s1 := if ackReq then s.airAck n r 0 seq 0xFFFF false else s
      match s1.identMachine ident with
      | none => s1
      | some m =>
        let st := s1.assocStatus m
        let s2 := { s1 with radio := { s1.radio with reply := (s1.radio.reply.filter fun x => x.1 != m) ++ [(m, st)] } }
        if st ≠ 0 then s2
        else if (s2.assocOf m).isSome then s2.setAssoc m (some s2.now)
        else ((s2.setAssoc m (some s2.now)).bump F.RADIO_ASSOCS_COUNT).raise 0x0B0 0
  | _ => s

/-- A Primrose frame whose FCS is good (R285 to R287). -/
def State.primroseRx (s : State) (n : Nat) (r : RxFrame) : State :=
  let b := r.bytes
  let w0 := wordAt b 0 % 65536
  let kind := bitsOf w0 13 10
  let seq := bitsOf (wordAt b 0) 23 16
  let dst := wordAt b 4 % 65536
  let src := wordAt b 4 / 65536
  let payload := (b.drop 8).take (b.length - 12)
  if !s.flag F.RADIO_CTRL_PRIMROSE_EN || dst != 0xFFFE || !([0, 1, 4, 7, 9].elem kind) then s
  else if kind = 7 then (if src = 0xFFFF then s.assocReq n r seq (bitAt w0 9) (leValue (payload.take 6)) else s)
  else
    match s.shortMachine src with
    | none => s.airDiscard n (F.SECT_FOREIGN_COUNT n)
    | some m =>
      let s1 := s.setAssoc m (some s.now)
      if kind = 1 then s1.airAckRx n r m seq
      else if kind = 9 then (if bitAt w0 9 then s1.airAck n r m seq src false else s1).assocEnd m
      else
        match (s1.sect n).rx with
        | some x =>
          if x.slotsFrom (r.start / 250000) = 0 then s1
          else
            match x.kind with
            | .rx named => if named = m then s1.airUplink n r x m true kind seq src (bitAt w0 9) payload else s1.airDiscard n (F.SECT_FOREIGN_COUNT n)
            | _ => s1.airUplink n r x m true kind seq src (bitAt w0 9) payload
        | none => s1

/-- PROTO and KIND of a received frame's first bytes. -/
def RxFrame.proto (r : RxFrame) : Nat := bitsOf (wordAt r.bytes 0) 15 14
def RxFrame.kind (r : RxFrame) : Nat := bitsOf (wordAt r.bytes 0) 13 10

/-- The slot's edge lies in the interval of output time jumped over last (R270). -/
def State.slotJumped (s : State) (slot : Nat) : Bool :=
  match s.time.jump with
  | some (a, b) => decide (a ≤ slot * 250000) && decide (slot * 250000 < b)
  | none => false

/-- The frame with the path delay off its stamp (R265). -/
def State.airStamp (s : State) (n : Nat) (r : RxFrame) : RxFrame := { r with start := r.start - s.getF (F.SECT_COMP_RX_NS n) }

/-- A received frame, stamped by its sector (R262, R265, R268, R270, R281 to R283): a frame of a slot whose edge passed while the links were down, or was jumped over, is not received. -/
def State.airReceive (s : State) (n : Nat) (r0 : RxFrame) : State :=
  let r := s.airStamp n r0
  let len := r.bytes.length
  let slot := r.start / 250000
  if !s.sectRunning n || decide (s.taiNs < r0.start) || ((s.sect n).back.map fun b => decide (slot ≤ b)).getD false || s.slotJumped slot then s
  else if !([6, 12, 24].elem r.rate) || r.wide != s.wide10 n then s.bump (F.SECT_RX_PHY_COUNT n)
  else if len ≤ 23 then s.airDiscard n (F.SECT_RUNT_COUNT n)
  else if 2049 ≤ len then s.airDiscard n (F.SECT_GIANT_COUNT n)
  else
    let left := ((s.sect n).rx.map fun b => b.slotsFrom slot).getD 0
    if left ≠ 0 ∧ !s.airFits n r.rate len (bitAt (wordAt r.bytes 0) 9) left then s.bump (F.SECT_OVERLONG_COUNT n)
    else if crc32 (r.bytes.take (len - 4)) ≠ leValue (r.bytes.drop (len - 4)) then s.airDiscard n (F.SECT_RX_FCS_COUNT n)
    else if r.proto = 2 then s.nativeRx n r
    else if r.proto = 1 then s.primroseRx n r
    else s

end Sys2Proof.Machine
end

