-- ==== Sys2Proof/Machine/SchedOps.lean ====
section
/-! DEFINITION. The dispatch engine (11_dispatch_engine.md R330 to R349): ready lists, cores, work items, jobs, trace. -/

namespace Sys2Proof.Machine

/-! ## Trace (R348, R349) -/

/-- Write a trace record: KIND, SET, LEVEL, OBJECT, PEER, AUX. A record that cannot be written is lost and consumes a SEQ. -/
def State.trace (s : State) (kind set_ level object peer aux : Nat) : State :=
  if s.flag F.SCHED_TRC_CTRL_EN && bitAt (s.getF F.SCHED_TRC_CTRL_KIND_EN) kind && bitAt (s.getF F.SCHED_TRC_CTRL_SET_EN) set_ then
    let seq := (s.sched.seq + 1) % 65536
    let w := s.sched.wptr
    let s1 := { s with sched := { s.sched with seq := seq } }
    let lost (s : State) : State := (s.bump F.SCHED_TRC_LOST_COUNT).raise 0x024 0
    let rptr := s.getF F.SCHED_TRC_RPTR_INDEX
    if s.flag F.SCHED_TRC_CTRL_STOP_FULL && (w + 1) % 8192 == rptr then lost s1
    else
      let bytes := bytesLE (kind * 0x10000000 + set_ * 0x4000000 + level * 0x100000 + seq) 4 ++ bytesLE (s.taiNs % 2 ^ 32) 4 ++
        bytesLE (object * 0x10000 + peer % 65536) 4 ++ bytesLE aux 4
      match s1.clientWrite 0x09 0 (s.getF F.SCHED_TRC_BASE_ADDR * 0x20000 + 16 * w) bytes with
      | (some _, s2) => lost s2
      | (none, s2) =>
        let s3 := { s2 with sched := { s2.sched with wptr := (w + 1) % 8192 } }
        if ((w + 1) % 8192 + 8192 - rptr) % 8192 = 4096 then s3.raise 0x024 1 else s3
  else s

/-! ## Threads (R334 to R337) -/

def ThreadState.code : ThreadState → Nat
  | .free => 0
  | .ready => 1
  | .running => 2
  | .delayed => 3
  | .waitIrq => 4
  | .suspended => 5

def State.thread (s : State) (t : Nat) : Thread := Assoc.get (fun _ => {}) s.sched.threads t

def State.setThread (s : State) (t : Nat) (v : Thread) : State :=
  { s with sched := { s.sched with threads := Assoc.put (fun _ => {}) s.sched.threads t v } }

def State.schedCore (s : State) (k : Nat) : SchedCore := Assoc.get (fun _ => {}) s.sched.cores k

def State.setSchedCore (s : State) (k : Nat) (v : SchedCore) : State :=
  { s with sched := { s.sched with cores := Assoc.put (fun _ => {}) s.sched.cores k v } }

/-- The thread a core counts as running: the one in NEXT while a switch is pending (R336). -/
def SchedCore.counts (c : SchedCore) : Option Nat :=
  match c.next with
  | some t => t
  | none => c.run

/-- Signal a switch of core `k` (R337): NEXT is written and the interrupt asserted. -/
def State.signalCore (s : State) (k : Nat) (t : Option Nat) : State :=
  let c := s.schedCore k
  let c1 := match c.next with
    | some _ => { c with next := some t }
    | none => { c with next := some t, prev := c.run, irqAt := s.now }
  let prev := (c1.prev.getD 0)
  match t with
  | some x => ((s.setSchedCore k c1).setThread x { s.thread x with core := k }).trace 2 0 (s.thread x).level x k prev
  | none => s.setSchedCore k c1

/-- The first READY thread in level and entry order whose affinity includes core `k` (R336). -/
def State.firstReady (s : State) (k : Nat) : Option Nat :=
  let ok := s.sched.ready.filter fun t => bitAt (s.thread t).aff k
  ok.foldl (fun (best : Option Nat) t =>
    match best with
    | some b => if (s.thread t).level < (s.thread b).level then some t else best
    | none => some t) none

/-- Core `k` has become free: it takes the first READY thread that may run on it, or goes idle (R336, R337). -/
def State.freeCore (s : State) (k : Nat) : State :=
  match s.firstReady k with
  | some t => { s with sched := { s.sched with ready := s.sched.ready.filter (· != t) } }.signalCore k (some t)
  | none => s.signalCore k none

/-- The lowest-numbered idle core of an affinity. -/
def State.idleCore (s : State) (aff : Nat) : Option Nat :=
  (List.range 4).find? fun k => bitAt aff k && (s.schedCore k).counts.isNone

/-- The core of an affinity with the numerically greatest running level above `level`, the highest number on a tie. -/
def State.victimCore (s : State) (aff level : Nat) : Option Nat :=
  let lvl (k : Nat) : Nat := match (s.schedCore k).counts with
    | some t => (s.thread t).level
    | none => 0
  ((List.range 4).filter fun k => bitAt aff k && decide (level < lvl k)).foldl (fun (best : Option Nat) k =>
    match best with
    | some b => if lvl k < lvl b then best else some k
    | none => some k) none

/-- Place a thread that has become READY (R336): on an idle core, or in place of a thread of a numerically greater level,
which in its turn becomes READY at the front of its level, or in its level. `n` bounds the displacements. -/
def State.placeThread (s : State) (t : Nat) (front : Bool) : Nat → State
  | 0 => s
  | n + 1 =>
    let th := s.thread t
    let wait (s : State) : State :=
      { s with sched := { s.sched with ready := if front then t :: s.sched.ready else s.sched.ready ++ [t] } }
    if !s.flag F.SCHED_CTRL_THR_EN then wait s
    else
      match s.idleCore th.aff with
      | some k => s.signalCore k (some t)
      | none =>
        match s.victimCore th.aff th.level with
        | some k =>
          match (s.schedCore k).counts with
          | some v =>
            let s1 := ((s.setThread v { s.thread v with st := .ready }).bump F.SCHED_THR_PREEMPTS_COUNT).trace 3 0
              th.level t k v
            (s1.signalCore k (some t)).placeThread v true n
          | none => s
        | none => wait s

/-- A thread becomes READY at the back of its level. -/
def State.makeReady (s : State) (t : Nat) (result : Nat) : State :=
  let th := { s.thread t with st := .ready, result := result, deadline := false }
  ((s.setThread t th).trace 1 0 th.level t 0xFFFF 0).placeThread t false 8

/-- The core that runs a thread, or is to run it. -/
def State.coreOf (s : State) (t : Nat) : Option Nat := (List.range 4).find? fun k => (s.schedCore k).counts == some t

/-- A thread leaves the ready list and its core, which becomes free. `gone` says that its context need not be saved. -/
def State.leaveCore (s : State) (t : Nat) (gone : Bool) : State :=
  let s1 := { s with sched := { s.sched with ready := s.sched.ready.filter (· != t) } }
  let forget (c : SchedCore) : SchedCore :=
    if gone then { c with run := if c.run = some t then none else c.run, prev := if c.prev = some t then none else c.prev } else c
  match s1.coreOf t with
  | some k =>
    let c := s1.schedCore k
    let s2 := if c.next.isSome then s1.setSchedCore k { forget c with next := some none } else s1.setSchedCore k c
    let s3 := s2.freeCore k
    s3.setSchedCore k (forget (s3.schedCore k))
  | none =>
    (List.range 4).foldl (fun s k => s.setSchedCore k (forget (s.schedCore k))) s1

/-- Serve idle cores, when the thread set begins to run. -/
def State.serveCores (s : State) : State :=
  (List.range 4).foldl (fun s k =>
    if (s.schedCore k).counts.isNone && (s.firstReady k).isSome then s.freeCore k else s) s

/-! ## Interrupts (R49, R50, R338) -/

/-- The message of vector `v`: the data that the host has set, to the address that it has set (R35, R50). -/
def State.msixSend (s : State) (v : Nat) : State :=
  let w (k : Nat) : Nat := (Assoc.get (fun _ => 0) s.msixMsg (4 * v + k)).toNat
  { s with sent := .msix v (w 0 + 2 ^ 32 * w 1) (w 2) :: s.sent }

/-- A rising edge for an MSI-X vector (R50). -/
def State.msixEdge (s : State) (v : Nat) : State :=
  if Assoc.get (fun _ => false) s.msixOpen v then s.msixSend v
  else { s with msixPend := Assoc.put (fun _ => false) s.msixPend v true }

/-- A rising edge of the summary line of page `p` (R338). -/
def State.lineEdge (s : State) (p : Nat) : State :=
  let target := s.getF (F.SCHED_IRQMAP_TARGET.win p)
  if !s.flag (F.SCHED_IRQMAP_EN.win p) then (s.trace 8 0 0 0xFFFF p p).raise 0x020 1
  else if s.flag (F.SCHED_IRQMAP_MSIX.win p) then s.msixEdge target
  else
    let th := s.thread target
    if th.st == .waitIrq then (s.trace 6 0 th.level target p p).makeReady target 2
    else (s.setThread target { th with irq := true }).trace 8 0 th.level target p p

/-! ## Work items (R339 to R342) -/

/-- A free handle of a set of 4,096. -/
def freeHandle (used : List Nat) : Option Nat := (List.range 4096).find? fun h => !used.elem h

/-- Enter a work item: RESULT and handle. -/
def State.workEnter (s : State) (level aff handler delay arg : Nat) : Nat × Nat × State :=
  if aff = 0 then (2, 0, s)
  else
    match freeHandle (s.sched.items.map (·.handle)) with
    | none => (1, 0, s)
    | some h =>
      let it : WorkItem := ⟨h, level, aff, handler, arg % 2 ^ 56, delay == 0, (s.tick10us + delay) % 2 ^ 32⟩
      (0, h, ({ s with sched := { s.sched with items := s.sched.items ++ [it] } }).trace 9 1 level h 0xFFFF handler)

/-- The grant queue of data core `k` (R353). -/
def State.grantQueue (s : State) (k : Nat) : Nat :=
  bitsOf (s.reg 0x22044).toNat (8 * k + 5) (8 * k)

/-- The first READY item in level and entry order that a waiting core may take. -/
def State.firstItem (s : State) : Option WorkItem :=
  let ok := s.sched.items.filter fun i => i.ready && s.sched.waiting.any fun k => bitAt i.aff k
  ok.foldl (fun (best : Option WorkItem) i =>
    match best with
    | some b => if i.level < b.level then some i else best
    | none => some i) none

/-- Give items to waiting cores (R341), at most `n`. -/
def State.workGrant (s : State) : Nat → State
  | 0 => s
  | n + 1 =>
    if !s.flag F.SCHED_CTRL_WRK_EN then s
    else
      match s.firstItem with
      | none => s
      | some i =>
        match s.sched.waiting.find? fun k => bitAt i.aff k with
        | none => s
        | some k =>
          let s1 := { s with sched := { s.sched with items := s.sched.items.filter (·.handle != i.handle), waiting := s.sched.waiting.filter (· != k) } }
          let s2 := s1.postPacket (s1.grantQueue k) .dispatch none
            [0x1 * 2 ^ 52 + i.handle * 2 ^ 40 + i.level * 2 ^ 34 + i.handler * 2 ^ 16, i.arg]
          ((s2.bump F.SCHED_WRK_GRANTS_COUNT).trace 2 1 i.level i.handle k i.handler).workGrant n

/-- Raise the event of an empty set with a core waiting (R356). -/
def State.workEmpty (s : State) : State :=
  if s.sched.items.isEmpty && !s.sched.waiting.isEmpty then s.raise 0x022 2 else s

/-- Read and drop up to `n` words of a queue: how many there were. -/
def State.drainQueue (s : State) (q : Nat) : Nat → Nat × State
  | 0 => (0, s)
  | n + 1 =>
    match s.mboxTake q with
    | (none, s1) => (0, s1)
    | (some _, s1) => let (k, s2) := s1.drainQueue q n; (k + 1, s2)

/-! ## Jobs (R343 to R347) -/

/-- A machine is eligible for a job (R345). -/
def State.jobEligible (s : State) (m : Nat) (j : SchedJob) : Bool :=
  s.machValid m && bitAt j.classMask (s.machClass m) &&
    (j.zone == 0xFFFF || ((s.zoneState m).known && (s.zoneState m).zone == j.zone))

/-- Post a grant element (R347). -/
def State.postGrant (s : State) (m result handle ref : Nat) : State :=
  let lost : Lost := ⟨F.SCHED_JOB_GRANT_LOST_COUNT, some (0x023, 3), none⟩
  let bytes := bytesLE result 1 ++ bytesLE 0 1 ++ bytesLE handle 2 ++ bytesLE ref 4
  s.postPacket (s.getF F.SCHED_JOB_CTRL_GRANT_QUEUE) .dispatch (some lost)
    [m * 2 ^ 48 + s.radioSector m * 2 ^ 44 + 8 * 2 ^ 32, leValue (bytes.take 7), leValue (bytes.drop 7)]

/-- READY jobs in level, then entry order. -/
def State.readyJobs (s : State) : List SchedJob :=
  sortBy (fun a b => decide (a.level ≤ b.level)) (s.sched.jobs.filter (·.ready))

/-- Match one job (R346). -/
def State.matchJob (s : State) (j : SchedJob) : State :=
  match s.sched.asks.find? fun a => s.jobEligible a.machine j with
  | none => s
  | some a =>
    let s1 := { s with sched := { s.sched with jobs := s.sched.jobs.filter (·.handle != j.handle), asks := s.sched.asks.filter (·.machine != a.machine) } }
    (((s1.postGrant a.machine 1 j.handle j.ref).bump F.SCHED_JOB_GRANTS_COUNT).raise 0x023 0).trace 2 2 j.level j.handle a.machine j.ref

/-- A matching pass (R346). -/
def State.jobPass (s : State) : State := s.readyJobs.foldl (fun s j => s.matchJob j) s

/-- Enter a job (R343): RESULT and handle. -/
def State.jobEnter (s : State) (w : List Nat) : Nat × Nat × State :=
  let w0 := w.getD 0 0
  let nb := w.getD 2 0
  let ex := w.getD 3 0
  let mask := bitsOf w0 25 18
  let late := ex != 0 && !(decide (0 < tickDiff ex s.planTick) && (nb == 0 || decide (0 < tickDiff ex nb)))
  if mask = 0 ∨ late then (2, 0, s)
  else
    match freeHandle (s.sched.jobs.map (·.handle)) with
    | none => (1, 0, s)
    | some h =>
      let ready := nb == 0 || decide (tickDiff nb s.planTick ≤ 0)
      let j : SchedJob := ⟨h, bitsOf w0 31 26, mask, bitsOf w0 15 0, w.getD 1 0, nb, ex, ready⟩
      (0, h, ({ s with sched := { s.sched with jobs := s.sched.jobs ++ [j] } }).trace 9 2 j.level h 0xFFFF j.ref)

/-- The pass at the end of a plan tick, before its timeouts and expiries, where it has not run yet (R346). -/
def State.endOfTickPass (s : State) : State :=
  if s.flag F.SCHED_CTRL_JOB_EN then s.atEdge 12 10000000 (fun _ s => s.jobPass) else s

/-- Asks whose timeout has passed at the start of plan tick `tick` end with RESULT 2 (R346). -/
def State.askTimeoutsAt (s : State) (tick : Nat) : State :=
  let out (a : JobAsk) : Bool := match a.deadline with
    | some d => decide (0 < tickDiff tick d)
    | none => false
  let gone := s.sched.asks.filter out
  let s1 := { s with sched := { s.sched with asks := s.sched.asks.filter (fun a => !out a) } }
  gone.foldl (fun s a =>
    (((s.postGrant a.machine 2 0xFFFF 0).bump F.SCHED_JOB_TIMEOUTS_COUNT).raise 0x023 1).trace 7 2 0 0xFFFF a.machine 0) s1

def State.askTimeouts (s : State) : State := s.endOfTickPass.askTimeoutsAt s.planTick

/-- Jobs whose EXPIRES has passed at the start of plan tick `tick` are withdrawn (R346). -/
def State.jobExpiriesAt (s : State) (tick : Nat) : State :=
  let out (j : SchedJob) : Bool := j.expires != 0 && decide (0 < tickDiff tick j.expires)
  let gone := s.sched.jobs.filter out
  let s1 := { s with sched := { s.sched with jobs := s.sched.jobs.filter (fun j => !out j) } }
  gone.foldl (fun s j => ((s.bump F.SCHED_JOB_EXPIRED_COUNT).raise 0x023 2).trace 0xC 2 j.level j.handle 0xFFFF j.ref) s1

def State.jobExpiries (s : State) : State := s.endOfTickPass.jobExpiriesAt s.planTick

/-! ## Delays and deadlines (R332, R333) -/

/-- The threads whose delay has ended by tick `now`, in the order of their ticks and numbers. -/
def State.delayedDue (s : State) (now : Nat) : List Nat :=
  let due := (s.sched.threads.filter fun e => e.2.st == .delayed && decide (tickDiff e.2.tick now ≤ 0)).map (·.1)
  sortBy (fun a b => decide (tickDiff (s.thread a).tick (s.thread b).tick < 0) ||
    ((s.thread a).tick == (s.thread b).tick && decide (a ≤ b))) due

/-- The delays that end by the start of tick `now` of the set (R332): threads, work items, jobs. -/
def State.delayExpiriesAt (s : State) (set_ now : Nat) : State :=
  if set_ = 0 then
    if !s.flag F.SCHED_CTRL_THR_EN then s
    else (s.delayedDue now).foldl (fun s t => (s.trace 5 0 (s.thread t).level t 0xFFFF 0).makeReady t 1) s
  else if set_ = 1 then
    if !s.flag F.SCHED_CTRL_WRK_EN then s
    else
      let due (i : WorkItem) : Bool := !i.ready && decide (tickDiff i.tick now ≤ 0)
      let fresh := sortBy (fun a b => decide (tickDiff a.tick b.tick < 0) || (a.tick == b.tick && decide (a.handle ≤ b.handle)))
        (s.sched.items.filter due)
      let items := s.sched.items.filter (fun i => !due i) ++ fresh.map fun i => { i with ready := true }
      let s1 := { s with sched := { s.sched with items := items } }
      (fresh.foldl (fun s i => s.trace 1 1 i.level i.handle 0xFFFF i.handler) s1).workGrant 4
  else if !s.flag F.SCHED_CTRL_JOB_EN then s
  else
    let due (j : SchedJob) : Bool := !j.ready && decide (tickDiff j.notBefore now ≤ 0)
    let fresh := sortBy (fun a b => decide (tickDiff a.notBefore b.notBefore < 0) ||
        (a.notBefore == b.notBefore && decide (a.handle ≤ b.handle))) (s.sched.jobs.filter due)
    let jobs := s.sched.jobs.filter (fun j => !due j) ++ fresh.map fun j => { j with ready := true }
    let s1 := { s with sched := { s.sched with jobs := jobs } }
    fresh.foldl (fun s j => s.trace 1 2 j.level j.handle 0xFFFF j.ref) s1

def State.delayExpiries (s : State) (set_ : Nat) : State := s.delayExpiriesAt set_ (if set_ = 2 then s.planTick else s.tick10us)

/-- Interrupt waits whose deadline tick has ended at the start of tick `now` (R332, R334). -/
def State.waitTimeoutsAt (s : State) (now : Nat) : State :=
  if !s.flag F.SCHED_CTRL_THR_EN then s
  else
    let due := (s.sched.threads.filter fun e =>
      e.2.st == .waitIrq && e.2.deadline && decide (0 < tickDiff now e.2.tick)).map (·.1)
    due.foldl (fun s t => (s.trace 7 0 (s.thread t).level t 0xFFFF 0).makeReady t 3) s

def State.waitTimeouts (s : State) : State := s.waitTimeoutsAt s.tick10us

/-! ## Requests (R334, R335, R338, R339, R343, R344, R563) -/

/-- A thread command on thread `t`; none where the table does not list it for the thread's state (R334). -/
def State.threadOp (s : State) (t : Nat) (op : ThreadOp) : Option State :=
  let th := s.thread t
  match op with
  | .create level aff => if th.st == .free then some ((s.setThread t { level := level, aff := aff }).makeReady t 0) else none
  | .delete => if th.st == .free then none else some (((s.leaveCore t true).setThread t {}).trace 0xF 0 th.level t 0xFFFF 0)
  | .sleep ticks =>
    if th.st == .running then
      some (((s.leaveCore t false).setThread t { th with st := .delayed, tick := (s.tick10us + ticks) % 2 ^ 32 }).trace
        4 0 th.level t 0xFFFF 0)
    else none
  | .waitIrq ticks =>
    if th.st != .running then none
    else if th.irq then some (s.setThread t { th with irq := false, result := 2 })
    else
      let th1 := { th with st := .waitIrq, deadline := ticks != 0, tick := (s.tick10us + ticks) % 2 ^ 32 }
      some (((s.leaveCore t false).setThread t th1).trace 4 0 th.level t 0xFFFF 0)
  | .yield =>
    -- to the back of its level, and the core is offered
    if th.st != .running then none
    else
      let s1 := (s.setThread t { th with st := .ready }).trace 1 0 th.level t 0xFFFF 0
      match s1.coreOf t with
      | some k => some ({ s1 with sched := { s1.sched with ready := s1.sched.ready ++ [t] } }.freeCore k)
      | none => some s1
  | .setLevel level =>
    -- a READY thread moves to the back of its new level
    if th.st == .free then none
    else
      let s1 := s.setThread t { th with level := level }
      if s.sched.ready.elem t then
        some ({ s1 with sched := { s1.sched with ready := s1.sched.ready.filter (· != t) } }.placeThread t false 8)
      else some s1
  | .wake => if th.st == .delayed || th.st == .waitIrq then some (s.makeReady t 4) else none
  | .suspend =>
    if th.st == .ready then some (((s.leaveCore t false).setThread t { th with st := .suspended }).trace 4 0 th.level t 0xFFFF 0) else none
  | .resume => if th.st == .suspended then some (s.makeReady t th.result) else none

/-- Carry out what has reached the engine. -/
def State.schedDo (s : State) : SchedReq → State
  | .thread t op =>
    match t.bind fun x => s.threadOp x op with
    | some s1 => { s1 with sched := { s1.sched with thrRes := 0 } }.raise 0x021 0
    | none =>
      let s1 := { s with sched := { s.sched with thrRes := 1 } }.trace 0xD 0 0 (t.getD 0xFFFF) 0xFFFF 0
      (s1.raise 0x021 0).raise 0x021 1
  | .work level aff handler delay arg =>
    let (r, h, s1) := s.workEnter level aff handler delay arg
    let s2 := { s1 with sched := { s1.sched with subRes := r, subHand := if r = 0 then h else s1.sched.subHand } }
    if r = 0 then s2.workGrant 4 else (s2.raise 0x022 0).trace 0xD 1 0 0xFFFF 0xFFFF 0
  | .job w =>
    let (r, h, s1) := s.jobEnter w
    let s2 := { s1 with sched := { s1.sched with jobRes := r, jobHand := if r = 0 then h else s1.sched.jobHand } }
    if r = 0 then s2 else s2.trace 0xD 2 0 0xFFFF 0xFFFF 0
  | .ask m timeout =>
    -- one ask a machine; a repeat keeps its place and takes the new timeout (R344)
    let result (s : State) (r : Nat) : State := { s with sched := { s.sched with cmdRes := r } }
    if !s.machValid m then (result s 1).trace 0xD 2 0 0xFFFF m 0
    else
      let a : JobAsk := ⟨m, if timeout = 0 then none else some ((s.planTick + timeout) % 2 ^ 32)⟩
      let asks := if s.sched.asks.any (·.machine == m) then s.sched.asks.map (fun x => if x.machine = m then a else x)
        else s.sched.asks ++ [a]
      result ({ s with sched := { s.sched with asks := asks } }.trace 0xB 2 0 0xFFFF m 0) 0
  | .cancelAsk m =>
    if s.sched.asks.any (·.machine == m) then
      let s1 := { s with sched := { s.sched with asks := s.sched.asks.filter (·.machine != m), cmdRes := 0 } }
      (s1.postGrant m 3 0xFFFF 0).trace 0xF 2 0 0xFFFF m 0
    else { s with sched := { s.sched with cmdRes := 2 } }
  | .withdraw handle =>
    match s.sched.jobs.find? (·.handle == handle) with
    | some j =>
      let s1 := { s with sched := { s.sched with jobs := s.sched.jobs.filter (·.handle != handle), cmdRes := 0 } }
      s1.trace 0xC 2 j.level j.handle 0xFFFF j.ref
    | none => { s with sched := { s.sched with cmdRes := 2 } }
  | .edge p => s.lineEdge p

/-- What reaches the engine waits until a jump of the time base has been caught up with (R563). -/
def State.schedTake (s : State) (r : SchedReq) : State :=
  if s.time.catchFrom.isSome then { s with sched := { s.sched with held := s.sched.held ++ [r] } } else s.schedDo r

/-- What has waited is carried out in order of arrival. -/
def State.schedRelease (s : State) : State :=
  s.sched.held.foldl (fun s r => s.schedDo r) ({ s with sched := { s.sched with held := [] } }.workGrant 4)

/-- A thread command has been taken and waits for the catch-up: BUSY of SCHED_THR_CMD_STAT (R352). -/
def SchedSt.thrBusy (d : SchedSt) : Bool :=
  d.held.any fun r => match r with
    | .thread _ _ => true
    | .work _ _ _ _ _ | .job _ | .ask _ _ | .cancelAsk _ | .withdraw _ | .edge _ => false

/-! ## Catch-up after a jump of the time base (R331, R563)

An instant is the start of a tick of 10 µs, numbered from the TAI origin; it is also the end of the tick before. -/

/-- The instants at which something falls due, from the output time `from_` (ns) at which the first jump began; the plan tick in which
it began ends with a pass (R346, log 68). -/
def State.schedDue (s : State) (from_ : Nat) : List Int :=
  let fine (t : Nat) : Int := (from_ / 10000 : Nat) + tickDiff t (from_ / 10000 % 2 ^ 32)
  let coarse (t : Nat) : Int := (from_ / 10000000 : Nat) + tickDiff t (from_ / 10000000 % 2 ^ 32)
  let threads := s.sched.threads.flatMap fun e =>
    if e.2.st == .delayed then [fine e.2.tick] else if e.2.st == .waitIrq && e.2.deadline then [fine e.2.tick + 1] else []
  let items := (s.sched.items.filter fun i => !i.ready).map fun i => fine i.tick
  let starts := (s.sched.jobs.filter fun j => !j.ready).map fun j => coarse j.notBefore
  let ends := starts ++ ((s.sched.jobs.filter fun j => j.expires != 0).map fun j => coarse j.expires) ++
    s.sched.asks.flatMap fun a => (a.deadline.map coarse).toList
  threads ++ items ++ starts.map (fun t => 1000 * t) ++
    (((from_ / 10000000 : Nat) : Int) :: ends).map fun t => 1000 * (t + 1)

/-- What the engine does at an instant, in the order of its rules: the ends of ticks, then their starts; `last` is the instant from
which the engine's own commands go on. -/
def State.schedInstant (s : State) (last b : Int) : State :=
  let tick (v : Int) : Nat := (v % 2 ^ 32).toNat
  let plan := b % 1000 = 0
  let s1 := s.waitTimeoutsAt (tick b)
  let s2 := if plan ∧ s1.flag F.SCHED_CTRL_JOB_EN then ((s1.jobPass).askTimeoutsAt (tick (b / 1000))).jobExpiriesAt (tick (b / 1000)) else s1
  if last ≤ b then s2
  else
    let s3 := (s2.delayExpiriesAt 0 (tick b)).delayExpiriesAt 1 (tick b)
    if plan then s3.delayExpiriesAt 2 (tick (b / 1000)) else s3

/-- The engine's catch-up from the output time `from_` to `dest` (ns): every instant of a skipped tick at which something falls due, in
ascending order. -/
def State.schedCatchUp (s : State) (from_ dest : Nat) : State :=
  let last : Int := (dest / 10000 : Nat)
  let due := (sortBy (fun a b => decide (a ≤ b)) ((s.schedDue from_).filter fun d => decide (d ≤ last))).eraseDups
  due.foldl (fun s b => s.schedInstant last b) s

/-! ## Catch-up of the blocks that count plan ticks (R563)

Skipped ticks are counted from the tick in which the first jump began. -/

/-- The first of the offsets that lies after `last` and before `span`. -/
def nextOffset (last span : Int) (l : List Int) : Option Int :=
  match l.filter fun d => decide (last < d) && decide (d < span) with
  | [] => none
  | d :: t => some (t.foldl min d)

/-- The 32-bit tick at an offset. -/
def tickAt (from_ : Nat) (d : Int) : Nat := (((from_ : Int) + d) % 2 ^ 32).toNat

/-! ## Views -/

/-- Views of the dispatch pages (R351 to R355). -/
def State.viewSched (s : State) (key : Nat) : Option Nat :=
  let off := key % 0x1000
  let p := key / 0x1000
  let d := s.sched
  if p = 0x020 then
    if off = 0x044 then some s.tick10us
    else if 0x080 ≤ off ∧ off < 0x0C0 then
      let c := s.schedCore ((off - 0x080) / 16)
      let th (t : Option Nat) : Nat := match t with
        | some x => 0x80000000 + (s.thread x).level * 0x2000000 + x * 0x10000
        | none => 0
      if off % 16 = 0 then
        some (th (match c.next with
          | some t => t
          | none => c.run) + (match c.prev with
          | some x => 0x8000 + x
          | none => 0))
      else if off % 16 = 8 then some (th c.run)
      else none
    else none
  else if p = 0x021 then
    let t := s.thread (s.getF F.SCHED_THR_INDEX_THREAD)
    if off = 0x04C then some (bit d.thrBusy * 0x80000000 + d.thrRes)
    else if off = 0x050 then
      some (t.st.code * 0x10000000 + t.result * 0x2000000 + bit t.irq * 0x1000000 + t.level * 0x40000 + t.aff * 0x4000 +
        (if t.st == .running then t.core * 0x1000 else 0))
    else if off = 0x054 then some t.tick
    else if off = 0x058 then some ((d.threads.filter fun e => e.2.st == .ready).length)
    else none
  else if p = 0x022 then
    if off = 0x048 then some (d.waiting.foldl (fun a k => a + 0x10000000 * 2 ^ k) 0 + d.items.length)
    else if off = 0x04C then some ((d.items.filter (·.ready)).length)
    else if off = 0x064 then some (d.subRes * 0x10000000 + d.subHand)
    else none
  else if p = 0x023 then
    if off = 0x044 then some (d.asks.length * 0x10000 + d.jobs.length)
    else if off = 0x05C then some (d.jobRes * 0x10000000 + d.jobHand)
    else if off = 0x06C then some d.cmdRes
    else none
  else if off = 0x04C then some d.wptr
  else if off = 0x058 then some d.seq
  else none

end Sys2Proof.Machine
end

