-- ==== Sys2Proof/Machine/PtpOps.lean ====
section
/-! DEFINITION. PTP messages of the profile of 04_time_base.md R110; the layout of IEEE 1588-2019 is PRESUMED (log 83). -/

namespace Sys2Proof.Machine

/-- 01-1B-19-00-00-00. -/
def ptpMac : Nat := 0x011B19000000

/-- messageType and the position of its parts (IEEE 1588-2019). -/
def ptpType (m : List Byte) : Nat := (m.getD 0 0).toNat % 16
def ptpSeq (m : List Byte) : Nat := beValue ((m.drop 30).take 2)
def ptpSource (m : List Byte) : Nat := beValue ((m.drop 20).take 10)
def ptpTwoStep (m : List Byte) : Bool := bitAt (m.getD 6 0).toNat 1

/-- correctionField in 2^-32 ns. -/
def ptpCorr (m : List Byte) : Int := toSigned 64 (beValue ((m.drop 8).take 8)) * 65536

/-- The timestamp that a body begins with, in 2^-32 ns. -/
def ptpStamp (m : List Byte) : Nat := beValue ((m.drop 34).take 6) * secUnit + beValue ((m.drop 40).take 4) * nsUnit

/-- The versions, domain and SdoId that the profile takes (R110): versionPTP 2, minorVersionPTP 1. -/
def State.ptpSupported (s : State) (m : List Byte) : Bool :=
  decide (44 ≤ m.length) && (m.getD 1 0) == 0x12 && (m.getD 4 0).toNat == s.getF F.TIME_B_PTPCFG_DOMAIN &&
    (m.getD 0 0).toNat / 16 == 0 && (m.getD 5 0) == 0

/-- The port now in the slave role (R110, R117). -/
def State.ptpSlave (s : State) (p : Nat) : Bool := s.flag F.TIME_B_PORT_SLAVE_EN && s.getF F.TIME_B_PORT_ACTIVE == p

/-- A master port (R110, R111): the port that is slave is not one. -/
def State.ptpMaster (s : State) (p : Nat) : Bool := bitAt (s.getF F.TIME_B_MPORTS_MASTER) p && !s.ptpSlave p

/-- The profile supports the message on its port (R110): Sync, Follow_Up, Delay_Resp and Announce on the slave port, Delay_Req on a
master port. -/
def State.ptpTakes (s : State) (p : Nat) (m : List Byte) : Bool :=
  s.ptpSupported m && (if ptpType m = 1 then s.ptpMaster p
    else if ptpType m = 0 ∨ ptpType m = 8 ∨ ptpType m = 9 ∨ ptpType m = 11 then s.ptpSlave p else false)

/-- A stamp of the output time in PTP's ten bytes. -/
def ptpTimeBytes (t : Nat) : List Byte := bytesBE (t / secUnit) 6 ++ bytesBE (t / nsUnit % 1000000000) 4

/-- A message of `port` (R110). -/
def State.ptpMessage (s : State) (type flags seq port log : Nat) (corr : Int) (body : List Byte) : List Byte :=
  bytesBE type 1 ++ bytesBE 0x12 1 ++ bytesBE (34 + body.length) 2 ++ bytesBE (s.getF F.TIME_B_PTPCFG_DOMAIN) 1 ++ bytesBE 0 1 ++
    bytesBE flags 2 ++ bytesBE (ofSigned 64 (corr / 65536)) 8 ++ bytesBE 0 4 ++
    bytesBE Config.clockIdentity 8 ++ bytesBE (port + 1) 2 ++ bytesBE seq 2 ++ bytesBE 0 1 ++ bytesBE log 1 ++ body

/-- The Ethernet frame of a message (R110): source EMAC_MAC, tagged when PTPCFG.VID is not 0. -/
def State.ptpFrame (s : State) (port : Nat) (msg : List Byte) : List Byte :=
  let vid := s.getF F.TIME_B_PTPCFG_VID
  let src := (s.reg (0xD1058 + 0x1000 * port)).toNat + (s.reg (0xD105C + 0x1000 * port)).toNat % 65536 * 2 ^ 32
  bytesBE ptpMac 6 ++ bytesBE src 6 ++ (if vid = 0 then [] else bytesBE (0x81000000 + 6 * 0x2000 + vid) 4) ++ bytesBE 0x88F7 2 ++ msg

/-- Where the message begins in a frame. -/
def ptpAt (frame : List Byte) : Nat := if beValue ((frame.drop 12).take 2) = 0x8100 then 18 else 14

/-- currentUtcOffsetValid and ptpTimescale. -/
def ptpFlags : Nat := 0x000C

/-- clockClass and clockAccuracy sent (R110). -/
def State.ptpClass (s : State) : Nat :=
  if !s.time.valid then 248
  else
    match s.time.state with
    | .lockA => 6
    | .lockB => s.getF F.TIME_B_MASTER_CLASS
    | _ => 7
def State.ptpAccuracy (s : State) : Nat := if s.time.state = .lockA then 0x21 else 0xFE

/-- The body of an Announce (R110). -/
def State.ptpAnnounce (s : State) : List Byte :=
  let steps := if s.flag F.TIME_B_PORT_SLAVE_EN then (s.time.ptp.steps + 1) % 65536 else 0
  ptpTimeBytes 0 ++ bytesBE (s.getF F.TIME_OUT_UTC_OFFSET) 2 ++ bytesBE 0 1 ++ bytesBE 128 1 ++ bytesBE s.ptpClass 1 ++ bytesBE s.ptpAccuracy 1 ++
    bytesBE Config.clockVariance 2 ++ bytesBE 128 1 ++ bytesBE Config.grandmaster 8 ++ bytesBE steps 2 ++ bytesBE 0x20 1

end Sys2Proof.Machine
end

