-- ==== Sys2Proof/Machine/SwitchOps.lean ====
section
/-! DEFINITION. The Ethernet switch: address table, VLANs, egress queues, rings of port 20, PRP (12_switch_and_ports.md R357 to R378). -/

namespace Sys2Proof.Machine

def emacPage (p : Nat) : Nat := 0x0D1 + p

/-! ## Frames -/

def be16 (b : List Byte) (o : Nat) : Nat := beValue ((b.drop o).take 2)
def frameTagged (b : List Byte) : Bool := be16 b 12 == 0x8100
def frameType (b : List Byte) : Nat := be16 b (if frameTagged b then 16 else 12)
def frameDst (b : List Byte) : Nat := beValue (b.take 6)
def frameSrc (b : List Byte) : Nat := beValue ((b.drop 6).take 6)

/-- A group address. -/
def macGroup (a : Nat) : Bool := bitAt a 40

/-- The frame without its tag, and with a tag of `vid` and `pcp`. -/
def frameUntag (b : List Byte) : List Byte := if frameTagged b then b.take 12 ++ b.drop 16 else b
def frameTag (b : List Byte) (vid pcp : Nat) : List Byte :=
  let u := frameUntag b
  u.take 12 ++ bytesBE (0x81000000 + pcp * 0x2000 + vid) 4 ++ u.drop 12

/-! ## Ports (R357, R359, R374) -/

/-- A port of an enabled PRP pair. -/
def State.inPrp (s : State) (p : Nat) : Bool := decide (p < 20) && bitAt (s.getF F.SWCH_PRP_EN) (p / 2)

/-- Both ports of a PRP pair act as one, numbered by the lower (R363, R374). -/
def State.logical (s : State) (p : Nat) : Nat := if s.inPrp p then p / 2 * 2 else p

/-- The longest frame with FCS that a port takes (R359). -/
def State.portLimit (s : State) (p : Nat) (tagged : Bool) : Nat :=
  s.getF (F.EMAC_MAX_LEN_BYTES p) + (if tagged then 4 else 0) + (if s.inPrp p then 6 else 0)

/-- The port's link carries frames. -/
def State.portUp (s : State) (p : Nat) : Bool :=
  s.getF (F.EMAC_CTRL_MODE p) != 0 && s.flag (F.EMAC_STAT_LINK p) && s.pwr.state != .snowdrop

/-- The line rate in Mb/s (R357, R380). -/
def State.portMbps (s : State) (p : Nat) : Nat :=
  match s.getF (F.EMAC_CTRL_MODE p) with
  | 2 => if s.getF (F.EMAC_STAT_SPEED p) = 0 then 10 else if s.getF (F.EMAC_STAT_SPEED p) = 1 then 100 else 1000
  | 3 => 2500
  | 4 => 10000
  | _ => 1000

/-! ## The address table (R363, R364) -/

/-- The bucket of a key (R363). -/
def atuBucket (mac vid : Nat) : Nat := ((bytesBE mac 6 ++ bytesLE (vid % 4096) 2).foldl crc32cByte 0xFFFFFFFF ^^^ 0xFFFFFFFF) % 4096

def State.atuFind (s : State) (mac vid : Nat) : Option AtuEntry := s.sw.atu.find? fun e => e.mac == mac && e.vid == vid

/-- Put an entry, replacing the one of its key. -/
def State.atuPut (s : State) (e : AtuEntry) : State :=
  { s with sw := { s.sw with atu := e :: s.sw.atu.filter fun x => !(x.mac == e.mac && x.vid == e.vid) } }

/-- A bucket with four entries, none of the key. -/
def State.atuFull (s : State) (mac vid : Nat) : Bool :=
  (s.atuFind mac vid).isNone && decide (4 ≤ (s.sw.atu.filter fun e => atuBucket e.mac e.vid == atuBucket mac vid).length)

/-- The time-base tick in µs. -/
def State.usNow (s : State) : Nat := s.now / 1000

/-- One learn on logical port `p` (R363, R364). -/
def State.learn (s : State) (mac vid p : Nat) : State :=
  match s.atuFind mac vid with
  | none =>
    if s.atuFull mac vid then (s.bump F.SWCH_LEARN_FULL_COUNT).raise 0x0D0 1 else s.atuPut ⟨mac, vid, p, false, s.usNow⟩
  | some e =>
    if e.port = p then (if e.static then s else s.atuPut { e with seen := s.usNow })
    else if e.static || decide (s.usNow ≤ e.seen + s.getF F.SWCH_MOVE_HOLD_US) then
      ((s.bump F.SWCH_FLAPS_COUNT).pushFifo 0xD006C 16
        [BitVec.ofNat 32 (2 ^ 31 + e.port * 2 ^ 26 + p * 2 ^ 21 + mac % 2 ^ 16)] id).raise 0x0D0 2
    else s.atuPut { e with port := p, seen := s.usNow }

/-! ## Egress queues (R362, R365) -/

def State.egQueue (s : State) (p q : Nat) : List EgFrame := Assoc.get (fun _ => []) s.sw.queues (8 * p + q)

def State.setEgQueue (s : State) (p q : Nat) (l : List EgFrame) : State :=
  { s with sw := { s.sw with queues := Assoc.put (fun _ => []) s.sw.queues (8 * p + q) l } }

/-- Bytes in a set of egress queues. -/
def State.egBytes (s : State) (ok : Nat → Bool) : Nat :=
  (s.sw.queues.filter fun e => ok e.1).foldl (fun a e => e.2.foldl (fun a f => a + f.bytes.length) a) 0

/-- The shared buffer admits a frame to a queue (R365). -/
def State.admits (s : State) (p q len : Nat) : Bool :=
  decide (s.egBytes (fun k => k / 8 == p) < s.getF F.SWCH_BUF_PORT_LIMIT_KB * 1024) &&
    (if q = 7 then decide (s.egBytes (fun _ => true) + len ≤ 8 * 2 ^ 20)
     else decide (s.egBytes (fun k => k % 8 != 7) + len + s.getF F.SWCH_BUF_Q7_RESERVE_KB * 1024 ≤ 8 * 2 ^ 20) &&
       decide (s.egBytes (fun _ => true) + len ≤ 8 * 2 ^ 20))

/-- Queue a frame on an external port, or count it there as dropped: whether it was queued. -/
def State.egress (s : State) (p q : Nat) (f : EgFrame) : Bool × State :=
  if s.portLimit p (frameTagged f.bytes) < max 60 f.bytes.length + 4 || !s.admits p q f.bytes.length then
    (false, s.bump (F.EMAC_TX_DROP_COUNT p))
  else (true, (s.setEgQueue p q (s.egQueue p q ++ [f])).unwipe 0x0D0)

/-! ## PRP (R374, R404); the trailer's layout is PRESUMED (IEC 62439-3; log 82) -/

/-- The pair's next sequence number: its own, or that of the unit's range while PRP_SPLIT is 1 (R404). -/
def State.prpNext (s : State) (k : Nat) : Nat × State :=
  if s.flag F.PAIR_CTRL_PRP_SPLIT then
    let v := s.getF F.PAIR_PRP_NEXT_SEQ
    (v, s.setF F.PAIR_PRP_NEXT_SEQ (v / 0x4000 * 0x4000 + (v + 1) % 0x4000))
  else
    let v := Assoc.get (fun _ => 0) s.sw.prpSeq k
    (v, { s with sw := { s.sw with prpSeq := Assoc.put (fun _ => 0) s.sw.prpSeq k ((v + 1) % 65536) } })

/-- Bytes of the link service data unit with a trailer, for a frame that ends with its trailer. -/
def lsduSize (b : List Byte) : Nat := b.length - (if frameTagged b then 18 else 14)

/-- A frame with its trailer: `lan` is 0xA or 0xB. Short frames are padded before the trailer. -/
def prpTrailer (b : List Byte) (seq lan : Nat) : List Byte :=
  let b1 := if b.length < 54 then b ++ List.replicate (54 - b.length) 0 else b
  b1 ++ bytesBE seq 2 ++ bytesBE (lan * 0x1000 + (lsduSize b1 + 6) % 0x1000) 2 ++ bytesBE 0x88FB 2

/-- Sequence and LAN of the trailer of a frame (without FCS) whose size field matches. -/
def prpFind (b : List Byte) : Option (Nat × Nat) :=
  let t := b.drop (b.length - 6)
  if decide (20 ≤ b.length) && be16 t 4 == 0x88FB && be16 t 2 % 0x1000 == lsduSize b % 0x1000 then some (be16 t 0, be16 t 2 / 0x1000) else none

/-- The external ports on which a logical port sends, with the LAN of each where it is a PRP pair (R374, R404). -/
def State.physical (s : State) (p : Nat) : List (Nat × Option Nat) :=
  if s.inPrp p then
    let a := p / 2 * 2
    if s.flag F.PAIR_CTRL_PRP_SPLIT then (if s.getF F.RADIO_CTRL_UNIT = 1 then [(a + 1, some 0xB)] else [(a, some 0xA)])
    else [(a, some 0xA), (a + 1, some 0xB)]
  else [(p, none)]

/-- What became of a frame's copies: how many were queued, and whether one was refused. -/
structure Copies where
  queued  : Nat := 0
  refused : Bool := false

/-- Send a frame on a logical external port (R374): `seq` is the sequence that its descriptor gives. -/
def State.sendPort (s : State) (p q : Nat) (seq : Option Nat) (f : EgFrame) : Copies × State :=
  let (n, s1) : Nat × State := if s.inPrp p then (match seq with
    | some v => (v, s)
    | none => s.prpNext (p / 2)) else (0, s)
  (s1.physical p).foldl (fun a e =>
    let g := match e.2 with
      | some lan => { f with bytes := prpTrailer f.bytes n lan }
      | none => f
    let (ok, t) := a.2.egress e.1 q g
    (⟨a.1.queued + bit ok, a.1.refused || !ok⟩, t)) (({} : Copies), s1)

/-! ## Port 21 (R372) -/

/-- A frame for port 21 from ingress port `p`. -/
def State.toPort21 (s : State) (p q : Nat) (b : List Byte) : State :=
  if b.length < 14 ∨ 2048 < b.length then (s.bump F.SWCH_P21_DROP_COUNT).raise 0x0D0 6
  else
    s.postPacket (s.getF F.SWCH_P21_RX_QUEUE) .switch (some ⟨F.SWCH_P21_DROP_COUNT, some (0x0D0, 6), none⟩)
      ((q * 2 ^ 52 + p * 2 ^ 32 + b.length * 2 ^ 16) :: pack7 b)

/-! ## Port 20: receive rings (R368, R370, R371) -/

def State.ring (s : State) (r : Nat) : RingSt := Assoc.get (fun _ => {}) s.sw.rings r

def State.setRing (s : State) (r : Nat) (x : RingSt) : State :=
  { s with sw := { s.sw with rings := Assoc.put (fun _ => {}) s.sw.rings r x } }

def State.ringHead (s : State) (r : Nat) : Nat := s.getF (F.SWCH_RING_HEAD_INDEX.win r)
def State.ringTail (s : State) (r : Nat) : Nat := s.getF (F.SWCH_RING_TAIL_INDEX.win r)
def State.ringSize (s : State) (r : Nat) : Nat := s.getF (F.SWCH_RING_SIZE_COUNT.win r)
def State.ringStopped (s : State) (r : Nat) : Bool := s.flag (F.SWCH_RING_STAT_STOPPED.win r)
def State.ringVa (s : State) (r i : Nat) : Nat := s.getF (F.SWCH_RING_BASE_ADDR.win r) * 32 + 32 * i
def State.ringNext (s : State) (r i : Nat) : Nat := if i + 1 < s.ringSize r then i + 1 else 0

/-- A ring stops at a translation fault (R371, R463). -/
def State.ringStop (s : State) (r : Nat) : State :=
  ((s.setFlag (F.SWCH_RING_STAT_STOPPED.win r) true).dtuPause 7 r).raise 0x0D0 3

/-- Store a received frame through the ring's next descriptor (R370). -/
def State.rxStore (s : State) (r : Nat) (x : RxItem) : State :=
  let full (s : State) : State := s.raise 0x0D0 5
  let hold (s : State) : State := (s.setRing r { s.ring r with held := some x }).ringStop r
  if s.ringStopped r || s.ringHead r == s.ringTail r then full s
  else
    let va := s.ringVa r (s.ringHead r)
    let (d, s1) := s.clientRead 7 r va 8
    if d.fault.isSome then hold s1
    else
      let w := leValue d.data
      if w < 2 ^ 63 then full s1
      else
        match s1.clientWrite 7 r (w % 2 ^ 63) x.bytes with
        | (some _, s2) => hold s2
        | (none, s2) =>
          let st := x.stamp.getD 0
          let w2 := x.port * 2 ^ 27 + x.queue * 2 ^ 24 + bit x.stamp.isSome * 2 ^ 23 + bit x.tagged * 2 ^ 22 + bit x.prp * 2 ^ 21 + x.bytes.length
          let words := [w % 2 ^ 32, w % 2 ^ 63 / 2 ^ 32, w2, x.pcp * 2 ^ 13 + x.vid, st % 2 ^ 32, st / 2 ^ 32 % 2 ^ 32, 0, 0]
          match s2.clientWrite 7 r va (wordsBytes words) with
          | (some _, s3) => hold s3
          | (none, s3) => s3.setF (F.SWCH_RING_HEAD_INDEX.win r) (s3.ringNext r (s3.ringHead r))

/-- A frame for port 20 (R368). -/
def State.toPort20 (s : State) (x : RxItem) : State :=
  (s.unwipe 0x0D0).rxStore (if bitAt (s.getF F.SWCH_RX_MAP_RING9) x.queue then 9 else 8) x

/-! ## Forwarding (R360, R361) -/

def State.vlanHas (s : State) (vid p : Nat) : Bool := bitAt (s.getF (F.SWCH_VLAN_MEMBER_PORTS.win vid)) p
def State.vlanUntags (s : State) (vid p : Nat) : Bool := bitAt (s.getF (F.SWCH_VLAN_UNTAG_PORTS.win vid)) p

/-- The logical ports to which a frame from logical port `from_` goes by lookup (R360 item 6). -/
def State.targets (s : State) (from_ dst vid : Nat) : List Nat :=
  match s.atuFind dst vid with
  | some e => if s.logical e.port = from_ then [] else [s.logical e.port]
  | none => (List.range 22).filter fun p => s.vlanHas vid p && s.logical p == p && p != from_

/-- The frame as it leaves a port of its VLAN (R361). -/
def State.egressForm (s : State) (p vid pcp : Nat) (b : List Byte) : List Byte :=
  if s.vlanUntags vid p then frameUntag b else frameTag b vid pcp

/-- Send a frame to logical ports by its VLAN: `x` is the frame for port 20 as it arrived, `f` the frame's other parts. -/
def State.sendVlan (s : State) (ports : List Nat) (q vid pcp : Nat) (x : RxItem) (seq : Option Nat) (f : EgFrame) : Copies × State :=
  ports.foldl (fun a p =>
    let t := a.2
    if p = 20 then (a.1, t.toPort20 x)
    else if p = 21 then (a.1, t.toPort21 x.port q (t.egressForm 21 vid pcp x.bytes))
    else
      let (c, t1) := t.sendPort p q seq { f with bytes := t.egressForm p vid pcp f.bytes }
      (⟨a.1.queued + c.queued, a.1.refused || c.refused⟩, t1)) (({} : Copies), s)

/-- Send a frame unchanged on external ports (R369 DIRECT, R372 PORT_MASK). -/
def State.sendMask (s : State) (mask q : Nat) (seq : Option Nat) (f : EgFrame) : Copies × State :=
  let ports := (List.range 20).filter fun p =>
    if s.inPrp p then p % 2 == 0 && (bitAt mask p || bitAt mask (p + 1)) else bitAt mask p
  ports.foldl (fun a p =>
    let (c, t1) := a.2.sendPort p q seq f
    (⟨a.1.queued + c.queued, a.1.refused || c.refused⟩, t1)) (({} : Copies), s)

/-- VID and PCP of a frame from port 20 or 21, which have no PVID of their own (log 80). -/
def innerVlan (b : List Byte) : Nat × Nat :=
  if frameTagged b then (let t := be16 b 14; (if t % 4096 = 0 then 1 else t % 4096, t / 8192)) else (1, 0)

/-- Send a frame of port 20 or 21 by lookup; while FWD_EN is 0 it is dropped. -/
def State.sendLookup (s : State) (from_ q : Nat) (seq : Option Nat) (f : EgFrame) : Copies × State :=
  let (vid, pcp) := innerVlan f.bytes
  if !s.flag F.SWCH_CTRL_FWD_EN || vid == 4095 then (⟨0, true⟩, s)
  else
    s.sendVlan (s.targets from_ (frameDst f.bytes) vid) q vid pcp ⟨from_, q, none, frameTagged f.bytes, false, pcp, vid, f.bytes⟩ seq f

/-! ## Checksums and segmentation (R369, R373) -/

/-- The one's complement sum of bytes. -/
def inetSum (b : List Byte) : Nat :=
  let v := (chunks 2 ((b.length + 1) / 2) b).foldl (fun a c => a + beValue (if c.length = 1 then c ++ [0] else c)) 0
  let f := v % 65536 + v / 65536
  f % 65536 + f / 65536

/-- Replace bytes. -/
def patch (b : List Byte) (o : Nat) (v : List Byte) : List Byte := b.take o ++ v ++ b.drop (o + v.length)

def ipAt (b : List Byte) : Nat := if frameTagged b then 18 else 14
def isIp4 (b : List Byte) : Bool := frameType b == 0x0800
def isIp6 (b : List Byte) : Bool := frameType b == 0x86DD

/-- Where the transport header begins, and its protocol. -/
def l4At (b : List Byte) : Nat := ipAt b + (if isIp4 b then (b.getD (ipAt b) 0).toNat % 16 * 4 else 40)
def l4Proto (b : List Byte) : Nat := (b.getD (ipAt b + (if isIp4 b then 9 else 6)) 0).toNat

/-- Insert the IPv4 header checksum and the TCP or UDP checksum (R369 CSUM). -/
def insertSums (b : List Byte) : List Byte :=
  let ip := ipAt b
  let b1 := if isIp4 b then
      let z := patch b (ip + 10) [0, 0]
      patch z (ip + 10) (bytesBE (65535 - inetSum ((z.drop ip).take (l4At b - ip))) 2)
    else b
  let proto := l4Proto b
  if (isIp4 b || isIp6 b) && (proto == 6 || proto == 17) then
    let l4 := l4At b
    let at_ := l4 + (if proto = 6 then 16 else 6)
    let z := patch b1 at_ [0, 0]
    let addrs := if isIp4 b then (z.drop (ip + 12)).take 8 else (z.drop (ip + 8)).take 32
    let len := if isIp4 b then be16 z (ip + 2) - (l4 - ip) else be16 z (ip + 4)
    let v := 65535 - inetSum (addrs ++ bytesBE proto 4 ++ bytesBE len 4 ++ (z.drop l4).take len)
    patch z at_ (bytesBE (if v = 0 ∧ proto = 17 then 65535 else v) 2)
  else b1

/-- The header of an LSO descriptor is Ethernet, IPv4 or IPv6, then TCP (R373). -/
def lsoHeader (h : List Byte) : Bool :=
  (isIp4 h || isIp6 h) && l4Proto h == 6 && decide (l4At h + 20 ≤ h.length)

/-- Segment `i` of `n` (R373). -/
def lsoSegment (h : List Byte) (mss i n : Nat) (p : List Byte) : List Byte :=
  let ip := ipAt h
  let l4 := l4At h
  let h1 := if isIp4 h then
      patch (patch h (ip + 2) (bytesBE (h.length - ip + p.length) 2)) (ip + 4) (bytesBE ((be16 h (ip + 4) + i) % 65536) 2)
    else patch h (ip + 4) (bytesBE (h.length - ip - 40 + p.length) 2)
  let h2 := patch h1 (l4 + 4) (bytesBE ((beValue ((h.drop (l4 + 4)).take 4) + i * mss) % 2 ^ 32) 4)
  let fl := h.getD (l4 + 13) 0
  let fl1 := if i + 1 < n then fl &&& 0xF6 else fl
  let fl2 := if 0 < i then fl1 &&& 0x7F else fl1
  insertSums (patch h2 (l4 + 13) [fl2] ++ p)

/-! ## Port 20: transmit rings (R368, R369) -/

/-- Write back the front descriptors whose copies are all gone, in ring order (R368). -/
def State.ringFlush (s : State) (r : Nat) : Nat → State
  | 0 => s
  | n + 1 =>
    match (s.ring r).out with
    | [] => s
    | d :: t =>
      if d.left ≠ 0 then s
      else
        let st := if d.bad then 3 else if d.unsent then 4 else if d.dropped then 2 else if d.late then 1 else 0
        match s.clientWrite 7 r (s.ringVa r d.index) (bytesLE (setBits d.word0 31 31 0 / 2 ^ 24 * 2 ^ 24 + st * 2 ^ 20 + d.word0 % 2 ^ 20) 4) with
        | (some _, s1) => s1.ringStop r
        | (none, s1) =>
          ((s1.setRing r { s1.ring r with out := t }).setF (F.SWCH_RING_HEAD_INDEX.win r) (s1.ringNext r d.index)).ringFlush r n

/-- A descriptor ends in error (R369). -/
def State.descBad (s : State) (r i w0 : Nat) : State :=
  (s.setRing r { s.ring r with fetch := s.ringNext r i, out := (s.ring r).out ++ [⟨i, w0, 0, false, false, false, true⟩] }).raise 0x0D0 4

/-- The frames of a descriptor: one, or the segments of LSO. -/
def descFrames (b : List Byte) (lso csum : Bool) (mss hdr : Nat) : List (List Byte) :=
  if lso then
    let h := b.take hdr
    let p := b.drop hdr
    let n := (p.length + mss - 1) / mss
    ((chunks mss n p).zipIdx).map fun e => lsoSegment h mss e.2 n e.1
  else [if csum then insertSums b else b]

/-- The external ports on which a frame of port 20 would leave: those of its mask, or those that the lookup gives. -/
def State.egressPorts (s : State) (direct : Bool) (mask : Nat) (f : List Byte) : List Nat :=
  let on := if direct then (List.range 20).filter fun p => bitAt mask p || (s.inPrp p && bitAt mask (p / 2 * 4 + 1 - p))
    else s.targets 20 (frameDst f) (innerVlan f).1
  (List.range 20).filter fun p => on.elem (s.logical p) || on.elem p

/-- Process the descriptor at `fetch` (R369), whose words are `ws` and whose buffer holds `b`. -/
def State.descSend (s : State) (r i : Nat) (ws : List Nat) (b : List Byte) : State :=
  let w0 := ws.getD 0 0
  let launch := ws.getD 4 0 + ws.getD 5 0 * 2 ^ 32
  let lso := bitAt w0 28
  let frames := descFrames b lso (bitAt w0 27) (bitsOf (ws.getD 6 0) 31 16) (bitsOf (ws.getD 6 0) 15 8)
  let direct := bitAt w0 25
  let seq (k : Nat) : Option Nat := if bitAt w0 26 then some ((bitsOf (ws.getD 7 0) 31 16 + k) % 65536) else none
  let tooLong := lso && (frames.any fun f => (s.egressPorts direct (ws.getD 3 0) f).any fun p =>
    decide (s.portLimit p (frameTagged f) < f.length + (if s.inPrp p then 10 else 4)))
  if (lso && !lsoHeader (b.take (bitsOf (ws.getD 6 0) 15 8))) || tooLong then s.descBad r i w0
  else
    let (c, s1) := (frames.zipIdx).foldl (fun (a : Copies × State) e =>
      let f : EgFrame := { bytes := e.1, launch := if bitAt w0 30 ∧ e.2 = 0 then some launch else none, lateDrop := bitAt w0 24,
                           ts := if bitAt w0 29 then some (ws.getD 7 0 % 65536) else none, desc := some (r, i), ptp := none }
      let (c, t) := if direct then a.2.sendMask (ws.getD 3 0 % 2 ^ 20) r (seq e.2) f else a.2.sendLookup 20 r (seq e.2) f
      (⟨a.1.queued + c.queued, a.1.refused || c.refused⟩, t)) (({} : Copies), s)
    s1.setRing r { s1.ring r with fetch := s1.ringNext r i, out := (s1.ring r).out ++ [⟨i, w0, c.queued, false, false, c.refused, false⟩] }

/-- A descriptor is in error by its words (R367, R369). -/
def State.descError (s : State) (r : Nat) (ws : List Nat) : Bool :=
  let w0 := ws.getD 0 0
  let len := w0 % 2 ^ 19
  let lso := bitAt w0 28
  let mss := bitsOf (ws.getD 6 0) 31 16
  let hdr := bitsOf (ws.getD 6 0) 15 8
  r == 7 || decide (len < 14) || decide ((if lso then 262144 else 9596) < len) || (lso && bitAt w0 29) ||
    (lso && (decide (len ≤ hdr) || decide (hdr < 14) || decide (mss < 64) || decide (9000 < mss))) ||
    (bitAt w0 25 && ws.getD 3 0 % 2 ^ 20 == 0) ||
    (bitAt w0 30 && decide (s.taiNs + 1000000000 < ws.getD 4 0 + ws.getD 5 0 * 2 ^ 32))

/-- Read and process the descriptors handed over on a transmit ring, in ring order (R368). -/
def State.ringRun (s : State) (r : Nat) : Nat → State
  | 0 => s
  | n + 1 =>
    let i := (s.ring r).fetch
    if s.ringStopped r || i == s.ringTail r then s
    else
      let (d, s1) := s.clientRead 7 r (s.ringVa r i) 32
      if d.fault.isSome then s1.ringStop r
      else
        let ws := bytesWords d.data
        if !bitAt (ws.getD 0 0) 31 then s1
        else if s1.descError r ws then ((s1.descBad r i (ws.getD 0 0)).ringFlush r 4096).ringRun r n
        else
          let (b, s2) := s1.clientRead 7 r (ws.getD 1 0 + ws.getD 2 0 * 2 ^ 32) (ws.getD 0 0 % 2 ^ 19)
          if b.fault.isSome then s2.ringStop r
          else ((s2.descSend r i ws b.data).ringFlush r 4096).ringRun r n

/-- A ring that a fault stopped goes on (R371). -/
def State.ringResume (s : State) (r : Nat) : State :=
  let s1 := (s.setFlag (F.SWCH_RING_STAT_STOPPED.win r) false).dtuUnpause 7 r
  if r < 8 then (s1.ringFlush r 4096).ringRun r 4096
  else
    match (s1.ring r).held with
    | some x => (s1.setRing r { s1.ring r with held := none }).rxStore r x
    | none => s1

/-- The descriptor at which a ring stopped is given up with STATUS 3 (R463 ABORT), and the ring goes on. -/
def State.ringAbort (s : State) (r : Nat) : State :=
  let s1 := (s.setFlag (F.SWCH_RING_STAT_STOPPED.win r) false).dtuUnpause 7 r
  if r < 8 then
    match (s1.ring r).out with
    | ⟨i, _, 0, _, _, _, _⟩ :: t =>
      ((s1.setRing r { s1.ring r with out := t }).setF (F.SWCH_RING_HEAD_INDEX.win r) (s1.ringNext r i)).ringRun r 4096
    | _ => ((s1.descBad r (s1.ring r).fetch 0).ringFlush r 1).ringRun r 4096
  else
    (s1.setRing r { s1.ring r with held := none }).setF (F.SWCH_RING_HEAD_INDEX.win r) (s1.ringNext r (s1.ringHead r))

/-- One copy of a descriptor's frame is gone. -/
def State.descDone (s : State) (d : Option (Nat × Nat)) (late dropped : Bool) : State :=
  match d with
  | none => s
  | some (r, i) =>
    let out := (s.ring r).out.map fun x =>
      if x.index = i then { x with left := x.left - 1, late := x.late || late, dropped := x.dropped || dropped } else x
    let s1 := s.setRing r { s.ring r with out := out }
    if s1.ringStopped r then s1 else s1.ringFlush r 4096

/-! ## Timestamps (R375, R377) -/

def tsqKey (p : Nat) : Nat := 0xD1060 + 0x1000 * p

def State.tsMarkers (s : State) (p : Nat) : List Nat := Assoc.get (fun _ => []) s.sw.markers p

/-- Markers take the entries that are free (R377). -/
def State.tsRefill (s : State) (p : Nat) : State :=
  let l := s.tsMarkers p
  let free := 64 - (s.fifo (tsqKey p)).length
  let new := (l.take free).map fun id => [BitVec.ofNat 32 (0xC0000000 + id), (0 : Word), 0, 0]
  if new.isEmpty then s
  else
    { s.setFifo (tsqKey p) (s.fifo (tsqKey p) ++ new) with
      sw := { s.sw with markers := Assoc.put (fun _ => []) s.sw.markers p (l.drop free) } }.raise (emacPage p) 2

/-- The transmit stamp of a frame with TS_REQ (R377). -/
def State.tsPush (s : State) (p id stamp : Nat) : State :=
  if 64 ≤ (s.fifo (tsqKey p)).length ∨ (s.tsMarkers p) ≠ [] then
    { (s.bump (F.EMAC_TS_MISSING_COUNT p)).raise (emacPage p) 3 with
      sw := { s.sw with markers := Assoc.put (fun _ => []) s.sw.markers p (s.tsMarkers p ++ [id]) } }
  else
    let sec := stamp / 1000000000
    (s.setFifo (tsqKey p) (s.fifo (tsqKey p) ++ [[BitVec.ofNat 32 (0x80000000 + id), BitVec.ofNat 32 (stamp % 1000000000),
      BitVec.ofNat 32 sec, BitVec.ofNat 32 (s.quality * 2 ^ 24 + sec / 2 ^ 32 % 2 ^ 16)]])).raise (emacPage p) 2

/-- The signed latency corrections (R375). -/
def State.txLat (s : State) (p : Nat) : Int := toSigned 16 (s.getF (F.EMAC_TS_LAT_TX_NS p))
def State.rxLat (s : State) (p : Nat) : Int := toSigned 16 (s.getF (F.EMAC_TS_LAT_RX_NS p))

/-- A 64-bit counter of octets (R380). -/
def State.countOctets (s : State) (f : Fld) (n : Nat) : State := s.setF f ((s.getF f + n) % 2 ^ 64)

/-! ## Views (R379, R380) -/

/-- Views of the switch pages. -/
def State.viewSwitch (s : State) (key : Nat) : Option Nat :=
  let p := key / 0x1000
  let off := key % 0x1000
  if p = 0x0D0 then
    if off = 0x05C then some s.sw.atu.length
    else if off = 0x090 then some ((s.egBytes (fun _ => true) + 1023) / 1024)
    else none
  else if off = 0x070 then
    some ((s.tsMarkers (p - 0x0D1)).length * 65536 + (s.fifo (tsqKey (p - 0x0D1))).length)
  else none

end Sys2Proof.Machine
end

