-- ==== Sys2Proof/Machine/Aes.lean ====
section
/-! DEFINITION. AES-256 (FIPS 197) and Galois/Counter mode (NIST SP 800-38D) with 96-bit IVs and 128-bit tags, which
14_keys_and_tamper.md R428 and R432 name (PRESUMED from those standards; log 90). -/

namespace Sys2Proof.Machine

/-! ## AES-256 -/

/-- Multiplication by x in the field of AES. -/
def aesDouble (a : Byte) : Byte := if a.getLsbD 7 then (a <<< 1) ^^^ 0x1B else a <<< 1

/-- Product in the field of AES, over the `n` low bits of `b`. -/
def aesMul : Nat → Byte → Byte → Byte
  | 0, _, _ => 0
  | n + 1, a, b => (if b.getLsbD 0 then a else 0) ^^^ aesMul n (aesDouble a) (b >>> 1)

/-- The power a^254, the inverse of a (0 for 0). -/
def aesInverse (a : Byte) : Byte :=
  let m := aesMul 8
  let a2 := m a a; let a4 := m a2 a2; let a8 := m a4 a4; let a16 := m a8 a8
  let a32 := m a16 a16; let a64 := m a32 a32; let a128 := m a64 a64
  m (m (m a2 a4) (m a8 a16)) (m (m a32 a64) a128)

/-- The S-box. -/
def aesSub (a : Byte) : Byte :=
  let x := aesInverse a
  x ^^^ x.rotateLeft 1 ^^^ x.rotateLeft 2 ^^^ x.rotateLeft 3 ^^^ x.rotateLeft 4 ^^^ 0x63

def xorBytes (a b : List Byte) : List Byte := List.zipWith (· ^^^ ·) a b

/-- The key words after the `i`-th: each new word from the last one and the one eight before; `ws` newest first. -/
def aesExpand : Nat → Nat → Byte → List (List Byte) → List (List Byte)
  | 0, _, _, ws => ws
  | n + 1, i, rc, ws =>
    let t := ws.headD []
    let u :=
      if i % 8 = 0 then xorBytes ((t.drop 1 ++ t.take 1).map aesSub) [rc, 0, 0, 0]
      else if i % 8 = 4 then t.map aesSub
      else t
    aesExpand n (i + 1) (if i % 8 = 0 then aesDouble rc else rc) (xorBytes (ws.getD 7 []) u :: ws)

/-- The key as 4-byte words, first word last. -/
def keyWords : Nat → List Byte → List (List Byte)
  | 0, _ => []
  | n + 1, l => keyWords n (l.drop 4) ++ [l.take 4]

/-- The 15 round keys. -/
def aesSchedule (key : List Byte) : List (List Byte) :=
  let ws := (aesExpand 52 8 1 (keyWords 8 key)).reverse
  (List.range 15).map fun r => ((ws.drop (4 * r)).take 4).flatten

/-- ShiftRows on a block, column by column. -/
def aesShift (b : List Byte) : List Byte := (List.range 16).map fun i => b.getD ((i / 4 + i % 4) % 4 * 4 + i % 4) 0

/-- MixColumns. -/
def aesMix (b : List Byte) : List Byte :=
  (List.range 16).map fun i =>
    let x (k : Nat) : Byte := b.getD (i / 4 * 4 + (i + k) % 4) 0
    aesDouble (x 0) ^^^ (aesDouble (x 1) ^^^ x 1) ^^^ x 2 ^^^ x 3

/-- AES-256 encryption of one block with expanded round keys. -/
def aesBlock (ks : List (List Byte)) (b : List Byte) : List Byte :=
  let s := (ks.drop 1).take 13 |>.foldl (fun b k => xorBytes (aesMix (aesShift (b.map aesSub))) k) (xorBytes b (ks.headD []))
  xorBytes (aesShift (s.map aesSub)) (ks.getD 14 [])

/-! ## Galois/Counter mode -/

/-- Bytes as a big-endian number. -/
def beNat (l : List Byte) : Nat := l.foldl (fun a b => a * 256 + b.toNat) 0

/-- The big-endian bytes of a number. -/
def natBytes : Nat → Nat → List Byte
  | 0, _ => []
  | n + 1, v => natBytes n (v / 256) ++ [BitVec.ofNat 8 v]

/-- The product of GHASH, over the `n` top bits of `x` not yet taken. -/
def ghashMul : Nat → BitVec 128 → BitVec 128 → BitVec 128 → BitVec 128
  | 0, _, _, z => z
  | n + 1, x, v, z =>
    ghashMul n (x <<< 1) (if v.getLsbD 0 then (v >>> 1) ^^^ (0xE1#128 <<< 120) else v >>> 1)
      (if x.getLsbD 127 then z ^^^ v else z)

/-- GHASH over the whole 16-byte blocks of a list; `n` bounds the blocks. -/
def ghash (h : BitVec 128) : Nat → List Byte → BitVec 128 → BitVec 128
  | 0, _, y => y
  | n + 1, l, y =>
    if l.isEmpty then y
    else ghash h n (l.drop 16) (ghashMul 128 (y ^^^ BitVec.ofNat 128 (beNat (l.take 16))) h 0)

/-- Zero-pad to whole blocks. -/
def padBlock (l : List Byte) : List Byte := l ++ List.replicate ((16 - l.length % 16) % 16) 0

/-- Counter-mode encryption from counter `c`; `n` bounds the blocks. -/
def gcmStream (ks : List (List Byte)) (iv : List Byte) : Nat → Nat → List Byte → List Byte
  | 0, _, _ => []
  | n + 1, c, l =>
    if l.isEmpty then []
    else xorBytes (l.take 16) (aesBlock ks (iv ++ natBytes 4 c)) ++ gcmStream ks iv n (c + 1) (l.drop 16)

/-- The tag of a ciphertext. -/
def gcmTag (ks : List (List Byte)) (iv aad ct : List Byte) : List Byte :=
  let h := BitVec.ofNat 128 (beNat (aesBlock ks (List.replicate 16 0)))
  let data := padBlock aad ++ padBlock ct ++ natBytes 8 (8 * aad.length) ++ natBytes 8 (8 * ct.length)
  xorBytes (natBytes 16 (ghash h data.length data 0).toNat) (aesBlock ks (iv ++ [0, 0, 0, 1]))

/-- AES-256-GCM encryption: the ciphertext with its tag behind it. -/
def gcmSeal (key iv aad pt : List Byte) : List Byte :=
  let ks := aesSchedule key
  let ct := gcmStream ks iv pt.length 2 pt
  ct ++ gcmTag ks iv aad ct

/-- AES-256-GCM decryption of a ciphertext with its tag: none where the tag fails. -/
def gcmOpen (key iv aad sealed_ : List Byte) : Option (List Byte) :=
  let n := sealed_.length - 16
  let ks := aesSchedule key
  let ct := sealed_.take n
  if sealed_.length < 16 ∨ gcmTag ks iv aad ct ≠ sealed_.drop n then none else some (gcmStream ks iv ct.length 2 ct)

end Sys2Proof.Machine
end

