-- ==== Sys2Proof/Machine/P256.lean ====
section
/-! DEFINITION. The curve P-256, ECDSA with SHA-256 and ECDH (FIPS 186-5, NIST SP 800-186), which 14_keys_and_tamper.md R424,
R428 and R440 name (PRESUMED from those standards; log 90). -/

namespace Sys2Proof.Machine

def p256P : Nat := 0xFFFFFFFF00000001000000000000000000000000FFFFFFFFFFFFFFFFFFFFFFFF
def p256N : Nat := 0xFFFFFFFF00000000FFFFFFFFFFFFFFFFBCE6FAADA7179E84F3B9CAC2FC632551
def p256B : Nat := 0x5AC635D8AA3A93E7B3EBBD55769886BC651D06B0CC53B0F63BCE3C3E27D2604B
def p256G : Nat × Nat :=
  (0x6B17D1F2E12C4247F8BCE6E563A440F277037D812DEB33A0F4A13945D898C296,
   0x4FE342E2FE1A7F9B8EE7EB4A7C0F9E162BCE33576B315ECECBB6406837BF51F5)

/-- A power modulo `m`; `n` bounds the exponent's bits. -/
def powMod (m : Nat) : Nat → Nat → Nat → Nat → Nat
  | 0, _, _, acc => acc
  | n + 1, b, e, acc => powMod m n (b * b % m) (e / 2) (if e % 2 = 1 then acc * b % m else acc)

/-- The inverse modulo a 256-bit prime. -/
def invMod (m a : Nat) : Nat := powMod m 256 (a % m) (m - 2) 1

/-- A point lies on the curve. -/
def onCurve (q : Nat × Nat) : Bool :=
  decide (q.1 < p256P) && decide (q.2 < p256P) &&
    q.2 * q.2 % p256P == (q.1 * q.1 * q.1 + (p256P - 3) * q.1 + p256B) % p256P

/-- The line through a point with a slope: its third point. -/
def chord (l : Nat) (q r : Nat × Nat) : Nat × Nat :=
  let x := (l * l + 2 * p256P - q.1 - r.1) % p256P
  (x, (l * (q.1 + p256P - x) + p256P - q.2) % p256P)

/-- The sum of two points; none is the point at infinity. -/
def ecAdd : Option (Nat × Nat) → Option (Nat × Nat) → Option (Nat × Nat)
  | none, r => r
  | q, none => q
  | some q, some r =>
    if q.1 = r.1 then
      if (q.2 + r.2) % p256P = 0 then none
      else some (chord ((3 * q.1 * q.1 + p256P - 3) * invMod p256P (2 * q.2) % p256P) q r)
    else some (chord ((r.2 + p256P - q.2) * invMod p256P (r.1 + p256P - q.1) % p256P) q r)

/-- `k` times a point; `n` bounds the bits of `k`. -/
def ecMul : Nat → Nat → Option (Nat × Nat) → Option (Nat × Nat)
  | 0, _, _ => none
  | n + 1, k, q =>
    let r := ecMul n (k / 2) (ecAdd q q)
    if k % 2 = 1 then ecAdd q r else r

/-- x ‖ y, 64 bytes, most significant byte first. -/
def pointBytes (q : Option (Nat × Nat)) : List Byte :=
  let r := q.getD (0, 0)
  natBytes 32 r.1 ++ natBytes 32 r.2

def pointOf (l : List Byte) : Nat × Nat := (beNat (l.take 32), beNat ((l.drop 32).take 32))

/-- The public key of a private key. -/
def ecPublic (d : List Byte) : List Byte := pointBytes (ecMul 256 (beNat d) (some p256G))

/-- The shared x-coordinate of ECDH. -/
def ecdh (d pub : List Byte) : List Byte :=
  natBytes 32 ((ecMul 256 (beNat d) (some (pointOf pub))).getD (0, 0)).1

/-- r ‖ s of ECDSA with nonce `k`. -/
def ecdsaSign (d msg : List Byte) (k : Nat) : List Byte :=
  let r := ((ecMul 256 k (some p256G)).getD (0, 0)).1 % p256N
  natBytes 32 r ++ natBytes 32 (invMod p256N k * (beNat (sha256 msg) + r * beNat d) % p256N)

/-- The signature r ‖ s on a message is good under a public key. -/
def ecdsaVerify (pub msg sig : List Byte) : Bool :=
  let (r, s) := pointOf sig
  let w := invMod p256N s
  let q := ecAdd (ecMul 256 (beNat (sha256 msg) * w % p256N) (some p256G)) (ecMul 256 (r * w % p256N) (some (pointOf pub)))
  onCurve (pointOf pub) && decide (0 < r ∧ r < p256N ∧ 0 < s ∧ s < p256N) &&
    match q with
    | some v => v.1 % p256N == r
    | none => false

end Sys2Proof.Machine
end

