-- ==== Sys2Proof/Machine/KeyOps.lean ====
section
/-! DEFINITION. The key store (14_keys_and_tamper.md R418 to R438): slots and their checks, derivation, the fixed slots,
consumers, blobs, and the completion of a command. -/

namespace Sys2Proof.Machine

/-! ## Slots (R422, R423, R429) -/

def State.slot (s : State) (k : Nat) : Option KeySlot := Assoc.get (fun _ => none) s.keys.slots k

def State.setSlot (s : State) (k : Nat) (v : Option KeySlot) : State :=
  { s with keys := { s.keys with slots := Assoc.put (fun _ => none) s.keys.slots k v } }

/-- The bit of the current state in an LC field: none in BLANK and SCRAP (R422). -/
def State.lcBit (s : State) : Nat :=
  match s.lifeCycle with
  | .provision => 1
  | .field => 2
  | .returned => 4
  | .blank | .scrap => 0

/-- The key may be used in the current state: a fixed slot in every one (R423; log 92). -/
def State.lcAllows (s : State) (k : KeySlot) : Bool := k.origin == 0 || (k.lc &&& s.lcBit) != 0

/-- The flags a TYPE allows (R422). -/
def usageAllowed (type : Nat) : Nat :=
  match type with
  | 1 => 0x030E
  | 2 => 0x1F11
  | 3 => 0x03E0
  | 4 => 0x0240
  | _ => 0

/-- Why a key may not be used for flag bit `flag` (R429): slot empty, usage, life-cycle state. -/
def State.useErrors (s : State) (k : Nat) (flag : Option Nat) : List (Bool × Nat) :=
  match s.slot k with
  | none => [(true, 2)]
  | some x => [(match flag with
      | some f => !bitAt x.usage f
      | none => false, 3), (!s.lcAllows x, 4)]

/-- Why a new slot may not be made under a parent (R422): in use, type, flags, LC, depth. -/
def State.newErrors (s : State) (k parent type usage lc : Nat) : List (Bool × Nat) :=
  let p := s.slot parent
  let plc := match p with
    | some x => x.lc
    | none => 0
  let pd := match p with
    | some x => x.depth
    | none => 0
  [((s.slot k).isSome, 1), (decide (type = 0 ∨ 4 < type), 3), (usage % 8192 &&& usageAllowed type != usage % 8192, 3),
   (lc &&& plc != lc, 4), (decide (7 ≤ pd), 5)]

/-- The first error of a list of checks. -/
def firstError (l : List (Bool × Nat)) : Option Nat := (l.find? (·.1)).map (·.2)

/-- A slot made under `parent`. -/
def State.newSlot (s : State) (parent type usage lc origin : Nat) (secret pub : List Byte) : KeySlot :=
  ⟨type, parent, (match s.slot parent with
    | some p => p.depth + 1
    | none => 1), usage, lc, origin, secret, pub⟩

/-- The slots below a slot in the tree, itself included (R425): a tree of at most seven levels. -/
def State.subtree (s : State) (k : Nat) : List Nat :=
  let step (l : List Nat) : List Nat :=
    (s.keys.slots.filter fun e => match e.2 with
      | some x => l.elem e.1 || (l.elem x.parent && e.1 != x.parent)
      | none => false).map (·.1)
  (List.range 7).foldl (fun l _ => step l) [k]

/-! ## Derivation (R424) -/

/-- The first candidate that is a private key. -/
def deriveEc (key label : List Byte) : Nat → Nat → List Byte
  | 0, _ => []
  | n + 1, i =>
    let c := hmac256 key (label ++ [BitVec.ofNat 8 i])
    if 1 ≤ beNat c ∧ beNat c < p256N then c else deriveEc key label n (i + 1)

/-- The child key of a parent's secret and a label. -/
def deriveKey (type : Nat) (key label : List Byte) : List Byte :=
  if type = 3 then deriveEc key label 255 1 else hmac256 key (label ++ [1])

/-- The public key that goes with a secret of a type. -/
def pubOf (type : Nat) (secret : List Byte) : List Byte := if type = 3 then ecPublic secret else []

/-! ## Consumers (R426, R427) -/

/-- The key a consumer may have from a slot: VALID, its flag, the current state. -/
def State.usableKey (s : State) (k flag : Nat) : Option (List Byte) :=
  match s.slot k with
  | some x => if bitAt x.usage flag && s.lcAllows x then some x.secret else none
  | none => none

/-- Revoke the radio's copy (event 4). -/
def State.revokeRadio (s : State) : State :=
  if s.keys.kRadio.isNone then s
  else { s with keys := { s.keys with kRadio := none } }.raise 0x100 4

def State.revokeCasc (s : State) : State :=
  if s.keys.kCasc.isNone then s
  else { s with keys := { s.keys with kCasc := none } }.raise 0x100 4

/-- Deliver the key of the slot a consumer names, while it is usable (R426): it takes the place of a copy kept from before. -/
def State.keyDeliver (s : State) : State :=
  let r := s.getF F.RADIO_KEY_LINK_SLOT
  let c := s.getF F.CASC_NET_KEY_SLOT
  let s1 :=
    match s.usableKey r 10 with
    | some k => { s with keys := { s.keys with kRadio := some k, kRadioSlot := r } }
    | none => s
  match s1.usableKey c 11 with
  | some k => { s1 with keys := { s1.keys with kCasc := some k, kCascSlot := c } }
  | none => s1

/-- A consumer's register has been written: a copy from another slot is revoked, and the named slot's key is delivered. -/
def State.keySelect (s : State) : State :=
  let s1 := if s.keys.kRadioSlot = s.getF F.RADIO_KEY_LINK_SLOT then s else s.revokeRadio
  let s2 := if s1.keys.kCascSlot = s1.getF F.CASC_NET_KEY_SLOT then s1 else s1.revokeCasc
  s2.keyDeliver

/-- Empty slots, revoking the copies that came from them. -/
def State.emptySlots (s : State) (l : List Nat) : State :=
  let s1 := l.foldl (fun s k => s.setSlot k none) s
  let s2 := if l.elem s1.keys.kRadioSlot then s1.revokeRadio else s1
  if l.elem s2.keys.kCascSlot then s2.revokeCasc else s2

/-! ## The root (R418 to R421, R423) -/

/-- Make slots 0 to 2 from K_puf and SEED. -/
def State.makeFixed (s : State) : State :=
  let root := hmac256 (natBytes 32 (Config.pufKey s.rst.otp.helper)) (natBytes 32 s.rst.otp.seed)
  let idk := deriveKey 3 root [0x49, 0x44, 0x4B]
  ((s.setSlot 0 (some ⟨2, 0, 0, 1, 7, 0, root, []⟩)).setSlot 1 (some ⟨3, 0, 1, 0x20, 7, 0, idk, ecPublic idk⟩)).setSlot 2
    (some ⟨1, 0, 1, 2, 7, 0, deriveKey 1 root [0x42, 0x4C, 0x42], []⟩)

/-- Regenerate the root, or enrol the array at the first start in BLANK; `fails` says that all three attempts failed. -/
def State.rootStart (s : State) (fails : Bool) : State :=
  let o := s.rst.otp
  let failed : State := { s with keys := { s.keys with rootFail := true } }
  let good (s : State) (bank : Nat) (now : Bool) : State :=
    ({ s with keys := { s.keys with rootOk := true, enrolled := now, pufBank := bank } }.makeFixed)
  let enrol (bank : Nat) : State :=
    let (helper, s1) := s.fresh (2 ^ 256)
    let (seed, s2) := s1.fresh (2 ^ 256)
    let o1 := if bank = 0 then { o with puf0 := 2 } else { o with puf1 := 2 }
    good { s2 with rst := { s2.rst with otp := { o1 with helper := helper, seed := seed } } } bank true
  if o.puf0 = 2 then (if fails then failed else good s 0 false)
  else if o.puf1 = 2 then (if fails then failed else good s 1 false)
  else if s.lifeCycle != .blank then failed
  else if o.puf0 = 0 then enrol 0
  else if o.puf1 = 0 then enrol 1
  else failed

/-! ## Random values (R430) -/

/-- `n` bytes of the random source: free values. -/
def State.randBytes (s : State) : Nat → List Byte × State
  | 0 => ([], s)
  | n + 1 =>
    let (v, s1) := s.fresh 256
    let (l, s2) := s1.randBytes n
    (BitVec.ofNat 8 v :: l, s2)

/-! ## Blobs (R431 to R435) -/

/-- An entry of a general blob (R432). -/
def blobEntryBytes (k : Nat) (x : KeySlot) : List Byte :=
  let key := if x.type = 4 then x.pub else x.secret
  bytesLE (x.parent * 0x10000 + k) 4 ++ bytesLE (x.type * 0x10000000 + x.lc * 0x2000000 + x.usage) 4 ++ List.replicate 8 0 ++
    (key ++ List.replicate 64 0).take 64

/-- An entry read back: slot, parent, type, LC, usage, and the key. -/
structure BlobEntry where
  slot   : Nat
  parent : Nat
  type   : Nat
  lc     : Nat
  usage  : Nat
  key    : List Byte

def entryOf (l : List Byte) : BlobEntry :=
  let w0 := leValue (l.take 4)
  let w1 := leValue ((l.drop 4).take 4)
  ⟨w0 % 1024, bitsOf w0 25 16, bitsOf w1 31 28, bitsOf w1 27 25, bitsOf w1 15 0, (l.drop 16).take (if bitsOf w1 31 28 = 4 then 64 else 32)⟩

/-- The slot that an entry makes under a parent. -/
def State.slotOfEntry (s : State) (parent : Nat) (e : BlobEntry) : KeySlot :=
  s.newSlot parent e.type e.usage e.lc 3 (if e.type = 4 then [] else e.key) (if e.type = 4 then e.key else pubOf e.type e.key)

/-- The blob key (slot 2). -/
def State.blobKey (s : State) : List Byte :=
  match s.slot 2 with
  | some x => x.secret
  | none => []

/-- A sealed blob of a kind over a body, with IV `iv` (R432). -/
def State.blobBytes (s : State) (kind entries counter : Nat) (iv body : List Byte) : List Byte :=
  let head := bytesLE (0xE2010000 + kind * 0x1000 + entries) 4 ++ bytesLE counter 4 ++ bytesLE (48 + body.length) 4 ++ bytesLE 0 4 ++
    iv ++ bytesLE 0 4
  head ++ gcmSeal s.blobKey iv head body

/-- A kind's counter in OTP, and its setting. -/
def State.blobCtr (s : State) (kind : Nat) : Nat := if kind = 1 then s.rst.otp.ctrG else s.rst.otp.ctrP

def State.setBlobCtr (s : State) (kind v : Nat) : State :=
  { s with rst := { s.rst with otp := if kind = 1 then { s.rst.otp with ctrG := v } else { s.rst.otp with ctrP := v } } }

/-- Bytes of boot flash. -/
def State.flashBytes (s : State) (a : Nat) : Nat → List Byte
  | 0 => []
  | n + 1 => s.flashByte a :: s.flashBytes (a + 1) n

/-- A blob in flash slot `x` of a kind that passes MARK, KIND, LENGTH and tag: its COUNTER and its body (R434). -/
def State.readBlob (s : State) (kind x : Nat) : Option (Nat × List Byte) :=
  let base := s.getF F.KEY_BLOB_BASE_ADDR * 0x40000 + (2 * (kind - 1) + x) * 0x10000
  let w0 := s.flashLE base 4
  let entries := w0 % 4096
  let body := if kind = 1 then 80 * entries else 128
  if bitsOf w0 31 24 ≠ 0xE2 ∨ bitsOf w0 15 12 ≠ kind ∨ s.flashLE (base + 8) 4 ≠ 48 + body ∨ 768 < entries ∨
      (kind = 2 ∧ entries ≠ 0) then none
  else
    match gcmOpen s.blobKey (s.flashBytes (base + 0x10) 12) (s.flashBytes base 32) (s.flashBytes (base + 32) (body + 16)) with
    | some b => some (s.flashLE (base + 4) 4, b)
    | none => none

/-- The flash slot that LOAD_BLOB takes: of the valid blobs at the counter or one above, the one with the highest COUNTER
(R435); equal ones, slot A. -/
def State.chooseBlob (s : State) (kind : Nat) : Option (Nat × Nat × List Byte) :=
  let ctr := s.blobCtr kind
  let ok (x : Nat) : Option (Nat × Nat × List Byte) :=
    match s.readBlob kind x with
    | some (c, b) => if c = ctr ∨ c = ctr + 1 then some (x, c, b) else none
    | none => none
  match ok 0, ok 1 with
  | some a, some b => some (if a.2.1 < b.2.1 then b else a)
  | some a, none => some a
  | none, b => b

/-- The slots that a general blob's entries fill, in their order (R435): `s` carries the ones already filled. -/
def loadEntries : Nat → List Byte → State → List (Nat × KeySlot) → List (Nat × KeySlot)
  | 0, _, _, acc => acc
  | n + 1, l, s, acc =>
    if l.length < 80 then acc
    else
      let e := entryOf (l.take 80)
      if (e.lc &&& s.lcBit) = 0 ∨ (s.slot e.slot).isSome ∨ (s.slot e.parent).isNone then loadEntries n (l.drop 80) s acc
      else
        let x := s.slotOfEntry e.parent e
        loadEntries n (l.drop 80) (s.setSlot e.slot (some x)) (acc ++ [(e.slot, x)])

/-- The words of a Poppy blob's configuration, and its two keys (R436). -/
def poppyBody (b : List Byte) : List Nat × List Byte × List Byte :=
  ((List.range 13).map fun i => leValue ((b.drop (4 * i)).take 4), (b.drop 52).take 32, (b.drop 84).take 32)

/-- LOAD_BLOB (R435, R438). -/
def State.loadBlob (s : State) (kind : Nat) : KeyWork :=
  match s.chooseBlob kind with
  | none => { op := 0x15, uses := [2], result := 11 }
  | some (x, c, b) =>
    if kind = 1 then { op := 0x15, uses := [2], fill := loadEntries 768 b s [], blob := some (1, c, x) }
    else
      let p := poppyBody b
      { op := 0x15, uses := [2], blob := some (2, c, x), config := some p.1, poppy := some p.2 }

/-! ## Commands (R428) -/

/-- A buffer that the key store reads through the translation unit: none at a fault or an uncorrectable word. -/
def State.keyRead (s : State) (index va n : Nat) : Option (List Byte) × State :=
  let (r, s1) := s.clientRead 8 index va n
  (if r.fault.isSome || r.bad then none else some r.data, s1)

/-- The output is written whole or not at all: the cause of a fault, or none. -/
def State.keyWrite (s : State) (index va : Nat) (l : List Byte) : Option Nat × State :=
  match s.clientProbe 8 index (l.length / 0x1000 + 2) va l.length with
  | (some c, s1) => (some c, s1)
  | (none, s1) => s1.clientWrite 8 index va l

/-- The effect of a completed command. -/
def State.keyApply (s : State) (w : KeyWork) : State :=
  let s1 := w.fill.foldl (fun (s : State) e => s.setSlot e.1 (some e.2)) (s.emptySlots w.empty)
  let s2 :=
    match w.blob with
    | some (k, c, x) =>
      let s2 := s1.setBlobCtr k c
      { s2 with keys := if k = 1 then { s2.keys with gCur := x, gValid := true } else { s2.keys with pCur := x, pValid := true } }
    | none => s1
  let s3 :=
    match w.poppy with
    | some k => { s2 with poppy := { s2.poppy with keys := some k, loaded := s2.poppy.loaded || w.config.isSome } }
    | none => s2
  let s4 := match w.config with
    | some words => s3.poppyAdopt words
    | none => if w.poppy.isSome then s3.poppyEval else s3
  s4.keyDeliver

/-- A command completes (R428, R446, R449): RESULT, OUT_LEN, OPS and an event; outputs and slots where RESULT is 0. -/
def State.keyDone (s : State) (w : KeyWork) : State :=
  let (r, n, s1) :=
    match w.out with
    | some (a, l) =>
      if w.result = 0 then
        match s.keyWrite 0 a l with
        | (some _, s1) => (14, 0, s1)
        | (none, s1) => (0, l.length, s1)
      else (w.result, 0, s)
    | none => (w.result, 0, s)
  let s2 := { s1 with keys := { s1.keys with work := none, result := r, outLen := n,
                                              drbgOk := s1.keys.drbgOk || (w.op == 0x12 && r == 0) } }
  let s3 := if r = 0 then s2.keyApply w else s2
  (s3.bump F.KEY_OPS_COUNT).raise 0x100 (if r = 0 then 0 else 1)

/-- A command in progress is aborted with a result and its output withheld. -/
def State.keyAbort (s : State) (result : Nat) : State :=
  match s.keys.work with
  | some w => s.keyDone { op := w.op, result := result }
  | none => s

/-- Commands that need randomness (R430). -/
def needsRandom (op : Nat) : Bool := [0x02, 0x05, 0x08, 0x0D, 0x0F, 0x11, 0x13, 0x16].elem op

/-- Commands that need a key (R419): all but INVALIDATE, the digests, RANDOM and RESEED. -/
def needsKey (op : Nat) : Bool := !([0x07, 0x0B, 0x0C, 0x11, 0x12].elem op)

/-- The checks that every command passes first: locked, root unavailable, random source (R419, R430, R443). -/
def State.commandErrors (s : State) (op : Nat) : List (Bool × Nat) :=
  [(s.keys.lock, 12), (s.keys.rootFail && needsKey op, 13), (needsRandom op && !s.keys.drbgOk, 9)]

end Sys2Proof.Machine
end

