-- ==== Sys2Proof/Machine/TampOps.lean ====
section
/-! DEFINITION. Tamper response (14_keys_and_tamper.md R441 to R445), measurements and statements (R439, R440). -/

namespace Sys2Proof.Machine

/-! ## Measurements (R439) -/

/-- Fold 48 bytes into measurement register `i`. -/
def State.extend (s : State) (i : Nat) (l : List Byte) : State :=
  { s with att := { s.att with meas := s.att.meas.set i (sha384 (s.att.meas.getD i [] ++ l)) } }

/-- End an attestation command. -/
def State.attestEnd (s : State) (result : Nat) : State :=
  { s with att := { s.att with result := result, statement := none } }.raise 0x102 (if result = 0 then 0 else 1)

/-- The bytes of a statement that the signature covers (R440); `chain` is already padded. -/
def State.statementBody (s : State) (chainLen : Nat) (chain nonce : List Byte) : List Byte :=
  let w0 := 0xE1010000 + s.getF ⟨0x004, 7, 0⟩ * 0x100 + s.lifeCycle.code * 0x20 + s.poppyUnit * 0x10 + s.poppyMember
  let len := 560 + chain.length + 64
  bytesLE w0 4 ++ bytesLE len 4 ++ bytesLE (chainLen * 0x10000 + s.quality * 0x100 + bit (!s.tamp.log.isEmpty)) 4 ++
    bytesLE s.poppy.a.crc 4 ++ bytesLE s.taiSec 8 ++ bytesLE s.taiNsec 4 ++ bytesLE 0 4 ++ nonce ++
    s.att.meas.flatten ++
    (match s.slot 1 with
      | some x => x.pub
      | none => []) ++ chain

/-! ## The tamper log (R444) -/

/-- The words of a log entry. -/
def logWords (e : Nat × Nat × Nat) : List Nat := [0x80000000 + e.1 * 0x10000000 + e.2.1 * 0x4000000, e.2.2 % 2 ^ 32]

/-- Store the log, which lies in retained SRAM at 0x0802_F000 (R452). -/
def State.setTampLog (s : State) (l : List (Nat × Nat × Nat)) : State :=
  { s with tamp := { s.tamp with log := l } }.storeWords 0x0802F000 (l.flatMap logWords ++ List.replicate (32 - 2 * l.length) 0)

/-- The phase of a detection (R442): start-up, run, sleep. -/
def State.tamperPhase (s : State) : Nat :=
  if !s.rst.hostOpen then 0 else if s.pwr.state == .snowdrop then 2 else 1

/-- Log a detection: a full log sets OVF; event 1 when the log becomes full. -/
def State.tampLog (s : State) (source : Nat) : State :=
  if 16 ≤ s.tamp.log.length then { s with tamp := { s.tamp with ovf := true } }
  else
    let s1 := s.setTampLog (s.tamp.log ++ [(source, s.tamperPhase, if s.quality = 0 then 0 else s.taiSec)])
    if s1.tamp.log.length = 16 then s1.raise 0x101 1 else s1

/-! ## The wipe (R443) -/

/-- Commands and statements are aborted, slots and root zeroised, copies revoked, TAMPER_LOCK set. An OTP increment that a
command would make may already have started: whether it has is left free. -/
def State.keyWipe (s : State) : State :=
  let (started, s1) :=
    match s.keys.work with
    | some w => if w.result = 0 && w.blob.isSome then s.fresh 2 else (0, s)
    | none => (0, s)
  let s2 :=
    match s.keys.work with
    | some w =>
      match w.blob with
      | some (k, c, _) => if started = 1 then s1.setBlobCtr k c else s1
      | none => s1
    | none => s1
  let s3 := s2.keyAbort 7
  let s4 := if s3.att.statement.isSome then s3.attestEnd 4 else s3
  let s5 := { s4 with keys := { s4.keys with slots := [], rootOk := false, lock := true } }
  (s5.revokeRadio.revokeCasc).raise 0x100 3

end Sys2Proof.Machine
end

