-- ==== Sys2Proof/Machine/ResetOps.lean ====
section
/-! DEFINITION. Resets: of one page (02_register_pages.md R40, R561, R562), of one plane, of the device (18_reset_and_lifecycle.md R510
to R514), and what becomes of the pages that lose their state in Snowdrop (17_clocks_and_power.md R501). -/

namespace Sys2Proof.Machine

/-! ## Registers -/

/-- What returns registers to their reset values: a SOFT_RESET, a plane reset, a wake from Snowdrop without retention. -/
inductive ResetKind where
  | soft | plane | sleep
  deriving DecidableEq, Repr

/-- Register words that tell of what a page's reset does not reach: the state of pins and clocks and the nonce (R507, R529, R530), the
LPDDR5 settings but at a SOFT_RESET (R472), measurement locks (R439), the stored tables of the site map and the registers of queues 62
and 63 (R562), RX_STATE of a receiver that sleeps through Snowdrop (R91; log 106). -/
def State.lastingWord (s : State) (kind : ResetKind) (p off : Nat) : Bool :=
  if p = 0x000 then off == 0x04C || (decide (0x060 ≤ off) && decide (off < 0x080))
  else if p = 0x001 then off == 0x040 || off == 0x04C
  else if p = 0x003 then off == 0x044
  else if p = 0x008 then kind != .soft && (off == 0x138 || off == 0x13C)
  else if p = 0x054 then kind == .sleep && off == 0x068 && s.rxAsleep
  else if p = 0x03F then decide (0x080 ≤ off) && decide (off < 0x0C0)
  else if p = 0x080 then
    off == 0x044 || off == 0x08C || off == 0x0CC ||
      (s.getF F.ZONE_STAT_USED != 0 && ((decide (0x048 ≤ off) && decide (off < 0x060)) || off == 0x084 ||
        (decide (0x100 ≤ off) && decide (off < 0x144))))
  else if p = 0x081 then off == 0x050
  else if p = 0x102 then off == 0x048
  else false

/-- The bits of a register word that a reset keeps: LOCK but at a plane reset (R44); RW/L fields at a wake, and at a SOFT_RESET while
LOCK is 1 (R40, R501). -/
def State.keptBits (s : State) (kind : ResetKind) (key : Nat) : Nat :=
  let p := plainKey key / 0x1000
  let off := plainKey key % 0x1000
  if s.lastingWord kind p off then allBits
  else
    let rwl := match regAt key with
      | some (r, w) => accessMask w (· == .rwl) r.fields
      | none => 0
    match kind with
    | .plane => 0
    | .soft => (if off = 0x008 then 0x80000000 else 0) ||| (if s.flag (F.PG_CTRL_LOCK p) then rwl else 0)
    | .sleep => (if off = 0x008 then 0x80000000 + bit (p == 0x054 && s.rxAsleep) else if off = 0x00C then 16 else 0) ||| rwl

/-- Return the registers and logs of the pages `ok` to their reset values. -/
def State.resetPages (s : State) (kind : ResetKind) (ok : Nat → Bool) : State :=
  let f (k : Nat) (v : Word) : Word :=
    if ok (plainKey k / 0x1000) then
      let keep := s.keptBits kind k
      BitVec.ofNat 32 ((v.toNat &&& keep) ||| ((resetWord k).toNat &&& (allBits - keep)))
    else v
  { s with regs := Assoc.mapVals resetWord f s.regs, fifos := s.fifos.filter (fun e => !ok (plainKey e.1 / 0x1000)),
           lines := s.lines.filter fun e => !ok e.1 }

/-! ## Work in progress -/

/-- Held mailbox writes of some writers end without being queued and are not counted. -/
def State.dropHeld (s : State) (ok : Writer → Bool) : State :=
  { s with mbox := Assoc.mapVals (fun _ => {}) (fun _ q => { q with held := q.held.filter fun h => !ok h.writer }) s.mbox }

/-- The blocks whose held writes end with the work of a page. -/
def pageBlocks (p : Nat) : List Block :=
  if p = 0x055 then [.receiver] else if p = 0x060 then [.solver] else if p = 0x071 then [.formatter]
  else if 0x090 ≤ p ∧ p ≤ 0x092 then [.planner] else if p = 0x0A0 then [.seg] else if p = 0x0B0 then [.radio]
  else if 0x020 ≤ p ∧ p ≤ 0x023 then [.dispatch] else if p = 0x0F0 ∨ p = 0x0F1 then [.pair]
  else if p = 0x0D0 then [.switch] else if p = 0x100 then [.keyStore]
  else if 0x010 ≤ p ∧ p ≤ 0x017 then [.dma (2 * (p - 0x010)), .dma (2 * (p - 0x010) + 1)] else []

def blockIs (l : List Block) : Writer → Bool
  | .blk c => l.elem c
  | .ini _ => false

/-- Clients of the translation unit lose their pauses. -/
def State.unpauseAll (s : State) (ok : Nat → Nat → Bool) : State :=
  { s with mem := { s.mem with dtuPaused := s.mem.dtuPaused.filter fun e => !ok e.1 e.2 } }

/-- Discard the work of a page of the translation unit or the DMA engine. -/
def State.discardMem (s : State) (p : Nat) : State :=
  if p < 0x010 then
    let c := p - 0x008
    { s with mem := { s.mem with dtuInval := s.mem.dtuInval.filter (fun e => e.1 != c),
                                 dtuCache := s.mem.dtuCache.filter (fun e => e.ctx != c) } }
  else
    let mine (c : Nat) : Bool := c / 2 == p - 0x010
    ({ s with mem := { s.mem with dma := s.mem.dma.filter (fun e => !mine e.1),
                                  dmaRunning := s.mem.dmaRunning.filter fun c => !mine c } }).unpauseAll fun k i => k == 0 && mine i

/-- Discard the work of a page of the dispatch engine; threads run on cores, so both go together. -/
def State.discardSched (s : State) (p : Nat) : State :=
  let e := s.sched
  if p = 0x020 then { s with sched := {} }
  else if p = 0x021 then { s with sched := { e with threads := [], ready := [], cores := [], thrRes := 0 } }
  else if p = 0x022 then { s with sched := { e with items := [], waiting := [], subRes := 0, subHand := 0 } }
  else if p = 0x023 then { s with sched := { e with jobs := [], asks := [], jobRes := 0, jobHand := 0, cmdRes := 0 } }
  else { s with sched := { e with wptr := 0, seq := 0 } }

/-- Discard the work of a receiver page. -/
def State.discardGnss (s : State) (p : Nat) : State :=
  let g := s.gnss
  if p ≤ 0x053 then s
  else if p = 0x054 then
    let s1 := s.rxOff
    { s1 with gnss := { s1.gnss with chans := [], queue := [], startAt := 0, loops := [0x3C3228C0, 0x3C3228C0] } }
  else if p = 0x055 then { s with gnss := { g with pending := none, reorder := false, baseSets := [] } }
  else { s with gnss := { g with ibMean := [], doaInts := [], doaSkip := none, spoofRun := 0, jumpRun := 0, lastClk := none,
                                 jumpSeen := none } }

/-- Discard the work of a page of the fix engine. What a machine has committed stays known (R126). -/
def State.discardSolv (s : State) (p : Nat) : State :=
  if p = 0x060 then
    { s with solv := { s.solv with machines := Assoc.mapVals (fun _ => {}) (fun _ m => ({ epoch := m.epoch } : SolvMachine)) s.solv.machines,
                                   queue := [], expired := [], pairs := [], cmd := none } }.unpauseAll fun k _ => k == 2
  else if p = 0x071 then { s with solv := { s.solv with corr := [], station := none } }
  else
    let n := p - 0x061
    ((s.setCtx n 0 noCtx).setCtx n 1 noCtx).unpauseAll fun k i => k == 1 && i / 2 == n

/-- Discard the work of a planner page; the reservation store and the plans stay. -/
def State.discardPlan (s : State) (p : Nat) : State :=
  let e := s.plan
  if p = 0x090 then
    ({ s with plan := { e with search := none, shared := none, orphans := [], ownReqs := [], ownReplies := [], waiting := false } }).dtuUnlock.unpauseAll
      fun k _ => k == 3
  else if p = 0x091 then { s with plan := { e with cmd := none, waiting := false, result := 0 } }
  else { s with plan := { e with queue := [] } }

/-- Discard the work of the pair page or the cascade page. -/
def State.discardPair (s : State) (p : Nat) : State :=
  let e := s.pair
  if p = 0x0F0 then
    { s with pair := { e with startSf := 0, quietSf := 0, kaNow := false, evidNow := false, evidPrev := false, answer := none, answered := none,
                              askDue := false, blockSeen := false, airNow := false, linkAt := none, touched := [], pos := none, unconf := [],
                              heldOut := [], ring := [], ringNext := 0, beyond := [], jreqAt := none, lookupEn := false, handoff := none,
                              handSent := false, handTo := none, pkaSent := none } }
  else
    { s with pair := { e with reasm := [], heard := [], serials := [], updHeld := [], snapNamed := [], move := none, testAt := none,
                              reportSeq := 0, kaSent := none, healthAt := none } }

/-- The pins of an axis outlive its work. -/
def AxisSt.atRest (a : AxisSt) : AxisSt :=
  { encA := a.encA, encB := a.encB, limNeg := a.limNeg, limPos := a.limPos, homePin := a.homePin }

/-- Discard the work of a page of the radio. The duplicate windows, associations and places of machines stay (R286). -/
def State.discardRadio (s : State) (p : Nat) : State :=
  if p = 0x0B0 then { s with radio := { s.radio with sects := [], reply := [], fw := [] } } else s.setSect (p - 0x0B1) {}

/-- Discard the work of the switch or of one port. -/
def State.discardSwitch (s : State) (p : Nat) : State :=
  if p = 0x0D0 then
    { s with sw := { busy := s.sw.busy, sent := s.sw.sent, markers := s.sw.markers } }.unpauseAll fun k _ => k == 7
  else
    let n := p - 0x0D1
    { s with sw := { s.sw with queues := s.sw.queues.filter (fun e => e.1 / 8 != n), busy := s.sw.busy.filter (fun e => e.1 != n),
                               sent := s.sw.sent.filter (fun e => e.1 != n), markers := s.sw.markers.filter (fun e => e.1 != n),
                               ptpIn := s.sw.ptpIn.filter (fun e => e.port != n) } }

/-- Discard the work of a page of the key store, tamper logic or attestation. Slots, log and measurements stay. -/
def State.discardKey (s : State) (p : Nat) : State :=
  if p = 0x100 then { s with keys := { s.keys with work := none, result := 0, outLen := 0 } }
  else if p = 0x102 then { s with att := { s.att with statement := none, result := 0 } }
  else s

/-- What a SOFT_RESET does behind a page of the mailboxes, the time base or the shadow engine (R562). -/
def State.discardMeeting (s : State) (p : Nat) : State :=
  if 0x030 ≤ p ∧ p ≤ 0x03F then { s with mbox := s.mbox.filter fun e => e.1 / 4 != p - 0x030 || decide (62 ≤ e.1) }
  else if p = 0x040 then s.domDiscard 1
  else if p = 0x041 then
    let s1 := s.domDiscard 2
    { s1 with time := { s1.time with ptp := { masterSeq := s1.time.ptp.masterSeq, delaySeq := s1.time.ptp.delaySeq } } }
  else if p = 0x042 then { s with time := { s.time with pulses := [] } }
  else if p = 0x043 then { s with time := { s.time with capLast := [] } }
  else if p = 0x082 then
    { s with zone := { s.zone with region := 0, block := 0, discards := 0, mismatches := 0, owed := [], check := none } }.unpauseAll fun k _ => k == 0x0B
  else if p = 0x080 then { s with zone := { s.zone with result := 0 } }
  else if p = 0x081 then { s with zone := { s.zone with xtabResult := 0 } }
  else s

/-- Discard the work in progress behind a page. -/
def State.discardWork (s : State) (p : Nat) : State :=
  let s0 := s.dropHeld (blockIs (pageBlocks p))
  if p = 0x002 then { s0 with pwr := { s0.pwr with result := 0 } }
  else if p = 0x003 then { s0 with rst := { s0.rst with wdogOn := false, wdogHalf := false } }
  else if 0x008 ≤ p ∧ p ≤ 0x017 then s0.discardMem p
  else if 0x020 ≤ p ∧ p ≤ 0x024 then s0.discardSched p
  else if 0x030 ≤ p ∧ p ≤ 0x043 then s0.discardMeeting p
  else if 0x050 ≤ p ∧ p ≤ 0x056 then s0.discardGnss p
  else if 0x060 ≤ p ∧ p ≤ 0x071 then s0.discardSolv p
  else if 0x080 ≤ p ∧ p ≤ 0x082 then s0.discardMeeting p
  else if 0x090 ≤ p ∧ p ≤ 0x092 then s0.discardPlan p
  else if p = 0x0A0 then { s0 with seg := {} }.unpauseAll fun k _ => k == 4
  else if 0x0A1 ≤ p ∧ p ≤ 0x0A8 then
    (s0.setAxis (p - 0x0A1) (s0.axis (p - 0x0A1)).atRest).unpauseAll fun k i => k == 6 && i == p - 0x0A1
  else if 0x0B0 ≤ p ∧ p ≤ 0x0B8 then s0.discardRadio p
  else if 0x0D0 ≤ p ∧ p ≤ 0x0E4 then s0.discardSwitch p
  else if p = 0x0F0 ∨ p = 0x0F1 then s0.discardPair p
  else if 0x100 ≤ p ∧ p ≤ 0x102 then s0.discardKey p
  else s0

/-! ## SRAM (R450, R451, R561) -/

/-- Wipe a range of memory, with valid codes (R514). -/
def State.wipeRange (s : State) (lo hi : Nat) : State :=
  { s with mem := { s.mem with bytes := s.mem.bytes.filter (fun e => decide (e.1 < lo) || decide (hi ≤ e.1)),
                               ecc := s.mem.ecc.filter fun e => decide (e.1 < lo) || decide (hi ≤ e.1) } }

/-- The planner's heap and internal state. -/
def heapLo : Nat := 0x11D40000

/-- Wipe the SRAM that a page owns. -/
def State.wipePage (s : State) (p : Nat) : State :=
  if 0x061 ≤ p ∧ p ≤ 0x070 then s.wipeRange (0x12000000 + (p - 0x061) * 0x100000) (0x12000000 + (p - 0x060) * 0x100000)
  else if p = 0x0D0 then s.wipeRange 0x13000000 0x13800000
  else if p = 0x090 then s.wipeRange heapLo 0x12000000
  else s

/-! ## What follows a register that has returned to its reset value -/

/-- The tamper configuration's reset value comes from OTP (R445). -/
def State.otpConfig (s : State) : State :=
  match s.rst.otp.tampCfg with
  | some w => s.setReg 0x101040 w
  | none => s

/-- Registers that returned to their reset values act as such: the keys that the radio and the cascade engine name (R426), the tamper
configuration. The quality state of the time base stays as it is (R562). -/
def State.afterReset (s : State) (ok : Nat → Bool) : State :=
  let s1 := if ok 0x0B0 || ok 0x0F1 then s.keySelect else s
  if ok 0x101 then s1.otpConfig else s1

/-! ## SOFT_RESET (R40, R562) -/

/-- A command on the site map runs: SOFT_RESET of its page waits for it (R562). -/
def State.mapBusy (s : State) (p : Nat) : Bool :=
  (p == 0x080 && s.flag F.ZONE_CMD_STAT_BUSY) || (p == 0x081 && s.flag F.XTAB_CMD_STAT_BUSY)

/-- The reset of one page. -/
def State.softReset (s : State) (p : Nat) : State :=
  let ok (q : Nat) : Bool := q == p
  ((((s.discardWork p).wipePage p).resetPages .soft ok).afterReset ok)

/-- A page whose state Snowdrop has not kept (R501); its SRAM stays. A receiver in SLEEP stays so, with the assignments of its held
channels (R64, R91; log 106). -/
def State.sleepReset (s : State) (p : Nat) : State :=
  let ok (q : Nat) : Bool := q == p
  let s1 := if p = 0x054 ∧ s.rxAsleep then
      { s with gnss := { s.gnss with chans := s.gnss.chans.filter fun e => e.2.now.state == .held } }
    else s.discardWork p
  (s1.resetPages .sleep ok).afterReset ok

/-! ## Plane resets (R512, R513) -/

/-- The writers of a plane: its cores and blocks, and the host and the debug port of the management plane. -/
def planeWriter (x : PagePlane) : Writer → Bool
  | .ini (.ctl _) | .blk .planner | .blk .dispatch | .blk .pair => x == .control
  | .ini (.data _) | .ini .dma | .blk .receiver | .blk .solver | .blk .formatter | .blk .seg | .blk .radio | .blk .switch | .blk (.dma _) => x == .data
  | .ini .host | .ini .debug | .blk .keyStore => x == .mgmt

/-- The numbers of a plane's initiators, for latches and write buffers. -/
def planeInitiator (x : PagePlane) (i : Nat) : Bool :=
  match x with
  | .control => decide (1 ≤ i) && decide (i ≤ 4)
  | .data => decide (5 ≤ i) && decide (i ≤ 9)
  | .mgmt => i == 0 || i == 10
  | .meeting | .dtu => false

/-- Cores start: they count as started and run from an address. -/
def State.startCores (s : State) (cores : List Nat) (addr : Nat) : State :=
  let s1 := s.setF F.SYS_CORE_RUN_START (cores.foldl (fun a k => a ||| 2 ^ k) (s.getF F.SYS_CORE_RUN_START))
  { s1 with rst := { s1.rst with starts := cores.foldl (fun l k => Assoc.put (fun _ => 0) l k addr) s1.rst.starts } }

/-- The PCIe link goes down: the endpoint's vectors are masked, none is pending, and the host's latch and buffer are empty. -/
def State.pcieReset (s : State) (down : Bool) : State :=
  { s with msixOpen := [], msixPend := [], msixMsg := [], latches := s.latches.filter (fun e => e.1 != 10), wrBufs := s.wrBufs.filter (fun e => e.1 != 10),
           rst := { s.rst with pcieDown := down } }

/-- What a plane loses beside its registers and work. -/
def State.planeLoses (s : State) (x : PagePlane) : State :=
  match x with
  | .data =>
    let s1 := s.wipeRange 0x12000000 0x13800000
    { s1 with gnss := {}, solv := { s1.solv with fixes := [], ctxs := [] }, radio := {}, sw := {},
              zone := { s1.zone with mstate := [] } }
  | .control =>
    let s1 := s.wipeRange heapLo 0x12000000
    { s1 with sched := {}, poppy := { s1.poppy with armEnded := true } }.poppyEval
  | .mgmt => { s with keys := { s.keys with slots := s.keys.slots.filter fun e => decide (e.1 < 3) } }.pcieReset true
  | .meeting | .dtu => s

/-- How long a plane is in reset, in ns (R512): 2 µs, and the wipe of its SRAM at 512 bytes per fabric cycle (R514). -/
def planeHoldNs : PagePlane → Nat
  | .data => 2000 + 49152
  | .control => 2000 + 5632
  | .mgmt | .meeting | .dtu => 2000

/-- A plane leaves reset (R512): its wipe has ended, its cores start at the warm vector, and event 0 tells of it. -/
def State.planeDone (s : State) (x : Nat) : State :=
  let s1 := match x with
    | 1 => (s.setF F.RST_WIPE_US_US 49).startCores [4, 5, 6, 7] (s.getF F.SYS_WARM_VEC_D_ADDR)
    | 2 => (s.setF F.RST_WIPE_US_US 5).startCores [0, 1, 2, 3] (s.getF F.SYS_WARM_VEC_C_ADDR)
    | _ => s
  s1.raise 0x003 0

/-- The planes whose reset has ended by now leave it. -/
def State.planeEval (s : State) : State :=
  let due := s.rst.planeHeld.filter fun e => decide (e.2 ≤ s.now)
  if due.isEmpty then s
  else
    due.foldl (fun s e => s.planeDone e.1) { s with rst := { s.rst with planeHeld := s.rst.planeHeld.filter fun e => decide (s.now < e.2) } }

/-- A plane reset begins (R512): work, registers, SRAM and slots; the other planes, the meeting points, the always-on domain and the
Poppy plane are not touched. One for a plane in reset is ignored, and a device reset in progress absorbs it (R511). -/
def State.planeReset (s : State) (x : PagePlane) (watchdog : Bool) : State :=
  if s.rst.held || s.planeIn x then s
  else
    let ok (p : Nat) : Bool := planeResets x p
    let pages := (List.range 0x111).filter ok
    let s1 := (pages.foldl (fun s p => s.discardWork p) (s.dropHeld (planeWriter x))).resetPages .plane ok
    let s2 := (s1.planeLoses x).afterReset ok
    let s3 := { s2 with latches := s2.latches.filter (fun e => !planeInitiator x e.1), wrBufs := s2.wrBufs.filter (fun e => !planeInitiator x e.1),
                        rst := { s2.rst with soft := s2.rst.soft.filter fun p => !ok p,
                                             planeHeld := s2.rst.planeHeld ++ [(x.code, s.now + planeHoldNs x)] } }
    ((s3.setF F.RST_PLANE_WHICH x.code).setF F.RST_PLANE_SOURCE (bit watchdog)).bump F.RST_PLANE_COUNT_COUNT

/-! ## Device reset (R510, R511, R513, R519) -/

/-- Power or reset cuts an OTP operation short: the bits read old or new (R517, R519), which is left free. -/
def State.otpCut (s : State) : State :=
  match s.rst.otpOp with
  | none => s
  | some op =>
    let (new, s1) := s.fresh 2
    let o := s1.rst.otp
    let o1 := if new = 0 then o else
      match op with
      | .lifeCycle t => { o with lc := o.lc ||| 2 ^ (t - 1) }
      | .hash w => { o with hash := some w }
      | .svn v => { o with minSvn := v }
    { s1 with rst := { s1.rst with otp := o1, otpOp := none } }

/-- What is outside of the device or keeps its contents through any loss of power: boot flash, OTP, the host's memory, pins, the
model's own fields. -/
def State.outsideOf (s : State) : State :=
  { State.reset with
      now := s.now, freeCtr := s.freeCtr, pending := s.pending, sent := s.sent, bus := s.bus, ioLost := s.ioLost,
      axes := Assoc.mapVals (fun _ => {}) (fun _ a => a.atRest) s.axes,
      mem := { bytes := s.mem.bytes.filter fun e => decide (0x1000000000 ≤ e.1), flash := s.mem.flash },
      tamp := { active := s.tamp.active, temp := s.tamp.temp },
      pwr := { lost := s.pwr.lost, x25LostAt := s.pwr.x25LostAt },
      rst := { otp := s.rst.otp, tap := s.rst.tap } }

/-- The device as device reset leaves it: retained SRAM with what it holds, LPDDR5 and the records of resets are kept. -/
def State.resetState (s : State) : State :=
  let keep (a : Nat) : Bool := (decide (0x08000000 ≤ a) && decide (a < 0x08040000)) || decide (0x800000000 ≤ a)
  let o := s.outsideOf
  let s1 := { o with mem := { o.mem with bytes := s.mem.bytes.filter (fun e => keep e.1), ecc := s.mem.ecc.filter fun e => keep e.1 },
                     tamp := s.tamp, pair := { lastSeq := s.pair.lastSeq } }
  let s2 := ((s1.setReg 0x3044 (s.reg 0x3044)).setReg 0x304C (s.reg 0x304C)).setReg 0x3050 (s.reg 0x3050)
  s2.otpConfig

/-- Hold the device in reset: both Poppy channels are held (R324), and nothing answers until the release. -/
def State.holdDevice (s : State) (ns : Nat) : State :=
  { s with poppy := { a := { held := true }, b := { held := true } },
           rst := { s.rst with held := true, heldFrom := s.now, heldUntil := s.now + ns, wiping := true } }

/-- Record a source of device reset: FIRST is the lowest of those that registered together (R511). -/
def State.recordCause (s : State) (bits : Nat) : State :=
  let first := ((List.range 8).find? fun k => bitAt bits k).getD 0
  (s.setF F.RST_CAUSE_SOURCES bits).setF F.RST_CAUSE_FIRST first

/-- A source of device reset registers (R510, R511). In a reset that began at the same instant it is recorded too; a later one adds
nothing. -/
def State.deviceReset (s : State) (source : Nat) : State :=
  if s.rst.held then
    if s.rst.heldFrom = s.now then s.recordCause (s.getF F.RST_CAUSE_SOURCES ||| 2 ^ source) else s
  else
    let s1 := s.otpCut.resetState
    ((s1.recordCause (2 ^ source)).bump F.RST_DEV_COUNT_COUNT).holdDevice 10000

/-- Power is lost and all rails have risen again (R510): release follows 100 µs after the last. -/
def State.powerOn (s : State) : State :=
  let s1 := s.otpCut.outsideOf.otpConfig
  (s1.recordCause 1).holdDevice 100000

end Sys2Proof.Machine
end

