-- ==== Sys2Proof/Machine/Views.lean ====
section
/-! DEFINITION. Registers that show the state of an engine: what a read returns where the value is not a stored word. -/

namespace Sys2Proof.Machine

/-- The word of a 64-bit or wider value that a key names, `base` being the value's first key. -/
def wideWord (v : Nat) (base key : Nat) : Nat := v / 2 ^ (32 * ((key - base) / 4)) % 2 ^ 32

def DomainState.code : DomainState → Nat
  | .none => 0
  | .acquire => 1
  | .locked => 2
  | .hold => 3
  | .frozen => 4

def PwrState.code : PwrState → Nat
  | .bloom => 0
  | .bud => 1
  | .entering => 2
  | .snowdrop => 3
  | .waking => 4

/-- Views of the time pages (R117 to R119). -/
def State.viewTime (s : State) (key : Nat) : Option Nat :=
  let p := key / 0x1000
  let off := key % 0x1000
  if p = 0x040 ∨ p = 0x041 then
    let d := s.dom (p - 0x03F)
    if off = 0x04C then
      some (d.good * 0x1000000 + bit (s.time.follow == p - 0x03F) * 8 + d.state.code)
    else if off = 0x050 ∨ off = 0x054 then
      some (wideWord (ofSigned 64 (d.offset / 2 ^ 24)) (p * 0x1000 + 0x050) key)
    else if off = 0x058 then some (ofSigned 32 d.freq)
    else none
  else if p = 0x042 then
    if off = 0x044 ∨ off = 0x048 then some (wideWord s.effIncr 0x42044 key)
    else if 0x050 ≤ off ∧ off < 0x060 then
      some (wideWord (s.time.out % nsUnit + s.taiNsec * 2 ^ 32 + s.taiSec * 2 ^ 64) 0x42050 key)
    else if off = 0x060 then
      some (s.quality * 0x1000000 + bit s.time.valid * 0x10000 + bit s.time.stepPending * 8 +
        bit s.time.state.holdover * 4 + s.time.follow)
    else if off = 0x070 ∨ off = 0x074 then some (wideWord (ofSigned 64 (s.time.x / 2 ^ 24)) 0x42070 key)
    else if off = 0x078 ∨ off = 0x07C then some (wideWord (ofSigned 64 (s.time.d / 2 ^ 24)) 0x42078 key)
    else none
  else if p = 0x043 ∧ off = 0x044 then
    let ne := (List.range 8).foldl (fun a n => a + bit (!(s.fifo (0x43080 + 0x10 * n)).isEmpty) * 2 ^ n) 0
    some (s.getF F.TIME_EVT_STAT_OVF * 0x100 + ne)
  else none

/-- Views of the mailbox pages (R489): STAT, and the fixed CFG of queues 62 and 63. -/
def State.viewMbox (s : State) (key : Nat) : Option Nat :=
  let p := key / 0x1000
  let off := key % 0x1000
  if 0x030 ≤ p ∧ p ≤ 0x03F ∧ 0x040 ≤ off ∧ off < 0x0C0 then
    let q := 4 * (p - 0x030) + (off - 0x040) / 0x20
    let x := s.mboxQ q
    if off % 0x20 = 0x04 then
      some (s.mboxLevel q * 0x10000 + bit x.opener.isSome * 0x8000 + bit x.dropPending * 0x4000 +
        bit (x.full (s.mboxDepth q)) * 0x2000 + x.fillBank % 2 * 0x1000 + min x.held.length 31)
    else if off % 0x20 = 0x18 then some (max (s.reg key).toNat x.level)
    else if off % 0x20 = 0x00 ∧ 62 ≤ q then some (0xC0000000 + 16 * 0x10000 + 0x1F40)
    else none
  else none

/-- Views of PWR_STAT and CLK_DOMAIN_ON (R507, R508). -/
def State.domainOn (s : State) : Nat :=
  let lock := s.getF F.CLK_STAT_PLL_LOCK
  let full := s.pwr.state == .bloom
  let awake := !(s.pwr.state == .snowdrop)
  let rx := s.getF F.GNSS_RX_STATE_RX_STATE
  let gnss := full || s.flag (F.PG_CTRL_CLK_REQ 0x054) || (rx != 0 && rx != 4)
  let radio (n : Nat) : Bool :=
    full || s.flag (F.PG_CTRL_CLK_REQ (0x0B1 + n)) || decide (s.now ≤ Assoc.get (fun _ => 0) s.pwr.radioUntil n)
  bit (bitAt lock 3) + bit awake * 2 + bit (bitAt lock 0 && awake && (full || s.pwr.coreOn)) * 4 +
    bit (bitAt lock 1 && awake && (full || s.pwr.tileOn)) * 8 + bit (bitAt lock 3 && awake && gnss) * 16 +
    (List.range 8).foldl (fun a n => a + bit (bitAt lock 3 && radio n) * 2 ^ (5 + n)) 0

/-- The fast clock of a page runs (R37, R494, R497). -/
def State.clkOn (s : State) (p : Nat) : Bool :=
  let on := s.domainOn
  if 0x050 ≤ p ∧ p ≤ 0x056 then bitAt on 4
  else if 0x061 ≤ p ∧ p ≤ 0x070 then bitAt on 3
  else if 0x0B1 ≤ p ∧ p ≤ 0x0B8 then bitAt on (5 + (p - 0x0B1))
  else if 0x040 ≤ p ∧ p ≤ 0x043 then bitAt on 0
  else if p = 0x0C0 then true
  else bitAt on 1

/-- CH_CFG and CH_STAT of the channel in GNSS_CH_INDEX, and GNSS_CH_COUNT (R94). -/
def State.viewGnss (s : State) (key : Nat) : Option Nat :=
  let c := Assoc.get (fun _ => {}) s.gnss.chans (s.getF F.GNSS_CH_INDEX_INDEX)
  let count (st : ChState) : Nat := (s.gnss.chans.filter fun e => e.2.now.state == st).length
  if key = 0x54044 then some c.cfg.toNat
  else if key = 0x54048 then some (c.now.cn0 * 2 ^ 22 + c.now.state.code * 2 ^ 19 + c.now.flags % 256)
  else if key = 0x54064 then some (count .acq * 2 ^ 16 + count .track)
  else none

def CtxState.code : CtxState → Nat
  | .free => 0
  | .running => 1
  | .ready => 2
  | .paused => 3
  | .held => 4

/-- Views of the fix engine's pages (R165, R166). -/
def State.viewSolv (s : State) (key : Nat) : Option Nat :=
  let p := key / 0x1000
  let off := key % 0x1000
  if key = 0x60044 then
    let busy := (List.range 16).foldl (fun a n => a + bit (s.running n).isSome * 2 ^ n) 0
    some ((s.reg key).toNat % 65536 + busy * 65536)
  else if key = 0x60088 then
    let depth := s.solv.queue.length
    some (max ((s.reg key).toNat / 65536) depth * 65536 + depth)
  else if key = 0x600A4 then
    let last := s.taiNs / 1000000 / s.epochMs * s.epochMs
    some ((List.range 16).foldl (fun a m => a + bit (m != s.member && s.arrivedBase m last) * 2 ^ m) 0)
  else if 0x061 ≤ p ∧ p ≤ 0x070 ∧ off = 0x044 then
    let n := p - 0x061
    let c (k : Nat) := (s.ctx n k).st.code
    let run := match s.running n with
      | some k => (s.ctx n k).index * 0x10000 + (s.ctx n k).frame.machine % 256 * 0x100 + k * 0x80
      | none => 0
    some (c 1 * 0x10000000 + c 0 * 0x1000000 + run)
  else if 0x061 ≤ p ∧ p ≤ 0x070 ∧ off = 0x048 then
    match s.running (p - 0x061) with
    | some k => some (ofSigned 32 ((((s.ctx (p - 0x061) k).frame.deadline : Int) - s.now) / 1000))
    | none => some 0
  else none

/-- MSTATE and MSTATE_EPOCH of the machine in MSTATE_INDEX (R190), and the shadow engine's block (R192). -/
def State.viewZone (s : State) (key : Nat) : Option Nat :=
  let z := s.zoneState (s.getF F.ZONE_MSTATE_INDEX_MACHINE)
  if key = 0x800C4 then
    some (z.zone * 0x10000 + z.flags * 0x800 + z.level * 0x40 + bit z.fast * 4 + bit z.outside * 2 + bit z.known)
  else if key = 0x800C8 then some z.epoch
  else if key = 0x80044 then some (s.getF F.ZONE_STAT_USED + bit (s.flag F.ZONE_CMD_STAT_BUSY) * 2 ^ 31)
  else if key = 0x82050 then some ((s.reg key).toNat / 65536 * 65536 + s.zone.block)
  else none

/-- Views of the radio pages (R292, R293). -/
def State.viewRadio (s : State) (key : Nat) : Option Nat :=
  let p := key / 0x1000
  let off := key % 0x1000
  if key = 0xB0044 then
    some (s.getF F.RADIO_STAT_LINK_UP * 0x10000 +
      (List.range 8).foldl (fun a n => a + bit (s.sectRunning n) * 2 ^ (8 + n)) 0 + bit s.gridOk * 4 + bit s.watching * 2 + bit (!s.notActive))
  else if key = 0xB0068 then
    let m := s.getF F.RADIO_MSTAT_INDEX_MACHINE
    let a := (s.assocOf m).isSome
    let heard := match Assoc.get (fun _ => none) s.radio.heard m with
      | some (_, t) => decide (s.taiNs ≤ t + s.cycleSlots * 250000)
      | none => false
    some ((if a then s.shortAddr m else 0xFFFF) * 0x10000 + bit a * 0x8000 + bit heard * 0x80 + s.radioSector m)
  else if 0x0B1 ≤ p ∧ p ≤ 0x0B8 ∧ off = 0x044 then
    let n := p - 0x0B1
    let stored := (s.reg key).toNat
    some ((if s.gridOk then s.slotNow % s.cycleSlots else 0) * 2 ^ 22 + bitsOf stored 21 16 * 2 ^ 16 + bitsOf stored 10 9 * 2 ^ 9 +
      bit (s.sectRunning n) * 2 ^ 8 + bitsOf stored 7 0)
  else none

/-- Views of the key, tamper and attestation pages (R446 to R448). -/
def State.viewKey (s : State) (key : Nat) : Option Nat :=
  let off := key % 0x1000
  let k := s.keys
  let shown := s.slot (s.getF F.KEY_SLOT_INDEX_SLOT)
  if off = 0x040 then
    some (bit k.rootOk * 0x80000000 + bit k.rootFail * 0x40000000 + bit k.enrolled * 0x20000000 + bit k.drbgOk * 0x10000000 +
      bit k.lock * 0x8000000 + bit s.poppy.loaded * 0x4000000 + k.pufBank % 4 * 0x1000000 +
      (k.slots.filter fun e => e.2.isSome).length)
  else if off = 0x048 then some (bit k.work.isSome * 0x80000000 + k.result % 16)
  else if off = 0x074 then some k.outLen
  else if off = 0x07C then
    some (match shown with
      | some x => 0x80000000 + x.depth % 8 * 0x10000000 + x.type % 16 * 0x1000000 + x.lc % 8 * 0x200000 + x.origin % 4 * 0x80000 +
          x.usage % 8192
      | none => 0)
  else if off = 0x080 then
    some (match shown with
      | some x => x.parent % 1024
      | none => 0)
  else if off = 0x088 then
    some (s.rst.otp.ctrG % 2048 * 0x200000 + k.gCur % 2 * 0x100000 + bit k.gValid * 0x80000 + s.rst.otp.ctrP % 2048 * 0x20 +
      k.pCur % 2 * 0x10 + bit k.pValid * 8)
  else none

def State.viewTamp (s : State) (key : Nat) : Option Nat :=
  let off := key % 0x1000
  if off = 0x048 then
    some (s.tamp.active % 32 * 0x10000 + bit s.rst.tampHeld * 0x100 + bit s.tamp.ovf * 0x20 + s.tamp.log.length)
  else if off = 0x04C then some (s.tamp.temp % 256)
  else if off = 0x050 then some (4 - s.rst.otp.tampProg)
  else if 0x080 ≤ off ∧ off < 0x100 then
    some (match s.tamp.log[(off - 0x080) / 8]? with
      | some e => (logWords e).getD ((off - 0x080) / 4 % 2) 0
      | none => 0)
  else none

def State.viewAttest (s : State) (key : Nat) : Option Nat :=
  let off := key % 0x1000
  if off = 0x044 then some (bit s.att.statement.isSome * 0x80000000 + s.att.result % 16)
  else if 0x0C0 ≤ off ∧ off < 0x0F0 then
    some (leValue (((s.att.meas.getD (s.getF F.ATTEST_READ_INDEX_INDEX) []).drop (off - 0x0C0)).take 4))
  else none

/-- Views of the DTU and DMA pages (R472, R473). -/
def State.viewMem (s : State) (key : Nat) : Option Nat :=
  let p := key / 0x1000
  let off := key % 0x1000
  if p < 0x010 then
    if off = 0x058 then some (bit (s.mem.dtuInval.any (·.1 == p - 0x008)) * 0x80000000) else none
  else if 0x040 ≤ off ∧ off < 0x0C0 then
    let c := 2 * (p - 0x010) + (off - 0x040) / 0x40
    let x := s.dmaCh c
    let o := off % 0x40
    if o = 0x10 ∨ o = 0x14 then some (x.desc / 2 ^ (8 * (o - 0x10)) % 2 ^ 32)
    else if o = 0x18 then some (x.state.code * 0x10000000 + (if x.state == .paused then x.cause % 16 else 0) * 0x1000000 + bit x.stopKept * 0x800000)
    else if o = 0x1C then some x.done
    else none
  else none

/-- CLK_REF10_PPB (R492): the second's measurement while REF10 is present, the last one after that. -/
def State.viewPpb (s : State) : Nat :=
  if s.flag F.CLK_STAT_REF10_OK then (if s.now < 1000000000 then 0 else Config.ref10Ppb (s.now / 1000000000) % 2 ^ 32)
  else s.getF F.CLK_REF10_PPB_PPB

/-- Views of the SYS page (R529): what OTP holds, what is being programmed, the nonce. -/
def State.viewSys (s : State) (key : Nat) : Option Nat :=
  let r := s.rst
  let lcBusy := match r.otpOp with
    | some (.lifeCycle _) => true
    | some (.hash _) | some (.svn _) | none => false
  if key = 0x040 then some (bit (s.flag F.SYS_LC_MARKER_WIPE) * 0x200 + bit r.otp.hash.isSome * 0x100 + s.lifeCycle.code)
  else if key = 0x048 then some (bit lcBusy * 0x80000000 + s.getF F.SYS_LC_STAT_RESULT)
  else if key = 0x058 then
    some (s.getF F.SYS_BOOT_STAT_STAGE * 0x10000000 + s.getF F.SYS_BOOT_STAT_SLOT * 0x1000000 + s.getF F.SYS_BOOT_STAT_ERROR * 0x10000 +
      bit (s.flag F.SYS_BOOT_STAT_POPPY_FAIL) * 0x8000 + bit (r.hostOpen || r.sysOpen) * 0x4000)
  else if key = 0x05C then some (r.otp.minSvn % 64)
  else if 0x060 ≤ key ∧ key < 0x080 then some (if s.keys.drbgOk then (s.reg key).toNat else 0)
  else if key = 0x084 then some (bit (r.otpOp.isSome && !lcBusy) * 0x80000000)
  else if 0x100 ≤ key ∧ key < 0x120 then
    r.otp.hash.map fun l => (l.getD ((key - 0x100) / 4) 0).toNat
  else none

/-- DBG_STAT (R531): the TAP's instruction and the cores halted. -/
def State.viewDbg (s : State) : Nat :=
  let t := s.tapNow
  bit (t == .extest || t == .clamp || t == .highz) * 0x200 + bit (t == .debugPort) * 0x100 + s.getF F.DBG_CTRL_HALT_REQ

/-- Work in progress of the dispatch engine, by page (log 100): switches, threads to place, items, asks that a pass serves. -/
def State.schedBusy (s : State) (p : Nat) : Bool :=
  if p = 0x020 then s.sched.cores.any fun e => e.2.next.isSome
  else if p = 0x021 then !s.sched.ready.isEmpty
  else if p = 0x022 then !s.sched.items.isEmpty
  else p == 0x023 && !s.sched.asks.isEmpty

/-- Work in progress of the receiver, by page (log 100): searches, channels pulled in, a set that waits. -/
def State.gnssBusy (s : State) (p : Nat) : Bool :=
  if p = 0x054 then !s.gnss.queue.isEmpty || s.gnss.chans.any fun e => e.2.now.state == .acq || e.2.now.state == .pullin
  else p == 0x055 && s.gnss.pending.isSome

/-- Work in progress of the fix engine, by page (log 100). -/
def State.solvBusy (s : State) (p : Nat) : Bool :=
  if p = 0x060 then !s.solv.queue.isEmpty || s.solv.cmd.isSome || (List.range 16).any fun n => (s.running n).isSome
  else if p = 0x071 then !s.solv.corr.isEmpty
  else (s.ctx (p - 0x061) 0).st != .free || (s.ctx (p - 0x061) 1).st != .free

/-- Work in progress of the site map and the planner, by page (log 100). -/
def State.fleetBusy (s : State) (p : Nat) : Bool :=
  let plan := s.plan.search.isSome || s.plan.shared.isSome
  if p = 0x080 then s.flag F.ZONE_CMD_STAT_BUSY
  else if p = 0x081 then s.flag F.XTAB_CMD_STAT_BUSY
  else if p = 0x082 then s.flag F.SHADOW_CTRL_EN
  else if p = 0x091 then s.flag F.TRACK_RES_CMD_STAT_BUSY
  else if p = 0x090 then plan
  else p == 0x092 && (plan || !s.plan.queue.isEmpty)

/-- Work in progress of the radio and the switch, by page (log 100): frames that wait, a block open or an acknowledgement awaited. -/
def State.netBusy (s : State) (p : Nat) : Bool :=
  if p = 0x0B0 then !s.radio.fw.isEmpty || !s.radio.reply.isEmpty
  else if p ≤ 0x0B8 then (s.sect (p - 0x0B1)).rx.isSome || (s.sect (p - 0x0B1)).wait.isSome
  else if p = 0x0D0 then (s.sw.queues.any fun e => !e.2.isEmpty) || s.sw.rings.any fun e => !e.2.out.isEmpty
  else s.sw.queues.any fun e => e.1 / 8 == p - 0x0D1 && !e.2.isEmpty

/-- The block of a page has work in progress (R37). DESIGN CHOICE (log 100): what counts as work where the chapter does not say. -/
def State.pageBusy (s : State) (p : Nat) : Bool :=
  if p = 0x000 then s.rst.otpOp.isSome
  else if p = 0x002 then s.pwr.state == .entering || s.pwr.state == .waking
  else if p = 0x003 then s.rst.wiping
  else if 0x008 ≤ p ∧ p ≤ 0x00F then s.mem.dtuInval.any fun e => e.1 == p - 0x008
  else if 0x010 ≤ p ∧ p ≤ 0x017 then (s.dmaCh (2 * (p - 0x010))).state == .running || (s.dmaCh (2 * (p - 0x010) + 1)).state == .running
  else if 0x020 ≤ p ∧ p ≤ 0x024 then s.schedBusy p
  else if 0x030 ≤ p ∧ p ≤ 0x03F then s.mbox.any fun e => e.1 / 4 == p - 0x030 && !e.2.held.isEmpty
  else if p = 0x042 then s.time.stepPending || s.time.pulses.any fun e => e.2.active
  else if 0x050 ≤ p ∧ p ≤ 0x056 then s.gnssBusy p
  else if 0x060 ≤ p ∧ p ≤ 0x071 then s.solvBusy p
  else if 0x080 ≤ p ∧ p ≤ 0x092 then s.fleetBusy p
  else if p = 0x0A0 then s.seg.tables.any fun e => e.2.running
  else if 0x0A1 ≤ p ∧ p ≤ 0x0A8 then
    (match (s.axis (p - 0x0A1)).mode with
      | .move | .table | .stopping | .homing => true
      | .disabled | .idle | .fault => false)
  else if p = 0x0C0 then s.poppy.release.isSome
  else if 0x0B0 ≤ p ∧ p ≤ 0x0E4 then s.netBusy p
  else if p = 0x0F0 then s.pair.handoff.isSome || !s.pair.unconf.isEmpty
  else if p = 0x0F1 then s.pair.move.isSome || !s.pair.reasm.isEmpty
  else if p = 0x100 then s.keys.work.isSome
  else if p = 0x102 then s.att.statement.isSome
  else false

/-- PG_STAT (R37): WIPED and FAULT are stored; BUSY, CLK_ON and READY follow the block. -/
def State.pgStat (s : State) (p : Nat) : Nat :=
  let soft := s.rst.soft.elem p
  let clk := s.clkOn p
  bit (s.flag (F.PG_STAT_WIPED p)) * 16 + bit (s.flag (F.PG_STAT_FAULT p)) * 8 + bit (s.pageBusy p) * 4 + bit clk * 2 +
    bit (s.flag (F.PG_CTRL_ENABLE p) && clk && !soft && !s.rst.wiping)

/-- The value of a register word that is a view, by register key. -/
def State.view (s : State) (key : Nat) : Option Nat :=
  let p := key / 0x1000
  let off := key % 0x1000
  if off = 0x00C then some (s.pgStat p)
  else if off = 0x018 then some (s.getF (F.PG_IRQ_RAW_WORD p) &&& s.getF (F.PG_IRQ_EN_EN p))
  else if off = 0x008 then some ((s.reg key).toNat ||| bit (s.rst.soft.elem p) * 2)
  else if off < 0x040 then none
  else if p = 0x001 ∧ off = 0x044 then some s.domainOn
  else if p = 0x002 ∧ off = 0x044 then
    some (s.pwr.result * 0x1000 + bit s.pwr.returnBud * 0x100 + s.pwr.state.code)
  else if 0x030 ≤ p ∧ p ≤ 0x03F then s.viewMbox key
  else if 0x040 ≤ p ∧ p ≤ 0x043 then s.viewTime key
  else if p = 0x054 then s.viewGnss key
  else if 0x060 ≤ p ∧ p ≤ 0x070 then s.viewSolv key
  else if p = 0x080 ∨ p = 0x082 then s.viewZone key
  else if 0x090 ≤ p ∧ p ≤ 0x092 then s.viewPlan key
  else if p = 0x0A0 then s.viewSeg key
  else if 0x0A1 ≤ p ∧ p ≤ 0x0A8 then s.viewAxis (p - 0x0A1) off
  else if 0x0B0 ≤ p ∧ p ≤ 0x0B8 then s.viewRadio key
  else if p = 0x0C0 then s.viewPoppy key
  else if 0x020 ≤ p ∧ p ≤ 0x024 then s.viewSched key
  else if 0x0D0 ≤ p ∧ p ≤ 0x0E4 then s.viewSwitch key
  else if p = 0x0F0 ∨ p = 0x0F1 then s.viewPair key
  else if p = 0x100 then s.viewKey key
  else if p = 0x101 then s.viewTamp key
  else if p = 0x102 then s.viewAttest key
  else if 0x008 ≤ p ∧ p ≤ 0x017 then s.viewMem key
  else if key = 0x104C then some s.viewPpb
  else if p = 0x000 then s.viewSys key
  else if key = 0x110044 then some s.viewDbg
  else none

end Sys2Proof.Machine
end

