-- ==== Sys2Proof/Machine/WriteRules.lean ====
section
/-! DEFINITION. Writes that a register table refuses by a rule of its own, and what a write sets off where the register has no
row in the command table. -/

namespace Sys2Proof.Machine

/-- The code with which a mailbox CFG write is refused (R489). -/
def State.refuseMbox (s : State) (key x : Nat) : Option Nat :=
  let off := key % 0x1000
  let q := 4 * (key / 0x1000 - 0x030) + (off - 0x040) / 0x20
  if (off - 0x040) % 0x20 = 0 ∧ 0x040 ≤ off ∧ off < 0x0C0 then
    if 62 ≤ q then some 0x02
    else if bitsOf x 25 16 % 16 ≠ 0 then some 0x10
    else if bitsOf x 25 16 ≠ s.mboxDepth q ∧ (s.mboxQ q).level ≠ 0 then some 0x11
    else none
  else none

/-- The code with which a write of a time register is refused (R99, R118, R117). A write of TIME_OUT_INCR that is both out of its state
and out of its range is refused with 0x11 (DESIGN CHOICE, log 107). -/
def State.refuseTime (s : State) (key x : Nat) : Option Nat :=
  if key = 0x41064 then
    let bad (f : Nat) := bitAt x f
    if bad (s.getF F.TIME_B_PORT_PRIMARY) || (s.flag F.TIME_B_PORT_BACKUP_EN && bad (s.getF F.TIME_B_PORT_BACKUP)) then some 0x10
    else none
  else if key = 0x4005C then (if x % 16 = 2 then some 0x11 else none)
  else if key = 0x42044 then
    if !s.time.state.unfollowed then some 0x11
    else if x % 2 ^ 40 < 0x01FF7CED91 ∨ 0x020083126F < x % 2 ^ 40 then some 0x10
    else none
  else if key = 0x42068 then (if x < s.getF F.TIME_OUT_HOLD_WARN_S_SECONDS then some 0x10 else none)
  else none

/-- The code with which a write of a receiver register is refused (R68, R93, R95). -/
def State.refuseGnss (s : State) (key x : Nat) : Option Nat :=
  let p := key / 0x1000
  let off := key % 0x1000
  if 0x050 ≤ p ∧ p ≤ 0x053 then
    if (off = 0x048 ∨ off = 0x04C) ∧ 40000000 < (toSigned 32 x).natAbs then some 0x10 else none
  else if key = 0x55040 then
    let per := bitsOf x 7 0
    let epoch := 5 * 2 ^ s.getF F.SOLV_STAT_EPOCH_ACTIVE
    if ([1, 2, 5, 10, 20].elem per && epoch % per == 0) then none else some 0x10
  else if key = 0x5504C then (if bitsOf x 20 0 % 32 = 0 then none else some 0x10)
  else if key = 0x55068 then
    let a (i : Nat) := bitsOf x (2 * i + 1) (2 * i)
    if ([a 0, a 1, a 2, a 3].eraseDups.length == 4) then none else some 0x10
  else none

/-- The code with which a write of a site-map or fix-engine register is refused (R165, R169, R190). -/
def State.refuseMap (s : State) (key : Nat) : Option Nat :=
  if 0x80048 ≤ key ∧ key < 0x80060 then (if s.flag F.ZONE_CTRL_LOOKUP_EN then some 0x11 else none)
  else if key = 0x80084 then (if s.getF F.ZONE_STAT_USED ≠ 0 then some 0x11 else none)
  else if 0x60800 ≤ key ∧ key < 0x60A00 then
    (if (key - 0x60800) / 0x100 = s.getF F.SOLV_STAT_BANK_ACTIVE then some 0x11 else none)
  else none

/-- The code with which a write of RADIO_CTRL or of a program word is refused (R273, R292, R293). -/
def State.refuseRadio (s : State) (key x : Nat) : Option Nat :=
  let p := key / 0x1000
  let off := key % 0x1000
  if key = 0xB0040 then (if bitAt x 2 && !bitAt x 1 then some 0x10 else none)
  else if 0x0B1 ≤ p ∧ 0x800 ≤ off then
    (if (off - 0x800) / 0x400 = s.getF (F.SECT_STAT_BANK_ACTIVE (p - 0x0B1)) then some 0x11 else none)
  else none

/-- The code with which a write of a POPPY register is refused (R298, R306, R310, R328). -/
def State.refusePoppy (s : State) (who : Initiator) (key x : Nat) : Option Nat :=
  let off := key % 0x1000
  let core := match who with
    | .ctl _ => true
    | .debug | .data _ | .dma | .host => false
  if off = 0x050 then (if 1 ≤ bitsOf x 31 28 ∧ bitsOf x 31 28 ≤ 3 then none else some 0x10)
  else if 0x0A0 ≤ off ∧ off ≤ 0x0B4 then (if s.poppy.release.isSome then some 0x11 else none)
  else if 0x100 ≤ off ∧ off ≤ 0x130 then
    if !core || s.lifeCycle != .provision then some 0x11
    else if off = 0x100 ∧ bitAt x 0 ∧ !bitAt x 1 then some 0x10
    else if off = 0x104 ∧ ¬(1000 ≤ bitsOf x 31 16 ∧ bitsOf x 31 16 ≤ 50000 ∧ 50 ≤ bitsOf x 15 0 ∧ bitsOf x 15 0 ≤ 200) then some 0x10
    else if 0x110 ≤ off ∧ off < 0x130 ∧ ¬(1 ≤ bitsOf x 23 16 ∧ 50 ≤ bitsOf x 9 0 ∧ bitsOf x 9 0 ≤ 500) then some 0x10
    else none
  else none

/-- The code with which a write of a dispatch register is refused (R351, R352). -/
def State.refuseSched (s : State) (key x : Nat) : Option Nat :=
  if key = 0x2004C then
    let page := s.getF F.SCHED_IRQMAP_INDEX_PAGE
    if !pageAssigned page || (bitAt x 30 && decide (63 < bitsOf x 8 0)) then some 0x10 else none
  else none

/-- The code with which a write of a switch register is refused (R357, R362, R379). -/
def State.refuseSwitch (s : State) (key x : Nat) : Option Nat :=
  let p := key / 0x1000
  let off := key % 0x1000
  if key = 0xD00A4 then
    let r := s.getF F.SWCH_RING_INDEX_RING
    (if s.ringHead r = s.ringTail r then none else some 0x11)
  else if 0x0D1 ≤ p ∧ off = 0x040 then
    (if (if p - 0x0D1 < 16 then bitsOf x 14 12 ≤ 3 else bitsOf x 14 12 = 0 ∨ bitsOf x 14 12 = 4) then none else some 0x10)
  else if 0x0D1 ≤ p ∧ off = 0x050 then
    (if (List.range 8).any fun i => bitsOf x (3 * i + 2) (3 * i) == 7 then some 0x10 else none)
  else none

/-- The code with which a write of PAIR_CTRL or CASC_CTRL is refused (R382, R416). -/
def State.refusePair (s : State) (key x : Nat) : Option Nat :=
  if key = 0xF0040 then
    let a := s.poppy.a
    let ok := s.flag F.RADIO_CTRL_PAIR && a.pair && s.getF F.RADIO_CTRL_UNIT == a.unit
    if bitAt x 0 && !ok then some 0x12 else none
  else if key = 0xF1040 then
    if bitAt x 0 && bitsOf x 19 16 != s.poppy.a.member then some 0x12 else none
  else none

/-- The code with which a write of PWR_CMD is refused (R498). -/
def State.refusePwr (s : State) (who : Initiator) : Option Nat :=
  let moving := s.pwr.state == .entering || s.pwr.state == .waking
  match who with
  | .ctl _ => if moving then some 0x11 else none
  | .debug | .data _ | .dma | .host => some 0x11

/-- The code with which a write of RST_CMD is refused (R530): a bad KEY before a bad CMD. -/
def refuseRstCmd (x : Nat) : Option Nat :=
  if bitsOf x 15 0 ≠ 0xA5C3 then some 0x11 else if 1 ≤ bitsOf x 31 28 ∧ bitsOf x 31 28 ≤ 4 then none else some 0x10

/-- The code with which a write of a register of the reset and life-cycle pages is refused (R529 to R531). -/
def State.refuseSys (s : State) (who : Initiator) (key x : Nat) : Option Nat :=
  if key = 0x3040 then refuseRstCmd x
  else if key = 0x3058 then (if x = 0x6B1C then none else some 0x11)
  else if (key = 0x098 ∧ s.rst.warmC) ∨ (key = 0x0A0 ∧ s.rst.warmD) then some 0x11
  else if key = 0x110040 then (if who = .debug then none else some 0x11)
  else none


/-- The code with which a write of value `x` to the register at `key` by `who` is refused, if it is. -/
def State.refuseWrite (s : State) (who : Initiator) (key x : Nat) : Option Nat :=
  match rangeRefusal key x with
  | some c => some c
  | none =>
    let p := plainKey key / 0x1000
    if 0x030 ≤ p ∧ p ≤ 0x03F then s.refuseMbox key x
    else if 0x040 ≤ p ∧ p ≤ 0x043 then s.refuseTime key x
    else if 0x050 ≤ p ∧ p ≤ 0x055 then s.refuseGnss key x
    else if p = 0x060 ∨ p = 0x080 then s.refuseMap key
    else if 0x0B0 ≤ p ∧ p ≤ 0x0B8 then s.refuseRadio key x
    else if p = 0x0C0 then s.refusePoppy who key x
    else if p = 0x020 then s.refuseSched key x
    else if 0x0D0 ≤ p ∧ p ≤ 0x0E4 then s.refuseSwitch (plainKey key) x
    else if p = 0x0F0 ∨ p = 0x0F1 then s.refusePair key x
    else if key = 0x101040 then (if s.lifeCycle == .provision then none else some 0x11)
    else if key = 0x2040 then s.refusePwr who
    else if p = 0x000 ∨ p = 0x003 ∨ p = 0x110 then s.refuseSys who key x
    else none

/-- The slave port's role follows TIME_B_PORT (R117): enabling takes PRIMARY, disabling keeps domain B in NONE. -/
def State.afterTimePort (s : State) : State :=
  if s.flag F.TIME_B_PORT_SLAVE_EN then s.ptpMove (s.getF F.TIME_B_PORT_PRIMARY)
  else
    let s1 := s.domDiscard 2
    { s1 with time := { s1.time with ptp := { sentSync := s1.time.ptp.sentSync, sentAnnounce := s1.time.ptp.sentAnnounce } } }

/-- A port that is written off has no link (R357). -/
def State.afterMode (s : State) (p : Nat) : State :=
  if s.getF (F.EMAC_CTRL_MODE (p - 0x0D1)) = 0 ∧ s.flag (F.EMAC_STAT_LINK (p - 0x0D1)) then (s.setReg (p * 0x1000 + 0x044) 0).raise p 1 else s

/-- A write of DMA CTRL with EN 0 aborts the channel as ABORT does (R473). -/
def State.afterDma (s : State) (c : Nat) : State :=
  if s.flag (F.DMA_CTRL_EN (c / 2) (c % 2)) || (s.dmaCh c).state == .idle then s else s.dmaAbort c

/-- The watchdog's count begins when EN rises (R530). -/
def State.afterWatchdog (s : State) : State :=
  let en := s.flag F.RST_WDOG_CTRL_EN
  if en && !s.rst.wdogOn then { s with rst := { s.rst with wdogOn := true, wdogFrom := s.now, wdogHalf := false } }
  else { s with rst := { s.rst with wdogOn := en } }


/-- What follows a completed write of a register without a row of its own. -/
def State.afterWrite (s : State) (key : Nat) : State :=
  if key = 0x41060 then s.afterTimePort
  else if key = 0x4206C then (if s.time.follow = 0 then s else s.timeSetD s.time.d)
  else if key = 0x55040 then s.setFlag F.GNSS_MEAS_STAT_PERIOD_FORCED false
  else if key = 0x60040 then
    s.setFlag F.SOLV_STAT_EPOCH_PENDING (s.getF F.SOLV_CTRL_EPOCH != s.getF F.SOLV_STAT_EPOCH_ACTIVE)
  else if key = 0x20040 then (if s.flag F.SCHED_CTRL_THR_EN then s.serveCores else s)
  else if 0xD1040 ≤ key ∧ key ≤ 0xE4040 ∧ key % 0x1000 = 0x040 then s.afterMode (key / 0x1000)
  else if key = 0xB0050 ∨ key = 0xF104C then s.keySelect
  else if 0x10000 ≤ key ∧ key < 0x18000 ∧ (key % 0x1000 = 0x040 ∨ key % 0x1000 = 0x080) then
    s.afterDma (2 * (key / 0x1000 - 0x010) + (key % 0x1000 - 0x040) / 0x40)
  else if key % 0x1000 = 0x008 then s.clockEval
  else if key % 0x1000 = 0x010 ∨ key % 0x1000 = 0x014 then s.lineFall (key / 0x1000)
  else if key = 0x098 then { s with rst := { s.rst with warmC := true } }
  else if key = 0x0A0 then { s with rst := { s.rst with warmD := true } }
  else if key = 0x3054 then s.afterWatchdog
  else s

end Sys2Proof.Machine
end

