-- ==== Sys2Proof/Machine/RegAccess.lean ====
section
/-! DEFINITION. Register accesses (02_register_pages.md R31 to R48, R53, R54): the gate every access passes, 32-bit reads with
latches, logs and RC fields, 32-bit writes by access type with LOCK, wide values and refusals. -/

namespace Sys2Proof.Machine

/-- The number of an initiator, for its latch and write buffer (R46, R48). -/
def initiatorIndex : Initiator → Nat
  | .debug => 0
  | .ctl k => 1 + k.val
  | .data k => 5 + k.val
  | .dma => 9
  | .host => 10

def State.latch (s : State) (who : Initiator) : Option ReadLatch :=
  Assoc.get (fun _ => none) s.latches (initiatorIndex who)

def State.setLatch (s : State) (who : Initiator) (l : Option ReadLatch) : State :=
  { s with latches := Assoc.put (fun _ => none) s.latches (initiatorIndex who) l }

/-- The words of the wide value at `base` that wait in an initiator's write buffer. -/
def State.wrBuf (s : State) (who : Initiator) (base : Nat) : List (Nat × Word) :=
  match (Assoc.get (fun _ => []) s.wrBufs (initiatorIndex who)).find? (·.base == base) with
  | some b => b.words
  | none => []

/-- Replace them; values at other bases keep theirs (R48). -/
def State.setWrBuf (s : State) (who : Initiator) (base : Nat) (words : List (Nat × Word)) : State :=
  let rest := (Assoc.get (fun _ => []) s.wrBufs (initiatorIndex who)).filter fun b => b.base != base
  { s with wrBufs := Assoc.put (fun _ => []) s.wrBufs (initiatorIndex who) (if words.isEmpty then rest else ⟨base, words⟩ :: rest) }

/-! ## The gate -/

/-- A decode error (R31): SYS code 0x06; a core or the debug port gets a bus error, the host reads 0. DESIGN CHOICE (log 14): the rule does
not say what the DMA engine receives; it gets a bus error, as a core does. -/
def State.decodeError (s : State) (who : Initiator) (addr : Nat) : State :=
  (s.err 0x000 0x06 (some who) addr).respond 0 (who != .host)

/-- An access to a block register while CLK_ON is 0 requests the block's clock and is carried out once the clock runs (R39, R495): the
tiles' domain starts and holds on (R496), a gated domain runs for the access. -/
def State.clockHold (s : State) (p : Nat) : State :=
  if s.clkOn p || s.pwr.state != .bud then s
  else if 0x061 ≤ p ∧ p ≤ 0x070 then s.clockRequest false
  else if 0x0B1 ≤ p ∧ p ≤ 0x0B8 then
    { s with pwr := { s.pwr with radioUntil := Assoc.put (fun _ => 0) s.pwr.radioUntil (p - 0x0B1) s.now } }.bump F.CLK_STARTS_COUNT
  else s.bump F.CLK_STARTS_COUNT

/-- The state in which an access to register `key` that passes the checks is carried out: the block's clock runs (R39). -/
def State.entered (s : State) (key : Nat) : State :=
  if 0x040 ≤ plainKey key % 0x1000 then s.clockHold (plainKey key / 0x1000) else s

/-- The checks before an access to register `key` at byte `sub` of its word (R31, R39, R54); `k` carries the access out. While device
reset is held nothing answers. -/
def State.gate (s : State) (who : Initiator) (key : Nat) (write : Bool) (k : State → State) (sub : Nat := 0) : State :=
  let p := plainKey key / 0x1000
  let off := plainKey key % 0x1000
  if !s.reaches who then s
  else if s.rst.held then s.respond 0 true
  else if !pageAssigned p then s.decodeError who (regAddr key + sub)
  else if who == .host && !s.hostMay p off write then
    (s.err (if s.pagePowered p then p else 0x000) 0x04 (some who) (regAddr key + sub)).respond 0 false
  else if !s.pagePowered p then (s.err 0x000 0x08 (some who) (regAddr key + sub)).respond 0 false
  else k (s.entered key)

/-- The access passes the gate: its initiator can make it, no device reset is held, and the page is assigned, open to the initiator
and powered. -/
def State.passes (s : State) (who : Initiator) (key : Nat) (write : Bool) : Bool :=
  let p := plainKey key / 0x1000
  s.reaches who && !s.rst.held && pageAssigned p && !(who == .host && !s.hostMay p (plainKey key % 0x1000) write) && s.pagePowered p

/-- The access passes the gate and finds the clock of its register running (R39). -/
def State.opens (s : State) (who : Initiator) (key : Nat) (write : Bool) : Bool :=
  s.passes who key write &&
    (decide (plainKey key % 0x1000 < 0x040) || s.clkOn (plainKey key / 0x1000) || s.pwr.state != .bud)

/-! ## Reads -/

/-- The live value of a register word: a view of the machine, or the stored word (R41: WO fields read 0). -/
def State.liveWord (s : State) (key : Nat) : Nat :=
  match s.view key with
  | some v => v % 2 ^ 32
  | none => (s.reg (s.winKey key)).toNat

/-- The live words of a wide value above its lowest word. -/
def State.liveWords (s : State) (key : Nat) : Nat → List Word
  | 0 => []
  | n + 1 => BitVec.ofNat 32 (s.liveWord key) :: s.liveWords (key + 4) n

/-- Clear the RC fields of a register word that a read has returned (R41, R43). -/
def State.clearRc (s : State) (key : Nat) : State :=
  match regAt key with
  | some (r, w) =>
    let m := accessMask w (· == .rc) r.fields
    if m = 0 then s
    else
      let sk := s.winKey key
      let old := (s.reg sk).toNat
      s.setReg sk (BitVec.ofNat 32 (old - (old &&& m)))
  | none => s

/-- What follows the pop of a log: a marker of R377 takes the entry that a timestamp queue has freed. -/
def State.afterPop (s : State) (base : Nat) : State :=
  if 0xD1060 ≤ base ∧ base < 0xE5060 ∧ base % 0x1000 = 0x060 then s.tsRefill ((base - 0xD1060) / 0x1000) else s

/-- A 32-bit read of a register (R41, R46, R47): a log's first word pops an entry, the lowest word of a wide value latches the
others, a higher word comes from the latch when it holds the value. -/
def State.readWord (s : State) (who : Initiator) (key : Nat) : Nat × State :=
  let fromLatch (base w n : Nat) (live : Nat) : Nat × State :=
    match s.latch who with
    | some l =>
      if l.base = base then
        ((l.words.getD (w - 1) 0).toNat, if w + 1 = n then s.setLatch who none else s)
      else (live, s)
    | none => (live, s)
  match fifoOf key with
  | some (base, n, empty) =>
    let head := (s.fifo base).head?
    if key = base then
      match head with
      | some e =>
        let s1 := (s.setFifo base (s.fifo base).tail).afterPop base
        ((e.getD 0 0).toNat, if n = 1 then s1 else s1.setLatch who (some ⟨base, e.tail⟩))
      | none => (empty, if n = 1 then s else s.setLatch who (some ⟨base, List.replicate (n - 1) 0⟩))
    else
      let w := (key - base) / 4
      fromLatch base w n (match head with
        | some e => (e.getD w 0).toNat
        | none => 0)
  | none =>
    match regAt key with
    | none => (0, s)
    | some (r, w) =>
      if 1 < r.words then
        if w = 0 then (s.liveWord key, s.setLatch who (some ⟨key, s.liveWords (key + 4) (r.words - 1)⟩))
        else fromLatch (key - 4 * w) w r.words (s.liveWord key)
      else (s.liveWord key, s.clearRc key)

/-- A read command: the gate, then one word, or for a 64-bit access the low word and then the high one (R33). A sub-word read
returns its bytes with the side effects of the whole read. `sub` is the byte offset in the word. -/
def State.readAccess (s : State) (who : Initiator) (key sub : Nat) (size : AccessSize) : State :=
  s.gate who key false (sub := sub) fun s =>
    match size with
    | .dword =>
      let (lo, s1) := s.readWord who key
      let (hi, s2) := s1.readWord who (key + 4)
      s2.respond (lo + 2 ^ 32 * hi) false
    | .word => let (v, s1) := s.readWord who key; s1.respond v false
    | .half => let (v, s1) := s.readWord who key; s1.respond (v / 2 ^ (8 * sub) % 2 ^ 16) false
    | .byte => let (v, s1) := s.readWord who key; s1.respond (v / 2 ^ (8 * sub) % 2 ^ 8) false

/-! ## Writes -/

/-- What a write of `v` leaves in one word, and whether LOCK keeps it from changing a RW/L field (R41, R44, R45). `own` are
the bits this command writes. -/
def State.mergeWord (s : State) (key w v own : Nat) (fs : List FieldDef) : Nat × Bool :=
  let old := (s.reg (s.winKey key)).toNat
  let lock := s.flag (F.PG_CTRL_LOCK (plainKey key / 0x1000))
  let rwl := accessMask w (· == .rwl) fs &&& own
  let rw := (accessMask w (· == .rw) fs &&& own) ||| (if lock then 0 else rwl)
  let w1c := accessMask w (· == .w1c) fs &&& own
  let w1s := accessMask w (· == .w1s) fs &&& own
  let new := ((old &&& (allBits - rw)) ||| (v &&& rw)) &&& (allBits - (v &&& w1c)) ||| (v &&& w1s)
  (new, lock && ((old ^^^ v) &&& rwl) != 0)

/-- Write words of one register, from word `w`, and record code 0x01 once, at the word `at_` written, where LOCK kept a change out. -/
def State.commitWords (s : State) (who : Initiator) (key at_ w own : Nat) (fs : List FieldDef) : List Nat → Bool → State
  | [], locked => if locked then s.accessErr 0x01 who at_ else s
  | v :: vs, locked =>
    let m := s.mergeWord (key + 4 * w) w v own fs
    (s.setReg (s.winKey (key + 4 * w)) (BitVec.ofNat 32 m.1)).commitWords who key at_ (w + 1) own fs vs (locked || m.2)

/-- The value a write of `vs` is checked with: what would be stored, and the write-only fields as written. -/
def State.checkValue (s : State) (key own : Nat) (fs : List FieldDef) : Nat → List Nat → Nat
  | _, [] => 0
  | w, v :: vs =>
    let wo := accessMask w (· == .wo) fs
    let m := (s.mergeWord (key + 4 * w) w v own fs).1
    ((m &&& (allBits - wo)) ||| (v &&& wo)) + 2 ^ 32 * s.checkValue key own fs (w + 1) vs

/-- Write a whole register whose first word is at `key` by a write of the word `at_`: refused by its range or its own rule, else
committed. -/
def State.writeReg (s : State) (who : Initiator) (key at_ own : Nat) (r : RegDef) (vs : List Nat) : State :=
  let x := s.checkValue key own r.fields 0 vs
  match s.refuseWrite who key x with
  | some code => s.accessErr code who at_
  | none => (s.commitWords who key at_ 0 own r.fields vs false).afterWrite key

/-- A 32-bit write of a register word by `who`; `own` are the bits this command writes (R32, R38, R48). -/
def State.writeWord (s : State) (who : Initiator) (key v own : Nat) : State :=
  match regAt key with
  | none => s
  | some (r, w) =>
    if r.fields.all (fun f => f.acc == .ro) then s.accessErr 0x02 who key
    else if r.words = 1 then s.writeReg who key key own r [v]
    else
      let base := key - 4 * w
      let buf := s.wrBuf who base
      if w + 1 < r.words then s.setWrBuf who base ((w, BitVec.ofNat 32 v) :: buf.filter (fun e => e.1 != w))
      else
        let low (i : Nat) : Nat :=
          match buf.find? (fun e => e.1 == i) with
          | some e => e.2.toNat
          | none => s.liveWord (base + 4 * i)
        (s.setWrBuf who base []).writeReg who base key own r ((List.range (r.words - 1)).map low ++ [v])

/-- A write command: the gate; a sub-word write is discarded with code 0x03; a 64-bit write is the low word and then the high
one (R33). `own` gives the bits this command writes, by key; `sub` is the byte offset in the word. -/
def State.writeAccess (s : State) (who : Initiator) (key sub : Nat) (size : AccessSize) (v : Nat) (own : Nat → Nat) : State :=
  s.gate who key true (sub := sub) fun s =>
    match size with
    | .byte | .half => (s.accessErr 0x03 who key sub).respond 0 false
    | .word => (s.writeWord who key (v % 2 ^ 32) (own key)).respond 0 false
    | .dword =>
      ((s.writeWord who key (v % 2 ^ 32) (own key)).writeWord who (key + 4) (v / 2 ^ 32) (own (key + 4))).respond 0 false

/-- A write of a register of one word that is a row of the command table: the gate, the checks, the write of the bits `own`,
and `k`, which is given the state before the write and the state after it. -/
def State.rowWrite (s : State) (who : Initiator) (key v own : Nat) (k : State → State → State) : State :=
  s.gate who key true fun s =>
    match regAt key with
    | none => s.respond 0 false
    | some (r, w) =>
      match s.refuseWrite who key (s.checkValue key own r.fields w [v]) with
      | some code => (s.accessErr code who key).respond 0 false
      | none => (k s (s.commitWords who key key w own r.fields [v] false)).respond 0 false

/-- A write of a command register by `who`: the gate, then the command's own effect. -/
def State.command (s : State) (who : Initiator) (key : Nat) (k : State → State) : State :=
  s.gate who key true fun s => (k s).respond 0 false

end Sys2Proof.Machine
end

