-- ==== Sys2Proof/Machine/Axis.lean ====
section
/-! DEFINITION. The meanings of the axes' commands (08_segments_and_axes.md R243 to R258). A command written to AXIS_CMD waits for the
next profile update, which samples it (R247). -/

namespace Sys2Proof.Machine

/-- AXIS_ENABLE (R247). -/
def execAxisEnable (who : Initiator) (axis : Fin 8) (s : State) : Res :=
  let key := axisPage axis.val * 0x1000 + 0x040
  .next (s.rowWrite who key ((s.reg key).toNat ||| 1) 1 fun _ new =>
    let a := new.axis axis.val
    if a.mode = .disabled then new.setAxis axis.val { a with mode := .idle, restAt := new.now } else new)

/-- AXIS_DISABLE (R247, R260): at once, whatever the state. -/
def execAxisDisable (who : Initiator) (axis : Fin 8) (s : State) : Res :=
  let key := axisPage axis.val * 0x1000 + 0x040
  .next (s.rowWrite who key ((s.reg key).toNat / 2 * 2) 1 fun _ new =>
    let a := new.axis axis.val
    new.setAxis axis.val { a.rest new.now with mode := .disabled, cause := 0, resumable := false, homed := false, deferred := false,
                                               stall := 0, cmds := [], steps := 0, owed := 0 })

/-- A command written to AXIS_CMD. -/
def State.axisWrite (s : State) (who : Initiator) (n cmd : Nat) : State :=
  s.command who (axisPage n * 0x1000 + 0x048) fun s =>
    let a := s.axis n
    s.setAxis n { a with cmds := a.cmds ++ [(who, cmd)] }

/-- MOVE_ABS (R248). -/
def execMoveAbs (who : Initiator) (axis : Fin 8) (s : State) : Res := .next (s.axisWrite who axis.val 1)

/-- MOVE_REL (R248). -/
def execMoveRel (who : Initiator) (axis : Fin 8) (s : State) : Res := .next (s.axisWrite who axis.val 2)

/-- RUN_TABLE (R252). -/
def execRunTable (who : Initiator) (axis : Fin 8) (s : State) : Res := .next (s.axisWrite who axis.val 3)

/-- AXIS_STOP (R250). -/
def execAxisStop (who : Initiator) (axis : Fin 8) (s : State) : Res := .next (s.axisWrite who axis.val 4)

/-- QUICK_STOP (R247). -/
def execQuickStop (who : Initiator) (axis : Fin 8) (s : State) : Res := .next (s.axisWrite who axis.val 5)

/-- AXIS_RESUME (R250). -/
def execAxisResume (who : Initiator) (axis : Fin 8) (s : State) : Res := .next (s.axisWrite who axis.val 6)

/-- HOME (R254). -/
def execAxisHome (who : Initiator) (axis : Fin 8) (s : State) : Res := .next (s.axisWrite who axis.val 7)

/-- CLEAR_FAULT (R247). -/
def execClearFault (who : Initiator) (axis : Fin 8) (s : State) : Res := .next (s.axisWrite who axis.val 8)

/-- SET_POS (R260). -/
def execSetPos (who : Initiator) (axis : Fin 8) (s : State) : Res := .next (s.axisWrite who axis.val 9)

/-- PROFILE_UPDATE (R247): the update that comes every 1 ms. -/
def execProfileUpdate (axis : Fin 8) (s : State) : Res := s.live 0x0A1 <| .next (s.profileUpdate axis.val)

/-- STEP_UPDATE (R244): one interval of 10 µs. -/
def execStepUpdate (axis : Fin 8) (s : State) : Res := s.live 0x0A1 <| .next (s.stepUpdate axis.val)

/-- ENCODER_EDGE (R245): the inputs' new levels. A that leads B counts up (log 62). -/
def execEncoderEdge (axis : Fin 8) (a b : Bool) (s : State) : Res :=
  .next (
    let n := axis.val
    let x := s.axis n
    let s1 := s.setAxis n { x with encA := a, encB := b }
    if s.ioLost || !s.pagePowered 0x0A1 || !s.flag (F.AXIS_CTRL_ENC_EN n) || (a == x.encA && b == x.encB) then s1
    else if a != x.encA && b != x.encB then
      let s2 := s1.bump (F.AXIS_ENC_ERR_COUNT n)
      if s.flag (F.AXIS_CTRL_ENC_FAULT n) then s2.axisFault n 7 else s2
    else
      let up := (if a != x.encA then a != b else a == b) != s.flag (F.AXIS_CTRL_ENC_INV n)
      s1.setAxis n { x with encA := a, encB := b, enc := pos32 (if up then x.enc + 1 else x.enc - 1) })

/-- LIMIT_EVT (R246, R251, R255): a limit's pin is at a level. What the pin held before this instant is settled first, then the edge is
noted. -/
def execLimitEvt (axis : Fin 8) (pos high : Bool) (s : State) : Res :=
  .next (
    let n := axis.val
    let put (s : State) (x : AxisInput) : State :=
      let a := s.axis n
      s.setAxis n (if pos then { a with limPos := x } else { a with limNeg := x })
    let pin (s : State) : AxisInput := if pos then (s.axis n).limPos else (s.axis n).limNeg
    let settle (s : State) : State :=
      let (x, change) := (pin s).settle s.now (1000 * s.getF (F.AXIS_DEBOUNCE_LIM_US n))
      let s1 := put s x
      if change.isSome && s1.limActive n pos && s1.pagePowered 0x0A1 then s1.limitTrip n pos else s1
    let s1 := settle s
    settle (put s1 ((pin s1).edge s1.now (s1.axis n).enc high)))

/-- HOME_CHANGE (R246, R254, R256): the home pin, which has been at one level, is at `high`; where it has not been at `old`, nothing
happens (log 8). -/
def execHomeChange (axis : Fin 8) (old high : Bool) (s : State) : Res :=
  .next (
    let n := axis.val
    if (s.axis n).homePin.raw != old then s else
    let settle (s : State) : State :=
      let (x, change) := (s.axis n).homePin.settle s.now (1000 * s.getF (F.AXIS_DEBOUNCE_HOME_US n))
      let s1 := s.setAxis n { s.axis n with homePin := x }
      match change with
      | some first => if s1.pagePowered 0x0A1 then s1.homeEdge n (s1.homeActive n) first else s1
      | none => s1
    let s1 := settle s
    settle (s1.setAxis n { s1.axis n with homePin := (s1.axis n).homePin.edge s1.now (s1.axis n).enc high }))

/-- STALL (R257): the difference has been beyond the window for STALL.MS updates. -/
def execStall (axis : Fin 8) (s : State) : Res :=
  s.live 0x0A1 <|
  .next (
    let n := axis.val
    if s.flag (F.AXIS_CTRL_STALL_EN n) && decide (s.getF (F.AXIS_STALL_MS n) ≤ (s.axis n).stall) then s.axisFault n 4 else s)

/-- IDLE_CURRENT (R258): the axis has been at rest for DELAY_MS; a motion command that waits for the update is evaluated first. -/
def execIdleCurrent (axis : Fin 8) (s : State) : Res :=
  s.live 0x0A1 <|
  .next (
    let n := axis.val
    let a := s.axis n
    let still := a.mode == .disabled || a.mode == .idle || a.mode == .fault
    if s.flag (F.AXIS_CTRL_IDLE_EN n) && still && !(a.cmds.any fun c => axisMotion c.2) && decide (a.restAt + 1000000 * s.getF (F.AXIS_IDLE_DELAY_MS n) ≤ s.now) then
      s.setAxis n { a with reduced := true }
    else s)

/-- IO_SUPPLY_LOST (R549): each enabled axis faults at its next update. -/
def execIoSupplyLost (s : State) : Res := .next { s with ioLost := true }

/-- IO_SUPPLY_RESTORED (R549). -/
def execIoSupplyRestored (s : State) : Res := .next { s with ioLost := false }

end Sys2Proof.Machine
end

