-- ==== Sys2Proof/Machine/Casc.lean ====
section
/-! DEFINITION. The meanings of the pair and cascade commands (13_pairs_and_cascades.md). A message's command takes the next message
of its type from the queue of port 21 (R391 to R394). -/

namespace Sys2Proof.Machine

/-- PAIR_EN (R382, R383, R404): EN written 1 starts the role machine and the PRP counter; EN written 0 makes the unit single. -/
def execPairEn (who : Initiator) (enable : Bool) (s : State) : Res :=
  .next (s.rowWrite who 0xF0040 ((s.reg 0xF0040).toNat / 2 * 2 + bit enable) 1 fun old new =>
    let now := new.flag F.PAIR_CTRL_EN
    if now = old.flag F.PAIR_CTRL_EN then new
    else if now then
      (new.setF F.PAIR_PRP_NEXT_SEQ (0x8000 + 0x4000 * new.getF F.RADIO_CTRL_UNIT)).setRole 1
    else
      let off := new.setRole 0
      { off with pair := { off.pair with pos := none, beyond := [], ring := [], unconf := [], heldOut := [], handTo := none } })

/-- START_TIMEOUT (R383): PROMOTE_SF whole superframes for unit A, twice as many for unit B; the journal begins at JSEQ 0. -/
def execStartTimeout (s : State) : Res :=
  s.live 0x0F0 <|
  let s1 := s.pairBoundary
  .next (
    if s1.role = 1 ∧ s1.getF F.PAIR_CTRL_PROMOTE_SF * (1 + s1.getF F.RADIO_CTRL_UNIT) < s1.pair.startSf then
      (s1.setRole 5).setF F.PAIR_JSEQ_JSEQ 0
    else s1)

/-- PROMOTION (R387, R401). -/
def execPromotion (s : State) : Res := s.live 0x0F0 <| .next s.pairBoundary.promoteDue

/-- ACTIVE_ALONE (R383). -/
def execActiveAlone (s : State) : Res :=
  s.live 0x0F0 <|
  let s1 := s.pairBoundary
  .next (if s1.role = 4 ∧ s1.getF F.PAIR_CTRL_PROMOTE_SF ≤ s1.pair.quietSf then s1.setRole 5 else s1)

/-- A command of PAIR_CMD: refused in a role in which it is not accepted (R415). -/
def State.pairCommand (s : State) (who : Initiator) (ok : State → Bool) (k : State → State) : State :=
  s.command who 0xF0048 fun s => if ok s then k s else s.accessErr 0x11 who 0xF0048

/-- SWITCH (R403): queued requests end CANCELLED; HANDOFF follows when every transaction has been confirmed. -/
def execPairSwitch (who : Initiator) (s : State) : Res :=
  .next (s.pairCommand who (fun s => s.role == 4 && s.pair.handoff.isNone) fun s =>
    let s1 := s.cancelQueue
    { s1 with pair := { s1.pair with handoff := some (s.taiNs + 20000000 * s.getF F.PAIR_CTRL_PROMOTE_SF), handSent := false } }.handTry)

/-- PROMOTE (R387): refused while the current or the last superframe held evidence. -/
def execPairPromote (who : Initiator) (s : State) : Res :=
  .next (s.pairCommand who (fun s => (s.role == 2 || s.role == 3) && !s.pair.evidNow && !s.pair.evidPrev) State.promote)

/-- RESYNC_CMD (R415): a unit in STANDBY asks for a full copy. -/
def execResyncCmd (who : Initiator) (s : State) : Res :=
  .next (s.pairCommand who (fun s => s.role == 3) State.resyncAsk)

/-- SWITCH_FAIL (R403). -/
def execSwitchFail (s : State) : Res :=
  s.live 0x0F0 <|
  .next (match s.pair.handoff with
    | some t =>
      if t < s.taiNs then { s with pair := { s.pair with handoff := none, handSent := false } }.raise 0x0F0 7 else s
    | none => s)

/-- KEEPALIVE_SEND (R407). -/
def execKeepaliveSend (s : State) : Res :=
  s.live 0x0F0 <|
  .next (
    if s.flag F.CASC_CTRL_EN && s.sendDue s.pair.kaSent (1000000 * s.getF F.CASC_KEEPALIVE_MS) then
      { s with pair := { s.pair with kaSent := some s.taiNs } }.sendMsg 0x01 .group 0 (s.keepaliveBody 0)
    else s)

/-- KEEPALIVE (R383, R407). -/
def execKeepalive (s : State) : Res :=
  s.live 0x0F0 <|
  .next (s.onMsg 0x01 fun m s =>
    let k := 2 * m.member + m.unit
    let s1 := { s with pair := { s.pair with heard := Assoc.put (fun _ => none) s.pair.heard k (some s.now) } }.reachEval m.member
    let role := wordAt m.body 0 % 8
    if s1.fromPartner m && (role == 4 || role == 5) then s1.partnerShown else s1)

/-- PAIR_KEEPALIVE_SEND (R393, R403). -/
def execPairKeepaliveSend (s : State) : Res :=
  s.live 0x0F0 <|
  .next (
    if s.role != 0 && s.sendDue s.pair.pkaSent 1000000 then
      ({ s with pair := { s.pair with pkaSent := some s.taiNs } }.sendMsg 0x10 .partner 0
        (s.keepaliveBody (s.getF F.PAIR_PRP_NEXT_SEQ))).handTry
    else s)

/-- PAIR_KEEPALIVE (R383, R385, R388). -/
def execPairKeepalive (s : State) : Res :=
  s.live 0x0F0 <|
  .next (s.onMsg 0x10 fun m s =>
    if !s.fromPartner m || !m.link then s
    else
      let s1 := { s with pair := { s.pair with evidNow := true, kaNow := true, quietSf := 0, linkAt := some s.now } }
      let role := wordAt m.body 0 % 8
      if role = 4 ∨ role = 5 then s1.partnerShown
      else if s1.role = 4 ∧ role = 2 then s1.setRole 5
      else if s1.role = 5 ∧ role = 3 then s1.setRole 4
      else s1)

/-- JOURNAL (R397, R400). -/
def execJournal (s : State) : Res :=
  s.live 0x0F0 <|
  .next (s.onMsg 0x11 fun m s => if (s.role == 2 || s.role == 3) && s.fromPartner m then s.journalRx m.body else s)

/-- JACK (R399): one in the tick in which PAIR_CONF.US elapses is in time. -/
def execJack (s : State) : Res :=
  s.live 0x0F0 <|
  .next (s.onMsg 0x12 fun m s => if s.fromPartner m then s.confirm fun j => j == wordAt m.body 0 else s)

/-- JREQ (R397). -/
def execJreq (s : State) : Res :=
  s.live 0x0F0 <|
  .next (s.onMsg 0x13 fun m s => if s.pairActive && s.fromPartner m then s.resend (wordAt m.body 0) else s)

/-- CONF_TIMEOUT (R399): each transaction sent more than PAIR_CONF.US ago counts as confirmed. -/
def execConfTimeout (s : State) : Res :=
  s.live 0x0F0 <|
  let late := (s.pair.unconf.filter fun u => decide (u.2 + 1000 * s.getF F.PAIR_CONF_US < s.now)).map fun u => u.1
  .next (
    if late.isEmpty then s
    else ((s.bumpBy F.PAIR_CONF_TIMEOUTS_COUNT late.length).raise 0x0F0 4).confirm fun j => late.elem j)

/-- RESYNC (R400). -/
def execResync (s : State) : Res :=
  s.live 0x0F0 <|
  .next (s.onMsg 0x14 fun m s =>
    if s.pairActive && s.fromPartner m then ((s.bump F.PAIR_RESYNCS_COUNT).raise 0x0F0 5).copyStore.raise 0x0F0 6 else s)

/-- STATE_REQ (R398): the machine's committed slot as a transaction of SOURCE 6. -/
def execStateReq (s : State) : Res :=
  s.live 0x0F0 <|
  .next (s.onMsg 0x15 fun m s =>
    if s.pairActive && s.fromPartner m then
      let k := wordAt m.body 0 % 256
      match s.committedSlot k with
      | (some (i, b), s1) => (s1.jnoteObj 0x09 (2 * k + i) b).journal 6
      | (none, s1) => s1
    else s)

/-- HANDOFF (R403). -/
def execHandoff (s : State) : Res :=
  s.live 0x0F0 <|
  .next (s.onMsg 0x16 fun m s =>
    if (s.role == 2 || s.role == 3) && s.fromPartner m then
      { s with pair := { s.pair with handTo := some (wordAt m.body 0) } }.handNow
    else s)

/-- HANDOFF_ACK (R403): the old active unit is STANDBY, its journal at the last JSEQ. -/
def execHandoffAck (s : State) : Res :=
  s.live 0x0F0 <|
  .next (s.onMsg 0x17 fun m s =>
    if s.role == 4 && s.pair.handSent && s.fromPartner m then
      { s with pair := { s.pair with pos := some (s.getF F.PAIR_JSEQ_JSEQ), beyond := [] } }.setRole 3
    else s)

/-- WITNESS_QUERY (R386): once at the start of a superframe that follows one without evidence. -/
def execWitnessQuery (s : State) : Res :=
  s.live 0x0F0 <|
  let s1 := s.pairBoundary
  .next (
    if s1.pair.askDue && s1.getF F.PAIR_CTRL_WITNESS != 0 then
      { s1 with pair := { s1.pair with askDue := false } }.sendMsg 0x08 (.member (s1.getF F.PAIR_CTRL_WITNESS_MEMBER)) 0
        (bytesLE (s1.member + 16 * s1.otherLetter) 4)
    else s1)

/-- WITNESS_Q (R386). -/
def execWitnessQ (s : State) : Res :=
  s.live 0x0F0 <|
  .next (s.onMsg 0x08 fun m s =>
    let w := wordAt m.body 0
    s.sendMsg 0x09 (.member m.member) 0 (bytesLE (w % 32 + 256 * bit (s.heardRecently (2 * (w % 16) + bitsOf w 4 4))) 4))

/-- WITNESS_A (R385, R386). -/
def execWitnessA (s : State) : Res :=
  s.live 0x0F0 <|
  .next (s.onMsg 0x09 fun m s =>
    let w := wordAt m.body 0
    if s.role == 0 || w % 16 != s.member || bitsOf w 4 4 != s.otherLetter then s
    else
      let alive := bitAt w 8
      let s1 := { s.setFlag F.PAIR_STAT_WITNESS_ALIVE alive with pair := { s.pair with answer := some alive } }
      if alive && s1.getF F.PAIR_CTRL_WITNESS != 0 then s1.evidence else s1)

/-- REASM_TIMEOUT (R394). -/
def execReasmTimeout (s : State) : Res := s.live 0x0F0 <| .next s.reasmExpire

/-- SNAP_REQ (R410): answered by the lead's active unit. -/
def execSnapReq (s : State) : Res :=
  s.live 0x0F0 <|
  .next (s.onMsg 0x06 fun m s => if s.isLead && !s.notActive then s.sendSnapshot m.member else s)

/-- SNAP_END (R410). -/
def execSnapEnd (s : State) : Res := s.live 0x0F0 <| .next (s.onMsg 0x07 fun m s => s.endSnapshot (wordAt m.body 0))

/-- HEALTH_SEND (R405): over the pair link and to the group. -/
def execHealthSend (s : State) : Res :=
  s.live 0x0F0 <|
  .next (
    if s.role != 0 && s.sendDue s.pair.healthAt (1000000 * s.getF F.PAIR_HEALTH_CFG_PERIOD_MS) then
      let b := s.healthRecord
      let p := { s.pair with healthAt := some s.taiNs, reportSeq := s.pair.reportSeq + 1, sectRx := 0, mismatch0 := s.zone.mismatches }
      ({ s with pair := p }.sendMsg 0x0C .partner 0 b).sendMsg 0x0C .group 0 b
    else s)

/-- HEALTH (R405): the partner's record is shown. -/
def execHealth (s : State) : Res :=
  s.live 0x0F0 <|
  .next (s.onMsg 0x0C fun m s =>
    let w := bytesWords m.body
    let ok := m.body.length == 32 && w.getD 0 0 / 65536 == 0xD501 && crc32 (m.body.take 28) == w.getD 7 0
    let s1 := (w.zipIdx).foldl (fun s x => s.setReg (0xF0070 + 4 * x.2) (BitVec.ofNat 32 x.1)) s
    if s.fromPartner m && ok then
      if (List.range 8).any fun i => (s.reg (0xF0070 + 4 * i)).toNat != w.getD i 0 then s1.raise 0x0F0 8 else s
    else s)

/-- SELF_TEST (R405): a standby's tests of its tiles, in free contexts. -/
def execSelfTest (s : State) : Res :=
  s.live 0x0F0 <|
  .next (
    if (s.role == 2 || s.role == 3) && s.sendDue s.pair.testAt (1000000000 * s.getF F.PAIR_HEALTH_CFG_TEST_S) then
      (List.range 16).foldl (fun s n => (s.tileTestStart n).getD s) { s with pair := { s.pair with testAt := some s.taiNs } }
    else s)

/-- SEND (R412): refused while BUSY, and on a unit that is not active. -/
def execMoveSend (who : Initiator) (dest : Fin 16) (machine : Fin 256) (s : State) : Res :=
  .next (s.command who 0xF1064 fun s =>
    let m := machine.val
    if s.flag F.CASC_MOVE_STAT_BUSY || s.notActive then s.accessErr 0x11 who 0xF1064
    else if !bitAt (s.getF F.CASC_STAT_REACHABLE) dest.val then s.moveDone 1
    else
      match s.committedSlot m with
      | (some (_, b), s1) =>
        let s2 := { s1.setFlag F.CASC_MOVE_STAT_BUSY true with pair := { s1.pair with move := some (m, s1.now) } }
        s2.sendMsg 0x0A (.member dest.val) 0 (wordsBytes (s2.memWords (machAddr m) 3 ++ [0]) ++ b)
      | (none, s1) => s1.moveDone 3)

/-- MOVE (R163, R412): an import waits while the machine has a frame in process. -/
def execMove (s : State) : Res :=
  s.live 0x0F0 <|
  let busy := match s.takeMsg 0x0A (s.mboxQ (s.getF F.SWCH_P21_RX_QUEUE)).level with
    | (some m, s1) =>
      match s1.machineOf (wordAt m.body 4) (wordAt m.body 8 % 65536) with
      | some k => s1.inProcess k
      | none => false
    | (none, _) => false
  .next (
    if busy then s
    else s.onMsg 0x0A fun m s =>
      let b := m.body.drop 16
      let (r, s1) := match s.machineOf (wordAt m.body 4) (wordAt m.body 8 % 65536) with
        | some k => s.moveImport k b
        | none => (2, s)
      s1.sendMsg 0x0B (.member m.member) 0 (bytesLE (r + 256 * bitsOf (wordAt b 0) 15 8) 2))

/-- MOVE_ACK (R412): one in the tick in which 100 ms elapse is in time. -/
def execMoveAck (s : State) : Res :=
  s.live 0x0F0 <|
  .next (s.onMsg 0x0B fun m s =>
    match s.pair.move with
    | some (k, t) => if bitsOf (leValue m.body) 15 8 = k ∧ s.now ≤ t + 100000000 then s.moveDone (leValue m.body % 16) else s
    | none => s)

/-- MOVE_TIMEOUT (R412). -/
def execMoveTimeout (s : State) : Res :=
  s.live 0x0F0 <|
  .next (match s.pair.move with
    | some (_, t) => if t + 100000000 < s.now then s.moveDone 1 else s
    | none => s)

/-- MEMBER_UNREACHABLE (R407). -/
def execMemberUnreachable (member : Fin 16) (s : State) : Res := s.live 0x0F0 <| .next (s.reachEval member.val)

end Sys2Proof.Machine
end

