-- ==== Sys2Proof/Machine/Filter.lean ====
section
/-! DEFINITION. The filter of the fix engine (05_fix_engine.md R133, R136 to R144, R162): the state vector and its satellites, the
macro-operations of a run, fix records. What the rules fix is computed exactly and rounded to FP64 once; floating-point results whose
steps the spec does not give are Config.filterNums of everything they can depend on (log 10). -/

namespace Sys2Proof.Machine

/-! ## The state vector (R132, R137) -/

/-- A state: block (0 baseline and velocity, 1 ionospheric delay, 2 L1 ambiguity, 3 L5 ambiguity) and axis or satellite. -/
abbrev StKey := Nat × Nat

/-- The states of a filter in the order of R137. -/
def FilterState.keys (f : FilterState) : List StKey :=
  let others := (f.sats.filter fun e => e.sat != f.ref).map fun e => e.sat
  (List.range 6).map (fun i => (0, i)) ++ [1, 2, 3].flatMap fun b => others.map fun x => (b, x)

/-- The place of entry (`i`, `j`), `i` ≤ `j`, in an upper triangle of `n` rows packed row by row (R132). -/
def triPlace (n i j : Nat) : Nat := i * n - i * (i - 1) / 2 + (j - i)

/-- An upper triangle packed row by row. -/
def triPack (n : Nat) (f : Nat → Nat → Nat) : List Nat := (List.range n).flatMap fun i => (List.range (n - i)).map fun d => f i (i + d)

/-- The state of a key, an FP64 word. -/
def FilterState.value (f : FilterState) (k : StKey) : Nat := f.x.getD (f.keys.idxOf k) 0

/-- The covariance of two keys, an FP64 word. -/
def FilterState.cov (f : FilterState) (a b : StKey) : Nat :=
  let i := f.keys.idxOf a
  let j := f.keys.idxOf b
  f.p.getD (triPlace (nstate f.k) (min i j) (max i j)) 0

/-- States set to a value and a variance, without correlation. -/
def FilterState.renew (f : FilterState) (l : List (StKey × Nat × Nat)) : FilterState :=
  let new (k : StKey) : Option (Nat × Nat) := (l.find? fun e => e.1 == k).map fun e => e.2
  let ks := f.keys
  { f with
    x := ks.map fun k => match new k with
      | some e => e.1
      | none => f.value k
    p := triPack ks.length fun i j =>
      let a := ks.getD i (0, 0)
      let b := ks.getD j (0, 0)
      match new a, new b with
      | none, none => f.cov a b
      | some e, _ => if i = j then e.2 else 0
      | none, some _ => 0 }

/-- How a state against reference `ref` comes of the states of an earlier filter: their signed sum, or none where it begins anew (R136). -/
def FilterState.terms (old : FilterState) (ref : Nat) (k : StKey) : Option (List (Int × StKey)) :=
  let has (x : Nat) : Bool := old.sats.any fun e => e.sat == x
  if k.1 = 0 then some [(1, k)]
  else if !has k.2 || !has ref then none
  else if ref = old.ref then some [(1, k)]
  else if k.2 = old.ref then some [(-1, (k.1, ref))]
  else some [(1, k), (-1, (k.1, ref))]

/-- The filter over other satellites and another reference (R136): differenced exactly, states that begin set by `start`. -/
def FilterState.remake (old : FilterState) (sats : List FilterSat) (ref : Nat) (start : StKey → Nat × Nat) : FilterState :=
  let f := { old with sats := sats, ref := ref }
  let ks := f.keys.map fun k => (k, old.terms ref k)
  let sum (l : List Int) : Nat := fp64Of (l.foldl (· + ·) 0) fp64Unit
  let x := ks.map fun t => match t.2 with
    | some l => sum (l.map fun c => c.1 * fp64Num (old.value c.2))
    | none => (start t.1).1
  let p := triPack ks.length fun i j =>
    match ks[i]?, ks[j]? with
    | some (_, some a), some (_, some b) =>
      sum (a.flatMap fun c => b.map fun d => c.1 * d.1 * fp64Num (old.cov c.2 d.2))
    | some (k, none), some _ => if i = j then (start k).2 else 0
    | _, _ => 0
  { f with x := x, p := p }

/-! ## Observables (R124, R136, R139) -/

/-- 2^-29 ms of light time, m. -/
def lightMsM : Rat := 299792458 / (2 ^ 29 * 1000)

/-- The wavelength of a band, m. -/
def waveLen (band : Nat) : Rat := 299792458 / carrierHz band

def FilterSat.active (e : FilterSat) (band : Nat) : Bool := if band = 0 then e.l1 else e.l5
def FilterSat.lli (e : FilterSat) (band : Nat) : Nat := if band = 0 then e.lli1 else e.lli5

/-- The observables of a signal of a frame. -/
def RunCtx.sig (c : RunCtx) (sat band : Nat) : Option SigObs :=
  match c.frame.sats.find? fun o => o.sat == sat with
  | some o => o.sigs.find? fun g => g.band == band
  | none => none

/-- The base record of a signal. -/
def RunCtx.baseRec (c : RunCtx) (sat band : Nat) : Option MeasRec :=
  match c.base with
  | some b => b.recs.find? fun r => r.sat == sat && r.band == band
  | none => none

/-- A signal is present in both the frame and the base set. -/
def RunCtx.hasBoth (c : RunCtx) (sat band : Nat) : Bool := (c.sig sat band).isSome && (c.baseRec sat band).isSome

/-- What a base record's range changes by until the machine's sample instant, m: its own rate over SAMPLE_OFFSET (R136; log 108). -/
def RunCtx.baseMove (c : RunCtx) (r : MeasRec) : Rat := -(r.doppler / 256 * waveLen r.band) * (c.frame.offset / 1000000000)

/-- The machine's pseudorange less the base's at the sample instant, m. -/
def RunCtx.codeDiff (c : RunCtx) (sat band : Nat) : Option Rat :=
  match c.sig sat band, c.baseRec sat band with
  | some g, some r =>
    match g.pr with
    | some v => if r.range = 0 then none else some (v * lightMsM - (toSigned 64 r.range / 1024 + c.baseMove r))
    | none => none
  | _, _ => none

/-- The machine's phase range less the base's at the sample instant, m. -/
def RunCtx.phaseDiff (c : RunCtx) (sat band : Nat) : Option Rat :=
  match c.sig sat band, c.baseRec sat band with
  | some g, some r => g.ph.map fun v => v * lightMsM - (r.aligned / 65536 * waveLen band + c.baseMove r)
  | _, _ => none

/-- Code minus phase of a satellite against the reference, cycles (R137). -/
def RunCtx.codeMinusPhase (c : RunCtx) (ref sat band : Nat) : Option Rat :=
  match c.codeDiff sat band, c.phaseDiff sat band, c.codeDiff ref band, c.phaseDiff ref band with
  | some p, some f, some pr, some fr => some ((p - f - (pr - fr)) / waveLen band)
  | _, _, _, _ => none

/-- The geometry-free phase combination of a satellite, m (R139). -/
def RunCtx.geomFree (c : RunCtx) (sat : Nat) : Option Rat :=
  match c.phaseDiff sat 0, c.phaseDiff sat 1 with
  | some a, some b => some (a - b)
  | _, _ => none

/-- The wide-lane combination of a satellite, cycles: wide-lane phase less narrow-lane code (R139). -/
def RunCtx.wideLane (c : RunCtx) (sat : Nat) : Option Rat :=
  match c.phaseDiff sat 0, c.phaseDiff sat 1, c.codeDiff sat 0, c.codeDiff sat 1 with
  | some a, some b, some p, some q =>
    let f1 : Rat := carrierHz 0
    let f5 : Rat := carrierHz 1
    some (a / waveLen 0 - b / waveLen 1 - (f1 * p + f5 * q) / (f1 + f5) * ((f1 - f5) / 299792458))
  | _, _, _, _ => none

/-- A satellite as the loaded state holds it. -/
def RunCtx.stored (c : RunCtx) (sat : Nat) : Option FilterSat := c.loaded.find? fun e => e.sat == sat

/-- The tests of R139 that need no combination: LLI, HALF_CYCLE, SLIP of the base record. An ambiguity that is not active in the state had
its half cycle unresolved or was marked for this run. -/
def RunCtx.lockSlip (c : RunCtx) (sat band : Nat) : Bool :=
  match c.sig sat band, c.baseRec sat band with
  | some g, some r => r.slip || match c.stored sat with
    | some e => g.lli % 4 != e.lli band || e.active band == g.half
    | none => false
  | _, _ => false

/-- A combination departs from its stored FP32 value by more than a limit; a word of 0 is no stored value. -/
def departs (now : Option Rat) (word : Nat) (limit : Rat) : Bool :=
  match now with
  | some v => word != 0 && (let d := v - fp32Num word / fp32Unit; decide (limit < d) || decide (limit < -d))
  | none => false

/-- A number as an FP64 word and as an FP32 word. -/
def ratFp64 (q : Rat) : Nat := fp64Of q.num q.den
def ratFp32 (q : Rat) : Nat := fp32Of q.num q.den

/-- A number rounded to the nearest integer. -/
def ratRound (q : Rat) : Int := roundDiv q.num q.den

/-! ## Numbers left open -/

/-- Everything that a run's floating-point steps read (R130), for Config.filterNums. -/
def State.runNums (s : State) (c : RunCtx) : List Nat :=
  let obs := c.frame.sats.flatMap fun o => o.sat :: o.sigs.flatMap fun g =>
    [g.band, ofSigned 64 (g.pr.getD 0), ofSigned 64 (g.ph.getD 0), ofSigned 64 (g.rate.getD 0), bit g.pr.isSome, bit g.ph.isSome,
     bit g.rate.isSome, g.cn0, bit g.half]
  let base := match c.base with
    | some b => [b.pos.1, b.pos.2.1, b.pos.2.2] ++ b.recs.flatMap fun r => r.words ++ [ofSigned 64 r.elev, Config.sine r.elev]
    | none => []
  let par := (List.range 8).map fun i => (s.reg (0x6005C + 4 * i)).toNat
  let f := c.filter
  [f.epoch, c.frame.epoch, ofSigned 64 c.frame.offset, f.member, f.ref] ++ par ++ (f.sats.map fun e => e.sat) ++ f.x ++ f.p ++ obs ++ base

/-- What a floating-point step computes: `op` names it, `args` is what it reads besides. -/
def State.runCalc (s : State) (c : RunCtx) (op : Nat) (args : List Nat) : List Nat := Config.filterNums op (args ++ s.runNums c)

/-- A vector and covariance that a floating-point step computes. -/
def State.runUpdate (s : State) (c : RunCtx) (op : Nat) (args : List Nat) : FilterState :=
  let n := nstate c.filter.k
  let v := (s.runCalc c op args).map fun x => x % 2 ^ 64
  { c.filter with x := fit n v, p := fit (n * (n + 1) / 2) (v.drop n) }

/-- The start of a state (R137): an ambiguity at code minus phase with 10,000 cycles²; what the spec does not state is left open. -/
def State.startOf (s : State) (c : RunCtx) (ref : Nat) (k : StKey) : Nat × Nat :=
  let v := s.runCalc c 0x03 [k.1, k.2]
  let open_ (i : Nat) : Nat := v.getD i 0 % 2 ^ 64
  if 2 ≤ k.1 then
    (match c.codeMinusPhase ref k.2 (k.1 - 2) with
      | some q => ratFp64 q
      | none => open_ 0, 0x40C3880000000000)
  else (open_ 0, open_ 1)

/-- A fresh filter: no satellites; where its six states begin is left open. -/
def State.freshFilter (s : State) (c : RunCtx) (seq : Nat) : FilterState :=
  let c1 := { c with filter := { seq := seq, member := s.member, epoch := c.frame.epoch } }
  s.runUpdate c1 0x01 []

/-! ## DDFORM (R136, R153, R162) -/

/-- The reference satellite (R136): kept from the state while common with both bands and no slip, else the highest that is; where none is,
the highest common satellite (DESIGN CHOICE, log 108). -/
def RunCtx.chooseRefSat (c : RunCtx) (common : List Nat) : Nat :=
  let clean (x : Nat) : Bool := c.hasBoth x 0 && c.hasBoth x 1 && !c.lockSlip x 0 && !c.lockSlip x 1
  let elev (x : Nat) : Int := match c.baseRec x 0 with
    | some r => r.elev
    | none => ((c.baseRec x 1).map fun r => r.elev).getD (-90)
  let highest (l : List Nat) : Option Nat := firstBy (fun a b => decide (elev b < elev a)) l
  if common.elem c.filter.ref ∧ clean c.filter.ref then c.filter.ref
  else match highest (common.filter clean) with
    | some x => x
    | none => (highest common).getD c.filter.ref

/-- A common satellite as the state will hold it (R132): ambiguities active, LLI of the frame, the combinations where they can be formed. -/
def RunCtx.satNow (c : RunCtx) (x : Nat) : FilterSat :=
  let old := (c.stored x).getD ⟨x, false, false, 0, 0, 0, 0⟩
  let resolved (b : Nat) : Bool := c.hasBoth x b && !(((c.sig x b).map fun g => g.half).getD true)
  let lli (b : Nat) : Nat := ((c.sig x b).map fun g => g.lli % 4).getD (old.lli b)
  { sat := x, l1 := resolved 0, l5 := resolved 1, lli1 := lli 0, lli5 := lli 1,
    gf := ((c.geomFree x).map ratFp32).getD old.gf, wl := ((c.wideLane x).map ratFp32).getD old.wl }

/-- The filter over the common satellites (R136): a reference that joins is first given states against the old one, where that is common. -/
def State.formStates (s : State) (c : RunCtx) (common : List Nat) : FilterState :=
  let ref := c.chooseRefSat common
  let f := c.filter
  let has (x : Nat) : Bool := f.sats.any fun e => e.sat == x
  let f1 := if !has ref ∧ has f.ref ∧ common.elem f.ref then f.remake (f.sats ++ [c.satNow ref]) f.ref (s.startOf c f.ref) else f
  f1.remake (common.map c.satNow) ref (s.startOf c ref)

/-- Double differences against one base set (R136). -/
def State.ddAgainst (s : State) (c : RunCtx) (b : BaseSet) (min_ : Nat) : RunCtx :=
  let c1 := { c with base := some b }
  let common := ((c.frame.sats.map fun o => o.sat).filter fun x => c1.hasBoth x 0 || c1.hasBoth x 1).take 48
  if common.length < (if min_ = 0 then 5 else min_) then { c1 with common := common, nodd := 2 }
  else { c1 with common := common, nodd := 0, filter := { (s.formStates c1 common) with member := b.member } }

/-- The base-pair solution of a foreign member. -/
def State.pairOf (s : State) (member : Nat) : BasePair := Assoc.get (fun _ => {}) s.solv.pairs member

def State.setPair (s : State) (member : Nat) (p : BasePair) : State :=
  { s with solv := { s.solv with pairs := Assoc.put (fun _ => {}) s.solv.pairs member p } }

/-- The integers of a base pair are usable for an epoch (R162): ten consecutive validated epochs, the last of them that epoch or the one
before (DEDUCED, log 109). -/
def State.pairUsable (s : State) (p : BasePair) (epoch : Nat) : Bool :=
  decide (10 ≤ p.count) && (p.epoch == epoch || p.epoch + s.epochMs == epoch)

/-- The integer of a signal of a base pair against a reference. -/
def BasePair.integer (p : BasePair) (ref x band : Nat) : Option Int :=
  let n (y : Nat) : Option Int := if y = p.ref then some 0 else (p.ints.find? fun e => e.1 == 2 * y + band).map fun e => e.2
  match n x, n ref with
  | some a, some b => some (a - b)
  | _, _ => none

/-- A surveyed coordinate, m. -/
def coordM (v : Nat) : Rat := toSigned 64 v / 10000

/-- A baseline from one surveyed position to another, m, along axis `i`. -/
def between (a b : Nat × Nat × Nat) (i : Nat) : Rat :=
  match i with
  | 0 => coordM b.1 - coordM a.1
  | 1 => coordM b.2.1 - coordM a.2.1
  | _ => coordM b.2.2 - coordM a.2.2

/-- The filter of a machine moved from a foreign base set to the local one (R162): the pair's integers and the surveyed baseline between the
antennas are added. -/
def FilterState.rebase (f : FilterState) (p : BasePair) (foreign own : BaseSet) : FilterState :=
  let move (k : StKey) (w : Nat) : Nat :=
    let v : Rat := (fp64Num w : Rat) / fp64Unit
    if k.1 = 0 ∧ k.2 < 3 then ratFp64 (v + between own.pos foreign.pos k.2)
    else if 2 ≤ k.1 then match p.integer f.ref k.2 (k.1 - 2) with
      | some n => ratFp64 (v + n)
      | none => w
    else w
  { f with member := own.member, x := List.zipWith move f.keys f.x }

/-- The states of ambiguities for which a base pair has no integer begin anew (DEDUCED, log 109). -/
def State.renewUnpaired (s : State) (c : RunCtx) (p : BasePair) (old : FilterState) : FilterState :=
  let lost := (c.filter.keys.filter fun k => decide (2 ≤ k.1) && old.keys.elem k && (p.integer old.ref k.2 (k.1 - 2)).isNone)
  c.filter.renew (lost.map fun k => (k, s.startOf c c.filter.ref k))

/-- In a base-pair run the baseline is held at the surveyed value and the antennas at rest (R162). -/
def holdBaseline (f : FilterState) (base rover : BaseSet) : FilterState :=
  f.renew ((List.range 6).map fun i => ((0, i), if i < 3 then ratFp64 (between base.pos rover.pos i) else 0, 0))

/-- DDFORM (R136, R153, R162): against the base set that the run uses; NODD where it is missing or not valid. -/
def State.opDdform (s : State) (c : RunCtx) (min_ : Nat) : RunCtx :=
  match s.baseOf (s.runMember c.frame) c.frame.epoch with
  | none => { c with base := none, nodd := 1 }
  | some b =>
    if !b.valid then { c with base := some b, nodd := 1 }
    else
      match c.frame.pair with
      | some member =>
        let c1 := match s.baseOf member c.frame.epoch with
          | some rover => { c with filter := holdBaseline c.filter b rover }
          | none => c
        s.ddAgainst c1 b min_
      | none =>
        let p := s.pairOf b.member
        match s.baseOf s.member c.frame.epoch with
        | some own =>
          if b.member ≠ s.member ∧ own.valid ∧ s.pairUsable p c.frame.epoch then
            let d := s.ddAgainst { c with filter := c.filter.rebase p b own } own min_
            if d.nodd = 0 then { d with filter := s.renewUnpaired d p c.filter } else d
          else s.ddAgainst c b min_
        | none => s.ddAgainst c b min_

/-! ## SLIPDET (R139) -/

/-- A satellite fails the geometry-free test or the wide-lane test of A. -/
def State.comboSlip (s : State) (c : RunCtx) (a x : Nat) : Bool :=
  match c.stored x with
  | some e =>
    (bitAt a 0 && departs (c.geomFree x) e.gf (s.getF F.SOLV_SLIP_GF_MM / 1000)) ||
      (bitAt a 1 && departs (c.wideLane x) e.wl (s.getF F.SOLV_SLIP_MW / 100))
  | none => false

/-- The states that restart where signals slipped (R139); a slip of the reference restarts every ambiguity of its band. -/
def RunCtx.slipKeys (c : RunCtx) (marks : List (Nat × Nat)) : List StKey :=
  let slipped (x b : Nat) : Bool := marks.elem (x, b) || marks.elem (c.filter.ref, b)
  c.filter.keys.filter fun k =>
    if 2 ≤ k.1 then slipped k.2 (k.1 - 2) else k.1 == 1 && slipped k.2 0 && slipped k.2 1

/-- SLIPDET (R139): the signals marked slipped, whose ambiguities restart (R137). A combination marks both signals of its satellite. -/
def State.opSlipdet (s : State) (c : RunCtx) (a : Nat) : RunCtx :=
  let signals := c.common.flatMap fun x => [(x, 0), (x, 1)]
  let marks := signals.filter fun e => c.hasBoth e.1 e.2 && (c.lockSlip e.1 e.2 || s.comboSlip c a e.1)
  { c with slips := marks, filter := c.filter.renew ((c.slipKeys marks).map fun k => (k, s.startOf c c.filter.ref k)) }

/-! ## UPDATE and CHECK (R138, R140) -/

/-- A signal has the observable of a kind: 0 code, 1 phase, 2 Doppler. -/
def RunCtx.measured (c : RunCtx) (kind x band : Nat) : Bool :=
  c.hasBoth x band && match c.sig x band with
    | some g => if kind = 0 then (c.codeDiff x band).isSome else if kind = 1 then g.ph.isSome else g.rate.isSome
    | none => false

/-- The rows of a measurement kind: signals of the common satellites, differenced against the reference (R136, R138). -/
def RunCtx.rows (c : RunCtx) (kind : Nat) : List (Nat × Nat) :=
  (c.common.filter fun x => x != c.filter.ref).flatMap fun x =>
    [(x, 0), (x, 1)].filter fun e => c.measured kind e.1 e.2 && c.measured kind c.filter.ref e.2

/-- One row (R138): beyond the limit it is skipped, else applied. Its innovation is in 2^-16 σ; σ is the SOLV_SIGMA value over the sine of the
base record's elevation (R137), which runNums holds. -/
def State.updateRow (s : State) (kind limit : Nat) (c : RunCtx) (e : Nat × Nat) : RunCtx :=
  let n := (s.runCalc c (0x500 + kind) [e.1, e.2]).getD 0 0
  if limit * 65536 < 10 * n then (if kind = 1 then { c with skips := c.skips ++ [e] } else c)
  else { c with filter := s.runUpdate c (0x510 + kind) [e.1, e.2], innovs := c.innovs ++ [n], phase := c.phase || kind == 1 }

/-- UPDATE (R138): code, phase or Doppler rows, one at a time. -/
def State.opUpdate (s : State) (c : RunCtx) (a b : Nat) : RunCtx :=
  let wanted := match c.frame.pair with
    | some _ => true
    | none => s.flag (F.SOLV_MCFG_DOPPLER c.frame.machine)
  if a = 2 ∧ (!wanted || !c.frame.doppler) then c
  else (c.rows a).foldl (s.updateRow a (if b = 0 then 50 else b)) c

/-- The filter restarted from the frame's code measurements (R140): every ambiguity and ionosphere state begins anew. -/
def State.codeRestart (s : State) (c : RunCtx) : FilterState :=
  let f := c.filter
  let v := (s.runCalc c 0x06 []).map fun x => x % 2 ^ 64
  { f with sats := [], x := fit 6 v, p := fit 21 (v.drop 6) }.remake f.sats f.ref (s.startOf c f.ref)

/-- CHECK (R140): the mean of the squares of the run's normalised innovations against the limit. -/
def State.opCheck (s : State) (c : RunCtx) (b : Nat) : RunCtx :=
  let limit := if b = 0 then 250 else b
  let sum := c.innovs.foldl (fun a n => a + n * n) 0
  if limit * c.innovs.length * 2 ^ 32 < 10 * sum then
    { c with restart := true, diverged := true, phase := false, filter := s.codeRestart c }
  else c

/-! ## Ambiguities (R133, R141, R142) -/

/-- The ambiguities of a filter that are active. -/
def FilterState.ambs (f : FilterState) : List StKey :=
  f.keys.filter fun k => decide (2 ≤ k.1) && f.sats.any fun e => e.sat == k.2 && e.active (k.1 - 2)

/-- Active ambiguities whose float variance is 1 cycle² or less: FP64 words from 0 to 1.0 (R133). -/
def FilterState.sharpAmbs (f : FilterState) : Nat := (f.ambs.filter fun k => decide (f.cov k k ≤ 0x3FF0000000000000)).length

/-- BRANCH's condition (R133). -/
def State.branchTaken (s : State) (c : RunCtx) (cond : Nat) : Bool :=
  match cond with
  | 0 => true
  | 1 => c.nodd != 0
  | 2 => decide (c.filter.sharpAmbs < s.getF F.SOLV_PAR_MIN_AMB)
  | _ => c.restart

/-- Keys as numbers. -/
def keyNums (l : List StKey) : List Nat := l.flatMap fun k => [k.1, k.2]

/-- DECOR (R141): the set to be fixed is every active ambiguity on the first pass, what the retries left after; its factors and transforms
are numbers left open. -/
def State.opDecor (s : State) (c : RunCtx) : RunCtx :=
  let set := if c.retries = 0 then c.filter.ambs else c.set
  { c with set := set, decor := s.runCalc c 0x07 (keyNums set) }

/-- SEARCH (R141): the nodes that the search needs, the two best squared norms and the two integer vectors; the node limit ends it. -/
def State.opSearch (s : State) (c : RunCtx) (b : Nat) : RunCtx :=
  let limit := if b = 0 then s.getF F.SOLV_SEARCH_NODES else b
  let v := s.runCalc c 0x08 (keyNums c.set ++ c.decor)
  let n := c.set.length
  let ints (l : List Nat) : List Int := (fit n l).map fun x => toSigned 32 (x % 2 ^ 32)
  { c with searched := decide (v.getD 0 0 ≤ limit), norms := (v.getD 1 0, v.getD 2 0), best := ints (v.drop 3), second := ints (v.drop (3 + n)) }

/-- The set without the `n` ambiguities of largest float variance (R142). -/
def FilterState.dropLargest (f : FilterState) : Nat → List StKey → List StKey
  | 0, l => l
  | n + 1, l =>
    match firstBy (fun a b => decide (f.cov b b < f.cov a a)) l with
    | some k => f.dropLargest n (l.erase k)
    | none => l

/-- VALIDATE (R142): the run after it, with its next script index. The bootstrapped success rate, 1/65,536, is a number left open. -/
def State.opValidate (s : State) (c : RunCtx) (a b : Nat) : RunCtx :=
  let psucc := (s.runCalc c 0x09 (keyNums c.set ++ c.decor)).getD 0 0
  if c.searched && decide (s.getF F.SOLV_VALID_RATIO * c.norms.1 ≤ c.norms.2 * 256) && decide (s.getF F.SOLV_VALID_PSUCC ≤ psucc) then
    { c with valid := true, failed := false, index := c.index + 1 }
  else if c.retries < a ∧ s.getF F.SOLV_PAR_MIN_AMB + s.getF F.SOLV_PAR_DROP ≤ c.set.length then
    { c with retries := c.retries + 1, set := c.filter.dropLargest (s.getF F.SOLV_PAR_DROP) c.set, valid := false, failed := true, index := b }
  else { c with valid := false, failed := true, index := c.index + 1 }

/-! ## FIXOUT (R143, R144) -/

/-- STATUS of R143: the first row of its table that holds. -/
def RunCtx.status (c : RunCtx) : Nat :=
  if c.nodd ≠ 0 then 0 else if c.restart || !c.phase then 1 else if c.valid then 3 else 2

/-- CAUSE of R144. -/
def RunCtx.cause (c : RunCtx) : Nat :=
  if c.nodd ≠ 0 then c.nodd else if c.diverged then 4 else if c.failed then 3 else 0

/-- The solution reported (R143): the filter's, or for FIXED the one conditioned on the integers, whose floating-point steps are open. -/
def State.solution (s : State) (c : RunCtx) : FilterState :=
  if c.status = 3 then s.runUpdate c 0x0A (keyNums c.set ++ c.best.map (ofSigned 32)) else c.filter

/-- The origin of the site frame, 0.1 mm (R169). -/
def State.siteOrigin (s : State) : Int × Int × Int :=
  (toSigned 64 (s.getF F.ZONE_ORIGIN_X_ORIGIN), toSigned 64 (s.getF F.ZONE_ORIGIN_Y_ORIGIN), toSigned 64 (s.getF F.ZONE_ORIGIN_Z_ORIGIN))

/-- Axis `a` of the site frame along ECEF coordinate `i`. -/
def State.siteAxis (s : State) (a i : Nat) : Rat := (Config.enuAxis s.siteOrigin a i : Rat) / 2 ^ 40

/-- A vector's component along axis `a` of the site frame. -/
def State.along (s : State) (a : Nat) (v : Nat → Rat) : Rat := s.siteAxis a 0 * v 0 + s.siteAxis a 1 * v 1 + s.siteAxis a 2 * v 2

/-- The number of an FP64 word. -/
def fpRat (w : Nat) : Rat := (fp64Num w : Rat) / fp64Unit

/-- The covariance of a solution's baseline along axes `a` and `b` of the site frame, m². -/
def State.siteCov (s : State) (f : FilterState) (a b : Nat) : Rat :=
  s.along a fun i => s.along b fun j => fpRat (f.cov (0, i) (0, j))

/-- Position along axis `a`, mm: base antenna plus baseline in the site frame (R143), rounded to the nearest. -/
def State.sitePos (s : State) (c : RunCtx) (f : FilterState) (a : Nat) : Int :=
  let o := s.siteOrigin
  let p := ((c.base.map fun b => b.pos).getD (0, 0, 0))
  ratRound (1000 * s.along a fun i => fpRat (f.value (0, i)) + between (ofSigned 64 o.1, ofSigned 64 o.2.1, ofSigned 64 o.2.2) p i)

/-- A factor of 1/256 times the square root of a variance in m², mm, rounded to the nearest and saturated (R143). -/
def protectLevel (factor : Nat) (v : Rat) : Nat :=
  min 0xFFFF (ratRound (factor * (Nat.sqrt (ratRound (v * 1000000 * 2 ^ 32)).toNat : Rat) / (256 * 65536))).toNat

/-- The larger eigenvalue of a symmetric 2 × 2 matrix, to 2^-52 of its unit. -/
def eigenMax (a b d : Rat) : Rat :=
  let root : Rat := (Nat.sqrt (ratRound (((a - d) * (a - d) + 4 * b * b) * 2 ^ 104)).toNat : Rat) / 2 ^ 52
  (a + d + root) / 2

/-- A velocity along axis `a`, mm/s; not available where it does not fit. -/
def State.siteVel (s : State) (f : FilterState) (a : Nat) : Nat :=
  codeField 16 (some (ratRound (1000 * s.along a fun i => fpRat (f.value (0, i + 3)))))

/-- The fix record of a run (R143, R144). -/
def State.fixRecord (s : State) (c : RunCtx) : FixRecord :=
  let f := s.solution c
  let none_ := c.nodd != 0
  let or (d v : Nat) : Nat := if none_ then d else v
  { member := s.member, machine := c.frame.machine, status := c.status, late := decide (c.frame.deadline < s.now),
    part := c.valid && decide (0 < c.retries), shared := c.filter.member != s.member, source := false, reset := c.restart,
    cause := c.cause, epoch := c.frame.epoch, e := or 0x80000000 (field 32 (s.sitePos c f 0)), n := or 0x80000000 (field 32 (s.sitePos c f 1)),
    u := or 0x80000000 (field 32 (s.sitePos c f 2)),
    hpl := or 0xFFFF (protectLevel (s.getF F.SOLV_PL_K_KH) (eigenMax (s.siteCov f 0 0) (s.siteCov f 0 1) (s.siteCov f 1 1))),
    vpl := or 0xFFFF (protectLevel (s.getF F.SOLV_PL_K_KV) (s.siteCov f 2 2)),
    ve := or 0x8000 (s.siteVel f 0), vn := or 0x8000 (s.siteVel f 1), nsat := or 0 c.common.length,
    namb := if c.status = 3 then c.set.length else 0, latency := min 0xFFFF ((s.now - c.frame.accepted) / 10000), seq := c.frame.seq }

/-- A run emits its record; a base-pair run (R162) is no machine's and emits none. -/
def State.emitRun (s : State) (c : RunCtx) (r : FixRecord) (moved : Bool) : State := if c.frame.pair.isSome then s else s.emitFix r moved

/-- A run abandoned by ABORT after a translation fault (R143, R463): STATUS NONE, CAUSE 5; a filter command that waited goes on (R163). -/
def State.abandonRun (s : State) (n k : Nat) : State :=
  let c := s.ctx n k
  let r := s.fixRecord { c with nodd := 5, valid := false }
  let s1 := (s.setCtx n k noCtx).dtuUnpause 1 (2 * n + k)
  (if c.fixed || c.test then s1 else s1.emitRun c r false).solvRetry

/-! ## LOAD and STORE (R131, R133) -/

/-- A translation fault inside a macro-operation (R151): the context pauses. -/
def State.pauseCtx (s : State) (n k : Nat) : State :=
  let c := s.ctx n k
  let rec_ := 0x80000000 + k * 0x40000000 + c.index * 0x1000000 + opOf (c.script.getD c.index 0) * 0x10000 + 1
  (((s.setCtx n k { c with st := .paused }).dtuPause 1 (2 * n + k)).raise (0x061 + n) 0).setReg (0x6104C + 0x1000 * n)
    (BitVec.ofNat 32 rec_)

/-- Begin a run with a state, or with a fresh filter (R133), and step past LOAD. -/
def State.loadRun (s : State) (n k : Nat) (st : Option FilterState) (reset : Bool) (slot seq : Nat) : State :=
  let c := s.ctx n k
  let fresh := reset || c.frame.restart || match st with
    | some f => decide (f.epoch + 2000 < c.frame.epoch)
    | none => true
  let filt := match st, fresh with
    | some f, false => f
    | _, _ => s.freshFilter c seq
  s.setCtx n k
    { c with frame := { c.frame with restart := c.frame.restart || reset }, filter := filt, loaded := filt.sats, slot := slot, restart := fresh,
             dropped := false, index := c.index + 1, st := .running }

/-- LOAD (R131, R133): read both slots and choose by R131's rule; a base-pair run loads its pair's filter. -/
def State.opLoad (s : State) (n k : Nat) : State :=
  let c := s.ctx n k
  match c.frame.pair with
  | some member =>
    let p := s.pairOf member
    s.loadRun n k (if p.filter.sats.isEmpty then none else some p.filter) false 0 0
  | none =>
    let m := c.frame.machine
    let (a, s1) := s.clientRead 1 (2 * n + k) (s.slotVa m 0) 0x18000
    let (b, s2) := if a.fault.isSome then (a, s1) else s1.clientRead 1 (2 * n + k) (s.slotVa m 1) 0x18000
    if a.fault.isSome || b.fault.isSome then s2.pauseCtx n k
    else
      let top := chooseSlot a.data b.data
      let st := if (s2.smach m).discard then none else top.map fun e => parseSlot s2.fullEpoch e.2
      let reset := s2.flag (F.SOLV_MCFG_RESET m)
      (s2.setFlag (F.SOLV_MCFG_RESET m) false).loadRun n k st reset ((top.map fun e => e.1).getD 1) ((top.map fun e => wordAt e.2 4).getD 0)

/-- The state that a run commits: signals of skipped phase rows are stored as not active, so that the next run marks them (R138). -/
def RunCtx.commitState (c : RunCtx) : FilterState :=
  let sat (e : FilterSat) : FilterSat := { e with l1 := e.l1 && !c.skips.elem (e.sat, 0), l5 := e.l5 && !c.skips.elem (e.sat, 1) }
  { c.filter with seq := c.filter.seq + 1, epoch := c.frame.epoch, obsSeq := c.frame.seq, nfixed := if c.valid then c.set.length else 0,
                  sats := c.filter.sats.map sat }

/-- What a base-pair run leaves (R162): its filter, and its integers where VALIDATE passed, counted over consecutive epochs. -/
def State.storePair (s : State) (c : RunCtx) (member : Nat) : State :=
  let p := s.pairOf member
  let n := if !c.valid then 0 else if p.epoch + s.epochMs = c.frame.epoch then p.count + 1 else 1
  let ints := (c.set.zip c.best).map fun e => (2 * e.1.2 + (e.1.1 - 2), e.2)
  s.setPair member (if c.valid then ⟨c.commitState, ints, c.filter.ref, n, c.frame.epoch⟩ else { p with filter := c.commitState, count := 0 })

/-- STORE: write the other slot and commit (R131); nothing for a machine that has left mode 1 (R122). -/
def State.opStore (s : State) (n k : Nat) : State :=
  let c := s.ctx n k
  let m := c.frame.machine
  let f := c.commitState
  let done (s : State) : State := s.setCtx n k { c with filter := f, index := c.index + 1, st := .running }
  match c.frame.pair with
  | some member => done (s.storePair c member)
  | none =>
    if c.dropped then done s
    else
      match s.slotWrite 1 (2 * n + k) (s.slotVa m (1 - c.slot)) (f.slot m) true with
      | (some _, s1) => s1.pauseCtx n k
      | (none, s1) =>
        let s2 := done ((s1.setSmach m { s1.smach m with epoch := some c.frame.epoch, discard := false }).setF
          (F.SOLV_MCFG_BASE_MEMBER m) f.member)
        -- the state digest of an active unit (R398)
        (s2.jnoteObj 0x08 m (wordsBytes [f.seq % 2 ^ 32, f.epoch % 2 ^ 32, wordAt (f.slot m) 0x1C])).journal 6

end Sys2Proof.Machine
end

