-- ==== Sys2Proof/Machine/MemAccess.lean ====
section
/-! DEFINITION. Accesses of an initiator to any internal address (02_register_pages.md R29 to R35, 15_memory_and_dma.md R450 to
R453, R455), and the mailbox windows (16_mailbox_queues.md R477 to R479). -/

namespace Sys2Proof.Machine

def accessBytes : AccessSize → Nat
  | .byte => 1
  | .half => 2
  | .word => 4
  | .dword => 8

/-! ## Mailbox windows (R477, R486) -/

/-- The host may reach the BAR2 windows: not before host-open, not in SCRAP (R53, R54). -/
def State.hostBar2 (s : State) : Bool := s.rst.hostOpen && s.lifeCycle != .scrap

/-- The checks before an access to a window of queue `q` at byte `off`. -/
def State.windowGate (s : State) (who : Initiator) (q off : Nat) (k : State → State) : State :=
  if !s.reaches who then s
  else if s.rst.held then s.respond 0 true
  else if who == .host && !s.hostBar2 then
    (s.err (if s.pagePowered (mboxPage q) then mboxPage q else 0) 0x04 (some who) (0x41000000 + q * 0x1000 + off)).respond 0 false
  else if !s.pagePowered (mboxPage q) then (s.err 0x000 0x08 (some who) (0x41000000 + q * 0x1000 + off)).respond 0 false
  else k s

/-- A read of queue `q`'s DATA window at byte `off`: a 64-bit read, or one of the low half, pops; the high half comes from the
reader's latch (R46, R477). -/
def State.windowRead (s : State) (who : Initiator) (q off : Nat) (size : AccessSize) : State :=
  s.windowGate who q off fun s =>
    let base := 0x41000000 + q * 0x1000
    let part (v : Nat) : Nat := v / 2 ^ (8 * (off % 4)) % 2 ^ (8 * accessBytes size)
    if 62 ≤ q then (s.err (mboxPage q) 0x07 (some who) (base + off)).respond 0 false
    else if size == .dword then
      let (w, s1) := s.mboxTake q
      s1.respond (w.getD 0).toNat false
    else if off < 4 then
      let (w, s1) := s.mboxTake q
      let v := (w.getD 0).toNat
      (s1.setLatch who (some ⟨base, [BitVec.ofNat 32 (v / 2 ^ 32)]⟩)).respond (part (v % 2 ^ 32)) false
    else
      match s.latch who with
      | some l => if l.base = base then (s.setLatch who none).respond (part (l.words.getD 0 0).toNat) false else s.respond 0 false
      | none => s.respond 0 false

/-- One word to queue `q`; the writer of a word that is held waits for its answer. -/
def State.windowPush (s : State) (who : Initiator) (q v : Nat) (packet : Bool) : State :=
  let n := (s.mboxQ q).held.length
  let s1 := (s.respond 0 false).mboxWrite q (.ini who) (BitVec.ofNat 64 v) packet none
  if n < (s1.mboxQ q).held.length then { s1 with bus := s.bus } else s1

/-- A write of the DATA (or PACKET) window at byte `off` (R48, R477): a low half waits for its high half. -/
def State.windowWrite (s : State) (who : Initiator) (q off : Nat) (size : AccessSize) (v : Nat) (packet : Bool) : State :=
  s.windowGate who q (off + if packet then 8 else 0) fun s =>
    let base := 0x41000000 + q * 0x1000 + (if packet then 8 else 0)
    if 62 ≤ q then (s.err (mboxPage q) 0x07 (some who) (base + off)).respond 0 false
    else
      match size with
      | .byte | .half => (s.err (mboxPage q) 0x03 (some who) (base + off)).respond 0 false
      | .dword => s.windowPush who q (v % 2 ^ 64) packet
      | .word =>
        if off < 4 then (s.setWrBuf who base [(0, BitVec.ofNat 32 v)]).respond 0 false
        else
          match s.wrBuf who base with
          | e :: _ => (s.setWrBuf who base []).windowPush who q (e.2.toNat + 2 ^ 32 * (v % 2 ^ 32)) packet
          | [] => (s.err (mboxPage q) 0x10 (some who) (base + 4)).respond 0 false

/-! ## Any address -/

/-- The tile whose SRAM an address lies in may be read: its PG_STAT.BUSY is 0 (R450). -/
def State.tileQuiet (s : State) (a : Nat) : Bool := !s.pageBusy (0x061 + (a - 0x12000000) / 0x100000)

/-- A read by an initiator at an internal address. Register pages and mailbox windows answer by their own rules; the host
reaches nothing else. -/
def State.memRead (s : State) (who : Initiator) (a : Nat) (size : AccessSize) : State :=
  let n := accessBytes size
  let plain (s : State) : State :=
    let (bad, s1) := (s.lpddrTouch a).eccRead a n none
    if bad then s1.respond 0 (who != .host) else s1.respond (leValue (s1.physBytes a n)) false
  if !s.reaches who then s
  else if s.rst.held then s.respond 0 true
  else
    match s.region a with
    | .regs => s.readAccess who ((a - 0x40000000) / 4 * 4) (a % 4) size
    | .mailbox =>
      let q := (a - 0x41000000) / 0x1000
      if a % 0x1000 < 8 then s.windowRead who q (a % 0x1000) size
      else s.windowGate who q (a % 0x1000) fun s =>
        if 62 ≤ q then (s.err (mboxPage q) 0x07 (some who) a).respond 0 false
        else s.respond (if 0x10 ≤ a % 0x1000 ∧ a % 0x1000 < 0x18 then
            s.mboxLevel q / 2 ^ (8 * (a % 8)) % 2 ^ (8 * n) else 0) false
    | .rom | .retained | .retainedDevice | .fleet | .general | .flash | .lpddr | .pcie =>
      if who == .host then s.decodeError who a else plain s
    | .aster =>
      if who == .host then s.decodeError who a
      else if !s.tileQuiet a then s.respond 0 false
      else if s.flag (F.PG_STAT_WIPED (0x061 + (a - 0x12000000) / 0x100000)) then plain s
      else
        let (v, s1) := s.fresh (2 ^ (8 * n))
        s1.respond v false
    | .frameBuffer | .l2 | .unmapped => s.decodeError who a

/-- A write by an initiator at an internal address. -/
def State.memWrite (s : State) (who : Initiator) (a : Nat) (size : AccessSize) (v : Nat) : State :=
  let n := accessBytes size
  if !s.reaches who then s
  else if s.rst.held then s.respond 0 true
  else
    match s.region a with
    | .regs => s.writeAccess who ((a - 0x40000000) / 4 * 4) (a % 4) size v fun k => allBits - ownedMask k
    | .mailbox =>
      let q := (a - 0x41000000) / 0x1000
      if a % 0x1000 < 0x10 then s.windowWrite who q (a % 8) size v (decide (8 ≤ a % 0x1000))
      else s.windowGate who q (a % 0x1000) fun s =>
        if 62 ≤ q then (s.err (mboxPage q) 0x07 (some who) a).respond 0 false else s.respond 0 false
    | .retained | .general | .lpddr | .pcie =>
      if who == .host then s.decodeError who a else ((s.lpddrTouch a).physWrite a (bytesLE v n)).respond 0 false
    | .fleet | .aster | .retainedDevice => if who == .host then s.decodeError who a else s.directWrite who a
    | .rom | .flash | .frameBuffer | .l2 | .unmapped => s.decodeError who a

end Sys2Proof.Machine
end

