-- ==== Sys2Proof/Machine/Dma.lean ====
section
/-! DEFINITION. Translation and DMA commands (15_memory_and_dma.md R454, R460, R462 to R471, 17_clocks_and_power.md R506). -/

namespace Sys2Proof.Machine

/-! ## Translation -/

/-- Begin an INVAL (R460): the entries it covers leave the cache, but for those that are locked (R467), and BUSY reads 1 until
INVAL_DONE. -/
def State.inval (s : State) (who : Initiator) (c : Fin 8) (page : Option Nat) : State :=
  let key := 0x08044 + 0x1000 * c.val
  s.command who key fun s =>
    if s.mem.dtuInval.any (·.1 == c.val) then s.accessErr 0x11 who key
    else
      { s with mem := { s.mem with dtuCache := s.mem.dtuCache.filter fun e => e.locked || !invalCovers (c.val, page) e,
                                   dtuInval := s.mem.dtuInval ++ [(c.val, page)] } }

/-- INVAL_ALL (R460). -/
def execInvalAll (who : Initiator) (c : Fin 8) (s : State) : Res := .next (s.inval who c none)

/-- INVAL_PAGE (R460): the page at INVAL_VA. -/
def execInvalPage (who : Initiator) (c : Fin 8) (s : State) : Res :=
  .next (s.inval who c (some (s.getF (F.DTU_INVAL_VA_VA c.val) * 0x1000)))

/-- INVAL_DONE (R460): once no entry that it covers remains, BUSY falls and event 2 is raised. -/
def execInvalDone (c : Fin 8) (s : State) : Res :=
  s.live (0x008 + c.val) <|
  .next (if s.mem.dtuInval.any (·.1 == c.val) && s.mem.dtuCache.all fun e => e.ctx != c.val || !s.dtuStale e then
      { s with mem := { s.mem with dtuInval := s.mem.dtuInval.filter (·.1 != c.val) } }.raise (0x008 + c.val) 2
    else s)

/-- RESUME of a paused client (R462, R463). -/
def State.clientResume (s : State) (client index : Nat) : State :=
  let s1 := s.dtuUnpause client index
  match client with
  | 0 => s.dmaResume index
  | 1 => s1.setCtx (index / 2) (index % 2) { s1.ctx (index / 2) (index % 2) with st := .ready }
  | 2 =>
    match s1.solv.cmd with
    | some (kind, m) => s1.solvTransfer kind m
    | none => s1
  | 3 =>
    match s1.plan.search with
    | some x => s1.planSearch x
    | none => s1
  | 4 => { s1 with seg := { s1.seg with paused := none } }
  | 6 => s1.axisRead index
  | 7 => s.ringResume index
  | 0x0B => s1.shadowResume
  | 0x0C => s1.zoneLoadGo
  | _ => s1

/-- ABORT of a paused client's work (R462, R463). -/
def State.clientAbort (s : State) (client index : Nat) : State :=
  let s1 := s.dtuUnpause client index
  match client with
  | 0 => s.dmaAbort index
  | 1 => s.abandonRun (index / 2) (index % 2)
  | 2 => s1.solvDone 2
  | 3 =>
    match s1.plan.search with
    | some x => (s1.planEnd x { outcome := 9 }).resStart
    | none => s1
  | 4 =>
    match s1.seg.paused with
    | some m => { s1 with seg := { s1.seg with paused := none } }.segGiveUpOne m
    | none => s1
  | 6 => s1.axisFault index 6
  | 7 => s.ringAbort index
  | 0x0B => s1.shadowAbort
  | 0x0C => { s1 with zone := { s1.zone with result := 5, loading := false } }
  | _ => s1

/-- A write of DTU_RESUME: a client that is not paused is ignored with code 0x11 (R462). -/
def State.dtuCommand (s : State) (who : Initiator) (client index : Nat) (k : State → State) : State :=
  s.command who 0x08108 fun s => if s.dtuIsPaused client index then k s else s.accessErr 0x11 who 0x08108

/-- DTU_RESUME (R462). -/
def execDtuResume (who : Initiator) (client index : Fin 256) (s : State) : Res :=
  .next (s.dtuCommand who client.val index.val fun s => s.clientResume client.val index.val)

/-- DTU_ABORT (R462). -/
def execDtuAbort (who : Initiator) (client index : Fin 256) (s : State) : Res :=
  .next (s.dtuCommand who client.val index.val fun s => s.clientAbort client.val index.val)

/-! ## DMA commands (R471) -/

/-- A write of a channel's CMD: refused with code 0x11 in a state that does not take it. -/
def State.dmaCommand (s : State) (who : Initiator) (c : Fin 16) (ok : State → Bool) (k : State → State) : State :=
  let key := 0x10044 + 0x1000 * (c.val / 2) + 0x40 * (c.val % 2)
  s.command who key fun s => if ok s then k s else s.accessErr 0x11 who key

/-- DMA_START. -/
def execDmaStart (who : Initiator) (c : Fin 16) (s : State) : Res :=
  .next (s.dmaCommand who c
    (fun s => s.flag (F.DMA_CTRL_EN (c.val / 2) (c.val % 2)) && ((s.dmaCh c.val).state == .idle || (s.dmaCh c.val).state == .error))
    fun s => s.setDmaCh c.val { state := .running, desc := s.getF (F.DMA_DESC_ADDR_ADDR (c.val / 2) (c.val % 2)) * 32 })

/-- DMA_STOP: the channel stands at a burst boundary; a paused one keeps the STOP. -/
def execDmaStop (who : Initiator) (c : Fin 16) (s : State) : Res :=
  .next (s.dmaCommand who c (fun s => (s.dmaCh c.val).state == .running || (s.dmaCh c.val).state == .paused) fun s =>
    let x := s.dmaCh c.val
    s.setDmaCh c.val (if x.state == .paused then { x with stopKept := true } else { x with state := .stopped }))

/-- DMA_RESUME. -/
def execDmaResume (who : Initiator) (c : Fin 16) (s : State) : Res :=
  .next (s.dmaCommand who c (fun s => (s.dmaCh c.val).state == .stopped || (s.dmaCh c.val).state == .paused) fun s =>
    s.dmaResume c.val)

/-- DMA_ABORT. -/
def execDmaAbort (who : Initiator) (c : Fin 16) (s : State) : Res :=
  .next (s.dmaCommand who c (fun s => (s.dmaCh c.val).state != .idle) fun s => s.dmaAbort c.val)

/-! ## Bursts (R466, R468, R469) -/

/-- The accesses that a burst makes at register pages and mailbox windows: address and size, ascending. -/
def pieces : Nat → Nat → Nat → List (Nat × AccessSize)
  | 0, _, _ => []
  | f + 1, a, n =>
    if n = 0 then []
    else
      let size : AccessSize := if a % 8 = 0 ∧ 8 ≤ n then .dword else if a % 4 = 0 ∧ 4 ≤ n then .word else .byte
      (a, size) :: pieces f (a + accessBytes size) (n - accessBytes size)

/-- The bytes of a burst's source, and whether an uncorrectable word was met. `host` is what host memory holds there. -/
def State.burstRead (s : State) (a n : Nat) (host : List Byte) : List Byte × Bool × State :=
  match s.region a with
  | .regs | .mailbox =>
    (pieces n a n).foldl (fun (acc : List Byte × Bool × State) p =>
      let t := acc.2.2.memRead .dma p.1 p.2
      (acc.1 ++ bytesLE t.bus.data.toNat (accessBytes p.2), false, t)) ([], false, s)
  | .pcie => ((host ++ (s.physBytes (a + host.length) (n - host.length))).take n, false, s)
  | .aster => if s.tileQuiet a then
      let (bad, s1) := s.eccRead a n none
      (s1.physBytes a n, bad, s1)
    else (List.replicate n 0, false, s)
  | _ =>
    let (bad, s1) := s.eccRead a n none
    (s1.physBytes a n, bad, s1)

/-- Write a burst at its destination. -/
def State.burstWrite (s : State) (a : Nat) (bytes : List Byte) : State :=
  match s.region a with
  | .regs | .mailbox =>
    (pieces bytes.length a bytes.length).foldl (fun s p =>
      s.memWrite .dma p.1 p.2 (leValue ((bytes.drop (p.1 - a)).take (accessBytes p.2)))) s
  | _ => s.dmaPut a bytes

/-- The bytes that an ascending byte-by-byte copy writes: where the destination lies `gap` bytes above the source inside the
burst, bytes already written are read again. -/
def ripple (gap : Nat) (l : List Byte) : List Byte :=
  (List.range l.length).map fun i => l.getD (if gap = 0 then i else i % gap) 0

/-- One burst of a channel with a descriptor read: translate, move, advance DONE; the last burst ends the descriptor. -/
def State.dmaMove (s : State) (c : Nat) (host : List Byte) : State :=
  let x := s.dmaCh c
  let sva := x.src + x.done
  let dva := x.dst + x.done
  let page (va : Nat) : Nat := 0x1000 - va % 0x1000
  let n := min (min 256 (x.len - x.done)) (min (if x.op = 1 then 256 else page sva) (if x.op = 2 then 256 else page dva))
  let finish (s : State) : State :=
    if (s.dmaCh c).done < x.len then s
    else if x.op = 2 then
      match s.clientAddr 0 c x.dst true with
      | (.inl k, s1) => s1.dmaFault c k
      | (.inr pa, s1) => (s1.burstWrite pa (bytesLE ((s.dmaCh c).crc.toNat ^^^ 0xFFFFFFFF) 4)).dmaDone c
    else s.dmaDone c
  if x.status ≠ 0 then s.dmaFail c x.status
  else if n = 0 then finish s
  else
    match (if x.op = 1 then (.inr 0, s) else s.clientAddr 0 c sva false) with
    | (.inl k, s1) => s1.dmaFault c k
    | (.inr pa, s1) =>
      match (if x.op = 2 then (.inr 0, s1) else s1.clientAddr 0 c dva true) with
      | (.inl k, s2) => s2.dmaFault c k
      | (.inr pd, s2) =>
        let moved (s : State) : State := s.setDmaCh c { s.dmaCh c with done := x.done + n }
        if x.op = 1 then
          let pat := bytesLE x.src 8
          finish (moved (s2.burstWrite pd ((List.range n).map fun i => pat.getD ((x.done + i) % 8) 0)))
        else
          let (bytes, bad, s3) := s2.burstRead pa n host
          if bad then s3.dmaFail c 2
          else if x.op = 2 then
            finish (moved (s3.setDmaCh c { s3.dmaCh c with crc := BitVec.ofNat 32 (crc32From (s3.dmaCh c).crc.toNat bytes) }))
          else finish (moved (s3.burstWrite pd (if pa < pd ∧ pd < pa + n then ripple (pd - pa) bytes else bytes)))

/-- Read the descriptor that a channel has reached (R468), then move its first burst. -/
def State.dmaFetch (s : State) (c : Nat) (host : List Byte) : State :=
  let x := s.dmaCh c
  let (d, s1) := s.clientRead 0 c x.desc 32
  match d.fault with
  | some k => s1.dmaFault c k
  | none =>
    let y := { x with words := (bytesWords d.data).map (BitVec.ofNat 32), done := 0, crc := 0xFFFFFFFF }
    if d.bad then s1.dmaError c
    else if !bitAt (y.w 0) 31 then s1.dmaIdle c
    else
      let s2 := s1.setDmaCh c y
      if 2 < y.op ∨ y.len = 0 ∨ 0x10000000 < y.len then s2.dmaFail c 3 else s2.dmaMove c host

/-- The channel that the mover serves next: the lowest PRIO, equal ones in turn from the one after the last served. -/
def State.dmaChoose (s : State) : Option Nat :=
  let ready (c : Nat) : Bool := (s.dmaCh c).state == .running && s.flag (F.DMA_CTRL_EN (c / 2) (c % 2))
  let prio (c : Nat) : Nat := s.getF (F.DMA_CTRL_PRIO (c / 2) (c % 2))
  let order := (List.range 16).map fun i => (s.mem.dmaLast + 1 + i) % 16
  order.find? fun c => ready c && order.all fun d => !ready d || decide (prio c ≤ prio d)

/-- DMA_BURST (R469): `host` is what host memory holds at the burst's source, where that lies in the PCIe window. -/
def execDmaBurst (host : List Byte) (s : State) : Res :=
  s.live 0x010 <|
  .next (match s.dmaChoose with
    | none => s
    | some c =>
      let prio (k : Nat) : Nat := s.getF (F.DMA_CTRL_PRIO (k / 2) (k % 2))
      let s1 := match s.mem.dmaRunning with
        | some r =>
          if r ≠ c ∧ (s.dmaCh r).state = DmaState.running ∧ prio c < prio r then s.bump (F.DMA_PREEMPTED_COUNT (r / 2) (r % 2)) else s
        | none => s
      let s2 := if (s1.dmaCh c).words.isEmpty then s1.dmaFetch c host else s1.dmaMove c host
      let open_ := (s2.dmaCh c).state == .running && !(s2.dmaCh c).words.isEmpty
      { s2 with mem := { s2.mem with dmaLast := c, dmaRunning := if open_ then some c else none } })

/-! ## Scrubber and self-refresh -/

/-- The words that one pass of the scrubber covers (R454). -/
def scrubTotal : Nat := 8159232

/-- The place of a word in the scrubber's order, if it covers it: on-chip SRAM outside the L2 storage, then retained SRAM. -/
def scrubIndex (a : Nat) : Option Nat :=
  if 0x10000000 ≤ a ∧ a < 0x13E00000 then some ((a - 0x10000000) / 8)
  else if 0x08000000 ≤ a ∧ a < 0x08040000 then some (0x7C0000 + (a - 0x08000000) / 8)
  else none

/-- SCRUB (R454): one microsecond of the scrubber, SCRUB_WORDS words. -/
def execScrub (s : State) : Res :=
  s.live 0x008 <|
  .next (if !s.flag F.DTU_ECC_CTRL_SCRUB_EN then s
    else
      let from_ := s.mem.scrubPos
      let n := s.getF F.DTU_ECC_CTRL_SCRUB_WORDS
      let covered (a : Nat) : Bool := match scrubIndex a with
        | some i => decide ((i + scrubTotal - from_) % scrubTotal < n)
        | none => false
      let s1 := ((s.mem.ecc.map (·.1)).filter covered).foldl (fun s a => (s.eccRead a 8 none).2) s
      let s2 := { s1 with mem := { s1.mem with scrubPos := (from_ + n) % scrubTotal } }
      if scrubTotal ≤ from_ + n then s2.raise 0x008 5 else s2)

/-- SELF_REFRESH_ENTRY (R506): LPDDR5 without an access for IDLE_US. -/
def execSelfRefreshEntry (s : State) : Res :=
  .next (if s.flag F.PWR_LPDDR_SR_EN && s.flag F.DTU_LPDDR_STAT_READY && (s.pwr.state == .bloom || s.pwr.state == .bud) &&
      decide (s.mem.lpddrLast + 1000 * s.getF F.PWR_LPDDR_IDLE_US ≤ s.now) then s.setFlag F.DTU_LPDDR_STAT_SELF_REFRESH true
    else s)

end Sys2Proof.Machine
end

