-- ==== Sys2Proof/Machine/Gnss.lean ====
section
/-! DEFINITION. The meanings of the satellite receiver's commands (03_satellite_receiver.md). A command that stands for an
event whose condition does not hold leaves the state unchanged (log 8). -/

namespace Sys2Proof.Machine

/-- PORT_FAULT (R60): a band input meets a fault condition; cause 5 counts while ANT_SUPPLY_CHK is 1 and faults both bands. -/
def execPortFault (ant : Fin 4) (band : Fin 2) (cause : Fin 6) (s : State) : Res :=
  s.live 0x054 <|
  .next (
    if cause.val = 0 then s
    else if cause.val = 5 then
      (if s.flag (F.GNSS_FE_CTRL_ANT_SUPPLY_CHK ant.val) then (s.portFaultOn ant.val 0 5).portFaultOn ant.val 1 5 else s)
    else s.portFaultOn ant.val band.val cause.val)

/-- PORT_FAULT_CLEAR (R60): the condition has been absent for 100 ms. -/
def execPortFaultClear (ant : Fin 4) (band : Fin 2) (s : State) : Res :=
  s.live 0x054 <|
  .next (s.portFaultOff ant.val band.val)

/-- One step of a duty cycle toward the value at which `large` of `total` samples are the target's percent (R59). -/
def agcNext (duty large total target : Nat) : Nat :=
  if large * 100 < target * total then min 1023 (duty + 1) else if target * total < large * 100 then duty - 1 else duty

/-- The I and Q values of a band's samples that have magnitude 4 or more, those at full scale, and all of them (R57, R59). -/
def State.sampleShares (s : State) (ant band : Nat) (l : List (Nat × Nat)) : Nat × Nat × Nat :=
  let v := l.flatMap fun x => [(s.sampleOf ant band x).1, (s.sampleOf ant band x).2]
  let full := (l.flatMap fun x => [x.1, x.2]).filter fun c => sampleFull (s.flag (F.GNSS_FE_CTRL_SIGNMAG ant)) c
  ((v.filter fun x => decide (4 ≤ x.natAbs)).length, full.length, v.length)

/-- The AGC of one band, with its level shown, from the samples of a millisecond; an input that is not enabled, or that took no
sample, keeps both. -/
def State.agcBand (s : State) (ant band : Nat) (l : List (Nat × Nat)) : State :=
  let (large, full, n) := s.sampleShares ant band l
  if !s.bandOn ant band || n == 0 then s
  else if band = 0 then
    let d := agcNext (s.getF (F.GNSS_FE_AGC_STAT_L1_DUTY ant)) large n (s.getF (F.GNSS_FE_AGC_L1_TARGET ant))
    let s1 := ((s.setF (F.GNSS_FE_AGC_STAT_L1_DUTY ant) d).setF (F.GNSS_FE_LEVEL_L1_OCC ant) (large * 100 / n)).setF
      (F.GNSS_FE_LEVEL_L1_FS ant) (full * 100 / n)
    if d = 0 ∨ d = 1023 then s1.raise (0x050 + ant) 3 else s1
  else
    let d := agcNext (s.getF (F.GNSS_FE_AGC_STAT_L5_DUTY ant)) large n (s.getF (F.GNSS_FE_AGC_L5_TARGET ant))
    let s1 := ((s.setF (F.GNSS_FE_AGC_STAT_L5_DUTY ant) d).setF (F.GNSS_FE_LEVEL_L5_OCC ant) (large * 100 / n)).setF
      (F.GNSS_FE_LEVEL_L5_FS ant) (full * 100 / n)
    if d = 0 ∨ d = 1023 then s1.raise (0x050 + ant) 3 else s1

/-- AGC_STEP (R57, R59): every band in turn, with its samples of the millisecond; entry 2 × antenna + band of the list. -/
def execAgcStep (samples : List (List (Nat × Nat))) (s : State) : Res :=
  s.live 0x054 <|
  .next (((samples.take 8).zipIdx).foldl (fun s e => s.agcBand (e.2 / 2) (e.2 % 2) e.1) s)

/-- A value saturated to 16 bits, two's complement. -/
def sat16 (v : Int) : Nat := ofSigned 16 (max (-32768) (min 32767 v))

/-- One sample clock's measurement (R58): absent, or its error in ppb; beyond 2 ppm it is a port fault (cause 2). An input that is
not enabled is not measured. -/
def State.clockBand (s : State) (ant band : Nat) (m : Option Int) : State :=
  if !s.bandOn ant band then s
  else match m with
  | none => if band = 0 then s.setFlag (F.GNSS_FE_STAT_L1_CLK_OK ant) false else s.setFlag (F.GNSS_FE_STAT_L5_CLK_OK ant) false
  | some v =>
    let s1 := if band = 0 then (s.setFlag (F.GNSS_FE_STAT_L1_CLK_OK ant) true).setF (F.GNSS_FE_CLK_PPB_L1_PPB ant) (sat16 v)
      else (s.setFlag (F.GNSS_FE_STAT_L5_CLK_OK ant) true).setF (F.GNSS_FE_CLK_PPB_L5_PPB ant) (sat16 v)
    if 2000 < v.natAbs then s1.portFaultOn ant band 2 else s1

/-- SAMPLE_CLOCK_CHECK (R58): entry 2 × antenna + band of the list. -/
def execSampleClockCheck (ppb : List (Option Int)) (s : State) : Res :=
  s.live 0x054 <|
  .next (((ppb.take 8).zipIdx).foldl (fun s e => s.clockBand (e.2 / 2) (e.2 % 2) e.1) s)

/-- LOOP_UPDATE (R63, R64): at a TAI millisecond every channel's loops update with what they find; the loop settings of the registers
come into force, and navigation data that was decoded is kept (R90). -/
def execLoopUpdate (obs : List LoopObs) (nav : List NavObs) (s : State) : Res :=
  s.live 0x054 <|
  .next (s.atEdge 1 1000000 fun _ s =>
    let tick := s.taiMs
    let loss := s.getF F.GNSS_CH_THR_LOSS_CN0
    let upd (ch : Nat) (c : Channel) : Channel :=
      loopChannel tick loss (s.portFault c.ant c.band) (s.bandOn c.ant c.band) (obs.find? fun o => o.ch == ch) c
    let g := { s.gnss with chans := Assoc.mapVals (fun _ => {}) upd s.gnss.chans, loops := [s.reg 0x5404C, s.reg 0x54050] }
    let s1 := { s with gnss := { g with nav := nav.foldl (fun l o => navPut o l) g.nav } }
    if nav.isEmpty then s1 else s1.retNav)

/-- A channel's assignment becomes `w` (R64): another signal starts it anew, with no exclusion of the one before (R85). A write that
repeats the assignment rewrites no identity field (DESIGN CHOICE, log 104). -/
def State.assign (s : State) (ch : Nat) (w : Word) : State :=
  let old := (s.chan ch).snap s.taiMs
  let new := { old with cfg := w }
  let fresh := if new.sameSignal old then new else { new with cause := 0, held := false, clean := 0 }
  let s1 := s.setChan ch fresh
  if !new.en then (if old.now.state == .held then s1 else s1.chanTo ch .idle)
  else if old.en && old.now.state != .idle && old.now.state != .held && !new.sameSignal old then s1.chanAcquire ch false
  else s1

/-- CH_CFG (R64, R94): a write of GNSS_CH_CFG for the channel in GNSS_CH_INDEX. -/
def execChCfg (who : Initiator) (v : Word) (s : State) : Res :=
  .next (s.command who 0x54044 fun s =>
    let n := v.toNat
    if !validSignal (bitsOf n 18 16) (bitsOf n 15 8) then s.accessErr 0x10 who 0x54044
    else s.assign (s.getF F.GNSS_CH_INDEX_INDEX) (BitVec.ofNat 32 (n &&& 0x803FFF02)))

/-- A START, STOP, SLEEP or WAKE that the receiver's state refuses (R94). -/
def State.rxRefuse (s : State) (who : Initiator) : State := s.accessErr 0x11 who 0x54060

/-- GNSS_START (R64, R94). -/
def execGnssStart (who : Initiator) (all : Bool) (ch : Fin 1024) (s : State) : Res :=
  .next (s.command who 0x54060 fun s =>
    if s.rxAsleep then s.rxRefuse who
    else if all then s.forChans (fun c => c.en && c.now.state == .idle) fun s k => s.chanAcquire k (s.aids (s.chan k))
    else
      let c := s.chan ch.val
      if c.en && c.now.state == .idle then s.chanAcquire ch.val (s.aids c) else s)

/-- GNSS_STOP (R64, R94). -/
def execGnssStop (who : Initiator) (all : Bool) (ch : Fin 1024) (s : State) : Res :=
  .next (s.command who 0x54060 fun s =>
    if s.rxAsleep then s.rxRefuse who
    else if all then s.forChans (fun c => c.now.state != .idle && c.now.state != .held) fun s k => s.chanTo k .idle
    else
      let c := s.chan ch.val
      if c.now.state == .held || c.now.state == .idle then s else s.chanTo ch.val .idle)

/-- GNSS_SLEEP (R91). -/
def execGnssSleep (who : Initiator) (s : State) : Res :=
  .next (s.command who 0x54060 fun s =>
    let rx := s.getF F.GNSS_RX_STATE_RX_STATE
    if rx = 1 ∨ rx = 2 then s.rxSleep else s.rxRefuse who)

/-- GNSS_WAKE (R64, R91): the held channels are queued again, aided where the retained data holds their satellite. -/
def execGnssWake (who : Initiator) (s : State) : Res :=
  .next (s.command who 0x54060 fun s =>
    if s.getF F.GNSS_RX_STATE_RX_STATE = 4 then
      s.rxStart.forChans (fun c => c.now.state == .held) fun s k => s.chanAcquire k (s.navSat (s.chan k).sat).isSome
    else s.rxRefuse who)

/-- RX_ENABLE (R91): a write of GNSS_CH_PG_CTRL.ENABLE. -/
def execRxEnable (who : Initiator) (enable : Bool) (s : State) : Res :=
  .next (s.rowWrite who 0x54008 (bit enable) 1 fun old new =>
    let was := old.flag (F.PG_CTRL_ENABLE 0x054)
    let is := new.flag (F.PG_CTRL_ENABLE 0x054)
    if is && !was && new.getF F.GNSS_RX_STATE_RX_STATE == 0 then new.rxStart
    else if !is && was then new.rxOff
    else new)

/-- SLEEP_COMPLETE (R91). -/
def execSleepComplete (s : State) : Res :=
  .next (if s.getF F.GNSS_RX_STATE_RX_STATE = 3 then s.rxFlush else s)

/-- ACQ_DETECTION (R64, R65): the search of the request at the head of the queue finds a signal at or above ACQ_CN0, a pass after it
began at the earliest. A channel that has held lock before has lost it: its next record carries SLIP (R71, R87). -/
def execAcqDetection (cn0 : Nat) (s : State) : Res :=
  s.live 0x054 <|
  .next (match s.gnss.queue with
    | [] => s
    | r :: _ =>
      if cn0 < s.getF F.GNSS_CH_THR_ACQ_CN0 || !s.bandOn (s.chan r.ch).ant (s.chan r.ch).band || !s.searched r 1 then s
      else
        let s1 := (s.chanTo r.ch .pullin).raise 0x054 1
        let c := s1.chan r.ch
        let t : ChTrack := { c.now with cn0 := min 1023 cn0 }
        s1.setChan r.ch { c with now := t, pullMs := 0, slip := c.slip || c.locked, lli := (c.lli + bit c.locked) % 4, locked := false })

/-- ACQ_FAIL (R64 to R66): the search of the request at the head completes all its passes without detection; it queues again at the
back. -/
def execAcqFail (s : State) : Res :=
  s.live 0x054 <|
  .next (match s.gnss.queue with
    | [] => s
    | r :: _ =>
      if s.searched r (s.acqPasses r) then (s.bump F.GNSS_CH_ACQ_FAIL_COUNT).chanAcquire r.ch (s.aids (s.chan r.ch)) else s)

/-- PULLIN_TIMEOUT (R64): no lock after 500 ms in PULLIN. -/
def execPullinTimeout (ch : Fin 1024) (s : State) : Res :=
  s.live 0x054 <|
  .next (
    let c := s.chan ch.val
    if c.now.state == .pullin && decide (500 ≤ c.pullMs) then s.chanAcquire ch.val (s.aids c) else s)

/-- LOSS_OF_LOCK (R64): C/N0 below LOSS_CN0 for 50 ms, or the carrier lock indicator failing for 20 ms. -/
def execLossOfLock (ch : Fin 1024) (s : State) : Res :=
  s.live 0x054 <|
  .next (
    let c := s.chan ch.val
    if c.now.state == .track && (decide (50 ≤ c.lowMs) || decide (20 ≤ c.failMs)) then s.chanLost ch.val else s)

/-- REACQUIRED (R64): aided reacquisition succeeds within the window. -/
def execReacquired (ch : Fin 1024) (s : State) : Res :=
  s.live 0x054 <|
  .next (
    let c := s.chan ch.val
    if c.now.state == .lost && !s.portFault c.ant c.band && s.bandOn c.ant c.band && decide (0 < c.reacq) then
      let s1 := s.chanTo ch.val .pullin
      s1.setChan ch.val { s1.chan ch.val with slip := true, lli := ((s1.chan ch.val).lli + 1) % 4, locked := false, pullMs := 0 }
    else s)

/-- REACQ_TIMEOUT (R64): the reacquisition timer expires. -/
def execReacqTimeout (ch : Fin 1024) (s : State) : Res :=
  s.live 0x054 <|
  .next (
    let c := s.chan ch.val
    if c.now.state == .lost && !s.portFault c.ant c.band && c.reacq == 0 then s.chanAcquire ch.val false else s)

/-- MEASUREMENT_LATCH (R67 to R71, R77 to R88): at a latch instant, while the receiver is in START or RUN. -/
def execMeasurementLatch (meas : List ChanMeas) (soln : Option TimeSolution) (s : State) : Res :=
  s.live 0x054 <|
  .next (
    let rx := s.getF F.GNSS_RX_STATE_RX_STATE
    if rx = 1 ∨ rx = 2 then s.atEdge 2 s.latchNs fun n s => s.formSet n meas soln else s)

/-- BASE_SET_COMPLETE (R73, R76, R86, R156 to R161): the set in hand is written and used; corrections and the share record
follow an epoch set. -/
def execBaseSetComplete (s : State) : Res :=
  s.live 0x054 <|
  .next (match s.gnss.pending with
    | none => s
    | some m =>
      let s1 := s.completeSet m s.member
      if !bitAt m.flags 0 then s1
      else
        let epoch := m.instant / 1000000
        let s2 := (s1.corrections m).pairStarts epoch
        match s2.localBase epoch with
        | some b => if b.valid then s2.shareSend b else s2
        | none => s2)

/-- BASE_ORDER (R88): a write of GNSS_MEAS_BASE_ORDER; the base antenna is chosen afresh at the next epoch latch. -/
def execBaseOrder (who : Initiator) (v : Word) (s : State) : Res :=
  .next (s.rowWrite who 0x55068 v.toNat allBits fun _ new =>
    { new with gnss := { new.gnss with reorder := true } })

end Sys2Proof.Machine
end

