-- ==== Sys2Proof/Machine/Keys.lean ====
section
/-! DEFINITION. Commands of the key store (14_keys_and_tamper.md R424 to R438). Each is a write of KEY_CMD; its checks and its
inputs are taken at the write, its effect waits for KEY_CMD_DONE. -/

namespace Sys2Proof.Machine

/-- A write of KEY_CMD (R428): refused with 0x11 while BUSY; else the command is in progress, its result and effect held. -/
def State.keyCommand (s : State) (who : Initiator) (op : Nat) (work : State → KeyWork × State) : State :=
  s.command who 0x100044 fun s =>
    if s.keys.work.isSome then s.accessErr 0x11 who 0x100044
    else
      match firstError (s.commandErrors op) with
      | some r => { s with keys := { s.keys with work := some { op := op, result := r } } }
      | none =>
        let (w, s1) := work s
        { s1 with keys := { s1.keys with work := some w } }

/-- A command whose checks fail holds that result; otherwise it does its work. -/
def checked (op : Nat) (uses : List Nat) (errs : List (Bool × Nat)) (s : State) (k : State → KeyWork × State) : KeyWork × State :=
  match firstError errs with
  | some r => ({ op := op, uses := uses, result := r }, s)
  | none => k s

/-- Read LEN bytes at SRC, or `n` of them; a fault gives RESULT 14. -/
def withSource (op : Nat) (uses : List Nat) (n : Nat) (s : State) (k : List Byte → State → KeyWork × State) :
    KeyWork × State :=
  match s.keyRead 0 (s.getF F.KEY_SRC_ADDR) n with
  | (none, s1) => ({ op := op, uses := uses, result := 14 }, s1)
  | (some l, s1) => k l s1

/-- The attributes staged for a new slot. -/
def State.attrType (s : State) : Nat := s.getF F.KEY_ATTR_TYPE
def State.attrUsage (s : State) : Nat := s.getF F.KEY_ATTR_USAGE
def State.attrLc (s : State) : Nat := s.getF F.KEY_ATTR_LC
def State.keyLen (s : State) : Nat := s.getF F.KEY_LEN_BYTES

/-- The command's output goes to DST. -/
def State.toDst (s : State) (l : List Byte) : Option (Nat × List Byte) := some (s.getF F.KEY_DST_ADDR, l)

/-- The secret of a slot. -/
def State.secretOf (s : State) (k : Nat) : List Byte :=
  match s.slot k with
  | some x => x.secret
  | none => []

def State.pubKeyOf (s : State) (k : Nat) : List Byte :=
  match s.slot k with
  | some x => x.pub
  | none => []

/-- The new slot of a command that makes one with the staged attributes. -/
def State.stagedKey (s : State) (op parent slot type origin : Nat) (secret pub : List Byte) : KeyWork :=
  { op := op, uses := [parent, slot], fill := [(slot, s.newSlot parent type s.attrUsage s.attrLc origin secret pub)] }

/-- DERIVE (R424). -/
def execDerive (who : Initiator) (parent slot : Fin 1024) (s : State) : Res :=
  .next (s.keyCommand who 0x01 fun s =>
    let t := s.attrType
    checked 0x01 [parent.val, slot.val] (s.useErrors parent.val (some 0) ++
        s.newErrors slot.val parent.val t s.attrUsage s.attrLc ++
        [(t == 4, 3), (decide (s.keyLen < 1 ∨ 64 < s.keyLen), 14)]) s fun s =>
      withSource 0x01 [parent.val, slot.val] s.keyLen s fun label s =>
        let k := deriveKey t (s.secretOf parent.val) label
        (s.stagedKey 0x01 parent.val slot.val t 1 k (pubOf t k), s))

/-- GENERATE (R428, R430). -/
def execGenerate (who : Initiator) (parent slot : Fin 1024) (s : State) : Res :=
  .next (s.keyCommand who 0x02 fun s =>
    let t := s.attrType
    checked 0x02 [parent.val, slot.val] (s.useErrors parent.val none ++
        s.newErrors slot.val parent.val t s.attrUsage s.attrLc ++ [(t == 4, 3)]) s fun s =>
      let (v, s1) := if t = 3 then s.fresh (p256N - 1) else s.fresh (2 ^ 256)
      let k := natBytes 32 (if t = 3 then v + 1 else v)
      (s1.stagedKey 0x02 parent.val slot.val t 2 k (pubOf t k), s1))

/-- The key bytes that IMPORT_CLEAR may load for a type. -/
def importOk (type : Nat) (l : List Byte) : Bool :=
  if type = 3 then decide (1 ≤ beNat l ∧ beNat l < p256N) else if type = 4 then onCurve (pointOf l) else true

/-- IMPORT_CLEAR (R428): in PROVISION only. -/
def execImportClear (who : Initiator) (parent slot : Fin 1024) (s : State) : Res :=
  .next (s.keyCommand who 0x03 fun s =>
    let t := s.attrType
    let n := if t = 4 then 64 else 32
    checked 0x03 [parent.val, slot.val] ([(s.lifeCycle != .provision, 4)] ++ s.useErrors parent.val none ++
        s.newErrors slot.val parent.val t s.attrUsage s.attrLc ++ [(s.keyLen != n, 14)]) s fun s =>
      withSource 0x03 [parent.val, slot.val] n s fun l s =>
        if !importOk t l then ({ op := 0x03, uses := [parent.val, slot.val], result := 6 }, s)
        else (s.stagedKey 0x03 parent.val slot.val t 3 (if t = 4 then [] else l) (if t = 4 then l else pubOf t l), s))

/-- IMPORT_PUB (R428): a public key on the curve. -/
def execImportPub (who : Initiator) (parent slot : Fin 1024) (s : State) : Res :=
  .next (s.keyCommand who 0x04 fun s =>
    checked 0x04 [parent.val, slot.val] (s.useErrors parent.val none ++
        s.newErrors slot.val parent.val 4 s.attrUsage s.attrLc) s fun s =>
      withSource 0x04 [parent.val, slot.val] 64 s fun l s =>
        if !onCurve (pointOf l) then ({ op := 0x04, uses := [parent.val, slot.val], result := 6 }, s)
        else (s.stagedKey 0x04 parent.val slot.val 4 3 [] l, s))

/-- WRAP (R432): IV, the sealed entry, tag. -/
def execWrap (who : Initiator) (parent slot : Fin 1024) (s : State) : Res :=
  .next (s.keyCommand who 0x05 fun s =>
    checked 0x05 [parent.val, slot.val] (s.useErrors parent.val (some 1) ++ s.useErrors slot.val (some 8)) s fun s =>
      let (iv, s1) := s.randBytes 12
      match s1.slot slot.val with
      | some x =>
        ({ op := 0x05, uses := [parent.val, slot.val],
           out := s1.toDst (iv ++ gcmSeal (s1.secretOf parent.val) iv [] (blobEntryBytes slot.val x)) }, s1)
      | none => ({ op := 0x05, uses := [parent.val, slot.val], result := 2 }, s1))

/-- UNWRAP (R428, R432): slot index and parent are taken from the command. -/
def execUnwrap (who : Initiator) (parent slot : Fin 1024) (s : State) : Res :=
  .next (s.keyCommand who 0x06 fun s =>
    checked 0x06 [parent.val, slot.val] (s.useErrors parent.val (some 1) ++ [((s.slot slot.val).isSome, 1)]) s fun s =>
      withSource 0x06 [parent.val, slot.val] 108 s fun l s =>
        match gcmOpen (s.secretOf parent.val) (l.take 12) [] (l.drop 12) with
        | none => ({ op := 0x06, uses := [parent.val, slot.val], result := 6 }, s)
        | some b =>
          let e := entryOf b
          checked 0x06 [parent.val, slot.val] (s.newErrors slot.val parent.val e.type e.usage e.lc) s fun s =>
            ({ op := 0x06, uses := [parent.val, slot.val], fill := [(slot.val, s.slotOfEntry parent.val e)] }, s))

/-- INVALIDATE (R425): a slot and every slot below it are emptied at once and the consumers' copies revoked; a command that
uses one of them and has no result yet ends with RESULT 8. -/
def execInvalidate (who : Initiator) (slot : Fin 1024) (s : State) : Res :=
  .next (s.command who 0x100044 fun s =>
    let l := s.subtree slot.val
    let hit := match s.keys.work with
      | some w => w.op != 0x07 && w.uses.any l.elem
      | none => false
    if s.keys.work.isSome && (!hit || slot.val < 3 || s.keys.lock) then s.accessErr 0x11 who 0x100044
    else
      let s1 := if hit then s.keyAbort 8 else s
      match firstError [(s1.keys.lock, 12), (decide (slot.val < 3), 3), ((s1.slot slot.val).isNone, 2)] with
      | some r => { s1 with keys := { s1.keys with work := some { op := 0x07, result := r } } }
      | none =>
        let s2 := s1.emptySlots l
        { s2 with keys := { s2.keys with work := some { op := 0x07, uses := l } } })

/-- The IV of GCM_ENC and GCM_DEC: byte 0 in IV0 [7:0]. -/
def State.gcmIv (s : State) : List Byte :=
  bytesLE (s.reg 0x100068).toNat 4 ++ bytesLE (s.reg 0x10006C).toNat 4 ++ bytesLE (s.reg 0x100070).toNat 4

/-- GCM_ENC (R428): the first AAD_LEN of LEN bytes are AAD; ciphertext and tag go to DST. -/
def execGcmEnc (who : Initiator) (slot : Fin 1024) (s : State) : Res :=
  .next (s.keyCommand who 0x08 fun s =>
    let a := s.getF F.KEY_AAD_LEN_BYTES
    checked 0x08 [slot.val] (s.useErrors slot.val (some 2) ++ [(decide (s.keyLen < a), 14)]) s fun s =>
      withSource 0x08 [slot.val] s.keyLen s fun l s =>
        ({ op := 0x08, uses := [slot.val], out := s.toDst (gcmSeal (s.secretOf slot.val) s.gcmIv (l.take a) (l.drop a)) }, s))

/-- GCM_DEC (R428): the tag ends the input; where it fails no plaintext is written. -/
def execGcmDec (who : Initiator) (slot : Fin 1024) (s : State) : Res :=
  .next (s.keyCommand who 0x09 fun s =>
    let a := s.getF F.KEY_AAD_LEN_BYTES
    checked 0x09 [slot.val] (s.useErrors slot.val (some 3) ++ [(decide (s.keyLen < a + 16), 14)]) s fun s =>
      withSource 0x09 [slot.val] s.keyLen s fun l s =>
        match gcmOpen (s.secretOf slot.val) s.gcmIv (l.take a) (l.drop a) with
        | some p => ({ op := 0x09, uses := [slot.val], out := s.toDst p }, s)
        | none => ({ op := 0x09, uses := [slot.val], result := 6 }, s))

/-- HMAC (R428). -/
def execHmac (who : Initiator) (slot : Fin 1024) (s : State) : Res :=
  .next (s.keyCommand who 0x0A fun s =>
    checked 0x0A [slot.val] (s.useErrors slot.val (some 4)) s fun s =>
      withSource 0x0A [slot.val] s.keyLen s fun l s =>
        ({ op := 0x0A, uses := [slot.val], out := s.toDst (hmac256 (s.secretOf slot.val) l) }, s))

/-- SHA256 (R428). -/
def execSha256 (who : Initiator) (s : State) : Res :=
  .next (s.keyCommand who 0x0B fun s =>
    withSource 0x0B [] s.keyLen s fun l s => ({ op := 0x0B, out := s.toDst (Sys2Proof.Machine.sha256 l) }, s))

/-- SHA384 (R428). -/
def execSha384 (who : Initiator) (s : State) : Res :=
  .next (s.keyCommand who 0x0C fun s =>
    withSource 0x0C [] s.keyLen s fun l s => ({ op := 0x0C, out := s.toDst (Sys2Proof.Machine.sha384 l) }, s))

/-- SIGN (R428): r ‖ s, with a nonce of the random source. -/
def execSign (who : Initiator) (slot : Fin 1024) (s : State) : Res :=
  .next (s.keyCommand who 0x0D fun s =>
    checked 0x0D [slot.val] (s.useErrors slot.val (some 5)) s fun s =>
      withSource 0x0D [slot.val] s.keyLen s fun l s =>
        let (k, s1) := s.fresh (p256N - 1)
        ({ op := 0x0D, uses := [slot.val], out := s1.toDst (ecdsaSign (s1.secretOf slot.val) l (k + 1)) }, s1))

/-- VERIFY (R428): the signature at DST against LEN bytes at SRC. -/
def execVerify (who : Initiator) (slot : Fin 1024) (s : State) : Res :=
  .next (s.keyCommand who 0x0E fun s =>
    checked 0x0E [slot.val] (s.useErrors slot.val (some 6)) s fun s =>
      withSource 0x0E [slot.val] s.keyLen s fun l s =>
        match s.keyRead 0 (s.getF F.KEY_DST_ADDR) 64 with
        | (none, s1) => ({ op := 0x0E, uses := [slot.val], result := 14 }, s1)
        | (some sig, s1) =>
          ({ op := 0x0E, uses := [slot.val], result := if ecdsaVerify (s1.pubKeyOf slot.val) l sig then 0 else 6 }, s1))

/-- AGREE (R428): the new slot, TYPE 2, holds the shared x-coordinate. -/
def execAgree (who : Initiator) (parent slot : Fin 1024) (s : State) : Res :=
  .next (s.keyCommand who 0x0F fun s =>
    checked 0x0F [parent.val, slot.val] (s.useErrors parent.val (some 7) ++
        s.newErrors slot.val parent.val 2 s.attrUsage s.attrLc) s fun s =>
      withSource 0x0F [parent.val, slot.val] 64 s fun l s =>
        if !onCurve (pointOf l) then ({ op := 0x0F, uses := [parent.val, slot.val], result := 6 }, s)
        else (s.stagedKey 0x0F parent.val slot.val 2 2 (ecdh (s.secretOf parent.val) l) [], s))

/-- PUBKEY (R428): x ‖ y of a slot of TYPE 3 or 4. -/
def execPubkey (who : Initiator) (slot : Fin 1024) (s : State) : Res :=
  .next (s.keyCommand who 0x10 fun s =>
    checked 0x10 [slot.val] (s.useErrors slot.val none ++ [((s.pubKeyOf slot.val).isEmpty, 3)]) s fun s =>
      ({ op := 0x10, uses := [slot.val], out := s.toDst (s.pubKeyOf slot.val) }, s))

/-- RANDOM (R428, R430): LEN bytes, 1 to 4,096. -/
def execRandom (who : Initiator) (s : State) : Res :=
  .next (s.keyCommand who 0x11 fun s =>
    checked 0x11 [] [(decide (s.keyLen < 1 ∨ 4096 < s.keyLen), 14)] s fun s =>
      let (l, s1) := s.randBytes s.keyLen
      ({ op := 0x11, out := s1.toDst l }, s1))

/-- RESEED (R430): DRBG_OK returns when it completes, unless a health test fails on the way. -/
def execReseed (who : Initiator) (s : State) : Res :=
  .next (s.keyCommand who 0x12 fun s => ({ op := 0x12 }, s))

/-- The slots of a general blob (R433): PERSIST, in ascending DEPTH and then slot. -/
def State.persistSlots (s : State) : List (Nat × KeySlot) :=
  let all := s.keys.slots.filterMap fun e => match e.2 with
    | some x => if bitAt x.usage 9 then some (e.1, x) else none
    | none => none
  (List.range 8).flatMap fun d => all.filter fun e => e.2.depth == d

/-- SEAL_BLOB (R433): a general blob with the counter's next value. -/
def execSealBlob (who : Initiator) (kind : Fin 4) (s : State) : Res :=
  .next (s.keyCommand who 0x13 fun s =>
    let l := s.persistSlots
    checked 0x13 [2] (s.useErrors 2 none ++ [(kind.val != 1, 11), (decide (768 < l.length), 14),
        (decide (2047 ≤ s.rst.otp.ctrG), 10)]) s fun s =>
      let (iv, s1) := s.randBytes 12
      ({ op := 0x13, uses := 2 :: l.map (·.1),
         out := s1.toDst (s1.blobBytes 1 l.length (s1.rst.otp.ctrG + 1) iv (l.flatMap fun e => blobEntryBytes e.1 e.2)) }, s1))

/-- COMMIT_BLOB (R434): the flash slot that is not current is checked; its counter and CUR follow. -/
def execCommitBlob (who : Initiator) (kind : Fin 4) (s : State) : Res :=
  .next (s.keyCommand who 0x14 fun s =>
    let k := kind.val
    let ctr := s.blobCtr k
    let x := 1 - (if k = 1 then s.keys.gCur else s.keys.pCur)
    checked 0x14 [2] ([(decide (k ≠ 1 ∧ k ≠ 2), 11), (decide (k = 2) && s.lifeCycle != .provision, 4)] ++ s.useErrors 2 none ++
        [(decide (2047 ≤ ctr), 10)]) s fun s =>
      match s.readBlob k x with
      | some (c, _) =>
        if c = ctr + 1 then ({ op := 0x14, uses := [2], blob := some (k, c, x) }, s)
        else ({ op := 0x14, uses := [2], result := 11 }, s)
      | none => ({ op := 0x14, uses := [2], result := 11 }, s))

/-- LOAD_BLOB (R435, R438): KIND 2 once per device reset. -/
def execLoadBlob (who : Initiator) (kind : Fin 4) (s : State) : Res :=
  .next (s.keyCommand who 0x15 fun s =>
    let k := kind.val
    checked 0x15 [2] ([(decide (k ≠ 1 ∧ k ≠ 2), 11), (decide (k = 2) && s.poppy.keys.isSome, 4)] ++ s.useErrors 2 none) s fun s =>
      (s.loadBlob k, s))

/-- POPPY_SEAL (R437): in PROVISION, while the configuration stands as committed. -/
def execPoppySeal (who : Initiator) (tok rel : Fin 1024) (s : State) : Res :=
  .next (s.keyCommand who 0x16 fun s =>
    let words := (List.range 13).map fun i => (s.reg (0xC0100 + 4 * i)).toNat
    let uses := [2, tok.val, rel.val]
    checked 0x16 uses ([(s.lifeCycle != .provision || s.poppy.keys.isSome, 4)] ++ s.useErrors tok.val (some 12) ++
        s.useErrors rel.val (some 12) ++ s.useErrors 2 none ++
        [(s.poppy.a.crc != poppyCrc words, 11), (decide (2047 ≤ s.rst.otp.ctrP), 10)]) s fun s =>
      let kt := s.secretOf tok.val
      let kr := s.secretOf rel.val
      let body := (words.take 12).flatMap (fun w => bytesLE w 4) ++ bytesLE 0 4 ++ kt ++ kr ++ List.replicate 12 0
      let (iv, s1) := s.randBytes 12
      ({ op := 0x16, uses := uses, empty := [tok.val, rel.val],
         out := s1.toDst (s1.blobBytes 2 0 (s1.rst.otp.ctrP + 1) iv body), poppy := some (kt, kr) }, s1))

/-- KEY_CMD_DONE (R428). -/
def execKeyCmdDone (s : State) : Res :=
  .next (match s.keys.work with
    | some w => s.keyDone w
    | none => s)

/-- HEALTH_FAIL (R430): DRBG_OK falls; a RESEED in progress fails. -/
def execHealthFail (s : State) : Res :=
  let s1 := ({ s with keys := { s.keys with drbgOk := false } }.bump F.KEY_HEALTH_FAIL_COUNT).raise 0x100 2
  .next (match s1.keys.work with
    | some w => if w.op = 0x12 && w.result = 0 then { s1 with keys := { s1.keys with work := some { w with result := 9 } } } else s1
    | none => s1)

end Sys2Proof.Machine
end

