-- ==== Sys2Proof/Machine/BootOps.lean ====
section
/-! DEFINITION. The boot ROM (18_reset_and_lifecycle.md R515, R516, R520 to R527): the marker, images, measurements, the start. -/

namespace Sys2Proof.Machine

/-! ## The marker (R515) -/

def markerAddr : Nat := 0x08020000

/-- The marker's words for the life-cycle state and LPDDR_DONE. -/
def State.markerWords (s : State) (done : Bool) : List Nat :=
  let w0 := 0xE4000000 + bit done * 0x100 + s.lifeCycle.code
  let w := [w0, 0xFFFFFFFF - w0, 0]
  w ++ [crc32 (wordsBytes w)]

/-- LPDDR_DONE of a marker that is whole and of this life-cycle state; none for another. -/
def State.markerDone (s : State) : Option Bool :=
  let w := s.memWords markerAddr 4
  if w = s.markerWords true then some true else if w = s.markerWords false then some false else none

/-- The marker rule for retained SRAM: another marker than this state's wipes it, with the tamper log and the start data. -/
def State.markerRule (s : State) : State :=
  match s.markerDone with
  | some _ => s.setFlag F.SYS_LC_MARKER_WIPE false
  | none =>
    let s1 := (s.wipeRange 0x08000000 0x08040000).storeWords markerAddr (s.markerWords false)
    { s1 with tamp := { s1.tamp with log := [], ovf := false }, pair := { s1.pair with lastSeq := none } }.setFlag
      F.SYS_LC_MARKER_WIPE true

/-! ## LPDDR5 at a start (R455, R515) -/

/-- LPDDR5 that is not trained loses its contents. -/
def State.lpddrLose (s : State) : State := if s.flag F.DTU_LPDDR_STAT_READY then s else s.wipeRange 0x800000000 0xC00000000

/-- Train LPDDR5 with the parameters of an image; it is wiped where LPDDR_DONE is 0, and LPDDR_DONE set. -/
def State.lpddrTrain (s : State) (cfg : Nat) : State :=
  let s1 := (s.setReg 0x8138 (BitVec.ofNat 32 (cfg % 256 / 16 * 16 + cfg % 4))).setReg 0x813C 1
  let s2 := { s1 with mem := { s1.mem with lpddrLast := s1.now } }
  if s2.markerDone = some true then s2
  else (s2.wipeRange 0x800000000 0xC00000000).storeWords markerAddr (s2.markerWords true)

/-! ## Images (R521, R522, R525) -/

/-- Where an image lies: flash slot A or B, or the recovery buffer (slot 2). -/
def State.bootByte (s : State) (slot a : Nat) : Byte :=
  if slot = 2 then s.memByte (0x13800000 + a) else s.flashByte (slot * 0x4000000 + a)

def State.bootBytes (s : State) (slot a : Nat) : Nat → List Byte
  | 0 => []
  | n + 1 => s.bootByte slot a :: s.bootBytes slot (a + 1) n

/-- The fitted LPDDR5 bytes that a header's parameters give (R455). -/
def lpddrFitted (cfg : Nat) : Nat :=
  let full := 0x80000000 * 2 ^ bitsOf cfg 5 4
  if bitAt cfg 1 then full / 8 * 7 else full

/-- The error of a header (R521), 0 where it is valid: 3 where only its SVN is too low, else 1. -/
def State.headerError (s : State) (slot : Nat) (h : List Byte) : Nat :=
  let w (o : Nat) : Nat := wordAt h o
  let len := w 8
  let load := w 0x10 + 2 ^ 32 * w 0x14
  let entry := w 0x18 + 2 ^ 32 * w 0x1C
  let most := if slot = 2 then 4 * s.rst.loadLen - 0xC0 else 67108672
  let inRam := decide (0x13800000 ≤ load) && decide (load + len ≤ 0x13E00000)
  let inLpddr := bitAt (w 0xC) 8 && decide (0x800000000 ≤ load) && decide (load + len ≤ 0x800000000 + lpddrFitted (w 0xC))
  let ok := bitsOf (w 0) 31 24 == 0xB7 && bitsOf (w 0) 23 16 == 1 && decide (4 ≤ len) && decide (len ≤ most) && len % 4 == 0 &&
    (inRam || inLpddr) && decide (load ≤ entry) && decide (entry < load + len)
  if !ok then 1 else if bitsOf (w 0) 15 0 < s.rst.otp.minSvn then 3 else 0

/-- A signature is required (R516). -/
def State.signatureDue (s : State) : Bool :=
  match s.lifeCycle with
  | .blank | .provision => s.rst.otp.hash.isSome
  | .field | .returned | .scrap => true

/-- BOOT_KEY_HASH as bytes; zeros while it is not programmed. -/
def State.hashBytes (s : State) : List Byte :=
  match s.rst.otp.hash with
  | some l => l.flatMap fun w => bytesLE w.toNat 4
  | none => List.replicate 32 0

/-- The signature of an image is good, and its key the one of BOOT_KEY_HASH (R521, R522). -/
def State.signatureOk (s : State) (h image : List Byte) : Bool :=
  let key := (h.drop 0x40).take 64
  s.rst.otp.hash.isSome && sha256 key == s.hashBytes && ecdsaVerify key (h.take 0x80 ++ image) ((h.drop 0x80).take 64)

/-- Train, load and verify the image of a slot: an error code and the state, or the state with the image loaded. -/
def State.loadImage (s : State) (slot : Nat) (trainFails : Bool) : Nat × State :=
  let h := s.bootBytes slot 0 0xC0
  let e := s.headerError slot h
  if e ≠ 0 then (e, s)
  else if bitAt (wordAt h 0xC) 8 && trainFails then (4, s)
  else
    let image := s.bootBytes slot 0xC0 (wordAt h 8)
    let s1 := if bitAt (wordAt h 0xC) 8 then s.lpddrTrain (wordAt h 0xC) else s
    let s2 := s1.storeBytes (wordAt h 0x10 + 2 ^ 32 * wordAt h 0x14) image
    if s2.signatureDue && !s2.signatureOk h image then (2, s2) else (0, s2)

/-! ## The end of the boot (R523 steps 8 and 9, R524) -/

def State.bootStage (s : State) (stage error : Nat) : State := (s.setF F.SYS_BOOT_STAT_STAGE stage).setF F.SYS_BOOT_STAT_ERROR error

/-- Load the Poppy blob in FIELD and RETURN; answers whether a configuration is loaded. -/
def State.bootPoppy (s : State) : Bool × State :=
  if s.lifeCycle == .field || s.lifeCycle == .returned then
    let w := s.loadBlob 2
    if s.keys.rootOk && w.result = 0 then (true, s.keyApply w) else (false, s.setFlag F.SYS_BOOT_STAT_POPPY_FAIL true)
  else (false, s)

/-- Measure, lock, open to the host, and start core 0 at ENTRY. -/
def State.bootEnd (s : State) (slot : Nat) (h image : List Byte) : State :=
  let (loaded, s1) := s.bootPoppy
  let cfgm := bytesLE s1.lifeCycle.code 4 ++ s1.hashBytes ++ bytesLE s1.rst.otp.minSvn 4 ++ bytesLE (s1.reg 0x0004C).toNat 4 ++
    bytesLE (wordAt h 0xC) 4
  let words := (List.range 13).flatMap fun i => bytesLE (s1.poppy.a.word (0x100 + 4 * i)) 4
  let s2 := ((s1.extend 8 (sha384 cfgm)).extend 0 (sha384 (h ++ image))).extend 1 (if loaded then sha384 words else List.replicate 48 0)
  let s3 := (s2.setF F.ATTEST_MLOCK_LOCK (s2.getF F.ATTEST_MLOCK_LOCK ||| 0x103)).lpddrLose
  let s4 := ((s3.bootStage 9 (s3.getF F.SYS_BOOT_STAT_ERROR)).setF F.SYS_BOOT_STAT_SLOT slot).startCores [0]
    (wordAt h 0x18 + 2 ^ 32 * wordAt h 0x1C)
  { s4 with rst := { s4.rst with hostOpen := true } }

/-- The ROM halts: every slot has failed, and the host reaches the SYS page (R523). -/
def State.bootHalt (s : State) (error : Nat) : State :=
  let s1 := s.lpddrLose.bootStage 15 error
  { s1 with rst := { s1.rst with sysOpen := true } }

/-- Try a slot of flash: the error, or the state at the end of the boot. -/
def State.bootSlot (s : State) (w : BootWorld) (slot : Nat) : Nat × State :=
  if (if slot = 0 then w.badA else w.badB) then (5, s)
  else
    let h := s.bootBytes slot 0 0xC0
    let (e, s1) := s.loadImage slot w.trainFails
    if e ≠ 0 then (e, s1) else (0, s1.bootEnd slot h (s.bootBytes slot 0xC0 (wordAt h 8)))

/-- The header of a slot is valid, and its BOOT_SEQ. -/
def State.slotSeq (s : State) (w : BootWorld) (slot : Nat) : Option Nat :=
  let h := s.bootBytes slot 0 0xC0
  if (if slot = 0 then w.badA else w.badB) || s.headerError slot h != 0 then none else some (wordAt h 4)

/-- The slots in the order in which they are tried (R522): the higher BOOT_SEQ first, A on a tie. -/
def State.bootOrder (s : State) (w : BootWorld) : List Nat :=
  match s.slotSeq w 0, s.slotSeq w 1 with
  | some a, some b => if a < b then [1, 0] else [0, 1]
  | some _, none => [0]
  | none, some _ => [1]
  | none, none => []

/-- Try the slots in turn. -/
def State.bootTry (s : State) (w : BootWorld) (error : Nat) : List Nat → State
  | [] => s.bootHalt error
  | k :: rest =>
    let (e, s1) := s.bootSlot w k
    if e = 0 then s1 else s1.bootTry w e rest

/-- The error of a start at which no slot has a valid header: a slot that cannot be read, an SVN too low, else 0x01. -/
def State.noHeader (s : State) (w : BootWorld) : Nat :=
  if w.badA || w.badB then 5
  else if s.headerError 0 (s.bootBytes 0 0 0xC0) = 3 ∨ s.headerError 1 (s.bootBytes 1 0 0xC0) = 3 then 3 else 1

/-! ## The start (R523) -/

/-- Draw the nonce of authorised transitions from the random source (R520). -/
def State.drawNonce (s : State) : State :=
  (List.range 8).foldl (fun s i =>
    let (v, s1) := s.fresh (2 ^ 32)
    s1.setReg (0x60 + 4 * i) (BitVec.ofNat 32 v)) s

/-- The Poppy plane at the release of device reset. -/
def State.poppyStart (s : State) : State :=
  let per := 1000 * bitsOf (({} : PoppyChan).word 0x104) 31 16
  let first : PoppyStop := ⟨0, 1, 0x0D, 0, 0, [], s.now, none, false, true, true⟩
  { s with poppy := { a := { tpNext := s.now, hbNext := s.now, busFrom := s.now },
                      b := { tpNext := s.now + per / 2, hbNext := s.now, busFrom := s.now }, stops := [first] } }

/-- CLK_STAT at stage 1: the inputs that are present, and the PLLs that lock to them. -/
def State.clockStart (s : State) : State :=
  let ok (k : Nat) : Nat := bit (!bitAt s.pwr.lost k)
  let plls := ok 1 * 7 + ok 2 * 8 + ok 3 * 16 + ok 4 * 32 + ok 5 * 64
  s.setReg 0x1040 (BitVec.ofNat 32 ((63 - s.pwr.lost % 64) * 128 + plls))

/-- The root is to be enrolled at this start (R420). -/
def State.enrolDue (s : State) : Bool :=
  let o := s.rst.otp
  s.lifeCycle == .blank && o.puf0 != 2 && o.puf1 != 2 && (o.puf0 == 0 || o.puf1 == 0)

/-- A tamper source is detected (R441, R442), while it is enabled: logged as it becomes active; at start-up the boot holds, later the
keys are wiped and, with STOP_EN, the member is stopped. In device reset it is only seen: the start that follows finds it (log 92). -/
def State.tamperDetect (s : State) (source : Nat) : State :=
  if !bitAt (s.getF F.TAMP_CFG_SRC_EN) source then s
  else
    let s1 := if bitAt s.tamp.active source then s else s.tampLog source
    let s2 := { s1 with tamp := { s1.tamp with active := s1.tamp.active ||| 2 ^ source } }.raise 0x101 0
    if s.rst.held then s2
    else if s2.tamperPhase = 0 then { s2.bootStage 3 8 with rst := { s2.rst with tampHeld := true } }
    else
      let s3 := s2.keyWipe
      if s.flag F.TAMP_CFG_STOP_EN then s3.poppyRequest 1 0x06 0xFF 0 else s3

/-- Power is lost during an enrolment: its bank stays incomplete. -/
def State.enrolCut (s : State) : State :=
  let o := s.rst.otp
  let o1 := if o.puf0 = 0 then { o with puf0 := 1 } else { o with puf1 := 1 }
  let s1 := { s with rst := { s.rst with otp := o1 } }.outsideOf.otpConfig
  (s1.recordCause 1).holdDevice 100000

/-- Steps 4 to 9: the root, the image, the end. -/
def State.bootOn (s : State) (w : BootWorld) : State :=
  let s1 := s.rootStart w.pufFails
  let s2 := if s1.keys.rootFail then s1.bootStage 4 7 else s1.bootStage 4 0
  let s3 := { s2 with keys := { s2.keys with drbgOk := true } }.drawNonce
  let lc := s3.lifeCycle
  if w.recov && lc != .field then
    let s4 := (s3.lpddrLose.bootStage 5 (s3.getF F.SYS_BOOT_STAT_ERROR)).setFlag F.SYS_LOAD_STAT_READY true
    { s4 with rst := { s4.rst with loadLen := 0 } }
  else
    let s4 := if w.recov then s3.setFlag F.SYS_STRAP_RECOV_IGNORED true else s3
    s4.bootTry w (s4.noHeader w) (s4.bootOrder w)

/-- The boot from the release of device reset. -/
def State.boot (s : State) (w : BootWorld) : State :=
  let s1 := (s.setReg 0x004C (BitVec.ofNat 32 (bit w.recov * 4 + bit w.pcie * 2 + bit w.xspi))).clockStart
  let s2 := { s1 with rst := { s1.rst with booted := true, pcieDown := false } }.markerRule
  if s2.lifeCycle == .scrap then s2.lpddrLose.bootStage 15 0
  else if s2.tamp.active &&& s2.getF F.TAMP_CFG_SRC_EN ≠ 0 then
    let s3 := s2.lpddrLose.bootStage 3 8
    { s3 with rst := { s3.rst with tampHeld := true } }
  else if s2.rst.tampHeld then s2.lpddrLose.bootStage 3 8
  else if w.powerCut && s2.enrolDue then s2.enrolCut
  else s2.bootOn w

end Sys2Proof.Machine
end

