-- ==== Sys2Proof/Machine/Lifecycle.lean ====
section
/-! DEFINITION. Life-cycle transitions, OTP, core starts and the recovery load (18_reset_and_lifecycle.md R516 to R520, R525, R529). -/

namespace Sys2Proof.Machine

/-- The transitions allowed (R518): what they require. -/
inductive LcNeeds where
  | root | fielded | authorised | nothing
  deriving DecidableEq, Repr

def lcAllowed (lc : LifeCycle) (target : Nat) : Option LcNeeds :=
  match lc, target with
  | .blank, 1 => some .root
  | .provision, 2 => some .fielded
  | .field, 3 => some .authorised
  | .blank, 4 | .provision, 4 | .returned, 4 => some .nothing
  | .field, 4 => some .authorised
  | _, _ => none

/-- The authorisation at SYS_LC_AUTH_ADDR holds (R520). -/
def State.authOk (s : State) (target : Nat) : Bool × State :=
  let a := s.getF F.SYS_LC_AUTH_ADDR_ADDR
  if !(s.region a).dmaMay false then (false, s)
  else
    let (bad, s1) := s.eccRead a 128 none
    let l := s1.physBytes a 128
    let key := l.take 64
    let nonce := (List.range 8).flatMap fun i => bytesLE (s1.reg (0x60 + 4 * i)).toNat 4
    let idk := match s1.slot 1 with
      | some x => x.pub
      | none => []
    (!bad && s1.rst.otp.hash.isSome && sha256 key == s1.hashBytes && ecdsaVerify key (bytesLE target 4 ++ nonce ++ idk) (l.drop 64), s1)

/-- A transition refused: RESULT and event 0. -/
def State.lcRefuse (s : State) (result : Nat) : State := (s.setF F.SYS_LC_STAT_RESULT result).raise 0x000 0

/-- TRANSITION (R518 to R520). -/
def execTransition (who : Initiator) (target : Fin 8) (s : State) : Res :=
  let accept (s : State) : State :=
    { s.setF F.SYS_LC_STAT_RESULT 0 with rst := { s.rst with otpOp := some (.lifeCycle target.val) } }
  let denied := who == .host && !s.rst.held && s.reaches who && !s.hostMay 0x000 0x044 true
  .next (if denied then (s.command who 0x044 id).lcRefuse 4
    else s.command who 0x044 fun s =>
      if s.rst.otpOp.isSome then s.accessErr 0x11 who 0x044
      else
        match who with
        | .data _ | .dma => s.lcRefuse 4
        | .ctl _ | .debug | .host =>
          match lcAllowed s.lifeCycle target.val with
          | none => s.lcRefuse 1
          | some .nothing => accept s
          | some .root => if s.keys.rootOk then accept s else s.lcRefuse 2
          | some .fielded => if s.rst.otp.hash.isSome && s.keys.pValid then accept s else s.lcRefuse 2
          | some .authorised =>
            if !s.keys.drbgOk then s.lcRefuse 2
            else
              let (ok, s1) := s.authOk target.val
              if ok then accept s1 else (s1.lcRefuse 3).drawNonce)

/-- A write of OTP_CMD (R529): refused while OTP is being programmed, or where its condition fails. -/
def State.otpCommand (s : State) (who : Initiator) (ok : State → Bool) (op : State → OtpOp) : State :=
  s.command who 0x080 fun s =>
    if s.rst.otpOp.isSome || !ok s then s.accessErr 0x11 who 0x080 else { s with rst := { s.rst with otpOp := some (op s) } }

/-- PROGRAM_HASH (R529): BOOT_KEY_HASH from OTP_DATA0 to 7, once, in BLANK or PROVISION. -/
def execProgramHash (who : Initiator) (s : State) : Res :=
  .next (s.otpCommand who (fun s => s.rst.otp.hash.isNone && (s.lifeCycle == .blank || s.lifeCycle == .provision))
    fun s => .hash ((List.range 8).map fun i => s.reg (0x100 + 4 * i)))

/-- RAISE_SVN (R529): upward only, not in SCRAP. The staged word counts, though reads show BOOT_KEY_HASH once it is programmed (DEDUCED,
log 96). -/
def execRaiseSvn (who : Initiator) (s : State) : Res :=
  let v (s : State) : Nat := (s.reg 0x100).toNat % 64
  .next (s.otpCommand who (fun s => decide (s.rst.otp.minSvn < v s) && s.lifeCycle != .scrap) fun s => .svn (v s))

/-- OTP_PROGRAMMING_DONE (R519, R529): event 1; a life-cycle transition goes on to a device reset. -/
def execOtpProgrammingDone (s : State) : Res :=
  let o := s.rst.otp
  let done (o : Otp) : State := { s with rst := { s.rst with otp := o, otpOp := none } }.raise 0x000 1
  .next (match s.rst.otpOp with
    | none => s
    | some (.lifeCycle t) => (done { o with lc := o.lc ||| 2 ^ (t - 1) }).deviceReset 4
    | some (.hash w) => done { o with hash := some w }
    | some (.svn v) => done { o with minSvn := v })

/-- CORE_RUN (R523, R529): cores named and not yet started start at CORE_VEC. -/
def execCoreRun (who : Initiator) (mask : Fin 256) (s : State) : Res :=
  .next (s.command who 0x088 fun s =>
    s.startCores ((List.range 8).filter fun k => bitAt mask.val k && !bitAt (s.getF F.SYS_CORE_RUN_START) k) (s.getF F.SYS_CORE_VEC_ADDR))

/-- LOAD_DATA (R525, R529): the next word of the recovery image, at most 6 MiB. -/
def execLoadData (who : Initiator) (value : Word) (s : State) : Res :=
  .next (s.command who 0x0AC fun s =>
    if !s.flag F.SYS_LOAD_STAT_READY then s.accessErr 0x11 who 0x0AC
    else if 0x180000 ≤ s.rst.loadLen then s.accessErr 0x10 who 0x0AC
    else
      { s.physWrite (0x13800000 + 4 * s.rst.loadLen) (bytesLE value.toNat 4) with
        rst := { s.rst with loadLen := s.rst.loadLen + 1 } })

/-- GO (R525): the ROM treats the buffer as slot 2; a failure sets RESULT and READY again, with event 2. -/
def execGo (who : Initiator) (trainFails : Bool) (s : State) : Res :=
  .next (s.command who 0x0A8 fun s =>
    if !s.flag F.SYS_LOAD_STAT_READY then s.accessErr 0x11 who 0x0A8
    else if s.rst.tampHeld then s
    else
      let h := s.bootBytes 2 0 0xC0
      let (e, s1) := s.loadImage 2 trainFails
      if e ≠ 0 then
        let s2 := (s1.setF F.SYS_LOAD_STAT_RESULT e).raise 0x000 2
        { s2 with rst := { s2.rst with loadLen := 0 } }
      else (s1.setFlag F.SYS_LOAD_STAT_READY false).bootEnd 2 h (s.bootBytes 2 0xC0 (wordAt h 8)))

end Sys2Proof.Machine
end

