-- ==== Sys2Proof/Machine/Mailbox.lean ====
section
/-! DEFINITION. Commands of the mailbox queues (16_mailbox_queues.md R477 to R484). -/

namespace Sys2Proof.Machine

/-- DATA_READ (R477, R478). -/
def execDataRead (who : Initiator) (q : Fin 64) (off : Fin 8) (size : AccessSize) (s : State) : Res :=
  .next (s.windowRead who q.val off.val size)

/-- DATA_WRITE (R477, R479). -/
def execDataWrite (who : Initiator) (q : Fin 64) (off : Fin 8) (size : AccessSize) (value : DWord) (s : State) : Res :=
  .next (s.windowWrite who q.val off.val size value.toNat false)

/-- PACKET_WRITE (R477, R482). -/
def execPacketWrite (who : Initiator) (q : Fin 64) (off : Fin 8) (size : AccessSize) (value : DWord) (s : State) : Res :=
  .next (s.windowWrite who q.val off.val size value.toNat true)

/-- Remove the first held write whose limit has passed. -/
def expired (limit now : Nat) : List HeldWrite → Option (HeldWrite × List HeldWrite)
  | [] => none
  | h :: t =>
    if h.since + limit ≤ now then some (h, t)
    else
      match expired limit now t with
      | some (x, r) => some (x, h :: r)
      | none => none

/-- BUS_LIMIT_EXPIRY (R481): space freed in the cycle of the limit has already been used; the word is discarded. -/
def execBusLimitExpiry (q : Fin 64) (s : State) : Res :=
  s.live 0x030 <|
  let x := s.mboxQ q.val
  .next (match expired (s.mboxLimit q.val) s.now x.held with
    | some (h, rest) => (s.setMbox q.val { x with held := rest }).mboxFail q.val h.writer h.lost
    | none => s)

/-- PACKET_ABANDON (R482): the closure word, poison with payload 0, is stored at once; the closure counts in WR_FAIL. A packet whose
owner has a word held is not abandoned. -/
def execPacketAbandon (q : Fin 64) (s : State) : Res :=
  s.live 0x030 <|
  .next (
    let s := s.mboxCheckPtr q.val
    let x := s.mboxQ q.val
    if x.opener.isNone || decide (s.now ≤ x.lastPacket + s.mboxLimit q.val) || x.held.any fun h => some h.writer == x.opener then s
    else
      let s1 := s.bump (F.MBOX_WR_FAIL_COUNT (q.val / 4) (q.val % 4))
      let y := { x with opener := none }
      let s2 :=
        if x.dropPending then (s1.setMbox q.val y).bump (F.MBOX_DROPPED_COUNT (q.val / 4) (q.val % 4))
        else
          let z := { y with fill := y.fill ++ [⟨mboxWord 8 0, false⟩] }
          let s2 := s1.setMbox q.val z
          let s3 := s2.setF (F.MBOX_PEAK_LEVEL (q.val / 4) (q.val % 4))
            (max (s2.getF (F.MBOX_PEAK_LEVEL (q.val / 4) (q.val % 4))) z.level)
          if x.level = 0 then s3.mboxEvent q.val 0 else s3
      s2.mboxServe q.val)

/-- A write of MBOX_Q_CMD; the registers of queues 62 and 63 are read-only (R489). -/
def State.mboxCommand (s : State) (who : Initiator) (q : Fin 64) (k : State → State) : State :=
  let key := 0x30048 + 0x1000 * (q.val / 4) + 0x20 * (q.val % 4)
  s.command who key fun s =>
    if 62 ≤ q.val then s.accessErr 0x02 who key else (k (s.mboxCheckPtr q.val)).mboxServe q.val

/-- DROP_PACKET (R484). -/
def execDropPacket (who : Initiator) (q : Fin 64) (s : State) : Res :=
  .next (s.mboxCommand who q fun s =>
    let x := s.mboxQ q.val
    match dropPacketWords x.words with
    | some (n, _) =>
      (s.setMbox q.val { x with drain := x.drain.drop n, fill := x.fill.drop (n - x.drain.length) }).bumpBy
        (F.MBOX_DROPPED_COUNT (q.val / 4) (q.val % 4)) n
    | none => s.mboxDiscard q.val true)

/-- FLUSH (R484). -/
def execFlush (who : Initiator) (q : Fin 64) (s : State) : Res :=
  .next (s.mboxCommand who q fun s => s.mboxDiscard q.val false)

end Sys2Proof.Machine
end

