-- ==== Sys2Proof/Machine/Plan.lean ====
section
/-! DEFINITION. The meanings of the planner's commands (07_track_planner.md): requests, search and commit, shared cells, the tracker,
the sweep and the commands on the store. -/

namespace Sys2Proof.Machine

/-- The staged request (R203). -/
def State.stagedRequest (s : State) : PlanReq :=
  let w (k : Nat) : Nat := s.getF (F.TRACK_PLAN_REQ_WORD k)
  { tag := bitsOf (w 0) 31 24, prio := bitsOf (w 0) 23 20, bump := bitAt (w 0) 19, machine := bitsOf (w 0) 15 8, start := w 1, goal := w 2,
    earliest := w 3, hold := w 4, budget := w 5,
    bad := bitsOf (w 0) 18 16 != 0 || bitsOf (w 0) 7 0 != 0 || w 6 != 0 || w 7 != 0 }

/-- SUBMIT (R204). -/
def execPlanSubmit (who : Initiator) (s : State) : Res :=
  .next (s.command who 0x92060 fun s =>
    if 64 ≤ s.plan.queue.length ∨ !s.flag F.TRACK_CTRL_PLAN_EN ∨ s.notActive ∨ s.pair.handoff.isSome then s.accessErr 0x11 who 0x92060
    else
      let r := s.stagedRequest
      let old := s.plan.queue.filter fun x => x.machine == r.machine
      let s1 := { s with plan := { s.plan with queue := (s.plan.queue.filter fun x => x.machine != r.machine) ++ [r] } }
      old.foldl (fun s x => s.planResult x { outcome := 7 } 7 0 0 0 0) s1)

/-- CANCEL (R204, R465): a queued request ends at once, as does one whose search translation has paused; a search in progress is
cancelled at its end. -/
def execPlanCancel (who : Initiator) (machine : Fin 256) (s : State) : Res :=
  .next (s.command who 0x92084 fun s =>
    match s.plan.queue.find? fun r => r.machine == machine.val with
    | some r => (s.unqueue fun x => x.machine == machine.val).planResult r { outcome := 9 } 9 0 0 0 0
    | none =>
      match s.plan.search with
      | some x =>
        if x.req.machine ≠ machine.val then s
        else if x.ready then { s with plan := { s.plan with search := some { x with cancel := true } } }
        else ((s.dtuUnpause 3 0).planEnd x { outcome := 9 }).resStart
      | none => s)

/-- SEARCH_START (R204, R465): the planner runs one search at a time, and none while a store command runs or a unit is not
active. -/
def execSearchStart (s : State) : Res :=
  s.liveTick 0x090 <|
  .next (
    match s.plan.queue with
    | [] => s
    | r :: _ =>
      if s.plan.search.isSome || s.plan.cmd.isSome || s.flag F.TRACK_RES_CMD_STAT_BUSY || s.notActive then s
      else
        let x : PlanSearch := { req := r, s := s.planTick, since := s.now, found := { outcome := 1 } }
        (s.unqueue fun y => y.machine == r.machine).planSearch x)

/-- COMMIT (R204, R205, R212): a search that has run ends; a unit that is not active commits nothing. -/
def execPlanCommit (s : State) : Res :=
  s.liveTick 0x090 <|
  .next (
    match s.plan.search with
    | some x =>
      if !x.ready || s.plan.shared.isSome then s
      else if x.cancel || s.notActive then (s.planEnd x { outcome := 9 }).resStart
      else if x.found.outcome ≠ 0 then (s.planEnd x { outcome := x.found.outcome }).resStart
      else (s.planFinish x).resStart
    | none => s)

/-- SHR_REQ (R225, R226, R409): the request that arrived first, of the lead's own machines or of another member. -/
def execShrReq (s : State) : Res :=
  s.liveTick 0x090 <|
  .next (
    match s.plan.ownReqs with
    | (b, n) :: t =>
      if min n s.msgsWaiting = 0 then { s with plan := { s.plan with ownReqs := t } }.shrServe b
      else s.onMsg 0x03 fun m s => s.shrServe m.body
    | [] => s.onMsg 0x03 fun m s => s.shrServe m.body)

/-- SHR_REPLY (R225). -/
def execShrReply (s : State) : Res :=
  s.liveTick 0x090 <|
  .next (
    match s.plan.ownReplies with
    | b :: t => ({ s with plan := { s.plan with ownReplies := t } }.shrReply b).resStart
    | [] => (s.onMsg 0x04 fun m s => s.shrReply m.body).resStart)

/-- SHR_UPDATE (R224, R410). -/
def execShrUpdate (s : State) : Res := s.liveTick 0x090 <| .next (s.onMsg 0x05 fun m s => s.takeUpdate m.flags m.body)

/-- SHARED_RETRY (R225). -/
def execSharedRetry (s : State) : Res := s.liveTick 0x090 <| .next s.shrRetry.resStart

/-- FIX_PACKET (R217): a packet of the fix queue; one of another length or with a poison word is discarded. On a unit that is not
active the tracker changes nothing (R384). -/
def execFixPacket (s : State) : Res :=
  s.liveTick 0x090 <|
  let q := s.getF F.TRACK_QUEUES_FIX_QUEUE
  .next (
    if !s.flag F.TRACK_CTRL_TRACK_EN || !s.mboxPacketReady q then s
    else
      let (ps, bad, s1) := s.mboxTakePacket q (s.mboxQ q).level
      if bad ∨ ps.length ≠ 5 then (s1.bump F.TRACK_FIX_DISCARD_COUNT).raise 0x090 2
      else if s1.notActive then s1
      else
        let b := unpack7 32 ps
        let m := bitsOf (wordAt b 0) 19 12
        if s1.machValid m then
          (s1.trackFix m (bitsOf (wordAt b 0) 11 9) (s1.fullEpoch (wordAt b 4)) (toSigned 32 (wordAt b 8)) (toSigned 32 (wordAt b 12)) |>.leadTell s1).journalOpen
        else s1)

/-- OVERRUN_GRACE (R220): at the end of the plan tick that has passed. -/
def execOverrunGrace (s : State) : Res := s.liveTick 0x090 <| .next (s.overrunEnd ((s.planTick + 2 ^ 32 - 1) % 2 ^ 32))

/-- SWEEP (R201): at the end of the plan tick that has passed. -/
def execSweep (s : State) : Res := s.liveTick 0x090 <| .next (s.sweepEnd ((s.planTick + 2 ^ 32 - 1) % 2 ^ 32))

/-- A command on the store (R229, R231, R384): refused while BUSY, and but for the queries on a unit that is not active; INDEX and
the arguments are taken as it is written, and it starts at once, when a search ends or when the planner has caught up with a jump
(R563). -/
def State.resCommand (s : State) (who : Initiator) (cmd index : Nat) : State :=
  s.command who 0x91054 fun s =>
    if s.flag F.TRACK_RES_CMD_STAT_BUSY || (s.notActive && cmd != 3 && cmd != 4) then s.accessErr 0x11 who 0x91054
    else
      let c := some (cmd, index, s.getF F.TRACK_RES_ARG0_ARG, s.getF F.TRACK_RES_ARG1_PRIO)
      { s.setFlag F.TRACK_RES_CMD_STAT_BUSY true with plan := { s.plan with cmd := c, waiting := s.plan.search.isSome || s.time.catchFrom.isSome } }.resStart

/-- RESERVE (R229). -/
def execReserve (who : Initiator) (index : Fin 1048576) (s : State) : Res := .next (s.resCommand who 1 index.val)

/-- RELEASE (R229). -/
def execRelease (who : Initiator) (index : Fin 1048576) (s : State) : Res := .next (s.resCommand who 2 index.val)

/-- QUERY_CELL (R229). -/
def execQueryCell (who : Initiator) (index : Fin 1048576) (s : State) : Res := .next (s.resCommand who 3 index.val)

/-- QUERY_MACHINE (R229). -/
def execQueryMachine (who : Initiator) (index : Fin 1048576) (s : State) : Res := .next (s.resCommand who 4 index.val)

/-- RECONCILE (R228, R229). -/
def execReconcile (who : Initiator) (index : Fin 1048576) (s : State) : Res := .next (s.resCommand who 5 index.val)

/-- ACK (R229). -/
def execPlanAck (who : Initiator) (index : Fin 1048576) (s : State) : Res := .next (s.resCommand who 6 index.val)

/-- CLEAR (R229). -/
def execTrackClear (who : Initiator) (s : State) : Res := .next (s.resCommand who 7 0)

/-- QUERY_RESULT_READ (R46, R231). -/
def execQueryResultRead (who : Initiator) (s : State) : Res := .next (s.readAccess who 0x91070 0 .word)

/-- TRACK_RES_CMD_DONE (R566): BUSY falls with the RESULT of a command that has run. -/
def execTrackResCmdDone (s : State) : Res :=
  s.liveTick 0x090 <|
  .next (
    if s.flag F.TRACK_RES_CMD_STAT_BUSY && s.plan.cmd.isNone then
      ((s.setFlag F.TRACK_RES_CMD_STAT_BUSY false).setF F.TRACK_RES_CMD_STAT_RESULT s.plan.result).raise 0x091 0
    else s)

end Sys2Proof.Machine
end

