-- ==== Sys2Proof/Machine/Poppy.lean ====
section
/-! DEFINITION. The meanings of the stop plane's commands (10_poppy_plane.md). -/

namespace Sys2Proof.Machine

/-- TOKEN_SAMPLE (R297, R300): from 100 µs before the edge of superframe N, where no sample of N has been taken; also in the
tick of a step or SET that jumped over the sample's instant but not over the edge. Both channels compare, and unless the
unit withholds, a block by channel B apart, the token of N is made, to be placed at the later of the edge − 20 µs and the sample + 80 µs. -/
def execTokenSample (s : State) : Res :=
  .next (
    let n := (s.taiNs + 100000) / 20000000
    let edge := n * 20000000
    if s.taiNs ≤ edge ∧ Assoc.get (fun _ => 0) s.time.edges 10 < edge then
      let s1 := ((s.edgeDone 10 edge).poppyCompare).poppyEval
      match s1.poppy.keys with
      | none => s1
      | some (tok, _) =>
        if s1.withholdingBut then s1
        else
          let sfn := n % 2 ^ 32
          let t : SampledToken := ⟨sfn, s1.tokenBytes sfn tok, max (edge - 20000) (s.taiNs + 80000)⟩
          { s1 with poppy := { s1.poppy with sampled := some t } }
    else s)

/-- TOKEN_PLACE (R297, R300, R301): `checked` says that channel B finds the token's content equal to its own; the token is issued
unless the unit withholds. A failed check blocks publication; it is a difference, and the second in a row is DISAGREE. -/
def execTokenPlace (checked : Bool) (s : State) : Res :=
  .next (
    match s.poppy.sampled with
    | none => s
    | some t =>
      if s.taiNs < t.placeAt then s
      else
        let p := s.poppy
        if p.a.held || p.b.held then { s with poppy := { p with sampled := none } }
        else if checked then
          let q := { p with sampled := none, blocked := false, blockRun := 0 }
          let q := if s.withholdingBut then q else { q with token := t.bytes, tokenSfn := t.sfn, lastIssued := some t.sfn }
          { s with poppy := q }.poppyEval
        else
          let s1 := { s with poppy := { p with sampled := none, blocked := true, blockRun := p.blockRun + 1 } }
          (if p.blockRun = 1 then s1.disagreeStop else s1).poppyEval)

/-- ARM (R303): accepted from a control core with [31:16] 0xC3A5 and the next COUNT; the first arm after device reset may
carry any COUNT. -/
def execArm (who : Initiator) (word : Word) (s : State) : Res :=
  .next (s.command who 0xC0048 fun s =>
    let count := bitsOf word.toNat 15 0
    let core := match who with
      | .ctl _ => true
      | .debug | .data _ | .dma | .host => false
    if core && bitsOf word.toNat 31 16 == 0xC3A5 && (s.poppy.armAt.isNone || count == (s.poppy.armCount + 1) % 65536) then
      { s with poppy := { s.poppy with armAt := some s.now, armCount := count, armEnded := false } }.poppyEval
    else s.accessErr 0x11 who 0xC0048)

/-- ARM_LOST (R301, R303): the arm is no longer fresh. -/
def execArmLost (s : State) : Res := .next s.poppyEval

/-- ROLE (R304). -/
def execPoppyRole (who : Initiator) (role : Fin 4) (s : State) : Res :=
  .next (s.command who 0xC0058 fun s =>
    let core := match who with
      | .ctl _ => true
      | .debug | .data _ | .dma | .host => false
    if core && role.val != 0 then { s with poppy := { s.poppy with role := role.val } }.poppyEval
    else s.accessErr 0x11 who 0xC0058)

/-- STOP_MEMBER (R306). -/
def execStopMember (who : Initiator) (detail : Fin 256) (s : State) : Res :=
  .next (s.command who 0xC0050 fun s => s.poppyRequest 1 (requestCause who) detail.val 0)

/-- STOP_SITE (R306). -/
def execStopSite (who : Initiator) (detail : Fin 256) (s : State) : Res :=
  .next (s.command who 0xC0050 fun s => s.poppyRequest 2 (requestCause who) detail.val 0)

/-- CLEAR_MACHINE (R306). -/
def execClearMachine (who : Initiator) (detail machine : Fin 256) (s : State) : Res :=
  .next (s.command who 0xC0050 fun s => s.poppyRequest 3 (requestCause who) detail.val machine.val)

/-- STOP_ADOPT (R564): channel `x` registers the stops the other channel raised. -/
def execStopAdopt (x : Fin 2) (s : State) : Res :=
  .next (if (s.pchan x.val).held then s else s.adoptStops x.val)

/-- WITHDRAWAL (R302). -/
def execWithdrawal (s : State) : Res := .next (if s.withdrawalDue then s.withdraw else s)

/-- STOP_PRESENTATION (R309): at the edge of a slot that is an opportunity of the unit. -/
def execStopPresentation (s : State) : Res :=
  .next (s.atEdge 11 250000 fun n s =>
    if s.presentSlot (n / 250000 % 80) then s.present (n / 20000000 % 2 ^ 32) n else s)

/-- REL_GO (R310): takes the staged release; refused while one is being checked. -/
def execRelGo (who : Initiator) (s : State) : Res :=
  .next (s.command who 0xC00B4 fun s =>
    if s.poppy.release.isSome then s.accessErr 0x11 who 0xC00B4
    else
      let r : PoppyRelease := ⟨s.getF F.POPPY_REL_CMD_REG, s.getF F.POPPY_REL_SFN_SFN, s.getF F.POPPY_REL_SERIAL_SERIAL,
        s.getF F.POPPY_REL_TAG_TAG⟩
      { s with poppy := { s.poppy with release := some r } })

/-- RELEASE_DONE (R311). -/
def execReleaseDone (s : State) : Res :=
  .next (match s.poppy.release with
    | some r => s.releaseDone r
    | none => s)

/-- A control core may write the configuration: only in PROVISION (R298). -/
def State.poppyCfgOk (s : State) (who : Initiator) : Bool :=
  match who with
  | .ctl _ => s.lifeCycle == .provision
  | .debug | .data _ | .dma | .host => false

/-- CFG_COMMIT (R298, R312): both channels check the configuration and adopt it. -/
def execCfgCommit (who : Initiator) (s : State) : Res :=
  .next (s.command who 0xC0130 fun s =>
    let words := (List.range 12).map (fun i => (s.reg (0xC0100 + 4 * i)).toNat) ++ [0]
    let width := bitsOf (words.getD 1 0) 15 0
    let short := (List.range 8).any fun n =>
      let w := words.getD (4 + n) 0
      bitAt w 31 && decide (bitsOf w 9 0 < width + 50)
    if !s.poppyCfgOk who then s.accessErr 0x11 who 0xC0130
    else if short then s.accessErr 0x12 who 0xC0130
    else s.poppyAdopt words)

/-- TEST_PULSE (R312): a channel drives its test output low for WIDTH_US once every PERIOD_US. -/
def execTestPulse (x : Fin 2) (s : State) : Res :=
  .next (
    let c := s.pchan x.val
    if c.held || decide (s.now < c.tpNext) then s
    else
      let width := 1000 * bitsOf (c.word 0x104) 15 0
      let period := 1000 * bitsOf (c.word 0x104) 31 16
      s.setPchan x.val { c with tpLow := s.now + width, tpNext := s.now + period })

/-- WIRED_INPUT_OPEN (R312): channel `x` of input `n` has been low for FILT_US. -/
def execWiredInputOpen (x : Fin 2) (n : Fin 8) (s : State) : Res :=
  .next (
    let c := s.pchan x.val
    if c.held || !bitAt c.closed n.val then s
    else
      let s1 := (s.setPchan x.val { c with closed := c.closed - 2 ^ n.val }).inputChanged n.val
      if !c.inEn n.val then s1
      else (s1.raise 0x0C0 6).raiseOwn x.val (if c.inSite n.val then 0 else 1) 0x01 n.val false)

/-- WIRED_INPUT_CLOSED (R312). -/
def execWiredInputClosed (x : Fin 2) (n : Fin 8) (s : State) : Res :=
  .next (
    let c := s.pchan x.val
    if c.held || bitAt c.closed n.val then s
    else (s.setPchan x.val { c with closed := c.closed + 2 ^ n.val }).inputChanged n.val)

/-- WIRING_FAULT (R313): of input `n`, found by channel `x`'s test pulses (`disc` false), or because its channels have
differed for DISC_MS (`disc` true). -/
def execWiringFault (x : Fin 2) (n : Fin 8) (disc : Bool) (s : State) : Res :=
  .next (
    let c := s.pchan x.val
    let p := s.poppy
    let site := if c.inSite n.val then 0 else 1
    let due := match p.diffAt.find? (fun e => e.1 == n.val) with
      | some (_, t) => decide (t + 1000000 * c.discMs n.val ≤ s.now)
      | none => false
    if c.held || !c.inEn n.val then s
    else if disc then
      if !due || p.a.held || p.b.held then s
      else (s.setWiring n.val true).wiringStop (!bitAt p.tpFault n.val && !bitAt p.discFault n.val) true true site n.val
    else if !c.inTest n.val then s
    else (s.setWiring n.val false).wiringStop (!bitAt p.tpFault n.val && !bitAt p.discFault n.val) (x.val == 0) (x.val == 1) site n.val)

/-- WIRING_FAULT_CLEAR (R313): both channels have read the input closed, with correct test-pulse responses, for 100 ms. -/
def execWiringFaultClear (n : Fin 8) (s : State) : Res :=
  .next (
    let p := s.poppy
    match p.clearFrom.find? (fun e => e.1 == n.val) with
    | some (_, t) =>
      if bitAt p.a.closed n.val && bitAt p.b.closed n.val && decide (t + 100000000 ≤ s.now) then
        { s with poppy := { p with
          tpFault := p.tpFault - bit (bitAt p.tpFault n.val) * 2 ^ n.val,
          discFault := p.discFault - bit (bitAt p.discFault n.val) * 2 ^ n.val,
          clearFrom := p.clearFrom.filter (fun e => e.1 != n.val) } }
      else s
    | none => s)

/-- READBACK_FAULT (R314): output `k` of channel `x` has read back wrong for 500 µs; without VDDIO_3V3 every output reads low, which is
wrong where it is driven high (R549). -/
def execReadbackFault (x : Fin 2) (k : Fin 4) (s : State) : Res :=
  .next (
    let c := s.pchan x.val
    if c.held || !bitAt c.outEn k.val || bitAt c.fb k.val || (s.ioLost && !bitAt (s.outputs x.val) k.val) then s
    else
      let s1 := (s.setPchan x.val { c with fb := c.fb + 2 ^ k.val }).raise 0x0C0 7
      s1.raiseStop (x.val == 0) (x.val == 1) 1 0x0B (0x10 + k.val) s.poppyMember [] false)

/-- MARKER (R316): channel `x` pulls the marker of its own cycle (`seen` false), or sees a falling edge made by another
unit (`seen` true). -/
def execBusMarker (x : Fin 2) (seen : Bool) (s : State) : Res :=
  .next (
    let c := s.pchan x.val
    if c.held || !c.busEn then s
    else if seen then s.setPchan x.val (c.markerEdge s.now)
    else if !c.lead then s
    else
      let due := match c.cycle with
        | some t => decide (t + 1800000 ≤ s.now)
        | none => decide (c.busFrom + 1900000 ≤ s.now)
      if due then
        s.setPchan x.val { c with cycle := some s.now, marker := some s.now, busLost := false, markerLow := s.now + 100000 }
      else s)

/-- MEMBER_SLOT (R316, R317): channel `x` pulls its member's slot of this cycle, or releases it while the unit holds a
site-scope stop that it did not adopt from the bus. -/
def execMemberSlot (x : Fin 2) (s : State) : Res :=
  .next (
    let c := s.pchan x.val
    let release := s.poppy.stops.any fun y => y.scope == 0 && !y.fromBus && (if x.val = 0 then y.inA else y.inB)
    match c.cycle with
    | some t =>
      if c.held || !c.busEn || decide (s.now < t + 200000 + 100000 * c.member) then s
      else
        let pulled := !release
        let own := 2 ^ c.member
        let seenOwn := if pulled && (s.pchan (1 - x.val)).slotPull then s.poppy.seen ||| own else s.poppy.seen - (s.poppy.seen &&& own)
        let s1 := s.setPchan x.val { c with slotPull := pulled }
        { s1 with poppy := { s1.poppy with seen := seenOwn } }
    | none => s)

/-- SLOT_SAMPLE (R318): member `m`'s slot at its sample, low on line A, low on line B; each line is read by its own channel, and a
channel in reset reads nothing (R295). -/
def execSlotSample (m : Fin 16) (lowA lowB : Bool) (s : State) : Res :=
  .next (
    let p := s.poppy
    let b := 2 ^ m.val
    let c := if p.a.held then p.b else p.a
    let low := (lowA || p.a.held) && (lowB || p.b.held)
    let seen := if low then p.seen ||| b else p.seen - (p.seen &&& b)
    let s1 := { s with poppy := { p with seen := seen } }
    if (p.a.held && p.b.held) || !c.busEn || !(s.markerSeen 0 || s.markerSeen 1) then s
    else if low then { s1 with poppy := { s1.poppy with missing := p.missing - (p.missing &&& b) } }
    else if !bitAt c.expect m.val || m.val == c.member || bitAt p.missing m.val then s1
    else
      let s2 := ({ s1 with poppy := { s1.poppy with missing := p.missing ||| b } }.bump F.POPPY_BUS_MISS_COUNT).raise 0x0C0 8
      s2.raiseStop true true 1 0x02 m.val s.poppyMember [] true)

/-- BUS_LOST (R319): channel `x` has seen no marker falling edge within 1,900 µs of the previous one, in
channel ticks (R25). -/
def execBusLost (x : Fin 2) (s : State) : Res :=
  .next (
    let c := s.pchan x.val
    let last := c.marker.getD c.busFrom
    if c.held || !c.busEn || c.busLost || decide (s.now / 1000 ≤ last / 1000 + 1900) then s
    else
      let s1 := s.setPchan x.val { c with busLost := true, cycle := if c.lead then c.cycle else none }
      (s1.raise 0x0C0 9).raiseOwn x.val 1 0x0F c.leadMember true)

/-- The heartbeat frame of a channel (R389). -/
def State.heartbeatFrame (s : State) (x : Nat) : List Byte :=
  let c := s.pchan x
  let held := (s.poppy.stops.filter fun y => y.scope != 2 && (if x = 0 then y.inA else y.inB)).reverse.take 8
  let entry (y : PoppyStop) : List Byte :=
    bytesLE y.id 2 ++ bytesLE (y.scope * 0x40 + y.origin % 16) 1 ++ bytesLE y.cause 1 ++ bytesLE y.detail 1 ++ bytesLE 0 1
  let entries := held.flatMap entry
  let body := bytesLE 0x7E 1 ++
    bytesLE (c.member * 16 + c.unit * 8 + bit c.site * 4 + bit (!s.withholding) * 2) 1 ++ bytesLE c.fseq 1 ++
    bytesLE held.length 1 ++ bytesLE c.map.toNat 32 ++ entries ++ List.replicate (48 - entries.length) 0
  body ++ bytesLE (crc32 body) 4

/-- HEARTBEAT_SEND (R389): every 1,000 channel ticks. -/
def execHeartbeatSend (x : Fin 2) (s : State) : Res :=
  .next (
    let c := s.pchan x.val
    if c.held || decide (s.now < c.hbNext) then s
    else
      let s1 := if s.ioLost then s else { s with sent := .heartbeat x.val (s.heartbeatFrame x.val) :: s.sent }
      s1.setPchan x.val { c with hbNext := s.now + 1000000, fseq := (c.fseq + 1) % 256 })

/-- What an accepted heartbeat frame reports (R389). -/
def hbReport (l : List Byte) : HbReport :=
  let at_ (i n : Nat) : Nat := leValue ((l.drop i).take n)
  let n := min (at_ 3 1) 8
  let stop (k : Nat) : Nat × Nat × Nat × Nat × Nat :=
    let i := 0x24 + 6 * k
    (at_ i 2, at_ (i + 2) 1 / 64, at_ (i + 2) 1 % 16, at_ (i + 3) 1, at_ (i + 4) 1)
  ⟨bitAt (at_ 1 1) 2, bitAt (at_ 1 1) 1, BitVec.ofNat 256 (at_ 4 32), (List.range n).map stop⟩

/-- HEARTBEAT_FRAME (R320, R390): a frame that ends on channel `x`'s line; accepted ones mirror the partner's stops and
cleared bits. -/
def execHeartbeatFrame (x : Fin 2) (bytes : List Byte) (s : State) : Res :=
  .next (
    let c := s.pchan x.val
    let b1 := leValue ((bytes.drop 1).take 1)
    let good := bytes.length == 88 && leValue (bytes.take 1) == 0x7E && crc32 (bytes.take 84) == leValue (bytes.drop 84) &&
      b1 / 16 == c.member && bitsOf b1 3 3 != c.unit
    if c.held || !good then s
    else
      let r := hbReport bytes
      -- with a line present HB_LOST reads 0: evidence of the partner (R385)
      ((s.setPchan x.val { c with hbAt := s.now, hbOk := true, hb := some r }).mirrorPartner x.val r).evidence)

/-- HEARTBEAT_MISSING (R26, R390): in channel ticks of 1 µs, no accepted frame has ended within 3 ms after the previous one; one that
ends in the tick in which the 3 ms elapse is in time. -/
def execHeartbeatMissing (x : Fin 2) (s : State) : Res :=
  .next (
    let c := s.pchan x.val
    if !c.hbOk || decide (s.now / 1000 ≤ c.hbAt / 1000 + 3000) then s
    else
      let s1 := s.setPchan x.val { c with hbOk := false }
      if !(s.pchan (1 - x.val)).hbOk && s.poppy.a.pair then (s1.raise 0x0C0 10).raise 0x0C0 7 else s1)

/-- POPPY_CHANNEL_MONITOR (R295, R324): a channel's own supply or clock leaves its limits; the channel is held in reset. -/
def execPoppyChannelMonitor (x : Fin 2) (s : State) : Res := .next (s.poppyHold x.val)

/-- POPPY_CHANNEL_RELEASE (R295): not while device reset holds both channels (R14, R27). -/
def execPoppyChannelRelease (x : Fin 2) (s : State) : Res := .next (if s.rst.held then s else s.poppyRelease x.val)

end Sys2Proof.Machine
end

