-- ==== Sys2Proof/Machine/Power.lean ====
section
/-! DEFINITION. Commands and events of clocks and power states (17_clocks_and_power.md R491 to R506). -/

namespace Sys2Proof.Machine

/-! ## Clock inputs (R491 to R493) -/

/-- A clock input (bit `k` of the lost ones) is lost or back; CLK_STAT shows it. -/
def State.clockInput (s : State) (k : Nat) (present : Bool) : State :=
  let lost := s.pwr.lost
  let l := if present then (if bitAt lost k then lost - 2 ^ k else lost) else lost ||| 2 ^ k
  { s with pwr := { s.pwr with lost := l } }.setFlag ⟨0x1040, 7 + k, 7 + k⟩ present

/-- REF10_LOST (R492): the TB PLL goes on from the crystal. -/
def execRef10Lost (s : State) : Res :=
  .next (if bitAt s.pwr.lost 2 then s
    else
      let s1 := s.setF F.CLK_REF10_PPB_PPB s.viewPpb
      (((s1.clockInput 2 false).setFlag F.CLK_STAT_REF_FALLBACK true).bump F.CLK_REF_LOST_COUNT).raise 0x001 0)

/-- REF10_RESTORED (R492): present for 100 ms, the PLL has returned to it. -/
def execRef10Restored (s : State) : Res :=
  .next (if !bitAt s.pwr.lost 2 then s
    else
      let s1 := (s.clockInput 2 true).setFlag F.CLK_STAT_REF_FALLBACK false
      (s1.setF F.CLK_STAT_PLL_LOCK (s1.getF F.CLK_STAT_PLL_LOCK ||| 8)).raise 0x001 1)

/-- A port's link goes down (R357). -/
def State.portDown (s : State) (p : Nat) : State :=
  if s.flag (F.EMAC_STAT_LINK p) then
    ((s.setFlag (F.EMAC_STAT_LINK p) false).setFlag (F.EMAC_STAT_AN_DONE p) false).raise (emacPage p) 1
  else s

/-- Ports `a` to `b` - 1 lose their links. -/
def State.portsDown (s : State) (a b : Nat) : State := (List.range b).foldl (fun s p => if a ≤ p then s.portDown p else s) s

/-- The inputs of REFERENCE_LOST: SerDes references 0 and 1, the PCIe reference, the 32.768 kHz crystal. -/
def referenceInput (which : Fin 4) : Nat :=
  match which with
  | 0 => 3
  | 1 => 4
  | 2 => 5
  | _ => 0

/-- REFERENCE_LOST (R491): a reference is lost, with its ports or the PCIe link, or returns; the 32.768 kHz clock is a tamper source
(R441). -/
def execReferenceLost (which : Fin 4) (present : Bool) (s : State) : Res :=
  let k := referenceInput which
  .next (if present then s.clockInput k true
    else if bitAt s.pwr.lost k then s
    else
      let s1 := s.clockInput k false
      match which with
      | 0 => (s1.portsDown 0 16).raise 0x001 2
      | 1 => (s1.portsDown 16 20).raise 0x001 2
      | 2 => (s1.pcieReset true).raise 0x001 3
      | _ => (s1.raise 0x001 5).tamperDetect 1)

/-- CRYSTAL_LOST (R441, R493): Poppy channel A is held in reset, and the tamper logic detects its clock source. -/
def execCrystalLost (s : State) : Res :=
  .next (if bitAt s.pwr.lost 1 then s
    else
      let s1 := s.clockInput 1 false
      { s1 with pwr := { s1.pwr with x25LostAt := some s1.now } }.poppyHold 0 |>.tamperDetect 1)

/-- CRYSTAL_RESTORED (R493): within 1 ms of its loss channel A leaves reset; in a device reset the source ends. -/
def execCrystalRestored (s : State) : Res :=
  .next (match s.pwr.x25LostAt with
    | none => s
    | some t =>
      let back (s : State) : State := let s1 := s.clockInput 1 true; { s1 with pwr := { s1.pwr with x25LostAt := none } }
      if s.rst.held then back s
      else if s.now ≤ t + 1000000 then (back s).poppyRelease 0
      else s)

/-- PLL_LOCK_LOST (R507, R509): a PLL's lock bit falls, with event 4, or rises again. -/
def execPllLockLost (pll : Fin 7) (locked : Bool) (s : State) : Res :=
  let f : Fld := ⟨0x1040, pll.val, pll.val⟩
  .next (if locked then s.setFlag f true else if s.flag f then (s.setFlag f false).raise 0x001 4 else s)

/-! ## Domains in Bud (R495, R496) -/

/-- The device time at which the slot ends that follows in 25 µs (R495). -/
def State.radioWindow (s : State) : Nat := s.now + ((s.taiNs + 25000) / 250000 + 1) * 250000 - s.taiNs

/-- CLOCK_REQUEST (R495): the cores (0), the tiles (1) or the baseband of sector `n` (2 + n); a stopped one starts and is counted. -/
def execClockRequest (domain : Fin 10) (s : State) : Res :=
  .next (if s.pwr.state != .bud then s
    else if domain.val = 0 then s.clockRequest true
    else if domain.val = 1 then s.clockRequest false
    else
      let n := domain.val - 2
      let on := decide (s.now ≤ Assoc.get (fun _ => 0) s.pwr.radioUntil n)
      let s1 := { s with pwr := { s.pwr with radioUntil := Assoc.put (fun _ => 0) s.pwr.radioUntil n s.radioWindow } }
      if on then s1 else s1.bump F.CLK_STARTS_COUNT)

/-- CLOCK_HOLD_EXPIRY (R496): a request in the same cycle has come first. -/
def execClockHoldExpiry (cores : Bool) (s : State) : Res := .next (s.clockStop cores)

/-! ## Power states (R498) -/

/-- The power state changes, with event 0. -/
def State.enterPower (s : State) (x : PwrState) : State := { s with pwr := { s.pwr with state := x } }.raise 0x002 0

/-- A write of PWR_CMD: only a control core's, and not in a transition. -/
def State.powerCommand (s : State) (who : Initiator) (k : State → State) : State :=
  s.command who 0x2040 fun s =>
    match s.refusePwr who with
    | some c => s.accessErr c who 0x2040
    | none => k { s with pwr := { s.pwr with result := 0 } }

/-- BLOOM (R497, R498): every domain starts. -/
def execBloom (who : Initiator) (s : State) : Res :=
  .next (s.powerCommand who fun s =>
    if s.pwr.state == .bloom then s
    else
      let s1 := if s.pwr.coreOn then s else s.bump F.CLK_STARTS_COUNT
      let s2 := if s.pwr.tileOn then s1 else s1.bump F.CLK_STARTS_COUNT
      { s2 with pwr := { s2.pwr with coreOn := true, tileOn := true, radioUntil := [] } }.enterPower .bloom)

/-- BUD (R495, R496, R498): the domains follow their requests; the holds count from here. -/
def execBud (who : Initiator) (s : State) : Res :=
  .next (s.powerCommand who fun s =>
    if s.pwr.state == .bud then s else (((s.enterPower .bud).clockRequest true).clockRequest false))

/-! ## Entry to Snowdrop (R502) -/

/-- DMA channels stop as under STOP (R471). -/
def State.dmaSleep (s : State) : State :=
  { s with mem := { s.mem with dma := Assoc.mapVals (fun _ => {}) (fun _ c =>
    if c.state == .running then { c with state := .stopped }
    else if c.state == .paused then { c with stopKept := true } else c) s.mem.dma } }

/-- A search in progress commits; queued plan requests end CANCELLED. -/
def State.planSleep (s : State) : State :=
  let s1 := s.cancelQueue
  match s1.plan.search with
  | some x =>
    if !x.ready || s1.plan.shared.isSome then s1
    else if x.cancel then (s1.planEnd x { outcome := 9 }).resStart
    else if x.found.outcome ≠ 0 then (s1.planEnd x { outcome := x.found.outcome }).resStart
    else (s1.planFinish x).resStart
  | none => s1

/-- Frames queued for the tiles or in process are discarded and counted. -/
def State.solvSleep (s : State) : State :=
  let n := s.solv.queue.length + (s.solv.ctxs.filter fun e => e.2.st != .free && !e.2.test).length
  { s with solv := { s.solv with queue := [], ctxs := [] } }.unpauseAll (fun k _ => k == 1) |>.bumpBy F.SOLV_DROP_COUNT n

/-- Axis step output stops without a ramp. -/
def State.axisSleep (s : State) : State :=
  { s with axes := Assoc.mapVals (fun _ => {}) (fun _ a => { a with vel := 0 }) s.axes }

/-- Every core is in WFI: START_SLEEP is raised, and the blocks end their work (R325, R502). -/
def State.entryBegin (s : State) : State :=
  let rx := s.getF F.GNSS_RX_STATE_RX_STATE
  let s0 := if rx = 1 ∨ rx = 2 then s.startSleep.rxSleep else s.startSleep
  let s1 := s0.dmaSleep.planSleep.solvSleep.axisSleep
  { s1 with pwr := { s1.pwr with slept := true } }

/-- The entry's work, once every core is in WFI. -/
def State.entryEval (s : State) : State :=
  match s.pwr.wfiAt with
  | some t =>
    if s.pwr.state == .entering && !s.pwr.slept && decide (t ≤ s.now) && decide (t ≤ s.pwr.startedAt + 1000 * s.getF F.PWR_WFI_WAIT_US) then
      s.entryBegin
    else s
  | none => s

/-- SNOWDROP (R498, R502): the entry begins. `wfi` is the time in ns until all eight cores are in WFI, none where they do not come to
be. -/
def execSnowdrop (who : Initiator) (wfi : Option Nat) (s : State) : Res :=
  .next (s.powerCommand who fun s =>
    let p := s.pwr
    ({ s with pwr := { p with returnBud := p.state == PwrState.bud, startedAt := s.now, wfiAt := wfi.map fun d => s.now + d, slept := false,
                              wakeAt := none } }.enterPower .entering).entryEval)

/-- The state to return to. -/
def State.returnState (s : State) : PwrState := if s.pwr.returnBud then .bud else .bloom

/-- ENTRY_REFUSED (R498): the cores are not all in WFI within WFI_WAIT. -/
def execEntryRefused (s : State) : Res :=
  .next (if s.pwr.state == .entering && !s.pwr.slept && decide (s.pwr.startedAt + 1000 * s.getF F.PWR_WFI_WAIT_US ≤ s.now) &&
      !(s.entryEval).pwr.slept then
      ({ s with pwr := { s.pwr with result := 1 } }.enterPower s.returnState).raise 0x002 1
    else s)

/-- Mailbox queues are emptied, and what they held is counted (R487). -/
def State.mboxSleep (s : State) : State := (List.range 62).foldl (fun s q => s.mboxDiscard q (s.mboxQ q).dropPending) (s.dropHeld fun _ => true)

/-- Every port but those that may wake the device goes down (R378, R500). -/
def State.linksSleep (s : State) : State :=
  (List.range 20).foldl (fun s p => if p < 4 ∧ bitAt (s.getF F.SWCH_WAKE_CTRL_PORT_EN) p then s else s.portDown p) s

/-- Every sector but the watch sector falls silent: its links leave the data phase (R500). -/
def State.sectorsSleep (s : State) : State :=
  (List.range 8).foldl (fun s n =>
    if s.flag F.RADIO_WATCH_EN ∧ s.getF F.RADIO_WATCH_SECT = n then s
    else (s.linkDown n false 0).linkDown n true 0) s

/-- ENTRY_COMPLETE (R498, R500, R502); wake matches count from here (R378). -/
def execEntryComplete (s : State) : Res :=
  let s0 := s.entryEval
  .next (if !(s0.pwr.state == .entering && s0.pwr.slept) then s0
    else
      let s1 := if s0.getF F.GNSS_RX_STATE_RX_STATE = 3 then s0.rxFlush else s0
      let s2 := ((s1.mboxSleep.linksSleep).pcieReset true).sectorsSleep
      let s3 := if s2.flag F.DTU_LPDDR_STAT_READY then s2.setFlag F.DTU_LPDDR_STAT_SELF_REFRESH true else s2
      let s4 := s3.setF F.CLK_STAT_PLL_LOCK (s3.getF F.CLK_STAT_PLL_LOCK / 8 * 8)
      let s4 := s4.setReg 0xD0104 0
      let s5 := (s4.setF F.PWR_ENTRY_US_US ((s4.now - s4.pwr.startedAt) / 1000)).bump F.PWR_SNOWDROPS_COUNT
      { s5 with pwr := { s5.pwr with startedAt := s5.now } }.enterPower .snowdrop)

/-! ## Wake (R503, R504) -/

/-- ALARM (R503): the output time has reached WAKE_AT. -/
def execAlarm (s : State) : Res :=
  let at_ := s.getF F.PWR_WAKE_AT_SECOND
  .next (if at_ ≠ 0 ∧ at_ ≤ s.taiSec ∧ bitAt (s.getF F.PWR_WAKE_EN_EN) 2 then (s.setF F.PWR_WAKE_AT_SECOND 0).wakeSource 2 else s)

/-- WAKE_PIN (R503). -/
def execWakePin (s : State) : Res := .next (s.wakeSource 3)

/-- POWER_WAKE (R498, R504): a wake source has been registered; the wake begins. -/
def execPowerWake (s : State) : Res :=
  .next (match s.pwr.state, s.pwr.wakeAt with
    | .snowdrop, some t => { s with pwr := { s.pwr with startedAt := max s.pwr.startedAt t } }.enterPower .waking
    | _, _ => s)

/-- Pages without retention lose their state; a page with RET_REQ goes on from where it stopped (R501). -/
def State.wakePages (s : State) : State :=
  ((List.range 0x111).filter fun p => pageAssigned p && !pageKeptInSnowdrop p).foldl
    (fun s p => if s.flag (F.PG_CTRL_RET_REQ p) then s else s.sleepReset p) s

/-- WAKE_COMPLETE (R498, R501, R504). -/
def execWakeComplete (s : State) : Res :=
  .next (if s.pwr.state != .waking then s
    else
      let s0 := s.wakePages.setFlag F.DTU_LPDDR_STAT_SELF_REFRESH false
      let s1 := { s0 with mem := { s0.mem with lpddrLast := s0.now } }
      let s2 := s1.setF F.CLK_STAT_PLL_LOCK (s1.getF F.CLK_STAT_PLL_LOCK ||| 7)
      let s3 := s2.setF F.PWR_WAKE_US_US ((s2.now - s2.pwr.startedAt) / 1000)
      let s4 := { s3 with pwr := { s3.pwr with wakeAt := none, slept := false, wfiAt := none, coreOn := true, tileOn := true } }
      ((((s4.enterPower s4.returnState).raise 0x002 2).clockRequest true).clockRequest false))

end Sys2Proof.Machine
end

