-- ==== Sys2Proof/Machine/Radio.lean ====
section
/-! DEFINITION. The meanings of the radio's commands (09_malvo_radio.md). -/

namespace Sys2Proof.Machine

/-- LINK_DOWN (R265): a link leaves the data phase for state `dest` (R293 JESD_TX); `rx` names the RX link. -/
def execLinkDown (sect : Fin 8) (rx : Bool) (dest : Fin 5) (s : State) : Res :=
  .next (if dest.val = 3 then s else s.linkDown sect.val rx dest.val)

/-- LINK_UP (R265): both links are in the data phase; the sector rejoins at the next slot edge. -/
def execLinkUp (sect : Fin 8) (s : State) : Res :=
  let n := sect.val
  s.live (sectPage n) <|
  .next (
    if s.linksUp n then s
    else
      (((s.setF (F.SECT_STAT_JESD_TX n) 3).setF (F.SECT_STAT_JESD_RX n) 3).setSect n
        { s.sect n with back := some s.slotNow }).linkShow.raise (sectPage n) 0)

/-- SECT_BANK (R273): a write of SECT_CTRL.BANK. A request for the active bank ends a switch that waits. -/
def execSectBank (who : Initiator) (sect : Fin 8) (bank : Fin 2) (s : State) : Res :=
  let n := sect.val
  let key := sectPage n * 0x1000 + 0x040
  .next (s.command who key fun s =>
    if bank.val = s.getF (F.SECT_STAT_BANK_ACTIVE n) then
      (s.setF (F.SECT_CTRL_BANK n) bank.val).setFlag (F.SECT_STAT_BANK_PENDING n) false
    else if s.bankPasses n bank.val then
      (s.setF (F.SECT_CTRL_BANK n) bank.val).setFlag (F.SECT_STAT_BANK_PENDING n) true
    else (s.accessErr 0x12 who key).raise (sectPage n) 3)

/-- An epoch change waits beyond this instant (R274). -/
def State.epochHolds (s : State) : Bool := s.flag F.SOLV_STAT_EPOCH_PENDING && (s.edgeDue 4 200000000).isNone

/-- A pending switch applies; the bank is checked again, since its words may have changed (R273). -/
def State.sectSwitch (s : State) (n : Nat) : State :=
  if !s.flag (F.SECT_STAT_BANK_PENDING n) || s.epochHolds then s
  else
    let bank := s.getF (F.SECT_CTRL_BANK n)
    let s1 := s.setFlag (F.SECT_STAT_BANK_PENDING n) false
    if s1.bankPasses n bank then (s1.setF (F.SECT_STAT_BANK_ACTIVE n) bank).raise (sectPage n) 2
    else
      ((s1.setF (F.SECT_CTRL_BANK n) (s1.getF (F.SECT_STAT_BANK_ACTIVE n))).err (sectPage n) 0x12 none
        (regAddr (sectPage n * 0x1000 + 0x040))).raise (sectPage n) 3

/-- CYCLE_EDGE (R266, R273, R274, R276). -/
def execCycleEdge (sect : Fin 8) (s : State) : Res :=
  let n := sect.val
  .next (s.atEdge (100 + n) (s.cycleSlots * 250000) fun _ s =>
    let s1 := ((s.corrEnd n false).corrEnd n true).sectSwitch n
    s1.setSect n { s1.sect n with cycle := some (s1.slotNow / s1.cycleSlots), next := 0, blocks := [], twin := [] })

/-- BEACON (R267, R279): at the edge of the unit's beacon slot; a BEACON word of the program passes with its slot. -/
def execBeacon (sect : Fin 8) (s : State) : Res :=
  let n := sect.val
  .next ((s.atEdge (110 + n) 250000 fun t s =>
    let slot := t / 250000
    if s.sectServes n && s.pwr.state != .snowdrop && s.ownBeacon slot then s.sendBeacon n slot else s).progAct n 1 false fun _ s => s)

/-- STOP_MINI_SLOT (R267). -/
def execStopMiniSlot (sect : Fin 8) (s : State) : Res :=
  let n := sect.val
  .next ((s.atEdge (120 + n) 250000 fun t s =>
    let slot := t / 250000
    if s.sectServes n && s.pwr.state != .snowdrop && [20, 40, 60].elem (slot % 80) then s.sendStop n slot else s).progAct n 2 false fun _ s => s)

/-- TX (R275, R276). -/
def execTx (sect : Fin 8) (s : State) : Res := .next (s.progAct sect.val 3 false fun e s => s.txBlock sect.val e)

/-- RX (R283). -/
def execRx (sect : Fin 8) (s : State) : Res :=
  .next (s.progAct sect.val 4 true fun e s => s.openBlock sect.val (.rx (bitsOf e.word 7 0)) e)

/-- OPEN (R288). -/
def execRadioOpen (sect : Fin 8) (s : State) : Res :=
  .next (s.progAct sect.val 5 true fun e s => s.openBlock sect.val (.contention (bitAt e.word 8)) e)

/-- POLL (R289): opens the window, and serves a slot of it that answers. -/
def execPoll (sect : Fin 8) (s : State) : Res :=
  let n := sect.val
  .next ((s.progAct n 6 true fun e s => s.openBlock n .poll e).atEdge (130 + n) 250000 fun _ s =>
    if s.sectServes n then s.pollAnswer n else s)

/-- TWIN (R276): takes its blocks, and serves a slot of its own in which a block begins. -/
def execTwin (sect : Fin 8) (s : State) : Res :=
  let n := sect.val
  let s1 := s.progAct n 7 false fun e s => s.twinTake n e
  .next (if s1.sectServes n then s1.twinSend n else s1)

/-- IDLE (R271). -/
def execIdle (sect : Fin 8) (s : State) : Res := .next (s.progAct sect.val 8 false fun _ s => s)

/-- REPEAT (R271): the words before it run again, which the cycle's program holds in their order (`progRun`). -/
def execRadioRepeat (sect : Fin 8) (s : State) : Res := .next (s.progAct sect.val 9 false fun _ s => s)

/-- END (R271): the rest of the cycle is idle. -/
def execProgramEnd (sect : Fin 8) (s : State) : Res := .next (s.progAct sect.val 0 false fun _ s => s)

/-- FRAME_ACCEPT (R262, R268, R281 to R284, R287, R289): any received frame but ASSOC_REQ and DISASSOC. -/
def execFrameAccept (sect : Fin 8) (rate : Nat) (wide : Bool) (start : Nat) (bytes : List Byte) (s : State) : Res :=
  let r : RxFrame := ⟨rate, wide, start, bytes⟩
  .next (if r.proto = 1 ∧ (r.kind = 7 ∨ r.kind = 9) then s else s.airReceive sect.val r)

/-- ACK_MISSING (R282): at the end of the acknowledgement window. -/
def execAckMissing (sect : Fin 8) (s : State) : Res :=
  .next (
    match (s.sect sect.val).wait with
    | some w => if w.until_ ≤ s.taiNs then s.ackMissed sect.val else s
    | none => s)

/-- ASSOC_REQ (R286). -/
def execAssocReq (sect : Fin 8) (rate : Nat) (wide : Bool) (start : Nat) (bytes : List Byte) (s : State) : Res :=
  let r : RxFrame := ⟨rate, wide, start, bytes⟩
  .next (if r.proto = 1 ∧ r.kind = 7 then s.airReceive sect.val r else s)

/-- DISASSOC (R286). -/
def execDisassoc (sect : Fin 8) (rate : Nat) (wide : Bool) (start : Nat) (bytes : List Byte) (s : State) : Res :=
  let r : RxFrame := ⟨rate, wide, start, bytes⟩
  .next (if r.proto = 1 ∧ r.kind = 9 then s.airReceive sect.val r else s)

/-- ASSOC_TIMEOUT (R286). -/
def execAssocTimeout (machine : Fin 256) (s : State) : Res :=
  .next (
    match s.assocOf machine.val with
    | some at_ => if at_ + s.getF F.RADIO_PRIMROSE_TIMEOUT_S * 1000000000 ≤ s.now then s.assocEnd machine.val else s
    | none => s)

/-- WATCH (R290): the WATCH frame, then a poll window over slots 2 to 9, whose answers POLL serves. -/
def execWatch (s : State) : Res :=
  .next (s.atEdge 140 250000 fun t s =>
    let slot := t / 250000
    let n := s.getF F.RADIO_WATCH_SECT
    if s.watching && s.sectServes n && slot / 80 % 2 ^ 32 % 50 == 0 && s.ownBeacon slot then
      let s1 := s.airBroadcast n slot 42 12 5 (s.beaconPayload n slot none none)
      s1.setSect n { s1.sect n with rx := some ⟨.poll, slot / 80 * 80 + 2, 8, [], []⟩ }
    else s)

/-- FW_FRAME (R281, R292): a packet on TX_QUEUE. -/
def execFwFrame (s : State) : Res :=
  s.live 0x0B0 <|
  let q := s.getF F.RADIO_FWQ_TX_QUEUE
  .next (
    if !s.flag F.RADIO_FWQ_EN || !s.mboxPacketReady q then s
    else
      let (ps, bad, s1) := s.mboxTakePacket q (s.mboxQ q).level
      let h := ps.headD 0
      let len := bitsOf h 43 32
      let m := bitsOf h 55 48
      if bad || len == 0 || decide (2020 < len) || decide ((ps.length - 1) * 7 < len) || (!bitAt h 47 && !s1.machValid m) then
        (s1.bump F.RADIO_FW_DROP_COUNT).raise 0x0B0 2
      else
        let f : FwFrame := ⟨s1.radio.fwNext, if bitAt h 47 then none else some m, bitsOf h 46 44, unpack7 len (ps.drop 1), 0⟩
        { s1 with radio := { s1.radio with fw := s1.radio.fw ++ [f], fwNext := s1.radio.fwNext + 1 } })

end Sys2Proof.Machine
end

