-- ==== Sys2Proof/Machine/Registers.lean ====
section
/-! DEFINITION. Register commands that every page shares (02_register_pages.md R31 to R50, R562): accesses by access type, wide
values, LOCK, SOFT_RESET, the interrupt and error registers of the header, summary lines and MSI-X. -/

namespace Sys2Proof.Machine

/-- The key of a register word of a page. -/
def wordKey (page word : Nat) : Nat := page * 0x1000 + 4 * word

/-- The key at which an access of a size begins: a 64-bit access is of the aligned pair that holds the word (R33). -/
def accessKey (page word : Nat) (size : AccessSize) : Nat :=
  if size == .dword then wordKey page (word / 2 * 2) else wordKey page word

/-- The byte of a word at which an access of a size begins. -/
def subByte (sub : Fin 4) (size : AccessSize) : Nat :=
  match size with
  | .byte => sub.val
  | .half => sub.val / 2 * 2
  | .word | .dword => 0

/-- REGISTER_WRITE (R41): the fields of the register that have no row of their own take the write by their access type. `off` is the word
in the page and the byte within it at which a sub-word write begins. -/
def execRegisterWrite (who : Initiator) (page : Fin 4096) (off : Fin 1024 × Fin 4) (size : AccessSize) (value : DWord) (s : State) : Res :=
  .next (s.writeAccess who (accessKey page.val off.1.val size) (subByte off.2 size) size value.toNat fun k => allBits - ownedMask k)

/-- RC_FIELD_READ (R41, R43): a read of a register returns its value and clears its RC fields. `sub` is the byte within the word of a
sub-word read. -/
def execRcFieldRead (who : Initiator) (page : Fin 4096) (word : Fin 1024) (sub : Fin 4) (size : AccessSize) (s : State) : Res :=
  .next (s.readAccess who (accessKey page.val word.val size) (subByte sub size) size)

/-- UNMAPPED_ACCESS (R29, R31): an access to any internal address, at the multiple of its size that holds `addr`; where no region
is, or none that may be written, it is a decode error. -/
def execUnmappedAccess (who : Initiator) (addr : DWord) (size : AccessSize) (write : Bool) (value : DWord) (s : State) : Res :=
  let a := addr.toNat / accessBytes size * accessBytes size
  .next (if write then s.memWrite who a size value.toNat else s.memRead who a size)

/-- WIDE_VALUE_READ (R46, R47): the lowest word latches the higher ones for its reader, a higher word comes from the latch. -/
def execWideValueRead (who : Initiator) (page : Fin 4096) (off : Fin 1024 × Fin 4) (size : AccessSize) (s : State) : Res :=
  .next (s.readAccess who (accessKey page.val off.1.val size) (subByte off.2 size) size)

/-- WIDE_VALUE_COMMIT (R48): lower words wait in the writer's buffer, the highest word commits all of them. -/
def execWideValueCommit (who : Initiator) (page : Fin 4096) (off : Fin 1024 × Fin 4) (size : AccessSize) (value : DWord)
    (s : State) : Res :=
  .next (s.writeAccess who (accessKey page.val off.1.val size) (subByte off.2 size) size value.toNat fun k => allBits - ownedMask k)

/-- LOCK (R44). -/
def execLock (who : Initiator) (page : Fin 4096) (s : State) : Res :=
  .next (s.command who (page.val * 0x1000 + 0x008) fun s => s.setFlag (F.PG_CTRL_LOCK page.val) true)

/-- SOFT_RESET (R40, R562): refused with code 0x01 while LOCK is 1, without effect on POPPY; on a page of the site map it waits for
the command in progress. -/
def execSoftReset (who : Initiator) (page : Fin 4096) (s : State) : Res :=
  let p := page.val
  let key := p * 0x1000 + 0x008
  .next (s.command who key fun s =>
    if s.flag (F.PG_CTRL_LOCK p) then s.accessErr 0x01 who key
    else if p = 0x0C0 ∨ s.rst.soft.elem p = true then s
    else if s.mapBusy p then { s with rst := { s.rst with soft := p :: s.rst.soft, softLate := p :: s.rst.softLate } }
    else
      let s1 := s.softReset p
      { s1 with rst := { s1.rst with soft := p :: s1.rst.soft } })

/-- SOFT_RESET_DONE (R40, R562): SOFT_RESET clears. -/
def execSoftResetDone (page : Fin 4096) (s : State) : Res :=
  let p := page.val
  let late := s.rst.softLate.elem p
  .next (if !s.rst.soft.elem p || (late && s.mapBusy p) then s
    else
      let s1 := if late then s.softReset p else s
      { s1 with rst := { s1.rst with soft := s1.rst.soft.filter (· != p), softLate := s1.rst.softLate.filter (· != p) } })

/-- PG_IRQ_FORCE (R37): the bits written as 1 are set in PG_IRQ_RAW; a bit that the page's chapter does not list is reserved (R42). -/
def execPgIrqForce (who : Initiator) (page : Fin 4096) (value : Word) (s : State) : Res :=
  .next (s.command who (page.val * 0x1000 + 0x01C) fun s =>
    s.setReg (page.val * 0x1000 + 0x010) (s.reg (page.val * 0x1000 + 0x010) ||| (value &&& BitVec.ofNat 32 (eventMask page.val))))

/-- PG_ERR_CLR (R37): PG_ERR_INFO and PG_ERR_ADDR are cleared; PG_IRQ_RAW[31] stays. -/
def execPgErrClr (who : Initiator) (page : Fin 4096) (clear : Bool) (s : State) : Res :=
  .next (s.command who (page.val * 0x1000 + 0x028) fun s =>
    if clear then (s.setReg (page.val * 0x1000 + 0x020) 0).setReg (page.val * 0x1000 + 0x024) 0 else s)

/-- SUMMARY_LINE (R49): the line follows PG_IRQ_STAT; a rising edge is signalled. -/
def execSummaryLine (page : Fin 4096) (s : State) : Res :=
  let p := page.val
  .next (if pageAssigned p && s.pagePowered p && s.pagePowered 0x020 then
      let s1 := { s with lines := Assoc.put (fun _ => false) s.lines p (s.lineLevel p) }
      if s.lineLevel p && !s.line p then s1.schedTake (.edge p) else s1
    else s)

/-- The word of BAR4 at word offset `w` (R35): the vector table, four words a vector (address low and high, data, control, whose bit 0
is the mask; log 15), then the pending-bit array. -/
def State.bar4Word (s : State) (w : Nat) : Nat :=
  if w < 256 then
    if w % 4 = 3 then bit (!Assoc.get (fun _ => false) s.msixOpen (w / 4)) else (Assoc.get (fun _ => 0) s.msixMsg w).toNat
  else if 1024 ≤ w ∧ w < 1026 then
    (List.range 32).foldl (fun a i => a + bit (Assoc.get (fun _ => false) s.msixPend (32 * (w - 1024) + i)) * 2 ^ i) 0
  else 0

/-- A vector is masked or unmasked; unmasking a pending one sends its message once and clears the bit (R50). -/
def State.msixMask (s : State) (v : Nat) (mask : Bool) : State :=
  let s1 := { s with msixOpen := Assoc.put (fun _ => false) s.msixOpen v (!mask) }
  if !mask && Assoc.get (fun _ => false) s.msixPend v then
    { s1 with msixPend := Assoc.put (fun _ => false) s.msixPend v false }.msixSend v
  else s1

/-- MSIX_UNMASK (R35, R50): the host reads a word of BAR4, or writes it (`write` is some value); a write of a vector's control word
sets its mask. -/
def execMsixUnmask (word : Fin 2048) (write : Option Word) (s : State) : Res :=
  let w := word.val
  .next (if !s.reaches .host || s.rst.held then s
    else match write with
    | none => s.respond (s.bar4Word w) false
    | some value =>
      let s1 := s.respond 0 false
      if 256 ≤ w then s1
      else if w % 4 = 3 then s1.msixMask (w / 4) (bitAt value.toNat 0)
      else { s1 with msixMsg := Assoc.put (fun _ => 0) s1.msixMsg w (if w % 4 = 0 then value &&& 0xFFFFFFFC else value) })

end Sys2Proof.Machine
end

