-- ==== Sys2Proof/Machine/Reset.lean ====
section
/-! DEFINITION. Reset sources, the start, the watchdog, the TAP and debug control (18_reset_and_lifecycle.md R510 to R515, R523,
R528, R530, R531). -/

namespace Sys2Proof.Machine

/-- POWER_ON (R510). -/
def execPowerOn (s : State) : Res := .next s.powerOn

/-- BROWNOUT (R510). -/
def execBrownout (s : State) : Res := .next (s.deviceReset 1)

/-- The reset pin registers and stays low for `low` ns from now: the reset lasts at least as long (R510). -/
def State.pinReset (s : State) (low : Nat) : State :=
  let s1 := s.deviceReset 2
  { s1 with rst := { s1.rst with heldUntil := max s1.rst.heldUntil (s.now + low) } }

/-- RESET_PIN (R510): a pulse of `low` ns; one of 800 to 1000 ns registers or is ignored, which is left free. -/
def execResetPin (low : Nat) (s : State) : Res :=
  .next (if low < 800 then s
    else if 1000 ≤ low then s.pinReset low
    else
      let (v, s1) := s.fresh 2
      if v = 1 then s1.pinReset low else s1)

/-- CLOCK_LOSS_RESET (R493, R510): the 25 MHz crystal has been absent for 1 ms. -/
def execClockLossReset (s : State) : Res :=
  .next (match s.pwr.x25LostAt with
    | some t => if t + 1000000 ≤ s.now then s.deviceReset 3 else s
    | none => s)

/-- A write of RST_CMD with its KEY (R530). -/
def State.resetCommand (s : State) (who : Initiator) (key : Nat) (k : State → State) : State :=
  s.command who 0x3040 fun s => if key = 0xA5C3 then k s else s.accessErr 0x11 who 0x3040

/-- DEVICE (R510, R530). -/
def execDevice (who : Initiator) (key : Fin 65536) (s : State) : Res := .next (s.resetCommand who key.val fun s => s.deviceReset 5)

/-- PLANE_DATA (R512). -/
def execPlaneData (who : Initiator) (key : Fin 65536) (s : State) : Res :=
  .next (s.resetCommand who key.val fun s => s.planeReset .data false)

/-- PLANE_CONTROL (R512). -/
def execPlaneControl (who : Initiator) (key : Fin 65536) (s : State) : Res :=
  .next (s.resetCommand who key.val fun s => s.planeReset .control false)

/-- PLANE_MGMT (R512). -/
def execPlaneMgmt (who : Initiator) (key : Fin 65536) (s : State) : Res :=
  .next (s.resetCommand who key.val fun s => s.planeReset .mgmt false)

/-! ## Watchdog (R510, R530, R532) -/

def State.wdogTimeout (s : State) : Nat := 1000000 * s.getF F.RST_WDOG_CTRL_TIMEOUT_MS

/-- WATCHDOG_EXPIRY: the target is reset; the count begins again. -/
def execWatchdogExpiry (s : State) : Res :=
  .next (if !s.rst.wdogOn || s.rst.held || decide (s.now < s.rst.wdogFrom + s.wdogTimeout) then s
    else
      let s1 := { s with rst := { s.rst with wdogFrom := s.now, wdogHalf := false } }
      match s.getF F.RST_WDOG_CTRL_TARGET with
      | 0 => s1.deviceReset 6
      | 1 => s1.planeReset .data true
      | 2 => s1.planeReset .control true
      | _ => s1.planeReset .mgmt true)

/-- WDOG_KICK (R530). -/
def execWdogKick (who : Initiator) (value : Word) (s : State) : Res :=
  .next (s.command who 0x3058 fun s =>
    if value = 0x6B1C then { s with rst := { s.rst with wdogFrom := s.now, wdogHalf := false } } else s.accessErr 0x11 who 0x3058)

/-- WATCHDOG_HALF_TIMEOUT (R532): once in a count. -/
def execWatchdogHalfTimeout (s : State) : Res :=
  .next (if s.rst.wdogOn && !s.rst.wdogHalf && decide (s.rst.wdogFrom + s.wdogTimeout / 2 ≤ s.now) then
      { s with rst := { s.rst with wdogHalf := true } }.raise 0x003 1
    else s)

/-! ## Debug (R528, R531) -/

/-- A write of DBG_CTRL: only the debug port's. -/
def State.debugCommand (s : State) (who : Initiator) (k : State → State) : State :=
  s.command who 0x110040 fun s => if who = .debug then k s else s.accessErr 0x11 who 0x110040

/-- SYS_RESET (R531). -/
def execSysReset (who : Initiator) (s : State) : Res := .next (s.debugCommand who fun s => s.deviceReset 7)

/-- HALT_REQ (R531): cores newly named halt, others resume. -/
def execHaltReq (who : Initiator) (mask : Fin 256) (s : State) : Res :=
  .next (s.debugCommand who fun s =>
    let old := s.getF F.DBG_CTRL_HALT_REQ
    let s1 := s.setF F.DBG_CTRL_HALT_REQ mask.val
    let s2 := if mask.val &&& (255 - old) ≠ 0 then s1.raise 0x110 0 else s1
    if old &&& (255 - mask.val) ≠ 0 then s2.raise 0x110 1 else s2)

/-- TAP_INSTRUCTION (R528): what the state bars selects BYPASS (State.tapNow). -/
def execTapInstruction (tap : TapInstruction) (s : State) : Res := .next { s with rst := { s.rst with tap := tap } }

/-! ## The PCIe function, the wipe, the start -/

/-- PCIE_RESET (R510): a hot reset, link down or Function Level Reset; `linkUp` says whether the link is up after
it, which it is not without its reference (R491). -/
def execPcieReset (linkUp : Bool) (s : State) : Res := .next (s.pcieReset (!linkUp || bitAt s.pwr.lost 5))

/-- WIPE_COMPLETE (R514): 131,072 fabric cycles, 131.1 µs. -/
def execWipeComplete (s : State) : Res :=
  .next (if s.rst.wiping && !s.rst.held then { s with rst := { s.rst with wiping := false } }.setF F.RST_WIPE_US_US 131 else s)

/-- DEVICE_RESET_RELEASE (R510, R513, R523, R526): every source has ended; the time base and the Poppy plane begin anew, and the boot ROM runs
its stages. -/
def execDeviceResetRelease (w : BootWorld) (s : State) : Res :=
  .next (if s.rst.held then
      if s.now < s.rst.heldUntil ∨ s.pwr.x25LostAt.isSome then s
      else
        let s1 := s.resetState
        (s1.poppyStart.boot w)
    else if s.rst.booted then s
    else s.boot w)

end Sys2Proof.Machine
end

