-- ==== Sys2Proof/Machine/Sched.lean ====
section
/-! DEFINITION. The meanings of the dispatch engine's commands (11_dispatch_engine.md). -/

namespace Sys2Proof.Machine

/-- The control core of an initiator. -/
def controlCore : Initiator → Option Nat
  | .ctl k => some k.val
  | .debug | .data _ | .dma | .host => none

/-- A thread command (R334, R335, R356, R563): the thread it acts on; `selfOk` says that SELF is allowed. While another waits, it is
refused. -/
def State.threadCommand (s : State) (who : Initiator) (self selfOk : Bool) (op : ThreadOp) : State :=
  s.command who 0x21048 fun s =>
    let target := if self then (match controlCore who with
      | some c => if selfOk then some (s.schedCore c).run else none
      | none => none) else some (some (s.getF F.SCHED_THR_INDEX_THREAD))
    match target with
    | none => s.accessErr 0x11 who 0x21048
    | some t => if s.sched.thrBusy then s.accessErr 0x11 who 0x21048 else s.schedTake (.thread t op)

/-- CREATE (R334). -/
def execThreadCreate (who : Initiator) (self : Bool) (s : State) : Res :=
  .next (s.threadCommand who self false (.create (s.getF F.SCHED_THR_STAGE_LEVEL) (s.getF F.SCHED_THR_STAGE_AFFINITY)))

/-- DELETE (R334). -/
def execThreadDelete (who : Initiator) (self : Bool) (s : State) : Res := .next (s.threadCommand who self true .delete)

/-- SLEEP (R332, R334): from 1 tick up. -/
def execThreadSleep (who : Initiator) (self : Bool) (ticks : Fin 16777216) (s : State) : Res :=
  .next (
    if ticks.val = 0 then s.command who 0x21048 fun s => s.accessErr 0x10 who 0x21048
    else s.threadCommand who self true (.sleep ticks.val))

/-- WAIT_IRQ (R334). -/
def execWaitIrq (who : Initiator) (self : Bool) (ticks : Fin 16777216) (s : State) : Res :=
  .next (s.threadCommand who self true (.waitIrq ticks.val))

/-- YIELD (R334). -/
def execThreadYield (who : Initiator) (self : Bool) (s : State) : Res := .next (s.threadCommand who self true .yield)

/-- SET_LEVEL (R335). -/
def execSetLevel (who : Initiator) (self : Bool) (level : Fin 64) (s : State) : Res :=
  .next (s.threadCommand who self true (.setLevel level.val))

/-- WAKE (R334). -/
def execThreadWake (who : Initiator) (self : Bool) (s : State) : Res := .next (s.threadCommand who self false .wake)

/-- SUSPEND (R334): a READY thread leaves the ready list. -/
def execThreadSuspend (who : Initiator) (self : Bool) (s : State) : Res := .next (s.threadCommand who self true .suspend)

/-- RESUME (R334). -/
def execThreadResume (who : Initiator) (self : Bool) (s : State) : Res := .next (s.threadCommand who self false .resume)

/-- DELAY_EXPIRY (R332, R333): the delays of a set (0 threads, 1 work, 2 jobs) that have ended. -/
def execDelayExpiry (set_ : Fin 3) (s : State) : Res := s.liveTick 0x020 <| .next (s.delayExpiries set_.val)

/-- WAIT_TIMEOUT (R332). -/
def execWaitTimeout (s : State) : Res := s.liveTick 0x020 <| .next s.waitTimeouts

/-- CORE_ACK (R337): core `k`'s acknowledgement of the thread in NEXT. -/
def execCoreAck (who : Initiator) (k : Fin 4) (thread : Fin 512) (s : State) : Res :=
  .next (s.command who (0x20084 + 16 * k.val) fun s =>
    let c := s.schedCore k.val
    match c.next with
    | none => s.accessErr 0x11 who (0x20084 + 16 * k.val)
    | some t =>
      if t.getD 0 ≠ thread.val then s.accessErr 0x11 who (0x20084 + 16 * k.val)
      else
        let late := decide (c.irqAt + 1000 * s.getF F.SCHED_SWITCH_LIMIT_US < s.now)
        let s1 := (s.setSchedCore k.val { run := t }).bump F.SCHED_THR_SWITCHES_COUNT
        let s2 := match t with
          | some x => s1.setThread x { s1.thread x with st := .running, core := k.val }
          | none => s1
        if late then
          ((s2.bump F.SCHED_LATE_SWITCH_COUNT).raise 0x020 0).trace 0xE 0 (s2.thread (t.getD 0)).level (t.getD 0xFFFF) k.val 0
        else s2)

/-- WORK_ITEM (R339): the packet at the head of SUBMIT_Q. -/
def execWorkItem (s : State) : Res :=
  s.liveTick 0x020 <|
  .next (
    let q := s.getF F.SCHED_WRK_QUEUES_SUBMIT_Q
    if s.flag F.SCHED_CTRL_WRK_EN && s.mboxPacketReady q then
      let (ws, bad, s1) := s.mboxTakePacket q 1025
      let w := ws.getD 0 0
      let refuse (s : State) : State := ((s.bump F.SCHED_WRK_REFUSED_COUNT).raise 0x022 0).trace 0xD 1 0 0xFFFF 0xFFFF 0
      if bad || ws.length != 2 || bitsOf w 45 32 != 0 then refuse s1
      else
        match s1.workEnter (bitsOf w 55 50) (bitsOf w 49 46) (bitsOf w 31 16) (bitsOf w 15 0) (ws.getD 1 0) with
        | (0, _, s2) => s2.workGrant 4
        | (_, _, s2) => refuse s2
    else s)

/-- WORK_SUBMIT (R339, R353, R563). -/
def execWorkSubmit (who : Initiator) (s : State) : Res :=
  .next (s.command who 0x22060 fun s =>
    s.schedTake (.work (s.getF F.SCHED_WRK_SUB0_LEVEL) (s.getF F.SCHED_WRK_SUB0_AFFINITY) (s.getF F.SCHED_WRK_SUB1_HANDLER)
      (s.getF F.SCHED_WRK_SUB0_DELAY) (s.getF F.SCHED_WRK_SUB2_ARG)))

/-- PULL (R340, R341): the word at the head of REQ_Q. -/
def execPull (s : State) : Res :=
  s.liveTick 0x020 <|
  .next (
    if !s.flag F.SCHED_CTRL_WRK_EN then s
    else
      match s.mboxTake (s.getF F.SCHED_WRK_QUEUES_REQ_Q) with
      | (none, s1) => s1
      | (some word, s1) =>
        let w := wordPayload word
        let k := bitsOf w 49 48
        if wordTag word ≠ 3 ∨ bitsOf w 55 50 ≠ 4 ∨ bitsOf w 47 13 ≠ 0 then s1
        else
          let s2 := s1.trace 0xA 1 0 0xFFFF k (if bitAt w 12 then bitsOf w 11 0 else 0)
          if s2.sched.waiting.elem k then (s2.bump F.SCHED_WRK_PULL_IGNORED_COUNT).raise 0x022 1
          else
            (({ s2 with sched := { s2.sched with waiting := s2.sched.waiting ++ [k] } }).workGrant 4).workEmpty)

/-- WRK_EN (R342): from 0 to 1 the words already in the engine's queues are discarded and every data core is told. -/
def execWrkEn (who : Initiator) (enable : Bool) (s : State) : Res :=
  .next (s.command who 0x20040 fun s =>
    let s1 := s.setFlag F.SCHED_CTRL_WRK_EN enable
    if !enable || s.flag F.SCHED_CTRL_WRK_EN then s1
    else
      let (n1, s2) := s1.drainQueue (s1.getF F.SCHED_WRK_QUEUES_REQ_Q) 1025
      let (n2, s3) := s2.drainQueue (s2.getF F.SCHED_WRK_QUEUES_SUBMIT_Q) 1025
      let s4 := s3.bumpBy F.SCHED_WRK_REFUSED_COUNT (n1 + n2)
      let s5 := (List.range 4).foldl (fun s k => s.postPacket (s.grantQueue k) .dispatch none [0x2 * 2 ^ 52]) s4
      -- the set runs again: cores that still wait are served (R341)
      if s5.time.catchFrom.isSome then s5 else s5.workGrant 4)

/-- JOB_SUBMIT (R343, R563). -/
def execJobSubmit (who : Initiator) (s : State) : Res :=
  .next (s.command who 0x23058 fun s => s.schedTake (.job ((List.range 4).map fun i => (s.reg (0x23048 + 4 * i)).toNat)))

/-- ASK (R344, R563). -/
def execJobAsk (who : Initiator) (machine : Fin 256) (timeout : Fin 65536) (s : State) : Res :=
  .next (s.command who 0x23060 fun s => s.schedTake (.ask machine.val timeout.val))

/-- CANCEL_ASK (R347, R354, R563). -/
def execCancelAsk (who : Initiator) (machine : Fin 256) (s : State) : Res :=
  .next (s.command who 0x23064 fun s => s.schedTake (.cancelAsk machine.val))

/-- WITHDRAW (R354, R563). -/
def execJobWithdraw (who : Initiator) (handle : Fin 4096) (s : State) : Res :=
  .next (s.command who 0x23068 fun s => s.schedTake (.withdraw handle.val))

/-- MATCHING_PASS (R346). -/
def execMatchingPass (s : State) : Res :=
  s.liveTick 0x020 <|
  .next (if s.flag F.SCHED_CTRL_JOB_EN then
    match s.edgeDue 12 10000000 with
    | some n => (s.edgeDone 12 n).jobPass
    | none => s.jobPass
  else s)

/-- ASK_TIMEOUT (R346). -/
def execAskTimeout (s : State) : Res := s.liveTick 0x020 <| .next (if s.flag F.SCHED_CTRL_JOB_EN then s.askTimeouts else s)

/-- EXPIRE (R346). -/
def execJobExpire (s : State) : Res := s.liveTick 0x020 <| .next (if s.flag F.SCHED_CTRL_JOB_EN then s.jobExpiries else s)

end Sys2Proof.Machine
end

