-- ==== Sys2Proof/Machine/Seg.lean ====
section
/-! DEFINITION. The meanings of segment delivery's commands (08_segments_and_axes.md R239, R240). -/

namespace Sys2Proof.Machine

/-- DELIVERY_WORD (R239, R384): the planner reads one delivery word and sets the machine's ACK_PLAN_ID; suspended on a unit that is
not active. -/
def execDeliveryWord (s : State) : Res :=
  s.liveTick 0x0A0 <|
  .next (
    if s.notActive then s
    else
      match s.mboxTake (s.getF F.TRACK_QUEUES_ACK_QUEUE) with
      | (none, s1) => s1
      | (some w, s1) =>
        let p := wordPayload w
        let m := bitsOf p 47 40
        if wordTag w = 1 ∧ bitsOf p 55 52 = 8 ∧ s1.machValid m then s1.setAck m (p % 2 ^ 32) else s1)

/-- CHUNK_ACK (R239): the acknowledgement of a chunk (machine, index) that has been sent. -/
def execChunkAck (chunk : Fin 256 × Fin 16) (s : State) : Res :=
  s.live 0x0A0 <| .next (
    let m := chunk.1.val
    let t := s.segTable m
    if bitAt t.sent chunk.2.val then s.segAcked m t.plan (2 ^ chunk.2.val) else s)

/-- LATE (R240). -/
def execSegLate (s : State) : Res := s.liveTick 0x0A0 <| .next s.segLate

/-- GIVEUP (R240). -/
def execSegGiveup (s : State) : Res := s.liveTick 0x0A0 <| .next s.segGiveUp

/-- The ends of the skipped plan ticks at which something falls due for the planner or for SEG, in ascending order (R563). -/
def State.planCatchUp (s : State) (from_ : Nat) (span last : Int) : Nat → State
  | 0 => s
  | n + 1 =>
    match nextOffset last span (s.rsvs.flatMap (s.rsvDue from_) ++ s.segRunning.flatMap fun e => s.segDue from_ e.2) with
    | none => s
    | some d =>
      (((s.planTickEnd (tickAt from_ d)).segLateAt (tickAt from_ (d + 1))).segGiveUpAt (tickAt from_ (d + 1))).planCatchUp from_ span d n

/-- TIME_JUMP_CATCH_UP (R563): after a step or SET the dispatch engine, the planner and SEG carry out what fell due at the skipped
ticks; then what has waited for it is carried out, and a command that waits at the store may start. -/
def execTimeJumpCatchUp (s : State) : Res :=
  s.live 0x0A0 <|
  .next (match s.time.catchFrom, s.time.jump with
    | some from_, some (_, dest) =>
      let s1 := s.schedCatchUp from_ dest
      let s2 := s1.planCatchUp (from_ / 10000000 % 2 ^ 32) (dest / 10000000 - from_ / 10000000 : Nat) (-1)
        (3 * s1.plan.used.length + 2 * s1.segRunning.length + 3)
      { s2 with time := { s2.time with catchFrom := none } }.schedRelease.resStart
    | _, _ => s)

end Sys2Proof.Machine
end

