-- ==== Sys2Proof/Machine/Solver.lean ====
section
/-! DEFINITION. The meanings of the fix engine's commands (05_fix_engine.md). -/

namespace Sys2Proof.Machine

/-- OBSERVATION_FRAME (R124, R126, R129, R148). -/
def execObservationFrame (machine : Fin 256) (bytes : List Byte) (s : State) : Res := s.live 0x060 <| .next (s.obsFrame machine.val bytes)

/-- RTCM_FRAME (R126, R127): an uplink payload of RTCM 3 frames: the first frame's preamble and length bytes, and all that follows. -/
def execRtcmFrame (machine : Fin 256) (preamble len1 len0 : Byte) (rest : List Byte) (s : State) : Res :=
  s.live 0x060 <| .next (s.rtcmPayload machine.val (preamble :: len1 :: len0 :: rest))

/-- POSITION_REPORT (R126, R128). -/
def execPositionReport (machine : Fin 256) (bytes : List Byte) (s : State) : Res := s.live 0x060 <| .next (s.positionReport machine.val bytes)

/-- MODE (R122): the write; it comes into force at the next epoch edge. -/
def execMachineMode (who : Initiator) (machine : Fin 256) (mode : Fin 4) (s : State) : Res :=
  .next (s.rowWrite who (0x60400 + 4 * machine.val) mode.val 3 fun _ new => new)

/-- EPOCH_EDGE (R22, R122, R134). -/
def execEpochEdge (s : State) : Res :=
  s.live 0x060 <|
  .next (s.atEdge 3 (s.epochMs * 1000000) fun _ s => (s.applyModes 256).applyBank)

/-- EPOCH_CHANGE_APPLY (R68, R155): at a TAI multiple of 200 ms. -/
def execEpochChangeApply (s : State) : Res :=
  s.live 0x060 <|
  .next (s.atEdge 4 200000000 fun _ s =>
    if !s.flag F.SOLV_STAT_EPOCH_PENDING then s
    else
      let s1 := ((s.setF F.SOLV_STAT_EPOCH_ACTIVE (s.getF F.SOLV_CTRL_EPOCH)).setFlag F.SOLV_STAT_EPOCH_PENDING false).raise 0x060 4
      if s1.epochMs % (10 * s1.getF F.GNSS_MEAS_CTRL_PERIOD) = 0 then s1 else s1.setFlag F.GNSS_MEAS_STAT_PERIOD_FORCED true)

/-- BANK (R134): a write of SOLV_CTRL.BANK. -/
def execScriptBank (who : Initiator) (bank : Fin 2) (s : State) : Res :=
  .next (s.command who 0x60040 fun s =>
    let t := s.requestBank bank.val
    if bank.val = s.getF F.SOLV_STAT_BANK_ACTIVE ∨ bankOk (s.bankWords bank.val) then t else t.accessErr 0x12 who 0x60040)

/-- TILE_DISPATCH (R149). -/
def execTileDispatch (s : State) : Res := s.live 0x060 <| .next (s.tileDispatch 0 16)

/-- PREEMPTION (R150): every point between commands is a macro-operation boundary. -/
def execPreemption (s : State) : Res := s.live 0x060 <| .next s.preempt

/-- The running context of a tile carries out its script word, when that word's OP is `op` (R133). -/
def State.macroOp (s : State) (tile op : Nat) (k : Nat → RunCtx → Nat → State) : State :=
  match s.running tile with
  | some i =>
    let c := s.ctx tile i
    if c.test || opOf (c.script.getD c.index 0) != op then s else k i c (c.script.getD c.index 0)
  | none => s

/-- Store a run with its next word. -/
def State.stepRun (s : State) (tile i : Nat) (c : RunCtx) : State := s.setCtx tile i { c with index := c.index + 1 }

/-- LOAD (R131, R133). -/
def execScriptLoad (tile : Fin 16) (s : State) : Res :=
  s.live 0x060 <|
  .next (s.macroOp tile.val 0x01 fun i _ _ => s.opLoad tile.val i)

/-- PREDICT (R133): the time update from the state epoch to the frame epoch. -/
def execScriptPredict (tile : Fin 16) (s : State) : Res :=
  s.live 0x060 <|
  .next (s.macroOp tile.val 0x02 fun i c _ =>
    s.stepRun tile.val i { c with filter := { (s.runUpdate c 0x02 []) with epoch := c.frame.epoch } })

/-- DDFORM (R133, R136, R153, R162). -/
def execScriptDdform (tile : Fin 16) (s : State) : Res :=
  s.live 0x060 <|
  .next (s.macroOp tile.val 0x03 fun i c w => s.stepRun tile.val i (s.opDdform c (argA w)))

/-- SLIPDET (R133, R139). -/
def execScriptSlipdet (tile : Fin 16) (s : State) : Res :=
  s.live 0x060 <|
  .next (s.macroOp tile.val 0x04 fun i c w => s.stepRun tile.val i (s.opSlipdet c (argA w)))

/-- UPDATE (R133, R138). -/
def execScriptUpdate (tile : Fin 16) (s : State) : Res :=
  s.live 0x060 <|
  .next (s.macroOp tile.val 0x05 fun i c w => s.stepRun tile.val i (s.opUpdate c (argA w) (argB w)))

/-- CHECK (R133, R140). -/
def execScriptCheck (tile : Fin 16) (s : State) : Res :=
  s.live 0x060 <|
  .next (s.macroOp tile.val 0x06 fun i c w => s.stepRun tile.val i (s.opCheck c (argB w)))

/-- DECOR (R133, R141). -/
def execScriptDecor (tile : Fin 16) (s : State) : Res :=
  s.live 0x060 <|
  .next (s.macroOp tile.val 0x07 fun i c _ => s.stepRun tile.val i (s.opDecor c))

/-- SEARCH (R133, R141). -/
def execScriptSearch (tile : Fin 16) (s : State) : Res :=
  s.live 0x060 <|
  .next (s.macroOp tile.val 0x08 fun i c w => s.stepRun tile.val i (s.opSearch c (argB w)))

/-- VALIDATE (R133, R142). -/
def execScriptValidate (tile : Fin 16) (s : State) : Res :=
  s.live 0x060 <|
  .next (s.macroOp tile.val 0x09 fun i c w => s.setCtx tile.val i (s.opValidate c (argA w) (argB w)))

/-- FIXOUT (R143 to R146): the record is formed and emitted; `moved` says that a relocation step fell in its lookup (R180). -/
def execScriptFixout (tile : Fin 16) (moved : Bool) (s : State) : Res :=
  s.live 0x060 <|
  .next (s.macroOp tile.val 0x0A fun i c _ =>
    (s.stepRun tile.val i { c with fixed := true }).emitRun c (s.fixRecord c) moved)

/-- STORE (R131, R133). -/
def execScriptStore (tile : Fin 16) (s : State) : Res :=
  s.live 0x060 <|
  .next (s.macroOp tile.val 0x0B fun i _ _ => s.opStore tile.val i)

/-- BRANCH (R133). -/
def execScriptBranch (tile : Fin 16) (s : State) : Res :=
  s.live 0x060 <|
  .next (s.macroOp tile.val 0x0C fun i c w =>
    s.setCtx tile.val i { c with index := if s.branchTaken c (argA w) then argB w else c.index + 1 })

/-- NOP (R133). -/
def execScriptNop (tile : Fin 16) (s : State) : Res :=
  s.live 0x060 <|
  .next (s.macroOp tile.val 0x0D fun i c _ => s.stepRun tile.val i c)

/-- END (R133): the run ends and its context is free. -/
def execScriptEnd (tile : Fin 16) (s : State) : Res :=
  s.live 0x060 <|
  .next (s.macroOp tile.val 0x00 fun i _ _ => ((s.setCtx tile.val i noCtx).bump (F.ASTER_RUNS_COUNT tile.val)).solvRetry)

/-- HOLD (R152): a write of ASTER_CTRL.HOLD. -/
def execTileHold (who : Initiator) (tile : Fin 16) (hold : Bool) (s : State) : Res :=
  .next (s.rowWrite who (0x61040 + 0x1000 * tile.val) (bit hold) 1 fun _ new =>
    let n := tile.val
    let hold1 (s : State) (k : Nat) : State :=
      let c := s.ctx n k
      if hold && c.st == .running then s.setCtx n k { c with st := .held }
      else if !hold && c.st == .held then s.setCtx n k { c with st := .ready }
      else s
    let s1 := hold1 (hold1 new 0) 1
    if hold then s1.raise (0x061 + n) 2 else s1)

/-- EVICT (R152): the frames of both contexts return to the input queue. -/
def execTileEvict (who : Initiator) (tile : Fin 16) (s : State) : Res :=
  .next (s.command who (0x61040 + 0x1000 * tile.val) fun s => ((s.evictCtx tile.val 0).evictCtx tile.val 1).solvRetry)

/-- TILE_FAULT (R152, R166, R168): an uncorrectable error of local SRAM or an internal fault. -/
def execTileFault (tile : Fin 16) (ctx : Fin 2) (ecc : Bool) (s : State) : Res :=
  s.live 0x060 <|
  .next (
    let n := tile.val
    let c := s.ctx n ctx.val
    let rec_ := 0x80000000 + ctx.val * 0x40000000 + c.index * 0x1000000 + opOf (c.script.getD c.index 0) * 0x10000 +
      (if ecc then 2 else 3)
    let s1 := ((s.setReg (0x6104C + 0x1000 * n) (BitVec.ofNat 32 rec_)).setFlag (F.PG_STAT_FAULT (0x061 + n)) true).raise (0x061 + n) 1
    (((s1.err (0x061 + n) 0x12 none c.index).evictCtx n 0).evictCtx n 1).solvRetry)

/-- TEST (R166): the known-answer script runs in a free context; refused when none is free. -/
def execTileTest (who : Initiator) (tile : Fin 16) (s : State) : Res :=
  .next (s.command who (0x61058 + 0x1000 * tile.val) fun s =>
    let n := tile.val
    match s.tileTestStart n with
    | none => s.accessErr 0x11 who (0x61058 + 0x1000 * n)
    | some s1 => s1)

/-- TEST_DONE (R166): DONE, the signature, and PASS where it is the known one. -/
def execTileTestDone (tile : Fin 16) (signature : Fin 65536) (s : State) : Res :=
  s.live 0x060 <|
  .next (
    let n := tile.val
    let clear (s : State) (k : Nat) : State := if (s.ctx n k).test then s.setCtx n k noCtx else s
    if (s.ctx n 0).test || (s.ctx n 1).test then
      let pass := signature.val == Config.tileSignature % 65536
      ((clear (clear s 0) 1).setReg (0x61058 + 0x1000 * n)
        (BitVec.ofNat 32 (0x40000000 + bit pass * 0x20000000 + signature.val))).raise (0x061 + n) 3
    else s)

/-- One machine at the end of an epoch (R147). -/
def State.noneCount (s : State) (epoch m : Nat) : State :=
  let x := s.smach m
  let limit := s.getF F.SOLV_NONE_LIMIT_EPOCHS
  if x.mode = 0 ∨ limit = 0 then s
  else if x.good.elem epoch then s.setSmach m { x with none_ := 0, logged := false }
  else
    let n := x.none_ + 1
    if limit ≤ n ∧ !x.logged then
      ((s.setSmach m { x with none_ := n, logged := true }).raise 0x060 1).pushFifo 0x6009C 16
        [BitVec.ofNat 32 (0x80000000 + m * 0x100 + min 255 n)] id
    else s.setSmach m { x with none_ := n }

def State.noneAll (s : State) (epoch : Nat) : Nat → State
  | 0 => s
  | m + 1 => (s.noneAll epoch m).noneCount epoch m

/-- The epochs that end at `k` edges from edge `n` on (R147). -/
def State.noneEpochs (s : State) (len : Nat) : Nat → Nat → State
  | 0, _ => s
  | k + 1, n => (s.noneAll ((n - len) / 1000000) 256).noneEpochs len k (n + len)

/-- The first edge after the one counted last and after an interval jumped over; with none counted, `n`. -/
def State.noneFrom (s : State) (len last n : Nat) : Nat :=
  let after := match s.time.jump with
    | some (_, b) => (b + len - 1) / len * len
    | none => 0
  if last = 0 then n else max (last / len * len + len) after

/-- NONE_EVT (R147): an epoch ends at the next edge plus SOLV_DEADLINE, counted in a later tick so that a record of that tick is in time.
Every epoch that has ended since the last count is counted. -/
def execNoneEvt (s : State) : Res :=
  s.live 0x060 <|
  .next (
    let len := s.epochMs * 1000000
    let n := (s.taiNs - 1 - s.getF F.SOLV_DEADLINE_US * 1000) / len * len
    let last := Assoc.get (fun _ => 0) s.time.edges 5
    if last < n then
      let n0 := s.noneFrom len last n
      (s.edgeDone 5 n).noneEpochs len ((n + len - n0) / len) n0
    else s)

/-- SHARE_WAIT_EXPIRY (R148, R153, R164): the wait for the shared sets of an epoch is over. -/
def execShareWaitExpiry (epoch : Nat) (s : State) : Res :=
  s.live 0x060 <|
  .next (
    if s.shareWaitOver epoch ∧ !s.solv.expired.elem epoch then
      let missing := s.solv.queue.any fun f =>
        f.epoch == epoch && s.runMember f != s.member && (s.baseOf (s.runMember f) epoch).isNone
      let s1 := { s with solv := { s.solv with expired := (epoch :: s.solv.expired).take 8 } }
      if missing then s1.raise 0x060 8 else s1
    else s)

/-- SHARE (R161, R162, R164): another member's base set arrives, or on a standby the active unit's; the base-pair run of its epoch
follows. -/
def execShareSet (s : State) : Res :=
  s.live 0x060 <|
  .next (s.onMsg 0x02 fun m s => match s.parseShare m.body with
    | none => s
    | some b =>
      if b.member = s.member then (if s.notActive then s.keepBase b else s)
      else (s.keepBase b).pairStart b.member b.epoch)

/-- A filter command while another is in progress is refused (R165). -/
def State.solvCommand (s : State) (who : Initiator) (k : State → State) : State :=
  s.command who 0x600A8 fun s => if s.flag F.SOLV_CMD_STAT_BUSY then s.accessErr 0x11 who 0x600A8 else k s

/-- RESET_FILTER (R165): the filter restarts at the machine's next LOAD. -/
def execResetFilter (who : Initiator) (machine : Fin 256) (s : State) : Res :=
  .next (s.solvCommand who fun s => (s.setFlag (F.SOLV_MCFG_RESET machine.val) true).solvDone 0)

/-- IMPORT (R163). -/
def execSolvImport (who : Initiator) (machine : Fin 256) (s : State) : Res :=
  .next (s.solvCommand who fun s =>
    let s1 := s.setFlag F.SOLV_CMD_STAT_BUSY true
    { s1 with solv := { s1.solv with cmd := some (2, machine.val) } }.solvTransfer 2 machine.val)

/-- EXPORT (R163). -/
def execSolvExport (who : Initiator) (machine : Fin 256) (s : State) : Res :=
  .next (s.solvCommand who fun s =>
    let s1 := s.setFlag F.SOLV_CMD_STAT_BUSY true
    { s1 with solv := { s1.solv with cmd := some (3, machine.val) } }.solvTransfer 3 machine.val)

end Sys2Proof.Machine
end

