-- ==== Sys2Proof/Machine/Switch.lean ====
section
/-! DEFINITION. The meanings of the Ethernet switch's commands (12_switch_and_ports.md). -/

namespace Sys2Proof.Machine

/-! ## Reception (R359 to R364) -/

/-- The duplicate check of a frame with a trailer (R374): whether the frame is the second copy. -/
def State.prpCheck (s : State) (src seq : Nat) : Bool × State :=
  let live := s.sw.prpSeen.filter fun e => decide (s.now ≤ e.at_ + s.getF F.SWCH_PRP_CFG_ENTRY_FORGET_MS * 1000000)
  if live.any fun e => e.src == src && e.seq == seq then
    (true, { s with sw := { s.sw with prpSeen := live } }.bump F.SWCH_PRP_DUP_COUNT)
  else (false, { s with sw := { s.sw with prpSeen := (if live.length < 4096 then live else live.drop 1) ++ [⟨src, seq, s.now⟩] } })

/-- VID and PCP of a received frame, or none where R361 discards it. -/
def State.classify (s : State) (p : Nat) (b : List Byte) : Option (Nat × Nat) :=
  let tag := be16 b 14
  let tagged := frameTagged b
  let vid := if tagged && tag % 4096 != 0 then tag % 4096 else s.getF (F.EMAC_PVID_PVID p)
  let pcp := if tagged then tag / 8192 else s.getF (F.EMAC_PVID_DEFAULT_PCP p)
  let accept := s.getF (F.EMAC_CTRL_ACCEPT p)
  let realTag := tagged && tag % 4096 != 0
  if vid = 4095 ∨ (accept = 1 ∧ !realTag) ∨ (accept = 2 ∧ realTag) then none
  else if s.flag (F.EMAC_CTRL_INGRESS_FILTER p) && !s.vlanHas vid (s.logical p) then none
  else some (vid, pcp)

/-- Stages 3 to 7 of R360 for frame `b` (without FCS and trailer). -/
def State.rxForward (s : State) (p : Nat) (stamp : Nat) (prp : Bool) (b : List Byte) : State :=
  match s.classify p b with
  | none => s.bump (F.EMAC_RX_DISCARD_COUNT p)
  | some (vid, pcp) =>
    let q := bitsOf (s.getF (F.EMAC_PCP_MAP_MAP p)) (3 * pcp + 2) (3 * pcp)
    let dst := frameDst b
    let ts := ((stamp : Int) + s.rxLat p).toNat
    -- PTP event messages are stamped in any case (R375)
    let event := frameType b == 0x88F7 && decide (ptpType (b.drop (ptpAt b)) ≤ 1)
    let item : RxItem := ⟨p, q, if event || s.flag (F.EMAC_CTRL_TS_ALL p) then some ts else none, frameTagged b, prp, pcp, vid, b⟩
    if dst = ptpMac ∧ frameType b = 0x88F7 then
      let msg := b.drop (ptpAt b)
      let vidOk := if s.getF F.TIME_B_PTPCFG_VID = 0 then !frameTagged b else frameTagged b && vid == s.getF F.TIME_B_PTPCFG_VID
      if vidOk && s.ptpTakes p msg then { s with sw := { s.sw with ptpIn := s.sw.ptpIn ++ [⟨p, ts, s.now + ts - s.taiNs, msg⟩] } }
      else s.bump F.TIME_B_DISCARD_COUNT
    else if frameType b = 0x88FB then s
    else if dst / 16 = 0x0180C200000 then (if s.flag (F.EMAC_CTRL_LL_TRAP p) then s.toPort20 item else s)
    else if !s.flag F.SWCH_CTRL_FWD_EN then s
    else
      let src := frameSrc b
      let lp := s.logical p
      let s1 := if !macGroup src && s.flag F.SWCH_CTRL_LEARN_EN && s.flag (F.EMAC_CTRL_LEARN_EN p) then s.learn src vid lp else s
      (s1.sendVlan (s1.targets lp dst vid) q vid pcp item none { bytes := b }).2

/-- FRAME_RECEIVE (R358 to R364, R374): a frame with its FCS, whose first symbol was stamped at `stamp` (ns of output time). -/
def execFrameReceive (port : Fin 20) (stamp : Nat) (bytes : List Byte) (s : State) : Res :=
  let p := port.val
  let pg := emacPage p
  let len := bytes.length
  .next (
    if !s.portUp p || !s.flag (F.EMAC_CTRL_RX_EN p) || decide (s.taiNs < stamp) then s
    else if len ≤ 63 then (s.bump (F.EMAC_RUNT_COUNT p)).raise pg 5
    else if s.portLimit p (frameTagged bytes) < len then (s.bump (F.EMAC_GIANT_COUNT p)).raise pg 4
    else
      let b := bytes.take (len - 4)
      if crc32 b ≠ leValue (bytes.drop (len - 4)) then s.bump (F.EMAC_RX_FCS_COUNT p)
      else
        let s1 := (s.bump (F.EMAC_RX_OK_COUNT p)).countOctets (F.EMAC_RX_BYTES_COUNT p) len
        if frameType b = 0x8808 then s1.bump (F.EMAC_PAUSE_DISC_COUNT p)
        else if !s1.inPrp p then s1.rxForward p stamp false b
        else
          match prpFind b with
          | none => s1.rxForward p stamp false b
          | some (seq, lan) =>
            let s2 := if lan = 0xA + p % 2 then s1 else (s1.bump F.SWCH_PRP_WRONG_LAN_COUNT).raise 0x0D0 7
            let (dup, s3) := s2.prpCheck (frameSrc b) seq
            if dup then s3 else s3.rxForward p stamp true (b.take (b.length - 6)))

/-! ## Transmission (R366, R367, R375, R376) -/

/-- The launch time as steps leave it (R106, R367): one that was jumped over is the time stepped to. -/
def State.launchAt (s : State) (t : Nat) : Nat :=
  match s.time.jump with
  | some (a, b) => if a ≤ t ∧ t < b then b else t
  | none => t

/-- The highest queue whose head frame may go (R366). -/
def State.eligible8 (s : State) (p : Nat) : Option (Nat × EgFrame × List EgFrame) :=
  [7, 6, 5, 4, 3, 2, 1, 0].findSome? fun q =>
    match s.egQueue p q with
    | f :: t =>
      match f.launch with
      | some l => if l ≤ s.taiNs then some (q, f, t) else none
      | none => some (q, f, t)
    | [] => none

/-- What the time base does as a frame of its own leaves (R376): one-step origin, a Follow_Up, the stamp of a Delay_Req, on the scale of
device time. -/
def State.ptpSent (s : State) (p : Nat) (f : EgFrame) (stamp : Nat) : List Byte × State :=
  let at_ := ptpAt f.bytes
  match f.ptp with
  | none => (f.bytes, s)
  | some .oneStep => (patch f.bytes (at_ + 34) (ptpTimeBytes (stamp * nsUnit)), s)
  | some .twoStep =>
    let m := f.bytes.drop at_
    let fu := s.ptpMessage 8 ptpFlags (ptpSeq m) p 0xFC 0 (ptpTimeBytes (stamp * nsUnit))
    (f.bytes, (s.egress p 6 { bytes := s.ptpFrame p fu }).2)
  | some .delayReq =>
    (f.bytes, { s with time := { s.time with ptp := { s.time.ptp with delayReq := some (ptpSeq (f.bytes.drop at_), (s.now + stamp - s.taiNs) * nsUnit) } } })

/-- FRAME_TRANSMIT (R359, R366, R367): an idle port sends the head frame of its highest eligible queue. -/
def execFrameTransmit (port : Fin 20) (s : State) : Res :=
  let p := port.val
  let pg := emacPage p
  .next (
    if !s.portUp p || !s.flag (F.EMAC_CTRL_TX_EN p) || decide (s.now < Assoc.get (fun _ => 0) s.sw.busy p) then s
    else
      match s.eligible8 p with
      | none => s
      | some (q, f, t) =>
        let s1 := s.setEgQueue p q t
        let late := match f.launch with
          | some l => decide (s.launchAt l + 1000 < s.taiNs)
          | none => false
        if late && f.lateDrop then (((s1.bump (F.EMAC_TX_LATE_DROP_COUNT p)).raise pg 6).descDone f.desc false true)
        else
          let s2 := if late then (s1.bump (F.EMAC_TX_LATE_COUNT p)).raise pg 6 else s1
          let stamp := ((s.taiNs : Int) + s.txLat p).toNat
          let (b, s3) := s2.ptpSent p f stamp
          let body := padBytes 60 b
          let wire := body ++ bytesLE (crc32 body) 4
          let s4 := ((s3.bump (F.EMAC_TX_OK_COUNT p)).countOctets (F.EMAC_TX_BYTES_COUNT p) wire.length)
          let s5 := { s4 with
            sw := { s4.sw with
              busy := Assoc.put (fun _ => 0) s4.sw.busy p (s4.now + (wire.length + 20) * 8000 / s.portMbps p)
              sent := Assoc.put (fun _ => []) s4.sw.sent p wire } }
          let s6 := match f.ts with
            | some id => s5.tsPush p id stamp
            | none => s5
          s6.descDone f.desc late false)

/-! ## Rings and port 21 (R368, R371, R372) -/

/-- RING_TAIL (R368): a write of SWCH_RING_TAIL for the ring addressed; an index past the ring is refused. -/
def execRingTail (who : Initiator) (index : Fin 4096) (s : State) : Res :=
  .next (s.command who 0xD00B4 fun s =>
    let r := s.getF F.SWCH_RING_INDEX_RING
    if s.ringSize r ≤ index.val then s.accessErr 0x10 who 0xD00B4
    else
      let s1 := s.setF (F.SWCH_RING_TAIL_INDEX.win r) index.val
      if r < 8 then s1.ringRun r 4096 else s1)

/-- RING_RESUME (R371). -/
def execRingResume (who : Initiator) (s : State) : Res :=
  .next (s.command who 0xD00BC fun s =>
    let r := s.getF F.SWCH_RING_INDEX_RING
    if s.ringStopped r then s.ringResume r else s.accessErr 0x11 who 0xD00BC)

/-- P21_PACKET (R362, R372): a packet on SWCH_P21.TX_QUEUE. -/
def execP21Packet (s : State) : Res :=
  s.live 0x0D0 <|
  let q := s.getF F.SWCH_P21_TX_QUEUE
  .next (
    if !s.mboxPacketReady q then s
    else
      let (ps, bad, s1) := s.mboxTakePacket q (s.mboxQ q).level
      let h := ps.headD 0
      let len := bitsOf h 31 16
      let urgent := bitAt h 55
      let k := if urgent then 7 else bitsOf h 54 52
      if bad || (!urgent && k == 7) || decide (len < 14) || decide (2048 < len) || ps.length - 1 != (len + 6) / 7 then
        (s1.bump F.SWCH_P21_DROP_COUNT).raise 0x0D0 6
      else
        let f : EgFrame := { bytes := unpack7 len (ps.drop 1) }
        let mask := bitsOf h 51 32
        if mask = 0 then (s1.sendLookup 21 k none f).2 else (s1.sendMask mask k none f).2)

/-! ## The address table (R379) -/

/-- An address command is done with a result. -/
def State.atuDone (s : State) (result : Nat) : State := (s.setF F.SWCH_ATU_RESULT_RESULT result).raise 0x0D0 0

def State.atuMac (s : State) : Nat := s.getF F.SWCH_ATU_KEY_MAC
def State.atuVid (s : State) : Nat := s.getF F.SWCH_ATU_KEY_VID

/-- ATU_LOOKUP (R379). -/
def execAtuLookup (who : Initiator) (s : State) : Res :=
  .next (s.command who 0xD0058 fun s =>
    match s.atuFind s.atuMac s.atuVid with
    | some e =>
      let age := s.getF F.SWCH_AGE_SECONDS
      let left := if e.static ∨ age = 0 then 0 else age - (s.usNow - e.seen) / 1000000
      ((((s.setFlag F.SWCH_ATU_DATA_VALID true).setFlag F.SWCH_ATU_DATA_STATIC e.static).setF F.SWCH_ATU_DATA_PORT e.port).setF
        F.SWCH_ATU_DATA_AGE_LEFT left).atuDone 0
    | none => (s.setFlag F.SWCH_ATU_DATA_VALID false).atuDone 1)

/-- INSERT_STATIC (R363, R379). -/
def execInsertStatic (who : Initiator) (s : State) : Res :=
  .next (s.command who 0xD0058 fun s =>
    let p := s.getF F.SWCH_ATU_DATA_PORT
    if 21 < p then s.atuDone 3
    else if s.atuFull s.atuMac s.atuVid then s.atuDone 2
    else (s.atuPut ⟨s.atuMac, s.atuVid, p, true, s.usNow⟩).atuDone 0)

/-- ATU_DELETE (R379). -/
def execAtuDelete (who : Initiator) (s : State) : Res :=
  .next (s.command who 0xD0058 fun s =>
    if (s.atuFind s.atuMac s.atuVid).isNone then s.atuDone 1
    else { s with sw := { s.sw with atu := s.sw.atu.filter fun e => !(e.mac == s.atuMac && e.vid == s.atuVid) } }.atuDone 0)

/-- FLUSH_PORT (R379). -/
def execFlushPort (who : Initiator) (port : Fin 32) (s : State) : Res :=
  .next (s.command who 0xD0058 fun s =>
    if 21 < port.val then s.atuDone 3
    else { s with sw := { s.sw with atu := s.sw.atu.filter fun e => e.static || e.port != s.logical port.val } }.atuDone 0)

/-- FLUSH_ALL (R379): every dynamic entry. -/
def execFlushAll (who : Initiator) (s : State) : Res :=
  .next (s.command who 0xD0058 fun s => { s with sw := { s.sw with atu := s.sw.atu.filter fun e => e.static } }.atuDone 0)

/-- AGEING (R363): dynamic entries not refreshed for SWCH_AGE seconds go. -/
def execAgeing (s : State) : Res :=
  s.live 0x0D0 <|
  let age := s.getF F.SWCH_AGE_SECONDS
  .next (if age = 0 then s
    else { s with sw := { s.sw with atu := s.sw.atu.filter fun e => e.static || decide (s.usNow < e.seen + age * 1000000) } })

/-! ## Supervision, timestamps, wake, links (R357, R374, R377, R378) -/

/-- A supervision frame of pair `k`; its content is PRESUMED (IEC 62439-3; log 82). -/
def State.superviseFrame (s : State) (k seq : Nat) : List Byte :=
  let mac := s.getF (F.EMAC_MAC_ADDR (2 * k))
  bytesBE 0x01154E000100 6 ++ bytesBE mac 6 ++ bytesBE 0x88FB 2 ++ bytesBE 0x0001 2 ++ bytesBE seq 2 ++ bytesBE 0x1406 2 ++ bytesBE mac 6 ++
    bytesBE 0 2

/-- SUPERVISION_FRAME (R374): every LIFE_CHECK_MS, one on every enabled pair. -/
def execSupervisionFrame (s : State) : Res :=
  s.live 0x0D0 <|
  let period := s.getF F.SWCH_PRP_CFG_LIFE_CHECK_MS * 1000000
  .next (
    if s.now < s.sw.lifeAt + period || s.pwr.state == .snowdrop then s
    else
      let s1 := { s with sw := { s.sw with lifeAt := s.now } }
      ((List.range 10).filter fun k => s1.inPrp (2 * k)).foldl (fun s k =>
        let n := Assoc.get (fun _ => 0) s.sw.prpSeq (16 + k)
        let s1 := { s with sw := { s.sw with prpSeq := Assoc.put (fun _ => 0) s.sw.prpSeq (16 + k) ((n + 1) % 65536) } }
        (s1.sendPort (2 * k) 7 none { bytes := s1.superviseFrame k n }).2) s1)

/-- TSQ_POP (R377): a read of EMAC_TSQ0; a marker that waits takes the entry freed. -/
def execTsqPop (who : Initiator) (port : Fin 20) (s : State) : Res := .next (s.readAccess who (tsqKey port.val) 0 .word)

/-- WAKE_PAT of a pattern matches a frame (R378). -/
def State.wakePattern (s : State) (b : List Byte) (k : Nat) : Bool :=
  let masked := (List.range 128).filter fun i => bitAt (s.reg (0xD0600 + 0x10 * k + i / 32 * 4)).toNat (i % 32)
  masked.all fun i => decide (i < b.length) &&
    (b.getD i 0).toNat == bitsOf (s.reg (0xD0200 + 0x80 * k + i / 4 * 4)).toNat (8 * (i % 4) + 7) (8 * (i % 4))

/-- Six bytes of 0xFF and 16 copies of the address, at some place of the frame. -/
def magicIn (mac : List Byte) : List Byte → Bool
  | [] => false
  | x :: t => (x :: t).take 102 == List.replicate 6 0xFF ++ (List.replicate 16 mac).flatten || magicIn mac t

/-- WAKE_MATCH (R378): a frame (with FCS) on a wake port in Snowdrop. -/
def execWakeMatch (port : Fin 4) (bytes : List Byte) (s : State) : Res :=
  let b := bytes.take (bytes.length - 4)
  let good := decide (64 ≤ bytes.length) && crc32 b == leValue (bytes.drop (bytes.length - 4))
  let magic := s.flag F.SWCH_WAKE_CTRL_MAGIC_EN && magicIn (bytesBE (s.getF F.SWCH_WAKE_MAC_MAC) 6) b
  let pat := (List.range 8).find? fun k => bitAt (s.getF F.SWCH_WAKE_CTRL_PAT_EN) k && s.wakePattern b k
  .next (
    if s.pwr.state != .snowdrop || s.getF (F.EMAC_CTRL_MODE port.val) == 0 || !s.flag (F.EMAC_STAT_LINK port.val) ||
      !s.flag (F.EMAC_CTRL_RX_EN port.val) || !bitAt (s.getF F.SWCH_WAKE_CTRL_PORT_EN) port.val || !good || (!magic && pat.isNone) then s
    else
      let n := s.getF F.SWCH_WAKE_STAT_COUNT
      let s1 := s.setF F.SWCH_WAKE_STAT_COUNT (min 0x7FFF (n + 1))
      let s2 := if s.flag F.SWCH_WAKE_STAT_VALID then s1
        else (((s1.setFlag F.SWCH_WAKE_STAT_VALID true).setF F.SWCH_WAKE_STAT_PATTERN (pat.getD 0)).setFlag F.SWCH_WAKE_STAT_MAGIC magic).setF
          F.SWCH_WAKE_STAT_PORT port.val
      (s2.raise 0x0D0 8).wakeSource 1)

/-- The SerDes reference of a port is there (R491): reference 0 of ports 0 to 15, reference 1 of the others. -/
def State.refThere (s : State) (p : Nat) : Bool := !bitAt s.pwr.lost (if p < 16 then 3 else 4)

/-- ETH_LINK_CHANGE (R357, R380, R491): the link of a port that is on comes up, while its reference is there, at `speed` (R380 SPEED, of an SGMII port), or goes down with
signal and lock as given. -/
def execEthLinkChange (port : Fin 20) (up : Bool) (speed : Fin 3) (signal lock : Bool) (s : State) : Res :=
  let p := port.val
  let pg := emacPage p
  let mode := s.getF (F.EMAC_CTRL_MODE p)
  let was := s.flag (F.EMAC_STAT_LINK p)
  let show_ (link an sig lk : Bool) (sp : Nat) (s : State) : State :=
    ((((s.setFlag (F.EMAC_STAT_LINK p) link).setFlag (F.EMAC_STAT_AN_DONE p) an).setFlag (F.EMAC_STAT_SIGNAL p) sig).setFlag
      (F.EMAC_STAT_LOCK p) lk).setF (F.EMAC_STAT_SPEED p) sp
  .next (
    if mode = 0 ∨ (up && !s.refThere p) ∨ (up && s.pwr.state == .snowdrop && (4 ≤ port.val || !bitAt (s.getF F.SWCH_WAKE_CTRL_PORT_EN) port.val)) then s
    else if up then
      let s1 := show_ true (mode = 2 || (mode = 1 && s.flag (F.EMAC_CTRL_AN_EN p))) true true
        (if mode = 2 then speed.val else if mode = 1 then 2 else 3) s
      if was then s1 else s1.raise pg 0
    else
      let s1 := show_ false false signal (signal && lock) (s.getF (F.EMAC_STAT_SPEED p)) s
      if was then s1.raise pg 1 else s1)

end Sys2Proof.Machine
end

