-- ==== Sys2Proof/Machine/Tamper.lean ====
section
/-! DEFINITION. Tamper and attestation commands (14_keys_and_tamper.md R439 to R445). -/

namespace Sys2Proof.Machine

/-- The junction temperature is outside the limits of TAMP_CFG (R441). -/
def State.tempOut (s : State) (t : Nat) : Bool :=
  decide (toSigned 8 t < toSigned 8 (s.getF F.TAMP_CFG_TEMP_LO)) || decide (toSigned 8 (s.getF F.TAMP_CFG_TEMP_HI) < toSigned 8 t)

/-- TAMPER_DETECTION (R441, R442): an enabled source; `temp` is the junction temperature. -/
def execTamperDetection (source : Fin 5) (temp : Fin 256) (s : State) : Res :=
  let s0 := { s with tamp := { s.tamp with temp := temp.val } }
  .next (if source.val != 2 || s.tempOut temp.val then s0.tamperDetect source.val else s0)

/-- SOURCE_CLEARED (R444): the source has been inactive for 100 ms; a clock that is lost is not. -/
def execSourceCleared (source : Fin 5) (temp : Fin 256) (s : State) : Res :=
  let s0 := { s with tamp := { s.tamp with temp := temp.val } }
  .next (if !bitAt s.tamp.active source.val || (source.val == 2 && s.tempOut temp.val) ||
      (source.val == 1 && (bitAt s.pwr.lost 0 || bitAt s.pwr.lost 1)) then s0
    else { s0 with tamp := { s0.tamp with active := s0.tamp.active - 2 ^ source.val } }.raise 0x101 2)

/-- PROGRAM (R445): the configuration is copied to OTP, at most four times. -/
def execProgram (who : Initiator) (s : State) : Res :=
  .next (s.command who 0x101044 fun s =>
    if 4 ≤ s.rst.otp.tampProg then s.accessErr 0x11 who 0x101044
    else { s with rst := { s.rst with otp := { s.rst.otp with tampCfg := some (s.reg 0x101040), tampProg := s.rst.otp.tampProg + 1 } } })

/-- CLEAR_LOG (R444): accepted only from a control core. -/
def execClearLog (who : Initiator) (s : State) : Res :=
  .next (s.command who 0x101044 fun s =>
    match who with
    | .ctl _ => { s with tamp := { s.tamp with ovf := false } }.setTampLog []
    | .debug | .data _ | .dma | .host => s.accessErr 0x11 who 0x101044)

/-- EXTEND (R439): SHA-384 of the old value and EXT0 to EXT11; a locked register refuses with RESULT 1. -/
def execExtend (who : Initiator) (index : Fin 9) (s : State) : Res :=
  .next (s.command who 0x102040 fun s =>
    if s.att.statement.isSome then s.accessErr 0x11 who 0x102040
    else if bitAt (s.getF F.ATTEST_MLOCK_LOCK) index.val then s.attestEnd 1
    else
      let ext := (List.range 12).flatMap fun i => bytesLE (s.reg (0x102080 + 4 * i)).toNat 4
      (s.extend index.val ext).attestEnd 0)

/-- STATEMENT (R440): the statement is composed and signed; STATEMENT_COMPLETE writes it. -/
def execStatement (who : Initiator) (index : Fin 9) (s : State) : Res :=
  let _ := index
  .next (s.command who 0x102040 fun s =>
    let n := s.getF F.ATTEST_CHAIN_LEN_BYTES
    let hold (r : Nat) (l : List Byte) (s : State) : State :=
      { s with att := { s.att with statement := some (s.getF F.ATTEST_OUT_ADDR_ADDR, l, r) } }
    if s.att.statement.isSome then s.accessErr 0x11 who 0x102040
    else
      match firstError [(s.keys.lock, 12), ((s.slot 1).isNone, 2), (decide (4096 < n), 3)] with
      | some r => hold r [] s
      | none =>
        match s.keyRead 1 (s.getF F.ATTEST_CHAIN_ADDR_ADDR) n with
        | (none, s1) => hold 5 [] s1
        | (some c, s1) =>
          let nonce := (List.range 8).flatMap fun i => bytesLE (s1.reg (0x102060 + 4 * i)).toNat 4
          let body := s1.statementBody n (c ++ List.replicate ((4 - n % 4) % 4) 0) nonce
          let (k, s2) := s1.fresh (p256N - 1)
          hold 0 (body ++ ecdsaSign ((s2.slot 1).elim [] (·.secret)) body (k + 1)) s2)

/-- STATEMENT_COMPLETE (R440): the statement is written only after its signature is complete. -/
def execStatementComplete (s : State) : Res :=
  .next (match s.att.statement with
    | none => s
    | some (a, l, r) =>
      if r ≠ 0 then s.attestEnd r
      else
        match s.keyWrite 1 a l with
        | (some _, s1) => s1.attestEnd 5
        | (none, s1) => (s1.bump F.ATTEST_STATEMENTS_COUNT).attestEnd 0)

end Sys2Proof.Machine
end

