-- ==== Sys2Proof/Machine/Time.lean ====
section
/-! DEFINITION. The meanings of the time base's commands (04_time_base.md). -/

namespace Sys2Proof.Machine

/-! ## Domains, selection, holdover (R101 to R106) -/

/-- DOMAIN_LOSS (R101): a LOCKED domain without an update for LOSS_MS; one that comes in the tick in which LOSS_MS expires is in
time. -/
def execDomainLoss (dom : Fin 2) (s : State) : Res :=
  let i := dom.val + 1
  let d := s.dom i
  .next (
    if d.state == .locked && decide (d.heard.getD d.upd + s.getF (F.TIME_D_LOSS_LOSS_MS dom.val) * 1000000 < s.now) then
      (s.raise (domPage i) 1).domState i .hold
    else s)

/-- RESTART (R101, R117). -/
def execRestart (who : Initiator) (dom : Fin 2) (s : State) : Res :=
  .next (s.command who (0x4005C + 0x1000 * dom.val) fun s => s.domDiscard (dom.val + 1))

/-- RESUME (R109, R117): of domain B in FROZEN. -/
def execResume (who : Initiator) (s : State) : Res :=
  .next (s.command who 0x4105C fun s =>
    if s.time.domB.state == .frozen then
      let s1 := s.setDom 2 { s.time.domB with good := 0 }
      (s1.setFlag F.TIME_B_ASYM_STAT_FLAGGED false).domState 2 .acquire
    else s.accessErr 0x11 who 0x4105C)

/-- SERVO_EN (R101): a write of TIME_d_CTRL.SERVO_EN. -/
def execServoEn (who : Initiator) (dom : Fin 2) (enable : Bool) (s : State) : Res :=
  .next (s.rowWrite who (0x40040 + 0x1000 * dom.val) (bit enable) 1 fun _ new =>
    if new.flag (F.TIME_D_CTRL_SERVO_EN dom.val) then new else new.domDiscard (dom.val + 1))

/-- SEL (R102): a write of TIME_OUT_CTRL.SEL. -/
def execSel (who : Initiator) (sel : Fin 4) (s : State) : Res :=
  .next (s.rowWrite who 0x42040 sel.val 3 fun _ new => new.reselect)

/-- STEP (R106): the tick in which the output time would reach the next whole second while a step is pending. -/
def execStep (s : State) : Res := .next (if s.stepDue then s.stepOut else s)

/-- HOLD_WARN (R104). -/
def execHoldWarn (s : State) : Res :=
  .next (
    if s.time.state == .hold && decide (s.time.holdSince + s.getF F.TIME_OUT_HOLD_WARN_S_SECONDS * 1000000000 ≤ s.now) then
      State.timeEval ({ s with time := { s.time with state := .holdLong } }.raise 0x042 5)
    else s)

/-- HOLD_LIMIT (R104, R107). -/
def execHoldLimit (s : State) : Res :=
  .next (
    if (s.time.state == .hold || s.time.state == .holdLong) &&
        decide (s.time.holdSince + s.getF F.TIME_OUT_HOLD_LIMIT_S_SECONDS * 1000000000 ≤ s.now) then
      State.timeEval ({ s with time := { s.time with state := .holdExpired } }.raise 0x042 6)
    else s)

/-- SET (R108). -/
def execSet (who : Initiator) (s : State) : Res :=
  .next (s.command who 0x4208C fun s =>
    let v := s.getF F.TIME_OUT_SET_SEC_SECONDS * secUnit + s.getF F.TIME_OUT_SET_NS_NS * nsUnit
    if s.time.state.unfollowed && decide (s.time.out ≤ v) then
      let s1 := s.jumpOut (s.taiNs + 1) v
      State.timeEval { s1 with time := { s1.time with state := .manual } }
    else s.accessErr 0x11 who 0x4208C)

/-- SLEW_COMPLETE (R100, R105): the correction being slewed is within the limit. -/
def execSlewComplete (s : State) : Res :=
  .next (
    if s.time.correcting && !s.time.stepPending && !s.time.state.holdover && decide ((s.time.d.natAbs : Int) ≤ s.validLimit) then
      State.timeEval { s with time := { s.time with correcting := false } }
    else s)

/-! ## PTP (R109 to R111) -/

/-- The PTP engine takes the trapped message at its front when it is of a type (R360). -/
def State.ptpTake (s : State) (type : Nat) (k : PtpRx → State → State) : State :=
  match s.sw.ptpIn with
  | x :: t => if ptpType x.msg = type then k x { s with sw := { s.sw with ptpIn := t } } else s
  | [] => s

/-- An update of domain B (R101, R110, R111): device time `at_` (ns) and output time `rx` at the receipt of a Sync whose corrected origin
time is `origin`. The frequency with which a first update starts the servo is open (log 9). -/
def State.ptpUpdate (s : State) (at_ rx : Nat) (origin : Int) : State :=
  let s1 := { s with time := { s.time with ptp := { s.time.ptp with
    syncDelta := some (((at_ * nsUnit : Nat) : Int) - origin), pendingSync := none } } }
  match s1.time.ptp.mpd with
  | none => s1
  | some mpd =>
    if s1.time.ptp.class248 || !s1.flag F.TIME_B_PORT_SLAVE_EN then s1
    else
      let asym := toSigned 32 (s1.getF F.TIME_B_ASYM_CORR_CORR_NS) * nsUnit
      let (fr, s2) := s1.fresh (2 ^ 32)
      s2.domUpdate 2 at_ rx (origin + mpd + asym - rx) (toSigned 32 fr)

/-- SYNC (R101, R110): a one-step Sync forms an update; a two-step one waits for its Follow_Up. -/
def execSync (s : State) : Res :=
  .next (s.ptpTake 0 fun x s =>
    let s1 := { s with time := { s.time with ptp := { s.time.ptp with lastSync := s.now } } }
    let rx := x.stamp * nsUnit
    if ptpTwoStep x.msg then
      { s1 with time := { s1.time with ptp := { s1.time.ptp with pendingSync := some ⟨ptpSource x.msg, ptpSeq x.msg, rx, x.at_, ptpCorr x.msg⟩ } } }
    else s1.ptpUpdate x.at_ rx (ptpStamp x.msg + ptpCorr x.msg))

/-- FOLLOW_UP (R101, R110). -/
def execFollowUp (s : State) : Res :=
  .next (s.ptpTake 8 fun x s =>
    match s.time.ptp.pendingSync with
    | some p =>
      if p.source = ptpSource x.msg ∧ p.seq = ptpSeq x.msg then s.ptpUpdate p.rxAt p.rxOut (ptpStamp x.msg + p.corr + ptpCorr x.msg) else s
    | none => s)

/-- Queue a frame of the time base in queue 6 of a port (R110, R362). -/
def State.ptpQueue (s : State) (p : Nat) (msg : List Byte) (kind : Option PtpTx) : State :=
  (s.egress p 6 { bytes := s.ptpFrame p msg, ptp := kind }).2

/-- DELAY_REQ (R110): answered from the master port with a Delay_Resp. -/
def execDelayReq (s : State) : Res :=
  .next (s.ptpTake 1 fun x s =>
    let body := ptpTimeBytes (x.stamp * nsUnit) ++ (x.msg.drop 20).take 10
    s.ptpQueue x.port (s.ptpMessage 9 ptpFlags (ptpSeq x.msg) x.port 0xFC (ptpCorr x.msg) body) none)

/-- DELAY_RESP (R101, R110): the mean path delay from the last Sync and the Delay_Req that it answers. -/
def execDelayResp (s : State) : Res :=
  .next (s.ptpTake 9 fun x s =>
    match s.time.ptp.delayReq, s.time.ptp.syncDelta with
    | some (seq, t3), some d =>
      if seq = ptpSeq x.msg ∧ beValue ((x.msg.drop 44).take 10) = Config.clockIdentity % 2 ^ 64 * 65536 + (x.port + 1) then
        let mpd := (d + ((ptpStamp x.msg : Int) - ptpCorr x.msg - t3)) / 2
        let s1 := { s with time := { s.time with ptp := { s.time.ptp with mpd := some mpd, delayReq := none } } }
        s1.setF F.TIME_B_MPD_MPD (ofSigned 32 (mpd / 2 ^ 28))
      else s
    | _, _ => s)

/-- ANNOUNCE (R111). -/
def execAnnounce (s : State) : Res :=
  .next (s.ptpTake 11 fun x s =>
    let cls := (x.msg.getD 48 0).toNat
    let bad := decide (248 ≤ cls)
    let steps := beValue ((x.msg.drop 61).take 2)
    let s1 := { s with time := { s.time with ptp := { s.time.ptp with lastAnnounce := s.now, class248 := bad, steps := steps } } }
    let s2 := (s1.setF F.TIME_B_MASTER_CLASS cls).setF F.TIME_B_MASTER_STEPS (steps % 256)
    if bad then s2.raise 0x041 4 else s2)

/-- The master ports. -/
def State.masterPorts (s : State) : List Nat := (List.range 20).filter s.ptpMaster

/-- PTP_MASTER_SEND (R110): a Sync every 62.5 ms and an Announce every second on every master port. -/
def execPtpMasterSend (s : State) : Res :=
  .next (
    if s.pwr.state == .snowdrop then s
    else s.masterPorts.foldl (fun s p =>
      let two := s.flag F.TIME_B_PTPCFG_TWO_STEP
      let s1 :=
        if s.now < Assoc.get (fun _ => 0) s.time.ptp.sentSync p + 62500000 then s
        else
          let t := { s with time := { s.time with ptp := { s.time.ptp with
            sentSync := Assoc.put (fun _ => 0) s.time.ptp.sentSync p s.now, masterSeq := (s.time.ptp.masterSeq + 1) % 65536 } } }
          t.ptpQueue p (t.ptpMessage 0 (ptpFlags + (if two then 0x0200 else 0)) s.time.ptp.masterSeq p 0xFC 0 (ptpTimeBytes 0))
            (some (if two then .twoStep else .oneStep))
      if s1.now < Assoc.get (fun _ => 0) s1.time.ptp.sentAnnounce p + 1000000000 then s1
      else
        let t := { s1 with time := { s1.time with ptp := { s1.time.ptp with
          sentAnnounce := Assoc.put (fun _ => 0) s1.time.ptp.sentAnnounce p s1.now, masterSeq := (s1.time.ptp.masterSeq + 1) % 65536 } } }
        t.ptpQueue p (t.ptpMessage 11 ptpFlags s1.time.ptp.masterSeq p 0 0 t.ptpAnnounce) none) s)

/-- DELAY_REQ_SEND (R110): every 62.5 ms from the slave port. -/
def execDelayReqSend (s : State) : Res :=
  .next (
    if !s.flag F.TIME_B_PORT_SLAVE_EN || decide (s.now < ((s.time.ptp.delaySentAt.map fun t => t + 62500000).getD 0)) || s.pwr.state == .snowdrop then s
    else
      let p := s.getF F.TIME_B_PORT_ACTIVE
      let seq := s.time.ptp.delaySeq
      let t := { s with time := { s.time with ptp := { s.time.ptp with delaySeq := (seq + 1) % 65536, delaySentAt := some s.now } } }
      t.ptpQueue p (t.ptpMessage 1 ptpFlags seq p 0x7F 0 (ptpTimeBytes 0)) (some .delayReq))

/-- SLAVE_PORT_SWITCHED (R111): domain B enters ACQUIRE; in FROZEN it waits for RESUME (R109), and with SERVO_EN 0 it stays in NONE (R101). -/
def execSlavePortSwitched (s : State) : Res :=
  let silent := decide (s.time.ptp.lastAnnounce + 3000000000 ≤ s.now) ||
    decide (s.time.ptp.lastSync + s.getF (F.TIME_D_LOSS_LOSS_MS 1) * 1000000 ≤ s.now)
  .next (
    if s.flag F.TIME_B_PORT_SLAVE_EN && s.flag F.TIME_B_PORT_BACKUP_EN && silent && s.getF F.TIME_B_PORT_ACTIVE != s.getF F.TIME_B_PORT_BACKUP then
      let s2 := (s.ptpMove (s.getF F.TIME_B_PORT_BACKUP)).raise 0x041 3
      if !s2.flag (F.TIME_D_CTRL_SERVO_EN 1) || s2.time.domB.state == .frozen then s2
      else (s2.setDom 2 { s2.time.domB with good := 0 }).domState 2 .acquire
    else s)

/-! ## Pulses, captures, UTC (R112 to R116) -/

/-- The output time rounded up to a nanosecond. -/
def State.taiCeil (s : State) : Nat := (s.time.out + nsUnit - 1) / nsUnit

/-- A commit takes effect (R113). -/
def State.pulseCommit (s : State) (i : Nat) (c : Bool × Bool × Bool × Nat × Nat × Nat) : State :=
  let (en, gate, invert, start, period, width) := c
  let now := s.taiCeil
  let late := decide (start < now)
  let first : Option Nat :=
    if !en then none
    else if !late then some start
    else if period = 0 then none
    else some (start + (now - start + period - 1) / period * period)
  let p : Pulse := { s.pulse i with en := en, gate := gate, invert := invert, start := start, period := period, width := width,
                                    nextAt := first, commit := none }
  (s.setPulse i p).pulseSkip i (if en && late && period == 0 then 1 else 0)

/-- PULSE_EDGE (R112): the pulse in progress ends, or the next instant has come. -/
def execPulseEdge (out : Fin 16) (s : State) : Res :=
  let i := out.val
  let p := s.pulse i
  .next (
    if p.active then
      if p.fallAt ≤ s.taiNs then
        let s1 := s.setPulse i { p with active := false }
        match p.commit with
        | some c => s1.pulseCommit i c
        | none => s1
      else s
    else
      match p.nextAt with
      | some t =>
        if t ≤ s.taiNs ∧ p.en then
          let next := if p.period = 0 then none else some (t + p.period)
          if p.gate && !s.time.valid then (s.putPulse i { p with nextAt := next }).pulseSkip i 1
          else s.putPulse i { p with nextAt := next, active := true, fallAt := t + p.width }
        else s
      | none => s)

/-- PULSE_CTRL (R113): commits the staged parameters of the output addressed. -/
def execPulseCtrl (who : Initiator) (en gate invert : Bool) (s : State) : Res :=
  .next (s.command who 0x420C4 fun s =>
    let i := s.getF F.TIME_OUT_PULSE_INDEX_INDEX
    let start := s.getF (F.TIME_OUT_PULSE_START_SEC_SECONDS.win i) * 1000000000 + s.getF (F.TIME_OUT_PULSE_START_NS_NS.win i)
    let period := s.getF (F.TIME_OUT_PULSE_PERIOD_NS_PERIOD.win i)
    let width := s.getF (F.TIME_OUT_PULSE_WIDTH_NS_WIDTH.win i)
    let ok := decide (8 ≤ width) && (period == 0 || (decide (20 ≤ period) && decide (width + 8 ≤ period)))
    if !ok then s.accessErr 0x10 who 0x420C4
    else
      let s1 := ((s.setFlag (F.TIME_OUT_PULSE_CTRL_EN.win i) en).setFlag (F.TIME_OUT_PULSE_CTRL_GATE_VALID.win i) gate).setFlag
        (F.TIME_OUT_PULSE_CTRL_INVERT.win i) invert
      if (s1.pulse i).active then s1.setPulse i { s1.pulse i with commit := some (en, gate, invert, start, period, width) }
      else s1.pulseCommit i (en, gate, invert, start, period, width))

/-- CAPTURE_EDGE (R114): an edge on a capture input. The 16 ns count from the last enabled edge that gave or lost a stamp (DESIGN CHOICE,
log 107). -/
def execCaptureEdge (input : Fin 8) (rising : Bool) (s : State) : Res :=
  let n := input.val
  let mode := bitsOf (s.getF F.TIME_EVT_CTRL_EDGE) (2 * n + 1) (2 * n)
  let last := Assoc.get (fun _ => 0) s.time.capLast n
  .next (
    if (if rising then mode % 2 = 0 else mode / 2 = 0) then s
    else if last ≠ 0 ∧ s.now < last + 16 then s
    else
      let s1 := { s with time := { s.time with capLast := Assoc.put (fun _ => 0) s.time.capLast n s.now } }
      let key := 0x43080 + 0x10 * n
      let sec := s1.taiSec
      if 16 ≤ (s1.fifo key).length then
        ((s1.setF F.TIME_EVT_STAT_OVF (s1.getF F.TIME_EVT_STAT_OVF ||| 2 ^ n)).bump F.TIME_EVT_LOST_COUNT).raise 0x043 8
      else
        (s1.setFifo key (s1.fifo key ++ [[BitVec.ofNat 32 (2 ^ 31 + bit rising * 2 ^ 30 + s1.taiNsec), BitVec.ofNat 32 sec,
          BitVec.ofNat 32 (s1.quality * 2 ^ 24 + sec / 2 ^ 32 % 2 ^ 16)]])).raise 0x043 n)

/-- UTC_APPLY (R116). -/
def execUtcApply (s : State) : Res :=
  let at_ := s.getF F.TIME_OUT_UTC_AT_SECOND
  .next (
    if at_ ≠ 0 ∧ s.taiSec = at_ then
      ((s.setF F.TIME_OUT_UTC_OFFSET (s.getF F.TIME_OUT_UTC_NEXT_OFFSET)).setF F.TIME_OUT_UTC_AT_SECOND 0).raise 0x042 8
    else s)

end Sys2Proof.Machine
end

