-- ==== Sys2Proof/Machine/Zone.lean ====
section
/-! DEFINITION. The meanings of the site map's commands (06_site_map.md): zone commands, table commands, the shadow engine. -/

namespace Sys2Proof.Machine

/-- LOOKUP_EN (R173): a write of 1 is refused while a level breaks the rules of R173. -/
def execLookupEn (who : Initiator) (enable : Bool) (s : State) : Res :=
  .next (s.command who 0x80040 fun s =>
    if enable && !s.levelsOk then s.accessErr 0x12 who 0x80040 else s.setFlag F.ZONE_CTRL_LOOKUP_EN enable)

/-- The staged entry (R190). -/
def State.stagedZone (s : State) : ZoneEntry :=
  ⟨s.getF (F.ZONE_ENTRY_WORD 0), s.getF (F.ZONE_ENTRY_WORD 1), s.getF (F.ZONE_ENTRY_WORD 2), s.getF (F.ZONE_ENTRY_WORD 3)⟩

/-- A zone command (R190, R384): refused while BUSY and on a unit that is not active; else BUSY rises and the command gives a result, shown when BUSY falls. -/
def State.zoneCommand (s : State) (who : Initiator) (k : State → Nat × State) : State :=
  s.command who 0x80090 fun s =>
    if s.flag F.ZONE_CMD_STAT_BUSY || s.notActive then s.accessErr 0x11 who 0x80090
    else
      let (r, s1) := k ({ s with zone := { s.zone with relocates := false } }.setFlag F.ZONE_CMD_STAT_BUSY true)
      { s1 with zone := { s1.zone with result := r } }

/-- INSERT (R172, R179). -/
def execZoneInsert (who : Initiator) (s : State) : Res :=
  .next (s.zoneCommand who fun s =>
    let (r, s1) := s.zoneInsert s.stagedZone
    (r, if r = 0 then s1.journal 3 else s1))

/-- DELETE (R172, R179). -/
def execZoneDelete (who : Initiator) (s : State) : Res :=
  .next (s.zoneCommand who fun s =>
    let (r, s1) := s.zoneDelete s.stagedZone
    (r, if r = 0 then s1.journal 3 else s1))

/-- MODIFY (R172, R178). -/
def execZoneModify (who : Initiator) (s : State) : Res :=
  .next (s.zoneCommand who fun s =>
    let (r, s1) := s.zoneModify s.stagedZone
    (r, if r = 0 then s1.journal 3 else s1))

/-- ZONE_LOAD (R186, R395): refused with RESULT 6 while LOOKUP_EN is 1. -/
def execZoneLoad (who : Initiator) (s : State) : Res :=
  .next (s.zoneCommand who fun s =>
    if s.flag F.ZONE_CTRL_LOOKUP_EN then (6, s)
    else
      let s1 := s.zoneLoadGo
      (s1.zone.result, s1))

/-- REFILTER (R179). -/
def execZoneRefilter (who : Initiator) (s : State) : Res :=
  .next (s.zoneCommand who fun s => (0, s.zoneRefilter.journal 3))

/-- ZONE_CLEAR (R177, R190, R395). -/
def execZoneClear (who : Initiator) (s : State) : Res :=
  .next (s.zoneCommand who fun s => (0, s.zoneEmpty.zoneForget.copyAfter))

/-- ZONE_CMD_COMPLETE (R178, R188, R565): BUSY falls with the RESULT once the shadow is written; `xtab` names the page. -/
def execZoneCmdComplete (xtab : Bool) (s : State) : Res :=
  s.live 0x080 <|
  .next (
    if xtab then
      if s.flag F.XTAB_CMD_STAT_BUSY && s.zone.owed.isEmpty then
        ((s.setFlag F.XTAB_CMD_STAT_BUSY false).setF F.XTAB_CMD_STAT_RESULT s.zone.xtabResult).raise 0x081 0
      else s
    else if s.flag F.ZONE_CMD_STAT_BUSY && !s.zone.loading && s.zone.owed.isEmpty then
      ((s.setFlag F.ZONE_CMD_STAT_BUSY false).setF F.ZONE_CMD_STAT_RESULT s.zone.result).raise 0x080 0
    else s)

/-- A table command (R184, R191, R384): refused while BUSY and on a unit that is not active; else BUSY rises and the command gives a result. -/
def State.xtabCommand (s : State) (who : Initiator) (k : State → Nat × State) : State :=
  s.command who 0x81054 fun s =>
    if s.flag F.XTAB_CMD_STAT_BUSY || s.notActive then s.accessErr 0x11 who 0x81054
    else
      let (r, s1) := k (s.setFlag F.XTAB_CMD_STAT_BUSY true)
      { s1 with zone := { s1.zone with xtabResult := r } }

/-- The staged record (R191). -/
def State.staged (s : State) : List Nat := (List.range 16).map fun k => s.getF (F.XTAB_STAGE_WORD k)

/-- WRITE_MACHINE (R182, R191): words 0 to 7; the planner's words stand. -/
def execWriteMachine (who : Initiator) (index : Fin 1048576) (s : State) : Res :=
  .next (s.xtabCommand who fun s =>
    let r := s.machIndexResult index.val
    if r ≠ 0 then (r, s)
    else if !machineRecordOk s.staged then (3, s)
    else (0, ((s.recordWrite (machAddr (index.val % 256)) (s.staged.getD 0 0) ((s.staged.drop 1).take 7)).radioForget (index.val % 256)).journal 3))

/-- WRITE_CELL (R183, R191, R223). -/
def execWriteCell (who : Initiator) (index : Fin 1048576) (s : State) : Res :=
  .next (s.xtabCommand who fun s =>
    let r := s.cellIndexResult index.val
    if r ≠ 0 then (r, s)
    else if !cellRecordOk s.member (s.getF F.XTAB_CELL_COUNT_COUNT) s.staged then (3, s)
    else (0, (s.recordWrite (cellAddr (index.val % 65536)) (s.staged.getD 0 0) (s.staged.drop 1)).journal 3 |>.cellChanged s (index.val % 65536)))

/-- INVALIDATE_MACHINE (R191, R202): VALID cleared, words 1 to 7 kept, the planner's words cleared. -/
def execInvalidateMachine (who : Initiator) (index : Fin 1048576) (s : State) : Res :=
  .next (s.xtabCommand who fun s =>
    let r := s.machIndexResult index.val
    let m := index.val % 256
    if r ≠ 0 then (r, s)
    else (0, ((s.recordWrite (machAddr m) (s.machWord m 0 / 2 * 2) (s.memWords (machAddr m + 4) 7 ++ List.replicate 8 0)).radioForget m).journal 3))

/-- INVALIDATE_CELL (R191, R223). -/
def execInvalidateCell (who : Initiator) (index : Fin 1048576) (s : State) : Res :=
  .next (s.xtabCommand who fun s =>
    let r := s.cellIndexResult index.val
    let c := index.val % 65536
    if r ≠ 0 then (r, s)
    else (0, (s.recordWrite (cellAddr c) (s.cellWord c 0 / 2 * 2) (s.memWords (cellAddr c + 4) 15)).journal 3 |>.cellChanged s c))

/-- TABLE_DIRECT_WRITE (R181, R451). -/
def execTableDirectWrite (who : Initiator) (addr : Nat) (s : State) : Res :=
  .next (if s.rst.held then s.respond 0 true else if s.region addr == .fleet then s.directWrite who addr else s)

/-- SHADOW_BLOCK_COMPARE (R189): `raced` says that a write reached the block between the engine's two reads. -/
def execShadowBlockCompare (raced : Bool) (s : State) : Res := s.live 0x082 <| .next (s.shadowCompare raced)

/-- PASS (R192): a new pass starts at once. -/
def execShadowPass (who : Initiator) (s : State) : Res :=
  .next (s.command who 0x82064 fun s =>
    let r := if bitAt (s.getF F.SHADOW_CTRL_REGION_EN) 0 then 0 else (s.nextRegion 0 5).1
    { s with zone := { s.zone with region := r, block := 0, discards := 0 } })

end Sys2Proof.Machine
end

