-- ==== Sys2Proof/Machine/Dispatch.lean ====
section
/-! DEFINITION. One arm per command: its meaning (Machine/<Family>.lean), one direct call each. -/

namespace Sys2Proof.Machine

def exec (i : Instr) (s : State) : Host.Outcome State Fault Refusal :=
  match i with
  | .registerWrite who page off size value => Sys2Proof.Machine.execRegisterWrite who page off size value s
  | .rcFieldRead who page word sub size => Sys2Proof.Machine.execRcFieldRead who page word sub size s
  | .unmappedAccess who addr size write value => Sys2Proof.Machine.execUnmappedAccess who addr size write value s
  | .wideValueRead who page off size => Sys2Proof.Machine.execWideValueRead who page off size s
  | .wideValueCommit who page off size value => Sys2Proof.Machine.execWideValueCommit who page off size value s
  | .lock who page => Sys2Proof.Machine.execLock who page s
  | .softReset who page => Sys2Proof.Machine.execSoftReset who page s
  | .softResetDone page => Sys2Proof.Machine.execSoftResetDone page s
  | .pgIrqForce who page value => Sys2Proof.Machine.execPgIrqForce who page value s
  | .pgErrClr who page clear => Sys2Proof.Machine.execPgErrClr who page clear s
  | .summaryLine page => Sys2Proof.Machine.execSummaryLine page s
  | .msixUnmask word write => Sys2Proof.Machine.execMsixUnmask word write s
  | .portFault ant band cause => Sys2Proof.Machine.execPortFault ant band cause s
  | .portFaultClear ant band => Sys2Proof.Machine.execPortFaultClear ant band s
  | .agcStep samples => Sys2Proof.Machine.execAgcStep samples s
  | .sampleClockCheck ppb => Sys2Proof.Machine.execSampleClockCheck ppb s
  | .loopUpdate obs nav => Sys2Proof.Machine.execLoopUpdate obs nav s
  | .chCfg who v => Sys2Proof.Machine.execChCfg who v s
  | .gnssStart who all ch => Sys2Proof.Machine.execGnssStart who all ch s
  | .gnssStop who all ch => Sys2Proof.Machine.execGnssStop who all ch s
  | .gnssSleep who => Sys2Proof.Machine.execGnssSleep who s
  | .gnssWake who => Sys2Proof.Machine.execGnssWake who s
  | .rxEnable who enable => Sys2Proof.Machine.execRxEnable who enable s
  | .sleepComplete => Sys2Proof.Machine.execSleepComplete s
  | .acqDetection cn0 => Sys2Proof.Machine.execAcqDetection cn0 s
  | .acqFail => Sys2Proof.Machine.execAcqFail s
  | .pullinTimeout ch => Sys2Proof.Machine.execPullinTimeout ch s
  | .lossOfLock ch => Sys2Proof.Machine.execLossOfLock ch s
  | .reacquired ch => Sys2Proof.Machine.execReacquired ch s
  | .reacqTimeout ch => Sys2Proof.Machine.execReacqTimeout ch s
  | .measurementLatch meas soln => Sys2Proof.Machine.execMeasurementLatch meas soln s
  | .baseSetComplete => Sys2Proof.Machine.execBaseSetComplete s
  | .baseOrder who v => Sys2Proof.Machine.execBaseOrder who v s
  | .domainLoss dom => Sys2Proof.Machine.execDomainLoss dom s
  | .restart who dom => Sys2Proof.Machine.execRestart who dom s
  | .resume who => Sys2Proof.Machine.execResume who s
  | .servoEn who dom enable => Sys2Proof.Machine.execServoEn who dom enable s
  | .sel who sel => Sys2Proof.Machine.execSel who sel s
  | .step => Sys2Proof.Machine.execStep s
  | .holdWarn => Sys2Proof.Machine.execHoldWarn s
  | .holdLimit => Sys2Proof.Machine.execHoldLimit s
  | .set who => Sys2Proof.Machine.execSet who s
  | .sync => Sys2Proof.Machine.execSync s
  | .followUp => Sys2Proof.Machine.execFollowUp s
  | .delayReq => Sys2Proof.Machine.execDelayReq s
  | .delayResp => Sys2Proof.Machine.execDelayResp s
  | .announce => Sys2Proof.Machine.execAnnounce s
  | .ptpMasterSend => Sys2Proof.Machine.execPtpMasterSend s
  | .delayReqSend => Sys2Proof.Machine.execDelayReqSend s
  | .slavePortSwitched => Sys2Proof.Machine.execSlavePortSwitched s
  | .pulseEdge out => Sys2Proof.Machine.execPulseEdge out s
  | .pulseCtrl who en gate invert => Sys2Proof.Machine.execPulseCtrl who en gate invert s
  | .captureEdge input rising => Sys2Proof.Machine.execCaptureEdge input rising s
  | .utcApply => Sys2Proof.Machine.execUtcApply s
  | .observationFrame machine bytes => Sys2Proof.Machine.execObservationFrame machine bytes s
  | .rtcmFrame machine preamble len1 len0 rest => Sys2Proof.Machine.execRtcmFrame machine preamble len1 len0 rest s
  | .positionReport machine bytes => Sys2Proof.Machine.execPositionReport machine bytes s
  | .machineMode who machine mode => Sys2Proof.Machine.execMachineMode who machine mode s
  | .epochEdge => Sys2Proof.Machine.execEpochEdge s
  | .epochChangeApply => Sys2Proof.Machine.execEpochChangeApply s
  | .scriptBank who bank => Sys2Proof.Machine.execScriptBank who bank s
  | .tileDispatch => Sys2Proof.Machine.execTileDispatch s
  | .preemption => Sys2Proof.Machine.execPreemption s
  | .scriptLoad tile => Sys2Proof.Machine.execScriptLoad tile s
  | .scriptPredict tile => Sys2Proof.Machine.execScriptPredict tile s
  | .scriptDdform tile => Sys2Proof.Machine.execScriptDdform tile s
  | .scriptSlipdet tile => Sys2Proof.Machine.execScriptSlipdet tile s
  | .scriptUpdate tile => Sys2Proof.Machine.execScriptUpdate tile s
  | .scriptCheck tile => Sys2Proof.Machine.execScriptCheck tile s
  | .scriptDecor tile => Sys2Proof.Machine.execScriptDecor tile s
  | .scriptSearch tile => Sys2Proof.Machine.execScriptSearch tile s
  | .scriptValidate tile => Sys2Proof.Machine.execScriptValidate tile s
  | .scriptFixout tile moved => Sys2Proof.Machine.execScriptFixout tile moved s
  | .scriptStore tile => Sys2Proof.Machine.execScriptStore tile s
  | .scriptBranch tile => Sys2Proof.Machine.execScriptBranch tile s
  | .scriptNop tile => Sys2Proof.Machine.execScriptNop tile s
  | .scriptEnd tile => Sys2Proof.Machine.execScriptEnd tile s
  | .tileHold who tile hold => Sys2Proof.Machine.execTileHold who tile hold s
  | .tileEvict who tile => Sys2Proof.Machine.execTileEvict who tile s
  | .tileFault tile ctx ecc => Sys2Proof.Machine.execTileFault tile ctx ecc s
  | .tileTest who tile => Sys2Proof.Machine.execTileTest who tile s
  | .tileTestDone tile signature => Sys2Proof.Machine.execTileTestDone tile signature s
  | .noneEvt => Sys2Proof.Machine.execNoneEvt s
  | .shareWaitExpiry epoch => Sys2Proof.Machine.execShareWaitExpiry epoch s
  | .shareSet => Sys2Proof.Machine.execShareSet s
  | .resetFilter who machine => Sys2Proof.Machine.execResetFilter who machine s
  | .solvImport who machine => Sys2Proof.Machine.execSolvImport who machine s
  | .solvExport who machine => Sys2Proof.Machine.execSolvExport who machine s
  | .lookupEn who enable => Sys2Proof.Machine.execLookupEn who enable s
  | .zoneInsert who => Sys2Proof.Machine.execZoneInsert who s
  | .zoneDelete who => Sys2Proof.Machine.execZoneDelete who s
  | .zoneModify who => Sys2Proof.Machine.execZoneModify who s
  | .zoneLoad who => Sys2Proof.Machine.execZoneLoad who s
  | .zoneRefilter who => Sys2Proof.Machine.execZoneRefilter who s
  | .zoneClear who => Sys2Proof.Machine.execZoneClear who s
  | .zoneCmdComplete xtab => Sys2Proof.Machine.execZoneCmdComplete xtab s
  | .writeMachine who index => Sys2Proof.Machine.execWriteMachine who index s
  | .writeCell who index => Sys2Proof.Machine.execWriteCell who index s
  | .invalidateMachine who index => Sys2Proof.Machine.execInvalidateMachine who index s
  | .invalidateCell who index => Sys2Proof.Machine.execInvalidateCell who index s
  | .tableDirectWrite who addr => Sys2Proof.Machine.execTableDirectWrite who addr s
  | .shadowBlockCompare raced => Sys2Proof.Machine.execShadowBlockCompare raced s
  | .shadowPass who => Sys2Proof.Machine.execShadowPass who s
  | .planSubmit who => Sys2Proof.Machine.execPlanSubmit who s
  | .planCancel who machine => Sys2Proof.Machine.execPlanCancel who machine s
  | .searchStart => Sys2Proof.Machine.execSearchStart s
  | .planCommit => Sys2Proof.Machine.execPlanCommit s
  | .shrReq => Sys2Proof.Machine.execShrReq s
  | .shrReply => Sys2Proof.Machine.execShrReply s
  | .shrUpdate => Sys2Proof.Machine.execShrUpdate s
  | .sharedRetry => Sys2Proof.Machine.execSharedRetry s
  | .fixPacket => Sys2Proof.Machine.execFixPacket s
  | .overrunGrace => Sys2Proof.Machine.execOverrunGrace s
  | .sweep => Sys2Proof.Machine.execSweep s
  | .timeJumpCatchUp => Sys2Proof.Machine.execTimeJumpCatchUp s
  | .reserve who index => Sys2Proof.Machine.execReserve who index s
  | .release who index => Sys2Proof.Machine.execRelease who index s
  | .queryCell who index => Sys2Proof.Machine.execQueryCell who index s
  | .queryMachine who index => Sys2Proof.Machine.execQueryMachine who index s
  | .reconcile who index => Sys2Proof.Machine.execReconcile who index s
  | .planAck who index => Sys2Proof.Machine.execPlanAck who index s
  | .trackClear who => Sys2Proof.Machine.execTrackClear who s
  | .queryResultRead who => Sys2Proof.Machine.execQueryResultRead who s
  | .deliveryWord => Sys2Proof.Machine.execDeliveryWord s
  | .chunkAck chunk => Sys2Proof.Machine.execChunkAck chunk s
  | .segLate => Sys2Proof.Machine.execSegLate s
  | .segGiveup => Sys2Proof.Machine.execSegGiveup s
  | .axisEnable who axis => Sys2Proof.Machine.execAxisEnable who axis s
  | .axisDisable who axis => Sys2Proof.Machine.execAxisDisable who axis s
  | .moveAbs who axis => Sys2Proof.Machine.execMoveAbs who axis s
  | .moveRel who axis => Sys2Proof.Machine.execMoveRel who axis s
  | .runTable who axis => Sys2Proof.Machine.execRunTable who axis s
  | .axisStop who axis => Sys2Proof.Machine.execAxisStop who axis s
  | .quickStop who axis => Sys2Proof.Machine.execQuickStop who axis s
  | .axisResume who axis => Sys2Proof.Machine.execAxisResume who axis s
  | .axisHome who axis => Sys2Proof.Machine.execAxisHome who axis s
  | .clearFault who axis => Sys2Proof.Machine.execClearFault who axis s
  | .setPos who axis => Sys2Proof.Machine.execSetPos who axis s
  | .profileUpdate axis => Sys2Proof.Machine.execProfileUpdate axis s
  | .stepUpdate axis => Sys2Proof.Machine.execStepUpdate axis s
  | .encoderEdge axis a b => Sys2Proof.Machine.execEncoderEdge axis a b s
  | .limitEvt axis pos high => Sys2Proof.Machine.execLimitEvt axis pos high s
  | .homeChange axis old high => Sys2Proof.Machine.execHomeChange axis old high s
  | .stall axis => Sys2Proof.Machine.execStall axis s
  | .idleCurrent axis => Sys2Proof.Machine.execIdleCurrent axis s
  | .ioSupplyLost => Sys2Proof.Machine.execIoSupplyLost s
  | .linkDown sect rx dest => Sys2Proof.Machine.execLinkDown sect rx dest s
  | .linkUp sect => Sys2Proof.Machine.execLinkUp sect s
  | .sectBank who sect bank => Sys2Proof.Machine.execSectBank who sect bank s
  | .cycleEdge sect => Sys2Proof.Machine.execCycleEdge sect s
  | .beacon sect => Sys2Proof.Machine.execBeacon sect s
  | .stopMiniSlot sect => Sys2Proof.Machine.execStopMiniSlot sect s
  | .tx sect => Sys2Proof.Machine.execTx sect s
  | .rx sect => Sys2Proof.Machine.execRx sect s
  | .radioOpen sect => Sys2Proof.Machine.execRadioOpen sect s
  | .poll sect => Sys2Proof.Machine.execPoll sect s
  | .twin sect => Sys2Proof.Machine.execTwin sect s
  | .idle sect => Sys2Proof.Machine.execIdle sect s
  | .radioRepeat sect => Sys2Proof.Machine.execRadioRepeat sect s
  | .programEnd sect => Sys2Proof.Machine.execProgramEnd sect s
  | .frameAccept sect rate wide start bytes => Sys2Proof.Machine.execFrameAccept sect rate wide start bytes s
  | .ackMissing sect => Sys2Proof.Machine.execAckMissing sect s
  | .assocReq sect rate wide start bytes => Sys2Proof.Machine.execAssocReq sect rate wide start bytes s
  | .disassoc sect rate wide start bytes => Sys2Proof.Machine.execDisassoc sect rate wide start bytes s
  | .assocTimeout machine => Sys2Proof.Machine.execAssocTimeout machine s
  | .watch => Sys2Proof.Machine.execWatch s
  | .fwFrame => Sys2Proof.Machine.execFwFrame s
  | .tokenSample => Sys2Proof.Machine.execTokenSample s
  | .tokenPlace checked => Sys2Proof.Machine.execTokenPlace checked s
  | .arm who word => Sys2Proof.Machine.execArm who word s
  | .armLost => Sys2Proof.Machine.execArmLost s
  | .poppyRole who role => Sys2Proof.Machine.execPoppyRole who role s
  | .stopMember who detail => Sys2Proof.Machine.execStopMember who detail s
  | .stopSite who detail => Sys2Proof.Machine.execStopSite who detail s
  | .clearMachine who detail machine => Sys2Proof.Machine.execClearMachine who detail machine s
  | .stopAdopt x => Sys2Proof.Machine.execStopAdopt x s
  | .withdrawal => Sys2Proof.Machine.execWithdrawal s
  | .stopPresentation => Sys2Proof.Machine.execStopPresentation s
  | .relGo who => Sys2Proof.Machine.execRelGo who s
  | .releaseDone => Sys2Proof.Machine.execReleaseDone s
  | .cfgCommit who => Sys2Proof.Machine.execCfgCommit who s
  | .testPulse x => Sys2Proof.Machine.execTestPulse x s
  | .wiredInputOpen x n => Sys2Proof.Machine.execWiredInputOpen x n s
  | .wiringFault x n disc => Sys2Proof.Machine.execWiringFault x n disc s
  | .wiringFaultClear n => Sys2Proof.Machine.execWiringFaultClear n s
  | .readbackFault x k => Sys2Proof.Machine.execReadbackFault x k s
  | .busMarker x seen => Sys2Proof.Machine.execBusMarker x seen s
  | .memberSlot x => Sys2Proof.Machine.execMemberSlot x s
  | .slotSample m lowA lowB => Sys2Proof.Machine.execSlotSample m lowA lowB s
  | .busLost x => Sys2Proof.Machine.execBusLost x s
  | .heartbeatSend x => Sys2Proof.Machine.execHeartbeatSend x s
  | .heartbeatFrame x bytes => Sys2Proof.Machine.execHeartbeatFrame x bytes s
  | .heartbeatMissing x => Sys2Proof.Machine.execHeartbeatMissing x s
  | .poppyChannelMonitor x => Sys2Proof.Machine.execPoppyChannelMonitor x s
  | .threadCreate who self => Sys2Proof.Machine.execThreadCreate who self s
  | .threadDelete who self => Sys2Proof.Machine.execThreadDelete who self s
  | .threadSleep who self ticks => Sys2Proof.Machine.execThreadSleep who self ticks s
  | .waitIrq who self ticks => Sys2Proof.Machine.execWaitIrq who self ticks s
  | .threadYield who self => Sys2Proof.Machine.execThreadYield who self s
  | .setLevel who self level => Sys2Proof.Machine.execSetLevel who self level s
  | .threadWake who self => Sys2Proof.Machine.execThreadWake who self s
  | .threadSuspend who self => Sys2Proof.Machine.execThreadSuspend who self s
  | .threadResume who self => Sys2Proof.Machine.execThreadResume who self s
  | .delayExpiry set_ => Sys2Proof.Machine.execDelayExpiry set_ s
  | .waitTimeout => Sys2Proof.Machine.execWaitTimeout s
  | .coreAck who k thread => Sys2Proof.Machine.execCoreAck who k thread s
  | .workItem => Sys2Proof.Machine.execWorkItem s
  | .workSubmit who => Sys2Proof.Machine.execWorkSubmit who s
  | .pull => Sys2Proof.Machine.execPull s
  | .wrkEn who enable => Sys2Proof.Machine.execWrkEn who enable s
  | .jobSubmit who => Sys2Proof.Machine.execJobSubmit who s
  | .jobAsk who machine timeout => Sys2Proof.Machine.execJobAsk who machine timeout s
  | .cancelAsk who machine => Sys2Proof.Machine.execCancelAsk who machine s
  | .jobWithdraw who handle => Sys2Proof.Machine.execJobWithdraw who handle s
  | .matchingPass => Sys2Proof.Machine.execMatchingPass s
  | .askTimeout => Sys2Proof.Machine.execAskTimeout s
  | .jobExpire => Sys2Proof.Machine.execJobExpire s
  | .frameReceive port stamp bytes => Sys2Proof.Machine.execFrameReceive port stamp bytes s
  | .frameTransmit port => Sys2Proof.Machine.execFrameTransmit port s
  | .ringTail who index => Sys2Proof.Machine.execRingTail who index s
  | .ringResume who => Sys2Proof.Machine.execRingResume who s
  | .p21Packet => Sys2Proof.Machine.execP21Packet s
  | .atuLookup who => Sys2Proof.Machine.execAtuLookup who s
  | .insertStatic who => Sys2Proof.Machine.execInsertStatic who s
  | .atuDelete who => Sys2Proof.Machine.execAtuDelete who s
  | .flushPort who port => Sys2Proof.Machine.execFlushPort who port s
  | .flushAll who => Sys2Proof.Machine.execFlushAll who s
  | .ageing => Sys2Proof.Machine.execAgeing s
  | .supervisionFrame => Sys2Proof.Machine.execSupervisionFrame s
  | .tsqPop who port => Sys2Proof.Machine.execTsqPop who port s
  | .wakeMatch port bytes => Sys2Proof.Machine.execWakeMatch port bytes s
  | .ethLinkChange port up speed signal lock => Sys2Proof.Machine.execEthLinkChange port up speed signal lock s
  | .pairEn who enable => Sys2Proof.Machine.execPairEn who enable s
  | .startTimeout => Sys2Proof.Machine.execStartTimeout s
  | .promotion => Sys2Proof.Machine.execPromotion s
  | .activeAlone => Sys2Proof.Machine.execActiveAlone s
  | .pairSwitch who => Sys2Proof.Machine.execPairSwitch who s
  | .pairPromote who => Sys2Proof.Machine.execPairPromote who s
  | .resyncCmd who => Sys2Proof.Machine.execResyncCmd who s
  | .switchFail => Sys2Proof.Machine.execSwitchFail s
  | .keepaliveSend => Sys2Proof.Machine.execKeepaliveSend s
  | .keepalive => Sys2Proof.Machine.execKeepalive s
  | .pairKeepaliveSend => Sys2Proof.Machine.execPairKeepaliveSend s
  | .pairKeepalive => Sys2Proof.Machine.execPairKeepalive s
  | .journal => Sys2Proof.Machine.execJournal s
  | .jack => Sys2Proof.Machine.execJack s
  | .jreq => Sys2Proof.Machine.execJreq s
  | .confTimeout => Sys2Proof.Machine.execConfTimeout s
  | .resync => Sys2Proof.Machine.execResync s
  | .stateReq => Sys2Proof.Machine.execStateReq s
  | .handoff => Sys2Proof.Machine.execHandoff s
  | .handoffAck => Sys2Proof.Machine.execHandoffAck s
  | .witnessQuery => Sys2Proof.Machine.execWitnessQuery s
  | .witnessQ => Sys2Proof.Machine.execWitnessQ s
  | .witnessA => Sys2Proof.Machine.execWitnessA s
  | .reasmTimeout => Sys2Proof.Machine.execReasmTimeout s
  | .snapReq => Sys2Proof.Machine.execSnapReq s
  | .snapEnd => Sys2Proof.Machine.execSnapEnd s
  | .healthSend => Sys2Proof.Machine.execHealthSend s
  | .health => Sys2Proof.Machine.execHealth s
  | .selfTest => Sys2Proof.Machine.execSelfTest s
  | .moveSend who dest machine => Sys2Proof.Machine.execMoveSend who dest machine s
  | .move => Sys2Proof.Machine.execMove s
  | .moveAck => Sys2Proof.Machine.execMoveAck s
  | .moveTimeout => Sys2Proof.Machine.execMoveTimeout s
  | .derive who parent slot => Sys2Proof.Machine.execDerive who parent slot s
  | .generate who parent slot => Sys2Proof.Machine.execGenerate who parent slot s
  | .importClear who parent slot => Sys2Proof.Machine.execImportClear who parent slot s
  | .importPub who parent slot => Sys2Proof.Machine.execImportPub who parent slot s
  | .wrap who parent slot => Sys2Proof.Machine.execWrap who parent slot s
  | .unwrap who parent slot => Sys2Proof.Machine.execUnwrap who parent slot s
  | .invalidate who slot => Sys2Proof.Machine.execInvalidate who slot s
  | .gcmEnc who slot => Sys2Proof.Machine.execGcmEnc who slot s
  | .gcmDec who slot => Sys2Proof.Machine.execGcmDec who slot s
  | .hmac who slot => Sys2Proof.Machine.execHmac who slot s
  | .sha256 who => Sys2Proof.Machine.execSha256 who s
  | .sha384 who => Sys2Proof.Machine.execSha384 who s
  | .sign who slot => Sys2Proof.Machine.execSign who slot s
  | .verify who slot => Sys2Proof.Machine.execVerify who slot s
  | .agree who parent slot => Sys2Proof.Machine.execAgree who parent slot s
  | .pubkey who slot => Sys2Proof.Machine.execPubkey who slot s
  | .random who => Sys2Proof.Machine.execRandom who s
  | .reseed who => Sys2Proof.Machine.execReseed who s
  | .sealBlob who kind => Sys2Proof.Machine.execSealBlob who kind s
  | .commitBlob who kind => Sys2Proof.Machine.execCommitBlob who kind s
  | .loadBlob who kind => Sys2Proof.Machine.execLoadBlob who kind s
  | .poppySeal who tok rel => Sys2Proof.Machine.execPoppySeal who tok rel s
  | .keyCmdDone => Sys2Proof.Machine.execKeyCmdDone s
  | .healthFail => Sys2Proof.Machine.execHealthFail s
  | .tamperDetection source temp => Sys2Proof.Machine.execTamperDetection source temp s
  | .sourceCleared source temp => Sys2Proof.Machine.execSourceCleared source temp s
  | .program who => Sys2Proof.Machine.execProgram who s
  | .clearLog who => Sys2Proof.Machine.execClearLog who s
  | .extend who index => Sys2Proof.Machine.execExtend who index s
  | .statement who index => Sys2Proof.Machine.execStatement who index s
  | .invalAll who ctx => Sys2Proof.Machine.execInvalAll who ctx s
  | .invalPage who ctx => Sys2Proof.Machine.execInvalPage who ctx s
  | .dtuResume who client index => Sys2Proof.Machine.execDtuResume who client index s
  | .dtuAbort who client index => Sys2Proof.Machine.execDtuAbort who client index s
  | .dmaStart who chan => Sys2Proof.Machine.execDmaStart who chan s
  | .dmaStop who chan => Sys2Proof.Machine.execDmaStop who chan s
  | .dmaResume who chan => Sys2Proof.Machine.execDmaResume who chan s
  | .dmaAbort who chan => Sys2Proof.Machine.execDmaAbort who chan s
  | .dmaBurst host => Sys2Proof.Machine.execDmaBurst host s
  | .scrub => Sys2Proof.Machine.execScrub s
  | .selfRefreshEntry => Sys2Proof.Machine.execSelfRefreshEntry s
  | .dataRead who q off size => Sys2Proof.Machine.execDataRead who q off size s
  | .dataWrite who q off size value => Sys2Proof.Machine.execDataWrite who q off size value s
  | .packetWrite who q off size value => Sys2Proof.Machine.execPacketWrite who q off size value s
  | .busLimitExpiry q => Sys2Proof.Machine.execBusLimitExpiry q s
  | .packetAbandon q => Sys2Proof.Machine.execPacketAbandon q s
  | .dropPacket who q => Sys2Proof.Machine.execDropPacket who q s
  | .flush who q => Sys2Proof.Machine.execFlush who q s
  | .ref10Lost => Sys2Proof.Machine.execRef10Lost s
  | .ref10Restored => Sys2Proof.Machine.execRef10Restored s
  | .referenceLost which present => Sys2Proof.Machine.execReferenceLost which present s
  | .crystalLost => Sys2Proof.Machine.execCrystalLost s
  | .clockRequest domain => Sys2Proof.Machine.execClockRequest domain s
  | .clockHoldExpiry cores => Sys2Proof.Machine.execClockHoldExpiry cores s
  | .bloom who => Sys2Proof.Machine.execBloom who s
  | .bud who => Sys2Proof.Machine.execBud who s
  | .snowdrop who wfi => Sys2Proof.Machine.execSnowdrop who wfi s
  | .entryRefused => Sys2Proof.Machine.execEntryRefused s
  | .entryComplete => Sys2Proof.Machine.execEntryComplete s
  | .alarm => Sys2Proof.Machine.execAlarm s
  | .wakePin => Sys2Proof.Machine.execWakePin s
  | .powerWake => Sys2Proof.Machine.execPowerWake s
  | .wakeComplete => Sys2Proof.Machine.execWakeComplete s
  | .powerOn => Sys2Proof.Machine.execPowerOn s
  | .brownout => Sys2Proof.Machine.execBrownout s
  | .resetPin low => Sys2Proof.Machine.execResetPin low s
  | .clockLossReset => Sys2Proof.Machine.execClockLossReset s
  | .device who key => Sys2Proof.Machine.execDevice who key s
  | .planeData who key => Sys2Proof.Machine.execPlaneData who key s
  | .planeControl who key => Sys2Proof.Machine.execPlaneControl who key s
  | .planeMgmt who key => Sys2Proof.Machine.execPlaneMgmt who key s
  | .watchdogExpiry => Sys2Proof.Machine.execWatchdogExpiry s
  | .wdogKick who value => Sys2Proof.Machine.execWdogKick who value s
  | .sysReset who => Sys2Proof.Machine.execSysReset who s
  | .pcieReset linkUp => Sys2Proof.Machine.execPcieReset linkUp s
  | .deviceResetRelease w => Sys2Proof.Machine.execDeviceResetRelease w s
  | .wipeComplete => Sys2Proof.Machine.execWipeComplete s
  | .transition who target => Sys2Proof.Machine.execTransition who target s
  | .programHash who => Sys2Proof.Machine.execProgramHash who s
  | .raiseSvn who => Sys2Proof.Machine.execRaiseSvn who s
  | .coreRun who mask => Sys2Proof.Machine.execCoreRun who mask s
  | .loadData who value => Sys2Proof.Machine.execLoadData who value s
  | .go who trainFails => Sys2Proof.Machine.execGo who trainFails s
  | .haltReq who mask => Sys2Proof.Machine.execHaltReq who mask s
  | .tapInstruction tap => Sys2Proof.Machine.execTapInstruction tap s
  | .slewComplete => Sys2Proof.Machine.execSlewComplete s
  | .poppyChannelRelease x => Sys2Proof.Machine.execPoppyChannelRelease x s
  | .crystalRestored => Sys2Proof.Machine.execCrystalRestored s
  | .ioSupplyRestored => Sys2Proof.Machine.execIoSupplyRestored s
  | .wiredInputClosed x n => Sys2Proof.Machine.execWiredInputClosed x n s
  | .memberUnreachable member => Sys2Proof.Machine.execMemberUnreachable member s
  | .pllLockLost pll locked => Sys2Proof.Machine.execPllLockLost pll locked s
  | .otpProgrammingDone => Sys2Proof.Machine.execOtpProgrammingDone s
  | .statementComplete => Sys2Proof.Machine.execStatementComplete s
  | .invalDone ctx => Sys2Proof.Machine.execInvalDone ctx s
  | .trackResCmdDone => Sys2Proof.Machine.execTrackResCmdDone s
  | .watchdogHalfTimeout => Sys2Proof.Machine.execWatchdogHalfTimeout s

end Sys2Proof.Machine
end

