-- ==== Sys2Proof/Machine/Tick.lean ====
section
/-! DEFINITION. One tick of the 2 ns device clock (01_planes_and_epochs.md R26; 04_time_base.md R98, R99): what step does where no
command waits. -/

namespace Sys2Proof.Machine

/-- A tick: the time base advances, and with it what follows the time of itself: the end of a plane's reset (R512), the Poppy plane's conditions (R301, R302), the start of
MSG_SEQ (R391), the tiles' running time (R166), standing clock requests (R494) and the entry to Snowdrop (R502). While device reset is held only
device time passes (DESIGN CHOICE, log 2). -/
def State.tick (s : State) : State :=
  if s.rst.held then { s with now := s.now + 2 }
  else ((((((s.timeTick).planeEval).poppyEval).msgStart).busyEval).clockEval).entryEval

end Sys2Proof.Machine
end

