-- ==== Sys2Proof/Safety.lean ====
section
/-! DEFINITION. What counts as a safe run: no step stops the block, and its tables stay in their one canonical form. -/

namespace Sys2Proof.Machine

/-- The registers, memory and boot flash are in canonical form: equal contents are equal data. -/
def State.canonical (s : State) : Bool :=
  Assoc.wf resetWord s.regs && Memory.wf s.mem.bytes && Assoc.wf flashDefault s.mem.flash

/-- An outcome is a next state. -/
def isNext : Res → Bool
  | .next _ => true
  | .fault _ => false
  | .refused _ => false

/-- A command completes: exec answers a next state, and `P` holds of it. -/
def Completes (c : Instr) (s : State) (P : State → Prop) : Prop := ∃ t, exec c s = .next t ∧ P t

/-- Event `b` of page `p` is raised: the bit of PG_IRQ_RAW (R37). -/
def State.event (s : State) (p b : Nat) : Bool := (s.reg (p * 0x1000 + 0x10)).getLsbD b

/-- Only registers change between two states, and of them only those that `ks` names. -/
def OnlyRegs (s t : State) (ks : List Nat) : Prop := t = { s with regs := t.regs } ∧ ∀ k, k ∉ ks → t.reg k = s.reg k

/-- The states of a block left idle: `n` ticks with no command waiting. -/
def State.idle (s : State) : Nat → State
  | 0 => s
  | n + 1 => s.tick.idle n

/-- A register access: the rows of the command table that read or write a register without a row of its own. -/
def registerAccess : Instr → Option Initiator
  | .registerWrite who _ _ _ _ => some who
  | .rcFieldRead who _ _ _ _ => some who
  | .wideValueRead who _ _ _ => some who
  | .wideValueCommit who _ _ _ _ => some who
  | _ => none

/-- The states after commands in order, as long as each answers a next state. -/
def runs (s : State) : List Instr → Option State
  | [] => some s
  | c :: cs =>
    match exec c s with
    | .next t => runs t cs
    | .fault _ => none
    | .refused _ => none

/-- The next message of a type from the packets of port 21, if one has arrived, and the state after it is taken (R392 to R394). -/
def State.received (s : State) (type : Nat) : Option Msg × State :=
  let r := s.takeMsg type (s.mboxQ (s.getF F.SWCH_P21_RX_QUEUE)).level
  (r.1, r.2.msgsPassed s)

/-- The run of tile `n` is in context `k`, is no test, and stands at a script word of operation `op` (R133); the fix engine is powered. -/
def State.atWord (s : State) (n k op : Nat) : Prop :=
  s.pagePowered 0x060 = true ∧ s.running n = some k ∧ (s.ctx n k).test = false ∧ opOf ((s.ctx n k).script.getD (s.ctx n k).index 0) = op

/-- The argument fields A and B of the script word at which context `k` of tile `n` stands. -/
def State.wordA (s : State) (n k : Nat) : Nat := argA ((s.ctx n k).script.getD (s.ctx n k).index 0)

def State.wordB (s : State) (n k : Nat) : Nat := argB ((s.ctx n k).script.getD (s.ctx n k).index 0)

/-- Between two states only context `k` of tile `n` changes, to `c`. -/
def OnlyCtx (s t : State) (n k : Nat) (c : RunCtx) : Prop :=
  t.ctx n k = c ∧ (∀ n' k', 2 * n' + k' ≠ 2 * n + k → t.ctx n' k' = s.ctx n' k') ∧
    t = { s with solv := { s.solv with ctxs := t.solv.ctxs } }

/-- Between two states nothing changes but what a pair's roles and journal reach: registers, the logs, memory, messages, the time
base's ports, the store of zones and plans with its deliveries, and the pair itself. -/
def PairFrame (s t : State) : Prop :=
  t = { s with
    regs := t.regs, fifos := t.fifos, mem := t.mem, mbox := t.mbox, bus := t.bus, freeCtr := t.freeCtr, time := t.time, zone := t.zone
    plan := t.plan, seg := t.seg, pair := t.pair }

/-- Between two states nothing changes but what a message sent, or a message taken, reaches. -/
def MsgFrame (s t : State) : Prop :=
  t = { s with regs := t.regs, mbox := t.mbox, bus := t.bus, freeCtr := t.freeCtr, pair := t.pair }

/-- A running sector hears a frame: it came in a slot that the sector serves, with a rate and width it takes, of a lawful length, in
time for the block that is open, and with a good FCS (R262, R265, R268, R270, R281). -/
def State.hears (s : State) (n : Nat) (r0 : RxFrame) : Prop :=
  let r := s.airStamp n r0
  s.sectRunning n = true ∧ r0.start ≤ s.taiNs ∧ (∀ b, (s.sect n).back = some b → b < r.start / 250000) ∧
    s.slotJumped (r.start / 250000) = false ∧ (r.rate = 6 ∨ r.rate = 12 ∨ r.rate = 24) ∧
    r.wide = s.wide10 n ∧ 24 ≤ r.bytes.length ∧ r.bytes.length ≤ 2048 ∧
    (∀ b, (s.sect n).rx = some b → b.slotsFrom (r.start / 250000) ≠ 0 →
      s.airFits n r.rate r.bytes.length (bitAt (wordAt r.bytes 0) 9) (b.slotsFrom (r.start / 250000)) = true) ∧
    crc32 (r.bytes.take (r.bytes.length - 4)) = leValue (r.bytes.drop (r.bytes.length - 4))

/-- What OTP programming keeps (R517, R529): an operation on MIN_SVN raises it, and a hash is programmed only where there is none. -/
def State.otpAdvances (s : State) : Prop :=
  (∀ v, s.rst.otpOp = some (.svn v) → s.rst.otp.minSvn ≤ v) ∧ ∀ l, s.rst.otpOp = some (.hash l) → s.rst.otp.hash = none

/-- Steps of the block from `s` that stop nowhere: the states in order, `s` first. -/
inductive Run : State → List State → Prop where
  | start (s : State) : Run s [s]
  | more (s t : State) (l : List State) : step s = .next t → Run t l → Run s (s :: l)

end Sys2Proof.Machine
end

