-- ==== Sys2Proof/Certificates/Slice0/Obligations.lean ====
section
/-! DEFINITION. The statements about the model for the provers, one definition each; OBLIGATIONS.json lists them. -/

open Sys2Proof Sys2Proof.Machine

/-- A step takes the command at the front of the queue and runs exec on it with the queue's rest (the fabric serves accesses one after
another, R34). -/
def Obligations.StepRunsTheFrontCommand : Prop :=
  ∀ (c : Instr) (rest : List Instr) (s : State), s.pending = c :: rest → step s = exec c { s with pending := rest }

/-- An idle step is one tick of the 500 MHz clock (R26, R98); that it is so is the model's choice (log 2). Outside the entry to
Snowdrop it leaves memory, the key store and the queue unchanged, and of the reset plane only takes out what ends (R512). -/
def Obligations.IdleTickAdvancesDeviceTime : Prop :=
  ∀ s : State, s.pending = [] → s.pwr.state ≠ PwrState.entering →
    ∃ t, step s = .next t ∧ t.now = s.now + 2 ∧ t.pending = [] ∧ t.mem = s.mem ∧ t.keys = s.keys ∧
      t.rst = { s.rst with planeHeld := t.rst.planeHeld } ∧ ∀ e ∈ t.rst.planeHeld, e ∈ s.rst.planeHeld

/-- R99: "Because the increment is always positive, the output time never decreases." For any number of idle ticks; a step (R106) only
goes forward. -/
def Obligations.IdleOutputTimeNeverDecreases : Prop :=
  (∀ (s : State) (n : Nat), s.pwr.state ≠ PwrState.entering → s.time.out ≤ (s.idle n).time.out) ∧
  (∀ s : State, s.pwr.state ≠ PwrState.entering → s.rst.held = false → s.stepDue = false → s.time.state.unfollowed = false →
    s.time.out + 0x01FF7CED91 ≤ s.tick.time.out ∧ s.tick.time.out ≤ s.time.out + 0x020083126F)

/-- The header of every assigned page after reset (R36, R37). State.reset meets the invariant of LifeCycleOnlyAdvances; the time base
at zero with quality NONE is R513. -/
def Obligations.ResetState : Prop :=
  (
    ∀ p, pageAssigned p = true →
      (∃ r, pageRow p = some r ∧ (State.reset.reg (p * 0x1000)).toNat = r.code * 0x10000 + (r.inst + (p - r.first)) * 0x100 + 1) ∧
      State.reset.reg (p * 0x1000 + 0x004) = 0x02000020 ∧
      State.reset.flag (F.PG_CTRL_ENABLE p) = [0x000, 0x001, 0x002, 0x003, 0x040, 0x041, 0x0C0].elem p ∧
      State.reset.flag (F.PG_CTRL_LOCK p) = false ∧ State.reset.reg (p * 0x1000 + 0x010) = 0 ∧
      State.reset.reg (p * 0x1000 + 0x014) = 0 ∧ State.reset.reg (p * 0x1000 + 0x020) = 0) ∧
  (
    State.reset.otpAdvances ∧ State.reset.pending = [] ∧ State.reset.canonical = true ∧ State.reset.taiSec = 0 ∧ State.reset.quality = 0 ∧
      State.reset.lifeCycle = .blank)

/-- R41 on every register of one word whose write sets off no change of a register: the bit `i` that field `f` alone holds.
`afterWrite` names what some registers set off (R117, R273, R473 and others); they have statements of their own. R41 and R43 for a
read of a register of one word that no engine's view stands for and that is no log. -/
def Obligations.RegisterAccessTypes : Prop :=
  (
    (∀ (s : State) (who : Initiator) (key : Nat) (write : Bool) (k : State → State) (sub : Nat), s.passes who key write = true →
      s.gate who key write k sub = k (s.entered key)) ∧
    (∀ (who : Initiator) (page : Fin 4096) (word : Fin 1024) (sub : Fin 4) (v : DWord) (s0 : State) (r : RegDef),
      let key := wordKey page.val word.val
      let s := s0.entered key
      s0.passes who key true = true → regAt key = some (r, 0) → r.words = 1 → (r.fields.all fun f => f.acc == .ro) = false →
      s.refuseWrite who key (s.checkValue key (allBits - ownedMask key) r.fields 0 [v.toNat % 2 ^ 32]) = none →
      (∀ x : State, (x.afterWrite key).regs = x.regs) →
      Completes (.registerWrite who page (word, sub) .word v) s0 fun t =>
        ∀ (i : Nat) (f : FieldDef), i < 32 → f ∈ r.fields → f.lo ≤ i → i ≤ f.hi →
          (∀ g ∈ r.fields, g.lo ≤ i → i ≤ g.hi → g = f) → (allBits - ownedMask key).testBit i = true →
          (t.reg (s.winKey key)).getLsbD i =
            match f.acc with
            | .rw => v.getLsbD i
            | .rwl => if s.flag (F.PG_CTRL_LOCK (plainKey key / 0x1000)) then (s.reg (s.winKey key)).getLsbD i else v.getLsbD i
            | .w1c => (s.reg (s.winKey key)).getLsbD i && !v.getLsbD i
            | .w1s => (s.reg (s.winKey key)).getLsbD i || v.getLsbD i
            | .ro | .wo | .rc => (s.reg (s.winKey key)).getLsbD i) ∧
    (∀ (who : Initiator) (page : Fin 4096) (word : Fin 1024) (sub : Fin 4) (v : DWord) (s : State) (r : RegDef) (w : Nat),
      let key := wordKey page.val word.val
      s.passes who key true = true → regAt key = some (r, w) → (r.fields.all fun f => f.acc == .ro) = true →
      exec (.registerWrite who page (word, sub) .word v) s = .next (((s.entered key).accessErr 0x02 who key).respond 0 false)) ∧
    (∀ (who : Initiator) (page : Fin 4096) (word : Fin 1024) (sub : Fin 4) (size : AccessSize) (v : DWord) (s : State),
      let key := wordKey page.val word.val
      size = .byte ∨ size = .half → s.passes who key true = true →
      exec (.registerWrite who page (word, sub) size v) s =
        .next (((s.entered key).accessErr 0x03 who key (subByte sub size)).respond 0 false))) ∧
  (
    ∀ (who : Initiator) (page : Fin 4096) (word : Fin 1024) (sub : Fin 4) (s0 : State) (r : RegDef),
      let key := wordKey page.val word.val
      let s := s0.entered key
      let m := accessMask 0 (· == .rc) r.fields
      s0.passes who key false = true → regAt key = some (r, 0) → r.words = 1 → fifoOf key = none → s.view key = none →
      Completes (.rcFieldRead who page word sub .word) s0 fun t =>
        t.bus = ⟨BitVec.ofNat 64 (s.reg (s.winKey key)).toNat, false⟩ ∧
        (∀ i, i < 32 → (t.reg (s.winKey key)).getLsbD i = ((s.reg (s.winKey key)).getLsbD i && !m.testBit i)) ∧
        (∀ k, k ≠ s.winKey key → t.reg k = s.reg k) ∧ t = { s with regs := t.regs, bus := t.bus })

/-- R32, whole: accesses where no register is, and to unassigned pages. -/
def Obligations.UndefinedOffsetsIgnored : Prop :=
  (∀ (who : Initiator) (page : Fin 4096) (word : Fin 1024) (v : DWord) (s : State),
    let key := wordKey page.val word.val
    pageAssigned page.val = true → regAt key = none →
    (s.passes who key true = true → exec (.registerWrite who page (word, 0) .word v) s = .next ((s.entered key).respond 0 false)) ∧
    (s.passes who key false = true → exec (.rcFieldRead who page word 0 .word) s = .next ((s.entered key).respond 0 false))) ∧
  (∀ (who : Initiator) (page : Fin 4096) (word : Fin 1024) (v : DWord) (s : State),
    let key := wordKey page.val word.val
    let t := (s.err 0x000 0x06 (some who) (0x40000000 + key)).respond 0 (who != .host)
    pageAssigned page.val = false → s.reaches who = true → s.rst.held = false →
    exec (.registerWrite who page (word, 0) .word v) s = .next t ∧ exec (.rcFieldRead who page word 0 .word) s = .next t)

/-- The promise after R48: "An initiator that reads low and then high always obtains a consistent value, whatever other initiators do
in between." Here `cs` are register accesses of other initiators, each answering a next state. -/
def Obligations.WideReadConsistent : Prop :=
  (∀ (who : Initiator) (page : Fin 4096) (word : Fin 1024) (s s1 s2 : State) (cs : List Instr) (r : RegDef),
    let key := wordKey page.val word.val
    regAt key = some (r, 0) → regAt (key + 4) = some (r, 1) → r.words = 2 → fifoOf key = none → fifoOf (key + 4) = none →
    word.val + 1 < 1024 → s.passes who key false = true →
    exec (.wideValueRead who page (word, 0) .word) s = .next s1 →
    (∀ c ∈ cs, ∃ other, registerAccess c = some other ∧ other ≠ who) → runs s1 cs = some s2 →
    s2.passes who (key + 4) false = true →
    s1.bus = ⟨BitVec.ofNat 64 ((s.entered key).liveWord key), false⟩ ∧
    Completes (.wideValueRead who page (word + 1, 0) .word) s2 fun t =>
      t.bus = ⟨BitVec.ofNat 64 (BitVec.ofNat 32 ((s.entered key).liveWord (key + 4))).toNat, false⟩ ∧ t.latch who = none) ∧
  (∀ (who : Initiator) (page : Fin 4096) (word : Fin 1024) (s : State) (r : RegDef),
    let key := wordKey page.val word.val
    regAt key = some (r, 1) → r.words = 2 → fifoOf key = none → s.passes who key false = true → s.latch who = none →
    exec (.wideValueRead who page (word, 0) .word) s = .next ((s.entered key).respond ((s.entered key).liveWord key) false))

/-- R48 for a value of two words whose field is RW throughout and whose write is neither refused nor sets off anything. -/
def Obligations.WideWriteCommits : Prop :=
  ∀ (who : Initiator) (page : Fin 4096) (word : Fin 1024) (lo hi : DWord) (s : State) (r : RegDef) (f : FieldDef),
    let key := wordKey page.val word.val
    let pair := [lo.toNat % 2 ^ 32, hi.toNat % 2 ^ 32]
    regAt key = some (r, 0) → regAt (key + 4) = some (r, 1) → r.words = 2 → r.fields = [f] → f.acc = .rw → f.lo = 0 → f.hi = 63 →
    word.val + 1 < 1024 → ownedMask key = 0 → ownedMask (key + 4) = 0 → (∀ x : State, (x.afterWrite key).regs = x.regs) →
    (∀ x : State, x.winKey key = key ∧ x.winKey (key + 4) = key + 4) → s.passes who key true = true →
    s.passes who (key + 4) true = true → (∀ x : State, x.refuseWrite who key (pair.getD 0 0 + 2 ^ 32 * pair.getD 1 0) = none) →
    ∃ s1, exec (.wideValueCommit who page (word, 0) .word lo) s = .next s1 ∧ s1.regs = (s.entered key).regs ∧
      Completes (.wideValueCommit who page (word + 1, 0) .word hi) s1 fun t =>
        t.reg key = BitVec.ofNat 32 lo.toNat ∧ t.reg (key + 4) = BitVec.ofNat 32 hi.toNat ∧ t.wrBuf who key = [] ∧
        (∀ base, base ≠ key → t.wrBuf who base = s.wrBuf who base) ∧
        ∀ k, k ≠ key → k ≠ key + 4 → t.reg k = (s1.entered (key + 4)).reg k

/-- R31: the address accessed is the multiple of the access's size that holds `addr`. R53, R54: a denied host write of a register, and
a denied stop request on the POPPY page. -/
def Obligations.DeniedAccesses : Prop :=
  (
    ∀ (who : Initiator) (addr : DWord) (size : AccessSize) (write : Bool) (v : DWord) (s : State),
      let a := addr.toNat / accessBytes size * accessBytes size
      s.reaches who = true → s.rst.held = false →
      (s.region a = .unmapped ∨ ((s.region a = .rom ∨ s.region a = .flash) ∧ write = true)) →
      exec (.unmappedAccess who addr size write v) s = .next ((s.err 0x000 0x06 (some who) a).respond 0 (who != .host)) ∧
      (s.err 0x000 0x06 (some who) a).mem = s.mem) ∧
  (
    (∀ (page : Fin 4096) (word : Fin 1024) (v : DWord) (s : State),
      let key := wordKey page.val word.val
      s.reaches .host = true → s.rst.held = false → pageAssigned page.val = true → s.hostMay page.val (4 * word.val) true = false →
      Completes (.registerWrite .host page (word, 0) .word v) s fun t =>
        t = (s.err (if s.pagePowered page.val then page.val else 0x000) 0x04 (some .host) (0x40000000 + key)).respond 0 false ∧
        t.poppy = s.poppy ∧ t.mem = s.mem ∧ t.keys = s.keys) ∧
    (∀ (detail : Fin 256) (s : State), s.reaches .host = true → s.rst.held = false → s.hostMay 0x0C0 0x050 true = false →
      Completes (.stopMember .host detail) s (fun t => t.poppy = s.poppy) ∧ Completes (.stopSite .host detail) s fun t => t.poppy = s.poppy))

/-- R40, R44 and R562. The two write-only registers of the page header (R37). -/
def Obligations.HeaderCommands : Prop :=
  (
    (∀ (who : Initiator) (page : Fin 4096) (s : State), s.opens who (page.val * 0x1000 + 0x008) true = true →
      Completes (.lock who page) s fun t =>
        t.flag (F.PG_CTRL_LOCK page.val) = true ∧ (∀ k, k ≠ page.val * 0x1000 + 0x008 → t.reg k = s.reg k) ∧
        t = { s with regs := t.regs, bus := ⟨0, false⟩ }) ∧
    (∀ (who : Initiator) (page : Fin 4096) (s : State), s.opens who (page.val * 0x1000 + 0x008) true = true →
      s.flag (F.PG_CTRL_LOCK page.val) = true →
      exec (.softReset who page) s = .next ((s.accessErr 0x01 who (page.val * 0x1000 + 0x008)).respond 0 false)) ∧
    (∀ (who : Initiator) (s : State), s.opens who 0xC0008 true = true → s.flag (F.PG_CTRL_LOCK 0x0C0) = false →
      exec (.softReset who 0x0C0) s = .next (s.respond 0 false)) ∧
    (∀ (who : Initiator) (page : Fin 4096) (s : State), s.opens who (page.val * 0x1000 + 0x008) true = true →
      s.flag (F.PG_CTRL_LOCK page.val) = false → page.val ≠ 0x0C0 → s.mapBusy page.val = false → s.rst.soft.elem page.val = false →
      Completes (.softReset who page) s fun t =>
        t.rst.soft.elem page.val = true ∧ t.reg (page.val * 0x1000 + 0x02C) = 0 ∧ t.reg (page.val * 0x1000 + 0x014) = 0) ∧
    (∀ (page : Fin 4096) (s : State), s.rst.soft.elem page.val = true → s.rst.softLate.elem page.val = false →
      Completes (.softResetDone page) s fun t =>
        t.rst.soft.elem page.val = false ∧ t.regs = s.regs ∧ t = { s with rst := t.rst })) ∧
  (
    (∀ (who : Initiator) (page : Fin 4096) (value : Word) (s : State), s.opens who (page.val * 0x1000 + 0x01C) true = true →
      Completes (.pgIrqForce who page value) s fun t =>
        t.reg (page.val * 0x1000 + 0x010) = s.reg (page.val * 0x1000 + 0x010) ||| (value &&& BitVec.ofNat 32 (eventMask page.val)) ∧
        (∀ k, k ≠ page.val * 0x1000 + 0x010 → t.reg k = s.reg k) ∧ t = { s with regs := t.regs, bus := ⟨0, false⟩ }) ∧
    (∀ (who : Initiator) (page : Fin 4096) (s : State), s.opens who (page.val * 0x1000 + 0x028) true = true →
      Completes (.pgErrClr who page true) s fun t =>
        t.reg (page.val * 0x1000 + 0x020) = 0 ∧ t.reg (page.val * 0x1000 + 0x024) = 0 ∧
        (∀ k, k ≠ page.val * 0x1000 + 0x020 → k ≠ page.val * 0x1000 + 0x024 → t.reg k = s.reg k) ∧
        t = { s with regs := t.regs, bus := ⟨0, false⟩ }))

/-- R50, whole. `msixOpen` holds the vectors that are not masked, `msixPend` the pending-bit array of BAR4; a message carries the
address and the data of its vector's row of the table (R35). An edge while the dispatch engine catches up after a jump waits for its
end (R563). -/
def Obligations.MsixMessages : Prop :=
  (∀ (page : Fin 4096) (s : State), let v := s.getF (F.SCHED_IRQMAP_TARGET.win page.val)
    pageAssigned page.val = true → s.pagePowered page.val = true → s.pagePowered 0x020 = true →
    s.flag (F.SCHED_IRQMAP_EN.win page.val) = true → s.flag (F.SCHED_IRQMAP_MSIX.win page.val) = true → s.time.catchFrom = none →
    Completes (.summaryLine page) s fun t =>
      t.line page.val = s.lineLevel page.val ∧
      (if s.lineLevel page.val && !s.line page.val then
        (if Assoc.get (fun _ => false) s.msixOpen v then
          (∃ addr data, t.sent = .msix v addr data :: s.sent) ∧ t.msixPend = s.msixPend
        else t.sent = s.sent ∧ Assoc.get (fun _ => false) t.msixPend v = true)
      else t.sent = s.sent ∧ t.msixPend = s.msixPend) ∧
      t = { s with lines := t.lines, sent := t.sent, msixPend := t.msixPend }) ∧
  (∀ (page : Fin 4096) (s : State), pageAssigned page.val = true → s.pagePowered page.val = true → s.pagePowered 0x020 = true →
    s.time.catchFrom.isSome = true →
    Completes (.summaryLine page) s fun t =>
      t.line page.val = s.lineLevel page.val ∧
      t.sched.held = s.sched.held ++ (if s.lineLevel page.val && !s.line page.val then [.edge page.val] else []) ∧
      t = { s with lines := t.lines, sched := { s.sched with held := t.sched.held } }) ∧
  (∀ (vector : Fin 64) (word : Fin 2048) (value : Word) (s : State), word.val = 4 * vector.val + 3 → s.reaches .host = true →
    s.rst.held = false →
    Completes (.msixUnmask word (some value)) s fun t =>
      Assoc.get (fun _ => false) t.msixOpen vector.val = !value.getLsbD 0 ∧
      (if !value.getLsbD 0 && Assoc.get (fun _ => false) s.msixPend vector.val then
        (∃ addr data, t.sent = .msix vector.val addr data :: s.sent) ∧ Assoc.get (fun _ => false) t.msixPend vector.val = false
      else t.sent = s.sent ∧ t.msixPend = s.msixPend) ∧
      t = { s with msixOpen := t.msixOpen, sent := t.sent, msixPend := t.msixPend, bus := ⟨0, false⟩ }) ∧
  (∀ (word : Fin 2048) (s : State), s.reaches .host = true → s.rst.held = false →
    exec (.msixUnmask word none) s = .next (s.respond (s.bar4Word word.val) false)) ∧
  (∀ (word : Fin 2048) (value : Word) (s : State), s.reaches .host = true → s.rst.held = false → word.val < 256 → word.val % 4 ≠ 3 →
    Completes (.msixUnmask word (some value)) s fun t =>
      Assoc.get (fun _ => 0) t.msixMsg word.val = (if word.val % 4 = 0 then value &&& 0xFFFFFFFC else value) ∧
      (∀ w, w ≠ word.val → Assoc.get (fun _ => 0) t.msixMsg w = Assoc.get (fun _ => 0) s.msixMsg w) ∧
      t = { s with msixMsg := t.msixMsg, bus := ⟨0, false⟩ })

/-- Rows DOMAIN_LOSS, RESTART, RESUME, SERVO_EN and SEL. Rows STEP, HOLD_WARN, HOLD_LIMIT, SET, SLEW_COMPLETE and UTC_APPLY. -/
def Obligations.TimeDomainsAndOutput : Prop :=
  (
    (∀ (dom : Fin 2) (s : State), (s.dom (dom.val + 1)).state = DomainState.locked →
      (s.dom (dom.val + 1)).heard.getD (s.dom (dom.val + 1)).upd + s.getF (F.TIME_D_LOSS_LOSS_MS dom.val) * 1000000 < s.now →
      Completes (.domainLoss dom) s fun t =>
        t.dom (dom.val + 1) = { s.dom (dom.val + 1) with state := DomainState.hold } ∧ t.event (0x040 + dom.val) 1 = true ∧
        t.time.follow = t.selected ∧ t = { s with regs := t.regs, time := t.time }) ∧
    (∀ (who : Initiator) (dom : Fin 2) (s : State), s.opens who (0x4005C + 0x1000 * dom.val) true = true →
      Completes (.restart who dom) s fun t =>
        t.dom (dom.val + 1) = {} ∧ t.time.follow = t.selected ∧ t = { s with regs := t.regs, time := t.time, bus := ⟨0, false⟩ }) ∧
    (∀ (who : Initiator) (s : State), s.opens who 0x4105C true = true →
      (s.time.domB.state = DomainState.frozen → Completes (.resume who) s fun t =>
        t.time.domB = { s.time.domB with state := DomainState.acquire, good := 0 } ∧ t.flag F.TIME_B_ASYM_STAT_FLAGGED = false ∧
        t = { s with regs := t.regs, time := t.time, bus := ⟨0, false⟩ }) ∧
      (s.time.domB.state ≠ DomainState.frozen → exec (.resume who) s = .next ((s.accessErr 0x11 who 0x4105C).respond 0 false))) ∧
    (∀ (who : Initiator) (dom : Fin 2) (enable : Bool) (s : State), s.opens who (0x40040 + 0x1000 * dom.val) true = true →
      s.flag (F.PG_CTRL_LOCK (0x040 + dom.val)) = false → s.getF (F.TIME_D_CTRL_LOCK_CNT dom.val) ≠ 0 →
      Completes (.servoEn who dom enable) s fun t =>
        t.flag (F.TIME_D_CTRL_SERVO_EN dom.val) = enable ∧ (enable = true → t.time = s.time) ∧
        (enable = false → t.dom (dom.val + 1) = {} ∧ t.time.follow = t.selected) ∧
        t = { s with regs := t.regs, time := t.time, bus := ⟨0, false⟩ }) ∧
    (∀ (who : Initiator) (sel : Fin 4) (s : State), s.opens who 0x42040 true = true → sel.val ≠ 3 →
      Completes (.sel who sel) s fun t =>
        t.getF F.TIME_OUT_CTRL_SEL = sel.val ∧ t.time.follow = t.selected ∧
        t = { s with regs := t.regs, time := t.time, bus := ⟨0, false⟩ })) ∧
  (
    (∀ s : State, s.stepDue = true →
      Completes .step s fun t =>
        t.time.out = (s.time.out / secUnit + 1) * secUnit + s.time.d.toNat ∧ t.time.d = 0 ∧ t.time.stepPending = false ∧
        t.event 0x042 2 = true ∧ t = { s with regs := t.regs, time := t.time }) ∧
    (∀ s : State, s.time.state = TimeState.hold →
      s.time.holdSince + s.getF F.TIME_OUT_HOLD_WARN_S_SECONDS * 1000000000 ≤ s.now →
      Completes .holdWarn s fun t => t.time.state = TimeState.holdLong ∧ t.event 0x042 5 = true ∧ t.time.out = s.time.out ∧
        t = { s with regs := t.regs, time := t.time }) ∧
    (∀ s : State, s.time.state = TimeState.hold ∨ s.time.state = TimeState.holdLong →
      s.time.holdSince + s.getF F.TIME_OUT_HOLD_LIMIT_S_SECONDS * 1000000000 ≤ s.now →
      Completes .holdLimit s fun t => t.time.state = TimeState.holdExpired ∧ t.time.valid = false ∧ t.event 0x042 6 = true ∧
        t.time.out = s.time.out ∧ t = { s with regs := t.regs, time := t.time }) ∧
    (∀ (who : Initiator) (s : State), s.opens who 0x4208C true = true →
      let v := s.getF F.TIME_OUT_SET_SEC_SECONDS * secUnit + s.getF F.TIME_OUT_SET_NS_NS * nsUnit
      (s.time.state.unfollowed = true → s.time.out ≤ v →
        Completes (.set who) s fun t => t.time.out = v ∧ t.time.state = TimeState.manual ∧ t.time.valid = false ∧
          t = { s with regs := t.regs, time := t.time, bus := ⟨0, false⟩ }) ∧
      (s.time.state.unfollowed = false ∨ v < s.time.out → exec (.set who) s = .next ((s.accessErr 0x11 who 0x4208C).respond 0 false))) ∧
    (∀ s : State, s.time.correcting = true → s.time.stepPending = false → s.time.state.holdover = false →
      (s.time.d.natAbs : Int) ≤ s.validLimit →
      Completes .slewComplete s fun t => t.time.correcting = false ∧ t.time.valid = s.time.state.validPossible ∧
        t.time.out = s.time.out ∧ t = { s with regs := t.regs, time := t.time }) ∧
    (∀ s : State, s.getF F.TIME_OUT_UTC_AT_SECOND ≠ 0 → s.taiSec = s.getF F.TIME_OUT_UTC_AT_SECOND →
      Completes .utcApply s fun t => t.getF F.TIME_OUT_UTC_OFFSET = s.getF F.TIME_OUT_UTC_NEXT_OFFSET ∧
        t.getF F.TIME_OUT_UTC_AT_SECOND = 0 ∧ t.event 0x042 8 = true ∧ t = { s with regs := t.regs }))

/-- Rows SYNC, FOLLOW_UP, DELAY_REQ, DELAY_RESP, ANNOUNCE, PTP_MASTER_SEND, DELAY_REQ_SEND and SLAVE_PORT_SWITCHED. The messages'
layout is PRESUMED from IEEE 1588 (log 83). -/
def Obligations.PtpMessagesAreTaken : Prop :=
  (∀ (x : PtpRx) (rest : List PtpRx) (s : State), s.sw.ptpIn = x :: rest → ptpType x.msg = 0 → ptpTwoStep x.msg = true →
    exec .sync s = .next { s with
      sw := { s.sw with ptpIn := rest }
      time := { s.time with ptp := { s.time.ptp with
        lastSync := s.now
        pendingSync := some ⟨ptpSource x.msg, ptpSeq x.msg, x.stamp * nsUnit, x.at_, ptpCorr x.msg⟩ } } }) ∧
  (∀ (x : PtpRx) (rest : List PtpRx) (s : State), s.sw.ptpIn = x :: rest → ptpType x.msg = 0 → ptpTwoStep x.msg = false →
    Completes .sync s fun t => t.time.ptp.lastSync = s.now ∧ t.time.ptp.pendingSync = none ∧
      t.time.ptp.syncDelta = some (((x.at_ * nsUnit : Nat) : Int) - (ptpStamp x.msg + ptpCorr x.msg)) ∧
      t = { s with regs := t.regs, time := t.time, sw := { s.sw with ptpIn := rest }, freeCtr := t.freeCtr }) ∧
  (∀ (x : PtpRx) (rest : List PtpRx) (s : State) (p : PendingSync), s.sw.ptpIn = x :: rest → ptpType x.msg = 8 →
    s.time.ptp.pendingSync = some p →
    (p.source = ptpSource x.msg ∧ p.seq = ptpSeq x.msg → Completes .followUp s fun t => t.time.ptp.pendingSync = none ∧
      t.time.ptp.syncDelta = some (((p.rxAt * nsUnit : Nat) : Int) - (ptpStamp x.msg + p.corr + ptpCorr x.msg)) ∧
      t = { s with regs := t.regs, time := t.time, sw := { s.sw with ptpIn := rest }, freeCtr := t.freeCtr }) ∧
    (p.source ≠ ptpSource x.msg ∨ p.seq ≠ ptpSeq x.msg → exec .followUp s = .next { s with sw := { s.sw with ptpIn := rest } })) ∧
  (∀ (x : PtpRx) (rest : List PtpRx) (s : State), s.sw.ptpIn = x :: rest → ptpType x.msg = 1 →
    exec .delayReq s = .next (({ s with sw := { s.sw with ptpIn := rest } }.egress x.port 6
      { bytes := s.ptpFrame x.port (s.ptpMessage 9 ptpFlags (ptpSeq x.msg) x.port 0xFC (ptpCorr x.msg)
          (ptpTimeBytes (x.stamp * nsUnit) ++ (x.msg.drop 20).take 10)), ptp := none }).2)) ∧
  (∀ (x : PtpRx) (rest : List PtpRx) (s : State) (t3 : Nat) (d : Int), s.sw.ptpIn = x :: rest → ptpType x.msg = 9 →
    s.time.ptp.delayReq = some (ptpSeq x.msg, t3) → s.time.ptp.syncDelta = some d →
    beValue ((x.msg.drop 44).take 10) = Config.clockIdentity % 2 ^ 64 * 65536 + (x.port + 1) →
    Completes .delayResp s fun t => let mpd := (d + ((ptpStamp x.msg : Int) - ptpCorr x.msg - t3)) / 2
      t.getF F.TIME_B_MPD_MPD = ofSigned 32 (mpd / 2 ^ 28) ∧
      t = { s with
        regs := t.regs
        time := { s.time with ptp := { s.time.ptp with mpd := some mpd, delayReq := none } }
        sw := { s.sw with ptpIn := rest } }) ∧
  (∀ (x : PtpRx) (rest : List PtpRx) (s : State), s.sw.ptpIn = x :: rest → ptpType x.msg = 11 →
    Completes .announce s fun t => let cls := (x.msg.getD 48 0).toNat
      let steps := beValue ((x.msg.drop 61).take 2)
      t.getF F.TIME_B_MASTER_CLASS = cls ∧ t.getF F.TIME_B_MASTER_STEPS = steps % 256 ∧ (248 ≤ cls → t.event 0x041 4 = true) ∧
      t = { s with
        regs := t.regs
        time := { s.time with ptp := { s.time.ptp with lastAnnounce := s.now, class248 := decide (248 ≤ cls), steps := steps } }
        sw := { s.sw with ptpIn := rest } }) ∧
  (∀ s : State, s.sw.ptpIn = [] → exec .sync s = .next s ∧ exec .followUp s = .next s ∧ exec .delayReq s = .next s ∧
    exec .delayResp s = .next s ∧ exec .announce s = .next s) ∧
  (∀ s : State, s.pwr.state ≠ PwrState.snowdrop →
    Completes .ptpMasterSend s fun t =>
      (∀ p ∈ s.masterPorts,
        (Assoc.get (fun _ => 0) s.time.ptp.sentSync p + 62500000 ≤ s.now → Assoc.get (fun _ => 0) t.time.ptp.sentSync p = s.now) ∧
        (Assoc.get (fun _ => 0) s.time.ptp.sentAnnounce p + 1000000000 ≤ s.now →
          Assoc.get (fun _ => 0) t.time.ptp.sentAnnounce p = s.now)) ∧
      t = { s with regs := t.regs, time := { s.time with ptp := t.time.ptp }, sw := { s.sw with queues := t.sw.queues } }) ∧
  (∀ s : State, s.flag F.TIME_B_PORT_SLAVE_EN = true → s.pwr.state ≠ PwrState.snowdrop →
    (∀ a, s.time.ptp.delaySentAt = some a → a + 62500000 ≤ s.now) →
    Completes .delayReqSend s fun t => t.time.ptp.delaySentAt = some s.now ∧
      t.time.ptp.delaySeq = (s.time.ptp.delaySeq + 1) % 65536 ∧
      t = { s with regs := t.regs, time := { s.time with ptp := t.time.ptp }, sw := { s.sw with queues := t.sw.queues } }) ∧
  (∀ s : State, s.flag F.TIME_B_PORT_SLAVE_EN = true → s.flag F.TIME_B_PORT_BACKUP_EN = true →
    s.getF F.TIME_B_PORT_ACTIVE ≠ s.getF F.TIME_B_PORT_BACKUP → s.time.ptp.lastAnnounce + 3000000000 ≤ s.now →
    Completes .slavePortSwitched s fun t => t.getF F.TIME_B_PORT_ACTIVE = s.getF F.TIME_B_PORT_BACKUP ∧ t.event 0x041 3 = true ∧
      t.time.ptp.lastAnnounce = s.now ∧
      (s.flag (F.TIME_D_CTRL_SERVO_EN 1) = true → s.time.domB.state ≠ DomainState.frozen → t.time.domB.state = DomainState.acquire) ∧
      (s.flag (F.TIME_D_CTRL_SERVO_EN 1) = false ∨ s.time.domB.state = DomainState.frozen → t.time.domB = s.time.domB) ∧
      t = { s with regs := t.regs, time := t.time })

/-- Rows PULSE_EDGE, PULSE_CTRL and CAPTURE_EDGE. -/
def Obligations.PulsesAndCaptures : Prop :=
  (∀ (out : Fin 16) (a : Nat) (s : State), (s.pulse out.val).active = false → (s.pulse out.val).nextAt = some a →
    (s.pulse out.val).en = true → a ≤ s.taiNs →
    let p := s.pulse out.val
    let next := { p with nextAt := if p.period = 0 then none else some (a + p.period) }
    let ahead (q : Pulse) : Pulse :=
      match s.time.jump with
      | none => q
      | some (lo, hi) => (q.jumpTo lo hi).2
    (p.gate = false ∨ s.time.valid = true →
      Completes (.pulseEdge out) s fun t => t.pulse out.val = ahead { next with active := true, fallAt := a + p.width } ∧
        (∀ i, i ≠ out.val → t.pulse i = s.pulse i) ∧ t = { s with regs := t.regs, time := t.time }) ∧
    (p.gate = true → s.time.valid = false →
      Completes (.pulseEdge out) s fun t => t.pulse out.val = ahead next ∧ t.event 0x042 7 = true ∧
        (∀ i, i ≠ out.val → t.pulse i = s.pulse i) ∧ t = { s with regs := t.regs, time := t.time })) ∧
  (∀ (out : Fin 16) (s : State), (s.pulse out.val).active = true → (s.pulse out.val).fallAt ≤ s.taiNs → (s.pulse out.val).commit = none →
    Completes (.pulseEdge out) s fun t => t.pulse out.val = { s.pulse out.val with active := false } ∧
      (∀ i, i ≠ out.val → t.pulse i = s.pulse i) ∧ t = { s with time := t.time }) ∧
  (∀ (who : Initiator) (en gate invert : Bool) (s : State), s.opens who 0x420C4 true = true →
    let i := s.getF F.TIME_OUT_PULSE_INDEX_INDEX
    let period := s.getF (F.TIME_OUT_PULSE_PERIOD_NS_PERIOD.win i)
    let width := s.getF (F.TIME_OUT_PULSE_WIDTH_NS_WIDTH.win i)
    (8 ≤ width → (period = 0 ∨ 20 ≤ period ∧ width + 8 ≤ period) → (s.pulse i).active = false →
      Completes (.pulseCtrl who en gate invert) s fun t =>
        (t.pulse i).en = en ∧ (t.pulse i).gate = gate ∧ (t.pulse i).invert = invert ∧ (t.pulse i).period = period ∧
        (t.pulse i).width = width ∧ (t.pulse i).active = false ∧ (∀ j, j ≠ i → t.pulse j = s.pulse j) ∧
        t = { s with regs := t.regs, time := t.time, bus := ⟨0, false⟩ }) ∧
    (8 ≤ width → (period = 0 ∨ 20 ≤ period ∧ width + 8 ≤ period) → (s.pulse i).active = true →
      Completes (.pulseCtrl who en gate invert) s fun t =>
        (∃ start, t.pulse i = { s.pulse i with commit := some (en, gate, invert, start, period, width) }) ∧
        (∀ j, j ≠ i → t.pulse j = s.pulse j) ∧ t = { s with regs := t.regs, time := t.time, bus := ⟨0, false⟩ }) ∧
    (width < 8 ∨ (period ≠ 0 ∧ (period < 20 ∨ period < width + 8)) →
      exec (.pulseCtrl who en gate invert) s = .next ((s.accessErr 0x10 who 0x420C4).respond 0 false))) ∧
  (∀ (input : Fin 8) (rising : Bool) (s : State),
    let mode := bitsOf (s.getF F.TIME_EVT_CTRL_EDGE) (2 * input.val + 1) (2 * input.val)
    let key := 0x43080 + 0x10 * input.val
    let last := Assoc.get (fun _ => 0) s.time.capLast input.val
    ((if rising then mode % 2 = 0 else mode / 2 = 0) → exec (.captureEdge input rising) s = .next s) ∧
    ((if rising then mode % 2 ≠ 0 else mode / 2 ≠ 0) → last ≠ 0 → s.now < last + 16 → exec (.captureEdge input rising) s = .next s) ∧
    ((if rising then mode % 2 ≠ 0 else mode / 2 ≠ 0) → (last = 0 ∨ last + 16 ≤ s.now) →
      ((s.fifo key).length < 16 → Completes (.captureEdge input rising) s fun t =>
        t.fifo key = s.fifo key ++ [[BitVec.ofNat 32 (2 ^ 31 + bit rising * 2 ^ 30 + s.taiNsec), BitVec.ofNat 32 s.taiSec,
          BitVec.ofNat 32 (s.quality * 2 ^ 24 + s.taiSec / 2 ^ 32 % 2 ^ 16)]] ∧
        t.event 0x043 input.val = true ∧ Assoc.get (fun _ => 0) t.time.capLast input.val = s.now ∧
        t = { s with regs := t.regs, fifos := t.fifos, time := t.time }) ∧
      (16 ≤ (s.fifo key).length → Completes (.captureEdge input rising) s fun t =>
        t.fifos = s.fifos ∧ t.event 0x043 8 = true ∧ bitAt (t.getF F.TIME_EVT_STAT_OVF) input.val = true ∧
        Assoc.get (fun _ => 0) t.time.capLast input.val = s.now ∧ t = { s with regs := t.regs, time := t.time })))

/-- Rows PORT_FAULT, PORT_FAULT_CLEAR, AGC_STEP and SAMPLE_CLOCK_CHECK. Rows LOOP_UPDATE, MEASUREMENT_LATCH, BASE_SET_COMPLETE and
BASE_ORDER. -/
def Obligations.GnssFrontEndAndLoops : Prop :=
  (
    (∀ (ant : Fin 4) (cause : Fin 6) (s : State), s.pagePowered 0x054 = true → cause.val ≠ 0 → cause.val ≠ 5 →
      (s.portFault ant.val 0 = false → s.bandOn ant.val 0 = true →
        Completes (.portFault ant 0 cause) s fun t => t.flag (F.GNSS_FE_STAT_L1_FAULT ant.val) = true ∧
        t.getF (F.GNSS_FE_STAT_L1_CAUSE ant.val) = cause.val ∧ t.event (0x050 + ant.val) 0 = true ∧
        t = { s with regs := t.regs, gnss := t.gnss }) ∧
      (s.portFault ant.val 1 = false → s.bandOn ant.val 1 = true →
        Completes (.portFault ant 1 cause) s fun t => t.flag (F.GNSS_FE_STAT_L5_FAULT ant.val) = true ∧
        t.getF (F.GNSS_FE_STAT_L5_CAUSE ant.val) = cause.val ∧ t.event (0x050 + ant.val) 1 = true ∧
        t = { s with regs := t.regs, gnss := t.gnss }) ∧
      (∀ band : Fin 2, s.portFault ant.val band.val = true ∨ s.bandOn ant.val band.val = false →
        exec (.portFault ant band cause) s = .next s)) ∧
    (∀ (ant : Fin 4) (band : Fin 2) (s : State), s.pagePowered 0x054 = true →
      (s.flag (F.GNSS_FE_CTRL_ANT_SUPPLY_CHK ant.val) = false → exec (.portFault ant band 5) s = .next s) ∧
      (s.flag (F.GNSS_FE_CTRL_ANT_SUPPLY_CHK ant.val) = true → s.bandOn ant.val 0 = true → s.bandOn ant.val 1 = true →
        Completes (.portFault ant band 5) s fun t => t.portFault ant.val 0 = true ∧ t.portFault ant.val 1 = true ∧
          t = { s with regs := t.regs, gnss := t.gnss })) ∧
    (∀ (ant : Fin 4) (s : State), s.pagePowered 0x054 = true →
      (s.portFault ant.val 0 = true → Completes (.portFaultClear ant 0) s fun t => t.flag (F.GNSS_FE_STAT_L1_FAULT ant.val) = false ∧
        t.getF (F.GNSS_FE_STAT_L1_CAUSE ant.val) = 0 ∧ t.event (0x050 + ant.val) 2 = true ∧ t = { s with regs := t.regs }) ∧
      (s.portFault ant.val 1 = true → Completes (.portFaultClear ant 1) s fun t => t.flag (F.GNSS_FE_STAT_L5_FAULT ant.val) = false ∧
        t.getF (F.GNSS_FE_STAT_L5_CAUSE ant.val) = 0 ∧ t.event (0x050 + ant.val) 2 = true ∧ t = { s with regs := t.regs })) ∧
    (∀ (l : List (Nat × Nat)) (s : State), s.pagePowered 0x054 = true → s.bandOn 0 0 = true → l ≠ [] →
      let x := s.sampleShares 0 0 l
      let duty := s.getF (F.GNSS_FE_AGC_STAT_L1_DUTY 0)
      Completes (.agcStep [l]) s fun t =>
        t.getF (F.GNSS_FE_AGC_STAT_L1_DUTY 0) =
          (if x.1 * 100 < s.getF (F.GNSS_FE_AGC_L1_TARGET 0) * x.2.2 then min 1023 (duty + 1)
           else if s.getF (F.GNSS_FE_AGC_L1_TARGET 0) * x.2.2 < x.1 * 100 then duty - 1
           else duty) ∧
        t.getF (F.GNSS_FE_LEVEL_L1_OCC 0) = x.1 * 100 / x.2.2 ∧ t.getF (F.GNSS_FE_LEVEL_L1_FS 0) = x.2.1 * 100 / x.2.2 ∧
        t = { s with regs := t.regs }) ∧
    (∀ (l : List (Nat × Nat)) (s : State), s.pagePowered 0x054 = true → s.bandOn 0 0 = false ∨ l = [] →
      exec (.agcStep [l]) s = .next s) ∧
    (∀ (v : Int) (s : State), s.pagePowered 0x054 = true → s.bandOn 0 0 = true → s.bandOn 0 1 = true → v.natAbs ≤ 2000 →
      Completes (.sampleClockCheck [some v, none]) s fun t =>
        t.flag (F.GNSS_FE_STAT_L1_CLK_OK 0) = true ∧ t.getF (F.GNSS_FE_CLK_PPB_L1_PPB 0) = ofSigned 16 v ∧
        t.flag (F.GNSS_FE_STAT_L5_CLK_OK 0) = false ∧ t = { s with regs := t.regs })) ∧
  (
    (∀ (obs : List LoopObs) (nav : List NavObs) (n : Nat) (s : State), s.pagePowered 0x054 = true → s.edgeDue 1 1000000 = some n →
      Assoc.wf (fun _ => ({} : Channel)) s.gnss.chans = true →
      Completes (.loopUpdate obs nav) s fun t =>
        (∀ (ch : Nat) (o : LoopObs), (s.chan ch).now.state = ChState.pullin → obs.find? (fun o => o.ch == ch) = some o →
          s.bandOn (s.chan ch).ant (s.chan ch).band = true → o.flags.testBit 7 = true → o.flags.testBit 6 = true →
          (s.chan ch).pullMs < 500 → (t.chan ch).now.state = ChState.track ∧ (t.chan ch).now.lock = 0) ∧
        (∀ ch, (s.chan ch).now.state = ChState.idle ∨ (s.chan ch).now.state = ChState.acq ∨ (s.chan ch).now.state = ChState.held →
          t.chan ch = s.chan ch) ∧
        (∀ ch, (s.chan ch).now.state = ChState.lost → t.chan ch = { s.chan ch with
          reacq := (s.chan ch).reacq - bit (!s.portFault (s.chan ch).ant (s.chan ch).band) }) ∧
        t.gnss.loops = [s.reg 0x5404C, s.reg 0x54050] ∧
        (nav = [] → t = { s with
          gnss := { s.gnss with chans := t.gnss.chans, loops := t.gnss.loops }
          time := { s.time with edges := Assoc.put (fun _ => 0) s.time.edges 1 n } }) ∧
        t = { s with
          regs := t.regs, fifos := t.fifos, mem := t.mem, gnss := t.gnss
          time := { s.time with edges := Assoc.put (fun _ => 0) s.time.edges 1 n } }) ∧
    (∀ (obs : List LoopObs) (nav : List NavObs) (s : State), s.edgeDue 1 1000000 = none → exec (.loopUpdate obs nav) s = .next s) ∧
    (∀ (meas : List ChanMeas) (soln : Option TimeSolution) (n : Nat) (s : State), s.pagePowered 0x054 = true →
      (s.getF F.GNSS_RX_STATE_RX_STATE = 1 ∨ s.getF F.GNSS_RX_STATE_RX_STATE = 2) → s.edgeDue 2 s.latchNs = some n →
      Completes (.measurementLatch meas soln) s fun t =>
        (∃ m, t.gnss.pending = some m ∧ m.instant = n ∧ m.seq = (s.getF F.GNSS_MEAS_SEQ_SET_SEQ + 1) % 2 ^ 32 ∧ m.latchAt = s.now ∧
          m.latchOut = s.time.out) ∧
        t.getF F.GNSS_MEAS_SEQ_SET_SEQ = (s.getF F.GNSS_MEAS_SEQ_SET_SEQ + 1) % 2 ^ 32 ∧
        t = { s with
          regs := t.regs, fifos := t.fifos, gnss := t.gnss
          time := { s.time with edges := Assoc.put (fun _ => 0) s.time.edges 2 n } }) ∧
    (∀ (m : MeasSet) (s : State), s.pagePowered 0x054 = true → s.gnss.pending = some m →
      (bitAt m.flags 0 = false → s.flag F.GNSS_MEAS_CTRL_RING_EN = false →
        Completes .baseSetComplete s fun t => t.gnss.pending = none ∧
          t.getF F.GNSS_MEAS_BASE_DONE_US = min 65535 ((s.now - m.latchAt) / 1000) ∧
          t = { s with regs := t.regs, time := t.time, gnss := t.gnss, freeCtr := t.freeCtr }) ∧
      Completes .baseSetComplete s fun t => t.gnss.pending = none ∧ t.time.out = s.time.out) ∧
    (∀ s : State, s.gnss.pending = none → exec .baseSetComplete s = .next s) ∧
    (∀ (who : Initiator) (v : Word) (s : State), s.opens who 0x55068 true = true → s.flag (F.PG_CTRL_LOCK 0x055) = false →
      ([bitsOf v.toNat 1 0, bitsOf v.toNat 3 2, bitsOf v.toNat 5 4, bitsOf v.toNat 7 6].eraseDups.length = 4) →
      Completes (.baseOrder who v) s fun t =>
        (∀ k, k ≠ 0x55068 → t.reg k = s.reg k) ∧ (t.reg 0x55068).toNat % 256 = v.toNat % 256 ∧
        t = { s with regs := t.regs, gnss := { s.gnss with reorder := true }, bus := ⟨0, false⟩ }))

/-- Rows ACQ_DETECTION, ACQ_FAIL, PULLIN_TIMEOUT, LOSS_OF_LOCK, REACQUIRED and REACQ_TIMEOUT. -/
def Obligations.GnssChannelEvents : Prop :=
  (∀ (cn0 : Nat) (r : AcqRequest) (q : List AcqRequest) (s : State), s.pagePowered 0x054 = true → s.gnss.queue = r :: q →
    s.bandOn (s.chan r.ch).ant (s.chan r.ch).band = true → s.searched r 1 = true → (s.chan r.ch).now.state = ChState.acq →
      s.getF F.GNSS_CH_THR_ACQ_CN0 ≤ cn0 → cn0 < 1024 →
    Completes (.acqDetection cn0) s fun t =>
      (t.chan r.ch).now.state = ChState.pullin ∧ (t.chan r.ch).now.cn0 = cn0 ∧ (t.chan r.ch).pullMs = 0 ∧
      (t.chan r.ch).slip = ((s.chan r.ch).slip || (s.chan r.ch).locked) ∧
      t.gnss.queue = q.filter (fun x => x.ch != r.ch) ∧ t.event 0x054 1 = true ∧ (∀ c, c ≠ r.ch → t.chan c = s.chan c) ∧
      t = { s with regs := t.regs, gnss := t.gnss }) ∧
  (∀ (r : AcqRequest) (q : List AcqRequest) (s : State), s.pagePowered 0x054 = true → s.gnss.queue = r :: q →
    s.searched r (s.acqPasses r) = true →
    Completes .acqFail s fun t =>
      (t.chan r.ch).now.state = (if s.portFault (s.chan r.ch).ant (s.chan r.ch).band then ChState.lost else ChState.acq) ∧
        (∀ c, c ≠ r.ch → t.chan c = s.chan c) ∧
      t = { s with regs := t.regs, gnss := t.gnss }) ∧
  (∀ (ch : Fin 1024) (s : State), s.pagePowered 0x054 = true → (s.chan ch.val).now.state = ChState.pullin → 500 ≤ (s.chan ch.val).pullMs →
    s.portFault (s.chan ch.val).ant (s.chan ch.val).band = false →
    Completes (.pullinTimeout ch) s fun t => (t.chan ch.val).now.state = ChState.acq ∧ (∀ c, c ≠ ch.val → t.chan c = s.chan c) ∧
      t = { s with gnss := t.gnss }) ∧
  (∀ (ch : Fin 1024) (s : State), s.pagePowered 0x054 = true → (s.chan ch.val).now.state = ChState.track →
    (50 ≤ (s.chan ch.val).lowMs ∨ 20 ≤ (s.chan ch.val).failMs) →
    Completes (.lossOfLock ch) s fun t => (t.chan ch.val).now.state = ChState.lost ∧ (t.chan ch.val).now.lock = 0 ∧
      (t.chan ch.val).reacq = s.getF F.GNSS_CH_REACQ_WINDOW_MS ∧ t.event 0x054 0 = true ∧ (∀ c, c ≠ ch.val → t.chan c = s.chan c) ∧
      t = { s with regs := t.regs, gnss := t.gnss }) ∧
  (∀ (ch : Fin 1024) (s : State), s.pagePowered 0x054 = true → (s.chan ch.val).now.state = ChState.lost →
    s.portFault (s.chan ch.val).ant (s.chan ch.val).band = false →
    (0 < (s.chan ch.val).reacq → s.bandOn (s.chan ch.val).ant (s.chan ch.val).band = true →
      Completes (.reacquired ch) s fun t => (t.chan ch.val).now.state = ChState.pullin ∧
      (t.chan ch.val).slip = true ∧ (∀ c, c ≠ ch.val → t.chan c = s.chan c) ∧ t = { s with gnss := t.gnss }) ∧
    ((s.chan ch.val).reacq = 0 → Completes (.reacqTimeout ch) s fun t => (t.chan ch.val).now.state = ChState.acq ∧
      (∀ c, c ≠ ch.val → t.chan c = s.chan c) ∧ t = { s with gnss := t.gnss }))

/-- Rows CH_CFG, GNSS_START, GNSS_STOP, GNSS_SLEEP, GNSS_WAKE, RX_ENABLE and SLEEP_COMPLETE. -/
def Obligations.GnssCommands : Prop :=
  (∀ (who : Initiator) (v : Word) (s : State), s.opens who 0x54044 true = true →
    (validSignal (bitsOf v.toNat 18 16) (bitsOf v.toNat 15 8) = false →
      exec (.chCfg who v) s = .next ((s.accessErr 0x10 who 0x54044).respond 0 false)) ∧
    (validSignal (bitsOf v.toNat 18 16) (bitsOf v.toNat 15 8) = true → Completes (.chCfg who v) s fun t =>
      (t.chan (s.getF F.GNSS_CH_INDEX_INDEX)).cfg = v &&& 0x803FFF02 ∧
      (∀ c, c ≠ s.getF F.GNSS_CH_INDEX_INDEX → t.chan c = s.chan c) ∧
      (bitAt v.toNat 31 = false → (s.chan (s.getF F.GNSS_CH_INDEX_INDEX)).now.state ≠ ChState.held →
        (t.chan (s.getF F.GNSS_CH_INDEX_INDEX)).now.state = ChState.idle) ∧
      t = { s with regs := t.regs, gnss := t.gnss, bus := ⟨0, false⟩ })) ∧
  (∀ (who : Initiator) (ch : Fin 1024) (s : State), s.opens who 0x54060 true = true →
    (s.rxAsleep = true → exec (.gnssStart who false ch) s = .next ((s.accessErr 0x11 who 0x54060).respond 0 false) ∧
      exec (.gnssStop who false ch) s = .next ((s.accessErr 0x11 who 0x54060).respond 0 false)) ∧
    (s.rxAsleep = false → (s.chan ch.val).en = true → (s.chan ch.val).now.state = ChState.idle →
      s.portFault (s.chan ch.val).ant (s.chan ch.val).band = false →
      Completes (.gnssStart who false ch) s fun t => (t.chan ch.val).now.state = ChState.acq ∧
        (∃ x ∈ t.gnss.queue, x.ch = ch.val) ∧ (∀ c, c ≠ ch.val → t.chan c = s.chan c) ∧
        t = { s with gnss := t.gnss, bus := ⟨0, false⟩ }) ∧
    (s.rxAsleep = false → ∀ all : Bool,
      Completes (.gnssStart who all ch) s (fun t => t = { s with regs := t.regs, gnss := t.gnss, bus := ⟨0, false⟩ }) ∧
      Completes (.gnssStop who all ch) s fun t => t = { s with gnss := t.gnss, bus := ⟨0, false⟩ }) ∧
    (s.rxAsleep = false → (s.chan ch.val).now.state ≠ ChState.idle → (s.chan ch.val).now.state ≠ ChState.held →
      Completes (.gnssStop who false ch) s fun t => (t.chan ch.val).now.state = ChState.idle ∧
        (∀ c, c ≠ ch.val → t.chan c = s.chan c) ∧ t = { s with gnss := t.gnss, bus := ⟨0, false⟩ })) ∧
  (∀ (who : Initiator) (s : State), s.opens who 0x54060 true = true →
    (s.getF F.GNSS_RX_STATE_RX_STATE = 1 ∨ s.getF F.GNSS_RX_STATE_RX_STATE = 2 →
      Completes (.gnssSleep who) s fun t => t.getF F.GNSS_RX_STATE_RX_STATE = 3 ∧
        t = { s with regs := t.regs, gnss := t.gnss, bus := ⟨0, false⟩ }) ∧
    (s.getF F.GNSS_RX_STATE_RX_STATE = 4 → Completes (.gnssWake who) s fun t =>
      t.getF F.GNSS_RX_STATE_RX_STATE = 1 ∧ t.getF F.GNSS_RX_STATE_START_TYPE = s.retLoad.startType ∧
      t = { s with regs := t.regs, gnss := t.gnss, bus := ⟨0, false⟩ }) ∧
    (s.getF F.GNSS_RX_STATE_RX_STATE = 0 → exec (.gnssWake who) s = .next ((s.accessErr 0x11 who 0x54060).respond 0 false) ∧
      exec (.gnssSleep who) s = .next ((s.accessErr 0x11 who 0x54060).respond 0 false))) ∧
  (∀ s : State, s.getF F.GNSS_RX_STATE_RX_STATE = 3 →
    Completes .sleepComplete s fun t => t.getF F.GNSS_RX_STATE_RX_STATE = 4 ∧ t.event 0x054 2 = true ∧
      t = { s with regs := t.regs, fifos := t.fifos, mem := t.mem, gnss := { s.gnss with pending := none } }) ∧
  (∀ s : State, s.getF F.GNSS_RX_STATE_RX_STATE ≠ 3 → exec .sleepComplete s = .next s) ∧
  (∀ (who : Initiator) (s : State), s.opens who 0x54008 true = true → s.flag (F.PG_CTRL_LOCK 0x054) = false →
    (s.flag (F.PG_CTRL_ENABLE 0x054) = false → s.getF F.GNSS_RX_STATE_RX_STATE = 0 →
      Completes (.rxEnable who true) s fun t => t.flag (F.PG_CTRL_ENABLE 0x054) = true ∧ t.getF F.GNSS_RX_STATE_RX_STATE = 1 ∧
        t.gnss.startAt = s.now ∧ t = { s with regs := t.regs, gnss := t.gnss, bus := ⟨0, false⟩ }) ∧
    (s.flag (F.PG_CTRL_ENABLE 0x054) = true →
      Completes (.rxEnable who false) s fun t => t.flag (F.PG_CTRL_ENABLE 0x054) = false ∧ t.getF F.GNSS_RX_STATE_RX_STATE = 0 ∧
        t.gnss.queue = [] ∧ t.gnss.pending = none ∧ t = { s with regs := t.regs, gnss := t.gnss, bus := ⟨0, false⟩ }))

/-- Rows OBSERVATION_FRAME, RTCM_FRAME, POSITION_REPORT and MODE. -/
def Obligations.SolverInputs : Prop :=
  (∀ (m : Fin 256) (b : List Byte) (s : State), let epoch := s.fullEpoch (wordAt b 4)
    s.pagePowered 0x060 = true →
    (4 ≤ b.length → wordAt b 0 % 256 = 0xC5 → bitsOf (wordAt b 0) 11 8 = 1 → frameSized b 48 96 = true → s.stale m.val epoch = false →
      s.duplicate m.val epoch = false → (s.smach m.val).mode = 1 → epoch % s.epochMs = 0 →
      (toSigned 32 (wordAt b 12)).natAbs ≤ 1000000 → s.solv.queue.length < 512 →
      Completes (.observationFrame m b) s fun t =>
        (∃ f, t.solv.queue = s.solv.queue ++ [f] ∧ f.machine = m.val ∧ f.epoch = epoch ∧ f.sats = frameSats b ∧ f.accepted = s.now ∧
          f.deadline = s.now + 1000 * s.getF F.SOLV_DEADLINE_US ∧ f.order = s.solv.order) ∧
        t.solv.order = s.solv.order + 1 ∧ (∀ k, k ≠ F.SOLV_QUEUE_STAT_PEAK.key → t.reg k = s.reg k) ∧
        t = { s with regs := t.regs, solv := { s.solv with queue := t.solv.queue, order := t.solv.order } }) ∧
    (wordAt b 0 % 256 ≠ 0xC5 → s.getF F.SOLV_REFUSED_COUNT + 1 < 2 ^ 32 → Completes (.observationFrame m b) s fun t =>
      t.getF F.SOLV_REFUSED_COUNT = s.getF F.SOLV_REFUSED_COUNT + 1 ∧ t.event 0x060 2 = true ∧
      t = { s with regs := t.regs, fifos := t.fifos })) ∧
  (∀ (m : Fin 256) (b0 b1 b2 : Byte) (r : List Byte) (s : State), let b := b0 :: b1 :: b2 :: r
    s.pagePowered 0x060 = true → s.getF F.SOLV_REFUSED_COUNT + 1 < 2 ^ 32 →
    ((s.smach m.val).mode ≠ 1 ∨ s.flag (F.SOLV_MCFG_RTCM_IN m.val) = false ∨ (∃ c, rtcmSplit (b.length + 1) b = .error c)) →
    Completes (.rtcmFrame m b0 b1 b2 r) s fun t => t.getF F.SOLV_REFUSED_COUNT = s.getF F.SOLV_REFUSED_COUNT + 1 ∧ t.event 0x060 2 = true ∧
      t = { s with regs := t.regs, fifos := t.fifos }) ∧
  (∀ (m : Fin 256) (b0 b1 b2 : Byte) (r : List Byte) (msgs : List (List Byte)) (x : MsmRead) (rest : List MsmRead) (s : State),
    let b := b0 :: b1 :: b2 :: r
    let reads := x :: rest
    let sats := joinSats (reads.flatMap fun r => r.sats)
    let epoch := s.nearest 604800000 x.epoch
    s.pagePowered 0x060 = true → (s.smach m.val).mode = 1 → s.flag (F.SOLV_MCFG_RTCM_IN m.val) = true →
    rtcmSplit (b.length + 1) b = .ok msgs → (msgs.filter fun p => isMsm (rtcmType p)).mapM readMsm = some reads →
    sats ≠ [] → sats.length ≤ 48 → s.stale m.val epoch = false → s.duplicate m.val epoch = false → s.epochOk epoch = true →
    reads.getLast?.map (fun r => r.more) = some false → (∀ r ∈ reads.dropLast, r.more = true) → (∀ r ∈ reads, r.epoch = x.epoch) →
    s.solv.queue.length < 512 →
    Completes (.rtcmFrame m b0 b1 b2 r) s fun t =>
      (∃ f, t.solv.queue = s.solv.queue ++ [f] ∧ f.machine = m.val ∧ f.epoch = epoch ∧ f.doppler = (reads.all fun r => r.msm7) ∧
        f.sats.map (fun o => o.sat) = sats.map (fun o => o.sat) ∧ f.accepted = s.now ∧
        f.deadline = s.now + 1000 * s.getF F.SOLV_DEADLINE_US) ∧
      t.solv.order = s.solv.order + 1 ∧
      t = { s with regs := t.regs, solv := { s.solv with queue := t.solv.queue, order := t.solv.order, machines := t.solv.machines } }) ∧
  (∀ (m : Fin 256) (b : List Byte) (s : State), let epoch := s.fullEpoch (wordAt b 4)
    s.pagePowered 0x060 = true → b.length = 24 → wordAt b 0 % 256 = 0xC6 → bitsOf (wordAt b 0) 11 8 = 1 →
    ((s.smach m.val).mode = 2 ∨ (s.smach m.val).mode = 3) → epoch % s.epochMs = 0 →
    Completes (.positionReport m b) s fun t => t.solv.queue = s.solv.queue ∧ t.solv.fixes = s.solv.fixes ∧ t.time = s.time ∧
      t.solv.ctxs = s.solv.ctxs ∧
      (1 ≤ bitsOf (wordAt b 0) 14 12 → (t.smach m.val).good.head? = some epoch ∧ (t.smach m.val).logged = false ∧
        (t.smach m.val).none_ = (s.smach m.val).none_) ∧
      (bitsOf (wordAt b 0) 14 12 = 0 → t.solv = s.solv)) ∧
  (∀ (m : Fin 256) (b : List Byte) (s : State), s.pagePowered 0x060 = true → s.getF F.SOLV_REFUSED_COUNT + 1 < 2 ^ 32 →
    (wordAt b 0 % 256 ≠ 0xC6 ∨ b.length ≠ 24 ∨ ((s.smach m.val).mode ≠ 2 ∧ (s.smach m.val).mode ≠ 3)) →
    Completes (.positionReport m b) s fun t => t.getF F.SOLV_REFUSED_COUNT = s.getF F.SOLV_REFUSED_COUNT + 1 ∧ t.event 0x060 2 = true ∧
      t = { s with regs := t.regs, fifos := t.fifos }) ∧
  (∀ (who : Initiator) (m : Fin 256) (mode : Fin 4) (s : State), s.opens who (0x60400 + 4 * m.val) true = true →
    Completes (.machineMode who m mode) s fun t => t.getF (F.SOLV_MCFG_MODE m.val) = mode.val ∧
      (∀ k, k ≠ 0x60400 + 4 * m.val → t.reg k = s.reg k) ∧ t = { s with regs := t.regs, bus := ⟨0, false⟩ })

/-- What each macro-operation does to its run; the numbers that the filter computes are left open (Config.filterNums). -/
def Obligations.ScriptWords : Prop :=
  (∀ (tile : Fin 16) (k : Nat) (s : State), let c := s.ctx tile.val k
    let next (r : RunCtx) : RunCtx := { r with index := c.index + 1 }
    (s.atWord tile.val k 0x02 → Completes (.scriptPredict tile) s fun t =>
      OnlyCtx s t tile.val k (t.ctx tile.val k) ∧ (t.ctx tile.val k).filter.epoch = c.frame.epoch ∧ (t.ctx tile.val k).index = c.index + 1 ∧
      (t.ctx tile.val k).filter.sats = c.filter.sats) ∧
    (s.atWord tile.val k 0x03 → Completes (.scriptDdform tile) s fun t =>
      OnlyCtx s t tile.val k (t.ctx tile.val k) ∧ (t.ctx tile.val k).index = c.index + 1 ∧
      (s.baseOf (s.runMember c.frame) c.frame.epoch = none → t.ctx tile.val k = next { c with base := none, nodd := 1 }) ∧
      (∀ b, s.baseOf (s.runMember c.frame) c.frame.epoch = some b →
        (b.valid = false → t.ctx tile.val k = next { c with base := some b, nodd := 1 }) ∧
        (b.valid = true → b.member = s.member → c.frame.pair = none →
          let c1 := { c with base := some b }
          let common := ((c.frame.sats.map fun o => o.sat).filter fun x => c1.hasBoth x 0 || c1.hasBoth x 1).take 48
          let few := common.length < (if s.wordA tile.val k = 0 then 5 else s.wordA tile.val k)
          (t.ctx tile.val k).common = common ∧ (t.ctx tile.val k).base = some b ∧
          (few → (t.ctx tile.val k).nodd = 2 ∧ (t.ctx tile.val k).filter = c.filter) ∧
          (¬ few → (t.ctx tile.val k).nodd = 0 ∧ (t.ctx tile.val k).filter.sats.map (fun e => e.sat) = common ∧
            (t.ctx tile.val k).filter.ref = c1.chooseRefSat common)))) ∧
    (s.atWord tile.val k 0x04 → Completes (.scriptSlipdet tile) s fun t =>
      OnlyCtx s t tile.val k (next { c with slips := (t.ctx tile.val k).slips, filter := (t.ctx tile.val k).filter }) ∧
      (t.ctx tile.val k).filter.sats = c.filter.sats ∧
      ∀ x b, x ∈ c.common → b < 2 → c.hasBoth x b = true → ((x, b) ∈ (t.ctx tile.val k).slips ↔
        (c.lockSlip x b || s.comboSlip c (s.wordA tile.val k) x) = true)) ∧
    (s.atWord tile.val k 0x05 → Completes (.scriptUpdate tile) s fun t =>
      OnlyCtx s t tile.val k (t.ctx tile.val k) ∧ (t.ctx tile.val k).index = c.index + 1 ∧
      (t.ctx tile.val k).filter.sats = c.filter.sats ∧
      (s.wordA tile.val k ≠ 1 → (t.ctx tile.val k).phase = c.phase ∧ (t.ctx tile.val k).skips = c.skips) ∧
      (c.rows (s.wordA tile.val k) = [] → t.ctx tile.val k = next c) ∧
      (s.wordA tile.val k = 2 → c.frame.doppler = false → t.ctx tile.val k = next c))) ∧
  (∀ (tile : Fin 16) (k : Nat) (s : State), let c := s.ctx tile.val k
    let next (r : RunCtx) : RunCtx := { r with index := c.index + 1 }
    (s.atWord tile.val k 0x06 → Completes (.scriptCheck tile) s fun t =>
      let limit := if s.wordB tile.val k = 0 then 250 else s.wordB tile.val k
      let sum := (c.innovs.map fun n => n * n).sum
      (limit * c.innovs.length * 2 ^ 32 < 10 * sum → OnlyCtx s t tile.val k (next { c with
        restart := true, diverged := true, phase := false, filter := (t.ctx tile.val k).filter }) ∧
        (t.ctx tile.val k).filter.sats = c.filter.sats) ∧
      (10 * sum ≤ limit * c.innovs.length * 2 ^ 32 → OnlyCtx s t tile.val k (next c))) ∧
    (s.atWord tile.val k 0x07 → Completes (.scriptDecor tile) s fun t =>
      OnlyCtx s t tile.val k (next { c with
        set := if c.retries = 0 then c.filter.ambs else c.set, decor := (t.ctx tile.val k).decor })) ∧
    (s.atWord tile.val k 0x08 → Completes (.scriptSearch tile) s fun t =>
      let limit := if s.wordB tile.val k = 0 then s.getF F.SOLV_SEARCH_NODES else s.wordB tile.val k
      let v := s.runCalc c 0x08 (keyNums c.set ++ c.decor)
      let r := t.ctx tile.val k
      OnlyCtx s t tile.val k (next { c with
        searched := decide (v.getD 0 0 ≤ limit), norms := (v.getD 1 0, v.getD 2 0), best := r.best, second := r.second }) ∧
      r.best.length = c.set.length ∧ r.second.length = c.set.length) ∧
    (s.atWord tile.val k 0x09 → Completes (.scriptValidate tile) s fun t =>
      let r := t.ctx tile.val k
      OnlyCtx s t tile.val k { c with
        retries := r.retries, set := r.set, valid := r.valid, failed := r.failed, index := r.index } ∧
      (c.searched = false ∨ c.norms.2 * 256 < s.getF F.SOLV_VALID_RATIO * c.norms.1 → r.valid = false) ∧ r.failed = !r.valid ∧
      (r.valid = true → r.index = c.index + 1 ∧ r.set = c.set ∧ r.retries = c.retries) ∧
      (r.valid = false →
        (c.retries < s.wordA tile.val k → s.getF F.SOLV_PAR_MIN_AMB + s.getF F.SOLV_PAR_DROP ≤ c.set.length →
          r.index = s.wordB tile.val k ∧ r.retries = c.retries + 1 ∧ r.set = c.filter.dropLargest (s.getF F.SOLV_PAR_DROP) c.set) ∧
        (s.wordA tile.val k ≤ c.retries ∨ c.set.length < s.getF F.SOLV_PAR_MIN_AMB + s.getF F.SOLV_PAR_DROP →
          r.index = c.index + 1 ∧ r.retries = c.retries ∧ r.set = c.set))) ∧
    (s.atWord tile.val k 0x0C → Completes (.scriptBranch tile) s fun t => OnlyCtx s t tile.val k
      { c with index := if s.branchTaken c (s.wordA tile.val k) then s.wordB tile.val k else c.index + 1 }) ∧
    (s.atWord tile.val k 0x0D → Completes (.scriptNop tile) s fun t => OnlyCtx s t tile.val k (next c))) ∧
  (∀ (tile : Fin 16) (k op : Nat) (s : State), s.atWord tile.val k op →
    ∀ e ∈ [(0x00, Instr.scriptEnd tile), (0x01, .scriptLoad tile), (0x02, .scriptPredict tile), (0x03, .scriptDdform tile),
      (0x04, .scriptSlipdet tile), (0x05, .scriptUpdate tile), (0x06, .scriptCheck tile), (0x07, .scriptDecor tile),
      (0x08, .scriptSearch tile), (0x09, .scriptValidate tile), (0x0A, .scriptFixout tile false), (0x0A, .scriptFixout tile true),
      (0x0B, .scriptStore tile), (0x0C, .scriptBranch tile), (0x0D, .scriptNop tile)], e.1 ≠ op → exec e.2 s = .next s)

/-- Rows LOAD, FIXOUT, STORE and END. -/
def Obligations.ScriptLoadStoreFixEnd : Prop :=
  (∀ (tile : Fin 16) (k : Nat) (s : State), s.atWord tile.val k 0x01 →
    let c := s.ctx tile.val k
    let m := c.frame.machine
    let a := s.clientRead 1 (2 * tile.val + k) (s.slotVa m 0) 0x18000
    let b := a.2.clientRead 1 (2 * tile.val + k) (s.slotVa m 1) 0x18000
    (c.frame.pair ≠ none → Completes (.scriptLoad tile) s fun t => (t.ctx tile.val k).index = c.index + 1 ∧
      OnlyCtx s t tile.val k (t.ctx tile.val k)) ∧
    (c.frame.pair = none → a.1.fault = none → b.1.fault = none → Completes (.scriptLoad tile) s fun t =>
      (t.ctx tile.val k).index = c.index + 1 ∧ (t.ctx tile.val k).st = CtxState.running ∧ t.flag (F.SOLV_MCFG_RESET m) = false ∧
      (chooseSlot a.1.data b.1.data = none → (t.ctx tile.val k).restart = true ∧ (t.ctx tile.val k).filter.sats = []) ∧
      (c.frame.restart = true → (t.ctx tile.val k).restart = true)) ∧
    (c.frame.pair = none → a.1.fault ≠ none ∨ b.1.fault ≠ none → Completes (.scriptLoad tile) s fun t =>
      (t.ctx tile.val k).st = CtxState.paused ∧ (t.ctx tile.val k).index = c.index ∧ t.event (0x061 + tile.val) 0 = true)) ∧
  (∀ (tile : Fin 16) (k : Nat) (moved : Bool) (s : State), s.atWord tile.val k 0x0A →
    let c := s.ctx tile.val k
    (c.frame.pair ≠ none → Completes (.scriptFixout tile moved) s fun t =>
      OnlyCtx s t tile.val k { c with fixed := true, index := c.index + 1 }) ∧
    (c.frame.pair = none → Completes (.scriptFixout tile moved) s fun t =>
      t.ctx tile.val k = { c with fixed := true, index := c.index + 1 } ∧
      t.solv.fixes.getLast? = some (c.frame.machine, wordsBytes (s.fixRecord c).words) ∧
      (1 ≤ c.status → (t.smach c.frame.machine).good.head? = some c.frame.epoch) ∧
      (c.nodd ≠ 0 → (s.fixRecord c).status = 0 ∧ (s.fixRecord c).e = 0x80000000 ∧ (s.fixRecord c).hpl = 0xFFFF ∧
        (s.fixRecord c).cause = c.nodd))) ∧
  (∀ (tile : Fin 16) (k : Nat) (s : State), s.atWord tile.val k 0x0B →
    let c := s.ctx tile.val k
    let f := c.commitState
    let stored := { c with filter := f, index := c.index + 1, st := CtxState.running }
    let w := s.slotWrite 1 (2 * tile.val + k) (s.slotVa c.frame.machine (1 - c.slot)) (f.slot c.frame.machine) true
    (c.frame.pair = none → c.dropped = true → Completes (.scriptStore tile) s fun t => OnlyCtx s t tile.val k stored) ∧
    (∀ member, c.frame.pair = some member → Completes (.scriptStore tile) s fun t => t.ctx tile.val k = stored ∧
      (c.valid = false → (t.pairOf member).count = 0) ∧ t.solv.machines = s.solv.machines ∧ t = { s with solv := t.solv }) ∧
    (c.frame.pair = none → c.dropped = false → w.1 = none → Completes (.scriptStore tile) s fun t =>
      t.ctx tile.val k = stored ∧ f.seq = c.filter.seq + 1 ∧ f.epoch = c.frame.epoch ∧
      (t.smach c.frame.machine).epoch = some c.frame.epoch ∧ (t.smach c.frame.machine).discard = false ∧
      (s.pairActive = false → t.mem.bytes = w.2.mem.bytes)) ∧
    (c.frame.pair = none → c.dropped = false → w.1 ≠ none → Completes (.scriptStore tile) s fun t =>
      (t.ctx tile.val k).st = CtxState.paused ∧ t.event (0x061 + tile.val) 0 = true)) ∧
  (∀ (tile : Fin 16) (k : Nat) (s : State), s.atWord tile.val k 0x00 → s.solv.cmd = none →
    s.getF (F.ASTER_RUNS_COUNT tile.val) + 1 < 2 ^ 32 →
    Completes (.scriptEnd tile) s fun t => (t.ctx tile.val k).st = CtxState.free ∧
      t.getF (F.ASTER_RUNS_COUNT tile.val) = s.getF (F.ASTER_RUNS_COUNT tile.val) + 1 ∧ t.solv.queue = s.solv.queue ∧
      t = { s with regs := t.regs, solv := t.solv })

/-- Rows TILE_DISPATCH, PREEMPTION, HOLD, EVICT, TILE_FAULT, TEST and TEST_DONE. -/
def Obligations.TileCommands : Prop :=
  (∀ (f : ObsFrame) (s : State), s.pagePowered 0x060 = true → s.solv.ctxs = [] → s.tileTakes 0 = true → s.nextFrame = some f →
    Completes .tileDispatch s fun t => (t.ctx 0 0).frame = f ∧ (t.ctx 0 0).st = CtxState.running ∧ (t.ctx 0 0).index = 0 ∧
      (t.ctx 0 0).script = s.bankWords (s.getF F.SOLV_STAT_BANK_ACTIVE) ∧ (∀ n k, 2 * n + k ≠ 0 → t.ctx n k = s.ctx n k) ∧
      (∀ g, g ∈ t.solv.queue ↔ g ∈ s.solv.queue ∧ g.order ≠ f.order) ∧ t = { s with regs := t.regs, solv := t.solv }) ∧
  (∀ (f : ObsFrame) (s : State), s.pagePowered 0x060 = true → s.nextFrame = some f →
    (s.flag F.SOLV_CTRL_PREEMPT_EN = false → exec .preemption s = .next s) ∧
    (s.flag F.SOLV_CTRL_PREEMPT_EN = true → s.getF F.SOLV_TILES_EN = 1 → s.running 0 = some 0 → (s.ctx 0 1).st = CtxState.free →
      s.flag (F.ASTER_CTRL_HOLD 0) = false → s.flag (F.PG_STAT_FAULT 0x061) = false →
      f.deadline + 1000 * s.getF F.SOLV_PREEMPT_US < (s.ctx 0 0).frame.deadline →
      Completes .preemption s fun t => (t.ctx 0 0).st = CtxState.ready ∧ (t.ctx 0 1).st = CtxState.running ∧ (t.ctx 0 1).frame = f ∧
        (∀ n k, 2 ≤ 2 * n + k → t.ctx n k = s.ctx n k) ∧ t = { s with regs := t.regs, solv := t.solv })) ∧
  (∀ (who : Initiator) (tile : Fin 16) (s : State), s.opens who (0x61040 + 0x1000 * tile.val) true = true →
    (Completes (.tileHold who tile true) s fun t => t.flag (F.ASTER_CTRL_HOLD tile.val) = true ∧ t.event (0x061 + tile.val) 2 = true ∧
      (∀ k, k < 2 → (t.ctx tile.val k).st =
        if (s.ctx tile.val k).st = CtxState.running then CtxState.held else (s.ctx tile.val k).st) ∧
      t = { s with regs := t.regs, solv := { s.solv with ctxs := t.solv.ctxs }, bus := ⟨0, false⟩ }) ∧
    (Completes (.tileHold who tile false) s fun t => t.flag (F.ASTER_CTRL_HOLD tile.val) = false ∧
      (∀ k, k < 2 → (t.ctx tile.val k).st =
        if (s.ctx tile.val k).st = CtxState.held then CtxState.ready else (s.ctx tile.val k).st) ∧
      t = { s with regs := t.regs, solv := { s.solv with ctxs := t.solv.ctxs }, bus := ⟨0, false⟩ }) ∧
    (s.solv.cmd = none → Completes (.tileEvict who tile) s fun t =>
      (t.ctx tile.val 0).st = CtxState.free ∧ (t.ctx tile.val 1).st = CtxState.free ∧
      ((s.ctx tile.val 0).st ≠ CtxState.free → (s.ctx tile.val 0).test = false → (s.ctx tile.val 0).fixed = false →
        (s.ctx tile.val 0).frame ∈ t.solv.queue) ∧ (∀ k, k ≠ F.SOLV_QUEUE_STAT_PEAK.key → t.reg k = s.reg k) ∧
      t = { s with regs := t.regs, solv := t.solv, mem := { s.mem with dtuPaused := t.mem.dtuPaused }, bus := ⟨0, false⟩ })) ∧
  (∀ (tile : Fin 16) (k : Fin 2) (ecc : Bool) (s : State), s.pagePowered 0x060 = true → s.solv.cmd = none →
    Completes (.tileFault tile k ecc) s fun t => t.flag (F.PG_STAT_FAULT (0x061 + tile.val)) = true ∧
      t.event (0x061 + tile.val) 1 = true ∧ (t.ctx tile.val 0).st = CtxState.free ∧ (t.ctx tile.val 1).st = CtxState.free ∧
      t = { s with regs := t.regs, solv := t.solv, mem := { s.mem with dtuPaused := t.mem.dtuPaused } }) ∧
  (∀ (who : Initiator) (tile : Fin 16) (s : State), s.opens who (0x61058 + 0x1000 * tile.val) true = true →
    (s.freeCtx tile.val = none →
      exec (.tileTest who tile) s = .next ((s.accessErr 0x11 who (0x61058 + 0x1000 * tile.val)).respond 0 false)) ∧
    (∀ k, s.freeCtx tile.val = some k → Completes (.tileTest who tile) s fun t => (t.ctx tile.val k).test = true ∧
      (t.ctx tile.val k).st = (if (s.running tile.val).isSome then CtxState.ready else CtxState.running) ∧
      t.reg (0x61058 + 0x1000 * tile.val) = 0x80000000 ∧ (∀ n j, 2 * n + j ≠ 2 * tile.val + k → t.ctx n j = s.ctx n j) ∧
      t = { s with regs := t.regs, solv := { s.solv with ctxs := t.solv.ctxs }, bus := ⟨0, false⟩ })) ∧
  (∀ (tile : Fin 16) (sig : Fin 65536) (s : State), s.pagePowered 0x060 = true → (s.ctx tile.val 0).test = true →
    Completes (.tileTestDone tile sig) s fun t => (t.ctx tile.val 0).st = CtxState.free ∧ t.event (0x061 + tile.val) 3 = true ∧
      (t.reg (0x61058 + 0x1000 * tile.val)).toNat % 65536 = sig.val ∧
      (t.reg (0x61058 + 0x1000 * tile.val)).getLsbD 30 = true ∧
      (t.reg (0x61058 + 0x1000 * tile.val)).getLsbD 29 = (sig.val == Config.tileSignature % 65536) ∧
      t = { s with regs := t.regs, solv := { s.solv with ctxs := t.solv.ctxs } })

/-- Rows EPOCH_EDGE, EPOCH_CHANGE_APPLY, BANK, NONE_EVT, SHARE_WAIT_EXPIRY and SHARE. -/
def Obligations.SolverEpochs : Prop :=
  (∀ (n : Nat) (s : State), s.pagePowered 0x060 = true → s.edgeDue 3 (s.epochMs * 1000000) = some n →
    Completes .epochEdge s fun t => (∀ m, m < 256 → (t.smach m).mode = s.getF (F.SOLV_MCFG_MODE m)) ∧
      (∀ m, m < 256 → (s.smach m).mode = 1 → s.getF (F.SOLV_MCFG_MODE m) ≠ 1 → (t.smach m).epoch = none ∧ (t.smach m).discard = true) ∧
      (s.flag F.SOLV_STAT_BANK_PENDING = false → t.regs = s.regs) ∧
      (s.flag F.SOLV_STAT_BANK_PENDING = true → bankOk (s.bankWords (s.getF F.SOLV_CTRL_BANK)) = true →
        t.getF F.SOLV_STAT_BANK_ACTIVE = s.getF F.SOLV_CTRL_BANK ∧ t.flag F.SOLV_STAT_BANK_PENDING = false ∧ t.event 0x060 5 = true) ∧
      (∀ n k, t.ctx n k = { s.ctx n k with dropped := (t.ctx n k).dropped }) ∧
      (∀ n k, (s.ctx n k).st ≠ CtxState.free → (s.ctx n k).test = false → (s.smach (s.ctx n k).frame.machine).mode = 1 →
        (s.ctx n k).frame.machine < 256 → s.getF (F.SOLV_MCFG_MODE (s.ctx n k).frame.machine) ≠ 1 → (t.ctx n k).dropped = true) ∧
      t = { s with
        regs := t.regs
        solv := { s.solv with machines := t.solv.machines, ctxs := t.solv.ctxs }
        time := { s.time with edges := Assoc.put (fun _ => 0) s.time.edges 3 n } }) ∧
  (∀ (n : Nat) (s : State), s.pagePowered 0x060 = true → s.edgeDue 4 200000000 = some n → s.flag F.SOLV_STAT_EPOCH_PENDING = true →
    Completes .epochChangeApply s fun t => t.getF F.SOLV_STAT_EPOCH_ACTIVE = s.getF F.SOLV_CTRL_EPOCH ∧
      t.flag F.SOLV_STAT_EPOCH_PENDING = false ∧ t.event 0x060 4 = true ∧
      t = { s with regs := t.regs, time := { s.time with edges := Assoc.put (fun _ => 0) s.time.edges 4 n } }) ∧
  (∀ (who : Initiator) (bank : Fin 2) (s : State), s.opens who 0x60040 true = true → bank.val ≠ s.getF F.SOLV_STAT_BANK_ACTIVE →
    (bankOk (s.bankWords bank.val) = true → Completes (.scriptBank who bank) s fun t =>
      t.getF F.SOLV_CTRL_BANK = bank.val ∧ t.flag F.SOLV_STAT_BANK_PENDING = true ∧
      t.getF F.SOLV_STAT_BANK_ACTIVE = s.getF F.SOLV_STAT_BANK_ACTIVE ∧ t = { s with regs := t.regs, bus := ⟨0, false⟩ }) ∧
    (bankOk (s.bankWords bank.val) = false → Completes (.scriptBank who bank) s fun t =>
      t.getF F.SOLV_CTRL_BANK = s.getF F.SOLV_CTRL_BANK ∧ t.event 0x060 6 = true ∧ t = { s with regs := t.regs, bus := ⟨0, false⟩ })) ∧
  (∀ (m : Nat) (s : State), let len := s.epochMs * 1000000
    let n := (s.taiNs - 1 - s.getF F.SOLV_DEADLINE_US * 1000) / len * len
    let last := Assoc.get (fun _ => 0) s.time.edges 5
    m < 256 → s.pagePowered 0x060 = true → last < n → (last = 0 ∨ (n = last + len ∧ last % len = 0 ∧ s.time.jump = none)) →
    s.getF F.SOLV_NONE_LIMIT_EPOCHS ≠ 0 → (s.smach m).mode ≠ 0 →
    Completes .noneEvt s fun t =>
      ((s.smach m).good.elem ((n - len) / 1000000) = true → t.smach m = { s.smach m with none_ := 0, logged := false }) ∧
      ((s.smach m).good.elem ((n - len) / 1000000) = false →
        ((s.smach m).logged = false → s.getF F.SOLV_NONE_LIMIT_EPOCHS ≤ (s.smach m).none_ + 1 →
          t.smach m = { s.smach m with none_ := (s.smach m).none_ + 1, logged := true } ∧ t.event 0x060 1 = true) ∧
        ((s.smach m).logged = true ∨ (s.smach m).none_ + 1 < s.getF F.SOLV_NONE_LIMIT_EPOCHS →
          t.smach m = { s.smach m with none_ := (s.smach m).none_ + 1 })) ∧
      t = { s with
        regs := t.regs, fifos := t.fifos
        solv := { s.solv with machines := t.solv.machines }
        time := { s.time with edges := Assoc.put (fun _ => 0) s.time.edges 5 n } }) ∧
  (∀ (epoch : Nat) (s : State), s.pagePowered 0x060 = true →
    (s.shareWaitOver epoch = true → s.solv.expired.elem epoch = false →
      Completes (.shareWaitExpiry epoch) s fun t => t.solv.expired.head? = some epoch ∧
        t = { s with regs := t.regs, solv := { s.solv with expired := t.solv.expired } }) ∧
    (s.shareWaitOver epoch = false ∨ s.solv.expired.elem epoch = true → exec (.shareWaitExpiry epoch) s = .next s)) ∧
  (∀ (m : Msg) (s s1 : State) (b : BaseSet), s.received 0x02 = (some m, s1) →
    s1.parseShare m.body = some b → b.member ≠ s1.member → (∀ x ∈ s1.gnss.baseSets, x.epoch ≤ b.epoch) →
    Completes .shareSet s fun t => b ∈ t.gnss.baseSets ∧ t.arrivedBase b.member b.epoch = true ∧
      (∃ l, t.solv.queue = s1.solv.queue ++ l ∧ l.length ≤ 1) ∧
      t = { s1 with
        regs := t.regs
        gnss := { s1.gnss with baseSets := t.gnss.baseSets }
        solv := { s1.solv with queue := t.solv.queue, order := t.solv.order } }) ∧
  (∀ s s1 : State, s.received 0x02 = (none, s1) → exec .shareSet s = .next s1)

/-- Rows RESET_FILTER, IMPORT and EXPORT. -/
def Obligations.FilterTransfers : Prop :=
  (∀ (who : Initiator) (m : Fin 256) (s : State), s.opens who 0x600A8 true = true →
    (s.flag F.SOLV_CMD_STAT_BUSY = true → ∀ c ∈ [Instr.resetFilter who m, .solvImport who m, .solvExport who m],
      exec c s = .next ((s.accessErr 0x11 who 0x600A8).respond 0 false)) ∧
    (s.flag F.SOLV_CMD_STAT_BUSY = false →
      (Completes (.resetFilter who m) s fun t => t.flag (F.SOLV_MCFG_RESET m.val) = true ∧ t.flag F.SOLV_CMD_STAT_BUSY = false ∧
        t.getF F.SOLV_CMD_STAT_RESULT = 0 ∧ t.event 0x060 7 = true ∧ t = { s with regs := t.regs, solv := t.solv, bus := ⟨0, false⟩ }) ∧
      (s.inProcess m.val = true →
        (Completes (.solvImport who m) s fun t => t.solv.cmd = some (2, m.val) ∧ t.flag F.SOLV_CMD_STAT_BUSY = true ∧ t.mem = s.mem) ∧
        Completes (.solvExport who m) s fun t => t.solv.cmd = some (3, m.val) ∧ t.flag F.SOLV_CMD_STAT_BUSY = true ∧ t.mem = s.mem))) ∧
  (∀ (who : Initiator) (m : Fin 256) (kind : Nat) (s : State), s.opens who 0x600A8 true = true → s.flag F.SOLV_CMD_STAT_BUSY = false →
    s.inProcess m.val = false →
    let s0 := { s.setFlag F.SOLV_CMD_STAT_BUSY true with solv := { s.solv with cmd := some (kind, m.val) } }
    let xfer := s0.getF F.SOLV_XFER_ADDR_ADDR * 0x1000
    let a := s0.clientRead 2 0 (s0.slotVa m.val 0) 0x18000
    let b := a.2.clientRead 2 0 (s0.slotVa m.val 1) 0x18000
    let n := b.2.clientRead 2 0 xfer 0x18000
    let top := chooseSlot a.1.data b.1.data
    (kind = 2 → a.1.fault ≠ none → Completes (.solvImport who m) s fun t =>
      t.dtuIsPaused 2 0 = true ∧ t.flag F.SOLV_CMD_STAT_BUSY = true ∧ t.solv.cmd = some (2, m.val)) ∧
    (a.1.fault = none → b.1.fault = none →
      (kind = 2 → n.1.fault = none →
        let d := n.2.importSlot m.val top n.1.data
        let w := n.2.slotWrite 2 0 (n.2.slotVa m.val d.1) d.2.1 (d.2.2 == 0)
        d.1 = ((top.map fun e => 1 - e.1).getD 0) ∧
        (importValid m.val n.1.data = false → d.2 = (n.1.data, 2)) ∧
        (importValid m.val n.1.data = true → ∀ i c, top = some (i, c) → (n.2.smach m.val).discard = false →
          n.2.fullEpoch (wordAt n.1.data 8) ≤ n.2.fullEpoch (wordAt c 8) → d.2 = (n.1.data, 1)) ∧
        (importValid m.val n.1.data = true → top = none → d.2 = (n.1.data, 0)) ∧
        (w.1 = none → Completes (.solvImport who m) s fun t => t.getF F.SOLV_CMD_STAT_RESULT = d.2.2 ∧
          t.flag F.SOLV_CMD_STAT_BUSY = false ∧ t.event 0x060 7 = true ∧ t.solv.cmd = none ∧ t.mem = w.2.mem ∧
          (d.2.2 = 0 → (t.smach m.val).epoch = some (w.2.fullEpoch (wordAt d.2.1 8)) ∧ (t.smach m.val).discard = false) ∧
          (d.2.2 ≠ 0 → t.smach m.val = w.2.smach m.val))) ∧
      (kind = 3 →
        let cur := if (b.2.smach m.val).discard then none else top
        (cur = none → Completes (.solvExport who m) s fun t => t.getF F.SOLV_CMD_STAT_RESULT = 2 ∧
          t.flag F.SOLV_CMD_STAT_BUSY = false ∧ t.event 0x060 7 = true ∧ t.solv.cmd = none) ∧
        (∀ i c, cur = some (i, c) → (b.2.clientWrite 2 0 xfer c).1 = none →
          Completes (.solvExport who m) s fun t => t.getF F.SOLV_CMD_STAT_RESULT = 0 ∧ t.flag F.SOLV_CMD_STAT_BUSY = false ∧
            t.event 0x060 7 = true ∧ t.solv.cmd = none ∧ t.mem = (b.2.clientWrite 2 0 xfer c).2.mem))))

/-- Rows LOOKUP_EN, INSERT, DELETE and MODIFY. `s.role = 0`: the unit belongs to no pair, so that no journal is made. -/
def Obligations.ZoneCommands : Prop :=
  (∀ (who : Initiator) (en : Bool) (s : State), s.opens who 0x80040 true = true →
    (en = true → s.levelsOk = false → exec (.lookupEn who en) s = .next ((s.accessErr 0x12 who 0x80040).respond 0 false)) ∧
    (en = false ∨ s.levelsOk = true → Completes (.lookupEn who en) s fun t => t.flag F.ZONE_CTRL_LOOKUP_EN = en ∧
      (∀ k, k ≠ 0x80040 → t.reg k = s.reg k) ∧ t = { s with regs := t.regs, bus := ⟨0, false⟩ })) ∧
  (∀ (who : Initiator) (s : State), s.opens who 0x80090 true = true → (s.flag F.ZONE_CMD_STAT_BUSY = true ∨ s.notActive = true) →
    ∀ c ∈ [Instr.zoneInsert who, .zoneDelete who, .zoneModify who, .zoneLoad who, .zoneRefilter who, .zoneClear who],
      exec c s = .next ((s.accessErr 0x11 who 0x80090).respond 0 false)) ∧
  (∀ (who : Initiator) (s : State), s.opens who 0x80090 true = true → s.flag F.ZONE_CMD_STAT_BUSY = false → s.notActive = false →
    let e := s.stagedZone
    let b := { s with zone := { s.zone with relocates := false } }.setFlag F.ZONE_CMD_STAT_BUSY true
    let done (r : Nat) : State := { b with zone := { b.zone with result := r } }.respond 0 false
    (e.ok = false → exec (.zoneInsert who) s = .next (done 4) ∧ exec (.zoneModify who) s = .next (done 4)) ∧
    (e.ok = true → s.zoneFind e.w0 e.level ≠ none → exec (.zoneInsert who) s = .next (done 2)) ∧
    (e.ok = true → s.zoneBuckets e.w0 e.level = none → exec (.zoneInsert who) s = .next (done 3)) ∧
    (∀ b1 b2, e.ok = true → s.zoneFind e.w0 e.level = none → s.zoneBuckets e.w0 e.level = some (b1, b2) → s.freeSlot b1 = none →
      s.freeSlot b2 = none → s.chain 0 b1 [] (s.getF F.ZONE_MAXKICK_STEPS) = none → exec (.zoneInsert who) s = .next (done 3)) ∧
    (e.keyOk = false → exec (.zoneDelete who) s = .next (done 4)) ∧
    (e.ok = true → s.zoneFind e.w0 e.level = none → exec (.zoneModify who) s = .next (done 1)) ∧
    (e.keyOk = true → s.zoneFind e.w0 e.level = none → exec (.zoneDelete who) s = .next (done 1))) ∧
  (∀ (who : Initiator) (b1 b2 a : Nat) (s : State), s.opens who 0x80090 true = true → s.flag F.ZONE_CMD_STAT_BUSY = false → s.role = 0 →
    let e := s.stagedZone
    e.ok = true → s.zoneFind e.w0 e.level = none → s.zoneBuckets e.w0 e.level = some (b1, b2) →
    (s.freeSlot b1 = some a ∨ s.freeSlot b1 = none ∧ s.freeSlot b2 = some a) →
    s.getF F.ZONE_STAT_USED < 262144 →
    Completes (.zoneInsert who) s fun t => t.zone.result = 0 ∧ t.flag F.ZONE_CMD_STAT_BUSY = true ∧
      t.zoneAt a = { e with w3 := (s.zone.writes + 1) % 65536 * 65536 } ∧ t.zone.writes = (s.zone.writes + 1) % 65536 ∧
      t.getF F.ZONE_STAT_USED = s.getF F.ZONE_STAT_USED + 1 ∧
      (∀ x, 0x10000000 ≤ x → x < 0x12000000 → (x < a ∨ a + 16 ≤ x) → (x < 0x10400000 ∨ 0x10440000 ≤ x) → t.memByte x = s.memByte x)) ∧
  (∀ (who : Initiator) (a : Nat) (s : State), s.opens who 0x80090 true = true → s.flag F.ZONE_CMD_STAT_BUSY = false → s.role = 0 →
    let e := s.stagedZone
    s.zoneFind e.w0 e.level = some a →
    (e.keyOk = true → Completes (.zoneDelete who) s fun t => t.zone.result = 0 ∧ t.flag F.ZONE_CMD_STAT_BUSY = true ∧
      t.zoneAt a = ⟨0, 0, 0, 0⟩ ∧ t.getF F.ZONE_STAT_USED = s.getF F.ZONE_STAT_USED - 1 ∧
      (∀ x, 0x10000000 ≤ x → x < 0x12000000 → (x < a ∨ a + 16 ≤ x) → t.memByte x = s.memByte x)) ∧
    (e.ok = true → Completes (.zoneModify who) s fun t => t.zone.result = 0 ∧ t.flag F.ZONE_CMD_STAT_BUSY = true ∧
      t.zoneAt a = { e with w0 := (s.zoneAt a).w0, w3 := (s.zone.writes + 1) % 65536 * 65536 } ∧
      (∀ x, 0x10000000 ≤ x → x < 0x12000000 → (x < a ∨ a + 16 ≤ x) → t.memByte x = s.memByte x)))

/-- Rows ZONE_LOAD, REFILTER, ZONE_CLEAR and ZONE_CMD_COMPLETE. -/
def Obligations.ZoneLoadAndCompletion : Prop :=
  (∀ (who : Initiator) (s : State), s.opens who 0x80090 true = true → s.flag F.ZONE_CMD_STAT_BUSY = false → s.notActive = false →
    let b := { s with zone := { s.zone with relocates := false } }.setFlag F.ZONE_CMD_STAT_BUSY true
    (s.flag F.ZONE_CTRL_LOOKUP_EN = true →
      exec (.zoneLoad who) s = .next ({ b with zone := { b.zone with result := 6 } }.respond 0 false)) ∧
    (s.flag F.ZONE_CTRL_LOOKUP_EN = false → s.getF F.ZONE_IMG_ADDR_ADDR % 64 ≠ 0 → Completes (.zoneLoad who) s fun t =>
      t.zone.result = 5 ∧ t.zone.loading = false ∧ t.flag F.ZONE_CMD_STAT_BUSY = true ∧
      t = { s with regs := t.regs, zone := t.zone, bus := ⟨0, false⟩ })) ∧
  (∀ (who : Initiator) (s : State), s.opens who 0x80090 true = true → s.flag F.ZONE_CMD_STAT_BUSY = false → s.role = 0 →
    s.flag F.ZONE_CTRL_LOOKUP_EN = false → s.getF F.ZONE_IMG_ADDR_ADDR % 64 = 0 →
    let b := { s with zone := { s.zone with relocates := false } }.setFlag F.ZONE_CMD_STAT_BUSY true
    let h := b.clientRead 0x0C 0 (s.getF F.ZONE_IMG_ADDR_ADDR) 64
    let nc := leValue ((h.1.data.drop 0x20).take 4)
    let nz := leValue ((h.1.data.drop 0x24).take 4)
    let d := h.2.clientRead 0x0C 0 (s.getF F.ZONE_IMG_ADDR_ADDR + 64) (64 * nc + 16 * nz)
    let cells := (chunks 64 nc d.1.data).map bytesWords
    let zones := (chunks 16 nz (d.1.data.drop (64 * nc))).map fun x => wordsZone (bytesWords x)
    h.1.fault = none → h.1.bad = false →
    (h.2.imageHeadOk h.1.data = false → Completes (.zoneLoad who) s fun t => t.zone.result = 5 ∧ t.mem = h.2.mem) ∧
    (h.2.imageHeadOk h.1.data = true → d.1.fault = none → d.1.bad = false →
      crc32 (h.1.data.take 0x3C ++ [0, 0, 0, 0] ++ d.1.data) = leValue ((h.1.data.drop 0x3C).take 4) →
      d.2.imageBodyOk cells zones = true → Completes (.zoneLoad who) s fun t =>
        t.zone.result = (d.2.imageInstall h.1.data cells zones).1 ∧ t.mem = (d.2.imageInstall h.1.data cells zones).2.mem ∧
        t.zone.loading = false)) ∧
  (∀ (who : Initiator) (s : State), s.opens who 0x80090 true = true → s.flag F.ZONE_CMD_STAT_BUSY = false → s.role = 0 →
    (Completes (.zoneRefilter who) s fun t => t.zone.result = 0 ∧ t.zone.mstate = s.zone.mstate ∧ t.time = s.time ∧ t.flag F.ZONE_CMD_STAT_BUSY = true ∧
      (∀ x, 0x10000000 ≤ x → x < 0x10400000 → t.memByte x = s.memByte x) ∧
      ∀ a ∈ s.usedSlots, bitAt (t.memWord (0x10400000 + 4 * ((s.zoneAt a).w0 / 65536))) (s.zoneAt a).level = true) ∧
    (Completes (.zoneClear who) s fun t => t.zone.result = 0 ∧ t.flag F.ZONE_CMD_STAT_BUSY = true ∧ t.getF F.ZONE_STAT_USED = 0 ∧
      (∀ x, 0x10000000 ≤ x → x < 0x10440000 → t.memByte x = 0) ∧ (∀ x, 0x10440000 ≤ x → x < 0x12000000 → t.memByte x = s.memByte x) ∧
      (∀ m, (t.zoneState m).known = false ∧ (t.zoneState m).epoch = (s.zoneState m).epoch) ∧ t.time = s.time)) ∧
  (∀ s : State, s.pagePowered 0x080 = true →
    (s.flag F.ZONE_CMD_STAT_BUSY = true → s.zone.loading = false → s.zone.owed = [] → s.zone.result < 16 → Completes (.zoneCmdComplete false) s fun t =>
      t.flag F.ZONE_CMD_STAT_BUSY = false ∧ t.getF F.ZONE_CMD_STAT_RESULT = s.zone.result ∧ t.event 0x080 0 = true ∧
      t = { s with regs := t.regs }) ∧
    (s.zone.owed ≠ [] → ∀ xtab, exec (.zoneCmdComplete xtab) s = .next s) ∧
    (s.flag F.XTAB_CMD_STAT_BUSY = true → s.zone.owed = [] → s.zone.xtabResult < 16 → Completes (.zoneCmdComplete true) s fun t =>
      t.flag F.XTAB_CMD_STAT_BUSY = false ∧ t.getF F.XTAB_CMD_STAT_RESULT = s.zone.xtabResult ∧ t.event 0x081 0 = true ∧
      t = { s with regs := t.regs }))

/-- Rows WRITE_MACHINE, WRITE_CELL, INVALIDATE_MACHINE, INVALIDATE_CELL and TABLE_DIRECT_WRITE. -/
def Obligations.TableCommands : Prop :=
  (∀ (who : Initiator) (i : Fin 1048576) (s : State), s.opens who 0x81054 true = true →
    (s.flag F.XTAB_CMD_STAT_BUSY = true ∨ s.notActive = true →
      ∀ c ∈ [Instr.writeMachine who i, .writeCell who i, .invalidateMachine who i, .invalidateCell who i],
        exec c s = .next ((s.accessErr 0x11 who 0x81054).respond 0 false)) ∧
    (s.flag F.XTAB_CMD_STAT_BUSY = false → s.notActive = false →
      let done (r : Nat) : State := { s.setFlag F.XTAB_CMD_STAT_BUSY true with zone := { s.zone with xtabResult := r } }.respond 0 false
      (s.machIndexResult i.val ≠ 0 → exec (.writeMachine who i) s = .next (done (s.machIndexResult i.val)) ∧
        exec (.invalidateMachine who i) s = .next (done (s.machIndexResult i.val))) ∧
      (s.cellIndexResult i.val ≠ 0 → exec (.writeCell who i) s = .next (done (s.cellIndexResult i.val)) ∧
        exec (.invalidateCell who i) s = .next (done (s.cellIndexResult i.val))) ∧
      (s.machIndexResult i.val = 0 → machineRecordOk s.staged = false → exec (.writeMachine who i) s = .next (done 3)) ∧
      (s.cellIndexResult i.val = 0 → cellRecordOk s.member (s.getF F.XTAB_CELL_COUNT_COUNT) s.staged = false →
        exec (.writeCell who i) s = .next (done 3)))) ∧
  (∀ (who : Initiator) (i : Fin 1048576) (s : State), s.opens who 0x81054 true = true → s.flag F.XTAB_CMD_STAT_BUSY = false → s.role = 0 →
    let m := i.val % 256
    let version (v : Nat) : Nat := (bitsOf v 31 16 + 1) % 65536
    s.machIndexResult i.val = 0 →
    (machineRecordOk s.staged = true → Completes (.writeMachine who i) s fun t => t.zone.xtabResult = 0 ∧
      t.flag F.XTAB_CMD_STAT_BUSY = true ∧
      t.machWord m 0 = s.staged.getD 0 0 % 65536 + version (s.machWord m 0) * 65536 ∧
      (∀ w, 1 ≤ w → w < 8 → t.machWord m w = s.staged.getD w 0) ∧ (∀ w, 8 ≤ w → w < 16 → t.machWord m w = s.machWord m w) ∧
      ∀ n, n < 256 → n ≠ m → ∀ w, w < 16 → t.machWord n w = s.machWord n w) ∧
    (Completes (.invalidateMachine who i) s fun t => t.zone.xtabResult = 0 ∧ t.machValid m = false ∧
      bitsOf (t.machWord m 0) 31 16 = version (s.machWord m 0) ∧ (∀ w, 1 ≤ w → w < 8 → t.machWord m w = s.machWord m w) ∧
      (∀ w, 8 ≤ w → w < 16 → t.machWord m w = 0) ∧ ∀ n, n < 256 → n ≠ m → ∀ w, w < 16 → t.machWord n w = s.machWord n w)) ∧
  (∀ (who : Initiator) (i : Fin 1048576) (s : State), s.opens who 0x81054 true = true → s.flag F.XTAB_CMD_STAT_BUSY = false → s.role = 0 →
    let c := i.val % 65536
    let version (v : Nat) : Nat := (bitsOf v 31 16 + 1) % 65536
    s.cellIndexResult i.val = 0 →
    (cellRecordOk s.member (s.getF F.XTAB_CELL_COUNT_COUNT) s.staged = true → Completes (.writeCell who i) s fun t =>
      t.zone.xtabResult = 0 ∧ t.cellWord c 0 = s.staged.getD 0 0 % 65536 + version (s.cellWord c 0) * 65536 ∧
      (∀ w, 1 ≤ w → w < 16 → t.cellWord c w = s.staged.getD w 0) ∧
      ∀ n, n < 65536 → n ≠ c → ∀ w, w < 16 → t.cellWord n w = s.cellWord n w) ∧
    (Completes (.invalidateCell who i) s fun t => t.zone.xtabResult = 0 ∧ bitAt (t.cellWord c 0) 0 = false ∧
      bitsOf (t.cellWord c 0) 31 16 = version (s.cellWord c 0) ∧ (∀ w, 1 ≤ w → w < 16 → t.cellWord c w = s.cellWord c w) ∧
      ∀ n, n < 65536 → n ≠ c → ∀ w, w < 16 → t.cellWord n w = s.cellWord n w)) ∧
  (∀ (who : Initiator) (addr : Nat) (s : State), 0x10000000 ≤ addr → addr < 0x12000000 → s.rst.held = false →
    let p := if addr < 0x10440000 then 0x080 else if addr < 0x10900000 then 0x081 else 0x091
    Completes (.tableDirectWrite who addr) s fun t => t.mem = s.mem ∧ t.bus = ⟨0, false⟩ ∧
      t = { s with regs := t.regs, bus := ⟨0, false⟩ } ∧
      (s.flag (F.PG_ERR_INFO_VALID p) = false → t.getF (F.PG_ERR_INFO_CODE p) = 0x07 ∧ t.event p 31 = true ∧
        t.reg (p * 0x1000 + 0x24) = BitVec.ofNat 32 addr))

/-- Rows SHADOW_BLOCK_COMPARE and PASS. -/
def Obligations.ShadowEngine : Prop :=
  (∀ (raced : Bool) (s : State), s.zone.check = none → s.flag F.SHADOW_CTRL_EN = false → exec (.shadowBlockCompare raced) s = .next s) ∧
  (∀ (raced : Bool) (s : State), s.dtuIsPaused 0x0B 0 = true → exec (.shadowBlockCompare raced) s = .next s) ∧
  (∀ s : State, s.pagePowered 0x082 = true → s.zone.check = none → s.flag F.SHADOW_CTRL_EN = true → s.dtuIsPaused 0x0B 0 = false →
    bitAt (s.getF F.SHADOW_CTRL_REGION_EN) s.zone.region = true →
    (s.zone.discards < 2 → exec (.shadowBlockCompare true) s =
      .next { s with zone := { s.zone with discards := s.zone.discards + 1 } }) ∧
    (2 ≤ s.zone.discards → s.getF F.SHADOW_SKIPPED_COUNT + 1 < 2 ^ 32 → Completes (.shadowBlockCompare true) s fun t =>
      t.getF F.SHADOW_SKIPPED_COUNT = s.getF F.SHADOW_SKIPPED_COUNT + 1 ∧ t.event 0x082 4 = true ∧ t.zone.discards = 0 ∧
      t = { s with regs := t.regs, fifos := t.fifos, zone := t.zone })) ∧
  (∀ (region block : Nat) (s : State), s.pagePowered 0x082 = true → s.dtuIsPaused 0x0B 0 = false →
    (s.zone.check = some (region, block) ∨ (s.zone.check = none ∧ s.flag F.SHADOW_CTRL_EN = true ∧
      bitAt (s.getF F.SHADOW_CTRL_REGION_EN) s.zone.region = true ∧ region = s.zone.region ∧ block = s.zone.block)) →
    let a := 0x10000000 + (shadowRegion region).1 + 0x1000 * block
    let sh := s.clientRead 0x0B 0 (s.getF F.SHADOW_BASE_BASE * 0x1000 + ((shadowRegion region).1 + 0x1000 * block)) 0x1000
    (sh.1.fault ≠ none → Completes (.shadowBlockCompare false) s fun t => t.dtuIsPaused 0x0B 0 = true ∧ t.mem.bytes = s.mem.bytes ∧
      t.zone = s.zone) ∧
    (sh.1.fault = none → sh.1.bad = false → sh.2.badWords a 0x1000 = [] →
      (sh.2.memBytes a 0x1000 = sh.1.data → block + 1 < (shadowRegion region).2 →
        (s.zone.check = none → exec (.shadowBlockCompare false) s =
          .next { sh.2 with zone := { sh.2.zone with block := block + 1, discards := 0 } }) ∧
        (s.zone.check ≠ none → exec (.shadowBlockCompare false) s = .next { sh.2 with zone := { sh.2.zone with check := none } })) ∧
      (sh.2.memBytes a 0x1000 ≠ sh.1.data →
        (sh.2.flag F.SHADOW_CTRL_REPAIR = false →
          Completes (.shadowBlockCompare false) s fun t => t.mem = sh.2.mem ∧ t.event 0x082 0 = true ∧
            t.zone.mismatches = sh.2.zone.mismatches + 1) ∧
        (sh.2.flag F.SHADOW_CTRL_REPAIR = true →
          Completes (.shadowBlockCompare false) s fun t => t.memBytes a 0x1000 = sh.1.data ∧ t.event 0x082 0 = true ∧
            t.event 0x082 1 = true ∧ t.zone.mismatches = sh.2.zone.mismatches + 1 ∧
            ∀ x, x < a ∨ a + 0x1000 ≤ x → t.memByte x = sh.2.memByte x)))) ∧
  (∀ (who : Initiator) (s : State), s.opens who 0x82064 true = true → Completes (.shadowPass who) s fun t =>
    t.zone.block = 0 ∧ t.zone.discards = 0 ∧ (bitAt (s.getF F.SHADOW_CTRL_REGION_EN) 0 = true → t.zone.region = 0) ∧
    t = { s with zone := t.zone, bus := ⟨0, false⟩ })

/-- Rows STOP_MEMBER, STOP_SITE and CLEAR_MACHINE. Rows ARM, ARM_LOST, ROLE, WITHDRAWAL, STOP_ADOPT and CFG_COMMIT. -/
def Obligations.StopsAndUnitConditions : Prop :=
  (
    (∀ (who : Initiator) (detail : Fin 256) (s : State), s.opens who 0xC0050 true = true →
      s.poppy.a.held = false ∨ s.poppy.b.held = false →
      (Completes (.stopMember who detail) s fun t => t.poppy.site = false ∧ t.poppy.map = s.poppy.map ∧
        (∃ x, t.poppy.stops = s.poppy.stops ++ [x] ∧ x.scope = 1 ∧ x.cause = requestCause who ∧ x.detail = detail.val ∧
          x.origin = s.poppyMember ∧ x.id = s.poppy.nextId % 65536 ∧ x.raisedAt = s.now) ∧
        t.poppy.reqCount = (s.poppy.reqCount + 1) % 65536 ∧ t.event 0x0C0 2 = true ∧
        t = { s with regs := t.regs, fifos := t.fifos, poppy := t.poppy, bus := ⟨0, false⟩ }) ∧
      (Completes (.stopSite who detail) s fun t => t.poppy.site = false ∧ t.poppy.map = s.poppy.map ∧
        (∃ x, t.poppy.stops = s.poppy.stops ++ [x] ∧ x.scope = 0 ∧ x.cause = requestCause who ∧ x.detail = detail.val ∧
          x.origin = s.poppyMember ∧ x.id = s.poppy.nextId % 65536 ∧ x.raisedAt = s.now) ∧
        t.poppy.reqCount = (s.poppy.reqCount + 1) % 65536 ∧ t.event 0x0C0 2 = true ∧
        t = { s with regs := t.regs, fifos := t.fifos, poppy := t.poppy, bus := ⟨0, false⟩ })) ∧
    (∀ (who : Initiator) (detail m : Fin 256) (s : State), s.opens who 0xC0050 true = true →
      (s.poppy.a.map.getLsbD m.val = true ∨ s.poppy.b.map.getLsbD m.val = true → s.poppy.a.held = false ∨ s.poppy.b.held = false →
        Completes (.clearMachine who detail m) s fun t => t.poppy.map.getLsbD m.val = false ∧
          (∀ j, j ≠ m.val → t.poppy.map.getLsbD j = s.poppy.map.getLsbD j) ∧ t.poppy.site = s.poppy.site ∧
          (∃ x ∈ t.poppy.stops, x.scope = 2 ∧ x.cause = requestCause who ∧ x.detail = detail.val ∧ m.val ∈ x.machines) ∧
          t = { s with regs := t.regs, fifos := t.fifos, poppy := t.poppy, bus := ⟨0, false⟩ }) ∧
      (s.poppy.a.map.getLsbD m.val = false → s.poppy.b.map.getLsbD m.val = false → exec (.clearMachine who detail m) s =
        .next ({ s with poppy := { s.poppy with reqCount := (s.poppy.reqCount + 1) % 65536 } }.respond 0 false)))) ∧
  (
    (∀ (who : Initiator) (w : Word) (s : State), s.opens who 0xC0048 true = true →
      let count := bitsOf w.toNat 15 0
      ((∃ k, who = .ctl k) → bitsOf w.toNat 31 16 = 0xC3A5 → (s.poppy.armAt = none ∨ count = (s.poppy.armCount + 1) % 65536) →
        Completes (.arm who w) s fun t => t.poppy.armAt = some s.now ∧ t.poppy.armCount = count ∧ t.armFresh = true ∧
          t = { s with regs := t.regs, fifos := t.fifos, poppy := t.poppy, bus := ⟨0, false⟩ }) ∧
      ((∀ k, who ≠ .ctl k) ∨ bitsOf w.toNat 31 16 ≠ 0xC3A5 ∨ (s.poppy.armAt ≠ none ∧ count ≠ (s.poppy.armCount + 1) % 65536) →
        exec (.arm who w) s = .next ((s.accessErr 0x11 who 0xC0048).respond 0 false))) ∧
    (∀ s : State, s.armFresh = false → s.poppy.withheld = false → Completes .armLost s fun t =>
      t.poppy = { s.poppy with withheld := true, lapsed := false } ∧ t.event 0x0C0 0 = true ∧ t = { s with regs := t.regs, poppy := t.poppy }) ∧
    (∀ s : State, s.poppy.withheld = s.withholding → exec .armLost s = .next s) ∧
    (∀ (who : Initiator) (role : Fin 4) (s : State), s.opens who 0xC0058 true = true →
      ((∃ k, who = .ctl k) → role ≠ 0 → Completes (.poppyRole who role) s fun t => t.poppy.role = role.val ∧
        t = { s with regs := t.regs, fifos := t.fifos, poppy := t.poppy, bus := ⟨0, false⟩ }) ∧
      ((∀ k, who ≠ .ctl k) ∨ role = 0 → exec (.poppyRole who role) s = .next ((s.accessErr 0x11 who 0xC0058).respond 0 false))) ∧
    (∀ s : State,
      (s.withdrawalDue = true → Completes .withdrawal s fun t => t.poppy.site = false ∧ t.poppy.map = s.poppy.map ∧
        t.poppy.stops = s.poppy.stops ∧ (∃ c d, s.poppyFailing.head? = some c ∧ t.poppy.withdrawn = some (c, d)) ∧ t.withdrawalDue = false ∧
        t = { s with regs := t.regs, poppy := t.poppy }) ∧
      (s.withdrawalDue = false → exec .withdrawal s = .next s)) ∧
    (∀ (x : Fin 2) (s : State),
      ((s.pchan x.val).held = true → exec (.stopAdopt x) s = .next s) ∧
      ((s.pchan x.val).held = false → Completes (.stopAdopt x) s fun t =>
        (∀ y ∈ t.poppy.stops, if x = 0 then y.inA = true else y.inB = true) ∧ t.poppy.stops.length = s.poppy.stops.length ∧
        t.pchan (1 - x.val) = s.pchan (1 - x.val) ∧
        ((∃ y ∈ s.poppy.stops, y.scope < 2 ∧ (if x = 0 then y.inA = false else y.inB = false)) → (t.pchan x.val).site = false) ∧
        t = { s with regs := t.regs, poppy := t.poppy })) ∧
    (∀ (who : Initiator) (s : State), s.opens who 0xC0130 true = true →
      let words := (List.range 12).map (fun i => (s.reg (0xC0100 + 4 * i)).toNat) ++ [0]
      let short := (List.range 8).any fun n =>
        bitAt (words.getD (4 + n) 0) 31 && decide (bitsOf (words.getD (4 + n) 0) 9 0 < bitsOf (words.getD 1 0) 15 0 + 50)
      ((∀ k, who ≠ .ctl k) ∨ s.lifeCycle ≠ LifeCycle.provision →
        exec (.cfgCommit who) s = .next ((s.accessErr 0x11 who 0xC0130).respond 0 false)) ∧
      ((∃ k, who = .ctl k) → s.lifeCycle = LifeCycle.provision →
        (short = true → exec (.cfgCommit who) s = .next ((s.accessErr 0x12 who 0xC0130).respond 0 false)) ∧
        (short = false → Completes (.cfgCommit who) s fun t =>
          (s.poppy.a.held = false → t.poppy.a.cfg = words ∧ t.poppy.a.crc = poppyCrc words) ∧
          (s.poppy.b.held = false → t.poppy.b.cfg = words ∧ t.poppy.b.crc = poppyCrc words) ∧
          t = { s with regs := t.regs, fifos := t.fifos, poppy := t.poppy, bus := ⟨0, false⟩ }))))

/-- Rows TOKEN_SAMPLE, TOKEN_PLACE, STOP_PRESENTATION, REL_GO and RELEASE_DONE. -/
def Obligations.TokensAndReleases : Prop :=
  (∀ (tok rel : List Byte) (s : State), let n := (s.taiNs + 100000) / 20000000
    let compared := { s.poppy with compared := true, diff := none }
    s.taiNs ≤ n * 20000000 → Assoc.get (fun _ => 0) s.time.edges 10 < n * 20000000 →
    (s.poppyDiff = none → s.poppy.compared = true → s.withholding = s.poppy.withheld →
      (s.withholdingBut = false → s.poppy.keys = some (tok, rel) → Completes .tokenSample s fun t =>
        t.poppy = { compared with
          sampled := some ⟨n % 2 ^ 32, s.tokenBytes (n % 2 ^ 32) tok, max (n * 20000000 - 20000) (s.taiNs + 80000)⟩ } ∧
        t = { s with time := t.time, poppy := t.poppy }) ∧
      (s.withholdingBut = true → Completes .tokenSample s fun t => t.poppy = compared ∧
        t = { s with time := t.time, poppy := t.poppy })) ∧
    (s.poppyDiff ≠ none → s.poppyDiff = s.poppy.diff → Completes .tokenSample s fun t => t.poppy.disagree = true ∧
      t.poppy.site = false ∧ t.poppy.sampled = s.poppy.sampled ∧
      t = { s with regs := t.regs, fifos := t.fifos, time := t.time, poppy := t.poppy })) ∧
  (∀ s : State, let n := (s.taiNs + 100000) / 20000000
    n * 20000000 < s.taiNs ∨ n * 20000000 ≤ Assoc.get (fun _ => 0) s.time.edges 10 → exec .tokenSample s = .next s) ∧
  (∀ (x : SampledToken) (s : State), s.poppy.sampled = some x → x.placeAt ≤ s.taiNs → s.poppy.a.held = false → s.poppy.b.held = false →
    (s.withholdingBut = true → Completes (.tokenPlace true) s fun t => t.poppy.token = s.poppy.token ∧ t.poppy.lastIssued = s.poppy.lastIssued ∧
      t.poppy.sampled = none ∧ t.poppy.blocked = false ∧ t.poppy.blockRun = 0 ∧
      t = { s with regs := t.regs, fifos := t.fifos, poppy := t.poppy }) ∧
    (s.withholdingBut = false → Completes (.tokenPlace true) s fun t => t.poppy.token = x.bytes ∧ t.poppy.tokenSfn = x.sfn ∧
      t.poppy.lastIssued = some x.sfn ∧
      t.poppy.sampled = none ∧ t.poppy.blocked = false ∧ t.poppy.blockRun = 0 ∧
      t = { s with regs := t.regs, fifos := t.fifos, poppy := t.poppy }) ∧
    (Completes (.tokenPlace false) s fun t => t.poppy.token = s.poppy.token ∧ t.poppy.lastIssued = s.poppy.lastIssued ∧
      t.poppy.sampled = none ∧ t.poppy.blocked = true ∧ t.poppy.blockRun = s.poppy.blockRun + 1 ∧
      (s.poppy.blockRun = 1 → t.poppy.disagree = true ∧ t.poppy.site = false) ∧
      t = { s with regs := t.regs, fifos := t.fifos, poppy := t.poppy })) ∧
  (∀ (x : SampledToken) (checked : Bool) (s : State), s.poppy.sampled = some x → x.placeAt ≤ s.taiNs →
    (s.poppy.a.held = true ∨ s.poppy.b.held = true) →
    exec (.tokenPlace checked) s = .next { s with poppy := { s.poppy with sampled := none } }) ∧
  (∀ (n : Nat) (s : State), s.edgeDue 11 250000 = some n →
    (s.presentSlot (n / 250000 % 80) = false → exec .stopPresentation s = .next (s.edgeDone 11 n)) ∧
    (∀ (tok rel : List Byte) (x : PoppyStop), s.presentSlot (n / 250000 % 80) = true → s.poppy.keys = some (tok, rel) →
      s.poppy.a.held = false → s.poppy.b.held = false →
      s.poppy.stops = [x] → x.scope < 2 → x.raisedAt + 60000 ≤ s.now → s.now ≤ x.raisedAt + 500000000 →
      Completes .stopPresentation s fun t => t.poppy.stops = [{ x with shownAt := some s.now }] ∧ t.poppy.imageSlot = some n ∧
        t.poppy.image = s.imageBytes tok (n / 20000000 % 2 ^ 32) x.scope x.cause x.detail x.id
          (if x.scope = 0 then x.origin else s.poppyMember) [] ∧ t.poppy.site = s.poppy.site ∧ t.poppy.map = s.poppy.map ∧
        t = { s with time := t.time, poppy := t.poppy, freeCtr := t.freeCtr }) ∧
    (s.poppy.a.held = true ∨ s.poppy.b.held = true ∨ s.poppy.keys = none →
      exec .stopPresentation s = .next (s.edgeDone 11 n))) ∧
  (∀ (who : Initiator) (s : State), s.opens who 0xC00B4 true = true →
    (s.poppy.release ≠ none → exec (.relGo who) s = .next ((s.accessErr 0x11 who 0xC00B4).respond 0 false)) ∧
    (s.poppy.release = none → Completes (.relGo who) s fun t =>
      t.poppy = { s.poppy with release := some ⟨s.getF F.POPPY_REL_CMD_REG, s.getF F.POPPY_REL_SFN_SFN,
        s.getF F.POPPY_REL_SERIAL_SERIAL, s.getF F.POPPY_REL_TAG_TAG⟩ } ∧ t = { s with poppy := t.poppy, bus := ⟨0, false⟩ })) ∧
  (∀ (r : PoppyRelease) (s : State), s.poppy.release = some r →
    (s.releaseResult r ≠ 0 → Completes .releaseDone s fun t => t.poppy = { s.poppy with release := none, result := s.releaseResult r } ∧
      t.event 0x0C0 5 = true ∧ t = { s with regs := t.regs, poppy := t.poppy }) ∧
    (s.releaseResult r = 0 → Completes .releaseDone s fun t => t.poppy.release = none ∧ t.poppy.result = 0 ∧
      t.poppy.lastSerial = r.serial ∧ t.event 0x0C0 4 = true ∧
      (bitsOf r.cmd 31 30 = 0 → t.poppy.site = true ∧ t.poppy.map = s.poppy.map ∧ t.poppy.withdrawn = none ∧
        ∀ y ∈ t.poppy.stops, y.scope = 2) ∧
      (bitsOf r.cmd 31 30 = 1 → t.poppy.site = s.poppy.site ∧ ∀ m, m < 256 →
        t.poppy.map.getLsbD m = (s.poppy.map.getLsbD m || (decide (bitsOf r.cmd 15 8 ≤ m) && decide (m ≤ bitsOf r.cmd 7 0)))) ∧
      (bitsOf r.cmd 31 30 = 2 → t.poppy.site = true ∧ t.poppy.withdrawn = none ∧ (∀ m, m < 256 → t.poppy.map.getLsbD m = true) ∧
        ∀ y ∈ t.poppy.stops, y.scope = 2) ∧
      t = { s with regs := t.regs, fifos := t.fifos, poppy := t.poppy })) ∧
  (∀ s : State, s.poppy.release = none → exec .releaseDone s = .next s)

/-- Rows TEST_PULSE, WIRED_INPUT_OPEN, WIRED_INPUT_CLOSED, WIRING_FAULT, WIRING_FAULT_CLEAR and READBACK_FAULT. -/
def Obligations.WiredInputsAndOutputs : Prop :=
  (∀ (x : Fin 2) (s : State), let c := s.pchan x.val
    ((c.held = true ∨ s.now < c.tpNext) → exec (.testPulse x) s = .next s) ∧
    (c.held = false → c.tpNext ≤ s.now → Completes (.testPulse x) s fun t =>
      t.pchan x.val = { c with tpLow := s.now + 1000 * bitsOf (c.word 0x104) 15 0, tpNext := s.now + 1000 * bitsOf (c.word 0x104) 31 16 } ∧
      t.pchan (1 - x.val) = s.pchan (1 - x.val) ∧ t = { s with poppy := t.poppy })) ∧
  (∀ (x : Fin 2) (n : Fin 8) (s : State), let c := s.pchan x.val
    let other := s.pchan (1 - x.val)
    let scope := if c.inSite n.val then 0 else 1
    (c.held = false → bitAt c.closed n.val = true →
      (c.inEn n.val = false → Completes (.wiredInputOpen x n) s fun t => bitAt (t.pchan x.val).closed n.val = false ∧
        t.poppy.stops = s.poppy.stops ∧ t.poppy.site = s.poppy.site ∧ t = { s with poppy := t.poppy }) ∧
      (c.inEn n.val = true → (∀ y ∈ s.poppy.stops, ¬(y.scope = scope ∧ y.cause = 0x01 ∧ y.detail = n.val)) →
        Completes (.wiredInputOpen x n) s fun t =>
          bitAt (t.pchan x.val).closed n.val = false ∧ t.poppy.site = false ∧ t.event 0x0C0 6 = true ∧
          (∃ y, t.poppy.stops = s.poppy.stops ++ [y] ∧ y.cause = 0x01 ∧ y.detail = n.val ∧ y.scope = scope) ∧
          t = { s with regs := t.regs, fifos := t.fifos, poppy := t.poppy }) ∧
      (c.inEn n.val = true → (∃ y ∈ s.poppy.stops, y.scope = scope ∧ y.cause = 0x01 ∧ y.detail = n.val) →
        Completes (.wiredInputOpen x n) s fun t =>
          bitAt (t.pchan x.val).closed n.val = false ∧ t.event 0x0C0 6 = true ∧ t.poppy.stops.length = s.poppy.stops.length ∧
          (∀ y ∈ t.poppy.stops, if x.val = 0 then y.inA = true else y.inB = true) ∧
          t = { s with regs := t.regs, poppy := t.poppy })) ∧
    ((c.held = true ∨ bitAt c.closed n.val = false) → exec (.wiredInputOpen x n) s = .next s) ∧
    ((c.held = true ∨ bitAt c.closed n.val = true) → exec (.wiredInputClosed x n) s = .next s) ∧
    (c.held = false → bitAt c.closed n.val = false → Completes (.wiredInputClosed x n) s fun t =>
      (t.pchan x.val).closed = c.closed + 2 ^ n.val ∧ t.pchan (1 - x.val) = other ∧ t.poppy.stops = s.poppy.stops ∧
      t = { s with poppy := t.poppy }) ∧
    (c.held = false → c.inEn n.val = true → c.inTest n.val = true → Completes (.wiringFault x n false) s fun t =>
      bitAt t.poppy.tpFault n.val = true ∧ t.poppy.discFault = s.poppy.discFault ∧
      (bitAt s.poppy.tpFault n.val = false → bitAt s.poppy.discFault n.val = false → t.event 0x0C0 7 = true ∧ t.poppy.site = false ∧
        ∃ y, t.poppy.stops = s.poppy.stops ++ [y] ∧ y.cause = 0x0B ∧ y.detail = n.val ∧ y.scope = scope) ∧
      t = { s with regs := t.regs, fifos := t.fifos, poppy := t.poppy }) ∧
    ((c.held = true ∨ c.inEn n.val = false) → ∀ disc, exec (.wiringFault x n disc) s = .next s) ∧
    (∀ at_, c.inEn n.val = true → s.poppy.a.held = false → s.poppy.b.held = false →
      s.poppy.diffAt.find? (fun e => e.1 == n.val) = some (n.val, at_) → at_ + 1000000 * c.discMs n.val ≤ s.now →
      Completes (.wiringFault x n true) s fun t => bitAt t.poppy.discFault n.val = true ∧ t.poppy.tpFault = s.poppy.tpFault ∧
        (bitAt s.poppy.tpFault n.val = false → bitAt s.poppy.discFault n.val = false → t.event 0x0C0 7 = true ∧ t.poppy.site = false ∧
          ∃ y, t.poppy.stops = s.poppy.stops ++ [y] ∧ y.cause = 0x0B ∧ y.detail = n.val ∧ y.scope = scope) ∧
        t = { s with regs := t.regs, fifos := t.fifos, poppy := t.poppy })) ∧
  (∀ (n : Fin 8) (at_ : Nat) (s : State), s.poppy.clearFrom.find? (fun e => e.1 == n.val) = some (n.val, at_) →
    bitAt s.poppy.a.closed n.val = true → bitAt s.poppy.b.closed n.val = true → at_ + 100000000 ≤ s.now →
    Completes (.wiringFaultClear n) s fun t => bitAt t.poppy.tpFault n.val = false ∧ bitAt t.poppy.discFault n.val = false ∧
      t.poppy.stops = s.poppy.stops ∧ t = { s with poppy := t.poppy }) ∧
  (∀ (n : Fin 8) (s : State), s.poppy.clearFrom.find? (fun e => e.1 == n.val) = none → exec (.wiringFaultClear n) s = .next s) ∧
  (∀ (x : Fin 2) (k : Fin 4) (s : State), let c := s.pchan x.val
    (c.held = true ∨ bitAt c.outEn k.val = false ∨ bitAt c.fb k.val = true ∨
      s.ioLost = true ∧ bitAt (s.outputs x.val) k.val = false → exec (.readbackFault x k) s = .next s) ∧
    (c.held = false → bitAt c.outEn k.val = true → bitAt c.fb k.val = false →
      (s.ioLost = true → bitAt (s.outputs x.val) k.val = true) → Completes (.readbackFault x k) s fun t =>
      (t.pchan x.val).fb = c.fb + 2 ^ k.val ∧ t.outputs x.val = 0 ∧ t.poppy.site = false ∧ t.event 0x0C0 7 = true ∧
      (∃ y, t.poppy.stops = s.poppy.stops ++ [y] ∧ y.cause = 0x0B ∧ y.detail = 0x10 + k.val ∧ y.scope = 1) ∧
      t = { s with regs := t.regs, fifos := t.fifos, poppy := t.poppy }))

/-- Rows MARKER, MEMBER_SLOT, SLOT_SAMPLE and BUS_LOST. -/
def Obligations.StopBus : Prop :=
  (∀ (x : Fin 2) (s : State), let c := s.pchan x.val
    ((c.held = true ∨ c.busEn = false) → ∀ seen, exec (.busMarker x seen) s = .next s) ∧
    (c.held = false → c.busEn = true →
      (c.lead = false → Completes (.busMarker x true) s fun t =>
        t.pchan x.val = { c with marker := some s.now, cycle := some s.now, busLost := false } ∧
        t.pchan (1 - x.val) = s.pchan (1 - x.val) ∧ t = { s with poppy := t.poppy }) ∧
      (c.lead = false → exec (.busMarker x false) s = .next s) ∧
      (∀ a, c.lead = true → c.cycle = some a → a + 1800000 ≤ s.now → Completes (.busMarker x false) s fun t =>
        t.pchan x.val = { c with cycle := some s.now, marker := some s.now, busLost := false, markerLow := s.now + 100000 } ∧
        t.pchan (1 - x.val) = s.pchan (1 - x.val) ∧ t = { s with poppy := t.poppy }))) ∧
  (∀ (x : Fin 2) (a : Nat) (s : State), let c := s.pchan x.val
    c.held = false → c.busEn = true → c.cycle = some a → a + 200000 + 100000 * c.member ≤ s.now →
    Completes (.memberSlot x) s fun t => t = { s with poppy := t.poppy } ∧
      (t.pchan x.val).slotPull = !(s.poppy.stops.any fun y => y.scope == 0 && !y.fromBus && (if x.val = 0 then y.inA else y.inB)) ∧
      bitAt t.poppy.seen c.member = ((t.pchan x.val).slotPull && (s.pchan (1 - x.val)).slotPull) ∧
      t.pchan (1 - x.val) = s.pchan (1 - x.val)) ∧
  (∀ (x : Fin 2) (s : State), ((s.pchan x.val).held = true ∨ (s.pchan x.val).busEn = false ∨ (s.pchan x.val).cycle = none) →
    exec (.memberSlot x) s = .next s) ∧
  (∀ (m : Fin 16) (s : State), s.poppy.a.held = false → s.poppy.b.held = false → s.poppy.a.busEn = true →
    (s.markerSeen 0 = true ∨ s.markerSeen 1 = true) →
    (Completes (.slotSample m true true) s fun t => bitAt t.poppy.seen m.val = true ∧ bitAt t.poppy.missing m.val = false ∧
      t.poppy.stops = s.poppy.stops ∧ t = { s with poppy := t.poppy }) ∧
    (∀ lowA lowB, (lowA && lowB) = false → bitAt s.poppy.a.expect m.val = true → m.val ≠ s.poppyMember → bitAt s.poppy.missing m.val = false →
      Completes (.slotSample m lowA lowB) s fun t => bitAt t.poppy.seen m.val = false ∧ bitAt t.poppy.missing m.val = true ∧
        t.event 0x0C0 8 = true ∧ t.poppy.site = false ∧
        (∃ y, t.poppy.stops = s.poppy.stops ++ [y] ∧ y.cause = 0x02 ∧ y.detail = m.val ∧ y.scope = 1 ∧ y.fromBus = true) ∧
        t = { s with regs := t.regs, fifos := t.fifos, poppy := t.poppy })) ∧
  (∀ (x : Fin 2) (s : State), let c := s.pchan x.val
    let last := c.marker.getD c.busFrom
    let lost (t : State) : Prop := (t.pchan x.val).busLost = true ∧ (c.lead = false → (t.pchan x.val).cycle = none) ∧
      t.event 0x0C0 9 = true ∧ t = { s with regs := t.regs, fifos := t.fifos, poppy := t.poppy }
    (c.held = true ∨ c.busEn = false ∨ c.busLost = true ∨ s.now / 1000 ≤ last / 1000 + 1900 → exec (.busLost x) s = .next s) ∧
    (c.held = false → c.busEn = true → c.busLost = false → last / 1000 + 1900 < s.now / 1000 →
      ((∀ y ∈ s.poppy.stops, ¬(y.scope = 1 ∧ y.cause = 0x0F ∧ y.detail = c.leadMember)) → Completes (.busLost x) s fun t =>
        lost t ∧ t.poppy.site = false ∧
        ∃ y, t.poppy.stops = s.poppy.stops ++ [y] ∧ y.cause = 0x0F ∧ y.detail = c.leadMember ∧ y.scope = 1) ∧
      ((∃ y ∈ s.poppy.stops, y.scope = 1 ∧ y.cause = 0x0F ∧ y.detail = c.leadMember) → Completes (.busLost x) s fun t =>
        lost t ∧ t.poppy.stops.length = s.poppy.stops.length ∧
        ∀ y ∈ t.poppy.stops, if x.val = 0 then y.inA = true else y.inB = true)))

/-- Rows HEARTBEAT_SEND, HEARTBEAT_FRAME, HEARTBEAT_MISSING, POPPY_CHANNEL_MONITOR and POPPY_CHANNEL_RELEASE. -/
def Obligations.HeartbeatsAndChannelResets : Prop :=
  (∀ (x : Fin 2) (s : State), let c := s.pchan x.val
    (c.held = true ∨ s.now < c.hbNext → exec (.heartbeatSend x) s = .next s) ∧
    (c.held = false → c.hbNext ≤ s.now → Completes (.heartbeatSend x) s fun t =>
      t.sent = (if s.ioLost then s.sent else .heartbeat x.val (s.heartbeatFrame x.val) :: s.sent) ∧
      (s.heartbeatFrame x.val).length = 88 ∧
      t.pchan x.val = { c with hbNext := s.now + 1000000, fseq := (c.fseq + 1) % 256 } ∧
      t = { s with sent := t.sent, poppy := t.poppy })) ∧
  (∀ (x : Fin 2) (b : List Byte) (s : State), let c := s.pchan x.val
    let b1 := leValue ((b.drop 1).take 1)
    let good := b.length = 88 ∧ leValue (b.take 1) = 0x7E ∧ crc32 (b.take 84) = leValue (b.drop 84) ∧ b1 / 16 = c.member ∧
      bitsOf b1 3 3 ≠ c.unit
    (¬good ∨ c.held = true → exec (.heartbeatFrame x b) s = .next s) ∧
    (good → c.held = false → leValue ((b.drop 3).take 1) = 0 → Completes (.heartbeatFrame x b) s fun t =>
      t.pchan x.val = { c with hbAt := s.now, hbOk := true, hb := some (hbReport b), map := c.map &&& (hbReport b).map } ∧
      t.poppy.stops = s.poppy.stops ∧ t.pchan (1 - x.val) = s.pchan (1 - x.val) ∧ t.pair.evidNow = true ∧
      t = { s with poppy := t.poppy, pair := t.pair }) ∧
    (good → c.held = false → Completes (.heartbeatFrame x b) s fun t =>
      (t.pchan x.val).hbAt = s.now ∧ (t.pchan x.val).hbOk = true ∧ (t.pchan x.val).hb = some (hbReport b) ∧
      (∀ m, m < 256 → (hbReport b).map.getLsbD m = false → (t.pchan x.val).map.getLsbD m = false) ∧
      (∀ r ∈ (hbReport b).stops, r.2.1 < 2 → holdsStop s.poppy.stops r = false → (t.pchan x.val).site = false) ∧
      t = { s with regs := t.regs, fifos := t.fifos, poppy := t.poppy, pair := { s.pair with evidNow := true } })) ∧
  (∀ (x : Fin 2) (s : State), let c := s.pchan x.val
    (c.hbOk = false ∨ s.now / 1000 ≤ c.hbAt / 1000 + 3000 → exec (.heartbeatMissing x) s = .next s) ∧
    (c.hbOk = true → c.hbAt / 1000 + 3000 < s.now / 1000 → Completes (.heartbeatMissing x) s fun t => t.pchan x.val = { c with hbOk := false } ∧
      ((s.pchan (1 - x.val)).hbOk = false → s.poppy.a.pair = true → t.event 0x0C0 10 = true ∧ t.event 0x0C0 7 = true) ∧
      t = { s with regs := t.regs, poppy := t.poppy })) ∧
  (∀ (x : Fin 2) (s : State),
    (Completes (.poppyChannelMonitor x) s fun t => t.pchan x.val = { held := true, hbNext := s.now } ∧
      t.poppy.site = false ∧ t.poppy.map = 0 ∧ t.outputs x.val = 0 ∧ t.pchan (1 - x.val) = s.pchan (1 - x.val) ∧
      t.poppy.stops = s.poppy.stops ∧ t = { s with regs := t.regs, poppy := t.poppy }) ∧
    ((s.pchan x.val).held = false ∨ s.rst.held = true → exec (.poppyChannelRelease x) s = .next s) ∧
    ((s.pchan x.val).held = true → s.rst.held = false → Completes (.poppyChannelRelease x) s fun t => (t.pchan x.val).held = false ∧
      (t.pchan x.val).site = false ∧ (t.pchan x.val).cfg = poppyCfgReset ∧ (t.pchan x.val).map = 0 ∧
      t.pchan (1 - x.val) = s.pchan (1 - x.val) ∧ t.poppy.stops.length = s.poppy.stops.length ∧
      (∀ y ∈ t.poppy.stops, if x.val = 0 then y.inA = true else y.inB = true) ∧ t = { s with regs := t.regs, poppy := t.poppy }))

/-- Rows CREATE, DELETE, SLEEP, WAIT_IRQ, YIELD, SET_LEVEL, WAKE, SUSPEND and RESUME. `on` names the thread a command acts on. Rows
DELAY_EXPIRY, WAIT_TIMEOUT, CORE_ACK, ASK_TIMEOUT and EXPIRE. -/
def Obligations.ThreadsAndDispatchEvents : Prop :=
  (
    (∀ (who : Initiator) (ticks : Fin 16777216) (level : Fin 64) (s : State), s.opens who 0x21048 true = true →
      let refused (c : Instr) : Prop := exec c s = .next ((s.accessErr 0x11 who 0x21048).respond 0 false)
      refused (.threadCreate who true) ∧ refused (.threadWake who true) ∧ refused (.threadResume who true) ∧
      ((∀ k, who ≠ .ctl k) → refused (.threadDelete who true) ∧ refused (.waitIrq who true ticks) ∧ refused (.threadYield who true) ∧
        refused (.setLevel who true level) ∧ refused (.threadSuspend who true) ∧ (ticks.val ≠ 0 → refused (.threadSleep who true ticks))) ∧
      (∀ self, exec (.threadSleep who self 0) s = .next ((s.accessErr 0x10 who 0x21048).respond 0 false))) ∧
    (∀ (who : Initiator) (self : Bool) (ticks : Fin 16777216) (level : Fin 64) (x : Nat) (s : State), s.opens who 0x21048 true = true →
      s.sched.thrBusy = false → s.time.catchFrom = none →
      let on := (self = false ∧ x = s.getF F.SCHED_THR_INDEX_THREAD) ∨ (self = true ∧ ∃ k : Fin 4, who = .ctl k ∧ (s.schedCore k.val).run = some x)
      let st := (s.thread x).st
      let kept (t : State) : Prop :=
        t = { s with regs := t.regs, fifos := t.fifos, mem := t.mem, freeCtr := t.freeCtr, sched := t.sched, bus := ⟨0, false⟩ } ∧
        (s.flag F.SCHED_TRC_CTRL_EN = false → t.mem = s.mem ∧ t.fifos = s.fifos ∧ t.freeCtr = s.freeCtr)
      let wrong (c : Instr) : Prop := Completes c s fun t => t.sched.thrRes = 1 ∧ t.event 0x021 0 = true ∧ t.event 0x021 1 = true ∧
        t.sched = { s.sched with thrRes := 1, seq := t.sched.seq, wptr := t.sched.wptr } ∧ kept t
      on →
      (self = false → st ≠ ThreadState.free → wrong (.threadCreate who self)) ∧
      (st = ThreadState.free → wrong (.threadDelete who self) ∧ wrong (.setLevel who self level)) ∧
      (st ≠ ThreadState.running → wrong (.waitIrq who self ticks) ∧ wrong (.threadYield who self) ∧
        (ticks.val ≠ 0 → wrong (.threadSleep who self ticks))) ∧
      (self = false → st ≠ ThreadState.delayed → st ≠ ThreadState.waitIrq → wrong (.threadWake who self)) ∧
      (st ≠ ThreadState.ready → wrong (.threadSuspend who self)) ∧
      (self = false → st ≠ ThreadState.suspended → wrong (.threadResume who self))) ∧
    (∀ (who : Initiator) (self : Bool) (ticks : Fin 16777216) (level : Fin 64) (x : Nat) (s : State), s.opens who 0x21048 true = true →
      s.sched.thrBusy = false → s.time.catchFrom = none →
      let on := (self = false ∧ x = s.getF F.SCHED_THR_INDEX_THREAD) ∨ (self = true ∧ ∃ k : Fin 4, who = .ctl k ∧ (s.schedCore k.val).run = some x)
      let th := s.thread x
      let kept (t : State) : Prop :=
        t = { s with regs := t.regs, fifos := t.fifos, mem := t.mem, freeCtr := t.freeCtr, sched := t.sched, bus := ⟨0, false⟩ } ∧
        (s.flag F.SCHED_TRC_CTRL_EN = false → t.mem = s.mem ∧ t.fifos = s.fifos ∧ t.freeCtr = s.freeCtr)
      let does (c : Instr) (p : State → Prop) : Prop := Completes c s fun t => t.sched.thrRes = 0 ∧ t.event 0x021 0 = true ∧ kept t ∧ p t
      on →
      (th.st ≠ ThreadState.free → does (.threadDelete who self) fun t => t.thread x = {} ∧ x ∉ t.sched.ready) ∧
      (th.st ≠ ThreadState.free → does (.setLevel who self level) fun t => (t.thread x).level = level.val) ∧
      (th.st = ThreadState.running → ticks.val ≠ 0 → does (.threadSleep who self ticks) fun t =>
        t.thread x = { th with st := .delayed, tick := (s.tick10us + ticks.val) % 2 ^ 32 } ∧ x ∉ t.sched.ready) ∧
      (th.st = ThreadState.running → th.irq = true → does (.waitIrq who self ticks) fun t =>
        t.thread x = { th with irq := false, result := 2 } ∧ t.sched.cores = s.sched.cores ∧ t.sched.ready = s.sched.ready) ∧
      (th.st = ThreadState.running → th.irq = false → does (.waitIrq who self ticks) fun t =>
        t.thread x = { th with st := .waitIrq, deadline := ticks.val != 0, tick := (s.tick10us + ticks.val) % 2 ^ 32 }) ∧
      (th.st = ThreadState.running → does (.threadYield who self) fun t => (t.thread x).st = ThreadState.ready ∧ (t.thread x).level = th.level) ∧
      (th.st = ThreadState.ready → does (.threadSuspend who self) fun t => t.thread x = { th with st := .suspended } ∧ x ∉ t.sched.ready)) ∧
    (∀ (who : Initiator) (k : Fin 4) (ticks : Fin 16777216) (level : Fin 64) (s : State), s.opens who 0x21048 true = true → who = .ctl k →
      s.sched.thrBusy = false → s.time.catchFrom = none → (s.schedCore k.val).run = none →
      ∀ c ∈ [Instr.threadDelete who true, .waitIrq who true ticks, .threadYield who true, .setLevel who true level, .threadSuspend who true],
        Completes c s fun t => t.sched.thrRes = 1 ∧ t.event 0x021 1 = true ∧
          t.sched = { s.sched with thrRes := 1, seq := t.sched.seq, wptr := t.sched.wptr }) ∧
    (∀ (who : Initiator) (self : Bool) (ticks : Fin 16777216) (level : Fin 64) (s : State), s.opens who 0x21048 true = true → self = false →
      let x := s.getF F.SCHED_THR_INDEX_THREAD
      let create : ThreadOp := .create (s.getF F.SCHED_THR_STAGE_LEVEL) (s.getF F.SCHED_THR_STAGE_AFFINITY)
      let l : List (Instr × ThreadOp) := [(.threadCreate who self, create), (.threadDelete who self, .delete), (.waitIrq who self ticks, .waitIrq ticks.val),
        (.threadYield who self, .yield), (.setLevel who self level, .setLevel level.val), (.threadWake who self, .wake),
        (.threadSuspend who self, .suspend), (.threadResume who self, .resume)]
      (s.sched.thrBusy = true → ∀ c ∈ l, exec c.1 s = .next ((s.accessErr 0x11 who 0x21048).respond 0 false)) ∧
      (s.sched.thrBusy = false → s.time.catchFrom ≠ none → ∀ c ∈ l, exec c.1 s =
        .next ({ s with sched := { s.sched with held := s.sched.held ++ [SchedReq.thread (some x) c.2] } }.respond 0 false))) ∧
    (∀ (who : Initiator) (s : State), s.opens who 0x21048 true = true → s.sched.thrBusy = false → s.time.catchFrom = none →
      let x := s.getF F.SCHED_THR_INDEX_THREAD
      let level := s.getF F.SCHED_THR_STAGE_LEVEL
      let aff := s.getF F.SCHED_THR_STAGE_AFFINITY
      let kept (t : State) : Prop :=
        t = { s with regs := t.regs, fifos := t.fifos, mem := t.mem, freeCtr := t.freeCtr, sched := t.sched, bus := ⟨0, false⟩ } ∧
        (s.flag F.SCHED_TRC_CTRL_EN = false → t.mem = s.mem ∧ t.fifos = s.fifos ∧ t.freeCtr = s.freeCtr)
      let does (c : Instr) (p : State → Prop) : Prop := Completes c s fun t => t.sched.thrRes = 0 ∧ t.event 0x021 0 = true ∧ kept t ∧ p t
      ((s.thread x).st = ThreadState.free → s.flag F.SCHED_CTRL_THR_EN = false → does (.threadCreate who false) fun t =>
        t.thread x = { st := .ready, level := level, aff := aff } ∧ t.sched.ready = s.sched.ready ++ [x]) ∧
      (∀ k, (s.thread x).st = ThreadState.free → s.flag F.SCHED_CTRL_THR_EN = true → s.idleCore aff = some k → does (.threadCreate who false) fun t =>
        (t.thread x).st = ThreadState.ready ∧ (t.schedCore k).next = some (some x) ∧ t.sched.ready = s.sched.ready) ∧
      ((s.thread x).st = ThreadState.delayed ∨ (s.thread x).st = ThreadState.waitIrq → does (.threadWake who false) fun t =>
        (t.thread x).st = ThreadState.ready ∧ (t.thread x).result = 4) ∧
      ((s.thread x).st = ThreadState.suspended → does (.threadResume who false) fun t =>
        (t.thread x).st = ThreadState.ready ∧ (t.thread x).result = (s.thread x).result))) ∧
  (
    (∀ s : State, s.ticking 0x020 = true →
      let kept (t : State) : Prop :=
        t = { s with regs := t.regs, fifos := t.fifos, mem := t.mem, freeCtr := t.freeCtr, sched := t.sched } ∧
        (s.flag F.SCHED_TRC_CTRL_EN = false → t.mem = s.mem ∧ t.fifos = s.fifos ∧ t.freeCtr = s.freeCtr)
      (s.flag F.SCHED_CTRL_THR_EN = true → Completes (.delayExpiry 0) s fun t => kept t ∧
        ∀ x ∈ s.delayedDue s.tick10us, (t.thread x).st = ThreadState.ready ∧ (t.thread x).result = 1) ∧
      (s.flag F.SCHED_CTRL_WRK_EN = true → Completes (.delayExpiry 1) s fun t =>
        t = { s with regs := t.regs, fifos := t.fifos, mem := t.mem, freeCtr := t.freeCtr, sched := t.sched, mbox := t.mbox, bus := t.bus } ∧
        (s.sched.waiting = [] → t.mbox = s.mbox ∧ t.bus = s.bus) ∧ ∀ i ∈ t.sched.items, i.ready = false → 0 < tickDiff i.tick s.tick10us) ∧
      (s.flag F.SCHED_CTRL_JOB_EN = true → Completes (.delayExpiry 2) s fun t => kept t ∧
        (∀ j ∈ t.sched.jobs, j.ready = false → 0 < tickDiff j.notBefore s.planTick) ∧ t.sched.jobs.length = s.sched.jobs.length) ∧
      (s.flag F.SCHED_CTRL_THR_EN = true → Completes .waitTimeout s fun t => kept t ∧ ∀ x th, (x, th) ∈ s.sched.threads →
        th.st = ThreadState.waitIrq → th.deadline = true → 0 < tickDiff s.tick10us th.tick →
        (t.thread x).st = ThreadState.ready ∧ (t.thread x).result = 3) ∧
      (s.flag F.SCHED_CTRL_JOB_EN = true → Completes .askTimeout s fun t =>
        t = { s with
          regs := t.regs, fifos := t.fifos, mem := t.mem, freeCtr := t.freeCtr, sched := t.sched, mbox := t.mbox, bus := t.bus,
          time := { s.time with edges := t.time.edges } } ∧
        (∀ a ∈ t.sched.asks, a ∈ s.sched.asks ∧ ∀ d, a.deadline = some d → tickDiff s.planTick d ≤ 0)) ∧
      (s.flag F.SCHED_CTRL_JOB_EN = true → Completes .jobExpire s fun t =>
        t = { s with
          regs := t.regs, fifos := t.fifos, mem := t.mem, freeCtr := t.freeCtr, sched := t.sched, mbox := t.mbox, bus := t.bus,
          time := { s.time with edges := t.time.edges } } ∧
        (∀ j ∈ t.sched.jobs, j ∈ s.sched.jobs ∧ (j.expires ≠ 0 → tickDiff s.planTick j.expires ≤ 0))) ∧
      (s.flag F.SCHED_CTRL_THR_EN = false → exec .waitTimeout s = .next s ∧ exec (.delayExpiry 0) s = .next s) ∧
      (s.flag F.SCHED_CTRL_WRK_EN = false → exec (.delayExpiry 1) s = .next s) ∧
      (s.flag F.SCHED_CTRL_JOB_EN = false → exec .askTimeout s = .next s ∧ exec .jobExpire s = .next s ∧ exec (.delayExpiry 2) s = .next s)) ∧
    (∀ s : State, s.ticking 0x020 = false → (∀ n, exec (.delayExpiry n) s = .next s) ∧ exec .waitTimeout s = .next s ∧
      exec .askTimeout s = .next s ∧ exec .jobExpire s = .next s) ∧
    (∀ (who : Initiator) (k : Fin 4) (x : Fin 512) (s : State), s.opens who (0x20084 + 16 * k.val) true = true →
      ((s.schedCore k.val).next = none ∨ (∃ y, (s.schedCore k.val).next = some (some y) ∧ y ≠ x.val) →
        exec (.coreAck who k x) s = .next ((s.accessErr 0x11 who (0x20084 + 16 * k.val)).respond 0 false)) ∧
      ((s.schedCore k.val).next = some (some x.val) → Completes (.coreAck who k x) s fun t =>
        t.schedCore k.val = { run := some x.val } ∧ t.thread x.val = { s.thread x.val with st := .running, core := k.val } ∧
        t.sched.ready = s.sched.ready ∧ (∀ j, j ≠ k.val → t.schedCore j = s.schedCore j) ∧
        ((s.schedCore k.val).irqAt + 1000 * s.getF F.SCHED_SWITCH_LIMIT_US < s.now → t.event 0x020 0 = true) ∧
        t = { s with regs := t.regs, fifos := t.fifos, mem := t.mem, freeCtr := t.freeCtr, sched := t.sched, bus := ⟨0, false⟩ } ∧
        (s.now ≤ (s.schedCore k.val).irqAt + 1000 * s.getF F.SCHED_SWITCH_LIMIT_US → t.mem = s.mem ∧ t.fifos = s.fifos ∧ t.freeCtr = s.freeCtr))))

/-- Rows WORK_ITEM, WORK_SUBMIT, PULL and WRK_EN. -/
def Obligations.WorkItems : Prop :=
  (∀ (who : Initiator) (s : State), s.opens who 0x22060 true = true → s.time.catchFrom ≠ none →
    exec (.workSubmit who) s = .next ({ s with sched := { s.sched with held := s.sched.held ++ [SchedReq.work (s.getF F.SCHED_WRK_SUB0_LEVEL)
      (s.getF F.SCHED_WRK_SUB0_AFFINITY) (s.getF F.SCHED_WRK_SUB1_HANDLER) (s.getF F.SCHED_WRK_SUB0_DELAY)
      (s.getF F.SCHED_WRK_SUB2_ARG)] } }.respond 0 false)) ∧
  (∀ (who : Initiator) (s : State), s.opens who 0x22060 true = true → s.time.catchFrom = none →
    let kept (t : State) : Prop :=
      t = { s with regs := t.regs, fifos := t.fifos, mem := t.mem, freeCtr := t.freeCtr, sched := t.sched, bus := ⟨0, false⟩ } ∧
      (s.flag F.SCHED_TRC_CTRL_EN = false → t.mem = s.mem ∧ t.fifos = s.fifos ∧ t.freeCtr = s.freeCtr)
    let aff := s.getF F.SCHED_WRK_SUB0_AFFINITY
    let none_ (r : Nat) : Prop := Completes (.workSubmit who) s fun t =>
      t.sched = { s.sched with subRes := r, seq := t.sched.seq, wptr := t.sched.wptr } ∧ t.event 0x022 0 = true ∧ kept t
    (aff = 0 → none_ 2) ∧
    (aff ≠ 0 → freeHandle (s.sched.items.map fun i => i.handle) = none → none_ 1) ∧
    (∀ h, aff ≠ 0 → freeHandle (s.sched.items.map fun i => i.handle) = some h →
      (s.flag F.SCHED_CTRL_WRK_EN = false ∨ s.sched.waiting = []) → Completes (.workSubmit who) s fun t =>
        t.sched.subRes = 0 ∧ t.sched.subHand = h ∧ t.sched.items = s.sched.items ++
          [⟨h, s.getF F.SCHED_WRK_SUB0_LEVEL, aff, s.getF F.SCHED_WRK_SUB1_HANDLER, s.getF F.SCHED_WRK_SUB2_ARG % 2 ^ 56,
            s.getF F.SCHED_WRK_SUB0_DELAY == 0, (s.tick10us + s.getF F.SCHED_WRK_SUB0_DELAY) % 2 ^ 32⟩] ∧
        t.sched.waiting = s.sched.waiting ∧ kept t) ∧
    (∀ k, aff ≠ 0 → s.sched.items = [] → s.flag F.SCHED_CTRL_WRK_EN = true → s.sched.waiting = [k] → bitAt aff k = true →
      s.getF F.SCHED_WRK_SUB0_DELAY = 0 → Completes (.workSubmit who) s fun t =>
        t.sched.subRes = 0 ∧ t.sched.subHand = 0 ∧ t.sched.items = [] ∧ t.sched.waiting = [] ∧
        t = { s with
          regs := t.regs, fifos := t.fifos, mem := t.mem, freeCtr := t.freeCtr, sched := t.sched, mbox := t.mbox,
          bus := ⟨0, false⟩ })) ∧
  (∀ (w0 w1 h : Nat) (s s1 : State), let q := s.getF F.SCHED_WRK_QUEUES_SUBMIT_Q
    (s.flag F.SCHED_CTRL_WRK_EN = false → exec .workItem s = .next s) ∧
    (s.ticking 0x020 = true → s.flag F.SCHED_CTRL_WRK_EN = true → s.mboxPacketReady q = true →
      s.mboxTakePacket q 1025 = ([w0, w1], false, s1) → s1.sched = s.sched →
      (bitsOf w0 45 32 = 0 → bitsOf w0 49 46 ≠ 0 → freeHandle (s.sched.items.map fun i => i.handle) = some h → s.sched.waiting = [] →
        Completes .workItem s fun t => ∃ i, t.sched.items = s.sched.items ++ [i] ∧ i.handle = h ∧ i.level = bitsOf w0 55 50 ∧
          i.aff = bitsOf w0 49 46 ∧ i.handler = bitsOf w0 31 16 ∧ i.arg = w1 % 2 ^ 56 ∧ i.ready = (bitsOf w0 15 0 == 0) ∧
          t = { s1 with regs := t.regs, fifos := t.fifos, mem := t.mem, freeCtr := t.freeCtr, sched := t.sched }) ∧
      (bitsOf w0 45 32 ≠ 0 ∨ bitsOf w0 49 46 = 0 → Completes .workItem s fun t => t.sched.items = s.sched.items ∧ t.event 0x022 0 = true ∧
        t = { s1 with regs := t.regs, fifos := t.fifos, mem := t.mem, freeCtr := t.freeCtr, sched := t.sched })) ∧
    (s.ticking 0x020 = true → s.mboxPacketReady q = false → exec .workItem s = .next s)) ∧
  (∀ (ws : List Nat) (bad : Bool) (s s1 : State), let q := s.getF F.SCHED_WRK_QUEUES_SUBMIT_Q
    s.ticking 0x020 = true → s.flag F.SCHED_CTRL_WRK_EN = true → s.mboxPacketReady q = true → s.mboxTakePacket q 1025 = (ws, bad, s1) →
    bad = true ∨ ws.length ≠ 2 → Completes .workItem s fun t => t.sched.items = s1.sched.items ∧ t.event 0x022 0 = true ∧
      t = { s1 with regs := t.regs, fifos := t.fifos, mem := t.mem, freeCtr := t.freeCtr, sched := t.sched }) ∧
  (∀ (word : DWord) (s s1 : State), let w := wordPayload word
    (s.flag F.SCHED_CTRL_WRK_EN = false → exec .pull s = .next s) ∧
    (s.ticking 0x020 = true → s.flag F.SCHED_CTRL_WRK_EN = true → s.mboxTake (s.getF F.SCHED_WRK_QUEUES_REQ_Q) = (some word, s1) →
      (wordTag word ≠ 3 ∨ bitsOf w 55 50 ≠ 4 ∨ bitsOf w 47 13 ≠ 0 → exec .pull s = .next s1) ∧
      (wordTag word = 3 → bitsOf w 55 50 = 4 → bitsOf w 47 13 = 0 → s1.sched.items = [] → bitsOf w 49 48 ∉ s1.sched.waiting →
        Completes .pull s fun t => t.sched.waiting = s1.sched.waiting ++ [bitsOf w 49 48] ∧ t.event 0x022 2 = true ∧ t.sched.items = [] ∧
          t = { s1 with regs := t.regs, fifos := t.fifos, mem := t.mem, freeCtr := t.freeCtr, sched := t.sched }) ∧
      (wordTag word = 3 → bitsOf w 55 50 = 4 → bitsOf w 47 13 = 0 → bitsOf w 49 48 ∈ s1.sched.waiting →
        Completes .pull s fun t => t.sched.waiting = s1.sched.waiting ∧ t.sched.items = s1.sched.items ∧ t.event 0x022 1 = true ∧
          t = { s1 with regs := t.regs, fifos := t.fifos, mem := t.mem, freeCtr := t.freeCtr, sched := t.sched }))) ∧
  (∀ s s1 : State, s.ticking 0x020 = true → s.flag F.SCHED_CTRL_WRK_EN = true →
    s.mboxTake (s.getF F.SCHED_WRK_QUEUES_REQ_Q) = (none, s1) → exec .pull s = .next s1) ∧
  (∀ (who : Initiator) (en : Bool) (s : State), s.opens who 0x20040 true = true →
    (en = false ∨ s.flag F.SCHED_CTRL_WRK_EN = true → Completes (.wrkEn who en) s fun t => t.flag F.SCHED_CTRL_WRK_EN = en ∧
      (∀ k, k ≠ 0x20040 → t.reg k = s.reg k) ∧ t = { s with regs := t.regs, bus := ⟨0, false⟩ }) ∧
    (s.flag F.SCHED_CTRL_WRK_EN = false → Completes (.wrkEn who true) s fun t => t.flag F.SCHED_CTRL_WRK_EN = true ∧
      (s.sched.waiting = [] ∨ s.sched.items = [] → t.sched = s.sched ∧ t.mem = s.mem) ∧
      t = { s with
        regs := t.regs, fifos := t.fifos, mem := t.mem, freeCtr := t.freeCtr, sched := t.sched, mbox := t.mbox,
        bus := ⟨0, false⟩ }))

/-- Rows JOB_SUBMIT, ASK, CANCEL_ASK, WITHDRAW and MATCHING_PASS. -/
def Obligations.JobsAndAsks : Prop :=
  (∀ (who : Initiator) (m : Fin 256) (timeout : Fin 65536) (h : Fin 4096) (s : State), s.time.catchFrom ≠ none →
    let waits (r : SchedReq) : Host.Outcome State Fault Refusal :=
      .next ({ s with sched := { s.sched with held := s.sched.held ++ [r] } }.respond 0 false)
    (s.opens who 0x23058 true = true → exec (.jobSubmit who) s = waits (.job ((List.range 4).map fun i => (s.reg (0x23048 + 4 * i)).toNat))) ∧
    (s.opens who 0x23060 true = true → exec (.jobAsk who m timeout) s = waits (.ask m.val timeout.val)) ∧
    (s.opens who 0x23064 true = true → exec (.cancelAsk who m) s = waits (.cancelAsk m.val)) ∧
    (s.opens who 0x23068 true = true → exec (.jobWithdraw who h) s = waits (.withdraw h.val))) ∧
  (∀ (who : Initiator) (s : State), s.opens who 0x23058 true = true → s.time.catchFrom = none →
    let kept (t : State) : Prop :=
      t = { s with regs := t.regs, fifos := t.fifos, mem := t.mem, freeCtr := t.freeCtr, sched := t.sched, bus := ⟨0, false⟩ } ∧
      (s.flag F.SCHED_TRC_CTRL_EN = false → t.mem = s.mem ∧ t.fifos = s.fifos ∧ t.freeCtr = s.freeCtr)
    let w := (List.range 4).map fun i => (s.reg (0x23048 + 4 * i)).toNat
    (bitsOf (w.getD 0 0) 25 18 = 0 ∨ (w.getD 3 0 ≠ 0 ∧ tickDiff (w.getD 3 0) s.planTick ≤ 0) →
      Completes (.jobSubmit who) s fun t =>
        t.sched = { s.sched with jobRes := 2, seq := t.sched.seq, wptr := t.sched.wptr } ∧ kept t) ∧
    (∀ h, bitsOf (w.getD 0 0) 25 18 ≠ 0 → w.getD 3 0 = 0 → freeHandle (s.sched.jobs.map fun j => j.handle) = some h →
      Completes (.jobSubmit who) s fun t => t.sched.jobRes = 0 ∧ t.sched.jobHand = h ∧ t.sched.jobs = s.sched.jobs ++
        [⟨h, bitsOf (w.getD 0 0) 31 26, bitsOf (w.getD 0 0) 25 18, bitsOf (w.getD 0 0) 15 0, w.getD 1 0, w.getD 2 0, 0,
          w.getD 2 0 == 0 || decide (tickDiff (w.getD 2 0) s.planTick ≤ 0)⟩] ∧ t.sched.asks = s.sched.asks ∧ kept t)) ∧
  (∀ (who : Initiator) (m : Fin 256) (timeout : Fin 65536) (s : State), s.opens who 0x23060 true = true → s.time.catchFrom = none →
    let kept (t : State) : Prop :=
      t = { s with regs := t.regs, fifos := t.fifos, mem := t.mem, freeCtr := t.freeCtr, sched := t.sched, bus := ⟨0, false⟩ } ∧
      (s.flag F.SCHED_TRC_CTRL_EN = false → t.mem = s.mem ∧ t.fifos = s.fifos ∧ t.freeCtr = s.freeCtr)
    let a : JobAsk := ⟨m.val, if timeout.val = 0 then none else some ((s.planTick + timeout.val) % 2 ^ 32)⟩
    (s.machValid m.val = false → Completes (.jobAsk who m timeout) s fun t =>
      t.sched = { s.sched with cmdRes := 1, seq := t.sched.seq, wptr := t.sched.wptr } ∧ kept t) ∧
    (s.machValid m.val = true → (∀ x ∈ s.sched.asks, x.machine ≠ m.val) → Completes (.jobAsk who m timeout) s fun t =>
      t.sched = { s.sched with asks := s.sched.asks ++ [a], cmdRes := 0, seq := t.sched.seq, wptr := t.sched.wptr } ∧ kept t) ∧
    (s.machValid m.val = true → (∃ x ∈ s.sched.asks, x.machine = m.val) → Completes (.jobAsk who m timeout) s fun t =>
      t.sched = { s.sched with
        asks := s.sched.asks.map (fun x => if x.machine = m.val then a else x)
        cmdRes := 0
        seq := t.sched.seq
        wptr := t.sched.wptr } ∧ kept t)) ∧
  (∀ (who : Initiator) (m : Fin 256) (s : State), s.opens who 0x23064 true = true → s.time.catchFrom = none →
    ((∀ x ∈ s.sched.asks, x.machine ≠ m.val) → exec (.cancelAsk who m) s =
      .next ({ s with sched := { s.sched with cmdRes := 2 } }.respond 0 false)) ∧
    ((∃ x ∈ s.sched.asks, x.machine = m.val) → Completes (.cancelAsk who m) s fun t => t.sched.cmdRes = 0 ∧
      t.sched.asks = s.sched.asks.filter (fun x => x.machine != m.val) ∧ t.sched.jobs = s.sched.jobs ∧
      t = { s with
        regs := t.regs, fifos := t.fifos, mem := t.mem, freeCtr := t.freeCtr, sched := t.sched, mbox := t.mbox,
        bus := ⟨0, false⟩ })) ∧
  (∀ (who : Initiator) (h : Fin 4096) (s : State), s.opens who 0x23068 true = true → s.time.catchFrom = none →
    let kept (t : State) : Prop :=
      t = { s with regs := t.regs, fifos := t.fifos, mem := t.mem, freeCtr := t.freeCtr, sched := t.sched, bus := ⟨0, false⟩ } ∧
      (s.flag F.SCHED_TRC_CTRL_EN = false → t.mem = s.mem ∧ t.fifos = s.fifos ∧ t.freeCtr = s.freeCtr)
    ((∀ j ∈ s.sched.jobs, j.handle ≠ h.val) → exec (.jobWithdraw who h) s =
      .next ({ s with sched := { s.sched with cmdRes := 2 } }.respond 0 false)) ∧
    ((∃ j ∈ s.sched.jobs, j.handle = h.val) → Completes (.jobWithdraw who h) s fun t => t.sched.cmdRes = 0 ∧
      t.sched.jobs = s.sched.jobs.filter (fun j => j.handle != h.val) ∧ t.sched.asks = s.sched.asks ∧ kept t)) ∧
  (∀ (j : SchedJob) (a : JobAsk) (s : State), s.ticking 0x020 = true →
    (s.flag F.SCHED_CTRL_JOB_EN = false → exec .matchingPass s = .next s) ∧
    (s.flag F.SCHED_CTRL_JOB_EN = true → s.sched.jobs = [j] → s.sched.asks = [a] → j.ready = true →
      (s.jobEligible a.machine j = true → Completes .matchingPass s fun t => t.sched.jobs = [] ∧ t.sched.asks = [] ∧ t.event 0x023 0 = true ∧
        t = { s with
          regs := t.regs, fifos := t.fifos, mem := t.mem, freeCtr := t.freeCtr, sched := t.sched, mbox := t.mbox, bus := t.bus,
          time := { s.time with edges := t.time.edges } }) ∧
      (s.jobEligible a.machine j = false → Completes .matchingPass s fun t => t = { s with time := { s.time with edges := t.time.edges } })))

/-- Rows SUBMIT, CANCEL, SEARCH_START and COMMIT. -/
def Obligations.PlanRequests : Prop :=
  (∀ (who : Initiator) (s : State), s.opens who 0x92060 true = true →
    (64 ≤ s.plan.queue.length ∨ s.flag F.TRACK_CTRL_PLAN_EN = false ∨ s.notActive = true ∨ s.pair.handoff ≠ none →
      exec (.planSubmit who) s = .next ((s.accessErr 0x11 who 0x92060).respond 0 false)) ∧
    (s.plan.queue.length < 64 → s.flag F.TRACK_CTRL_PLAN_EN = true → s.notActive = false → s.pair.handoff = none →
      Completes (.planSubmit who) s fun t => t.plan.queue =
        (s.plan.queue.filter fun x => x.machine != s.stagedRequest.machine) ++ [s.stagedRequest] ∧ t.mem = s.mem ∧
        ((∀ x ∈ s.plan.queue, x.machine ≠ s.stagedRequest.machine) → t = { s with plan := t.plan, bus := ⟨0, false⟩ }) ∧
        ((∃ x ∈ s.plan.queue, x.machine = s.stagedRequest.machine) → t.getF F.TRACK_PLAN_SEARCH_OUTCOME = 7 ∧ t.event 0x092 1 = true) ∧
        t = { s with regs := t.regs, mbox := t.mbox, plan := { s.plan with queue := t.plan.queue }, bus := ⟨0, false⟩ })) ∧
  (∀ (who : Initiator) (m : Fin 256) (s : State), s.opens who 0x92084 true = true →
    ((∃ x ∈ s.plan.queue, x.machine = m.val) → Completes (.planCancel who m) s fun t =>
      t.plan.queue = s.plan.queue.filter (fun x => x.machine != m.val) ∧ t.getF F.TRACK_PLAN_SEARCH_OUTCOME = 9 ∧
      t.event 0x092 1 = true ∧
      t = { s with regs := t.regs, mbox := t.mbox, plan := { s.plan with queue := t.plan.queue }, bus := ⟨0, false⟩ }) ∧
    (∀ x, (∀ r ∈ s.plan.queue, r.machine ≠ m.val) → s.plan.search = some x → x.req.machine = m.val → x.ready = false →
      s.plan.cmd = none → Completes (.planCancel who m) s fun t => t.plan.search = none ∧ t.getF F.TRACK_PLAN_SEARCH_OUTCOME = 9 ∧
        t.event 0x092 1 = true ∧ t.dtuIsPaused 3 0 = false ∧ t.mem.bytes = s.mem.bytes ∧
        t = { s with
                     regs := t.regs, mbox := t.mbox, mem := t.mem, bus := ⟨0, false⟩,
                     plan := { s.plan with search := none, shared := none, waiting := false } }) ∧
    (∀ x, (∀ r ∈ s.plan.queue, r.machine ≠ m.val) → s.plan.search = some x → x.req.machine = m.val → x.ready = true →
      exec (.planCancel who m) s = .next ({ s with plan := { s.plan with search := some { x with cancel := true } } }.respond 0 false)) ∧
    ((∀ r ∈ s.plan.queue, r.machine ≠ m.val) → (∀ x, s.plan.search = some x → x.req.machine ≠ m.val) →
      exec (.planCancel who m) s = .next (s.respond 0 false))) ∧
  (∀ (r : PlanReq) (q : List PlanReq) (s : State), s.ticking 0x090 = true → s.plan.queue = r :: q →
    (s.plan.search ≠ none ∨ s.plan.cmd ≠ none ∨ s.flag F.TRACK_RES_CMD_STAT_BUSY = true ∨ s.notActive = true →
      exec .searchStart s = .next s) ∧
    (s.plan.search = none → s.plan.cmd = none → s.flag F.TRACK_RES_CMD_STAT_BUSY = false → s.notActive = false →
      Completes .searchStart s fun t => t.plan.queue = q.filter (fun x => x.machine != r.machine) ∧
        (∃ x, t.plan.search = some x ∧ x.req = r ∧ x.s = s.planTick ∧ x.cancel = false) ∧ t.mem.bytes = s.mem.bytes ∧
        t = { s with
          regs := t.regs, fifos := t.fifos, mem := t.mem, freeCtr := t.freeCtr,
          plan := { s.plan with queue := t.plan.queue, search := t.plan.search } })) ∧
  (∀ s : State, s.ticking 0x090 = false ∨ s.plan.queue = [] → exec .searchStart s = .next s) ∧
  (∀ (x : PlanSearch) (s : State), s.ticking 0x090 = true → s.plan.search = some x → s.plan.cmd = none →
    let ended (t : State) : Prop := t.event 0x092 1 = true ∧ t.mem = { s.mem with dtuCache := t.mem.dtuCache } ∧
      t = { s with
        regs := t.regs, mbox := t.mbox, mem := t.mem, bus := t.bus,
        plan := { s.plan with search := none, shared := none, waiting := false } }
    ((x.ready = false ∨ s.plan.shared ≠ none) → exec .planCommit s = .next s) ∧
    (x.ready = true → s.plan.shared = none →
      (x.cancel = true ∨ s.notActive = true → Completes .planCommit s fun t => t.getF F.TRACK_PLAN_SEARCH_OUTCOME = 9 ∧ ended t) ∧
      (x.cancel = false → s.notActive = false → x.found.outcome ≠ 0 → x.found.outcome < 16 → Completes .planCommit s fun t =>
        t.getF F.TRACK_PLAN_SEARCH_OUTCOME = x.found.outcome ∧ ended t) ∧
      (x.cancel = false → s.notActive = false → x.found.outcome = 0 → x.found.bumps = [] → s.planFits x = false →
        Completes .planCommit s fun t => (∃ y, t.plan.search = some y ∧ y.req = x.req ∧ y.s = x.s ∧ y.ready = true) ∧
          t = { s with regs := t.regs, plan := { s.plan with search := t.plan.search } }) ∧
      (x.cancel = false → s.role = 0 → x.found.outcome = 0 → x.found.bumps = [] → s.planFits x = true → (s.planRsvs x).filter s.rsvShared = [] →
        x.req.machine < 256 →
        s.rsvRoom ((s.planRsvs x).map fun r => r.cell) ((s.commitFrees x.req.machine x.s).map fun i => (s.rsv i).cell) = true →
        Completes .planCommit s fun t => t.plan.search = none ∧ t.getF F.TRACK_PLAN_SEARCH_OUTCOME = 0 ∧ t.event 0x092 0 = true ∧
          t.getF F.TRACK_PLAN_COMMIT_SEQ_SEQ = (s.getF F.TRACK_PLAN_COMMIT_SEQ_SEQ + 1) % 2 ^ 28 ∧
          t.machWord x.req.machine 8 = s.member * 2 ^ 28 + (s.getF F.TRACK_PLAN_COMMIT_SEQ_SEQ + 1) % 2 ^ 28 ∧
          t.planActive x.req.machine = true ∧
          (∀ k i, k < 256 → k ≠ x.req.machine → i < 16 → t.machWord k i = s.machWord k i) ∧
          t = { s with
            regs := t.regs, fifos := t.fifos, mem := t.mem, freeCtr := t.freeCtr, zone := t.zone, pair := t.pair, plan := t.plan,
            seg := t.seg, mbox := t.mbox, bus := t.bus })))

/-- Rows SHR_REQ, SHR_REPLY, SHR_UPDATE and SHARED_RETRY. -/
def Obligations.SharedCells : Prop :=
  (∀ (b : List Byte) (n : Nat) (q : List (List Byte × Nat)) (s : State), s.ticking 0x090 = true → s.plan.ownReqs = (b, n) :: q →
    n = 0 ∨ s.msgsWaiting = 0 →
    let m := bitsOf (wordAt b 0) 23 16
    let member := bitsOf (wordAt b 0) 15 12
    let k := member * 256 + m
    let s0 := { s with plan := { s.plan with ownReqs := q } }
    let recs := (msgRecords b (wordAt b 0 / 0x1000000)).map fun r => { r with member := member, machine := m }
    let served (t : State) : Prop :=
      t = { s with
        regs := t.regs, fifos := t.fifos, mem := t.mem, freeCtr := t.freeCtr, zone := t.zone, pair := t.pair, plan := t.plan,
        mbox := t.mbox, bus := t.bus }
    (s.isLead = false → exec .shrReq s =
      .next (s0.letGo (.reply member (replyBody (wordAt b 0) 3 (wordAt b 4) (wordAt b 8) 0xFF)))) ∧
    (∀ i, s.isLead = true → s.serialRec k = none → wordAt b 0 / 0x1000000 ≠ 0 → s.firstBad recs = some i → Completes .shrReq s fun t =>
      t.serialRec k = some ⟨wordAt b 4, 1, i, wordAt b 8⟩ ∧ t.plan.used = s.plan.used ∧ served t) ∧
    (s.isLead = true → s.serialRec k = none → wordAt b 0 / 0x1000000 ≠ 0 → s.firstBad recs = none →
      let gone := (s.sharedOf member m (some (wordAt b 12))).filter fun r => !r.doubt
      (s.rsvRoom (recs.map fun r => r.cell) (gone.map fun r => r.cell) = true →
        Completes .shrReq s fun t => t.serialRec k = some ⟨wordAt b 4, 0, 0xFF, wordAt b 8⟩ ∧
          t.getF F.CASC_UPD_SEQ_SEQ = (s.getF F.CASC_UPD_SEQ_SEQ + 1) % 2 ^ 32 ∧ served t) ∧
      (s.rsvRoom (recs.map fun r => r.cell) (gone.map fun r => r.cell) = false →
        Completes .shrReq s fun t => t.serialRec k = some ⟨wordAt b 4, 2, 0xFF, wordAt b 8⟩ ∧ t.event 0x091 1 = true ∧
          t.plan.used = s.plan.used ∧ served t))) ∧
  (∀ (m : Msg) (s s1 : State), s.ticking 0x090 = true →
    (s.plan.ownReqs = [] → s.received 0x03 = (none, s1) → exec .shrReq s = .next s1) ∧
    ((∀ e ∈ s.plan.ownReqs, e.2 ≠ 0) → s.msgsWaiting ≠ 0 ∨ s.plan.ownReqs = [] → s.received 0x03 = (some m, s1) →
      exec .shrReq s = .next (s1.shrServe m.body)) ∧
    (s.plan.ownReplies = [] → s1.plan.cmd = none → s.received 0x04 = (none, s1) → exec .shrReply s = .next s1) ∧
    (s.received 0x05 = (none, s1) → exec .shrUpdate s = .next s1)) ∧
  (∀ (b : List Byte) (q : List (List Byte)) (w : SharedWait) (x : PlanSearch) (s : State), s.ticking 0x090 = true →
    s.plan.ownReplies = b :: q → s.plan.shared = some w → s.plan.search = some x → s.plan.cmd = none → s.plan.orphans = [] →
    (w.serial ≠ wordAt b 4 ∨ wordAt b 8 ≠ w.plan → exec .shrReply s = .next { s with plan := { s.plan with ownReplies := q } }) ∧
    (w.serial = wordAt b 4 → wordAt b 8 = w.plan → wordAt b 0 / 0x1000000 ≠ 0 → Completes .shrReply s fun t =>
      t.getF F.TRACK_PLAN_SEARCH_OUTCOME = 6 ∧ t.mem = { s.mem with dtuCache := t.mem.dtuCache } ∧
      t = { s with
        regs := t.regs, mbox := t.mbox, mem := t.mem, bus := t.bus,
        plan := { s.plan with ownReplies := q, search := none, shared := none, waiting := false } }) ∧
    (w.serial = wordAt b 4 → wordAt b 8 = w.plan → wordAt b 0 / 0x1000000 = 0 → x.cancel = false →
      (s.planFits x = true → Completes .shrReply s fun t =>
        t.plan.search = none ∧ t.plan.shared = none ∧
        t.getF F.TRACK_PLAN_SEARCH_OUTCOME =
          ({ s with plan := { s.plan with ownReplies := q } }.commitPlan x (some (wordAt b 4))).1.outcome ∧
        t = { s with
          regs := t.regs, fifos := t.fifos, mem := t.mem, freeCtr := t.freeCtr, zone := t.zone, pair := t.pair, plan := t.plan,
          seg := t.seg, mbox := t.mbox, bus := t.bus }) ∧
      (s.planFits x = false → Completes .shrReply s fun t => (∃ y, t.plan.search = some y ∧ y.req = x.req ∧ y.s = x.s ∧ y.ready = true) ∧
        t = { s with regs := t.regs, plan := { s.plan with ownReplies := q, shared := none, search := t.plan.search } }))) ∧
  (∀ (m : Msg) (s s1 : State), s.ticking 0x090 = true → s.received 0x05 = (some m, s1) → bitAt m.flags 0 = false →
    s1.flag F.CASC_STAT_SNAP_PENDING = false →
    let d := tickDiff (wordAt m.body 4) (s1.getF F.CASC_UPD_SEQ_SEQ)
    (d ≤ 0 → exec .shrUpdate s = .next s1) ∧
    (d = 1 → s1.pair.updHeld = [] → s1.role = 0 → Completes .shrUpdate s fun t => t.getF F.CASC_UPD_SEQ_SEQ = wordAt m.body 4 ∧
      t = { s1 with regs := t.regs, fifos := t.fifos, mem := t.mem, freeCtr := t.freeCtr, zone := t.zone, pair := t.pair, plan := t.plan }) ∧
    (1 < d → s1.isLead = true → Completes .shrUpdate s fun t =>
      t.pair.updHeld = (wordAt m.body 4, m.body) :: s1.pair.updHeld.filter (fun x => x.1 != wordAt m.body 4) ∧
      t.event 0x0F1 2 = true ∧ t.getF F.CASC_UPD_SEQ_SEQ = s1.getF F.CASC_UPD_SEQ_SEQ ∧
      t = { s1 with regs := t.regs, pair := { s1.pair with updHeld := t.pair.updHeld } }) ∧
    (1 < d → s1.isLead = false → s1.notActive = false → Completes .shrUpdate s fun t =>
      t.pair.updHeld = (wordAt m.body 4, m.body) :: s1.pair.updHeld.filter (fun x => x.1 != wordAt m.body 4) ∧
      t.event 0x0F1 2 = true ∧ t.flag F.CASC_STAT_SNAP_PENDING = true ∧
      t = { s1 with regs := t.regs, freeCtr := t.freeCtr, pair := t.pair, mbox := t.mbox, bus := t.bus })) ∧
  (∀ (m : Msg) (s s1 : State), s.ticking 0x090 = true → s.received 0x05 = (some m, s1) → bitAt m.flags 0 = true →
    s1.flag F.CASC_STAT_SNAP_PENDING = false → exec .shrUpdate s = .next s1) ∧
  (∀ (w : SharedWait) (x : PlanSearch) (s : State), s.ticking 0x090 = true → s.plan.shared = some w → s.plan.search = some x →
    s.plan.cmd = none → s.plan.orphans = [] →
    (s.now < w.sentAt + 1000 * s.getF F.TRACK_SHR_RETRY_US → exec .sharedRetry s = .next s) ∧
    (w.sentAt + 1000 * s.getF F.TRACK_SHR_RETRY_US ≤ s.now →
      (w.sends < s.getF F.TRACK_SHR_TRIES → Completes .sharedRetry s fun t =>
        t.plan.shared = some { w with sends := w.sends + 1, sentAt := s.now } ∧ t.plan.search = some x ∧ t.event 0x092 2 = true ∧
        t = { s with regs := t.regs, freeCtr := t.freeCtr, pair := t.pair, plan := t.plan, mbox := t.mbox, bus := t.bus }) ∧
      (s.getF F.TRACK_SHR_TRIES ≤ w.sends → Completes .sharedRetry s fun t => t.plan.shared = none ∧ t.plan.search = none ∧
        t.getF F.TRACK_PLAN_SEARCH_OUTCOME = 6 ∧ t.event 0x092 2 = true ∧ (∃ o, t.plan.orphans = [o] ∧ o.machine = w.machine ∧ o.records = []) ∧
        t.mem.dtuPaused = s.mem.dtuPaused ∧
        t = { s with regs := t.regs, fifos := t.fifos, mem := t.mem, freeCtr := t.freeCtr, pair := t.pair, plan := t.plan, mbox := t.mbox, bus := t.bus }))) ∧
  (∀ s : State, s.ticking 0x090 = false ∨ (s.plan.shared = none ∧ s.plan.orphans = [] ∧ s.plan.cmd = none) → exec .sharedRetry s = .next s)

/-- Rows FIX_PACKET, OVERRUN_GRACE and SWEEP. -/
def Obligations.Tracker : Prop :=
  (∀ (ps : List Nat) (bad : Bool) (s s1 : State), let q := s.getF F.TRACK_QUEUES_FIX_QUEUE
    (s.flag F.TRACK_CTRL_TRACK_EN = false → exec .fixPacket s = .next s) ∧
    (s.ticking 0x090 = true → s.flag F.TRACK_CTRL_TRACK_EN = true → s.mboxPacketReady q = true →
      s.mboxTakePacket q (s.mboxQ q).level = (ps, bad, s1) →
      (bad = true ∨ ps.length ≠ 5 → Completes .fixPacket s fun t => t.event 0x090 2 = true ∧ t = { s1 with regs := t.regs }) ∧
      (bad = false → ps.length = 5 →
        let b := unpack7 32 ps
        let m := bitsOf (wordAt b 0) 19 12
        (s1.notActive = true ∨ s1.machValid m = false → exec .fixPacket s = .next s1) ∧
        (s1.notActive = false → s1.machValid m = true → s1.track m = none → s1.pair.touched = [] →
          exec .fixPacket s = .next s1) ∧
        (∀ p, s1.role = 0 → s1.machValid m = true → s1.track m = some p → s1.planActive m = true →
          bitsOf (wordAt b 0) 11 9 = 0 → s1.getF F.TRACK_CTRL_MIN_STATUS = 0 →
          0 < tickDiff (s1.fullEpoch (wordAt b 4) / 10 % 2 ^ 32) (s1.machWord m 11) →
          Completes .fixPacket s fun t => t.machWord m 11 = s1.fullEpoch (wordAt b 4) / 10 % 2 ^ 32 ∧ t.machWord m 8 = s1.machWord m 8 ∧
            t = { s1 with regs := t.regs, fifos := t.fifos, mem := t.mem, freeCtr := t.freeCtr, zone := t.zone, pair := t.pair }) ∧
        (∀ p, s1.role = 0 → s1.machValid m = true → s1.track m = some p → s1.planActive m = true →
          bitsOf (wordAt b 0) 11 9 ≠ 0 → s1.getF F.TRACK_CTRL_MIN_STATUS ≤ bitsOf (wordAt b 0) 11 9 →
          0 < tickDiff (s1.fullEpoch (wordAt b 4) / 10 % 2 ^ 32) (s1.machWord m 11) →
          Completes .fixPacket s fun t => t.machWord m 11 = s1.fullEpoch (wordAt b 4) / 10 % 2 ^ 32 ∧ t.machWord m 8 = s1.machWord m 8 ∧
            t = { s1 with
              regs := t.regs, fifos := t.fifos, mem := t.mem, freeCtr := t.freeCtr, zone := t.zone,
              pair := t.pair, plan := t.plan, mbox := t.mbox, bus := t.bus })))) ∧
  (∀ s : State, s.ticking 0x090 = false ∨ s.mboxPacketReady (s.getF F.TRACK_QUEUES_FIX_QUEUE) = false → exec .fixPacket s = .next s) ∧
  (∀ s : State, s.ticking 0x090 = true →
    let tick := (s.planTick + 2 ^ 32 - 1) % 2 ^ 32
    (s.flag F.TRACK_CTRL_TRACK_EN = false → s.pair.touched = [] → exec .overrunGrace s = .next s) ∧
    (∀ m p r, s.flag F.TRACK_CTRL_TRACK_EN = true → s.role = 0 → s.tracked = [(m, p)] → s.track m = some p → p.cells.length = 2 →
      s.trackRec m p 0 = some r → r.idx ∉ s.plan.stamped → r.idx ∉ p.acted → 0 ≤ tickDiff tick (r.exit + s.getF F.TRACK_OVR_GRACE) →
      Completes .overrunGrace s fun t => r.idx ∈ t.plan.stamped ∧ t.event 0x090 3 = true ∧
        (∃ p', t.track m = some p' ∧ r.idx ∈ p'.acted) ∧
        t = { s with
          regs := t.regs, fifos := t.fifos, mem := t.mem, freeCtr := t.freeCtr, zone := t.zone, pair := t.pair,
          plan := t.plan, mbox := t.mbox, bus := t.bus }) ∧
    (s.flag F.TRACK_RES_CTRL_SWEEP_EN = false ∨ s.notActive = true ∨ (∀ r ∈ s.rsvs, s.mayRetire tick r = false) → exec .sweep s = .next s) ∧
    (s.flag F.TRACK_RES_CTRL_SWEEP_EN = true → s.notActive = false → Completes .sweep s fun t =>
      t.plan.used = s.plan.used.filter (fun i => !s.mayRetire tick (s.rsv i)) ∧
      t = { s with
        regs := t.regs, fifos := t.fifos, mem := t.mem, freeCtr := t.freeCtr, zone := t.zone, pair := t.pair, mbox := t.mbox, bus := t.bus,
        plan := { s.plan with used := t.plan.used, stamped := t.plan.stamped } }))

/-- Rows RESERVE, RELEASE, QUERY_CELL, QUERY_MACHINE, RECONCILE, ACK, CLEAR, QUERY_RESULT_READ and TRACK_RES_CMD_DONE. -/
def Obligations.StoreCommands : Prop :=
  (∀ (who : Initiator) (i : Fin 1048576) (s : State), s.opens who 0x91054 true = true →
    let changing := [Instr.reserve who i, .release who i, .reconcile who i, .planAck who i, .trackClear who]
    let queries := [Instr.queryCell who i, .queryMachine who i]
    (s.flag F.TRACK_RES_CMD_STAT_BUSY = true → ∀ c ∈ changing ++ queries, exec c s = .next ((s.accessErr 0x11 who 0x91054).respond 0 false)) ∧
    (s.notActive = true → ∀ c ∈ changing, exec c s = .next ((s.accessErr 0x11 who 0x91054).respond 0 false)) ∧
    (s.flag F.TRACK_RES_CMD_STAT_BUSY = false → s.notActive = false → s.plan.search ≠ none ∨ s.time.catchFrom ≠ none → ∀ c ∈ changing ++ queries,
      Completes c s fun t => t.plan.cmd ≠ none ∧ t.flag F.TRACK_RES_CMD_STAT_BUSY = true ∧
        t = { s with regs := t.regs, plan := { s.plan with cmd := t.plan.cmd, waiting := true }, bus := ⟨0, false⟩ })) ∧
  (∀ (who : Initiator) (i : Fin 1048576) (s : State), s.opens who 0x91054 true = true → s.flag F.TRACK_RES_CMD_STAT_BUSY = false →
    s.plan.search = none → s.time.catchFrom = none →
    let c := i.val % 65536
    let m := i.val % 256
    let arg := s.getF F.TRACK_RES_ARG0_ARG
    let later (r : Rsv) : Bool := match r.ends with
      | none => true
      | some e => decide (0 < tickDiff e arg)
    let does (x : Instr) (p : State → Prop) : Prop := Completes x s fun t => t.plan.cmd = none ∧ t.flag F.TRACK_RES_CMD_STAT_BUSY = true ∧ p t ∧
      t = { s with
        regs := t.regs, fifos := t.fifos, mem := t.mem, freeCtr := t.freeCtr, zone := t.zone, pair := t.pair, plan := t.plan,
        mbox := t.mbox, bus := ⟨0, false⟩ }
    let shows (x : Instr) (p : State → Prop) : Prop := Completes x s fun t => t.flag F.TRACK_RES_CMD_STAT_BUSY = true ∧ p t ∧
      t = { s with
        regs := t.regs, fifos := t.fifos, bus := ⟨0, false⟩,
        plan := { s.plan with cmd := none, waiting := false, result := t.plan.result } }
    (s.cellIndexResult i.val ≠ 0 → shows (.queryCell who i) fun t => t.plan.result = s.cellIndexResult i.val ∧ t.fifos = s.fifos) ∧
    (s.cellIndexResult i.val = 0 → shows (.queryCell who i) fun t =>
      t.fifo 0x91070 = (((s.cellChain c).filter later).take 64).map (fun r => r.words.map (BitVec.ofNat 32)) ∧
      t.plan.result = if 64 < ((s.cellChain c).filter later).length then 8 else 0) ∧
    (s.machIndexResult i.val ≠ 0 → shows (.queryMachine who i) fun t => t.plan.result = s.machIndexResult i.val ∧ t.fifos = s.fifos) ∧
    (s.machIndexResult i.val = 0 → shows (.queryMachine who i) fun t =>
      t.fifo 0x91070 = (((s.machRecords m).filter later).take 64).map (fun r => r.words.map (BitVec.ofNat 32)) ∧
      t.plan.result = if 64 < ((s.machRecords m).filter later).length then 8 else 0) ∧
    (s.notActive = false → s.machIndexResult i.val = 0 → does (.release who i) fun t => t.plan.result = 0 ∧
      (arg = 0 → t.plan.used = s.plan.used.filter fun j => !((s.rsv j).machine == m && (s.rsv j).member == s.member))) ∧
    (s.notActive = false → s.machIndexResult i.val = 0 →
      (s.machValid m = false → shows (.reconcile who i) fun t => t.plan.result = 6 ∧ t.fifos = s.fifos) ∧
      (s.machValid m = true → s.machWord m 8 ≠ arg → shows (.reconcile who i) fun t => t.plan.result = 7 ∧ t.fifos = s.fifos) ∧
      (s.machValid m = true → s.machWord m 8 = arg → does (.reconcile who i) fun t => t.plan.result = 0 ∧ t.plan.used = s.plan.used) ∧
      (s.machValid m = false → shows (.planAck who i) fun t => t.plan.result = 6 ∧ t.fifos = s.fifos) ∧
      (s.machValid m = true → s.role = 0 → does (.planAck who i) fun t => t.plan.result = 0 ∧ t.machWord m 9 = arg ∧
        t.machWord m 8 = s.machWord m 8))) ∧
  (∀ (who : Initiator) (i : Fin 1048576) (s : State), s.opens who 0x91054 true = true → s.flag F.TRACK_RES_CMD_STAT_BUSY = false →
    s.plan.search = none → s.time.catchFrom = none → s.notActive = false →
    let c := i.val % 65536
    let m := s.getF F.TRACK_RES_ARG0_ARG % 256
    let does (x : Instr) (p : State → Prop) : Prop := Completes x s fun t => t.plan.cmd = none ∧ t.flag F.TRACK_RES_CMD_STAT_BUSY = true ∧ p t ∧
      t = { s with
        regs := t.regs, fifos := t.fifos, mem := t.mem, freeCtr := t.freeCtr, zone := t.zone, pair := t.pair, plan := t.plan,
        mbox := t.mbox, bus := ⟨0, false⟩ }
    let shows (x : Instr) (p : State → Prop) : Prop := Completes x s fun t => t.flag F.TRACK_RES_CMD_STAT_BUSY = true ∧ p t ∧
      t = { s with
        regs := t.regs, fifos := t.fifos, bus := ⟨0, false⟩,
        plan := { s.plan with cmd := none, waiting := false, result := t.plan.result } }
    (s.cellIndexResult i.val = 0 →
      (s.machValid m = false → shows (.reserve who i) fun t => t.plan.result = 6 ∧ t.fifos = s.fifos) ∧
      (s.machValid m = true → s.cellValid c = false → shows (.reserve who i) fun t => t.plan.result = 3 ∧ t.fifos = s.fifos) ∧
      (s.machValid m = true → s.cellValid c = true → s.cellTraverse c (s.machClass m) ≠ 0 → s.cellShared c = false →
        s.plan.used = [] → 0 < s.cellCapacity c → s.role = 0 → does (.reserve who i) fun t => t.plan.result = 0 ∧
          ∃ j, t.plan.used = [j] ∧ (t.rsv j).cell = c ∧ (t.rsv j).machine = m ∧ (t.rsv j).open_ = true ∧ (t.rsv j).entry = s.planTick)) ∧
    (s.flag F.TRACK_CTRL_PLAN_EN = true → shows (.trackClear who) fun t => t.plan.result = 9 ∧ t.fifos = s.fifos) ∧
    (s.flag F.TRACK_CTRL_PLAN_EN = false → does (.trackClear who) fun t => t.plan.result = 0 ∧ t.plan.used = [])) ∧
  (∀ (who : Initiator) (s : State), s.opens who 0x91070 false = true →
    (s.fifo 0x91070 = [] → Completes (.queryResultRead who) s fun t => t = { s with latches := t.latches, bus := ⟨0, false⟩ }) ∧
    (∀ w ws rest, s.fifo 0x91070 = (w :: ws) :: rest → Completes (.queryResultRead who) s fun t =>
      t.bus = ⟨BitVec.ofNat 64 w.toNat, false⟩ ∧ t.fifo 0x91070 = rest ∧ t.latch who = some ⟨0x91070, ws⟩ ∧
      t = { s with fifos := t.fifos, latches := t.latches, bus := t.bus })) ∧
  (∀ s : State, s.ticking 0x090 = true → s.flag F.TRACK_RES_CMD_STAT_BUSY = true →
    (s.plan.cmd ≠ none → exec .trackResCmdDone s = .next s) ∧
    (s.plan.cmd = none → s.plan.result < 16 → Completes .trackResCmdDone s fun t => t.flag F.TRACK_RES_CMD_STAT_BUSY = false ∧
      t.getF F.TRACK_RES_CMD_STAT_RESULT = s.plan.result ∧ t.event 0x091 0 = true ∧ t = { s with regs := t.regs })) ∧
  (∀ s : State, s.ticking 0x090 = false ∨ s.flag F.TRACK_RES_CMD_STAT_BUSY = false → exec .trackResCmdDone s = .next s)

/-- Rows DELIVERY_WORD, CHUNK_ACK, LATE, GIVEUP and TIME_JUMP_CATCH_UP. -/
def Obligations.SegmentDelivery : Prop :=
  (∀ (w : DWord) (s s1 : State), s.ticking 0x0A0 = true →
    (s.notActive = true → exec .deliveryWord s = .next s) ∧
    (s.notActive = false → s.mboxTake (s.getF F.TRACK_QUEUES_ACK_QUEUE) = (some w, s1) →
      let m := bitsOf (wordPayload w) 47 40
      (wordTag w ≠ 1 ∨ bitsOf (wordPayload w) 55 52 ≠ 8 ∨ s1.machValid m = false → exec .deliveryWord s = .next s1) ∧
      (wordTag w = 1 → bitsOf (wordPayload w) 55 52 = 8 → s1.machValid m = true → s1.role = 0 → Completes .deliveryWord s fun t =>
        t.machWord m 9 = wordPayload w % 2 ^ 32 ∧ (∀ i, i < 16 → i ≠ 0 → i ≠ 9 → t.machWord m i = s1.machWord m i) ∧
        t = { s1 with regs := t.regs, fifos := t.fifos, mem := t.mem, freeCtr := t.freeCtr, zone := t.zone, pair := t.pair })) ∧
    (s.notActive = false → s.mboxTake (s.getF F.TRACK_QUEUES_ACK_QUEUE) = (none, s1) → exec .deliveryWord s = .next s1)) ∧
  (∀ (m : Fin 256) (k : Fin 16) (s : State), s.pagePowered 0x0A0 = true →
    let x := s.segTable m.val
    let ok := x.ok ||| 2 ^ k.val
    let landed := x.flight - (x.flight &&& 2 ^ k.val)
    (bitAt x.sent k.val = false → exec (.chunkAck (m, k)) s = .next s) ∧
    (bitAt x.sent k.val = true → x.running = false ∨ ok ≠ 2 ^ x.chunks - 1 → Completes (.chunkAck (m, k)) s fun t =>
      t.segTable m.val = { x with ok := ok, flight := landed } ∧ (∀ j, j ≠ m.val → t.segTable j = s.segTable j) ∧
      t = { s with seg := t.seg }) ∧
    (bitAt x.sent k.val = true → x.running = true → ok = 2 ^ x.chunks - 1 → Completes (.chunkAck (m, k)) s fun t =>
      t.segTable m.val = { x with ok := ok, flight := landed, running := false, complete := true } ∧ t.event 0x0A0 0 = true ∧
      (∀ j, j ≠ m.val → t.segTable j = s.segTable j) ∧
      (s.notActive = true → s.flag F.SEG_CTRL_EVT_EN = false → t.mbox = s.mbox ∧ t.bus = s.bus) ∧
      t = { s with regs := t.regs, seg := t.seg, mbox := t.mbox, bus := t.bus })) ∧
  (∀ s : State, s.ticking 0x0A0 = true →
    (Completes .segLate s fun t => t = { s with regs := t.regs, seg := t.seg, mbox := t.mbox, bus := t.bus } ∧
      ∀ m, (t.segTable m).running = true → (t.segTable m).late = true ∨ tickDiff s.planTick (t.segTable m).start ≤ 0) ∧
    (Completes .segGiveup s fun t => t = { s with regs := t.regs, seg := t.seg, mbox := t.mbox, bus := t.bus } ∧
      ∀ m, (t.segTable m).running = true → tickDiff s.planTick (t.segTable m).start * 10 ≤ (s.getF F.SEG_CTRL_GIVEUP_EP * s.epochMs : Int)) ∧
    (∀ m x, s.seg.tables = [(m, x)] → x.running = true →
      (x.late = false → 0 < tickDiff s.planTick x.start → Completes .segLate s fun t => t.event 0x0A0 1 = true ∧
        t.segTable m = { x with late := true }) ∧
      ((s.getF F.SEG_CTRL_GIVEUP_EP * s.epochMs : Int) < tickDiff s.planTick x.start * 10 → Completes .segGiveup s fun t =>
        t.event 0x0A0 2 = true ∧ t.segTable m = { x with running := false, flight := 0 }))) ∧
  (∀ s : State, s.ticking 0x0A0 = false → exec .segLate s = .next s ∧ exec .segGiveup s = .next s ∧ exec .deliveryWord s = .next s) ∧
  (∀ s : State, (s.time.catchFrom = none → exec .timeJumpCatchUp s = .next s) ∧
    (∀ from_ a dest m x, s.pagePowered 0x0A0 = true → s.time.catchFrom = some from_ → s.time.jump = some (a, dest) →
      s.sched.threads = [] → s.sched.items = [] → s.flag F.SCHED_CTRL_JOB_EN = false → s.notActive = true → s.rsvs = [] →
      s.sched.held = [] → s.pair.touched = [] → s.plan.cmd = none → s.seg.tables = [(m, x)] → x.running = true → x.late = false →
      let d := tickDiff x.start (from_ / 10000000)
      0 ≤ d → d + (s.getF F.SEG_CTRL_GIVEUP_EP * s.epochMs / 10 : Nat) ≥ (dest / 10000000 - from_ / 10000000 : Nat) →
      (d < (dest / 10000000 - from_ / 10000000 : Nat) → Completes .timeJumpCatchUp s fun t =>
        t.segTable m = { x with late := true } ∧ t.event 0x0A0 1 = true ∧
        t = { s with regs := t.regs, seg := t.seg, mbox := t.mbox, bus := t.bus, time := { s.time with catchFrom := none } }) ∧
      (d ≥ (dest / 10000000 - from_ / 10000000 : Nat) → exec .timeJumpCatchUp s =
        .next { s with time := { s.time with catchFrom := none } })))

/-- Rows AXIS_ENABLE, AXIS_DISABLE, MOVE_ABS, MOVE_REL, RUN_TABLE, AXIS_STOP, QUICK_STOP, AXIS_RESUME, HOME, CLEAR_FAULT, SET_POS and
PROFILE_UPDATE. `does` is the update of an axis on which one command waits, without a site stop or a lost supply; the last clause is
the update's frame for every axis. -/
def Obligations.AxisCommands : Prop :=
  (∀ (who : Initiator) (n : Fin 8) (s : State),
    (s.opens who (axisPage n.val * 0x1000 + 0x040) true = true →
      (Completes (.axisEnable who n) s fun t => t.flag (F.AXIS_CTRL_EN n.val) = true ∧
        ((s.axis n.val).mode = AxisMode.disabled → (t.axis n.val).mode = AxisMode.idle) ∧
        ((s.axis n.val).mode ≠ AxisMode.disabled → t.axis n.val = s.axis n.val) ∧ t = { s with regs := t.regs, axes := t.axes, bus := ⟨0, false⟩ }) ∧
      (Completes (.axisDisable who n) s fun t => t.flag (F.AXIS_CTRL_EN n.val) = false ∧ (t.axis n.val).mode = AxisMode.disabled ∧
        (t.axis n.val).vel = 0 ∧ (t.axis n.val).homed = false ∧ (t.axis n.val).cmdPos = (s.axis n.val).cmdPos ∧
        (∀ j, j ≠ n.val → t.axis j = s.axis j) ∧ t = { s with regs := t.regs, axes := t.axes, bus := ⟨0, false⟩ })) ∧
    (s.opens who (axisPage n.val * 0x1000 + 0x048) true = true →
      ∀ c ∈ [(Instr.moveAbs who n, 1), (.moveRel who n, 2), (.runTable who n, 3), (.axisStop who n, 4), (.quickStop who n, 5),
        (.axisResume who n, 6), (.axisHome who n, 7), (.clearFault who n, 8), (.setPos who n, 9)],
        Completes c.1 s fun t => t.axis n.val = { s.axis n.val with cmds := (s.axis n.val).cmds ++ [(who, c.2)] } ∧
          (∀ j, j ≠ n.val → t.axis j = s.axis j) ∧ t = { s with axes := t.axes, bus := ⟨0, false⟩ })) ∧
  (∀ (who : Initiator) (n : Fin 8) (cmd : Nat) (s : State), s.pagePowered 0x0A1 = true → s.ioLost = false → s.siteStops n.val = false →
    (s.axis n.val).cmds = [(who, cmd)] → (s.axis n.val).tab = none →
    let a := s.axis n.val
    let arg := toSigned 32 (s.getF (F.AXIS_TARGET_STEPS n.val))
    let free (target : Int) : Prop := s.limActive n.val (decide (a.cmdPos < target)) = false ∧ a.cmdPos ≠ target
    let does (p : AxisSt → Prop) : Prop := Completes (.profileUpdate n) s fun t => p (t.axis n.val) ∧ (t.axis n.val).cmds = [] ∧
      (∀ j, j ≠ n.val → t.axis j = s.axis j) ∧ t = { s with regs := t.regs, axes := t.axes }
    (cmd = 1 → a.mode = AxisMode.idle → free arg → does fun b => b.mode = AxisMode.move ∧ b.target = arg ∧ b.pos = a.pos) ∧
    (cmd = 2 → a.mode = AxisMode.idle → free (pos32 (a.cmdPos + arg)) → does fun b => b.mode = AxisMode.move ∧
      b.target = pos32 (a.cmdPos + arg)) ∧
    (cmd = 4 → a.mode = AxisMode.move → does fun b => b.mode = AxisMode.stopping ∧ b.keep = true ∧ b.quick = false ∧ b.target = a.target) ∧
    (cmd = 5 → a.mode = AxisMode.move → does fun b => b.mode = AxisMode.stopping ∧ b.quick = true ∧ b.keep = false) ∧
    (cmd = 6 → a.mode = AxisMode.idle → a.resumable = true → free a.target → does fun b => b.mode = AxisMode.move ∧ b.target = a.target) ∧
    (cmd = 7 → a.mode = AxisMode.idle → does fun b => b.mode = AxisMode.homing ∧ b.homed = false) ∧
    (cmd = 8 → a.mode = AxisMode.fault → does fun b => b.mode = AxisMode.idle ∧ b.cause = 0) ∧
    (cmd = 9 → a.mode = AxisMode.idle → does fun b => b.pos = arg * stepUnit ∧ b.homed = false ∧ b.mode = AxisMode.idle) ∧
    (cmd = 3 → a.mode = AxisMode.idle → s.getF (F.AXIS_TABLE_COUNT_COUNT n.val) = 0 →
      tickDiff s.taiMs (s.getF (F.AXIS_TABLE_AT_MS n.val)) < 0 → s.getF (F.AXIS_TABLE_AT_MS n.val) ≠ 0 →
      does fun b => b.mode = AxisMode.table ∧ ∃ r, b.tab = some r ∧ r.count = 0 ∧ r.begun = false) ∧
    (1 ≤ cmd → cmd ≤ 9 → cmd ≠ 8 → a.mode = AxisMode.fault → s.flag (F.PG_ERR_INFO_VALID (axisPage n.val)) = false →
      Completes (.profileUpdate n) s fun t => (t.axis n.val).mode = AxisMode.fault ∧
        t.getF (F.PG_ERR_INFO_CODE (axisPage n.val)) = 0x11 ∧ t.event (axisPage n.val) 31 = true ∧
        (t.axis n.val).cmds = [] ∧ t = { s with regs := t.regs, axes := t.axes })) ∧
  (∀ (n : Fin 8) (s : State),
    (s.pagePowered 0x0A1 = false → exec (.profileUpdate n) s = .next s) ∧
    (s.pagePowered 0x0A1 = true → Completes (.profileUpdate n) s fun t => (s.ioLost = false → (t.axis n.val).cmds = []) ∧
      (∀ j, j ≠ n.val → t.axis j = s.axis j) ∧
      t = { s with regs := t.regs, fifos := t.fifos, mem := t.mem, freeCtr := t.freeCtr, axes := t.axes }))

/-- Rows STEP_UPDATE, ENCODER_EDGE, LIMIT_EVT, HOME_CHANGE, STALL, IDLE_CURRENT, IO_SUPPLY_LOST and IO_SUPPLY_RESTORED. -/
def Obligations.AxisMotionAndInputs : Prop :=
  (∀ (n : Fin 8) (s : State), s.pagePowered 0x0A1 = true →
    let a := s.axis n.val
    (0 < a.wake → Completes (.stepUpdate n) s fun t => t.axis n.val = { a with wake := a.wake - 1, steps := 0 } ∧ t = { s with axes := t.axes }) ∧
    (a.wake = 0 → a.mode = AxisMode.idle → a.vel = 0 → a.owed = 0 → Completes (.stepUpdate n) s fun t =>
      t.axis n.val = { a with steps := 0, stepFrom := (t.axis n.val).stepFrom } ∧ (∀ j, j ≠ n.val → t.axis j = s.axis j) ∧
      t = { s with axes := t.axes }) ∧
    (a.wake = 0 → a.mode = AxisMode.move → a.vel = 0 → a.owed = 0 → a.pos = a.target * stepUnit → Completes (.stepUpdate n) s fun t =>
      (t.axis n.val).mode = AxisMode.idle ∧ (t.axis n.val).cmdPos = a.target ∧ (t.axis n.val).steps = 0 ∧
      t.event (axisPage n.val) 0 = true ∧ (∀ j, j ≠ n.val → t.axis j = s.axis j) ∧ t = { s with regs := t.regs, axes := t.axes }) ∧
    (a.wake = 0 → a.mode = AxisMode.stopping → a.vel = 0 → a.after = 0 → a.stopAt = none → Completes (.stepUpdate n) s fun t =>
      (t.axis n.val).mode = AxisMode.idle ∧ (t.axis n.val).cmdPos = a.cmdPos ∧ t.event (axisPage n.val) 1 = true ∧
      (a.keep = true → (t.axis n.val).resumable = true ∧ (t.axis n.val).remain = pos32 (a.target - a.cmdPos)) ∧
      (∀ j, j ≠ n.val → t.axis j = s.axis j) ∧ t = { s with regs := t.regs, axes := t.axes }) ∧
    (a.wake = 0 → ((s.axisAdvance n.val).axis n.val).mode ≠ AxisMode.disabled →
      s.overRate n.val ((s.axisAdvance n.val).axis n.val).vel.natAbs = true → Completes (.stepUpdate n) s fun t =>
        (t.axis n.val).mode = AxisMode.fault ∧ (t.axis n.val).cause = 5 ∧ (t.axis n.val).steps = 0 ∧ (t.axis n.val).vel = 0 ∧
        t.event (axisPage n.val) 2 = true ∧
        t = { s with regs := t.regs, fifos := t.fifos, mem := t.mem, freeCtr := t.freeCtr, axes := t.axes })) ∧
  (∀ (n : Fin 8) (x y : Bool) (s : State), let a := s.axis n.val
    let inv := s.flag (F.AXIS_CTRL_ENC_INV n.val)
    let errors := F.AXIS_ENC_ERR_COUNT n.val
    (s.ioLost = true ∨ s.flag (F.AXIS_CTRL_ENC_EN n.val) = false ∨ s.pagePowered 0x0A1 = false → Completes (.encoderEdge n x y) s fun t =>
      t.axis n.val = { a with encA := x, encB := y } ∧ (∀ j, j ≠ n.val → t.axis j = s.axis j) ∧ t = { s with axes := t.axes }) ∧
    (s.ioLost = false → s.flag (F.AXIS_CTRL_ENC_EN n.val) = true → s.pagePowered 0x0A1 = true →
      (x = a.encA → y = a.encB → Completes (.encoderEdge n x y) s fun t => t.axis n.val = a ∧ t = { s with axes := t.axes }) ∧
      (x ≠ a.encA → y = a.encB → Completes (.encoderEdge n x y) s fun t =>
        t.axis n.val = { a with encA := x, encB := y, enc := pos32 (if (x != y) != inv then a.enc + 1 else a.enc - 1) } ∧
        (∀ j, j ≠ n.val → t.axis j = s.axis j) ∧ t = { s with axes := t.axes }) ∧
      (x = a.encA → y ≠ a.encB → Completes (.encoderEdge n x y) s fun t =>
        t.axis n.val = { a with encA := x, encB := y, enc := pos32 (if (x == y) != inv then a.enc + 1 else a.enc - 1) } ∧
        (∀ j, j ≠ n.val → t.axis j = s.axis j) ∧ t = { s with axes := t.axes }) ∧
      (x ≠ a.encA → y ≠ a.encB → s.getF errors + 1 < 2 ^ errors.width →
        (s.flag (F.AXIS_CTRL_ENC_FAULT n.val) = false → Completes (.encoderEdge n x y) s fun t => t.getF errors = s.getF errors + 1 ∧
          t.axis n.val = { a with encA := x, encB := y } ∧ t = { s with regs := t.regs, axes := t.axes }) ∧
        (s.flag (F.AXIS_CTRL_ENC_FAULT n.val) = true → a.mode ≠ AxisMode.disabled → Completes (.encoderEdge n x y) s fun t =>
          t.getF errors = s.getF errors + 1 ∧ (t.axis n.val).mode = AxisMode.fault ∧ (t.axis n.val).cause = 7 ∧
          t.event (axisPage n.val) 2 = true ∧ t = { s with regs := t.regs, axes := t.axes })))) ∧
  (∀ (n : Fin 8) (pos high : Bool) (s : State), let a := s.axis n.val
    let x := if pos then a.limPos else a.limNeg
    let hold := 1000 * s.getF (F.AXIS_DEBOUNCE_LIM_US n.val)
    (high ≠ x.raw → x.raw = x.level → x.first = none → 0 < hold → Completes (.limitEvt n pos high) s fun t =>
      let y : AxisInput := { x with raw := high, since := s.now, first := some a.enc }
      t.axis n.val = (if pos then { a with limPos := y } else { a with limNeg := y }) ∧ t = { s with axes := t.axes }) ∧
    (high = x.raw → high ≠ x.level → x.since + hold ≤ s.now → s.pagePowered 0x0A1 = true →
      (high = s.flag (F.AXIS_CTRL_LIM_LOW n.val) → Completes (.limitEvt n pos high) s fun t => t.limActive n.val pos = false ∧
        (t.axis n.val).mode = a.mode ∧ t = { s with axes := t.axes }) ∧
      (high ≠ s.flag (F.AXIS_CTRL_LIM_LOW n.val) → a.mode = AxisMode.move → (if pos then 0 < a.vel else a.vel < 0) →
        Completes (.limitEvt n pos high) s fun t => (t.axis n.val).mode = AxisMode.stopping ∧ (t.axis n.val).quick = true ∧
          (t.axis n.val).after = 1 ∧ t.limActive n.val pos = true ∧ t = { s with axes := t.axes }) ∧
      (high ≠ s.flag (F.AXIS_CTRL_LIM_LOW n.val) → a.mode ≠ AxisMode.homing → a.vel = 0 → Completes (.limitEvt n pos high) s fun t =>
        (t.axis n.val).mode = a.mode ∧ t.event (axisPage n.val) 4 = true ∧ t.limActive n.val pos = true ∧
        t = { s with regs := t.regs, axes := t.axes }))) ∧
  (∀ (n : Fin 8) (high : Bool) (s : State), let a := s.axis n.val
    let x := a.homePin
    let hold := 1000 * s.getF (F.AXIS_DEBOUNCE_HOME_US n.val)
    (∀ old, old ≠ x.raw → exec (.homeChange n old high) s = .next s) ∧
    (high ≠ x.raw → x.raw = x.level → x.first = none → 0 < hold → Completes (.homeChange n x.raw high) s fun t =>
      t.axis n.val = { a with homePin := { x with raw := high, since := s.now, first := some a.enc } } ∧ t = { s with axes := t.axes }) ∧
    (high = x.raw → high ≠ x.level → x.since + hold ≤ s.now → s.pagePowered 0x0A1 = true →
      let settled : AxisInput := { x with level := high, first := none }
      (a.mode ≠ AxisMode.homing → Completes (.homeChange n high high) s fun t => t.axis n.val = { a with homePin := settled } ∧
        t = { s with axes := t.axes }) ∧
      (a.mode = AxisMode.homing → high = !s.flag (F.AXIS_CTRL_HOME_LOW n.val) →
        (a.phase = HomePhase.search → Completes (.homeChange n high high) s fun t =>
          t.axis n.val = { a with homePin := settled, phase := .found } ∧ t = { s with axes := t.axes }) ∧
        (∀ first, a.phase = HomePhase.approach → x.first = some first → Completes (.homeChange n high high) s fun t =>
          t.axis n.val = { a with homePin := settled, phase := .latched, latch := first } ∧ t = { s with axes := t.axes })))) ∧
  (∀ (n : Fin 8) (s : State), s.pagePowered 0x0A1 = true →
    let a := s.axis n.val
    (s.flag (F.AXIS_CTRL_STALL_EN n.val) = false ∨ a.stall < s.getF (F.AXIS_STALL_MS n.val) → exec (.stall n) s = .next s) ∧
    (s.flag (F.AXIS_CTRL_STALL_EN n.val) = true → s.getF (F.AXIS_STALL_MS n.val) ≤ a.stall → a.mode ≠ AxisMode.disabled →
      Completes (.stall n) s fun t => (t.axis n.val).mode = AxisMode.fault ∧ (t.axis n.val).cause = 4 ∧ (t.axis n.val).vel = 0 ∧
        t.event (axisPage n.val) 2 = true ∧ (∀ j, j ≠ n.val → t.axis j = s.axis j) ∧ t = { s with regs := t.regs, axes := t.axes }) ∧
    (s.flag (F.AXIS_CTRL_IDLE_EN n.val) = false ∨ (∃ c ∈ a.cmds, axisMotion c.2 = true) → exec (.idleCurrent n) s = .next s) ∧
    (s.flag (F.AXIS_CTRL_IDLE_EN n.val) = true → a.mode = AxisMode.idle → (∀ c ∈ a.cmds, axisMotion c.2 = false) →
      a.restAt + 1000000 * s.getF (F.AXIS_IDLE_DELAY_MS n.val) ≤ s.now →
      Completes (.idleCurrent n) s fun t => t.axis n.val = { a with reduced := true } ∧ (∀ j, j ≠ n.val → t.axis j = s.axis j) ∧
        t = { s with axes := t.axes }) ∧
    (s.ioLost = true → a.mode = AxisMode.idle → Completes (.profileUpdate n) s fun t => (t.axis n.val).mode = AxisMode.fault ∧
      (t.axis n.val).cause = 8 ∧ t.event (axisPage n.val) 2 = true ∧ t = { s with regs := t.regs, axes := t.axes })) ∧
  (∀ (n : Fin 8) (s : State), s.pagePowered 0x0A1 = false →
    exec (.stepUpdate n) s = .next s ∧ exec (.stall n) s = .next s ∧ exec (.idleCurrent n) s = .next s) ∧
  (∀ s : State, exec .ioSupplyLost s = .next { s with ioLost := true } ∧ exec .ioSupplyRestored s = .next { s with ioLost := false })

/-- Rows LINK_DOWN, LINK_UP, SECT_BANK and CYCLE_EDGE. -/
def Obligations.RadioLinksAndBanks : Prop :=
  (∀ (n : Fin 8) (rx : Bool) (d : Fin 5) (s : State), let f := if rx then F.SECT_STAT_JESD_RX n.val else F.SECT_STAT_JESD_TX n.val
    (d.val = 3 → exec (.linkDown n rx d) s = .next s) ∧
    (d.val ≠ 3 → Completes (.linkDown n rx d) s fun t => t.getF f = d.val ∧ t.linksUp n.val = false ∧
      bitAt (t.getF F.RADIO_STAT_LINK_UP) n.val = false ∧ (s.getF f = 3 → t.event (sectPage n.val) 1 = true) ∧
      (∀ j : Fin 8, j ≠ n → t.linksUp j.val = s.linksUp j.val) ∧
      OnlyRegs s t [f.key, F.RADIO_STAT_LINK_UP.key, sectPage n.val * 0x1000 + 0x10])) ∧
  (∀ (n : Fin 8) (s : State),
    (s.linksUp n.val = true ∨ s.pagePowered (sectPage n.val) = false → exec (.linkUp n) s = .next s) ∧
    (s.linksUp n.val = false → s.pagePowered (sectPage n.val) = true → Completes (.linkUp n) s fun t => t.linksUp n.val = true ∧
      t.sect n.val = { s.sect n.val with back := some s.slotNow } ∧ bitAt (t.getF F.RADIO_STAT_LINK_UP) n.val = true ∧
      t.event (sectPage n.val) 0 = true ∧ t.sectServes n.val = false ∧ (∀ j, j ≠ n.val → t.sect j = s.sect j) ∧
      t = { s with regs := t.regs, radio := t.radio })) ∧
  (∀ (who : Initiator) (n : Fin 8) (bank : Fin 2) (s : State), s.opens who (sectPage n.val * 0x1000 + 0x040) true = true →
    let active := s.getF (F.SECT_STAT_BANK_ACTIVE n.val)
    (bank.val = active → Completes (.sectBank who n bank) s fun t => t.getF (F.SECT_CTRL_BANK n.val) = bank.val ∧
      t.flag (F.SECT_STAT_BANK_PENDING n.val) = false ∧ t.getF (F.SECT_STAT_BANK_ACTIVE n.val) = active ∧
        t = { s with regs := t.regs, bus := ⟨0, false⟩ }) ∧
    (bank.val ≠ active → s.bankPasses n.val bank.val = true → Completes (.sectBank who n bank) s fun t => t.getF (F.SECT_CTRL_BANK n.val) = bank.val ∧
      t.flag (F.SECT_STAT_BANK_PENDING n.val) = true ∧ t.getF (F.SECT_STAT_BANK_ACTIVE n.val) = active ∧
        t = { s with regs := t.regs, bus := ⟨0, false⟩ }) ∧
    (bank.val ≠ active → s.bankPasses n.val bank.val = false →
      Completes (.sectBank who n bank) s fun t => t.reg (sectPage n.val * 0x1000 + 0x040) = s.reg (sectPage n.val * 0x1000 + 0x040) ∧
      t.reg (sectPage n.val * 0x1000 + 0x044) = s.reg (sectPage n.val * 0x1000 + 0x044) ∧ t.event (sectPage n.val) 3 = true ∧
      (s.flag (F.PG_ERR_INFO_VALID (sectPage n.val)) = false → t.getF (F.PG_ERR_INFO_CODE (sectPage n.val)) = 0x12) ∧
      t = { s with regs := t.regs, bus := ⟨0, false⟩ })) ∧
  (∀ (n : Fin 8) (s : State), let active := s.getF (F.SECT_STAT_BANK_ACTIVE n.val)
    let bank := s.getF (F.SECT_CTRL_BANK n.val)
    let x := s.sect n.val
    let due := s.edgeDue (100 + n.val) (s.cycleSlots * 250000)
    let corr := if x.corrEp = s.epochNo then x.corr else []
    let prCorr := if x.prEp = s.epochNo then x.prCorr else []
    let edge (p : State → Prop) : Prop := Completes (.cycleEdge n) s fun t => p t ∧
      t.sect n.val = { x with cycle := some (s.slotNow / s.cycleSlots), next := 0, blocks := [], twin := [], corr := corr, prCorr := prCorr } ∧
      (corr ≠ x.corr ∨ prCorr ≠ x.prCorr → t.event 0x0B0 4 = true) ∧ (∀ j, j ≠ n.val → t.sect j = s.sect j) ∧
      t = { s with regs := t.regs, radio := t.radio, time := t.time }
    (due = none → exec (.cycleEdge n) s = .next s) ∧
    (due ≠ none → s.flag (F.SECT_STAT_BANK_PENDING n.val) = false ∨ s.epochHolds = true → edge fun t =>
      corr = x.corr → prCorr = x.prCorr → t.regs = s.regs) ∧
    (due ≠ none → s.flag (F.SECT_STAT_BANK_PENDING n.val) = true → s.epochHolds = false →
      (s.bankPasses n.val bank = true → edge fun t => t.getF (F.SECT_STAT_BANK_ACTIVE n.val) = bank ∧ t.flag (F.SECT_STAT_BANK_PENDING n.val) = false ∧
        t.event (sectPage n.val) 2 = true) ∧
      (s.bankPasses n.val bank = false → edge fun t => t.getF (F.SECT_STAT_BANK_ACTIVE n.val) = active ∧ t.getF (F.SECT_CTRL_BANK n.val) = active ∧
        t.flag (F.SECT_STAT_BANK_PENDING n.val) = false ∧ t.event (sectPage n.val) 3 = true)))

/-- Rows BEACON, STOP_MINI_SLOT, TX, RX, OPEN, POLL, TWIN, IDLE, REPEAT and PROGRAM_END. -/
def Obligations.RadioSlots : Prop :=
  (∀ (n : Fin 8) (at_ : Nat) (s : State), s.sectServes n.val = true → s.pwr.state ≠ PwrState.snowdrop → s.keys.kRadio ≠ none →
    let slot := at_ / 250000
    let early (us : Nat) : Int := slot * 250000 + us * 1000 - s.getF (F.SECT_COMP_TX_NS n.val)
    let sends (c : Instr) (p : State → Prop) : Prop := Completes c s fun t => p t ∧ (∀ j, j ≠ n.val → t.sect j = s.sect j) ∧
      t = { s with regs := t.regs, radio := t.radio, time := t.time }
    (s.edgeDue (110 + n.val) 250000 = some at_ → s.ownBeacon slot = true → sends (.beacon n) fun t =>
      (∃ b, s.nativeMpdu n.val (slot / 80) airAll 2 0 0 airAll (s.beaconPayload n.val slot (s.mirrorToken slot) (s.mirrorImage slot)) = some b ∧
        (t.sect n.val).sent = some ⟨slot, 42, 12, b, early 42⟩) ∧
      (s.mirrorToken slot = none → t.event (sectPage n.val) 4 = true)) ∧
    (s.edgeDue (110 + n.val) 250000 = some at_ → s.ownBeacon slot = false → sends (.beacon n) fun t => (t.sect n.val).sent = (s.sect n.val).sent) ∧
    (s.edgeDue (120 + n.val) 250000 = some at_ → slot % 80 = 20 ∨ slot % 80 = 40 ∨ slot % 80 = 60 →
      (∀ img, s.mirrorImage slot = some img → sends (.stopMiniSlot n) fun t =>
        let off := if s.flag F.RADIO_CTRL_PAIR = true ∧ s.airUnit = 1 then 146 else 42
        ∃ b, s.nativeMpdu n.val (slot / 80) airAll 3 0 0 airAll img = some b ∧
          (t.sect n.val).sent = some ⟨slot, off, if s.flag F.RADIO_CTRL_PAIR = true ∧ s.wide10 n.val = true then 24 else 12, b, early off⟩) ∧
      (s.mirrorImage slot = none → sends (.stopMiniSlot n) fun t => (t.sect n.val).sent = (s.sect n.val).sent))) ∧
  (∀ (n : Fin 8) (i : Nat) (e : ProgEntry) (s : State), s.sectServes n.val = true → s.pwr.state ≠ PwrState.snowdrop →
    let op := progOp e.word
    s.progDue n.val (fun x => (op == 4 || op == 5 || op == 6) && progOp x.word == op) = some (i, e) →
    let past := s.progPast n.val (i, e)
    let word (c : Instr) (p : State → Prop) : Prop := Completes c s fun t => p t ∧ (t.sect n.val).cycle = some (s.slotNow / s.cycleSlots) ∧
      (t.sect n.val).next = i + 1 ∧ t.getF (F.SECT_STAT_PROG_WORD n.val) = e.idx % 256 ∧ ∀ j, j ≠ n.val → t.sect j = s.sect j
    let opened (c : Instr) (k : RxKind) : Prop := word c fun t =>
      t.sect n.val = { past.sect n.val with rx := some ⟨k, s.slotNow - s.slotNow % s.cycleSlots + e.start, e.count, [], []⟩ } ∧
      t = { s with regs := t.regs, radio := t.radio, time := t.time }
    let carried (t : State) : Prop := t = { s with
                                                   regs := t.regs, radio := t.radio, seg := t.seg, solv := t.solv, fifos := t.fifos,
                                                   mem := t.mem, freeCtr := t.freeCtr }
    (s.progFree e = false → ∀ c ∈ [(3, Instr.tx n), (4, .rx n), (5, .radioOpen n)], op = c.1 → word c.2 fun t =>
      (t.sect n.val).rx = (s.sect n.val).rx ∧ (t.sect n.val).sent = (s.sect n.val).sent ∧ (t.sect n.val).wait = (s.sect n.val).wait ∧
      t = { s with regs := t.regs, radio := t.radio }) ∧
    (s.progFree e = true →
      (op = 3 → word (.tx n) fun t => carried t ∧ ∃ c, (t.sect n.val).blocks = (past.sect n.val).blocks ++ [⟨e.count, c⟩] ∧
        (bitAt e.word 23 = false → s.machValid (bitsOf e.word 7 0) = false → c = none) ∧
        (∀ b, bitAt e.word 23 = false → bitsOf e.word 22 20 = 1 → s.machValid (bitsOf e.word 7 0) = true → s.isPrimrose (bitsOf e.word 7 0) = false →
          s.keys.kRadio ≠ none → past.fixFor (bitsOf e.word 7 0) = some b →
          s.airFits n.val (rateOf (if bitsOf e.word 17 16 = 0 then s.getF (F.SECT_CTRL_DATA_RATE n.val) else bitsOf e.word 17 16)) 60 true e.count = true →
          ∃ f, c = some f ∧ f.machine = some (bitsOf e.word 7 0) ∧ f.fix = some b ∧ f.payload = wordsBytes [0x1C9] ++ b ∧ f.seq = s.slotNow % 65536) ∧
        (c = none → (t.sect n.val).sent = (s.sect n.val).sent) ∧
        (∀ f, c = some f → s.onlyTwins = true → (t.sect n.val).sent = (s.sect n.val).sent ∧ t.solv = s.solv) ∧
        (∀ f, c = some f → s.onlyTwins = false → (∃ b, (t.sect n.val).sent = some ⟨s.slotNow, 42, f.rate, b,
            s.slotNow * 250000 + 42000 - s.getF (F.SECT_COMP_TX_NS n.val)⟩) ∧
          ∀ m, f.machine = some m → ∃ w, (t.sect n.val).wait = some w ∧ w.machine = m ∧ w.seq = f.seq ∧ w.fw = f.fw ∧ w.chunks = f.chunks ∧
            w.plan = f.plan)) ∧
      (op = 4 → opened (.rx n) (.rx (bitsOf e.word 7 0))) ∧ (op = 5 → opened (.radioOpen n) (.contention (bitAt e.word 8))) ∧
      (op = 6 → s.slotNow % s.cycleSlots < e.start + (e.count + 1) / 2 → opened (.poll n) .poll) ∧
      (op = 7 → word (.twin n) fun t => carried t ∧ let l := twinSlots e.count s.slotNow (past.sect n.val).blocks
        (t.sect n.val).blocks = (past.sect n.val).blocks.drop l.length ∧ (t.sect n.val).twin = l.tail ∧
        (s.onlyTwins = false ∨ l = [] → (t.sect n.val).sent = (s.sect n.val).sent)) ∧
      (op = 8 → exec (.idle n) s = .next past) ∧ (op = 9 → exec (.radioRepeat n) s = .next past) ∧
      (op = 0 → exec (.programEnd n) s = .next past))) ∧
  (∀ (n : Fin 8) (s : State), s.sectServes n.val = false ∨ s.pwr.state = PwrState.snowdrop →
    (∀ c ∈ [Instr.tx n, .rx n, .radioOpen n, .idle n, .radioRepeat n, .programEnd n], exec c s = .next s) ∧
    (s.sectServes n.val = false → exec (.twin n) s = .next s) ∧ (s.edgeDue (110 + n.val) 250000 = none → exec (.beacon n) s = .next s) ∧
    (s.edgeDue (120 + n.val) 250000 = none → exec (.stopMiniSlot n) s = .next s) ∧
    (s.edgeDue (130 + n.val) 250000 = none → exec (.poll n) s = .next s)) ∧
  (∀ (n : Fin 8) (x : TxBlock) (f : TxContent) (s : State), s.sectServes n.val = true → s.progDue n.val (fun _ => false) = none →
    s.onlyTwins = true → (s.sect n.val).twin = [(s.slotNow, x)] → x.frame = some f → (f.primrose = true ∨ s.keys.kRadio ≠ none) →
    Completes (.twin n) s fun t => (t.sect n.val).twin = [] ∧ (∀ j, j ≠ n.val → t.sect j = s.sect j) ∧
      (∃ b, (t.sect n.val).sent = some ⟨s.slotNow, 42, f.rate, b, s.slotNow * 250000 + 42000 - s.getF (F.SECT_COMP_TX_NS n.val)⟩) ∧
      t = { s with regs := t.regs, radio := t.radio, seg := t.seg, solv := t.solv }) ∧
  (∀ (n : Fin 8) (at_ : Nat) (b : RxBlock) (s : State), s.sectServes n.val = true → s.progDue n.val (fun x => progOp x.word == 6) = none →
    s.edgeDue (130 + n.val) 250000 = some at_ → (s.sect n.val).rx = some b → b.kind = .poll → b.first + b.pollSlots ≤ s.slotNow →
    s.slotNow < b.first + b.slots →
    ((∀ m ∈ b.polled, s.airHolds m = false) → exec (.poll n) s = .next (s.edgeDone (130 + n.val) at_)) ∧
    (∀ m fix, b.polled = [m] → s.isPrimrose m = false → s.machValid m = true → s.keys.kRadio ≠ none → s.fixFor m = some fix →
      s.airFits n.val (rateOf (s.getF (F.SECT_CTRL_DATA_RATE n.val))) 60 true 1 = true →
      Completes (.poll n) s fun t => (∃ l, (t.sect n.val).rx = some { b with polled := l }) ∧
        (∃ p a, (t.sect n.val).sent = some ⟨s.slotNow, 42, rateOf (s.getF (F.SECT_CTRL_DATA_RATE n.val)), p, a⟩) ∧
        (∃ w, (t.sect n.val).wait = some w ∧ w.machine = m ∧ w.seq = s.slotNow % 65536) ∧ (∀ j, j ≠ n.val → t.sect j = s.sect j)))

/-- Rows FRAME_ACCEPT, ACK_MISSING, ASSOC_REQ, DISASSOC, ASSOC_TIMEOUT, WATCH and FW_FRAME. -/
def Obligations.RadioReception : Prop :=
  (∀ (n : Fin 8) (rate start : Nat) (wide : Bool) (bytes : List Byte) (s : State), let r0 : RxFrame := ⟨rate, wide, start, bytes⟩
    let r := s.airStamp n.val r0
    let slot := r.start / 250000
    let c := Instr.frameAccept n rate wide start bytes
    (s.sectRunning n.val = false ∨ s.taiNs < start ∨ (∃ b, (s.sect n.val).back = some b ∧ slot ≤ b) ∨ s.slotJumped slot = true ∨
      (r.proto = 1 ∧ (r.kind = 7 ∨ r.kind = 9)) → exec c s = .next s) ∧
    (s.sectRunning n.val = true → start ≤ s.taiNs → (∀ b, (s.sect n.val).back = some b → b < slot) → s.slotJumped slot = false → r.proto = 2 →
      (rate ≠ 6 ∧ rate ≠ 12 ∧ rate ≠ 24 ∨ wide ≠ s.wide10 n.val → exec c s = .next (s.bump (F.SECT_RX_PHY_COUNT n.val))) ∧
      (rate = 6 ∨ rate = 12 ∨ rate = 24 → wide = s.wide10 n.val →
        (bytes.length ≤ 23 → exec c s = .next (s.airDiscard n.val (F.SECT_RUNT_COUNT n.val))) ∧
        (2049 ≤ bytes.length → exec c s = .next (s.airDiscard n.val (F.SECT_GIANT_COUNT n.val))) ∧
        (24 ≤ bytes.length → bytes.length ≤ 2048 → (s.sect n.val).rx = none →
          crc32 (bytes.take (bytes.length - 4)) ≠ leValue (bytes.drop (bytes.length - 4)) →
            exec c s = .next (s.airDiscard n.val (F.SECT_RX_FCS_COUNT n.val))))) ∧
    (s.hears n.val r0 → r.proto = 2 → r.kind < 6 → bitsOf (wordAt bytes 0) 5 4 = 0 ∨ bitsOf (wordAt bytes 0) 5 4 = 1 →
      s.linkTag (leValue ((bytes.drop 10).take 6)) (r.start / 20000000) (bytes.take (bytes.length - 8)) ≠ some ((bytes.drop (bytes.length - 8)).take 4) →
      exec c s = .next (s.airDiscard n.val (F.SECT_RX_TAG_COUNT n.val))) ∧
    (s.hears n.val r0 → r.proto = 2 → r.kind = 0 → bitsOf (wordAt bytes 0) 5 4 = 2 → (s.sect n.val).rx = none →
      let src := leValue ((bytes.drop 4).take 6)
      (s.identMachine src = none → exec c s = .next (s.airDiscard n.val (F.SECT_FOREIGN_COUNT n.val))) ∧
      (∀ m, s.identMachine src = some m → s.linkTag src (r.start / 20000000) (bytes.take (bytes.length - 8)) ≠ some ((bytes.drop (bytes.length - 8)).take 4) →
        exec c s = .next (s.airDiscard n.val (F.SECT_RX_TAG_COUNT n.val)))) ∧
    (∀ (b : RxBlock) (m : Nat), s.hears n.val r0 → r.proto = 1 → r.kind = 4 → bitAt (wordAt bytes 0) 9 = false →
      s.flag F.RADIO_CTRL_PRIMROSE_EN = true →
      wordAt bytes 4 % 65536 = 0xFFFE → s.shortMachine (wordAt bytes 4 / 65536) = some m → (s.sect n.val).rx = some b → b.kind = .poll →
      b.slotsFrom slot ≠ 0 →
      Completes c s fun t => t.assocOf m = some s.now ∧ (∃ x, (t.sect n.val).rx = some x ∧ m ∈ x.polled ∧ m ∈ x.heard) ∧
        Assoc.get (fun _ => none) t.radio.heard m = some (n.val, s.taiNs) ∧
        (s.getF (F.SECT_RX_OK_COUNT n.val) + 1 < 2 ^ (F.SECT_RX_OK_COUNT n.val).width →
          t.getF (F.SECT_RX_OK_COUNT n.val) = s.getF (F.SECT_RX_OK_COUNT n.val) + 1) ∧
        (s.pwr.state ≠ PwrState.snowdrop → t.pwr = s.pwr) ∧
        (s.pwr.state = PwrState.snowdrop → t.event 0x0B0 3 = true ∧
          (bitAt (s.getF F.PWR_WAKE_EN_EN) 0 = true → s.pwr.wakeAt = none → t.pwr.wakeAt = some s.now)) ∧
        (∀ j, j ≠ n.val → t.sect j = s.sect j) ∧ t = { s with regs := t.regs, radio := t.radio, pair := t.pair, pwr := t.pwr })) ∧
  (∀ (n : Fin 8) (s : State),
    ((s.sect n.val).wait = none → exec (.ackMissing n) s = .next s) ∧
    (∀ w, (s.sect n.val).wait = some w →
      (s.taiNs < w.until_ → exec (.ackMissing n) s = .next s) ∧
      (w.until_ ≤ s.taiNs → Completes (.ackMissing n) s fun t => t.sect n.val = { s.sect n.val with wait := none } ∧ t.event (sectPage n.val) 5 = true ∧
        (∀ j, j ≠ n.val → t.sect j = s.sect j) ∧ (∀ m, m ≠ w.machine → t.segTable m = s.segTable m) ∧
        t.segTable w.machine = (if (s.segTable w.machine).plan = w.plan then (s.segTable w.machine).landed w.chunks else s.segTable w.machine) ∧
        t.radio.fw = (s.radio.fw.map fun f => if w.fw.elem f.id then { f with tries := f.tries + 1 } else f).filter (fun f => decide (f.tries < 4)) ∧
        t = { s with regs := t.regs, radio := t.radio, seg := t.seg }))) ∧
  (∀ (n : Fin 8) (rate start : Nat) (wide : Bool) (bytes : List Byte) (m : Nat) (s : State), let r0 : RxFrame := ⟨rate, wide, start, bytes⟩
    let r := s.airStamp n.val r0
    (r.proto ≠ 1 ∨ r.kind ≠ 7 → exec (.assocReq n rate wide start bytes) s = .next s) ∧
    (r.proto ≠ 1 ∨ r.kind ≠ 9 → exec (.disassoc n rate wide start bytes) s = .next s) ∧
    (s.hears n.val r0 → r.proto = 1 → s.flag F.RADIO_CTRL_PRIMROSE_EN = true → wordAt bytes 4 % 65536 = 0xFFFE →
      (∀ f k h p, r.kind = 7 → wordAt bytes 4 / 65536 = 0xFFFF → (s.sect n.val).rx = some ⟨.contention true, f, k, h, p⟩ → f ≤ r.start / 250000 →
        r.start / 250000 < f + k → s.identMachine (leValue ((bytes.drop 8).take 6)) = some m →
        Completes (.assocReq n rate wide start bytes) s fun t => (m, s.assocStatus m) ∈ t.radio.reply ∧
          (s.assocStatus m = 0 → t.assocOf m = some s.now ∧ (s.assocOf m = none → t.event 0x0B0 0 = true)) ∧
          (s.assocStatus m ≠ 0 → t.assocOf m = s.assocOf m) ∧ (∀ j, j ≠ m → t.assocOf j = s.assocOf j) ∧
          t = { s with regs := t.regs, radio := t.radio }) ∧
      (r.kind = 9 → s.shortMachine (wordAt bytes 4 / 65536) = some m → Completes (.disassoc n rate wide start bytes) s fun t => t.assocOf m = none ∧
        t.event 0x0B0 1 = true ∧ (∀ j, j ≠ m → t.assocOf j = s.assocOf j) ∧ t = { s with regs := t.regs, radio := t.radio }))) ∧
  (∀ (m : Fin 256) (s : State),
    (s.assocOf m.val = none → exec (.assocTimeout m) s = .next s) ∧
    (∀ at_, s.assocOf m.val = some at_ →
      (s.now < at_ + s.getF F.RADIO_PRIMROSE_TIMEOUT_S * 1000000000 → exec (.assocTimeout m) s = .next s) ∧
      (at_ + s.getF F.RADIO_PRIMROSE_TIMEOUT_S * 1000000000 ≤ s.now → Completes (.assocTimeout m) s fun t => t.assocOf m.val = none ∧
        t.event 0x0B0 1 = true ∧ (∀ j, j ≠ m.val → t.assocOf j = s.assocOf j) ∧ t = { s with regs := t.regs, radio := t.radio }))) ∧
  (∀ (at_ : Nat) (s : State), let slot := at_ / 250000
    let n := s.getF F.RADIO_WATCH_SECT
    (s.edgeDue 140 250000 = none → exec .watch s = .next s) ∧
    (s.edgeDue 140 250000 = some at_ → s.watching = false ∨ s.ownBeacon slot = false → exec .watch s = .next (s.edgeDone 140 at_)) ∧
    (s.edgeDue 140 250000 = some at_ → s.watching = true → s.sectServes n = true → slot / 80 % 2 ^ 32 % 50 = 0 → s.ownBeacon slot = true →
      s.keys.kRadio ≠ none → Completes .watch s fun t => (t.sect n).rx = some ⟨.poll, slot / 80 * 80 + 2, 8, [], []⟩ ∧
        (∃ b, s.nativeMpdu n (slot / 80) airAll 5 0 0 airAll (s.beaconPayload n slot none none) = some b ∧
          (t.sect n).sent = some ⟨slot, 42, 12, b, slot * 250000 + 42000 - s.getF (F.SECT_COMP_TX_NS n)⟩) ∧
        (∀ j, j ≠ n → t.sect j = s.sect j) ∧ t = { s with regs := t.regs, radio := t.radio, time := t.time })) ∧
  (∀ (s s1 : State) (ps : List Nat) (bad : Bool), let q := s.getF F.RADIO_FWQ_TX_QUEUE
    (s.pagePowered 0x0B0 = false ∨ s.flag F.RADIO_FWQ_EN = false ∨ s.mboxPacketReady q = false → exec .fwFrame s = .next s) ∧
    (s.pagePowered 0x0B0 = true → s.flag F.RADIO_FWQ_EN = true → s.mboxPacketReady q = true → s.mboxTakePacket q (s.mboxQ q).level = (ps, bad, s1) →
      let h := ps.headD 0
      let len := bitsOf h 43 32
      let good : Prop := bad = false ∧ 1 ≤ len ∧ len ≤ 2020 ∧ len ≤ (ps.length - 1) * 7 ∧ (bitAt h 47 = true ∨ s1.machValid (bitsOf h 55 48) = true)
      (¬ good → Completes .fwFrame s fun t => t.event 0x0B0 2 = true ∧ t = { s1 with regs := t.regs }) ∧
      (good → exec .fwFrame s = .next { s1 with radio := { s1.radio with fwNext := s1.radio.fwNext + 1, fw := s1.radio.fw ++
        [⟨s1.radio.fwNext, if bitAt h 47 then none else some (bitsOf h 55 48), bitsOf h 46 44, unpack7 len (ps.drop 1), 0⟩] } })))

/-- Rows FRAME_RECEIVE, FRAME_TRANSMIT, TSQ_POP and ETH_LINK_CHANGE. -/
def Obligations.SwitchFrames : Prop :=
  (∀ (p : Fin 20) (stamp : Nat) (bytes : List Byte) (s : State), let c := Instr.frameReceive p stamp bytes
    let len := bytes.length
    let b := bytes.take (len - 4)
    let up : Prop := s.portUp p.val = true ∧ s.flag (F.EMAC_CTRL_RX_EN p.val) = true ∧ stamp ≤ s.taiNs
    let good : Prop := up ∧ 64 ≤ len ∧ len ≤ s.portLimit p.val (frameTagged bytes) ∧ crc32 b = leValue (bytes.drop (len - 4))
    let s1 := (s.bump (F.EMAC_RX_OK_COUNT p.val)).countOctets (F.EMAC_RX_BYTES_COUNT p.val) len
    (s.portUp p.val = false ∨ s.flag (F.EMAC_CTRL_RX_EN p.val) = false ∨ s.taiNs < stamp → exec c s = .next s) ∧
    (up → len ≤ 63 → exec c s = .next ((s.bump (F.EMAC_RUNT_COUNT p.val)).raise (emacPage p.val) 5)) ∧
    (up → 64 ≤ len → s.portLimit p.val (frameTagged bytes) < len → exec c s = .next ((s.bump (F.EMAC_GIANT_COUNT p.val)).raise (emacPage p.val) 4)) ∧
    (up → 64 ≤ len → len ≤ s.portLimit p.val (frameTagged bytes) → crc32 b ≠ leValue (bytes.drop (len - 4)) →
      exec c s = .next (s.bump (F.EMAC_RX_FCS_COUNT p.val))) ∧
    (good → frameType b = 0x8808 → exec c s = .next (s1.bump (F.EMAC_PAUSE_DISC_COUNT p.val))) ∧
    (good → frameType b ≠ 0x8808 → s.inPrp p.val = true → ∀ seq lan at_, prpFind b = some (seq, lan) →
      s.sw.prpSeen = [⟨frameSrc b, seq, at_⟩] → s.now ≤ at_ + s.getF F.SWCH_PRP_CFG_ENTRY_FORGET_MS * 1000000 → Completes c s fun t =>
        (lan ≠ 0xA + p.val % 2 → t.event 0x0D0 7 = true) ∧ t = { s with regs := t.regs }) ∧
    (∀ vid pcp, good → s.inPrp p.val = false → s.classify p.val b = some (vid, pcp) → frameType b = 0x88F7 → frameDst b = ptpMac →
      let ts := ((stamp : Int) + s.rxLat p.val).toNat
      (s.getF F.TIME_B_PTPCFG_VID = 0 → frameTagged b = false → s1.ptpTakes p.val (b.drop (ptpAt b)) = true →
        exec c s = .next { s1 with sw := { s1.sw with ptpIn := s1.sw.ptpIn ++ [⟨p.val, ts, s.now + ts - s.taiNs, b.drop (ptpAt b)⟩] } }) ∧
      (s1.ptpTakes p.val (b.drop (ptpAt b)) = false → exec c s = .next (s1.bump F.TIME_B_DISCARD_COUNT))) ∧
    (good → s.inPrp p.val = false → frameType b ≠ 0x8808 → s.classify p.val b = none → exec c s = .next (s1.bump (F.EMAC_RX_DISCARD_COUNT p.val))) ∧
    (∀ vid pcp out at_, good → s.inPrp p.val = false → s.classify p.val b = some (vid, pcp) → frameType b ≠ 0x8808 → frameType b ≠ 0x88FB →
      frameType b ≠ 0x88F7 →
      frameDst b / 16 ≠ 0x0180C200000 → s.flag F.SWCH_CTRL_FWD_EN = true → s.flag F.SWCH_CTRL_LEARN_EN = false →
      s.atuFind (frameDst b) vid = some ⟨frameDst b, vid, out, true, at_⟩ → out < 20 → out ≠ p.val → s.inPrp out = false →
      let q := bitsOf (s.getF (F.EMAC_PCP_MAP_MAP p.val)) (3 * pcp + 2) (3 * pcp)
      let g := s.egressForm out vid pcp b
      max 60 g.length + 4 ≤ s.portLimit out (frameTagged g) → s.admits out q g.length = true → Completes c s fun t =>
        t.egQueue out q = s.egQueue out q ++ [{ bytes := g }] ∧ t = { s with regs := t.regs, sw := { s.sw with queues := t.sw.queues } } ∧
        ∀ k, k ≠ 8 * out + q → Assoc.get (fun _ => []) t.sw.queues k = Assoc.get (fun _ => []) s.sw.queues k)) ∧
  (∀ (p : Fin 20) (s : State), let busy := Assoc.get (fun _ => 0) s.sw.busy p.val
    (s.portUp p.val = false ∨ s.flag (F.EMAC_CTRL_TX_EN p.val) = false ∨ s.now < busy ∨ s.eligible8 p.val = none →
      exec (.frameTransmit p) s = .next s) ∧
    (∀ q f rest, s.portUp p.val = true → s.flag (F.EMAC_CTRL_TX_EN p.val) = true → busy ≤ s.now → s.eligible8 p.val = some (q, f, rest) →
      f.desc = none →
      let late : Prop := ∃ l, f.launch = some l ∧ s.launchAt l + 1000 < s.taiNs
      let wire := padBytes 60 f.bytes ++ bytesLE (crc32 (padBytes 60 f.bytes)) 4
      (late → f.lateDrop = true → Completes (.frameTransmit p) s fun t => t.egQueue p.val q = rest ∧ t.event (emacPage p.val) 6 = true ∧
        t = { s with regs := t.regs, sw := { s.sw with queues := t.sw.queues } }) ∧
      (¬ late ∨ f.lateDrop = false → f.ptp = none → Completes (.frameTransmit p) s fun t => t.egQueue p.val q = rest ∧
        Assoc.get (fun _ => []) t.sw.sent p.val = wire ∧
        Assoc.get (fun _ => 0) t.sw.busy p.val = s.now + (wire.length + 20) * 8000 / s.portMbps p.val ∧
        (∀ id, f.ts = some id → (s.fifo (tsqKey p.val)).length < 64 → s.tsMarkers p.val = [] → t.event (emacPage p.val) 2 = true ∧
          ∃ w1 w2 w3, t.fifo (tsqKey p.val) = s.fifo (tsqKey p.val) ++ [[BitVec.ofNat 32 (0x80000000 + id), w1, w2, w3]]) ∧
        (f.ts = none → t.fifos = s.fifos) ∧ (late → t.event (emacPage p.val) 6 = true) ∧
        t = { s with regs := t.regs, sw := t.sw, fifos := t.fifos }))) ∧
  (∀ (who : Initiator) (p : Fin 20) (s : State), s.opens who (tsqKey p.val) false = true →
    (∀ w e rest, s.fifo (tsqKey p.val) = (w :: e) :: rest → s.tsMarkers p.val = [] → Completes (.tsqPop who p) s fun t => t.fifo (tsqKey p.val) = rest ∧
      t.latch who = some ⟨tsqKey p.val, e⟩ ∧ t = { s with fifos := t.fifos, latches := t.latches, bus := ⟨BitVec.ofNat 64 w.toNat, false⟩ }) ∧
    (∀ w e rest id, s.fifo (tsqKey p.val) = (w :: e) :: rest → rest.length < 64 → s.tsMarkers p.val = [id] → Completes (.tsqPop who p) s fun t =>
      t.fifo (tsqKey p.val) = rest ++ [[BitVec.ofNat 32 (0xC0000000 + id), 0, 0, 0]] ∧ t.tsMarkers p.val = [] ∧ t.event (emacPage p.val) 2 = true ∧
      t = { s with regs := t.regs, fifos := t.fifos, latches := t.latches, sw := t.sw, bus := ⟨BitVec.ofNat 64 w.toNat, false⟩ }) ∧
    (s.fifo (tsqKey p.val) = [] → Completes (.tsqPop who p) s fun t => t = { s with latches := t.latches, bus := ⟨0, false⟩ })) ∧
  (∀ (p : Fin 20) (speed : Fin 3) (signal lock : Bool) (s : State),
    (s.getF (F.EMAC_CTRL_MODE p.val) = 0 → ∀ up, exec (.ethLinkChange p up speed signal lock) s = .next s) ∧
    (s.refThere p.val = false → exec (.ethLinkChange p true speed signal lock) s = .next s) ∧
    (s.getF (F.EMAC_CTRL_MODE p.val) ≠ 0 →
      (s.refThere p.val = true → s.pwr.state ≠ PwrState.snowdrop ∨ (p.val < 4 ∧ bitAt (s.getF F.SWCH_WAKE_CTRL_PORT_EN) p.val = true) →
        Completes (.ethLinkChange p true speed signal lock) s fun t => t.flag (F.EMAC_STAT_LINK p.val) = true ∧
          t.flag (F.EMAC_STAT_SIGNAL p.val) = true ∧
        t.flag (F.EMAC_STAT_LOCK p.val) = true ∧
        (s.getF (F.EMAC_CTRL_MODE p.val) = 2 → t.getF (F.EMAC_STAT_SPEED p.val) = speed.val) ∧
        (s.flag (F.EMAC_STAT_LINK p.val) = false → t.event (emacPage p.val) 0 = true) ∧ t = { s with regs := t.regs }) ∧
      (Completes (.ethLinkChange p false speed signal lock) s fun t => t.flag (F.EMAC_STAT_LINK p.val) = false ∧
        t.flag (F.EMAC_STAT_AN_DONE p.val) = false ∧
        t.flag (F.EMAC_STAT_SIGNAL p.val) = signal ∧ (s.flag (F.EMAC_STAT_LINK p.val) = true → t.event (emacPage p.val) 1 = true) ∧
        t = { s with regs := t.regs })))

/-- Rows ATU_LOOKUP, INSERT_STATIC, ATU_DELETE, FLUSH_PORT, FLUSH_ALL, AGEING, RING_TAIL, RING_RESUME, P21_PACKET, SUPERVISION_FRAME
and WAKE_MATCH. -/
def Obligations.SwitchTablesAndInnerPorts : Prop :=
  (∀ (who : Initiator) (port : Fin 32) (s : State), s.opens who 0xD0058 true = true →
    let mac := s.getF F.SWCH_ATU_KEY_MAC
    let vid := s.getF F.SWCH_ATU_KEY_VID
    let to_ := s.getF F.SWCH_ATU_DATA_PORT
    let done (c : Instr) (result : Nat) (p : State → Prop) : Prop := Completes c s fun t => p t ∧ t.getF F.SWCH_ATU_RESULT_RESULT = result ∧
      t.event 0x0D0 0 = true ∧ t = { s with regs := t.regs, sw := t.sw, bus := ⟨0, false⟩ }
    let others (t : State) : Prop := ∀ m v, ¬ (m = mac ∧ v = vid) → t.atuFind m v = s.atuFind m v
    (s.atuFind mac vid = none → done (.atuLookup who) 1 (fun t => t.flag F.SWCH_ATU_DATA_VALID = false ∧ t.sw = s.sw) ∧
      done (.atuDelete who) 1 (fun t => t.sw = s.sw)) ∧
    (∀ e, s.atuFind mac vid = some e →
      done (.atuLookup who) 0 (fun t => t.flag F.SWCH_ATU_DATA_VALID = true ∧ t.flag F.SWCH_ATU_DATA_STATIC = e.static ∧
        (e.port < 32 → t.getF F.SWCH_ATU_DATA_PORT = e.port) ∧ (e.static = true → t.getF F.SWCH_ATU_DATA_AGE_LEFT = 0) ∧
        (e.static = false → t.getF F.SWCH_ATU_DATA_AGE_LEFT = s.getF F.SWCH_AGE_SECONDS - (s.usNow - e.seen) / 1000000) ∧ t.sw = s.sw) ∧
      done (.atuDelete who) 0 (fun t => t.atuFind mac vid = none ∧ others t)) ∧
    (21 < to_ → done (.insertStatic who) 3 fun t => t.sw = s.sw) ∧
    (to_ ≤ 21 → s.atuFull mac vid = true → done (.insertStatic who) 2 fun t => t.sw = s.sw) ∧
    (to_ ≤ 21 → s.atuFull mac vid = false → done (.insertStatic who) 0 fun t => t.atuFind mac vid = some ⟨mac, vid, to_, true, s.usNow⟩ ∧ others t) ∧
    (21 < port.val → done (.flushPort who port) 3 fun t => t.sw = s.sw) ∧
    (port.val ≤ 21 → done (.flushPort who port) 0 fun t => ∀ e, e ∈ t.sw.atu ↔ e ∈ s.sw.atu ∧ (e.static = true ∨ e.port ≠ s.logical port.val)) ∧
    done (.flushAll who) 0 fun t => ∀ e, e ∈ t.sw.atu ↔ e ∈ s.sw.atu ∧ e.static = true) ∧
  (∀ s : State, s.pagePowered 0x0D0 = true →
    (s.getF F.SWCH_AGE_SECONDS = 0 → exec .ageing s = .next s) ∧
    (s.getF F.SWCH_AGE_SECONDS ≠ 0 → Completes .ageing s fun t => t = { s with sw := { s.sw with atu := t.sw.atu } } ∧
      ∀ e, e ∈ t.sw.atu ↔ e ∈ s.sw.atu ∧ (e.static = true ∨ s.usNow < e.seen + s.getF F.SWCH_AGE_SECONDS * 1000000)) ∧
    (s.now < s.sw.lifeAt + s.getF F.SWCH_PRP_CFG_LIFE_CHECK_MS * 1000000 ∨ s.pwr.state = PwrState.snowdrop → exec .supervisionFrame s = .next s) ∧
    (s.sw.lifeAt + s.getF F.SWCH_PRP_CFG_LIFE_CHECK_MS * 1000000 ≤ s.now → s.pwr.state ≠ PwrState.snowdrop → Completes .supervisionFrame s fun t =>
      t.sw.lifeAt = s.now ∧ t = { s with regs := t.regs, sw := t.sw } ∧ ∀ k, k < 10 → Assoc.get (fun _ => 0) t.sw.prpSeq (16 + k) =
        if s.inPrp (2 * k) = true then (Assoc.get (fun _ => 0) s.sw.prpSeq (16 + k) + 1) % 65536 else Assoc.get (fun _ => 0) s.sw.prpSeq (16 + k))) ∧
  (∀ (who : Initiator) (index : Fin 4096) (s : State), let r := s.getF F.SWCH_RING_INDEX_RING
    (s.opens who 0xD00B4 true = true →
      (s.ringSize r ≤ index.val → exec (.ringTail who index) s = .next ((s.accessErr 0x10 who 0xD00B4).respond 0 false)) ∧
      (index.val < s.ringSize r → 8 ≤ r ∨ s.ringStopped r = true ∨ (s.ring r).fetch = index.val → Completes (.ringTail who index) s fun t =>
        t.ringTail r = index.val ∧ t.sw = s.sw ∧ OnlyRegs s { t with bus := s.bus } [(F.SWCH_RING_TAIL_INDEX.win r).key])) ∧
    (s.opens who 0xD00BC true = true →
      (s.ringStopped r = false → exec (.ringResume who) s = .next ((s.accessErr 0x11 who 0xD00BC).respond 0 false)) ∧
      (s.ringStopped r = true → (s.ring r).held = none → 8 ≤ r ∨ ((s.ring r).out = [] ∧ (s.ring r).fetch = s.ringTail r) →
        Completes (.ringResume who) s fun t =>
        t.ringStopped r = false ∧ t.dtuIsPaused 7 r = false ∧ t = { s with regs := t.regs, mem := t.mem, bus := ⟨0, false⟩ }))) ∧
  (∀ (s s1 : State) (ps : List Nat) (bad : Bool), s.pagePowered 0x0D0 = true → let q := s.getF F.SWCH_P21_TX_QUEUE
    (s.mboxPacketReady q = false → exec .p21Packet s = .next s) ∧
    (s.mboxPacketReady q = true → s.mboxTakePacket q (s.mboxQ q).level = (ps, bad, s1) →
      let h := ps.headD 0
      let len := bitsOf h 31 16
      let k := if bitAt h 55 then 7 else bitsOf h 54 52
      let good : Prop := bad = false ∧ (bitAt h 55 = true ∨ k ≠ 7) ∧ 14 ≤ len ∧ len ≤ 2048 ∧ ps.length - 1 = (len + 6) / 7
      let b := unpack7 len (ps.drop 1)
      (¬ good → Completes .p21Packet s fun t => t.event 0x0D0 6 = true ∧ t = { s1 with regs := t.regs }) ∧
      (∀ p : Fin 20, good → bitsOf h 51 32 = 2 ^ p.val → s1.inPrp p.val = false → max 60 b.length + 4 ≤ s1.portLimit p.val (frameTagged b) →
        s1.admits p.val k b.length = true → Completes .p21Packet s fun t => t.egQueue p.val k = s1.egQueue p.val k ++ [{ bytes := b }] ∧
          t = { s1 with regs := t.regs, sw := { s1.sw with queues := t.sw.queues } }))) ∧
  (∀ (p : Fin 4) (bytes : List Byte) (s : State), let b := bytes.take (bytes.length - 4)
    (s.pwr.state ≠ PwrState.snowdrop ∨ s.getF (F.EMAC_CTRL_MODE p.val) = 0 ∨ s.flag (F.EMAC_STAT_LINK p.val) = false ∨
      s.flag (F.EMAC_CTRL_RX_EN p.val) = false ∨ bitAt (s.getF F.SWCH_WAKE_CTRL_PORT_EN) p.val = false ∨ bytes.length < 64 →
        exec (.wakeMatch p bytes) s = .next s) ∧
    (s.pwr.state = PwrState.snowdrop → s.getF (F.EMAC_CTRL_MODE p.val) ≠ 0 → s.flag (F.EMAC_STAT_LINK p.val) = true →
      s.flag (F.EMAC_CTRL_RX_EN p.val) = true → bitAt (s.getF F.SWCH_WAKE_CTRL_PORT_EN) p.val = true → 64 ≤ bytes.length →
        crc32 b = leValue (bytes.drop (bytes.length - 4)) →
      s.flag F.SWCH_WAKE_CTRL_MAGIC_EN = true → magicIn (bytesBE (s.getF F.SWCH_WAKE_MAC_MAC) 6) b = true → Completes (.wakeMatch p bytes) s fun t =>
        t.event 0x0D0 8 = true ∧ t.getF F.SWCH_WAKE_STAT_COUNT = min 0x7FFF (s.getF F.SWCH_WAKE_STAT_COUNT + 1) ∧ t.flag F.SWCH_WAKE_STAT_VALID = true ∧
        (s.flag F.SWCH_WAKE_STAT_VALID = false → t.getF F.SWCH_WAKE_STAT_PORT = p.val ∧ t.flag F.SWCH_WAKE_STAT_MAGIC = true) ∧
        (bitAt (s.getF F.PWR_WAKE_EN_EN) 1 = true → bitAt (t.getF F.PWR_WAKE_STAT_SOURCES) 1 = true) ∧
        t = { s with regs := t.regs, pwr := t.pwr }))

/-- Rows PAIR_EN, START_TIMEOUT, PROMOTION, ACTIVE_ALONE, SWITCH, PROMOTE, RESYNC_CMD, SWITCH_FAIL, HANDOFF, HANDOFF_ACK and
WITNESS_QUERY. -/
def Obligations.PairRoles : Prop :=
  (∀ (who : Initiator) (s : State), s.opens who 0xF0040 true = true → s.flag (F.PG_CTRL_LOCK 0x0F0) = false → 3 ≤ s.getF F.PAIR_CTRL_PROMOTE_SF →
    s.getF F.PAIR_CTRL_WITNESS ≤ 2 →
    let agree : Prop := s.flag F.RADIO_CTRL_PAIR = true ∧ s.poppy.a.pair = true ∧ s.getF F.RADIO_CTRL_UNIT = s.poppy.a.unit
    (¬ agree → exec (.pairEn who true) s = .next ((s.accessErr 0x12 who 0xF0040).respond 0 false)) ∧
    (agree → s.flag F.PAIR_CTRL_EN = false → Completes (.pairEn who true) s fun t => t.role = 1 ∧ t.flag F.PAIR_CTRL_EN = true ∧
      t.getF F.PAIR_PRP_NEXT_SEQ = 0x8000 + 0x4000 * s.getF F.RADIO_CTRL_UNIT ∧ (s.role ≠ 1 → t.event 0x0F0 0 = true) ∧ PairFrame s t) ∧
    (s.flag F.PAIR_CTRL_EN = true → Completes (.pairEn who false) s fun t => t.role = 0 ∧ t.flag F.PAIR_CTRL_EN = false ∧ t.pair.pos = none ∧
      t.pair.beyond = [] ∧ t.pair.ring = [] ∧ t.pair.unconf = [] ∧ t.pair.heldOut = [] ∧ PairFrame s t)) ∧
  (∀ s : State, s.pagePowered 0x0F0 = true → let b := s.pairBoundary
    let standby : Prop := b.role = 2 ∨ b.role = 3
    let sf := s.getF F.PAIR_CTRL_PROMOTE_SF
    (s.edgeDue 13 20000000 = none → b = s) ∧
    (s.edgeDue 13 20000000 ≠ none → b = { s with regs := b.regs, time := b.time, pair := b.pair } ∧ b.role = s.role ∧
      b.pair.startSf = (if s.role = 1 then s.pair.startSf + 1 else 0) ∧
      b.pair.quietSf = (if s.pair.kaNow = true then 0 else s.pair.quietSf + 1) ∧ b.pair.evidPrev = s.pair.evidNow ∧ b.pair.evidNow = !s.hbLost ∧
      b.getF F.PAIR_STAT_NOEVID = (if (s.role = 2 ∨ s.role = 3) ∧ s.pair.evidNow = false then min 255 (s.getF F.PAIR_STAT_NOEVID + 1) else 0)) ∧
    (b.role = 1 → sf * (1 + s.getF F.RADIO_CTRL_UNIT) < b.pair.startSf → Completes .startTimeout s fun t => t.role = 5 ∧ t.getF F.PAIR_JSEQ_JSEQ = 0 ∧
      t.event 0x0F0 0 = true ∧ PairFrame s t) ∧
    (b.role ≠ 1 ∨ b.pair.startSf ≤ sf * (1 + s.getF F.RADIO_CTRL_UNIT) → exec .startTimeout s = .next b) ∧
    (b.role = 4 → sf ≤ b.pair.quietSf → Completes .activeAlone s fun t => t.role = 5 ∧ t.pair.unconf = [] ∧ t.event 0x0F0 0 = true ∧ PairFrame s t) ∧
    (b.role ≠ 4 ∨ b.pair.quietSf < sf → exec .activeAlone s = .next b) ∧
    (¬ standby ∨ b.getF F.PAIR_STAT_NOEVID < sf → exec .promotion s = .next b) ∧
    (standby → sf ≤ b.getF F.PAIR_STAT_NOEVID → s.getF F.PAIR_CTRL_WITNESS = 2 → b.pair.answered ≠ some false → b.pair.blockSeen = false →
      Completes .promotion s fun t => t.role = b.role ∧ t.pair.blockSeen = true ∧ t.event 0x0F0 3 = true ∧
        t = { b with regs := t.regs, pair := t.pair }) ∧
    (standby → sf ≤ b.getF F.PAIR_STAT_NOEVID → s.getF F.PAIR_CTRL_WITNESS ≠ 2 ∨ b.pair.answered = some false → Completes .promotion s fun t =>
      t.role = 5 ∧ t.pair.beyond = [] ∧ t.event 0x0F0 1 = true ∧ PairFrame s t ∧
      (s.getF F.PAIR_TAKEOVERS_COUNT + 1 < 2 ^ (F.PAIR_TAKEOVERS_COUNT).width → t.getF F.PAIR_TAKEOVERS_COUNT = s.getF F.PAIR_TAKEOVERS_COUNT + 1)) ∧
    (b.pair.askDue = false ∨ s.getF F.PAIR_CTRL_WITNESS = 0 → exec .witnessQuery s = .next b) ∧
    (b.pair.askDue = true → s.getF F.PAIR_CTRL_WITNESS ≠ 0 → Completes .witnessQuery s fun t => t.pair.askDue = false ∧ MsgFrame b t) ∧
    (∀ seq, b.pair.askDue = true → s.getF F.PAIR_CTRL_WITNESS ≠ 0 → s.keys.kCasc ≠ none → s.pair.nextSeq = some seq → Completes .witnessQuery s fun t =>
      t.pair.askDue = false ∧ t.pair.nextSeq = some ((seq + 1) % 2 ^ 32)) ∧
    (s.pair.handoff = none → exec .switchFail s = .next s) ∧
    (∀ at_, s.pair.handoff = some at_ → (s.taiNs ≤ at_ → exec .switchFail s = .next s) ∧
      (at_ < s.taiNs → exec .switchFail s = .next ({ s with pair := { s.pair with handoff := none, handSent := false } }.raise 0x0F0 7)))) ∧
  (∀ (who : Initiator) (s : State), s.opens who 0xF0048 true = true →
    let refused (c : Instr) : Prop := exec c s = .next ((s.accessErr 0x11 who 0xF0048).respond 0 false)
    (s.role ≠ 4 ∨ s.pair.handoff ≠ none → refused (.pairSwitch who)) ∧
    ((s.role ≠ 2 ∧ s.role ≠ 3) ∨ s.pair.evidNow = true ∨ s.pair.evidPrev = true → refused (.pairPromote who)) ∧
    (s.role ≠ 3 → refused (.resyncCmd who)) ∧
    (s.role = 4 → s.pair.handoff = none → Completes (.pairSwitch who) s fun t => t.role = 4 ∧ t.plan.queue = [] ∧
      t.pair.handoff = some (s.taiNs + 20000000 * s.getF F.PAIR_CTRL_PROMOTE_SF) ∧
      t.pair.handSent = (s.pair.unconf.isEmpty && s.plan.search.isNone) ∧ PairFrame s t) ∧
    (s.role = 2 ∨ s.role = 3 → s.pair.evidNow = false → s.pair.evidPrev = false → Completes (.pairPromote who) s fun t => t.role = 5 ∧
      t.event 0x0F0 1 = true ∧ PairFrame s t) ∧
    (s.role = 3 → Completes (.resyncCmd who) s fun t => t.role = 2 ∧ t.pair.pos = none ∧ t.pair.beyond = [] ∧ t.event 0x0F0 5 = true ∧
      PairFrame s t)) ∧
  (∀ (m : Msg) (s s1 : State), s.pagePowered 0x0F0 = true →
    (s.received 0x16 = (some m, s1) →
      ((s1.role ≠ 2 ∧ s1.role ≠ 3) ∨ s1.fromPartner m = false → exec .handoff s = .next s1) ∧
      (s1.role = 2 ∨ s1.role = 3 → s1.fromPartner m = true →
        (s1.pair.pos = some (wordAt m.body 0) → Completes .handoff s fun t => t.role = 4 ∧ t.pair.handTo = none ∧ t.event 0x0F0 0 = true ∧
          PairFrame s1 t) ∧
        (s1.pair.pos ≠ some (wordAt m.body 0) → exec .handoff s = .next { s1 with pair := { s1.pair with handTo := some (wordAt m.body 0) } }))) ∧
    (s.received 0x17 = (some m, s1) →
      (s1.role ≠ 4 ∨ s1.pair.handSent = false ∨ s1.fromPartner m = false → exec .handoffAck s = .next s1) ∧
      (s1.role = 4 → s1.pair.handSent = true → s1.fromPartner m = true → Completes .handoffAck s fun t => t.role = 3 ∧ t.pair.beyond = [] ∧
        t.pair.pos = some (s1.getF F.PAIR_JSEQ_JSEQ) ∧ t.plan.queue = [] ∧ PairFrame s1 t)))

/-- Rows KEEPALIVE_SEND, KEEPALIVE, PAIR_KEEPALIVE_SEND, PAIR_KEEPALIVE, JOURNAL, JACK, JREQ, CONF_TIMEOUT, RESYNC, STATE_REQ,
WITNESS_Q, WITNESS_A, HEALTH_SEND, HEALTH and SELF_TEST. -/
def Obligations.PairMessages : Prop :=
  (∀ (s s1 : State), s.pagePowered 0x0F0 = true →
    ∀ c ∈ [(Instr.keepalive, 0x01), (.pairKeepalive, 0x10), (.journal, 0x11), (.jack, 0x12), (.jreq, 0x13), (.resync, 0x14), (.stateReq, 0x15),
      (.handoff, 0x16), (.handoffAck, 0x17), (.witnessQ, 0x08), (.witnessA, 0x09), (.snapReq, 0x06), (.snapEnd, 0x07), (.health, 0x0C),
      (.moveAck, 0x0B), (.move, 0x0A)], s.received c.2 = (none, s1) → exec c.1 s = .next s1) ∧
  (∀ (m : Msg) (s s1 : State), s.pagePowered 0x0F0 = true → let w := wordAt m.body 0
    (s.received 0x01 = (some m, s1) → m.member < 16 → Completes .keepalive s fun t => bitAt (t.getF F.CASC_STAT_REACHABLE) m.member = true ∧
      Assoc.get (fun _ => none) t.pair.heard (2 * m.member + m.unit) = some s.now ∧ PairFrame s1 t) ∧
    (s.received 0x10 = (some m, s1) →
      (s1.fromPartner m = false ∨ m.link = false → exec .pairKeepalive s = .next s1) ∧
      (s1.fromPartner m = true → m.link = true → Completes .pairKeepalive s fun t => t.pair.evidNow = true ∧ t.pair.quietSf = 0 ∧ t.pair.kaNow = true ∧
        t.pair.linkAt = some s.now ∧ (s1.role = 4 → w % 8 = 2 → t.role = 5) ∧ (s1.role = 5 → w % 8 = 3 → t.role = 4) ∧
        (s1.role = 1 → w % 8 = 4 ∨ w % 8 = 5 → t.role = 2) ∧ PairFrame s1 t)) ∧
    (s.received 0x11 = (some m, s1) →
      ((s1.role ≠ 2 ∧ s1.role ≠ 3) ∨ s1.fromPartner m = false → exec .journal s = .next s1) ∧
      (s1.role = 2 ∨ s1.role = 3 → s1.fromPartner m = true →
        (m.body.length < 32 → s1.pair.pos = none → exec .journal s = .next (s1.bump F.PAIR_DISCARDED_COUNT)) ∧
        (∀ p, 32 ≤ m.body.length → wordAt m.body 8 = m.body.length → crc32 (m.body.take 28 ++ [0, 0, 0, 0] ++ m.body.drop 32) = wordAt m.body 28 →
          w / 65536 = 0xD101 → bitsOf w 15 12 = s1.member → s1.pair.pos = some p → wordAt m.body 4 = (p + 1) % 2 ^ 32 → s1.pair.beyond = [] →
          Completes .journal s fun t => t.pair.pos = some (wordAt m.body 4) ∧ t.getF F.PAIR_JSEQ_JSEQ = wordAt m.body 4 ∧
            PairFrame { s1 with solv := t.solv } t))) ∧
    (s.received 0x12 = (some m, s1) →
      (s1.fromPartner m = false → exec .jack s = .next s1) ∧
      (s1.fromPartner m = true → Completes .jack s fun t => t.pair.unconf = s1.pair.unconf.filter (fun u => u.1 != w) ∧
        t.pair.heldOut = s1.pair.heldOut.filter (fun h => h.1 != w) ∧ PairFrame s1 t)) ∧
    (s.received 0x13 = (some m, s1) →
      (s1.pairActive = false ∨ s1.fromPartner m = false ∨ (∀ e ∈ s1.pair.ring, e.1 ≠ w) → exec .jreq s = .next s1) ∧
      (∀ off n d s2, s1.pairActive = true → s1.fromPartner m = true → s1.pair.ring = [(w, off, n)] →
        s1.clientRead 0x0A 0 (s1.getF F.PAIR_JBUF_BASE_ADDR * 0x100000 + off) n = (d, s2) → d.fault = none →
        exec .jreq s = .next ((s2.bump F.PAIR_RESENDS_COUNT).sendMsg 0x11 .partner 0 d.data))) ∧
    (s.received 0x14 = (some m, s1) →
      (s1.pairActive = false ∨ s1.fromPartner m = false → exec .resync s = .next s1) ∧
      (s1.pairActive = true → s1.fromPartner m = true → Completes .resync s fun t => t.event 0x0F0 5 = true ∧ t.event 0x0F0 6 = true ∧
        PairFrame s1 t)) ∧
    (s.received 0x15 = (some m, s1) →
      (s1.pairActive = false ∨ s1.fromPartner m = false → exec .stateReq s = .next s1) ∧
      (∀ s2, s1.pairActive = true → s1.fromPartner m = true → s1.committedSlot (w % 256) = (none, s2) → exec .stateReq s = .next s2) ∧
      (∀ i b s2, s1.pairActive = true → s1.fromPartner m = true → s1.committedSlot (w % 256) = (some (i, b), s2) → s2.pair.touched = [] →
        b.length ≤ 0x18000 → Completes .stateReq s fun t => t.getF F.PAIR_JSEQ_JSEQ = (s2.getF F.PAIR_JSEQ_JSEQ + 1) % 2 ^ 32 ∧ t.pair.touched = [] ∧
          PairFrame s2 t)) ∧
    (∀ seq, s.received 0x08 = (some m, s1) → s1.keys.kCasc ≠ none → s1.pair.nextSeq = some seq → Completes .witnessQ s fun t =>
      t.pair.nextSeq = some ((seq + 1) % 2 ^ 32) ∧ t.pair.lastSeq = some seq ∧ MsgFrame s1 t) ∧
    (s.received 0x08 = (some m, s1) → s1.keys.kCasc = none ∨ s1.pair.nextSeq = none → exec .witnessQ s = .next s1) ∧
    (s.received 0x09 = (some m, s1) →
      (s1.role = 0 ∨ w % 16 ≠ s1.member ∨ bitsOf w 4 4 ≠ s1.otherLetter → exec .witnessA s = .next s1) ∧
      (s1.role ≠ 0 → w % 16 = s1.member → bitsOf w 4 4 = s1.otherLetter → Completes .witnessA s fun t => t.pair.answer = some (bitAt w 8) ∧
        t.flag F.PAIR_STAT_WITNESS_ALIVE = bitAt w 8 ∧ (bitAt w 8 = true → s1.getF F.PAIR_CTRL_WITNESS ≠ 0 → t.pair.evidNow = true) ∧
        (bitAt w 8 = false → t.pair.evidNow = s1.pair.evidNow) ∧ t = { s1 with regs := t.regs, pair := t.pair })) ∧
    (s.received 0x0C = (some m, s1) →
      let x := bytesWords m.body
      (s1.fromPartner m = false ∨ m.body.length ≠ 32 ∨ x.getD 0 0 / 65536 ≠ 0xD501 ∨ crc32 (m.body.take 28) ≠ x.getD 7 0 → exec .health s = .next s1) ∧
      (s1.fromPartner m = true → m.body.length = 32 → x.getD 0 0 / 65536 = 0xD501 → crc32 (m.body.take 28) = x.getD 7 0 → Completes .health s fun t =>
        (∀ i, i < 8 → (t.reg (0xF0070 + 4 * i)).toNat = x.getD i 0) ∧
        ((∃ i, i < 8 ∧ (s1.reg (0xF0070 + 4 * i)).toNat ≠ x.getD i 0) → t.event 0x0F0 8 = true) ∧ t = { s1 with regs := t.regs }))) ∧
  (∀ s : State, s.pagePowered 0x0F0 = true →
    (s.flag F.CASC_CTRL_EN = false ∨ s.sendDue s.pair.kaSent (1000000 * s.getF F.CASC_KEEPALIVE_MS) = false → exec .keepaliveSend s = .next s) ∧
    (s.flag F.CASC_CTRL_EN = true → s.sendDue s.pair.kaSent (1000000 * s.getF F.CASC_KEEPALIVE_MS) = true → Completes .keepaliveSend s fun t =>
      t.pair.kaSent = some s.taiNs ∧ (∀ seq, s.keys.kCasc ≠ none → s.pair.nextSeq = some seq → t.pair.nextSeq = some ((seq + 1) % 2 ^ 32)) ∧
        MsgFrame s t) ∧
    (s.role = 0 ∨ s.sendDue s.pair.pkaSent 1000000 = false → exec .pairKeepaliveSend s = .next s) ∧
    (s.role ≠ 0 → s.sendDue s.pair.pkaSent 1000000 = true → Completes .pairKeepaliveSend s fun t => t.pair.pkaSent = some s.taiNs ∧ t.role = s.role ∧
      MsgFrame s t) ∧
    ((∀ u ∈ s.pair.unconf, s.now ≤ u.2 + 1000 * s.getF F.PAIR_CONF_US) → exec .confTimeout s = .next s) ∧
    ((∃ u ∈ s.pair.unconf, u.2 + 1000 * s.getF F.PAIR_CONF_US < s.now) → Completes .confTimeout s fun t => t.event 0x0F0 4 = true ∧
      PairFrame s t ∧ ∀ u ∈ t.pair.unconf, u ∈ s.pair.unconf ∧ s.now ≤ u.2 + 1000 * s.getF F.PAIR_CONF_US) ∧
    (s.role = 0 ∨ s.sendDue s.pair.healthAt (1000000 * s.getF F.PAIR_HEALTH_CFG_PERIOD_MS) = false → exec .healthSend s = .next s) ∧
    (s.role ≠ 0 → s.sendDue s.pair.healthAt (1000000 * s.getF F.PAIR_HEALTH_CFG_PERIOD_MS) = true → Completes .healthSend s fun t =>
      t.pair.healthAt = some s.taiNs ∧ t.pair.reportSeq = s.pair.reportSeq + 1 ∧ t.pair.sectRx = 0 ∧ MsgFrame s t) ∧
    ((s.role ≠ 2 ∧ s.role ≠ 3) ∨ s.sendDue s.pair.testAt (1000000000 * s.getF F.PAIR_HEALTH_CFG_TEST_S) = false → exec .selfTest s = .next s) ∧
    (s.role = 2 ∨ s.role = 3 → s.sendDue s.pair.testAt (1000000000 * s.getF F.PAIR_HEALTH_CFG_TEST_S) = true → Completes .selfTest s fun t =>
      t.pair.testAt = some s.taiNs ∧ t = { s with regs := t.regs, solv := t.solv, pair := t.pair } ∧ ∀ n k, n < 16 → s.freeCtx n = some k →
        (t.ctx n k).test = true))

/-- Rows REASM_TIMEOUT, SNAP_REQ, SNAP_END, MOVE_SEND, MOVE, MOVE_ACK, MOVE_TIMEOUT and MEMBER_UNREACHABLE. -/
def Obligations.CascadeMessages : Prop :=
  (∀ s : State, s.pagePowered 0x0F0 = true →
    (Completes .reasmTimeout s fun t => t = { s with regs := t.regs, pair := { s.pair with reasm := t.pair.reasm } } ∧
      ∀ r, r ∈ t.pair.reasm ↔ r ∈ s.pair.reasm ∧ s.now ≤ r.since + 10000000) ∧
    (∀ m s1, s.received 0x06 = (some m, s1) →
      (s1.isLead = false ∨ s1.notActive = true → exec .snapReq s = .next s1) ∧
      (s1.isLead = true → s1.notActive = false → s1.plan.used = [] → exec .snapReq s =
        .next (s1.sendMsg 0x07 (.member m.member) 0 (bytesLE (s1.getF F.CASC_UPD_SEQ_SEQ) 4)))) ∧
    (∀ m s1, s.received 0x07 = (some m, s1) →
      (s1.flag F.CASC_STAT_SNAP_PENDING = false → exec .snapEnd s = .next s1) ∧
      (s1.flag F.CASC_STAT_SNAP_PENDING = true → Completes .snapEnd s fun t => t.flag F.CASC_STAT_SNAP_PENDING = false ∧ t.pair.snapNamed = [] ∧
        t.event 0x0F1 3 = true ∧ PairFrame s1 t)) ∧
    (∀ m s1, s.received 0x0A = (some m, s1) → let id := s1.machineOf (wordAt m.body 4) (wordAt m.body 8 % 65536)
      (∀ k, id = some k → s1.inProcess k = true → exec .move s = .next s) ∧
      (id = none → exec .move s = .next (s1.sendMsg 0x0B (.member m.member) 0 (bytesLE (2 + 256 * bitsOf (wordAt (m.body.drop 16) 0) 15 8) 2))) ∧
      (∀ k r s2, id = some k → s1.inProcess k = false → s1.moveImport k (m.body.drop 16) = (r, s2) →
        exec .move s = .next (s2.sendMsg 0x0B (.member m.member) 0 (bytesLE (r + 256 * bitsOf (wordAt (m.body.drop 16) 0) 15 8) 2)))) ∧
    (∀ m s1, s.received 0x0B = (some m, s1) → let v := leValue m.body
      (s1.pair.move = none → exec .moveAck s = .next s1) ∧
      (∀ k at_, s1.pair.move = some (k, at_) →
        (bitsOf v 15 8 ≠ k ∨ at_ + 100000000 < s1.now → exec .moveAck s = .next s1) ∧
        (bitsOf v 15 8 = k → s1.now ≤ at_ + 100000000 → Completes .moveAck s fun t => t.flag F.CASC_MOVE_STAT_BUSY = false ∧
          t.getF F.CASC_MOVE_STAT_RESULT = v % 16 ∧ t.event 0x0F1 4 = true ∧ t = { s1 with regs := t.regs, pair := { s1.pair with move := none } }))) ∧
    (s.pair.move = none → exec .moveTimeout s = .next s) ∧
    (∀ k at_, s.pair.move = some (k, at_) →
      (s.now ≤ at_ + 100000000 → exec .moveTimeout s = .next s) ∧
      (at_ + 100000000 < s.now → Completes .moveTimeout s fun t => t.flag F.CASC_MOVE_STAT_BUSY = false ∧ t.getF F.CASC_MOVE_STAT_RESULT = 1 ∧
        t.event 0x0F1 4 = true ∧ t = { s with regs := t.regs, pair := { s.pair with move := none } })) ∧
    (∀ m : Fin 16, let now := s.heardRecently (2 * m.val) || s.heardRecently (2 * m.val + 1)
      (bitAt (s.getF F.CASC_STAT_REACHABLE) m.val = now → exec (.memberUnreachable m) s = .next s) ∧
      (bitAt (s.getF F.CASC_STAT_REACHABLE) m.val = true → now = false → Completes (.memberUnreachable m) s fun t => t.event 0x0F1 1 = true ∧
        (∀ j : Fin 16, bitAt (t.getF F.CASC_STAT_REACHABLE) j.val = (bitAt (s.getF F.CASC_STAT_REACHABLE) j.val && decide (j ≠ m))) ∧
        (m.val = s.getF F.CASC_CTRL_LEAD → t.flag F.CASC_STAT_LEAD_OK = false ∧ t.event 0x0F1 0 = true) ∧ t = { s with regs := t.regs }) ∧
      (bitAt (s.getF F.CASC_STAT_REACHABLE) m.val = false → now = true → Completes (.memberUnreachable m) s fun t => t.event 0x0F1 1 = true ∧
        bitAt (t.getF F.CASC_STAT_REACHABLE) m.val = true ∧ MsgFrame s t))) ∧
  (∀ (who : Initiator) (dest : Fin 16) (m : Fin 256) (s : State), s.opens who 0xF1064 true = true →
    (s.flag F.CASC_MOVE_STAT_BUSY = true ∨ s.notActive = true →
      exec (.moveSend who dest m) s = .next ((s.accessErr 0x11 who 0xF1064).respond 0 false)) ∧
    (s.flag F.CASC_MOVE_STAT_BUSY = false → s.notActive = false →
      (bitAt (s.getF F.CASC_STAT_REACHABLE) dest.val = false → Completes (.moveSend who dest m) s fun t => t.flag F.CASC_MOVE_STAT_BUSY = false ∧
        t.getF F.CASC_MOVE_STAT_RESULT = 1 ∧ t.event 0x0F1 4 = true ∧
          t = { s with regs := t.regs, pair := { s.pair with move := none }, bus := ⟨0, false⟩ }) ∧
      (∀ s1, bitAt (s.getF F.CASC_STAT_REACHABLE) dest.val = true → s.committedSlot m.val = (none, s1) → Completes (.moveSend who dest m) s fun t =>
        t.flag F.CASC_MOVE_STAT_BUSY = false ∧ t.getF F.CASC_MOVE_STAT_RESULT = 3 ∧ t.event 0x0F1 4 = true ∧
        t = { s1 with regs := t.regs, pair := { s1.pair with move := none }, bus := ⟨0, false⟩ }) ∧
      (∀ i b s1, bitAt (s.getF F.CASC_STAT_REACHABLE) dest.val = true → s.committedSlot m.val = (some (i, b), s1) →
        Completes (.moveSend who dest m) s fun t =>
        t.flag F.CASC_MOVE_STAT_BUSY = true ∧ t.pair.move = some (m.val, s.now) ∧ MsgFrame s1 t)))

/-- Rows DERIVE, GENERATE, IMPORT_CLEAR, IMPORT_PUB, WRAP, UNWRAP, GCM_ENC, GCM_DEC, HMAC, SHA256, SHA384, SIGN, VERIFY, AGREE,
PUBKEY, RANDOM, RESEED and POPPY_SEAL. AES-GCM, P-256, SHA-2 and HMAC themselves are PRESUMED from their standards (logs 12 and 90).
`x` is the key of the parent or of the slot used. -/
def Obligations.KeyCommands : Prop :=
  (∀ (who : Initiator) (p q : Fin 1024) (k : Fin 4) (s : State), s.opens who 0x100044 true = true →
    ∀ c ∈ [(Instr.derive who p q, 0x01), (.generate who p q, 0x02), (.importClear who p q, 0x03), (.importPub who p q, 0x04), (.wrap who p q, 0x05),
      (.unwrap who p q, 0x06), (.gcmEnc who p, 0x08), (.gcmDec who p, 0x09), (.hmac who p, 0x0A), (.sha256 who, 0x0B), (.sha384 who, 0x0C),
      (.sign who p, 0x0D), (.verify who p, 0x0E), (.agree who p q, 0x0F), (.pubkey who p, 0x10), (.random who, 0x11), (.reseed who, 0x12),
      (.sealBlob who k, 0x13), (.commitBlob who k, 0x14), (.loadBlob who k, 0x15), (.poppySeal who p q, 0x16)],
      let ends (r : Nat) : Prop := exec c.1 s = .next ({ s with keys := { s.keys with work := some { op := c.2, result := r } } }.respond 0 false)
      (s.keys.work ≠ none → exec c.1 s = .next ((s.accessErr 0x11 who 0x100044).respond 0 false)) ∧
      (s.keys.work = none → s.keys.lock = true → ends 12) ∧
      (s.keys.work = none → s.keys.lock = false → s.keys.rootFail = true → c.2 ∉ [0x0B, 0x0C, 0x11, 0x12] → ends 13) ∧
      (s.keys.work = none → s.keys.lock = false → s.keys.rootFail = false → s.keys.drbgOk = false →
        c.2 ∈ [0x02, 0x05, 0x08, 0x0D, 0x0F, 0x11, 0x13, 0x16] → ends 9)) ∧
  (∀ (who : Initiator) (p q : Fin 1024) (s : State), s.opens who 0x100044 true = true → s.keys.work = none → s.keys.lock = false →
    s.keys.rootFail = false → s.keys.drbgOk = true →
    ∀ c ∈ [(Instr.derive who p q, 0), (.wrap who p q, 1), (.unwrap who p q, 1), (.gcmEnc who p, 2), (.gcmDec who p, 3), (.hmac who p, 4),
      (.sign who p, 5), (.verify who p, 6), (.agree who p q, 7)],
      let ends (r : Nat) : Prop := Completes c.1 s fun t => (∃ w, t.keys.work = some w ∧ w.result = r) ∧
        t = { s with keys := { s.keys with work := t.keys.work }, bus := ⟨0, false⟩ }
      (s.slot p.val = none → ends 2) ∧
      (∀ x, s.slot p.val = some x → (bitAt x.usage c.2 = false → ends 3) ∧ (bitAt x.usage c.2 = true → s.lcAllows x = false → ends 4))) ∧
  (∀ (who : Initiator) (p q : Fin 1024) (x : KeySlot) (l : List Byte) (s s1 : State), s.opens who 0x100044 true = true → s.keys.work = none →
    s.keys.lock = false → s.keys.rootFail = false → s.keys.drbgOk = true → s.slot p.val = some x → s.lcAllows x = true →
    let t := s.attrType
    let a := s.getF F.KEY_AAD_LEN_BYTES
    let holds (i : Instr) (u : State) (w : KeyWork) : Prop := exec i s = .next ({ u with keys := { u.keys with work := some w } }.respond 0 false)
    let some_ (i : Instr) (f : KeyWork → Prop) : Prop := Completes i s fun t => (∃ w, t.keys.work = some w ∧ f w) ∧
      t = { s with keys := { s.keys with work := t.keys.work }, freeCtr := t.freeCtr, bus := ⟨0, false⟩ }
    let read (n : Nat) : Prop := s.keyRead 0 (s.getF F.KEY_SRC_ADDR) n = (some l, s1)
    let new (ty u c : Nat) : Prop := s.slot q.val = none ∧ 1 ≤ ty ∧ ty ≤ 4 ∧ u % 8192 &&& usageAllowed ty = u % 8192 ∧ c &&& x.lc = c ∧ x.depth < 7
    let staged (ty : Nat) : Prop := new ty s.attrUsage s.attrLc
    (staged t → t ≠ 4 → bitAt x.usage 0 = true → 1 ≤ s.keyLen → s.keyLen ≤ 64 → read s.keyLen → let k := deriveKey t (s1.secretOf p.val) l
      holds (.derive who p q) s1 (s1.stagedKey 0x01 p.val q.val t 1 k (pubOf t k))) ∧
    (staged t → t ≠ 4 → some_ (.generate who p q) fun w => ∃ k, k.length = 32 ∧ w = s.stagedKey 0x02 p.val q.val t 2 k (pubOf t k)) ∧
    (s.lifeCycle = .provision → staged t → s.keyLen = (if t = 4 then 64 else 32) → read s.keyLen →
      (importOk t l = true → holds (.importClear who p q) s1
        (s1.stagedKey 0x03 p.val q.val t 3 (if t = 4 then [] else l) (if t = 4 then l else pubOf t l))) ∧
      (importOk t l = false → holds (.importClear who p q) s1 { op := 0x03, uses := [p.val, q.val], result := 6 })) ∧
    (staged 4 → read 64 →
      (onCurve (pointOf l) = true → holds (.importPub who p q) s1 (s1.stagedKey 0x04 p.val q.val 4 3 [] l)) ∧
      (onCurve (pointOf l) = false → holds (.importPub who p q) s1 { op := 0x04, uses := [p.val, q.val], result := 6 })) ∧
    (∀ y, bitAt x.usage 1 = true → s.slot q.val = some y → bitAt y.usage 8 = true → s.lcAllows y = true → some_ (.wrap who p q) fun w =>
      ∃ iv, iv.length = 12 ∧ w = { op := 0x05, uses := [p.val, q.val], out := s.toDst (iv ++ gcmSeal x.secret iv [] (blobEntryBytes q.val y)) }) ∧
    (bitAt x.usage 1 = true → read 108 → s.slot q.val = none →
      (gcmOpen (s1.secretOf p.val) (l.take 12) [] (l.drop 12) = none → holds (.unwrap who p q) s1 { op := 0x06, uses := [p.val, q.val], result := 6 }) ∧
      (∀ b, gcmOpen (s1.secretOf p.val) (l.take 12) [] (l.drop 12) = some b → new (entryOf b).type (entryOf b).usage (entryOf b).lc →
        holds (.unwrap who p q) s1 { op := 0x06, uses := [p.val, q.val], fill := [(q.val, s1.slotOfEntry p.val (entryOf b))] })) ∧
    (bitAt x.usage 2 = true → a ≤ s.keyLen → read s.keyLen → holds (.gcmEnc who p) s1
      { op := 0x08, uses := [p.val], out := s1.toDst (gcmSeal (s1.secretOf p.val) s1.gcmIv (l.take a) (l.drop a)) }) ∧
    (bitAt x.usage 3 = true → a + 16 ≤ s.keyLen → read s.keyLen →
      (∀ b, gcmOpen (s1.secretOf p.val) s1.gcmIv (l.take a) (l.drop a) = some b → holds (.gcmDec who p) s1
        { op := 0x09, uses := [p.val], out := s1.toDst b }) ∧
      (gcmOpen (s1.secretOf p.val) s1.gcmIv (l.take a) (l.drop a) = none → holds (.gcmDec who p) s1 { op := 0x09, uses := [p.val], result := 6 })) ∧
    (bitAt x.usage 4 = true → read s.keyLen → holds (.hmac who p) s1 { op := 0x0A, uses := [p.val], out := s1.toDst (hmac256 (s1.secretOf p.val) l) }) ∧
    (read s.keyLen → holds (.sha256 who) s1 { op := 0x0B, out := s1.toDst (sha256 l) } ∧
      holds (.sha384 who) s1 { op := 0x0C, out := s1.toDst (sha384 l) }) ∧
    (bitAt x.usage 5 = true → read s.keyLen → Completes (.sign who p) s fun t =>
      t = { s1 with keys := { s1.keys with work := t.keys.work }, freeCtr := t.freeCtr, bus := ⟨0, false⟩ } ∧ ∃ n, 1 ≤ n ∧ n < p256N ∧
      t.keys.work = some { op := 0x0D, uses := [p.val], out := s1.toDst (ecdsaSign (s1.secretOf p.val) l n) }) ∧
    (∀ sig s2, bitAt x.usage 6 = true → read s.keyLen → s1.keyRead 0 (s1.getF F.KEY_DST_ADDR) 64 = (some sig, s2) → holds (.verify who p) s2
      { op := 0x0E, uses := [p.val], result := if ecdsaVerify (s2.pubKeyOf p.val) l sig then 0 else 6 }) ∧
    (bitAt x.usage 7 = true → staged 2 → read 64 → onCurve (pointOf l) = true → holds (.agree who p q) s1
      (s1.stagedKey 0x0F p.val q.val 2 2 (ecdh (s1.secretOf p.val) l) [])) ∧
    (x.pub ≠ [] → holds (.pubkey who p) s { op := 0x10, uses := [p.val], out := s.toDst x.pub }) ∧
    (1 ≤ s.keyLen → s.keyLen ≤ 4096 → some_ (.random who) fun w => ∃ r, r.length = s.keyLen ∧ w = { op := 0x11, out := s.toDst r }) ∧
    (s.keyLen = 0 ∨ 4096 < s.keyLen → holds (.random who) s { op := 0x11, result := 14 }) ∧
    holds (.reseed who) s { op := 0x12 }) ∧
  (∀ (who : Initiator) (p q : Fin 1024) (kt kr kb : KeySlot) (s : State), s.opens who 0x100044 true = true → s.keys.work = none → s.keys.lock = false →
    s.keys.rootFail = false → s.keys.drbgOk = true → s.lifeCycle = .provision → s.poppy.keys = none → s.slot p.val = some kt → s.slot q.val = some kr →
    s.slot 2 = some kb → bitAt kt.usage 12 = true → bitAt kr.usage 12 = true → s.lcAllows kt = true → s.lcAllows kr = true → s.lcAllows kb = true →
    s.poppy.a.crc = poppyCrc ((List.range 13).map fun i => (s.reg (0xC0100 + 4 * i)).toNat) → s.rst.otp.ctrP < 2047 →
    Completes (.poppySeal who p q) s fun t =>
      t = { s with keys := { s.keys with work := t.keys.work }, freeCtr := t.freeCtr, bus := ⟨0, false⟩ } ∧ ∃ w, t.keys.work = some w ∧ w.result = 0 ∧
        w.empty = [p.val, q.val] ∧
      w.poppy = some (kt.secret, kr.secret) ∧ w.out ≠ none)

/-- Rows INVALIDATE, SEAL_BLOB, COMMIT_BLOB, LOAD_BLOB, KEY_CMD_DONE and HEALTH_FAIL. -/
def Obligations.KeyStoreAndBlobs : Prop :=
  (∀ (who : Initiator) (q : Fin 1024) (s : State), s.opens who 0x100044 true = true →
    let l := s.subtree q.val
    let ends (r : Nat) : Prop := exec (.invalidate who q) s = .next ({ s with keys := { s.keys with work := some { op := 0x07, result := r } } }.respond 0 false)
    let empties (t : State) : Prop := t.keys.work = some { op := 0x07, uses := l } ∧ (∀ k, k ∈ l → t.slot k = none) ∧ ∀ k, k ∉ l → t.slot k = s.slot k
    (s.keys.work = none → s.keys.lock = true → ends 12) ∧
    (s.keys.work = none → s.keys.lock = false → q.val < 3 → ends 3) ∧
    (s.keys.work = none → s.keys.lock = false → 3 ≤ q.val → s.slot q.val = none → ends 2) ∧
    (s.keys.work = none → s.keys.lock = false → 3 ≤ q.val → s.slot q.val ≠ none → Completes (.invalidate who q) s fun t => empties t ∧
      t.slot q.val = none ∧ (s.keys.kRadioSlot ∈ l → t.keys.kRadio = none) ∧ (s.keys.kCascSlot ∈ l → t.keys.kCasc = none) ∧
      t = { s with regs := t.regs, keys := t.keys, bus := ⟨0, false⟩ }) ∧
    (∀ w, s.keys.work = some w → w.op = 0x07 ∨ (∀ k ∈ w.uses, k ∉ l) →
      exec (.invalidate who q) s = .next ((s.accessErr 0x11 who 0x100044).respond 0 false)) ∧
    (∀ w, s.keys.work = some w → w.op ≠ 0x07 → (∃ k ∈ w.uses, k ∈ l) → s.keys.lock = false → 3 ≤ q.val → s.slot q.val ≠ none →
      Completes (.invalidate who q) s fun t => empties t ∧ t.keys.result = 8 ∧ t.event 0x100 1 = true ∧
        t = { s with regs := t.regs, keys := t.keys, bus := ⟨0, false⟩ })) ∧
  (∀ (who : Initiator) (kb : KeySlot) (s : State), s.opens who 0x100044 true = true → s.keys.work = none → s.keys.lock = false →
    s.keys.rootFail = false →
    s.keys.drbgOk = true → s.slot 2 = some kb → s.lcAllows kb = true →
    let x := 1 - s.keys.gCur
    let holds (i : Instr) (w : KeyWork) : Prop := exec i s = .next ({ s with keys := { s.keys with work := some w } }.respond 0 false)
    (s.persistSlots.length ≤ 768 → s.rst.otp.ctrG < 2047 → Completes (.sealBlob who 1) s fun t =>
      t = { s with keys := { s.keys with work := t.keys.work }, freeCtr := t.freeCtr, bus := ⟨0, false⟩ } ∧
      ∃ iv, iv.length = 12 ∧ t.keys.work = some { op := 0x13, uses := 2 :: s.persistSlots.map (·.1), out := s.toDst (s.blobBytes 1
        s.persistSlots.length (s.rst.otp.ctrG + 1) iv (s.persistSlots.flatMap fun e => blobEntryBytes e.1 e.2)) }) ∧
    (2047 ≤ s.rst.otp.ctrG → s.persistSlots.length ≤ 768 → holds (.sealBlob who 1) { op := 0x13, uses := [2], result := 10 }) ∧
    (holds (.sealBlob who 2) { op := 0x13, uses := [2], result := 11 } ∧ holds (.commitBlob who 0) { op := 0x14, uses := [2], result := 11 } ∧
      holds (.loadBlob who 3) { op := 0x15, uses := [2], result := 11 }) ∧
    (s.rst.otp.ctrG < 2047 →
      (∀ b, s.readBlob 1 x = some (s.rst.otp.ctrG + 1, b) → holds (.commitBlob who 1) { op := 0x14, uses := [2], blob := some (1, s.rst.otp.ctrG + 1, x) }) ∧
      (∀ c b, s.readBlob 1 x = some (c, b) → c ≠ s.rst.otp.ctrG + 1 → holds (.commitBlob who 1) { op := 0x14, uses := [2], result := 11 }) ∧
      (s.readBlob 1 x = none → holds (.commitBlob who 1) { op := 0x14, uses := [2], result := 11 })) ∧
    holds (.loadBlob who 1) (s.loadBlob 1) ∧ (s.poppy.keys = none → holds (.loadBlob who 2) (s.loadBlob 2)) ∧
    (s.poppy.keys ≠ none → holds (.loadBlob who 2) { op := 0x15, uses := [2], result := 4 })) ∧
  (∀ s : State,
    (s.keys.work = none → exec .keyCmdDone s = .next s) ∧
    (∀ w, s.keys.work = some w →
      (w.result ≠ 0 → Completes .keyCmdDone s fun t => t.keys = { s.keys with work := none, result := w.result, outLen := 0 } ∧ t.event 0x100 1 = true ∧
        t = { s with regs := t.regs, keys := t.keys }) ∧
      (∀ k x, w = { op := w.op, uses := w.uses, fill := [(k, x)] } → Completes .keyCmdDone s fun t => t.keys.work = none ∧ t.keys.result = 0 ∧
        t.slot k = some x ∧ (∀ j, j ≠ k → t.slot j = s.slot j) ∧ t.event 0x100 0 = true ∧ t = { s with regs := t.regs, keys := t.keys }) ∧
      (∀ a l s1, w = { op := w.op, uses := w.uses, out := some (a, l) } → s.keyWrite 0 a l = (none, s1) → Completes .keyCmdDone s fun t =>
        t.keys.work = none ∧ t.keys.result = 0 ∧ t.keys.outLen = l.length ∧ t.event 0x100 0 = true ∧ t.keys.slots = s1.keys.slots ∧
        t = { s1 with regs := t.regs, keys := t.keys }) ∧
      (∀ a l c s1, w = { op := w.op, uses := w.uses, out := some (a, l) } → s.keyWrite 0 a l = (some c, s1) → Completes .keyCmdDone s fun t =>
        t.keys.work = none ∧ t.keys.result = 14 ∧ t.keys.outLen = 0 ∧ t.event 0x100 1 = true ∧
        t = { s1 with regs := t.regs, keys := t.keys }) ∧
      (∀ c x, w = { op := w.op, uses := w.uses, blob := some (1, c, x) } → Completes .keyCmdDone s fun t => t.keys.work = none ∧ t.keys.result = 0 ∧
        t.keys.gCur = x ∧ t.keys.gValid = true ∧ t.event 0x100 0 = true ∧
        t = { s with regs := t.regs, keys := t.keys, rst := { s.rst with otp := { s.rst.otp with ctrG := c } } })) ∧
    (Completes .healthFail s fun t => t.keys.drbgOk = false ∧ t.event 0x100 2 = true ∧ t = { s with regs := t.regs, keys := t.keys } ∧
      ∀ w, s.keys.work = some w → w.op = 0x12 → w.result = 0 → t.keys.work = some { w with result := 9 }))

/-- Rows TAMPER_DETECTION, SOURCE_CLEARED, PROGRAM, CLEAR_LOG, EXTEND, STATEMENT and STATEMENT_COMPLETE. -/
def Obligations.TamperAndAttestation : Prop :=
  (∀ (src : Fin 5) (temp : Fin 256) (s : State),
    let shown : State := { s with tamp := { s.tamp with temp := temp.val } }
    let hit : Prop := bitAt (s.getF F.TAMP_CFG_SRC_EN) src.val = true ∧ (src.val = 2 → s.tempOut temp.val = true)
    (¬ hit → exec (.tamperDetection src temp) s = .next shown) ∧
    (hit → Completes (.tamperDetection src temp) s fun t => bitAt t.tamp.active src.val = true ∧ t.tamp.temp = temp.val ∧ t.event 0x101 0 = true ∧
      (bitAt s.tamp.active src.val = true → t.tamp.log = s.tamp.log) ∧
      (bitAt s.tamp.active src.val = false → s.tamp.log.length < 16 → ∃ sec, t.tamp.log = s.tamp.log ++ [(src.val, s.tamperPhase, sec)]) ∧
      (bitAt s.tamp.active src.val = false → 16 ≤ s.tamp.log.length → t.tamp.log = s.tamp.log ∧ t.tamp.ovf = true) ∧
      (bitAt s.tamp.active src.val = false → s.tamp.log.length = 15 → t.event 0x101 1 = true) ∧
      (s.rst.held = true → t = { s with regs := t.regs, mem := t.mem, tamp := t.tamp }) ∧
      (s.rst.held = false → s.tamperPhase = 0 → t = { s with regs := t.regs, mem := t.mem, tamp := t.tamp, rst := { s.rst with tampHeld := true } } ∧
        t.getF F.SYS_BOOT_STAT_ERROR = 8) ∧
      (s.rst.held = false → s.tamperPhase ≠ 0 → t = { s with
                                                             regs := t.regs, fifos := t.fifos, mem := t.mem, mbox := t.mbox, bus := t.bus,
                                                             freeCtr := t.freeCtr, poppy := t.poppy, keys := t.keys, tamp := t.tamp,
                                                             att := t.att, rst := t.rst } ∧
        t.keys.slots = [] ∧ t.keys.lock = true ∧ t.keys.rootOk = false ∧ t.keys.kRadio = none ∧ t.keys.kCasc = none ∧
        t.keys.work = none ∧ t.event 0x100 3 = true)) ∧
    (bitAt s.tamp.active src.val = false ∨ (src.val = 2 ∧ s.tempOut temp.val = true) ∨
      (src.val = 1 ∧ (bitAt s.pwr.lost 0 = true ∨ bitAt s.pwr.lost 1 = true)) → exec (.sourceCleared src temp) s = .next shown) ∧
    (bitAt s.tamp.active src.val = true → (src.val = 2 → s.tempOut temp.val = false) →
      (src.val = 1 → bitAt s.pwr.lost 0 = false ∧ bitAt s.pwr.lost 1 = false) → Completes (.sourceCleared src temp) s fun t =>
      t.event 0x101 2 = true ∧ (∀ i : Fin 5, bitAt t.tamp.active i.val = (bitAt s.tamp.active i.val && decide (i ≠ src))) ∧
      t = { s with regs := t.regs, tamp := t.tamp })) ∧
  (∀ (who : Initiator) (s : State), s.opens who 0x101044 true = true →
    (4 ≤ s.rst.otp.tampProg → exec (.program who) s = .next ((s.accessErr 0x11 who 0x101044).respond 0 false)) ∧
    (s.rst.otp.tampProg < 4 → exec (.program who) s = .next ({ s with rst := { s.rst with
      otp := { s.rst.otp with tampCfg := some (s.reg 0x101040), tampProg := s.rst.otp.tampProg + 1 } } }.respond 0 false)) ∧
    ((∀ k, who ≠ .ctl k) → exec (.clearLog who) s = .next ((s.accessErr 0x11 who 0x101044).respond 0 false)) ∧
    (∀ k, who = .ctl k → Completes (.clearLog who) s fun t => t.tamp.log = [] ∧ t.tamp.ovf = false ∧ t.tamp.active = s.tamp.active ∧
      t = { s with mem := t.mem, tamp := t.tamp, bus := ⟨0, false⟩ } ∧
      (∀ a, 0x0802F000 ≤ a → a < 0x0802F080 → t.memByte a = 0) ∧ ∀ a, a < 0x0802F000 ∨ 0x0802F080 ≤ a → t.memByte a = s.memByte a)) ∧
  (∀ (who : Initiator) (i : Fin 9) (s : State), s.opens who 0x102040 true = true →
    (s.att.statement ≠ none → exec (.extend who i) s = .next ((s.accessErr 0x11 who 0x102040).respond 0 false) ∧
      exec (.statement who i) s = .next ((s.accessErr 0x11 who 0x102040).respond 0 false)) ∧
    (s.att.statement = none →
      (bitAt (s.getF F.ATTEST_MLOCK_LOCK) i.val = true → Completes (.extend who i) s fun t => t.att.meas = s.att.meas ∧ t.att.result = 1 ∧
        t.event 0x102 1 = true ∧ t = { s with regs := t.regs, att := t.att, bus := ⟨0, false⟩ }) ∧
      (bitAt (s.getF F.ATTEST_MLOCK_LOCK) i.val = false → Completes (.extend who i) s fun t => t.att.result = 0 ∧ t.event 0x102 0 = true ∧
        t.att.meas = s.att.meas.set i.val (sha384 (s.att.meas.getD i.val [] ++ (List.range 12).flatMap fun k => bytesLE (s.reg (0x102080 + 4 * k)).toNat 4)) ∧
        t = { s with regs := t.regs, att := t.att, bus := ⟨0, false⟩ }) ∧
      let n := s.getF F.ATTEST_CHAIN_LEN_BYTES
      let holds (r : Nat) : Prop := exec (.statement who i) s =
        .next ({ s with att := { s.att with statement := some (s.getF F.ATTEST_OUT_ADDR_ADDR, [], r) } }.respond 0 false)
      (s.keys.lock = true → holds 12) ∧ (s.keys.lock = false → s.slot 1 = none → holds 2) ∧
      (s.keys.lock = false → s.slot 1 ≠ none → 4096 < n → holds 3) ∧
      (∀ key c s1, s.keys.lock = false → s.slot 1 = some key → n ≤ 4096 → s.keyRead 1 (s.getF F.ATTEST_CHAIN_ADDR_ADDR) n = (some c, s1) →
        Completes (.statement who i) s fun t => t = { s1 with
                                                              att := { s1.att with statement := t.att.statement }, freeCtr := t.freeCtr,
                                                              bus := ⟨0, false⟩ } ∧ ∃ nonce k, t.att.statement = some (s1.getF F.ATTEST_OUT_ADDR_ADDR,
          let body := s1.statementBody n (c ++ List.replicate ((4 - n % 4) % 4) 0) nonce
          body ++ ecdsaSign ((s1.slot 1).elim [] (·.secret)) body k, 0) ∧
          nonce = (List.range 8).flatMap fun j => bytesLE (s1.reg (0x102060 + 4 * j)).toNat 4) ∧
      (∀ s1, s.keys.lock = false → s.slot 1 ≠ none → n ≤ 4096 → s.keyRead 1 (s.getF F.ATTEST_CHAIN_ADDR_ADDR) n = (none, s1) →
        exec (.statement who i) s = .next ({ s1 with att := { s1.att with statement := some (s1.getF F.ATTEST_OUT_ADDR_ADDR, [], 5) } }.respond 0 false)))) ∧
  (∀ s : State,
    (s.att.statement = none → exec .statementComplete s = .next s) ∧
    (∀ a l r, s.att.statement = some (a, l, r) →
      (r ≠ 0 → Completes .statementComplete s fun t => t.att.statement = none ∧ t.att.result = r ∧ t.event 0x102 1 = true ∧
        t = { s with regs := t.regs, att := t.att }) ∧
      (∀ s1, r = 0 → s.keyWrite 1 a l = (none, s1) → Completes .statementComplete s fun t => t.att.statement = none ∧ t.att.result = 0 ∧
        t.event 0x102 0 = true ∧ t = { s1 with regs := t.regs, att := t.att }) ∧
      (∀ c s1, r = 0 → s.keyWrite 1 a l = (some c, s1) → Completes .statementComplete s fun t => t.att.statement = none ∧ t.att.result = 5 ∧
        t.event 0x102 1 = true ∧ t = { s1 with regs := t.regs, att := t.att })))

/-- Rows INVAL_ALL, INVAL_PAGE, INVAL_DONE, DTU_RESUME, DTU_ABORT, DMA_START, DMA_STOP, DMA_RESUME, DMA_ABORT, DMA_BURST, SCRUB and
SELF_REFRESH_ENTRY. -/
def Obligations.TranslationAndDma : Prop :=
  (∀ (who : Initiator) (c : Fin 8) (s : State), let key := 0x08044 + 0x1000 * c.val
    let va := s.getF (F.DTU_INVAL_VA_VA c.val) * 0x1000
    s.opens who key true = true →
    ((∃ p, (c.val, p) ∈ s.mem.dtuInval) → exec (.invalAll who c) s = .next ((s.accessErr 0x11 who key).respond 0 false) ∧
      exec (.invalPage who c) s = .next ((s.accessErr 0x11 who key).respond 0 false)) ∧
    ((∀ p, (c.val, p) ∉ s.mem.dtuInval) →
      (Completes (.invalAll who c) s fun t => t.mem.dtuInval = s.mem.dtuInval ++ [(c.val, none)] ∧
        (∀ e, e ∈ t.mem.dtuCache ↔ e ∈ s.mem.dtuCache ∧ (e.locked = true ∨ e.ctx ≠ c.val)) ∧
        t = { s with mem := { s.mem with dtuCache := t.mem.dtuCache, dtuInval := t.mem.dtuInval }, bus := ⟨0, false⟩ }) ∧
      (Completes (.invalPage who c) s fun t => t.mem.dtuInval = s.mem.dtuInval ++ [(c.val, some va)] ∧
        (∀ e, e ∈ t.mem.dtuCache ↔ e ∈ s.mem.dtuCache ∧ (e.locked = true ∨
          ¬ (e.ctx = c.val ∧ e.vpn = va % 2 ^ 48 / (0x1000 * 512 ^ e.level)))) ∧
        t = { s with mem := { s.mem with dtuCache := t.mem.dtuCache, dtuInval := t.mem.dtuInval }, bus := ⟨0, false⟩ }))) ∧
  (∀ (c : Fin 8) (s : State),
    ((∀ p, (c.val, p) ∉ s.mem.dtuInval) ∨ (∃ e ∈ s.mem.dtuCache, e.ctx = c.val ∧ s.dtuStale e = true) ∨ s.pagePowered (0x008 + c.val) = false →
      exec (.invalDone c) s = .next s) ∧
    ((∃ p, (c.val, p) ∈ s.mem.dtuInval) → (∀ e ∈ s.mem.dtuCache, e.ctx = c.val → s.dtuStale e = false) → s.pagePowered (0x008 + c.val) = true →
      Completes (.invalDone c) s fun t => t.event (0x008 + c.val) 2 = true ∧ (∀ p, (c.val, p) ∉ t.mem.dtuInval) ∧
        (∀ j p, j ≠ c.val → ((j, p) ∈ t.mem.dtuInval ↔ (j, p) ∈ s.mem.dtuInval)) ∧
        t = { s with regs := t.regs, mem := { s.mem with dtuInval := t.mem.dtuInval } })) ∧
  (∀ (who : Initiator) (client i : Fin 256) (s : State), s.opens who 0x08108 true = true →
    (s.dtuIsPaused client.val i.val = false → exec (.dtuResume who client i) s = .next ((s.accessErr 0x11 who 0x08108).respond 0 false) ∧
      exec (.dtuAbort who client i) s = .next ((s.accessErr 0x11 who 0x08108).respond 0 false)) ∧
    (s.dtuIsPaused client.val i.val = true →
      (client.val ∉ [0, 1, 2, 3, 4, 6, 7, 0x0B, 0x0C] → exec (.dtuResume who client i) s = .next ((s.dtuUnpause client.val i.val).respond 0 false) ∧
        exec (.dtuAbort who client i) s = .next ((s.dtuUnpause client.val i.val).respond 0 false)) ∧
      (client.val = 1 → Completes (.dtuResume who client i) s fun t => t.dtuIsPaused client.val i.val = false ∧
        t.ctx (i.val / 2) (i.val % 2) = { s.ctx (i.val / 2) (i.val % 2) with st := .ready } ∧
        t = { s with mem := t.mem, solv := t.solv, bus := ⟨0, false⟩ }) ∧
      (client.val = 4 → Completes (.dtuResume who client i) s fun t => t.dtuIsPaused client.val i.val = false ∧ t.seg = { s.seg with paused := none } ∧
        t = { s with mem := t.mem, seg := t.seg, bus := ⟨0, false⟩ }) ∧
      (client.val = 0x0C → Completes (.dtuAbort who client i) s fun t => t.dtuIsPaused client.val i.val = false ∧
        t.zone = { s.zone with result := 5, loading := false } ∧ t = { s with mem := t.mem, zone := t.zone, bus := ⟨0, false⟩ }))) ∧
  (∀ (who : Initiator) (c : Fin 16) (s : State), let key := 0x10044 + 0x1000 * (c.val / 2) + 0x40 * (c.val % 2)
    let x := s.dmaCh c.val
    let en := s.flag (F.DMA_CTRL_EN (c.val / 2) (c.val % 2))
    let refused (i : Instr) : Prop := exec i s = .next ((s.accessErr 0x11 who key).respond 0 false)
    let makes (i : Instr) (y : DmaChannel) : Prop := Completes i s fun t => t.dmaCh c.val = y ∧ (∀ j, j ≠ c.val → t.dmaCh j = s.dmaCh j) ∧
      t.mem.bytes = s.mem.bytes ∧ t = { s with mem := t.mem, bus := ⟨0, false⟩ }
    s.opens who key true = true →
    (en = false ∨ (x.state ≠ DmaState.idle ∧ x.state ≠ DmaState.error) → refused (.dmaStart who c)) ∧
    (en = true → x.state = DmaState.idle ∨ x.state = DmaState.error → makes (.dmaStart who c)
      { state := .running, desc := s.getF (F.DMA_DESC_ADDR_ADDR (c.val / 2) (c.val % 2)) * 32 }) ∧
    (x.state ≠ DmaState.running → x.state ≠ DmaState.paused → refused (.dmaStop who c)) ∧
    (x.state = DmaState.running → makes (.dmaStop who c) { x with state := .stopped }) ∧
    (x.state = DmaState.paused → makes (.dmaStop who c) { x with stopKept := true }) ∧
    (x.state ≠ DmaState.stopped → x.state ≠ DmaState.paused → refused (.dmaResume who c)) ∧
    (x.state = DmaState.stopped → makes (.dmaResume who c) { x with state := .running }) ∧
    (∀ s1, x.state = DmaState.paused → s.dmaRetry c.val = (none, s1) → Completes (.dmaResume who c) s fun t =>
      t.dmaCh c.val = { x with state := if x.stopKept then .stopped else .running, cause := 0, stopKept := false } ∧ t.dtuIsPaused 0 c.val = false ∧
      t = { s1 with mem := t.mem, bus := ⟨0, false⟩ }) ∧
    (∀ k s1, x.state = DmaState.paused → s.dmaRetry c.val = (some k, s1) → Completes (.dmaResume who c) s fun t =>
      (t.dmaCh c.val).state = DmaState.paused ∧ (t.dmaCh c.val).cause = k ∧ t.dtuIsPaused 0 c.val = true ∧
      t = { s1 with regs := t.regs, mem := t.mem, bus := ⟨0, false⟩ }) ∧
    (x.state = DmaState.idle → refused (.dmaAbort who c)) ∧
    (x.state ≠ DmaState.idle → Completes (.dmaAbort who c) s fun t => (t.dmaCh c.val).state = DmaState.idle ∧ (t.dmaCh c.val).words = [] ∧
      t.dtuIsPaused 0 c.val = false ∧ t.event (0x010 + c.val / 2) (4 * (c.val % 2) + 3) = true ∧
      t = { s with regs := t.regs, fifos := t.fifos, mem := t.mem, mbox := t.mbox, freeCtr := t.freeCtr, bus := ⟨0, false⟩ })) ∧
  (∀ (host : List Byte) (s : State), s.pagePowered 0x010 = true →
    (s.dmaChoose = none → exec (.dmaBurst host) s = .next s) ∧
    (∀ c d s1, s.dmaChoose = some c → s.mem.dmaRunning = none → (s.dmaCh c).words = [] → s.clientRead 0 c (s.dmaCh c).desc 32 = (d, s1) →
      (∀ k, d.fault = some k → Completes (.dmaBurst host) s fun t => (t.dmaCh c).state = DmaState.paused ∧ (t.dmaCh c).cause = k ∧
        t.event (0x010 + c / 2) (4 * (c % 2) + 1) = true ∧ t.mem.bytes = s1.mem.bytes ∧ t = { s1 with regs := t.regs, mem := t.mem }) ∧
      (d.fault = none → d.bad = true → Completes (.dmaBurst host) s fun t => (t.dmaCh c).state = DmaState.error ∧
        t.event (0x010 + c / 2) (4 * (c % 2) + 2) = true ∧ t.mem.bytes = s1.mem.bytes ∧ t = { s1 with regs := t.regs, mem := t.mem }) ∧
      (d.fault = none → d.bad = false → d.data.length = 32 → bitAt ((bytesWords d.data).getD 0 0) 31 = false → Completes (.dmaBurst host) s fun t =>
        (t.dmaCh c).state = DmaState.idle ∧ t.event (0x010 + c / 2) (4 * (c % 2) + 3) = true ∧ t.mem.bytes = s1.mem.bytes ∧ t.mem.dmaLast = c ∧
        t = { s1 with regs := t.regs, mem := t.mem })) ∧
    (∀ c pd s1, s.dmaChoose = some c → s.mem.dmaRunning = none → let x := s.dmaCh c
      let n := min (min 256 (x.len - x.done)) (0x1000 - (x.dst + x.done) % 0x1000)
      x.words ≠ [] → x.status = 0 → x.op = 1 → x.done + n < x.len → s.clientAddr 0 c (x.dst + x.done) true = (.inr pd, s1) →
        s1.region pd = Region.general →
      s1.mem.ecc = [] → Completes (.dmaBurst host) s fun t => (t.dmaCh c).done = x.done + n ∧ (t.dmaCh c).state = x.state ∧ t.mem.dmaLast = c ∧
        (∀ i, i < n → t.memByte (pd + i) = (bytesLE x.src 8).getD ((x.done + i) % 8) 0) ∧
        t = { s1 with regs := t.regs, mem := t.mem } ∧ ∀ a, a < pd ∨ pd + n ≤ a → t.memByte a = s1.memByte a)) ∧
  (∀ s : State, s.pagePowered 0x008 = true →
    (s.flag F.DTU_ECC_CTRL_SCRUB_EN = false → exec .scrub s = .next s) ∧
    (s.flag F.DTU_ECC_CTRL_SCRUB_EN = true → let n := s.getF F.DTU_ECC_CTRL_SCRUB_WORDS
      (Completes .scrub s fun t => t.mem.scrubPos = (s.mem.scrubPos + n) % scrubTotal ∧ t.mem.bytes = s.mem.bytes ∧
        (scrubTotal ≤ s.mem.scrubPos + n → t.event 0x008 5 = true) ∧ t = { s with regs := t.regs, fifos := t.fifos, mem := t.mem }) ∧
      (∀ a i, s.mem.ecc = [(a, EccError.correctable)] → scrubIndex a = some i → (i + scrubTotal - s.mem.scrubPos) % scrubTotal < n →
        Completes .scrub s fun t => t.mem.ecc = [] ∧ t.event 0x008 3 = true))) ∧
  (∀ s : State, let due : Prop := s.flag F.PWR_LPDDR_SR_EN = true ∧ s.flag F.DTU_LPDDR_STAT_READY = true ∧
      (s.pwr.state = PwrState.bloom ∨ s.pwr.state = PwrState.bud) ∧ s.mem.lpddrLast + 1000 * s.getF F.PWR_LPDDR_IDLE_US ≤ s.now
    (¬ due → exec .selfRefreshEntry s = .next s) ∧
    (due → Completes .selfRefreshEntry s fun t => t.flag F.DTU_LPDDR_STAT_SELF_REFRESH = true ∧ t.mem = s.mem ∧
      OnlyRegs s t [F.DTU_LPDDR_STAT_SELF_REFRESH.key]))

/-- Rows DATA_READ, DATA_WRITE, PACKET_WRITE, BUS_LIMIT_EXPIRY, PACKET_ABANDON, DROP_PACKET and FLUSH. -/
def Obligations.MailboxQueues : Prop :=
  (∀ (who : Initiator) (q : Fin 64) (off : Fin 8) (v : DWord) (s : State), s.reaches who = true → s.rst.held = false →
    (who = .host → s.hostBar2 = true) → s.pagePowered (mboxPage q.val) = true →
    let x := s.mboxQ q.val
    let base := 0x41000000 + q.val * 0x1000
    let room : Prop := x.full (s.mboxDepth q.val) = false ∧ (x.opener = none ∨ x.opener = some (.ini who))
    let joins (i : Instr) (open_ : Option Writer) : Prop := Completes i s fun t => (t.mboxQ q.val).words = x.words ++ [⟨v, false⟩] ∧
      (t.mboxQ q.val).held = [] ∧
      (t.mboxQ q.val).opener = open_ ∧ t.bus = ⟨0, false⟩ ∧ (x.words = [] → t.event (mboxPage q.val) (4 * (q.val % 4)) = true) ∧
      (∀ j, j ≠ q.val → t.mboxQ j = s.mboxQ j) ∧ t = { s with regs := t.regs, mbox := t.mbox, bus := t.bus }
    (62 ≤ q.val → exec (.dataRead who q off .dword) s = .next ((s.err (mboxPage q.val) 0x07 (some who) base).respond 0 false) ∧
      exec (.dataWrite who q off .dword v) s = .next ((s.err (mboxPage q.val) 0x07 (some who) base).respond 0 false) ∧
      exec (.packetWrite who q off .dword v) s = .next ((s.err (mboxPage q.val) 0x07 (some who) (base + 8)).respond 0 false)) ∧
    (q.val < 62 → exec (.dataWrite who q off .byte v) s = .next ((s.err (mboxPage q.val) 0x03 (some who) base).respond 0 false)) ∧
    (q.val < 62 → x.ptrBad = false → s.mboxEnabled q.val = false →
      Completes (.dataWrite who q off .dword v) s fun t => t = { s with regs := t.regs, bus := ⟨0, false⟩ } ∧
      (s.flag (F.PG_ERR_INFO_VALID (mboxPage q.val)) = false → t.getF (F.PG_ERR_INFO_CODE (mboxPage q.val)) = 0x11)) ∧
    (q.val < 62 → x.ptrBad = false → s.mboxEnabled q.val = true → wordValid v = false → Completes (.dataWrite who q off .dword v) s fun t =>
      t = { s with regs := t.regs, bus := ⟨0, false⟩ } ∧ (s.flag (F.PG_ERR_INFO_VALID (mboxPage q.val)) = false →
        t.getF (F.PG_ERR_INFO_CODE (mboxPage q.val)) = 0x10)) ∧
    (q.val < 62 → x.ptrBad = false → s.mboxEnabled q.val = true → wordValid v = true → x.held = [] → x.dropPending = false →
      (room → joins (.dataWrite who q off .dword v) (if x.opener = some (.ini who) ∧ wordTag v = 3 then none else x.opener) ∧
        joins (.packetWrite who q off .dword v) (if wordTag v = 3 then none else some (.ini who))) ∧
      (x.full (s.mboxDepth q.val) = true → Completes (.dataWrite who q off .dword v) s fun t =>
        t.mboxQ q.val = { x with held := [⟨.ini who, v, false, s.now, none⟩] } ∧ t = { s with mbox := t.mbox })) ∧
    (q.val < 62 → x.ptrBad = false → s.mboxEnabled q.val = true → x.dropPending = false → x.held = [] →
      (∀ w rest, x.drain = ⟨w, false⟩ :: rest → Completes (.dataRead who q off .dword) s fun t => t.mboxQ q.val = { x with drain := rest } ∧
        t.bus = ⟨w, false⟩ ∧ (∀ j, j ≠ q.val → t.mboxQ j = s.mboxQ j) ∧ t = { s with mbox := t.mbox, bus := t.bus }) ∧
      (∀ w rest, x.drain = [] → x.fill = ⟨w, false⟩ :: rest → Completes (.dataRead who q off .dword) s fun t =>
        t.mboxQ q.val = { x with drain := rest, fill := [], fillBank := (x.fillBank + 1) % 2 } ∧
        t.bus = ⟨w, false⟩ ∧ (∀ j, j ≠ q.val → t.mboxQ j = s.mboxQ j) ∧ t = { s with mbox := t.mbox, bus := t.bus }) ∧
      (x.words = [] → exec (.dataRead who q off .dword) s = .next (s.respond 0 false)))) ∧
  (∀ (q : Fin 64) (s : State), s.pagePowered 0x030 = true →
    let x := s.mboxQ q.val
    let limit := s.mboxLimit q.val
    ((∀ h ∈ x.held, s.now < h.since + limit) → exec (.busLimitExpiry q) s = .next s) ∧
    (∀ h rest, x.held = h :: rest → h.since + limit ≤ s.now → Completes (.busLimitExpiry q) s fun t =>
      t.mboxQ q.val = { x with held := rest } ∧
      (h.lost = none ∨ (∃ i, h.writer = .ini i) → t.event (mboxPage q.val) (4 * (q.val % 4) + 1) = true) ∧
      (∀ i, h.writer = .ini i → t.bus = ⟨0, i != .host⟩) ∧ (∀ j, j ≠ q.val → t.mboxQ j = s.mboxQ j) ∧
      t = { s with regs := t.regs, fifos := t.fifos, mbox := t.mbox, bus := t.bus }) ∧
    (x.ptrBad = false → x.opener = none ∨ s.now ≤ x.lastPacket + limit ∨ (∃ h ∈ x.held, some h.writer = x.opener) →
      exec (.packetAbandon q) s = .next s) ∧
    (x.ptrBad = false → x.opener ≠ none → x.lastPacket + limit < s.now → x.held = [] → x.dropPending = false → Completes (.packetAbandon q) s fun t =>
      (t.mboxQ q.val).words = x.words ++ [⟨mboxWord 8 0, false⟩] ∧ (t.mboxQ q.val).opener = none ∧ (∀ j, j ≠ q.val → t.mboxQ j = s.mboxQ j) ∧
      t = { s with regs := t.regs, mbox := t.mbox } ∧
      (s.getF (F.MBOX_WR_FAIL_COUNT (q.val / 4) (q.val % 4)) + 1 < 2 ^ 32 →
        t.getF (F.MBOX_WR_FAIL_COUNT (q.val / 4) (q.val % 4)) = s.getF (F.MBOX_WR_FAIL_COUNT (q.val / 4) (q.val % 4)) + 1))) ∧
  (∀ (who : Initiator) (q : Fin 64) (s : State), let key := 0x30048 + 0x1000 * (q.val / 4) + 0x20 * (q.val % 4)
    let x := s.mboxQ q.val
    let dropped := F.MBOX_DROPPED_COUNT (q.val / 4) (q.val % 4)
    let counts (t : State) (n : Nat) : Prop := s.getF dropped + n < 2 ^ 32 → t.getF dropped = s.getF dropped + n
    s.opens who key true = true →
    (62 ≤ q.val → exec (.flush who q) s = .next ((s.accessErr 0x02 who key).respond 0 false) ∧
      exec (.dropPacket who q) s = .next ((s.accessErr 0x02 who key).respond 0 false)) ∧
    (q.val < 62 → x.ptrBad = false → x.held = [] →
      (Completes (.flush who q) s fun t => t.mboxQ q.val = { x with fill := [], drain := [], dropPending := false } ∧ counts t x.level ∧
        (∀ j, j ≠ q.val → t.mboxQ j = s.mboxQ j) ∧ t = { s with regs := t.regs, mbox := t.mbox, bus := ⟨0, false⟩ }) ∧
      (∀ n rest, dropPacketWords x.words = some (n, rest) → Completes (.dropPacket who q) s fun t => (t.mboxQ q.val).words = rest ∧ counts t n ∧
        (t.mboxQ q.val).dropPending = x.dropPending ∧ (∀ j, j ≠ q.val → t.mboxQ j = s.mboxQ j) ∧
        t = { s with regs := t.regs, mbox := t.mbox, bus := ⟨0, false⟩ }) ∧
      (dropPacketWords x.words = none → Completes (.dropPacket who q) s fun t => (t.mboxQ q.val).words = [] ∧ (t.mboxQ q.val).dropPending = true ∧
        counts t x.level ∧ (∀ j, j ≠ q.val → t.mboxQ j = s.mboxQ j) ∧ t = { s with regs := t.regs, mbox := t.mbox, bus := ⟨0, false⟩ })))

/-- Rows REF10_LOST, REF10_RESTORED, REFERENCE_LOST, CRYSTAL_LOST, CRYSTAL_RESTORED, PLL_LOCK_LOST, CLOCK_REQUEST and
CLOCK_HOLD_EXPIRY. The bits of `pwr.lost` are the clock inputs that are lost; that an event whose condition does not hold changes
nothing is the model's choice (log 8). -/
def Obligations.ClockInputs : Prop :=
  (∀ s : State,
    (bitAt s.pwr.lost 2 = true → exec .ref10Lost s = .next s) ∧
    (bitAt s.pwr.lost 2 = false → Completes .ref10Lost s fun t => t.flag F.CLK_STAT_REF10_OK = false ∧ t.flag F.CLK_STAT_REF_FALLBACK = true ∧
      t.getF F.CLK_STAT_PLL_LOCK = s.getF F.CLK_STAT_PLL_LOCK ∧ t.event 0x001 0 = true ∧
      (s.getF F.CLK_REF_LOST_COUNT + 1 < 2 ^ 32 → t.getF F.CLK_REF_LOST_COUNT = s.getF F.CLK_REF_LOST_COUNT + 1) ∧
      t = { s with regs := t.regs, pwr := { s.pwr with lost := s.pwr.lost ||| 4 } }) ∧
    (bitAt s.pwr.lost 2 = false → exec .ref10Restored s = .next s) ∧
    (bitAt s.pwr.lost 2 = true → Completes .ref10Restored s fun t => t.flag F.CLK_STAT_REF10_OK = true ∧
      t.flag F.CLK_STAT_REF_FALLBACK = false ∧ t.getF F.CLK_STAT_PLL_LOCK = s.getF F.CLK_STAT_PLL_LOCK ||| 8 ∧ t.event 0x001 1 = true ∧
      t = { s with regs := t.regs, pwr := { s.pwr with lost := s.pwr.lost - 4 } })) ∧
  (∀ (which : Fin 4) (s : State), let k := referenceInput which
    (Completes (.referenceLost which true) s fun t => t.flag ⟨0x1040, 7 + k, 7 + k⟩ = true ∧ bitAt t.pwr.lost k = false ∧
      OnlyRegs { s with pwr := t.pwr } t [0x1040]) ∧
    (bitAt s.pwr.lost k = true → exec (.referenceLost which false) s = .next s) ∧
    (bitAt s.pwr.lost k = false → Completes (.referenceLost which false) s fun t => t.flag ⟨0x1040, 7 + k, 7 + k⟩ = false ∧
      bitAt t.pwr.lost k = true ∧
      (which = 0 → t.event 0x001 2 = true ∧ ∀ p, p < 16 → t.flag (F.EMAC_STAT_LINK p) = false) ∧
      (which = 1 → t.event 0x001 2 = true ∧ ∀ p, 16 ≤ p → p < 20 → t.flag (F.EMAC_STAT_LINK p) = false) ∧
      (which = 2 → t.event 0x001 3 = true ∧ t.rst.pcieDown = true) ∧ (which = 3 → t.event 0x001 5 = true) ∧
      (which = 3 → bitAt (s.getF F.TAMP_CFG_SRC_EN) 1 = true → bitAt t.tamp.active 1 = true ∧ t.event 0x101 0 = true) ∧
      (which = 2 → t = { s with
                              regs := t.regs, pwr := t.pwr, msixOpen := [], msixPend := [], msixMsg := [], latches := t.latches
                              wrBufs := t.wrBufs, rst := { s.rst with pcieDown := true } }) ∧
      (which ≠ 2 → (which = 3 → bitAt (s.getF F.TAMP_CFG_SRC_EN) 1 = false) → t = { s with regs := t.regs, pwr := t.pwr }))) ∧
  (∀ s : State,
    (bitAt s.pwr.lost 1 = true → exec .crystalLost s = .next s) ∧
    (bitAt s.pwr.lost 1 = false → Completes .crystalLost s fun t => t.pwr.x25LostAt = some s.now ∧ bitAt t.pwr.lost 1 = true ∧
      t.poppy.a.held = true ∧ (bitAt (s.getF F.TAMP_CFG_SRC_EN) 1 = false → t.mem = s.mem ∧ t.keys = s.keys ∧ t.tamp = s.tamp ∧ t.rst = s.rst) ∧
      (bitAt (s.getF F.TAMP_CFG_SRC_EN) 1 = true → bitAt t.tamp.active 1 = true ∧ t.event 0x101 0 = true)) ∧
    (s.pwr.x25LostAt = none → exec .crystalRestored s = .next s) ∧
    (∀ w, s.pwr.x25LostAt = some w → s.rst.held = false →
      (s.now ≤ w + 1000000 → Completes .crystalRestored s fun t => t.pwr.x25LostAt = none ∧ bitAt t.pwr.lost 1 = false ∧
        t.poppy.a.held = false ∧ t.mem = s.mem ∧ t.keys = s.keys ∧ t.rst = s.rst) ∧
      (w + 1000000 < s.now → exec .crystalRestored s = .next s)) ∧
    (∀ w, s.pwr.x25LostAt = some w → s.rst.held = true → Completes .crystalRestored s fun t => t.pwr.x25LostAt = none ∧
      bitAt t.pwr.lost 1 = false ∧ t = { s with regs := t.regs, pwr := t.pwr })) ∧
  (∀ (pll : Fin 7) (s : State), let lock : Fld := ⟨0x1040, pll.val, pll.val⟩
    (Completes (.pllLockLost pll true) s fun t => t.flag lock = true ∧ OnlyRegs s t [0x1040]) ∧
    (s.flag lock = false → exec (.pllLockLost pll false) s = .next s) ∧
    (s.flag lock = true → Completes (.pllLockLost pll false) s fun t => t.flag lock = false ∧ t.event 0x001 4 = true ∧
      OnlyRegs s t [0x1040, 0x1010])) ∧
  (∀ s : State,
    let starts (t : State) (n : Nat) : Prop := s.getF F.CLK_STARTS_COUNT + n < 2 ^ 32 →
      t.getF F.CLK_STARTS_COUNT = s.getF F.CLK_STARTS_COUNT + n
    (s.pwr.state ≠ PwrState.bud → (∀ d, exec (.clockRequest d) s = .next s) ∧ ∀ b, exec (.clockHoldExpiry b) s = .next s) ∧
    (s.pwr.state = PwrState.bud →
      (Completes (.clockRequest 0) s fun t => starts t (if s.pwr.coreOn then 0 else 1) ∧
        OnlyRegs { s with pwr := { s.pwr with coreOn := true, coreHold := s.now + 1000 * s.getF F.CLK_HOLD_CORE_US } } t [0x1050]) ∧
      (Completes (.clockRequest 1) s fun t => starts t (if s.pwr.tileOn then 0 else 1) ∧
        OnlyRegs { s with pwr := { s.pwr with tileOn := true, tileHold := s.now + 1000 * s.getF F.CLK_HOLD_TILE_US } } t [0x1050]) ∧
      (∀ n : Fin 10, 2 ≤ n.val → Completes (.clockRequest n) s fun t => let until_ (x : State) := Assoc.get (fun _ => 0) x.pwr.radioUntil (n.val - 2)
        until_ t = s.radioWindow ∧ starts t (if s.now ≤ until_ s then 0 else 1) ∧
          t = { s with regs := t.regs, pwr := { s.pwr with radioUntil := t.pwr.radioUntil } }) ∧
      (s.coresWanted = true ∨ s.now < s.pwr.coreHold → exec (.clockHoldExpiry true) s = .next s) ∧
      (s.coresWanted = false → s.pwr.coreHold ≤ s.now →
        exec (.clockHoldExpiry true) s = .next { s with pwr := { s.pwr with coreOn := false } }) ∧
      (s.tilesWanted = true ∨ s.now < s.pwr.tileHold → exec (.clockHoldExpiry false) s = .next s) ∧
      (s.tilesWanted = false → s.pwr.tileHold ≤ s.now →
        exec (.clockHoldExpiry false) s = .next { s with pwr := { s.pwr with tileOn := false } })))

/-- Rows BLOOM, BUD, SNOWDROP, ENTRY_REFUSED, ENTRY_COMPLETE, ALARM, WAKE_PIN, POWER_WAKE and WAKE_COMPLETE. -/
def Obligations.PowerStates : Prop :=
  (∀ (who : Initiator) (wfi : Option Nat) (s : State), s.opens who 0x2040 true = true →
    ((∀ k, who ≠ .ctl k) ∨ s.pwr.state = PwrState.entering ∨ s.pwr.state = PwrState.waking →
      let t := (s.accessErr 0x11 who 0x2040).respond 0 false
      exec (.bloom who) s = .next t ∧ exec (.bud who) s = .next t ∧ exec (.snowdrop who wfi) s = .next t)) ∧
  (∀ (k : Fin 4) (d : Nat) (s : State), s.opens (.ctl k) 0x2040 true = true → s.pwr.state ≠ PwrState.entering → s.pwr.state ≠ PwrState.waking →
    (s.pwr.state = PwrState.bloom → exec (.bloom (.ctl k)) s = .next ({ s with pwr := { s.pwr with result := 0 } }.respond 0 false)) ∧
    (s.pwr.state ≠ PwrState.bloom → Completes (.bloom (.ctl k)) s fun t => t.event 0x002 0 = true ∧
      t = { s with
                   regs := t.regs, bus := ⟨0, false⟩,
                   pwr := { s.pwr with state := .bloom, result := 0, coreOn := true, tileOn := true, radioUntil := [] } }) ∧
    (s.pwr.state = PwrState.bud → exec (.bud (.ctl k)) s = .next ({ s with pwr := { s.pwr with result := 0 } }.respond 0 false)) ∧
    (s.pwr.state ≠ PwrState.bud → Completes (.bud (.ctl k)) s fun t => t.event 0x002 0 = true ∧
      t = { s with
                   regs := t.regs, bus := ⟨0, false⟩,
                   pwr := { s.pwr with state := .bud, result := 0, coreOn := true, tileOn := true, coreHold := s.now + 1000 * s.getF F.CLK_HOLD_CORE_US,
                                        tileHold := s.now + 1000 * s.getF F.CLK_HOLD_TILE_US } }) ∧
    (
      let begun (w : Option Nat) : PwrSt := { s.pwr with state := .entering, result := 0, returnBud := s.pwr.state == PwrState.bud,
                                                         startedAt := s.now, wfiAt := w, slept := false, wakeAt := none }
      (Completes (.snowdrop (.ctl k) none) s fun t => t.event 0x002 0 = true ∧ t = { s with regs := t.regs, bus := ⟨0, false⟩, pwr := begun none }) ∧
      (0 < d → Completes (.snowdrop (.ctl k) (some d)) s fun t => t.event 0x002 0 = true ∧
        t = { s with regs := t.regs, bus := ⟨0, false⟩, pwr := begun (some (s.now + d)) }) ∧
      (Completes (.snowdrop (.ctl k) (some 0)) s fun t => t.pwr.slept = true ∧ t.pwr.state = PwrState.entering ∧ t.solv.queue = [] ∧ t.solv.ctxs = [] ∧
        (∀ n, (t.axis n).vel = 0) ∧ t.rst = s.rst ∧ t.keys = s.keys ∧ t.sw = s.sw))) ∧
  (∀ s : State, let limit := s.pwr.startedAt + 1000 * s.getF F.PWR_WFI_WAIT_US
    (s.pwr.state ≠ PwrState.entering ∨ s.pwr.slept = true ∨ s.now < limit → exec .entryRefused s = .next s) ∧
    (s.pwr.state = PwrState.entering → s.pwr.slept = false → limit ≤ s.now → (∀ w, s.pwr.wfiAt = some w → s.now < w ∨ limit < w) →
      Completes .entryRefused s fun t => t.event 0x002 1 = true ∧
        t = { s with regs := t.regs, pwr := { s.pwr with result := 1, state := if s.pwr.returnBud then .bud else .bloom } })) ∧
  (∀ s : State,
    (s.pwr.state ≠ PwrState.entering → exec .entryComplete s = .next s) ∧
    (s.pwr.state = PwrState.entering → s.pwr.slept = true → Completes .entryComplete s fun t =>
      t.pwr.state = PwrState.snowdrop ∧ t.pwr.startedAt = s.now ∧ t.event 0x002 0 = true ∧ t.rst.pcieDown = true ∧
      (∀ q, q < 62 → (t.mboxQ q).words = [] ∧ (t.mboxQ q).held = []) ∧ t.getF F.PWR_ENTRY_US_US = (s.now - s.pwr.startedAt) / 1000 % 2 ^ 32 ∧
      (s.getF F.PWR_SNOWDROPS_COUNT + 1 < 2 ^ 32 → t.getF F.PWR_SNOWDROPS_COUNT = s.getF F.PWR_SNOWDROPS_COUNT + 1) ∧
      (s.getF F.GNSS_RX_STATE_RX_STATE ≠ 3 → t.mem.bytes = s.mem.bytes) ∧ t.pwr = { s.pwr with state := .snowdrop, startedAt := s.now } ∧
      t.plan = s.plan ∧ t.solv = s.solv ∧ t.axes = s.axes ∧ t.keys = s.keys ∧ t.poppy = s.poppy)) ∧
  (∀ s : State,
    let enabled (n : Nat) : Bool := bitAt (s.getF F.PWR_WAKE_EN_EN) n
    let at_ := s.getF F.PWR_WAKE_AT_SECOND
    let registers (i : Instr) (n : Nat) : Prop := Completes i s fun t => bitAt (t.getF F.PWR_WAKE_STAT_SOURCES) n = true ∧
      (s.pwr.state ≠ PwrState.snowdrop → s.pwr.state ≠ PwrState.entering → t.event 0x002 3 = true ∧ t.pwr = s.pwr) ∧
      (s.pwr.state = PwrState.snowdrop ∨ s.pwr.state = PwrState.entering → s.pwr.wakeAt = none →
        t.flag F.PWR_WAKE_STAT_VALID = true ∧ t.getF F.PWR_WAKE_STAT_FIRST = n ∧ t.pwr = { s.pwr with wakeAt := some s.now }) ∧
      t = { s with regs := t.regs, pwr := t.pwr }
    (enabled 3 = true → registers .wakePin 3) ∧ (enabled 3 = false → exec .wakePin s = .next s) ∧
    (at_ ≠ 0 → at_ ≤ s.taiSec → enabled 2 = true → registers .alarm 2 ∧ Completes .alarm s fun t => t.getF F.PWR_WAKE_AT_SECOND = 0) ∧
    (at_ = 0 ∨ s.taiSec < at_ ∨ enabled 2 = false → exec .alarm s = .next s)) ∧
  (∀ s : State,
    (s.pwr.state ≠ PwrState.snowdrop ∨ s.pwr.wakeAt = none → exec .powerWake s = .next s) ∧
    (∀ w, s.pwr.state = PwrState.snowdrop → s.pwr.wakeAt = some w → Completes .powerWake s fun t => t.event 0x002 0 = true ∧
      t = { s with regs := t.regs, pwr := { s.pwr with state := .waking, startedAt := max s.pwr.startedAt w } }) ∧
    (s.pwr.state ≠ PwrState.waking → exec .wakeComplete s = .next s) ∧
    (s.pwr.state = PwrState.waking → Completes .wakeComplete s fun t => t.pwr.state = (if s.pwr.returnBud then .bud else .bloom) ∧
      t.pwr.wakeAt = none ∧ t.pwr.coreOn = true ∧ t.pwr.tileOn = true ∧ t.event 0x002 2 = true ∧
      t.getF F.PWR_WAKE_US_US = (s.now - s.pwr.startedAt) / 1000 % 2 ^ 32 ∧ bitAt (t.getF F.CLK_STAT_PLL_LOCK) 0 = true ∧
      bitAt (t.getF F.CLK_STAT_PLL_LOCK) 1 = true ∧ bitAt (t.getF F.CLK_STAT_PLL_LOCK) 2 = true ∧ t.now = s.now ∧
      t.rst.otp = s.rst.otp ∧ t.mem.flash = s.mem.flash))

/-- Rows POWER_ON, BROWNOUT, RESET_PIN, CLOCK_LOSS_RESET, DEVICE, PLANE_DATA, PLANE_CONTROL, PLANE_MGMT, WATCHDOG_EXPIRY, WDOG_KICK,
WATCHDOG_HALF_TIMEOUT, SYS_RESET, HALT_REQ, TAP_INSTRUCTION, PCIE_RESET and WIPE_COMPLETE. `planeEval` is what a tick does with planes
in reset. That the 10 us of a source are the least hold time is the model's choice (log 93). -/
def Obligations.ResetSources : Prop :=
  let fresh (s t : State) : State :=
    { State.reset with
      regs := t.regs, bus := t.bus, now := s.now, freeCtr := t.freeCtr, pending := s.pending, sent := s.sent, ioLost := s.ioLost
      axes := t.axes, mem := t.mem, tamp := t.tamp, pair := t.pair, pwr := t.pwr, rst := t.rst
      poppy := { a := { held := true }, b := { held := true } } }
  let resetFor (ns : Nat) (i : Instr) (k : Nat) (s : State) : Prop := s.rst.otpOp = none → Completes i s fun t =>
    t = fresh s t ∧ t.freeCtr = s.freeCtr ∧ t.tamp = s.tamp ∧ t.rst.held = true ∧ t.rst.heldFrom = s.now ∧ t.rst.heldUntil = s.now + ns ∧
      t.getF F.RST_CAUSE_SOURCES = 2 ^ k ∧
    t.getF F.RST_CAUSE_FIRST = k ∧ (s.getF F.RST_DEV_COUNT_COUNT + 1 < 2 ^ 32 → t.getF F.RST_DEV_COUNT_COUNT = s.getF F.RST_DEV_COUNT_COUNT + 1) ∧
    t.poppy.a.held = true ∧ t.poppy.b.held = true ∧ t.now = s.now ∧ t.rst.otp = s.rst.otp ∧ t.mem.flash = s.mem.flash ∧
    (∀ a, 0x08000000 ≤ a → a < 0x08040000 → t.memByte a = s.memByte a) ∧ ∀ a, 0x10000000 ≤ a → a < 0x14000000 → t.memByte a = 0
  let resetBy := resetFor 10000
  (∀ (low : Nat) (s : State), low < 800 → exec (.resetPin low) s = .next s) ∧
  (∀ (low : Nat) (s : State), s.rst.held = false → resetBy .brownout 1 s ∧ (1000 ≤ low → resetFor (max 10000 low) (.resetPin low) 2 s) ∧
    (∀ w, s.pwr.x25LostAt = some w → w + 1000000 ≤ s.now → resetBy .clockLossReset 3 s) ∧
    (s.rst.wdogOn = true → s.rst.wdogFrom + s.wdogTimeout ≤ s.now → s.getF F.RST_WDOG_CTRL_TARGET = 0 → resetBy .watchdogExpiry 6 s)) ∧
  (∀ s : State, s.pwr.x25LostAt = none → exec .clockLossReset s = .next s) ∧
  (∀ s : State, s.rst.held = true →
    (s.rst.heldFrom ≠ s.now → exec .brownout s = .next s) ∧
    (s.rst.heldFrom = s.now → Completes .brownout s fun t => t.getF F.RST_CAUSE_SOURCES = s.getF F.RST_CAUSE_SOURCES ||| 2 ∧
      OnlyRegs s t [F.RST_CAUSE_SOURCES.key])) ∧
  (∀ s : State, Completes .powerOn s fun t => t = fresh s t ∧ t.rst.held = true ∧ t.rst.heldUntil = s.now + 100000 ∧ t.getF F.RST_CAUSE_SOURCES = 1 ∧
    t.getF F.RST_CAUSE_FIRST = 0 ∧ t.poppy.a.held = true ∧ t.poppy.b.held = true ∧ (∀ a, a < 0x1000000000 → t.memByte a = 0) ∧
    t.mem.flash = s.mem.flash ∧ (s.rst.otpOp = none → t.rst.otp = s.rst.otp)) ∧
  (∀ (who : Initiator) (key : Fin 65536) (s : State), s.opens who 0x3040 true = true →
    (key.val ≠ 0xA5C3 → let t := (s.accessErr 0x11 who 0x3040).respond 0 false
      exec (.device who key) s = .next t ∧ exec (.planeData who key) s = .next t ∧ exec (.planeControl who key) s = .next t ∧
        exec (.planeMgmt who key) s = .next t) ∧
    (key.val = 0xA5C3 → resetBy (.device who key) 5 s)) ∧
  (∀ (i : Instr) (s : State) (source : Nat),
    s.rst.planeHeld = [] →
    (∃ who, s.opens who 0x3040 true = true ∧ source = 0 ∧ (i = .planeData who 0xA5C3 ∨ i = .planeControl who 0xA5C3 ∨ i = .planeMgmt who 0xA5C3)) ∨
      (i = .watchdogExpiry ∧ s.rst.held = false ∧ s.rst.wdogOn = true ∧ s.rst.wdogFrom + s.wdogTimeout ≤ s.now ∧
        s.getF F.RST_WDOG_CTRL_TARGET ≠ 0 ∧ source = 1) →
    let target := s.getF F.RST_WDOG_CTRL_TARGET
    let held (t : State) (x : PagePlane) : Prop := t.rst.planeHeld = [(x.code, s.now + planeHoldNs x)]
    let data : Prop := (∃ who, i = .planeData who 0xA5C3) ∨ (i = .watchdogExpiry ∧ target = 1)
    let control : Prop := (∃ who, i = .planeControl who 0xA5C3) ∨ (i = .watchdogExpiry ∧ target = 2)
    let mgmt : Prop := (∃ who, i = .planeMgmt who 0xA5C3) ∨ (i = .watchdogExpiry ∧ 2 < target)
    Completes i s fun t => t.getF F.RST_PLANE_SOURCE = source ∧ t.rst.otp = s.rst.otp ∧ t.mem.flash = s.mem.flash ∧ t.time = s.time ∧
      t.tamp = s.tamp ∧ t.pwr = s.pwr ∧ t.now = s.now ∧
      (data → t.getF F.RST_PLANE_WHICH = 1 ∧ held t .data ∧ t.poppy = s.poppy ∧ t.keys.slots = s.keys.slots ∧
        ∀ a, t.memByte a = if 0x12000000 ≤ a ∧ a < 0x13800000 then 0 else s.memByte a) ∧
      (control → t.getF F.RST_PLANE_WHICH = 2 ∧ held t .control ∧ t.sched = {} ∧ t.keys.slots = s.keys.slots ∧
        ∀ a, t.memByte a = if heapLo ≤ a ∧ a < 0x12000000 then 0 else s.memByte a) ∧
      (mgmt → t.getF F.RST_PLANE_WHICH = 3 ∧ held t .mgmt ∧ t.poppy = s.poppy ∧ t.rst.pcieDown = true ∧ t.mem.bytes = s.mem.bytes ∧
        ∀ e, e ∈ t.keys.slots ↔ e ∈ s.keys.slots ∧ e.1 < 3) ∧
      (i = .watchdogExpiry → t.rst.wdogFrom = s.now ∧ t.rst.wdogHalf = false)) ∧
  (∀ (who : Initiator) (x : PagePlane) (s : State), s.opens who 0x3040 true = true → s.planeIn x = true →
    ∀ i ∈ [(Instr.planeData who 0xA5C3, PagePlane.data), (.planeControl who 0xA5C3, .control), (.planeMgmt who 0xA5C3, .mgmt)], i.2 = x →
      exec i.1 s = .next (s.respond 0 false)) ∧
  (∀ (x until_ : Nat) (s : State), s.rst.planeHeld = [(x, until_)] →
    (s.now < until_ → s.planeEval = s) ∧
    (until_ ≤ s.now → s.planeEval.rst.planeHeld = [] ∧ s.planeEval.event 0x003 0 = true ∧ s.planeEval.mem = s.mem ∧
      (x = 1 → ∀ k, k ∈ [4, 5, 6, 7] → bitAt (s.planeEval.getF F.SYS_CORE_RUN_START) k = true ∧
        Assoc.get (fun _ => 0) s.planeEval.rst.starts k = s.getF F.SYS_WARM_VEC_D_ADDR) ∧
      (x = 2 → ∀ k, k ∈ [0, 1, 2, 3] → bitAt (s.planeEval.getF F.SYS_CORE_RUN_START) k = true ∧
        Assoc.get (fun _ => 0) s.planeEval.rst.starts k = s.getF F.SYS_WARM_VEC_C_ADDR))) ∧
  (∀ s : State,
    (s.rst.wdogOn = false ∨ s.rst.held = true ∨ s.now < s.rst.wdogFrom + s.wdogTimeout → exec .watchdogExpiry s = .next s) ∧
    (s.rst.wdogOn = false ∨ s.rst.wdogHalf = true ∨ s.now < s.rst.wdogFrom + s.wdogTimeout / 2 → exec .watchdogHalfTimeout s = .next s) ∧
    (s.rst.wdogOn = true → s.rst.wdogHalf = false → s.rst.wdogFrom + s.wdogTimeout / 2 ≤ s.now → Completes .watchdogHalfTimeout s fun t =>
      t.event 0x003 1 = true ∧ t = { s with regs := t.regs, rst := { s.rst with wdogHalf := true } })) ∧
  (∀ (who : Initiator) (value : Word) (s : State), s.opens who 0x3058 true = true →
    (value = 0x6B1C → exec (.wdogKick who value) s =
      .next ({ s with rst := { s.rst with wdogFrom := s.now, wdogHalf := false } }.respond 0 false)) ∧
    (value ≠ 0x6B1C → exec (.wdogKick who value) s = .next ((s.accessErr 0x11 who 0x3058).respond 0 false))) ∧
  (∀ (who : Initiator) (mask : Fin 256) (s : State), s.opens who 0x110040 true = true →
    (who ≠ .debug → let t := (s.accessErr 0x11 who 0x110040).respond 0 false
      exec (.sysReset who) s = .next t ∧ exec (.haltReq who mask) s = .next t) ∧
    (who = .debug → resetBy (.sysReset who) 7 s ∧
      let old := s.getF F.DBG_CTRL_HALT_REQ
      Completes (.haltReq who mask) s fun t => t.getF F.DBG_CTRL_HALT_REQ = mask.val ∧
        t.event 0x110 0 = (s.event 0x110 0 || decide (mask.val &&& (255 - old) ≠ 0)) ∧
        t.event 0x110 1 = (s.event 0x110 1 || decide (old &&& (255 - mask.val) ≠ 0)) ∧ t = { s with regs := t.regs, bus := ⟨0, false⟩ })) ∧
  (∀ (tap : TapInstruction) (linkUp : Bool) (s : State),
    exec (.tapInstruction tap) s = .next { s with rst := { s.rst with tap := tap } } ∧
    (Completes (.pcieReset linkUp) s fun t => t.latch .host = none ∧ (∀ base, t.wrBuf .host base = []) ∧
      t = { s with
                    msixOpen := [], msixPend := [], msixMsg := [], latches := t.latches, wrBufs := t.wrBufs
                    rst := { s.rst with pcieDown := !linkUp || bitAt s.pwr.lost 5 } }) ∧
    (s.rst.wiping = false ∨ s.rst.held = true → exec .wipeComplete s = .next s) ∧
    (s.rst.wiping = true → s.rst.held = false → Completes .wipeComplete s fun t => t.getF F.RST_WIPE_US_US = 131 ∧
      OnlyRegs { s with rst := { s.rst with wiping := false } } t [F.RST_WIPE_US_US.key]))

/-- Rows DEVICE_RESET_RELEASE, TRANSITION, PROGRAM_HASH, RAISE_SVN, OTP_PROGRAMMING_DONE, CORE_RUN, LOAD_DATA and GO. That a slot
which cannot be read counts as error 5 is the model's reading (log 93). -/
def Obligations.LifeCycleAndBoot : Prop :=
  (∀ (w : BootWorld) (s : State),
    (s.rst.held = true → s.now < s.rst.heldUntil ∨ s.pwr.x25LostAt ≠ none → exec (.deviceResetRelease w) s = .next s) ∧
    (s.rst.held = true → s.rst.heldUntil ≤ s.now → s.pwr.x25LostAt = none →
      exec (.deviceResetRelease w) s = exec (.deviceResetRelease w) s.resetState.poppyStart) ∧
    (s.rst.held = false → s.rst.booted = true → exec (.deviceResetRelease w) s = .next s) ∧
    (s.rst.held = false → s.rst.booted = false →
      (s.lifeCycle = .scrap → Completes (.deviceResetRelease w) s fun t => t.getF F.SYS_BOOT_STAT_STAGE = 15 ∧ t.getF F.SYS_BOOT_STAT_ERROR = 0 ∧
        t.rst.hostOpen = s.rst.hostOpen ∧ t.rst.booted = true ∧ t.flag F.SYS_LC_MARKER_WIPE = s.markerDone.isNone ∧
        (s.markerDone = none → ∀ a, 0x08000000 ≤ a → a < 0x08020000 → t.memByte a = 0) ∧
        (s.markerDone ≠ none → ∀ a, 0x08000000 ≤ a → a < 0x08040000 → t.memByte a = s.memByte a)) ∧
      (s.lifeCycle ≠ .scrap → s.tamp.active &&& s.getF F.TAMP_CFG_SRC_EN ≠ 0 → Completes (.deviceResetRelease w) s fun t =>
        t.getF F.SYS_BOOT_STAT_STAGE = 3 ∧ t.getF F.SYS_BOOT_STAT_ERROR = 8 ∧ t.rst.tampHeld = true ∧ t.rst.hostOpen = s.rst.hostOpen) ∧
      (s.lifeCycle ≠ .scrap → s.tamp.active &&& s.getF F.TAMP_CFG_SRC_EN = 0 → s.rst.tampHeld = false → w.powerCut = false →
        (w.recov = true → s.lifeCycle ≠ .field → Completes (.deviceResetRelease w) s fun t => t.getF F.SYS_BOOT_STAT_STAGE = 5 ∧
          t.flag F.SYS_LOAD_STAT_READY = true ∧ t.rst.loadLen = 0 ∧ t.rst.booted = true) ∧
        (w.recov = false → w.badA = true → w.badB = true → Completes (.deviceResetRelease w) s fun t => t.getF F.SYS_BOOT_STAT_STAGE = 15 ∧
          t.getF F.SYS_BOOT_STAT_ERROR = 5 ∧ t.rst.sysOpen = true ∧ t.rst.booted = true)))) ∧
  (∀ (target : Fin 8) (s : State), s.reaches .host = true → s.rst.held = false → s.hostMay 0x000 0x044 true = false →
    Completes (.transition .host target) s fun t => t.getF F.SYS_LC_STAT_RESULT = 4 ∧ t.event 0x000 0 = true ∧
      t = { s with regs := t.regs, bus := t.bus }) ∧
  (∀ (who : Initiator) (target : Fin 8) (s : State), s.opens who 0x044 true = true →
    let may : Prop := who ≠ .dma ∧ ∀ k, who ≠ .data k
    let needs := lcAllowed s.lifeCycle target.val
    let ends (result : Nat) : Prop := Completes (.transition who target) s fun t => t.getF F.SYS_LC_STAT_RESULT = result ∧ t.event 0x000 0 = true ∧
      t.mem.bytes = s.mem.bytes ∧
      t = { s with regs := t.regs, fifos := t.fifos, mem := t.mem, freeCtr := t.freeCtr, bus := ⟨0, false⟩ }
    let accepted : Prop := Completes (.transition who target) s fun t => t.getF F.SYS_LC_STAT_RESULT = 0 ∧
      t.mem.bytes = s.mem.bytes ∧ t = { s with
        regs := t.regs, fifos := t.fifos, mem := t.mem, bus := ⟨0, false⟩, rst := { s.rst with otpOp := some (.lifeCycle target.val) } }
    (s.rst.otpOp ≠ none → exec (.transition who target) s = .next ((s.accessErr 0x11 who 0x044).respond 0 false)) ∧
    (s.rst.otpOp = none → (¬ may → ends 4) ∧ (may → (needs = none → ends 1) ∧ (needs = some .nothing → accepted) ∧
      (needs = some .root → if s.keys.rootOk then accepted else ends 2) ∧
      (needs = some .fielded → if s.rst.otp.hash.isSome && s.keys.pValid then accepted else ends 2) ∧
      (needs = some .authorised → if s.keys.drbgOk then (if (s.authOk target.val).1 then accepted else ends 3) else ends 2)))) ∧
  (∀ s : State,
    (s.rst.otpOp = none → exec .otpProgrammingDone s = .next s) ∧
    (∀ l, s.rst.otpOp = some (.hash l) → Completes .otpProgrammingDone s fun t => t.event 0x000 1 = true ∧
      t = { s with regs := t.regs, rst := { s.rst with otp := { s.rst.otp with hash := some l }, otpOp := none } }) ∧
    (∀ v, s.rst.otpOp = some (.svn v) → Completes .otpProgrammingDone s fun t => t.event 0x000 1 = true ∧
      t = { s with regs := t.regs, rst := { s.rst with otp := { s.rst.otp with minSvn := v }, otpOp := none } }) ∧
    (∀ n, s.rst.otpOp = some (.lifeCycle n) → s.rst.held = false → Completes .otpProgrammingDone s fun t => t.rst.held = true ∧
      t.getF F.RST_CAUSE_SOURCES = 16 ∧ t.rst.otp = { s.rst.otp with lc := s.rst.otp.lc ||| 2 ^ (n - 1) } ∧ t.rst.otpOp = none)) ∧
  (∀ (who : Initiator) (s : State), s.opens who 0x080 true = true →
    let refused (i : Instr) : Prop := exec i s = .next ((s.accessErr 0x11 who 0x080).respond 0 false)
    let begins (i : Instr) (op : OtpOp) : Prop := exec i s = .next ({ s with rst := { s.rst with otpOp := some op } }.respond 0 false)
    let early : Prop := s.lifeCycle = .blank ∨ s.lifeCycle = .provision
    let v := (s.reg 0x100).toNat % 64
    (s.rst.otpOp ≠ none ∨ s.rst.otp.hash ≠ none ∨ ¬ early → refused (.programHash who)) ∧
    (s.rst.otpOp = none → s.rst.otp.hash = none → early → begins (.programHash who) (.hash ((List.range 8).map fun i => s.reg (0x100 + 4 * i)))) ∧
    (s.rst.otpOp ≠ none ∨ v ≤ s.rst.otp.minSvn ∨ s.lifeCycle = .scrap → refused (.raiseSvn who)) ∧
    (s.rst.otpOp = none → s.rst.otp.minSvn < v → s.lifeCycle ≠ .scrap → begins (.raiseSvn who) (.svn v))) ∧
  (∀ (who : Initiator) (mask : Fin 256) (s : State), s.opens who 0x088 true = true → Completes (.coreRun who mask) s fun t =>
    t.getF F.SYS_CORE_RUN_START = s.getF F.SYS_CORE_RUN_START ||| mask.val ∧
    (∀ k, k < 8 → Assoc.get (fun _ => 0) t.rst.starts k =
      if bitAt mask.val k && !bitAt (s.getF F.SYS_CORE_RUN_START) k then s.getF F.SYS_CORE_VEC_ADDR else Assoc.get (fun _ => 0) s.rst.starts k) ∧
    OnlyRegs { s with rst := { s.rst with starts := t.rst.starts }, bus := ⟨0, false⟩ } t [F.SYS_CORE_RUN_START.key]) ∧
  (∀ (who : Initiator) (value : Word) (s : State), s.opens who 0x0AC true = true →
    let n := s.rst.loadLen
    (s.flag F.SYS_LOAD_STAT_READY = false → exec (.loadData who value) s = .next ((s.accessErr 0x11 who 0x0AC).respond 0 false)) ∧
    (s.flag F.SYS_LOAD_STAT_READY = true → 0x180000 ≤ n → exec (.loadData who value) s = .next ((s.accessErr 0x10 who 0x0AC).respond 0 false)) ∧
    (s.flag F.SYS_LOAD_STAT_READY = true → n < 0x180000 → s.mem.ecc = [] → Completes (.loadData who value) s fun t => t.rst.loadLen = n + 1 ∧
      (∀ i, i < 4 → t.memByte (0x13800000 + 4 * n + i) = (bytesLE value.toNat 4).getD i 0) ∧
      (∀ a, a < 0x13800000 + 4 * n ∨ 0x13800000 + 4 * n + 4 ≤ a → t.memByte a = s.memByte a) ∧
      t = { s with mem := t.mem, rst := t.rst, bus := ⟨0, false⟩ })) ∧
  (∀ (who : Initiator) (fails : Bool) (s : State), s.opens who 0x0A8 true = true →
    (s.flag F.SYS_LOAD_STAT_READY = false → exec (.go who fails) s = .next ((s.accessErr 0x11 who 0x0A8).respond 0 false)) ∧
    (s.flag F.SYS_LOAD_STAT_READY = true → s.rst.tampHeld = true → exec (.go who fails) s = .next (s.respond 0 false)) ∧
    (s.flag F.SYS_LOAD_STAT_READY = true → s.rst.tampHeld = false → let e := (s.loadImage 2 fails).1
      (e ≠ 0 → Completes (.go who fails) s fun t => t.getF F.SYS_LOAD_STAT_RESULT = e ∧ t.flag F.SYS_LOAD_STAT_READY = true ∧
        t.event 0x000 2 = true ∧ t = { s with regs := t.regs, mem := t.mem, rst := { s.rst with loadLen := 0 }, bus := ⟨0, false⟩ }) ∧
      (e = 0 → Completes (.go who fails) s fun t => t.getF F.SYS_BOOT_STAT_STAGE = 9 ∧ t.getF F.SYS_BOOT_STAT_SLOT = 2 ∧
        t.flag F.SYS_LOAD_STAT_READY = false ∧ t.rst.hostOpen = true ∧ bitAt (t.getF F.SYS_CORE_RUN_START) 0 = true ∧
        t.rst.otp = s.rst.otp ∧ t.now = s.now)))

/-- R517: "the state only advances"; with it MIN_SVN and BOOT_KEY_HASH (R529). For every state and every command. -/
def Obligations.LifeCycleOnlyAdvances : Prop :=
  ∀ s t : State, s.otpAdvances → step s = .next t →
    t.otpAdvances ∧ (∀ i, s.rst.otp.lc.testBit i = true → t.rst.otp.lc.testBit i = true) ∧ s.rst.otp.minSvn ≤ t.rst.otp.minSvn ∧
    ∀ l, s.rst.otp.hash = some l → t.rst.otp.hash = some l
end

