-- ==== Sys2Proof/Laws/Assoc.lean ====
section
/-! SUPPORT. Laws of the sparse tables: a read after a write, and every operation keeps the canonical form. -/

namespace Sys2Proof.Machine

variable {α : Type} {d : Nat → α}

/-! ## Reads after writes -/

@[simp] theorem Assoc.get_del_same {l : List (Nat × α)} {k : Nat} : Assoc.get d (Assoc.del k l) k = d k := by
  induction l with
  | nil => rfl
  | cons e t ih =>
    simp only [Assoc.del]
    split
    · exact ih
    · rename_i h
      simp only [Assoc.get, if_neg h, ih]

theorem Assoc.get_del_other {l : List (Nat × α)} {k j : Nat} (hj : j ≠ k) :
    Assoc.get d (Assoc.del k l) j = Assoc.get d l j := by
  induction l with
  | nil => rfl
  | cons e t ih =>
    simp only [Assoc.del, Assoc.get]
    split
    · rw [ih, if_neg (by omega)]
    · simp only [Assoc.get, ih]

variable [DecidableEq α]

/-- What was written is read. -/
@[simp] theorem Assoc.get_put_same {l : List (Nat × α)} {k : Nat} {v : α} : Assoc.get d (Assoc.put d l k v) k = v := by
  induction l with
  | nil =>
    simp only [Assoc.put]
    split <;> simp_all [Assoc.get]
  | cons e t ih =>
    simp only [Assoc.put]
    split
    · split
      · rename_i hlt hv
        simp only [Assoc.get, if_neg (by omega : ¬ e.1 = k), Assoc.get_del_same, hv]
      · simp [Assoc.get]
    · split
      · split
        · rename_i hv
          simp [hv]
        · simp [Assoc.get]
      · simp only [Assoc.get, if_neg (by omega : ¬ e.1 = k), ih]

/-- Every other key reads as before. -/
theorem Assoc.get_put_other {l : List (Nat × α)} {k j : Nat} {v : α} (hj : j ≠ k) :
    Assoc.get d (Assoc.put d l k v) j = Assoc.get d l j := by
  induction l with
  | nil =>
    simp only [Assoc.put]
    split
    · rfl
    · simp only [Assoc.get, if_neg hj.symm]
  | cons e t ih =>
    simp only [Assoc.put]
    split
    · split
      · simp only [Assoc.get, Assoc.get_del_other hj]
      · simp only [Assoc.get, if_neg hj.symm]
    · split
      · rename_i hk
        split
        · rw [Assoc.get_del_other hj]
          simp only [Assoc.get, if_neg (by omega : ¬ e.1 = j)]
        · simp only [Assoc.get, if_neg hj.symm, if_neg (by omega : ¬ e.1 = j)]
      · simp only [Assoc.get, ih]

/-! ## The canonical form -/

theorem Assoc.wfFrom_mono {l : List (Nat × α)} {a b : Nat} (hab : a ≤ b) (h : Assoc.wfFrom d b l = true) :
    Assoc.wfFrom d a l = true := by
  cases l with
  | nil => rfl
  | cons e t =>
    simp only [Assoc.wfFrom, Bool.and_eq_true, decide_eq_true_eq] at h ⊢
    exact ⟨⟨by omega, h.1.2⟩, h.2⟩

theorem Assoc.wfFrom_del {l : List (Nat × α)} {lo k : Nat} (h : Assoc.wfFrom d lo l = true) :
    Assoc.wfFrom d lo (Assoc.del k l) = true := by
  induction l generalizing lo with
  | nil => rfl
  | cons e t ih =>
    simp only [Assoc.wfFrom, Bool.and_eq_true, decide_eq_true_eq] at h
    simp only [Assoc.del]
    split
    · exact Assoc.wfFrom_mono (by omega) (ih h.2)
    · simp only [Assoc.wfFrom, Bool.and_eq_true, decide_eq_true_eq]
      exact ⟨h.1, ih h.2⟩

/-- A write keeps the canonical form. -/
theorem Assoc.wfFrom_put {l : List (Nat × α)} {lo k : Nat} {v : α} (hk : lo ≤ k) (h : Assoc.wfFrom d lo l = true) :
    Assoc.wfFrom d lo (Assoc.put d l k v) = true := by
  induction l generalizing lo with
  | nil =>
    simp only [Assoc.put]
    split
    · rfl
    · simp_all [Assoc.wfFrom]
  | cons e t ih =>
    simp only [Assoc.wfFrom, Bool.and_eq_true, decide_eq_true_eq] at h
    simp only [Assoc.put]
    split
    · split
      · simp only [Assoc.wfFrom, Bool.and_eq_true, decide_eq_true_eq]
        exact ⟨h.1, Assoc.wfFrom_del h.2⟩
      · simp only [Assoc.wfFrom, Bool.and_eq_true, decide_eq_true_eq]
        exact ⟨⟨hk, by assumption⟩, ⟨by omega, h.1.2⟩, h.2⟩
    · split
      · rename_i hk'
        split
        · exact Assoc.wfFrom_mono (by omega) (Assoc.wfFrom_del h.2)
        · simp only [Assoc.wfFrom, Bool.and_eq_true, decide_eq_true_eq]
          exact ⟨⟨hk, by assumption⟩, hk' ▸ h.2⟩
      · simp only [Assoc.wfFrom, Bool.and_eq_true, decide_eq_true_eq]
        exact ⟨h.1, ih (by omega) h.2⟩

theorem Assoc.wf_put {l : List (Nat × α)} {k : Nat} {v : α} (h : Assoc.wf d l = true) : Assoc.wf d (Assoc.put d l k v) = true :=
  Assoc.wfFrom_put (Nat.zero_le k) h

/-- Taking entries out keeps the canonical form. -/
theorem Assoc.wfFrom_filter {l : List (Nat × α)} {lo : Nat} (p : Nat × α → Bool) (h : Assoc.wfFrom d lo l = true) :
    Assoc.wfFrom d lo (l.filter p) = true := by
  induction l generalizing lo with
  | nil => rfl
  | cons e t ih =>
    simp only [Assoc.wfFrom, Bool.and_eq_true, decide_eq_true_eq] at h
    simp only [List.filter_cons]
    split
    · simp only [Assoc.wfFrom, Bool.and_eq_true, decide_eq_true_eq]
      exact ⟨h.1, ih h.2⟩
    · exact Assoc.wfFrom_mono (by omega) (ih h.2)

theorem Assoc.wf_filter {l : List (Nat × α)} (p : Nat × α → Bool) (h : Assoc.wf d l = true) :
    Assoc.wf d (l.filter p) = true :=
  Assoc.wfFrom_filter p h

/-- Rewriting the values keeps the canonical form. -/
theorem Assoc.wfFrom_mapVals {l : List (Nat × α)} {lo : Nat} (f : Nat → α → α) (h : Assoc.wfFrom d lo l = true) :
    Assoc.wfFrom d lo (Assoc.mapVals d f l) = true := by
  induction l generalizing lo with
  | nil => rfl
  | cons e t ih =>
    simp only [Assoc.wfFrom, Bool.and_eq_true, decide_eq_true_eq] at h
    simp only [Assoc.mapVals]
    split
    · exact Assoc.wfFrom_mono (by omega) (ih h.2)
    · simp only [Assoc.wfFrom, Bool.and_eq_true, decide_eq_true_eq]
      exact ⟨⟨h.1.1, by assumption⟩, ih h.2⟩

end Sys2Proof.Machine
end

