-- ==== Sys2Proof/Laws/State.lean ====
section
/-! SUPPORT. What the named updates of the state leave unchanged: one lemma per field and update. -/

namespace Sys2Proof.Machine

/-! ## State.setReg -/

@[simp] theorem State.setReg_fifos (s : State) (key : Nat) (v : Word) : (s.setReg key v).fifos = s.fifos := rfl
@[simp] theorem State.setReg_latches (s : State) (key : Nat) (v : Word) : (s.setReg key v).latches = s.latches := rfl
@[simp] theorem State.setReg_wrBufs (s : State) (key : Nat) (v : Word) : (s.setReg key v).wrBufs = s.wrBufs := rfl
@[simp] theorem State.setReg_bus (s : State) (key : Nat) (v : Word) : (s.setReg key v).bus = s.bus := rfl
@[simp] theorem State.setReg_lines (s : State) (key : Nat) (v : Word) : (s.setReg key v).lines = s.lines := rfl
@[simp] theorem State.setReg_msixOpen (s : State) (key : Nat) (v : Word) : (s.setReg key v).msixOpen = s.msixOpen := rfl
@[simp] theorem State.setReg_msixPend (s : State) (key : Nat) (v : Word) : (s.setReg key v).msixPend = s.msixPend := rfl
@[simp] theorem State.setReg_msixMsg (s : State) (key : Nat) (v : Word) : (s.setReg key v).msixMsg = s.msixMsg := rfl
@[simp] theorem State.setReg_now (s : State) (key : Nat) (v : Word) : (s.setReg key v).now = s.now := rfl
@[simp] theorem State.setReg_mbox (s : State) (key : Nat) (v : Word) : (s.setReg key v).mbox = s.mbox := rfl
@[simp] theorem State.setReg_mem (s : State) (key : Nat) (v : Word) : (s.setReg key v).mem = s.mem := rfl
@[simp] theorem State.setReg_sent (s : State) (key : Nat) (v : Word) : (s.setReg key v).sent = s.sent := rfl
@[simp] theorem State.setReg_gnss (s : State) (key : Nat) (v : Word) : (s.setReg key v).gnss = s.gnss := rfl
@[simp] theorem State.setReg_time (s : State) (key : Nat) (v : Word) : (s.setReg key v).time = s.time := rfl
@[simp] theorem State.setReg_solv (s : State) (key : Nat) (v : Word) : (s.setReg key v).solv = s.solv := rfl
@[simp] theorem State.setReg_zone (s : State) (key : Nat) (v : Word) : (s.setReg key v).zone = s.zone := rfl
@[simp] theorem State.setReg_plan (s : State) (key : Nat) (v : Word) : (s.setReg key v).plan = s.plan := rfl
@[simp] theorem State.setReg_seg (s : State) (key : Nat) (v : Word) : (s.setReg key v).seg = s.seg := rfl
@[simp] theorem State.setReg_axes (s : State) (key : Nat) (v : Word) : (s.setReg key v).axes = s.axes := rfl
@[simp] theorem State.setReg_ioLost (s : State) (key : Nat) (v : Word) : (s.setReg key v).ioLost = s.ioLost := rfl
@[simp] theorem State.setReg_radio (s : State) (key : Nat) (v : Word) : (s.setReg key v).radio = s.radio := rfl
@[simp] theorem State.setReg_poppy (s : State) (key : Nat) (v : Word) : (s.setReg key v).poppy = s.poppy := rfl
@[simp] theorem State.setReg_sched (s : State) (key : Nat) (v : Word) : (s.setReg key v).sched = s.sched := rfl
@[simp] theorem State.setReg_sw (s : State) (key : Nat) (v : Word) : (s.setReg key v).sw = s.sw := rfl
@[simp] theorem State.setReg_pair (s : State) (key : Nat) (v : Word) : (s.setReg key v).pair = s.pair := rfl
@[simp] theorem State.setReg_keys (s : State) (key : Nat) (v : Word) : (s.setReg key v).keys = s.keys := rfl
@[simp] theorem State.setReg_tamp (s : State) (key : Nat) (v : Word) : (s.setReg key v).tamp = s.tamp := rfl
@[simp] theorem State.setReg_att (s : State) (key : Nat) (v : Word) : (s.setReg key v).att = s.att := rfl
@[simp] theorem State.setReg_pwr (s : State) (key : Nat) (v : Word) : (s.setReg key v).pwr = s.pwr := rfl
@[simp] theorem State.setReg_rst (s : State) (key : Nat) (v : Word) : (s.setReg key v).rst = s.rst := rfl
@[simp] theorem State.setReg_freeCtr (s : State) (key : Nat) (v : Word) : (s.setReg key v).freeCtr = s.freeCtr := rfl
@[simp] theorem State.setReg_pending (s : State) (key : Nat) (v : Word) : (s.setReg key v).pending = s.pending := rfl

/-! ## State.setFifo -/

@[simp] theorem State.setFifo_regs (s : State) (key : Nat) (l : List (List Word)) : (s.setFifo key l).regs = s.regs := rfl
@[simp] theorem State.setFifo_latches (s : State) (key : Nat) (l : List (List Word)) : (s.setFifo key l).latches = s.latches := rfl
@[simp] theorem State.setFifo_wrBufs (s : State) (key : Nat) (l : List (List Word)) : (s.setFifo key l).wrBufs = s.wrBufs := rfl
@[simp] theorem State.setFifo_bus (s : State) (key : Nat) (l : List (List Word)) : (s.setFifo key l).bus = s.bus := rfl
@[simp] theorem State.setFifo_lines (s : State) (key : Nat) (l : List (List Word)) : (s.setFifo key l).lines = s.lines := rfl
@[simp] theorem State.setFifo_msixOpen (s : State) (key : Nat) (l : List (List Word)) : (s.setFifo key l).msixOpen = s.msixOpen := rfl
@[simp] theorem State.setFifo_msixPend (s : State) (key : Nat) (l : List (List Word)) : (s.setFifo key l).msixPend = s.msixPend := rfl
@[simp] theorem State.setFifo_msixMsg (s : State) (key : Nat) (l : List (List Word)) : (s.setFifo key l).msixMsg = s.msixMsg := rfl
@[simp] theorem State.setFifo_now (s : State) (key : Nat) (l : List (List Word)) : (s.setFifo key l).now = s.now := rfl
@[simp] theorem State.setFifo_mbox (s : State) (key : Nat) (l : List (List Word)) : (s.setFifo key l).mbox = s.mbox := rfl
@[simp] theorem State.setFifo_mem (s : State) (key : Nat) (l : List (List Word)) : (s.setFifo key l).mem = s.mem := rfl
@[simp] theorem State.setFifo_sent (s : State) (key : Nat) (l : List (List Word)) : (s.setFifo key l).sent = s.sent := rfl
@[simp] theorem State.setFifo_gnss (s : State) (key : Nat) (l : List (List Word)) : (s.setFifo key l).gnss = s.gnss := rfl
@[simp] theorem State.setFifo_time (s : State) (key : Nat) (l : List (List Word)) : (s.setFifo key l).time = s.time := rfl
@[simp] theorem State.setFifo_solv (s : State) (key : Nat) (l : List (List Word)) : (s.setFifo key l).solv = s.solv := rfl
@[simp] theorem State.setFifo_zone (s : State) (key : Nat) (l : List (List Word)) : (s.setFifo key l).zone = s.zone := rfl
@[simp] theorem State.setFifo_plan (s : State) (key : Nat) (l : List (List Word)) : (s.setFifo key l).plan = s.plan := rfl
@[simp] theorem State.setFifo_seg (s : State) (key : Nat) (l : List (List Word)) : (s.setFifo key l).seg = s.seg := rfl
@[simp] theorem State.setFifo_axes (s : State) (key : Nat) (l : List (List Word)) : (s.setFifo key l).axes = s.axes := rfl
@[simp] theorem State.setFifo_ioLost (s : State) (key : Nat) (l : List (List Word)) : (s.setFifo key l).ioLost = s.ioLost := rfl
@[simp] theorem State.setFifo_radio (s : State) (key : Nat) (l : List (List Word)) : (s.setFifo key l).radio = s.radio := rfl
@[simp] theorem State.setFifo_poppy (s : State) (key : Nat) (l : List (List Word)) : (s.setFifo key l).poppy = s.poppy := rfl
@[simp] theorem State.setFifo_sched (s : State) (key : Nat) (l : List (List Word)) : (s.setFifo key l).sched = s.sched := rfl
@[simp] theorem State.setFifo_sw (s : State) (key : Nat) (l : List (List Word)) : (s.setFifo key l).sw = s.sw := rfl
@[simp] theorem State.setFifo_pair (s : State) (key : Nat) (l : List (List Word)) : (s.setFifo key l).pair = s.pair := rfl
@[simp] theorem State.setFifo_keys (s : State) (key : Nat) (l : List (List Word)) : (s.setFifo key l).keys = s.keys := rfl
@[simp] theorem State.setFifo_tamp (s : State) (key : Nat) (l : List (List Word)) : (s.setFifo key l).tamp = s.tamp := rfl
@[simp] theorem State.setFifo_att (s : State) (key : Nat) (l : List (List Word)) : (s.setFifo key l).att = s.att := rfl
@[simp] theorem State.setFifo_pwr (s : State) (key : Nat) (l : List (List Word)) : (s.setFifo key l).pwr = s.pwr := rfl
@[simp] theorem State.setFifo_rst (s : State) (key : Nat) (l : List (List Word)) : (s.setFifo key l).rst = s.rst := rfl
@[simp] theorem State.setFifo_freeCtr (s : State) (key : Nat) (l : List (List Word)) : (s.setFifo key l).freeCtr = s.freeCtr := rfl
@[simp] theorem State.setFifo_pending (s : State) (key : Nat) (l : List (List Word)) : (s.setFifo key l).pending = s.pending := rfl

/-! ## State.respond -/

@[simp] theorem State.respond_regs (s : State) (data : Nat) (error : Bool) : (s.respond data error).regs = s.regs := rfl
@[simp] theorem State.respond_fifos (s : State) (data : Nat) (error : Bool) : (s.respond data error).fifos = s.fifos := rfl
@[simp] theorem State.respond_latches (s : State) (data : Nat) (error : Bool) : (s.respond data error).latches = s.latches := rfl
@[simp] theorem State.respond_wrBufs (s : State) (data : Nat) (error : Bool) : (s.respond data error).wrBufs = s.wrBufs := rfl
@[simp] theorem State.respond_lines (s : State) (data : Nat) (error : Bool) : (s.respond data error).lines = s.lines := rfl
@[simp] theorem State.respond_msixOpen (s : State) (data : Nat) (error : Bool) : (s.respond data error).msixOpen = s.msixOpen := rfl
@[simp] theorem State.respond_msixPend (s : State) (data : Nat) (error : Bool) : (s.respond data error).msixPend = s.msixPend := rfl
@[simp] theorem State.respond_msixMsg (s : State) (data : Nat) (error : Bool) : (s.respond data error).msixMsg = s.msixMsg := rfl
@[simp] theorem State.respond_now (s : State) (data : Nat) (error : Bool) : (s.respond data error).now = s.now := rfl
@[simp] theorem State.respond_mbox (s : State) (data : Nat) (error : Bool) : (s.respond data error).mbox = s.mbox := rfl
@[simp] theorem State.respond_mem (s : State) (data : Nat) (error : Bool) : (s.respond data error).mem = s.mem := rfl
@[simp] theorem State.respond_sent (s : State) (data : Nat) (error : Bool) : (s.respond data error).sent = s.sent := rfl
@[simp] theorem State.respond_gnss (s : State) (data : Nat) (error : Bool) : (s.respond data error).gnss = s.gnss := rfl
@[simp] theorem State.respond_time (s : State) (data : Nat) (error : Bool) : (s.respond data error).time = s.time := rfl
@[simp] theorem State.respond_solv (s : State) (data : Nat) (error : Bool) : (s.respond data error).solv = s.solv := rfl
@[simp] theorem State.respond_zone (s : State) (data : Nat) (error : Bool) : (s.respond data error).zone = s.zone := rfl
@[simp] theorem State.respond_plan (s : State) (data : Nat) (error : Bool) : (s.respond data error).plan = s.plan := rfl
@[simp] theorem State.respond_seg (s : State) (data : Nat) (error : Bool) : (s.respond data error).seg = s.seg := rfl
@[simp] theorem State.respond_axes (s : State) (data : Nat) (error : Bool) : (s.respond data error).axes = s.axes := rfl
@[simp] theorem State.respond_ioLost (s : State) (data : Nat) (error : Bool) : (s.respond data error).ioLost = s.ioLost := rfl
@[simp] theorem State.respond_radio (s : State) (data : Nat) (error : Bool) : (s.respond data error).radio = s.radio := rfl
@[simp] theorem State.respond_poppy (s : State) (data : Nat) (error : Bool) : (s.respond data error).poppy = s.poppy := rfl
@[simp] theorem State.respond_sched (s : State) (data : Nat) (error : Bool) : (s.respond data error).sched = s.sched := rfl
@[simp] theorem State.respond_sw (s : State) (data : Nat) (error : Bool) : (s.respond data error).sw = s.sw := rfl
@[simp] theorem State.respond_pair (s : State) (data : Nat) (error : Bool) : (s.respond data error).pair = s.pair := rfl
@[simp] theorem State.respond_keys (s : State) (data : Nat) (error : Bool) : (s.respond data error).keys = s.keys := rfl
@[simp] theorem State.respond_tamp (s : State) (data : Nat) (error : Bool) : (s.respond data error).tamp = s.tamp := rfl
@[simp] theorem State.respond_att (s : State) (data : Nat) (error : Bool) : (s.respond data error).att = s.att := rfl
@[simp] theorem State.respond_pwr (s : State) (data : Nat) (error : Bool) : (s.respond data error).pwr = s.pwr := rfl
@[simp] theorem State.respond_rst (s : State) (data : Nat) (error : Bool) : (s.respond data error).rst = s.rst := rfl
@[simp] theorem State.respond_freeCtr (s : State) (data : Nat) (error : Bool) : (s.respond data error).freeCtr = s.freeCtr := rfl
@[simp] theorem State.respond_pending (s : State) (data : Nat) (error : Bool) : (s.respond data error).pending = s.pending := rfl

/-! ## State.setMemByte -/

@[simp] theorem State.setMemByte_regs (s : State) (a : Nat) (v : Byte) : (s.setMemByte a v).regs = s.regs := rfl
@[simp] theorem State.setMemByte_fifos (s : State) (a : Nat) (v : Byte) : (s.setMemByte a v).fifos = s.fifos := rfl
@[simp] theorem State.setMemByte_latches (s : State) (a : Nat) (v : Byte) : (s.setMemByte a v).latches = s.latches := rfl
@[simp] theorem State.setMemByte_wrBufs (s : State) (a : Nat) (v : Byte) : (s.setMemByte a v).wrBufs = s.wrBufs := rfl
@[simp] theorem State.setMemByte_bus (s : State) (a : Nat) (v : Byte) : (s.setMemByte a v).bus = s.bus := rfl
@[simp] theorem State.setMemByte_lines (s : State) (a : Nat) (v : Byte) : (s.setMemByte a v).lines = s.lines := rfl
@[simp] theorem State.setMemByte_msixOpen (s : State) (a : Nat) (v : Byte) : (s.setMemByte a v).msixOpen = s.msixOpen := rfl
@[simp] theorem State.setMemByte_msixPend (s : State) (a : Nat) (v : Byte) : (s.setMemByte a v).msixPend = s.msixPend := rfl
@[simp] theorem State.setMemByte_msixMsg (s : State) (a : Nat) (v : Byte) : (s.setMemByte a v).msixMsg = s.msixMsg := rfl
@[simp] theorem State.setMemByte_now (s : State) (a : Nat) (v : Byte) : (s.setMemByte a v).now = s.now := rfl
@[simp] theorem State.setMemByte_mbox (s : State) (a : Nat) (v : Byte) : (s.setMemByte a v).mbox = s.mbox := rfl
@[simp] theorem State.setMemByte_sent (s : State) (a : Nat) (v : Byte) : (s.setMemByte a v).sent = s.sent := rfl
@[simp] theorem State.setMemByte_gnss (s : State) (a : Nat) (v : Byte) : (s.setMemByte a v).gnss = s.gnss := rfl
@[simp] theorem State.setMemByte_time (s : State) (a : Nat) (v : Byte) : (s.setMemByte a v).time = s.time := rfl
@[simp] theorem State.setMemByte_solv (s : State) (a : Nat) (v : Byte) : (s.setMemByte a v).solv = s.solv := rfl
@[simp] theorem State.setMemByte_zone (s : State) (a : Nat) (v : Byte) : (s.setMemByte a v).zone = s.zone := rfl
@[simp] theorem State.setMemByte_plan (s : State) (a : Nat) (v : Byte) : (s.setMemByte a v).plan = s.plan := rfl
@[simp] theorem State.setMemByte_seg (s : State) (a : Nat) (v : Byte) : (s.setMemByte a v).seg = s.seg := rfl
@[simp] theorem State.setMemByte_axes (s : State) (a : Nat) (v : Byte) : (s.setMemByte a v).axes = s.axes := rfl
@[simp] theorem State.setMemByte_ioLost (s : State) (a : Nat) (v : Byte) : (s.setMemByte a v).ioLost = s.ioLost := rfl
@[simp] theorem State.setMemByte_radio (s : State) (a : Nat) (v : Byte) : (s.setMemByte a v).radio = s.radio := rfl
@[simp] theorem State.setMemByte_poppy (s : State) (a : Nat) (v : Byte) : (s.setMemByte a v).poppy = s.poppy := rfl
@[simp] theorem State.setMemByte_sched (s : State) (a : Nat) (v : Byte) : (s.setMemByte a v).sched = s.sched := rfl
@[simp] theorem State.setMemByte_sw (s : State) (a : Nat) (v : Byte) : (s.setMemByte a v).sw = s.sw := rfl
@[simp] theorem State.setMemByte_pair (s : State) (a : Nat) (v : Byte) : (s.setMemByte a v).pair = s.pair := rfl
@[simp] theorem State.setMemByte_keys (s : State) (a : Nat) (v : Byte) : (s.setMemByte a v).keys = s.keys := rfl
@[simp] theorem State.setMemByte_tamp (s : State) (a : Nat) (v : Byte) : (s.setMemByte a v).tamp = s.tamp := rfl
@[simp] theorem State.setMemByte_att (s : State) (a : Nat) (v : Byte) : (s.setMemByte a v).att = s.att := rfl
@[simp] theorem State.setMemByte_pwr (s : State) (a : Nat) (v : Byte) : (s.setMemByte a v).pwr = s.pwr := rfl
@[simp] theorem State.setMemByte_rst (s : State) (a : Nat) (v : Byte) : (s.setMemByte a v).rst = s.rst := rfl
@[simp] theorem State.setMemByte_freeCtr (s : State) (a : Nat) (v : Byte) : (s.setMemByte a v).freeCtr = s.freeCtr := rfl
@[simp] theorem State.setMemByte_pending (s : State) (a : Nat) (v : Byte) : (s.setMemByte a v).pending = s.pending := rfl

/-! ## State.setLatch -/

@[simp] theorem State.setLatch_regs (s : State) (who : Initiator) (l : Option ReadLatch) : (s.setLatch who l).regs = s.regs := rfl
@[simp] theorem State.setLatch_fifos (s : State) (who : Initiator) (l : Option ReadLatch) : (s.setLatch who l).fifos = s.fifos := rfl
@[simp] theorem State.setLatch_wrBufs (s : State) (who : Initiator) (l : Option ReadLatch) : (s.setLatch who l).wrBufs = s.wrBufs := rfl
@[simp] theorem State.setLatch_bus (s : State) (who : Initiator) (l : Option ReadLatch) : (s.setLatch who l).bus = s.bus := rfl
@[simp] theorem State.setLatch_lines (s : State) (who : Initiator) (l : Option ReadLatch) : (s.setLatch who l).lines = s.lines := rfl
@[simp] theorem State.setLatch_msixOpen (s : State) (who : Initiator) (l : Option ReadLatch) : (s.setLatch who l).msixOpen = s.msixOpen := rfl
@[simp] theorem State.setLatch_msixPend (s : State) (who : Initiator) (l : Option ReadLatch) : (s.setLatch who l).msixPend = s.msixPend := rfl
@[simp] theorem State.setLatch_msixMsg (s : State) (who : Initiator) (l : Option ReadLatch) : (s.setLatch who l).msixMsg = s.msixMsg := rfl
@[simp] theorem State.setLatch_now (s : State) (who : Initiator) (l : Option ReadLatch) : (s.setLatch who l).now = s.now := rfl
@[simp] theorem State.setLatch_mbox (s : State) (who : Initiator) (l : Option ReadLatch) : (s.setLatch who l).mbox = s.mbox := rfl
@[simp] theorem State.setLatch_mem (s : State) (who : Initiator) (l : Option ReadLatch) : (s.setLatch who l).mem = s.mem := rfl
@[simp] theorem State.setLatch_sent (s : State) (who : Initiator) (l : Option ReadLatch) : (s.setLatch who l).sent = s.sent := rfl
@[simp] theorem State.setLatch_gnss (s : State) (who : Initiator) (l : Option ReadLatch) : (s.setLatch who l).gnss = s.gnss := rfl
@[simp] theorem State.setLatch_time (s : State) (who : Initiator) (l : Option ReadLatch) : (s.setLatch who l).time = s.time := rfl
@[simp] theorem State.setLatch_solv (s : State) (who : Initiator) (l : Option ReadLatch) : (s.setLatch who l).solv = s.solv := rfl
@[simp] theorem State.setLatch_zone (s : State) (who : Initiator) (l : Option ReadLatch) : (s.setLatch who l).zone = s.zone := rfl
@[simp] theorem State.setLatch_plan (s : State) (who : Initiator) (l : Option ReadLatch) : (s.setLatch who l).plan = s.plan := rfl
@[simp] theorem State.setLatch_seg (s : State) (who : Initiator) (l : Option ReadLatch) : (s.setLatch who l).seg = s.seg := rfl
@[simp] theorem State.setLatch_axes (s : State) (who : Initiator) (l : Option ReadLatch) : (s.setLatch who l).axes = s.axes := rfl
@[simp] theorem State.setLatch_ioLost (s : State) (who : Initiator) (l : Option ReadLatch) : (s.setLatch who l).ioLost = s.ioLost := rfl
@[simp] theorem State.setLatch_radio (s : State) (who : Initiator) (l : Option ReadLatch) : (s.setLatch who l).radio = s.radio := rfl
@[simp] theorem State.setLatch_poppy (s : State) (who : Initiator) (l : Option ReadLatch) : (s.setLatch who l).poppy = s.poppy := rfl
@[simp] theorem State.setLatch_sched (s : State) (who : Initiator) (l : Option ReadLatch) : (s.setLatch who l).sched = s.sched := rfl
@[simp] theorem State.setLatch_sw (s : State) (who : Initiator) (l : Option ReadLatch) : (s.setLatch who l).sw = s.sw := rfl
@[simp] theorem State.setLatch_pair (s : State) (who : Initiator) (l : Option ReadLatch) : (s.setLatch who l).pair = s.pair := rfl
@[simp] theorem State.setLatch_keys (s : State) (who : Initiator) (l : Option ReadLatch) : (s.setLatch who l).keys = s.keys := rfl
@[simp] theorem State.setLatch_tamp (s : State) (who : Initiator) (l : Option ReadLatch) : (s.setLatch who l).tamp = s.tamp := rfl
@[simp] theorem State.setLatch_att (s : State) (who : Initiator) (l : Option ReadLatch) : (s.setLatch who l).att = s.att := rfl
@[simp] theorem State.setLatch_pwr (s : State) (who : Initiator) (l : Option ReadLatch) : (s.setLatch who l).pwr = s.pwr := rfl
@[simp] theorem State.setLatch_rst (s : State) (who : Initiator) (l : Option ReadLatch) : (s.setLatch who l).rst = s.rst := rfl
@[simp] theorem State.setLatch_freeCtr (s : State) (who : Initiator) (l : Option ReadLatch) : (s.setLatch who l).freeCtr = s.freeCtr := rfl
@[simp] theorem State.setLatch_pending (s : State) (who : Initiator) (l : Option ReadLatch) : (s.setLatch who l).pending = s.pending := rfl

/-! ## State.setWrBuf -/

@[simp] theorem State.setWrBuf_regs (s : State) (who : Initiator) (base : Nat) (words : List (Nat × Word)) : (s.setWrBuf who base words).regs = s.regs := rfl
@[simp] theorem State.setWrBuf_fifos (s : State) (who : Initiator) (base : Nat) (words : List (Nat × Word)) : (s.setWrBuf who base words).fifos = s.fifos := rfl
@[simp] theorem State.setWrBuf_latches (s : State) (who : Initiator) (base : Nat) (words : List (Nat × Word)) : (s.setWrBuf who base words).latches = s.latches := rfl
@[simp] theorem State.setWrBuf_bus (s : State) (who : Initiator) (base : Nat) (words : List (Nat × Word)) : (s.setWrBuf who base words).bus = s.bus := rfl
@[simp] theorem State.setWrBuf_lines (s : State) (who : Initiator) (base : Nat) (words : List (Nat × Word)) : (s.setWrBuf who base words).lines = s.lines := rfl
@[simp] theorem State.setWrBuf_msixOpen (s : State) (who : Initiator) (base : Nat) (words : List (Nat × Word)) : (s.setWrBuf who base words).msixOpen = s.msixOpen := rfl
@[simp] theorem State.setWrBuf_msixPend (s : State) (who : Initiator) (base : Nat) (words : List (Nat × Word)) : (s.setWrBuf who base words).msixPend = s.msixPend := rfl
@[simp] theorem State.setWrBuf_msixMsg (s : State) (who : Initiator) (base : Nat) (words : List (Nat × Word)) : (s.setWrBuf who base words).msixMsg = s.msixMsg := rfl
@[simp] theorem State.setWrBuf_now (s : State) (who : Initiator) (base : Nat) (words : List (Nat × Word)) : (s.setWrBuf who base words).now = s.now := rfl
@[simp] theorem State.setWrBuf_mbox (s : State) (who : Initiator) (base : Nat) (words : List (Nat × Word)) : (s.setWrBuf who base words).mbox = s.mbox := rfl
@[simp] theorem State.setWrBuf_mem (s : State) (who : Initiator) (base : Nat) (words : List (Nat × Word)) : (s.setWrBuf who base words).mem = s.mem := rfl
@[simp] theorem State.setWrBuf_sent (s : State) (who : Initiator) (base : Nat) (words : List (Nat × Word)) : (s.setWrBuf who base words).sent = s.sent := rfl
@[simp] theorem State.setWrBuf_gnss (s : State) (who : Initiator) (base : Nat) (words : List (Nat × Word)) : (s.setWrBuf who base words).gnss = s.gnss := rfl
@[simp] theorem State.setWrBuf_time (s : State) (who : Initiator) (base : Nat) (words : List (Nat × Word)) : (s.setWrBuf who base words).time = s.time := rfl
@[simp] theorem State.setWrBuf_solv (s : State) (who : Initiator) (base : Nat) (words : List (Nat × Word)) : (s.setWrBuf who base words).solv = s.solv := rfl
@[simp] theorem State.setWrBuf_zone (s : State) (who : Initiator) (base : Nat) (words : List (Nat × Word)) : (s.setWrBuf who base words).zone = s.zone := rfl
@[simp] theorem State.setWrBuf_plan (s : State) (who : Initiator) (base : Nat) (words : List (Nat × Word)) : (s.setWrBuf who base words).plan = s.plan := rfl
@[simp] theorem State.setWrBuf_seg (s : State) (who : Initiator) (base : Nat) (words : List (Nat × Word)) : (s.setWrBuf who base words).seg = s.seg := rfl
@[simp] theorem State.setWrBuf_axes (s : State) (who : Initiator) (base : Nat) (words : List (Nat × Word)) : (s.setWrBuf who base words).axes = s.axes := rfl
@[simp] theorem State.setWrBuf_ioLost (s : State) (who : Initiator) (base : Nat) (words : List (Nat × Word)) : (s.setWrBuf who base words).ioLost = s.ioLost := rfl
@[simp] theorem State.setWrBuf_radio (s : State) (who : Initiator) (base : Nat) (words : List (Nat × Word)) : (s.setWrBuf who base words).radio = s.radio := rfl
@[simp] theorem State.setWrBuf_poppy (s : State) (who : Initiator) (base : Nat) (words : List (Nat × Word)) : (s.setWrBuf who base words).poppy = s.poppy := rfl
@[simp] theorem State.setWrBuf_sched (s : State) (who : Initiator) (base : Nat) (words : List (Nat × Word)) : (s.setWrBuf who base words).sched = s.sched := rfl
@[simp] theorem State.setWrBuf_sw (s : State) (who : Initiator) (base : Nat) (words : List (Nat × Word)) : (s.setWrBuf who base words).sw = s.sw := rfl
@[simp] theorem State.setWrBuf_pair (s : State) (who : Initiator) (base : Nat) (words : List (Nat × Word)) : (s.setWrBuf who base words).pair = s.pair := rfl
@[simp] theorem State.setWrBuf_keys (s : State) (who : Initiator) (base : Nat) (words : List (Nat × Word)) : (s.setWrBuf who base words).keys = s.keys := rfl
@[simp] theorem State.setWrBuf_tamp (s : State) (who : Initiator) (base : Nat) (words : List (Nat × Word)) : (s.setWrBuf who base words).tamp = s.tamp := rfl
@[simp] theorem State.setWrBuf_att (s : State) (who : Initiator) (base : Nat) (words : List (Nat × Word)) : (s.setWrBuf who base words).att = s.att := rfl
@[simp] theorem State.setWrBuf_pwr (s : State) (who : Initiator) (base : Nat) (words : List (Nat × Word)) : (s.setWrBuf who base words).pwr = s.pwr := rfl
@[simp] theorem State.setWrBuf_rst (s : State) (who : Initiator) (base : Nat) (words : List (Nat × Word)) : (s.setWrBuf who base words).rst = s.rst := rfl
@[simp] theorem State.setWrBuf_freeCtr (s : State) (who : Initiator) (base : Nat) (words : List (Nat × Word)) : (s.setWrBuf who base words).freeCtr = s.freeCtr := rfl
@[simp] theorem State.setWrBuf_pending (s : State) (who : Initiator) (base : Nat) (words : List (Nat × Word)) : (s.setWrBuf who base words).pending = s.pending := rfl

/-! ## Fields of registers -/

@[simp] theorem State.setF_fifos (s : State) (x : Fld) (v : Nat) : (s.setF x v).fifos = s.fifos := by
  unfold State.setF; split <;> [rfl; (split <;> rfl)]
@[simp] theorem State.setF_latches (s : State) (x : Fld) (v : Nat) : (s.setF x v).latches = s.latches := by
  unfold State.setF; split <;> [rfl; (split <;> rfl)]
@[simp] theorem State.setF_wrBufs (s : State) (x : Fld) (v : Nat) : (s.setF x v).wrBufs = s.wrBufs := by
  unfold State.setF; split <;> [rfl; (split <;> rfl)]
@[simp] theorem State.setF_bus (s : State) (x : Fld) (v : Nat) : (s.setF x v).bus = s.bus := by
  unfold State.setF; split <;> [rfl; (split <;> rfl)]
@[simp] theorem State.setF_lines (s : State) (x : Fld) (v : Nat) : (s.setF x v).lines = s.lines := by
  unfold State.setF; split <;> [rfl; (split <;> rfl)]
@[simp] theorem State.setF_msixOpen (s : State) (x : Fld) (v : Nat) : (s.setF x v).msixOpen = s.msixOpen := by
  unfold State.setF; split <;> [rfl; (split <;> rfl)]
@[simp] theorem State.setF_msixPend (s : State) (x : Fld) (v : Nat) : (s.setF x v).msixPend = s.msixPend := by
  unfold State.setF; split <;> [rfl; (split <;> rfl)]
@[simp] theorem State.setF_msixMsg (s : State) (x : Fld) (v : Nat) : (s.setF x v).msixMsg = s.msixMsg := by
  unfold State.setF; split <;> [rfl; (split <;> rfl)]
@[simp] theorem State.setF_now (s : State) (x : Fld) (v : Nat) : (s.setF x v).now = s.now := by
  unfold State.setF; split <;> [rfl; (split <;> rfl)]
@[simp] theorem State.setF_mbox (s : State) (x : Fld) (v : Nat) : (s.setF x v).mbox = s.mbox := by
  unfold State.setF; split <;> [rfl; (split <;> rfl)]
@[simp] theorem State.setF_mem (s : State) (x : Fld) (v : Nat) : (s.setF x v).mem = s.mem := by
  unfold State.setF; split <;> [rfl; (split <;> rfl)]
@[simp] theorem State.setF_sent (s : State) (x : Fld) (v : Nat) : (s.setF x v).sent = s.sent := by
  unfold State.setF; split <;> [rfl; (split <;> rfl)]
@[simp] theorem State.setF_gnss (s : State) (x : Fld) (v : Nat) : (s.setF x v).gnss = s.gnss := by
  unfold State.setF; split <;> [rfl; (split <;> rfl)]
@[simp] theorem State.setF_time (s : State) (x : Fld) (v : Nat) : (s.setF x v).time = s.time := by
  unfold State.setF; split <;> [rfl; (split <;> rfl)]
@[simp] theorem State.setF_solv (s : State) (x : Fld) (v : Nat) : (s.setF x v).solv = s.solv := by
  unfold State.setF; split <;> [rfl; (split <;> rfl)]
@[simp] theorem State.setF_zone (s : State) (x : Fld) (v : Nat) : (s.setF x v).zone = s.zone := by
  unfold State.setF; split <;> [rfl; (split <;> rfl)]
@[simp] theorem State.setF_plan (s : State) (x : Fld) (v : Nat) : (s.setF x v).plan = s.plan := by
  unfold State.setF; split <;> [rfl; (split <;> rfl)]
@[simp] theorem State.setF_seg (s : State) (x : Fld) (v : Nat) : (s.setF x v).seg = s.seg := by
  unfold State.setF; split <;> [rfl; (split <;> rfl)]
@[simp] theorem State.setF_axes (s : State) (x : Fld) (v : Nat) : (s.setF x v).axes = s.axes := by
  unfold State.setF; split <;> [rfl; (split <;> rfl)]
@[simp] theorem State.setF_ioLost (s : State) (x : Fld) (v : Nat) : (s.setF x v).ioLost = s.ioLost := by
  unfold State.setF; split <;> [rfl; (split <;> rfl)]
@[simp] theorem State.setF_radio (s : State) (x : Fld) (v : Nat) : (s.setF x v).radio = s.radio := by
  unfold State.setF; split <;> [rfl; (split <;> rfl)]
@[simp] theorem State.setF_poppy (s : State) (x : Fld) (v : Nat) : (s.setF x v).poppy = s.poppy := by
  unfold State.setF; split <;> [rfl; (split <;> rfl)]
@[simp] theorem State.setF_sched (s : State) (x : Fld) (v : Nat) : (s.setF x v).sched = s.sched := by
  unfold State.setF; split <;> [rfl; (split <;> rfl)]
@[simp] theorem State.setF_sw (s : State) (x : Fld) (v : Nat) : (s.setF x v).sw = s.sw := by
  unfold State.setF; split <;> [rfl; (split <;> rfl)]
@[simp] theorem State.setF_pair (s : State) (x : Fld) (v : Nat) : (s.setF x v).pair = s.pair := by
  unfold State.setF; split <;> [rfl; (split <;> rfl)]
@[simp] theorem State.setF_keys (s : State) (x : Fld) (v : Nat) : (s.setF x v).keys = s.keys := by
  unfold State.setF; split <;> [rfl; (split <;> rfl)]
@[simp] theorem State.setF_tamp (s : State) (x : Fld) (v : Nat) : (s.setF x v).tamp = s.tamp := by
  unfold State.setF; split <;> [rfl; (split <;> rfl)]
@[simp] theorem State.setF_att (s : State) (x : Fld) (v : Nat) : (s.setF x v).att = s.att := by
  unfold State.setF; split <;> [rfl; (split <;> rfl)]
@[simp] theorem State.setF_pwr (s : State) (x : Fld) (v : Nat) : (s.setF x v).pwr = s.pwr := by
  unfold State.setF; split <;> [rfl; (split <;> rfl)]
@[simp] theorem State.setF_rst (s : State) (x : Fld) (v : Nat) : (s.setF x v).rst = s.rst := by
  unfold State.setF; split <;> [rfl; (split <;> rfl)]
@[simp] theorem State.setF_freeCtr (s : State) (x : Fld) (v : Nat) : (s.setF x v).freeCtr = s.freeCtr := by
  unfold State.setF; split <;> [rfl; (split <;> rfl)]
@[simp] theorem State.setF_pending (s : State) (x : Fld) (v : Nat) : (s.setF x v).pending = s.pending := by
  unfold State.setF; split <;> [rfl; (split <;> rfl)]
@[simp] theorem State.setFlag_fifos (s : State) (x : Fld) (b : Bool) : (s.setFlag x b).fifos = s.fifos := State.setF_fifos s x (bit b)
@[simp] theorem State.setFlag_latches (s : State) (x : Fld) (b : Bool) : (s.setFlag x b).latches = s.latches := State.setF_latches s x (bit b)
@[simp] theorem State.setFlag_wrBufs (s : State) (x : Fld) (b : Bool) : (s.setFlag x b).wrBufs = s.wrBufs := State.setF_wrBufs s x (bit b)
@[simp] theorem State.setFlag_bus (s : State) (x : Fld) (b : Bool) : (s.setFlag x b).bus = s.bus := State.setF_bus s x (bit b)
@[simp] theorem State.setFlag_lines (s : State) (x : Fld) (b : Bool) : (s.setFlag x b).lines = s.lines := State.setF_lines s x (bit b)
@[simp] theorem State.setFlag_msixOpen (s : State) (x : Fld) (b : Bool) : (s.setFlag x b).msixOpen = s.msixOpen := State.setF_msixOpen s x (bit b)
@[simp] theorem State.setFlag_msixPend (s : State) (x : Fld) (b : Bool) : (s.setFlag x b).msixPend = s.msixPend := State.setF_msixPend s x (bit b)
@[simp] theorem State.setFlag_msixMsg (s : State) (x : Fld) (b : Bool) : (s.setFlag x b).msixMsg = s.msixMsg := State.setF_msixMsg s x (bit b)
@[simp] theorem State.setFlag_now (s : State) (x : Fld) (b : Bool) : (s.setFlag x b).now = s.now := State.setF_now s x (bit b)
@[simp] theorem State.setFlag_mbox (s : State) (x : Fld) (b : Bool) : (s.setFlag x b).mbox = s.mbox := State.setF_mbox s x (bit b)
@[simp] theorem State.setFlag_mem (s : State) (x : Fld) (b : Bool) : (s.setFlag x b).mem = s.mem := State.setF_mem s x (bit b)
@[simp] theorem State.setFlag_sent (s : State) (x : Fld) (b : Bool) : (s.setFlag x b).sent = s.sent := State.setF_sent s x (bit b)
@[simp] theorem State.setFlag_gnss (s : State) (x : Fld) (b : Bool) : (s.setFlag x b).gnss = s.gnss := State.setF_gnss s x (bit b)
@[simp] theorem State.setFlag_time (s : State) (x : Fld) (b : Bool) : (s.setFlag x b).time = s.time := State.setF_time s x (bit b)
@[simp] theorem State.setFlag_solv (s : State) (x : Fld) (b : Bool) : (s.setFlag x b).solv = s.solv := State.setF_solv s x (bit b)
@[simp] theorem State.setFlag_zone (s : State) (x : Fld) (b : Bool) : (s.setFlag x b).zone = s.zone := State.setF_zone s x (bit b)
@[simp] theorem State.setFlag_plan (s : State) (x : Fld) (b : Bool) : (s.setFlag x b).plan = s.plan := State.setF_plan s x (bit b)
@[simp] theorem State.setFlag_seg (s : State) (x : Fld) (b : Bool) : (s.setFlag x b).seg = s.seg := State.setF_seg s x (bit b)
@[simp] theorem State.setFlag_axes (s : State) (x : Fld) (b : Bool) : (s.setFlag x b).axes = s.axes := State.setF_axes s x (bit b)
@[simp] theorem State.setFlag_ioLost (s : State) (x : Fld) (b : Bool) : (s.setFlag x b).ioLost = s.ioLost := State.setF_ioLost s x (bit b)
@[simp] theorem State.setFlag_radio (s : State) (x : Fld) (b : Bool) : (s.setFlag x b).radio = s.radio := State.setF_radio s x (bit b)
@[simp] theorem State.setFlag_poppy (s : State) (x : Fld) (b : Bool) : (s.setFlag x b).poppy = s.poppy := State.setF_poppy s x (bit b)
@[simp] theorem State.setFlag_sched (s : State) (x : Fld) (b : Bool) : (s.setFlag x b).sched = s.sched := State.setF_sched s x (bit b)
@[simp] theorem State.setFlag_sw (s : State) (x : Fld) (b : Bool) : (s.setFlag x b).sw = s.sw := State.setF_sw s x (bit b)
@[simp] theorem State.setFlag_pair (s : State) (x : Fld) (b : Bool) : (s.setFlag x b).pair = s.pair := State.setF_pair s x (bit b)
@[simp] theorem State.setFlag_keys (s : State) (x : Fld) (b : Bool) : (s.setFlag x b).keys = s.keys := State.setF_keys s x (bit b)
@[simp] theorem State.setFlag_tamp (s : State) (x : Fld) (b : Bool) : (s.setFlag x b).tamp = s.tamp := State.setF_tamp s x (bit b)
@[simp] theorem State.setFlag_att (s : State) (x : Fld) (b : Bool) : (s.setFlag x b).att = s.att := State.setF_att s x (bit b)
@[simp] theorem State.setFlag_pwr (s : State) (x : Fld) (b : Bool) : (s.setFlag x b).pwr = s.pwr := State.setF_pwr s x (bit b)
@[simp] theorem State.setFlag_rst (s : State) (x : Fld) (b : Bool) : (s.setFlag x b).rst = s.rst := State.setF_rst s x (bit b)
@[simp] theorem State.setFlag_freeCtr (s : State) (x : Fld) (b : Bool) : (s.setFlag x b).freeCtr = s.freeCtr := State.setF_freeCtr s x (bit b)
@[simp] theorem State.setFlag_pending (s : State) (x : Fld) (b : Bool) : (s.setFlag x b).pending = s.pending := State.setF_pending s x (bit b)
@[simp] theorem State.raise_fifos (s : State) (p b : Nat) : (s.raise p b).fifos = s.fifos := State.setF_fifos s _ 1
@[simp] theorem State.raise_latches (s : State) (p b : Nat) : (s.raise p b).latches = s.latches := State.setF_latches s _ 1
@[simp] theorem State.raise_wrBufs (s : State) (p b : Nat) : (s.raise p b).wrBufs = s.wrBufs := State.setF_wrBufs s _ 1
@[simp] theorem State.raise_bus (s : State) (p b : Nat) : (s.raise p b).bus = s.bus := State.setF_bus s _ 1
@[simp] theorem State.raise_lines (s : State) (p b : Nat) : (s.raise p b).lines = s.lines := State.setF_lines s _ 1
@[simp] theorem State.raise_msixOpen (s : State) (p b : Nat) : (s.raise p b).msixOpen = s.msixOpen := State.setF_msixOpen s _ 1
@[simp] theorem State.raise_msixPend (s : State) (p b : Nat) : (s.raise p b).msixPend = s.msixPend := State.setF_msixPend s _ 1
@[simp] theorem State.raise_msixMsg (s : State) (p b : Nat) : (s.raise p b).msixMsg = s.msixMsg := State.setF_msixMsg s _ 1
@[simp] theorem State.raise_now (s : State) (p b : Nat) : (s.raise p b).now = s.now := State.setF_now s _ 1
@[simp] theorem State.raise_mbox (s : State) (p b : Nat) : (s.raise p b).mbox = s.mbox := State.setF_mbox s _ 1
@[simp] theorem State.raise_mem (s : State) (p b : Nat) : (s.raise p b).mem = s.mem := State.setF_mem s _ 1
@[simp] theorem State.raise_sent (s : State) (p b : Nat) : (s.raise p b).sent = s.sent := State.setF_sent s _ 1
@[simp] theorem State.raise_gnss (s : State) (p b : Nat) : (s.raise p b).gnss = s.gnss := State.setF_gnss s _ 1
@[simp] theorem State.raise_time (s : State) (p b : Nat) : (s.raise p b).time = s.time := State.setF_time s _ 1
@[simp] theorem State.raise_solv (s : State) (p b : Nat) : (s.raise p b).solv = s.solv := State.setF_solv s _ 1
@[simp] theorem State.raise_zone (s : State) (p b : Nat) : (s.raise p b).zone = s.zone := State.setF_zone s _ 1
@[simp] theorem State.raise_plan (s : State) (p b : Nat) : (s.raise p b).plan = s.plan := State.setF_plan s _ 1
@[simp] theorem State.raise_seg (s : State) (p b : Nat) : (s.raise p b).seg = s.seg := State.setF_seg s _ 1
@[simp] theorem State.raise_axes (s : State) (p b : Nat) : (s.raise p b).axes = s.axes := State.setF_axes s _ 1
@[simp] theorem State.raise_ioLost (s : State) (p b : Nat) : (s.raise p b).ioLost = s.ioLost := State.setF_ioLost s _ 1
@[simp] theorem State.raise_radio (s : State) (p b : Nat) : (s.raise p b).radio = s.radio := State.setF_radio s _ 1
@[simp] theorem State.raise_poppy (s : State) (p b : Nat) : (s.raise p b).poppy = s.poppy := State.setF_poppy s _ 1
@[simp] theorem State.raise_sched (s : State) (p b : Nat) : (s.raise p b).sched = s.sched := State.setF_sched s _ 1
@[simp] theorem State.raise_sw (s : State) (p b : Nat) : (s.raise p b).sw = s.sw := State.setF_sw s _ 1
@[simp] theorem State.raise_pair (s : State) (p b : Nat) : (s.raise p b).pair = s.pair := State.setF_pair s _ 1
@[simp] theorem State.raise_keys (s : State) (p b : Nat) : (s.raise p b).keys = s.keys := State.setF_keys s _ 1
@[simp] theorem State.raise_tamp (s : State) (p b : Nat) : (s.raise p b).tamp = s.tamp := State.setF_tamp s _ 1
@[simp] theorem State.raise_att (s : State) (p b : Nat) : (s.raise p b).att = s.att := State.setF_att s _ 1
@[simp] theorem State.raise_pwr (s : State) (p b : Nat) : (s.raise p b).pwr = s.pwr := State.setF_pwr s _ 1
@[simp] theorem State.raise_rst (s : State) (p b : Nat) : (s.raise p b).rst = s.rst := State.setF_rst s _ 1
@[simp] theorem State.raise_freeCtr (s : State) (p b : Nat) : (s.raise p b).freeCtr = s.freeCtr := State.setF_freeCtr s _ 1
@[simp] theorem State.raise_pending (s : State) (p b : Nat) : (s.raise p b).pending = s.pending := State.setF_pending s _ 1

/-! ## Counters and error records -/

@[simp] theorem State.bumpBy_fifos (s : State) (x : Fld) (n : Nat) : (s.bumpBy x n).fifos = s.fifos := State.setF_fifos s x _
@[simp] theorem State.bumpBy_latches (s : State) (x : Fld) (n : Nat) : (s.bumpBy x n).latches = s.latches := State.setF_latches s x _
@[simp] theorem State.bumpBy_wrBufs (s : State) (x : Fld) (n : Nat) : (s.bumpBy x n).wrBufs = s.wrBufs := State.setF_wrBufs s x _
@[simp] theorem State.bumpBy_bus (s : State) (x : Fld) (n : Nat) : (s.bumpBy x n).bus = s.bus := State.setF_bus s x _
@[simp] theorem State.bumpBy_lines (s : State) (x : Fld) (n : Nat) : (s.bumpBy x n).lines = s.lines := State.setF_lines s x _
@[simp] theorem State.bumpBy_msixOpen (s : State) (x : Fld) (n : Nat) : (s.bumpBy x n).msixOpen = s.msixOpen := State.setF_msixOpen s x _
@[simp] theorem State.bumpBy_msixPend (s : State) (x : Fld) (n : Nat) : (s.bumpBy x n).msixPend = s.msixPend := State.setF_msixPend s x _
@[simp] theorem State.bumpBy_msixMsg (s : State) (x : Fld) (n : Nat) : (s.bumpBy x n).msixMsg = s.msixMsg := State.setF_msixMsg s x _
@[simp] theorem State.bumpBy_now (s : State) (x : Fld) (n : Nat) : (s.bumpBy x n).now = s.now := State.setF_now s x _
@[simp] theorem State.bumpBy_mbox (s : State) (x : Fld) (n : Nat) : (s.bumpBy x n).mbox = s.mbox := State.setF_mbox s x _
@[simp] theorem State.bumpBy_mem (s : State) (x : Fld) (n : Nat) : (s.bumpBy x n).mem = s.mem := State.setF_mem s x _
@[simp] theorem State.bumpBy_sent (s : State) (x : Fld) (n : Nat) : (s.bumpBy x n).sent = s.sent := State.setF_sent s x _
@[simp] theorem State.bumpBy_gnss (s : State) (x : Fld) (n : Nat) : (s.bumpBy x n).gnss = s.gnss := State.setF_gnss s x _
@[simp] theorem State.bumpBy_time (s : State) (x : Fld) (n : Nat) : (s.bumpBy x n).time = s.time := State.setF_time s x _
@[simp] theorem State.bumpBy_solv (s : State) (x : Fld) (n : Nat) : (s.bumpBy x n).solv = s.solv := State.setF_solv s x _
@[simp] theorem State.bumpBy_zone (s : State) (x : Fld) (n : Nat) : (s.bumpBy x n).zone = s.zone := State.setF_zone s x _
@[simp] theorem State.bumpBy_plan (s : State) (x : Fld) (n : Nat) : (s.bumpBy x n).plan = s.plan := State.setF_plan s x _
@[simp] theorem State.bumpBy_seg (s : State) (x : Fld) (n : Nat) : (s.bumpBy x n).seg = s.seg := State.setF_seg s x _
@[simp] theorem State.bumpBy_axes (s : State) (x : Fld) (n : Nat) : (s.bumpBy x n).axes = s.axes := State.setF_axes s x _
@[simp] theorem State.bumpBy_ioLost (s : State) (x : Fld) (n : Nat) : (s.bumpBy x n).ioLost = s.ioLost := State.setF_ioLost s x _
@[simp] theorem State.bumpBy_radio (s : State) (x : Fld) (n : Nat) : (s.bumpBy x n).radio = s.radio := State.setF_radio s x _
@[simp] theorem State.bumpBy_poppy (s : State) (x : Fld) (n : Nat) : (s.bumpBy x n).poppy = s.poppy := State.setF_poppy s x _
@[simp] theorem State.bumpBy_sched (s : State) (x : Fld) (n : Nat) : (s.bumpBy x n).sched = s.sched := State.setF_sched s x _
@[simp] theorem State.bumpBy_sw (s : State) (x : Fld) (n : Nat) : (s.bumpBy x n).sw = s.sw := State.setF_sw s x _
@[simp] theorem State.bumpBy_pair (s : State) (x : Fld) (n : Nat) : (s.bumpBy x n).pair = s.pair := State.setF_pair s x _
@[simp] theorem State.bumpBy_keys (s : State) (x : Fld) (n : Nat) : (s.bumpBy x n).keys = s.keys := State.setF_keys s x _
@[simp] theorem State.bumpBy_tamp (s : State) (x : Fld) (n : Nat) : (s.bumpBy x n).tamp = s.tamp := State.setF_tamp s x _
@[simp] theorem State.bumpBy_att (s : State) (x : Fld) (n : Nat) : (s.bumpBy x n).att = s.att := State.setF_att s x _
@[simp] theorem State.bumpBy_pwr (s : State) (x : Fld) (n : Nat) : (s.bumpBy x n).pwr = s.pwr := State.setF_pwr s x _
@[simp] theorem State.bumpBy_rst (s : State) (x : Fld) (n : Nat) : (s.bumpBy x n).rst = s.rst := State.setF_rst s x _
@[simp] theorem State.bumpBy_freeCtr (s : State) (x : Fld) (n : Nat) : (s.bumpBy x n).freeCtr = s.freeCtr := State.setF_freeCtr s x _
@[simp] theorem State.bumpBy_pending (s : State) (x : Fld) (n : Nat) : (s.bumpBy x n).pending = s.pending := State.setF_pending s x _
@[simp] theorem State.bump_fifos (s : State) (x : Fld) : (s.bump x).fifos = s.fifos := State.bumpBy_fifos s x 1
@[simp] theorem State.bump_latches (s : State) (x : Fld) : (s.bump x).latches = s.latches := State.bumpBy_latches s x 1
@[simp] theorem State.bump_wrBufs (s : State) (x : Fld) : (s.bump x).wrBufs = s.wrBufs := State.bumpBy_wrBufs s x 1
@[simp] theorem State.bump_bus (s : State) (x : Fld) : (s.bump x).bus = s.bus := State.bumpBy_bus s x 1
@[simp] theorem State.bump_lines (s : State) (x : Fld) : (s.bump x).lines = s.lines := State.bumpBy_lines s x 1
@[simp] theorem State.bump_msixOpen (s : State) (x : Fld) : (s.bump x).msixOpen = s.msixOpen := State.bumpBy_msixOpen s x 1
@[simp] theorem State.bump_msixPend (s : State) (x : Fld) : (s.bump x).msixPend = s.msixPend := State.bumpBy_msixPend s x 1
@[simp] theorem State.bump_msixMsg (s : State) (x : Fld) : (s.bump x).msixMsg = s.msixMsg := State.bumpBy_msixMsg s x 1
@[simp] theorem State.bump_now (s : State) (x : Fld) : (s.bump x).now = s.now := State.bumpBy_now s x 1
@[simp] theorem State.bump_mbox (s : State) (x : Fld) : (s.bump x).mbox = s.mbox := State.bumpBy_mbox s x 1
@[simp] theorem State.bump_mem (s : State) (x : Fld) : (s.bump x).mem = s.mem := State.bumpBy_mem s x 1
@[simp] theorem State.bump_sent (s : State) (x : Fld) : (s.bump x).sent = s.sent := State.bumpBy_sent s x 1
@[simp] theorem State.bump_gnss (s : State) (x : Fld) : (s.bump x).gnss = s.gnss := State.bumpBy_gnss s x 1
@[simp] theorem State.bump_time (s : State) (x : Fld) : (s.bump x).time = s.time := State.bumpBy_time s x 1
@[simp] theorem State.bump_solv (s : State) (x : Fld) : (s.bump x).solv = s.solv := State.bumpBy_solv s x 1
@[simp] theorem State.bump_zone (s : State) (x : Fld) : (s.bump x).zone = s.zone := State.bumpBy_zone s x 1
@[simp] theorem State.bump_plan (s : State) (x : Fld) : (s.bump x).plan = s.plan := State.bumpBy_plan s x 1
@[simp] theorem State.bump_seg (s : State) (x : Fld) : (s.bump x).seg = s.seg := State.bumpBy_seg s x 1
@[simp] theorem State.bump_axes (s : State) (x : Fld) : (s.bump x).axes = s.axes := State.bumpBy_axes s x 1
@[simp] theorem State.bump_ioLost (s : State) (x : Fld) : (s.bump x).ioLost = s.ioLost := State.bumpBy_ioLost s x 1
@[simp] theorem State.bump_radio (s : State) (x : Fld) : (s.bump x).radio = s.radio := State.bumpBy_radio s x 1
@[simp] theorem State.bump_poppy (s : State) (x : Fld) : (s.bump x).poppy = s.poppy := State.bumpBy_poppy s x 1
@[simp] theorem State.bump_sched (s : State) (x : Fld) : (s.bump x).sched = s.sched := State.bumpBy_sched s x 1
@[simp] theorem State.bump_sw (s : State) (x : Fld) : (s.bump x).sw = s.sw := State.bumpBy_sw s x 1
@[simp] theorem State.bump_pair (s : State) (x : Fld) : (s.bump x).pair = s.pair := State.bumpBy_pair s x 1
@[simp] theorem State.bump_keys (s : State) (x : Fld) : (s.bump x).keys = s.keys := State.bumpBy_keys s x 1
@[simp] theorem State.bump_tamp (s : State) (x : Fld) : (s.bump x).tamp = s.tamp := State.bumpBy_tamp s x 1
@[simp] theorem State.bump_att (s : State) (x : Fld) : (s.bump x).att = s.att := State.bumpBy_att s x 1
@[simp] theorem State.bump_pwr (s : State) (x : Fld) : (s.bump x).pwr = s.pwr := State.bumpBy_pwr s x 1
@[simp] theorem State.bump_rst (s : State) (x : Fld) : (s.bump x).rst = s.rst := State.bumpBy_rst s x 1
@[simp] theorem State.bump_freeCtr (s : State) (x : Fld) : (s.bump x).freeCtr = s.freeCtr := State.bumpBy_freeCtr s x 1
@[simp] theorem State.bump_pending (s : State) (x : Fld) : (s.bump x).pending = s.pending := State.bumpBy_pending s x 1
@[simp] theorem State.bumpSat_fifos (s : State) (x : Fld) : (s.bumpSat x).fifos = s.fifos := by unfold State.bumpSat; simp
@[simp] theorem State.bumpSat_latches (s : State) (x : Fld) : (s.bumpSat x).latches = s.latches := by unfold State.bumpSat; simp
@[simp] theorem State.bumpSat_wrBufs (s : State) (x : Fld) : (s.bumpSat x).wrBufs = s.wrBufs := by unfold State.bumpSat; simp
@[simp] theorem State.bumpSat_bus (s : State) (x : Fld) : (s.bumpSat x).bus = s.bus := by unfold State.bumpSat; simp
@[simp] theorem State.bumpSat_lines (s : State) (x : Fld) : (s.bumpSat x).lines = s.lines := by unfold State.bumpSat; simp
@[simp] theorem State.bumpSat_msixOpen (s : State) (x : Fld) : (s.bumpSat x).msixOpen = s.msixOpen := by unfold State.bumpSat; simp
@[simp] theorem State.bumpSat_msixPend (s : State) (x : Fld) : (s.bumpSat x).msixPend = s.msixPend := by unfold State.bumpSat; simp
@[simp] theorem State.bumpSat_msixMsg (s : State) (x : Fld) : (s.bumpSat x).msixMsg = s.msixMsg := by unfold State.bumpSat; simp
@[simp] theorem State.bumpSat_now (s : State) (x : Fld) : (s.bumpSat x).now = s.now := by unfold State.bumpSat; simp
@[simp] theorem State.bumpSat_mbox (s : State) (x : Fld) : (s.bumpSat x).mbox = s.mbox := by unfold State.bumpSat; simp
@[simp] theorem State.bumpSat_mem (s : State) (x : Fld) : (s.bumpSat x).mem = s.mem := by unfold State.bumpSat; simp
@[simp] theorem State.bumpSat_sent (s : State) (x : Fld) : (s.bumpSat x).sent = s.sent := by unfold State.bumpSat; simp
@[simp] theorem State.bumpSat_gnss (s : State) (x : Fld) : (s.bumpSat x).gnss = s.gnss := by unfold State.bumpSat; simp
@[simp] theorem State.bumpSat_time (s : State) (x : Fld) : (s.bumpSat x).time = s.time := by unfold State.bumpSat; simp
@[simp] theorem State.bumpSat_solv (s : State) (x : Fld) : (s.bumpSat x).solv = s.solv := by unfold State.bumpSat; simp
@[simp] theorem State.bumpSat_zone (s : State) (x : Fld) : (s.bumpSat x).zone = s.zone := by unfold State.bumpSat; simp
@[simp] theorem State.bumpSat_plan (s : State) (x : Fld) : (s.bumpSat x).plan = s.plan := by unfold State.bumpSat; simp
@[simp] theorem State.bumpSat_seg (s : State) (x : Fld) : (s.bumpSat x).seg = s.seg := by unfold State.bumpSat; simp
@[simp] theorem State.bumpSat_axes (s : State) (x : Fld) : (s.bumpSat x).axes = s.axes := by unfold State.bumpSat; simp
@[simp] theorem State.bumpSat_ioLost (s : State) (x : Fld) : (s.bumpSat x).ioLost = s.ioLost := by unfold State.bumpSat; simp
@[simp] theorem State.bumpSat_radio (s : State) (x : Fld) : (s.bumpSat x).radio = s.radio := by unfold State.bumpSat; simp
@[simp] theorem State.bumpSat_poppy (s : State) (x : Fld) : (s.bumpSat x).poppy = s.poppy := by unfold State.bumpSat; simp
@[simp] theorem State.bumpSat_sched (s : State) (x : Fld) : (s.bumpSat x).sched = s.sched := by unfold State.bumpSat; simp
@[simp] theorem State.bumpSat_sw (s : State) (x : Fld) : (s.bumpSat x).sw = s.sw := by unfold State.bumpSat; simp
@[simp] theorem State.bumpSat_pair (s : State) (x : Fld) : (s.bumpSat x).pair = s.pair := by unfold State.bumpSat; simp
@[simp] theorem State.bumpSat_keys (s : State) (x : Fld) : (s.bumpSat x).keys = s.keys := by unfold State.bumpSat; simp
@[simp] theorem State.bumpSat_tamp (s : State) (x : Fld) : (s.bumpSat x).tamp = s.tamp := by unfold State.bumpSat; simp
@[simp] theorem State.bumpSat_att (s : State) (x : Fld) : (s.bumpSat x).att = s.att := by unfold State.bumpSat; simp
@[simp] theorem State.bumpSat_pwr (s : State) (x : Fld) : (s.bumpSat x).pwr = s.pwr := by unfold State.bumpSat; simp
@[simp] theorem State.bumpSat_rst (s : State) (x : Fld) : (s.bumpSat x).rst = s.rst := by unfold State.bumpSat; simp
@[simp] theorem State.bumpSat_freeCtr (s : State) (x : Fld) : (s.bumpSat x).freeCtr = s.freeCtr := by unfold State.bumpSat; simp
@[simp] theorem State.bumpSat_pending (s : State) (x : Fld) : (s.bumpSat x).pending = s.pending := by unfold State.bumpSat; simp
@[simp] theorem State.err_fifos (s : State) (p code : Nat) (who : Option Initiator) (addr : Nat) : (s.err p code who addr).fifos = s.fifos := by
  unfold State.err; split <;> simp
@[simp] theorem State.err_latches (s : State) (p code : Nat) (who : Option Initiator) (addr : Nat) : (s.err p code who addr).latches = s.latches := by
  unfold State.err; split <;> simp
@[simp] theorem State.err_wrBufs (s : State) (p code : Nat) (who : Option Initiator) (addr : Nat) : (s.err p code who addr).wrBufs = s.wrBufs := by
  unfold State.err; split <;> simp
@[simp] theorem State.err_bus (s : State) (p code : Nat) (who : Option Initiator) (addr : Nat) : (s.err p code who addr).bus = s.bus := by
  unfold State.err; split <;> simp
@[simp] theorem State.err_lines (s : State) (p code : Nat) (who : Option Initiator) (addr : Nat) : (s.err p code who addr).lines = s.lines := by
  unfold State.err; split <;> simp
@[simp] theorem State.err_msixOpen (s : State) (p code : Nat) (who : Option Initiator) (addr : Nat) : (s.err p code who addr).msixOpen = s.msixOpen := by
  unfold State.err; split <;> simp
@[simp] theorem State.err_msixPend (s : State) (p code : Nat) (who : Option Initiator) (addr : Nat) : (s.err p code who addr).msixPend = s.msixPend := by
  unfold State.err; split <;> simp
@[simp] theorem State.err_msixMsg (s : State) (p code : Nat) (who : Option Initiator) (addr : Nat) : (s.err p code who addr).msixMsg = s.msixMsg := by
  unfold State.err; split <;> simp
@[simp] theorem State.err_now (s : State) (p code : Nat) (who : Option Initiator) (addr : Nat) : (s.err p code who addr).now = s.now := by
  unfold State.err; split <;> simp
@[simp] theorem State.err_mbox (s : State) (p code : Nat) (who : Option Initiator) (addr : Nat) : (s.err p code who addr).mbox = s.mbox := by
  unfold State.err; split <;> simp
@[simp] theorem State.err_mem (s : State) (p code : Nat) (who : Option Initiator) (addr : Nat) : (s.err p code who addr).mem = s.mem := by
  unfold State.err; split <;> simp
@[simp] theorem State.err_sent (s : State) (p code : Nat) (who : Option Initiator) (addr : Nat) : (s.err p code who addr).sent = s.sent := by
  unfold State.err; split <;> simp
@[simp] theorem State.err_gnss (s : State) (p code : Nat) (who : Option Initiator) (addr : Nat) : (s.err p code who addr).gnss = s.gnss := by
  unfold State.err; split <;> simp
@[simp] theorem State.err_time (s : State) (p code : Nat) (who : Option Initiator) (addr : Nat) : (s.err p code who addr).time = s.time := by
  unfold State.err; split <;> simp
@[simp] theorem State.err_solv (s : State) (p code : Nat) (who : Option Initiator) (addr : Nat) : (s.err p code who addr).solv = s.solv := by
  unfold State.err; split <;> simp
@[simp] theorem State.err_zone (s : State) (p code : Nat) (who : Option Initiator) (addr : Nat) : (s.err p code who addr).zone = s.zone := by
  unfold State.err; split <;> simp
@[simp] theorem State.err_plan (s : State) (p code : Nat) (who : Option Initiator) (addr : Nat) : (s.err p code who addr).plan = s.plan := by
  unfold State.err; split <;> simp
@[simp] theorem State.err_seg (s : State) (p code : Nat) (who : Option Initiator) (addr : Nat) : (s.err p code who addr).seg = s.seg := by
  unfold State.err; split <;> simp
@[simp] theorem State.err_axes (s : State) (p code : Nat) (who : Option Initiator) (addr : Nat) : (s.err p code who addr).axes = s.axes := by
  unfold State.err; split <;> simp
@[simp] theorem State.err_ioLost (s : State) (p code : Nat) (who : Option Initiator) (addr : Nat) : (s.err p code who addr).ioLost = s.ioLost := by
  unfold State.err; split <;> simp
@[simp] theorem State.err_radio (s : State) (p code : Nat) (who : Option Initiator) (addr : Nat) : (s.err p code who addr).radio = s.radio := by
  unfold State.err; split <;> simp
@[simp] theorem State.err_poppy (s : State) (p code : Nat) (who : Option Initiator) (addr : Nat) : (s.err p code who addr).poppy = s.poppy := by
  unfold State.err; split <;> simp
@[simp] theorem State.err_sched (s : State) (p code : Nat) (who : Option Initiator) (addr : Nat) : (s.err p code who addr).sched = s.sched := by
  unfold State.err; split <;> simp
@[simp] theorem State.err_sw (s : State) (p code : Nat) (who : Option Initiator) (addr : Nat) : (s.err p code who addr).sw = s.sw := by
  unfold State.err; split <;> simp
@[simp] theorem State.err_pair (s : State) (p code : Nat) (who : Option Initiator) (addr : Nat) : (s.err p code who addr).pair = s.pair := by
  unfold State.err; split <;> simp
@[simp] theorem State.err_keys (s : State) (p code : Nat) (who : Option Initiator) (addr : Nat) : (s.err p code who addr).keys = s.keys := by
  unfold State.err; split <;> simp
@[simp] theorem State.err_tamp (s : State) (p code : Nat) (who : Option Initiator) (addr : Nat) : (s.err p code who addr).tamp = s.tamp := by
  unfold State.err; split <;> simp
@[simp] theorem State.err_att (s : State) (p code : Nat) (who : Option Initiator) (addr : Nat) : (s.err p code who addr).att = s.att := by
  unfold State.err; split <;> simp
@[simp] theorem State.err_pwr (s : State) (p code : Nat) (who : Option Initiator) (addr : Nat) : (s.err p code who addr).pwr = s.pwr := by
  unfold State.err; split <;> simp
@[simp] theorem State.err_rst (s : State) (p code : Nat) (who : Option Initiator) (addr : Nat) : (s.err p code who addr).rst = s.rst := by
  unfold State.err; split <;> simp
@[simp] theorem State.err_freeCtr (s : State) (p code : Nat) (who : Option Initiator) (addr : Nat) : (s.err p code who addr).freeCtr = s.freeCtr := by
  unfold State.err; split <;> simp
@[simp] theorem State.err_pending (s : State) (p code : Nat) (who : Option Initiator) (addr : Nat) : (s.err p code who addr).pending = s.pending := by
  unfold State.err; split <;> simp

end Sys2Proof.Machine
end

