-- ==== Sys2Proof/Laws/Memory.lean ====
section
/-! SUPPORT. Laws of memory and registers: reads after writes, and every write keeps the canonical form. -/

namespace Sys2Proof.Machine

/-! ## Memory -/

theorem State.reset_mem_wf : Memory.wf State.reset.mem.bytes = true := rfl

@[simp] theorem State.memByte_setMemByte_same {s : State} {a : Nat} {v : Byte} : (s.setMemByte a v).memByte a = v :=
  Assoc.get_put_same

theorem State.memByte_setMemByte_other {s : State} {a b : Nat} {v : Byte} (h : b ≠ a) :
    (s.setMemByte a v).memByte b = s.memByte b := Assoc.get_put_other h

theorem State.setMemByte_wf {s : State} {a : Nat} {v : Byte} (h : Memory.wf s.mem.bytes = true) :
    Memory.wf (s.setMemByte a v).mem.bytes = true := Assoc.wf_put h

theorem State.storeLE_wf {s : State} {a n v : Nat} (h : Memory.wf s.mem.bytes = true) :
    Memory.wf (s.storeLE a n v).mem.bytes = true := by
  induction n generalizing s a v with
  | zero => exact h
  | succ n ih => exact ih (State.setMemByte_wf h)

theorem State.storeBytes_wf {s : State} {a : Nat} {l : List Byte} (h : Memory.wf s.mem.bytes = true) :
    Memory.wf (s.storeBytes a l).mem.bytes = true := by
  induction l generalizing s a with
  | nil => exact h
  | cons b bs ih => exact ih (State.setMemByte_wf h)

theorem State.storeWords_wf {s : State} {a : Nat} {l : List Nat} (h : Memory.wf s.mem.bytes = true) :
    Memory.wf (s.storeWords a l).mem.bytes = true := by
  induction l generalizing s a with
  | nil => exact h
  | cons w ws ih => exact ih (State.storeLE_wf h)

theorem State.wipeRange_wf {s : State} {lo hi : Nat} (h : Memory.wf s.mem.bytes = true) :
    Memory.wf (s.wipeRange lo hi).mem.bytes = true := Assoc.wf_filter _ h

/-- A store of bytes leaves every byte outside of them. -/
theorem State.memByte_storeBytes_other {s : State} {a b : Nat} {l : List Byte} (h : b < a ∨ a + l.length ≤ b) :
    (s.storeBytes a l).memByte b = s.memByte b := by
  induction l generalizing s a with
  | nil => rfl
  | cons x xs ih =>
    simp only [List.length_cons] at h
    unfold State.storeBytes
    rw [ih (by omega), State.memByte_setMemByte_other (by omega)]

/-! ## Registers -/

@[simp] theorem State.reg_setReg_same {s : State} {key : Nat} {v : Word} : (s.setReg key v).reg key = v := Assoc.get_put_same

theorem State.reg_setReg_other {s : State} {key j : Nat} {v : Word} (h : j ≠ key) : (s.setReg key v).reg j = s.reg j :=
  Assoc.get_put_other h

theorem State.setReg_wf {s : State} {key : Nat} {v : Word} (h : Assoc.wf resetWord s.regs = true) :
    Assoc.wf resetWord (s.setReg key v).regs = true := Assoc.wf_put h

theorem State.setF_wf {s : State} {f : Fld} {v : Nat} (h : Assoc.wf resetWord s.regs = true) :
    Assoc.wf resetWord (s.setF f v).regs = true := by
  unfold State.setF
  split
  · exact State.setReg_wf h
  · split
    · exact State.setReg_wf h
    · exact State.setReg_wf (State.setReg_wf h)

theorem State.raise_wf {s : State} {p b : Nat} (h : Assoc.wf resetWord s.regs = true) :
    Assoc.wf resetWord (s.raise p b).regs = true := State.setF_wf h

theorem State.bumpBy_wf {s : State} {f : Fld} {n : Nat} (h : Assoc.wf resetWord s.regs = true) :
    Assoc.wf resetWord (s.bumpBy f n).regs = true := State.setF_wf h

theorem State.err_wf {s : State} {p code addr : Nat} {who : Option Initiator} (h : Assoc.wf resetWord s.regs = true) :
    Assoc.wf resetWord (s.err p code who addr).regs = true := by
  unfold State.err
  split
  · exact State.setF_wf h
  · exact State.raise_wf (State.setReg_wf (State.setReg_wf h))

/-! ## The gate -/

/-- Where an access passes the gate, it is carried out with the clock of its register running. -/
theorem State.gate_of_passes {s : State} {who : Initiator} {key sub : Nat} {write : Bool} {k : State → State}
    (h : s.passes who key write = true) : s.gate who key write k sub = k (s.entered key) := by
  unfold State.passes at h
  unfold State.gate
  simp only [Bool.and_eq_true] at h
  obtain ⟨⟨⟨⟨h1, h2⟩, h3⟩, h4⟩, h5⟩ := h
  simp only [Bool.not_eq_true'] at h2 h4
  simp [h1, h2, h3, h4, h5]

/-- A register whose clock runs is accessed in the state the access finds. -/
theorem State.entered_of_opens {s : State} {who : Initiator} {key : Nat} {write : Bool} (h : s.opens who key write = true) :
    s.entered key = s := by
  unfold State.opens at h
  simp only [Bool.and_eq_true, Bool.or_eq_true, decide_eq_true_eq] at h
  unfold State.entered
  split
  · unfold State.clockHold
    rcases h.2 with (h | h) | h
    · omega
    · simp [h]
    · simp [h]
  · rfl

theorem State.passes_of_opens {s : State} {who : Initiator} {key : Nat} {write : Bool} (h : s.opens who key write = true) :
    s.passes who key write = true := by
  unfold State.opens at h
  exact (Bool.and_eq_true _ _ ▸ h).1

/-- Where an access passes the gate and finds its register's clock running, it is carried out in the state it finds. -/
theorem State.gate_of_opens {s : State} {who : Initiator} {key sub : Nat} {write : Bool} {k : State → State}
    (h : s.opens who key write = true) : s.gate who key write k sub = k s := by
  rw [State.gate_of_passes (State.passes_of_opens h), State.entered_of_opens h]

/-- A command register's write that passes the gate has its own effect, and the initiator sees an answer without error. -/
theorem State.command_of_opens {s : State} {who : Initiator} {key : Nat} {k : State → State} (h : s.opens who key true = true) :
    s.command who key k = (k s).respond 0 false := State.gate_of_opens h

/-- What an access that does not pass the gate does: nothing, an error record, and an answer. -/
theorem State.gate_of_closed {s : State} {who : Initiator} {key sub : Nat} {write : Bool} {k : State → State}
    (h : s.passes who key write = false) :
    s.gate who key write k sub = s ∨
      (∃ data error, s.gate who key write k sub = s.respond data error) ∨
      ∃ p code data error, s.gate who key write k sub = (s.err p code (some who) (regAddr key + sub)).respond data error := by
  unfold State.gate
  split
  · exact .inl rfl
  · split
    · exact .inr (.inl ⟨_, _, rfl⟩)
    · dsimp only
      split
      · exact .inr (.inr ⟨_, _, _, _, rfl⟩)
      · split
        · exact .inr (.inr ⟨_, _, _, _, rfl⟩)
        · split
          · exact .inr (.inr ⟨_, _, _, _, rfl⟩)
          · simp_all [State.passes]

end Sys2Proof.Machine
end

