-- ==== Sys2Proof/Laws/Bits.lean ====
section
/-! SUPPORT. Laws of bit fields: a field reads as what was written to it, and a write of one field leaves the others. -/

namespace Sys2Proof.Machine

/-- A number split at a field. -/
theorem splitAtField (v hi lo : Nat) (h : lo ≤ hi) :
    v = v / 2 ^ (hi + 1) * 2 ^ (hi + 1) + bitsOf v hi lo * 2 ^ lo + v % 2 ^ lo := by
  have e : 2 ^ (hi + 1) = 2 ^ lo * 2 ^ (hi + 1 - lo) := by rw [← Nat.pow_add]; congr 1; omega
  have h1 : v = 2 ^ lo * (v / 2 ^ lo) + v % 2 ^ lo := (Nat.div_add_mod v (2 ^ lo)).symm
  have h2 : v / 2 ^ lo = 2 ^ (hi + 1 - lo) * (v / 2 ^ lo / 2 ^ (hi + 1 - lo)) + bitsOf v hi lo :=
    (Nat.div_add_mod (v / 2 ^ lo) (2 ^ (hi + 1 - lo))).symm
  have h3 : v / 2 ^ (hi + 1) = v / 2 ^ lo / 2 ^ (hi + 1 - lo) := by rw [e, Nat.div_div_eq_div_mul]
  rw [h3]
  have h4 : 2 ^ lo * (v / 2 ^ lo) =
      v / 2 ^ lo / 2 ^ (hi + 1 - lo) * 2 ^ (hi + 1) + bitsOf v hi lo * 2 ^ lo := by
    conv_lhs => rw [h2]
    rw [e]; ring
  omega

theorem setBits_eq (v hi lo x : Nat) (h : lo ≤ hi) :
    setBits v hi lo x = v / 2 ^ (hi + 1) * 2 ^ (hi + 1) + x % 2 ^ (hi + 1 - lo) * 2 ^ lo + v % 2 ^ lo := by
  have := splitAtField v hi lo h
  unfold setBits
  omega

theorem field_lt (hi lo x r : Nat) (h : lo ≤ hi) (hr : r < 2 ^ lo) : x % 2 ^ (hi + 1 - lo) * 2 ^ lo + r < 2 ^ (hi + 1) := by
  have e : 2 ^ (hi + 1) = 2 ^ (hi + 1 - lo) * 2 ^ lo := by rw [← Nat.pow_add]; congr 1; omega
  have h1 : x % 2 ^ (hi + 1 - lo) < 2 ^ (hi + 1 - lo) := Nat.mod_lt _ (by positivity)
  have h2 : x % 2 ^ (hi + 1 - lo) * 2 ^ lo + 2 ^ lo ≤ 2 ^ (hi + 1 - lo) * 2 ^ lo := by
    rw [← Nat.succ_mul]; exact Nat.mul_le_mul_right _ h1
  omega

/-- A field reads as what was written to it. -/
theorem bitsOf_setBits_same (v hi lo x : Nat) (h : lo ≤ hi) : bitsOf (setBits v hi lo x) hi lo = x % 2 ^ (hi + 1 - lo) := by
  have e : 2 ^ (hi + 1) = 2 ^ lo * 2 ^ (hi + 1 - lo) := by rw [← Nat.pow_add]; congr 1; omega
  have hr : v % 2 ^ lo < 2 ^ lo := Nat.mod_lt _ (by positivity)
  rw [setBits_eq v hi lo x h]
  unfold bitsOf
  have h1 : v / 2 ^ (hi + 1) * 2 ^ (hi + 1) + x % 2 ^ (hi + 1 - lo) * 2 ^ lo + v % 2 ^ lo =
      v % 2 ^ lo + 2 ^ lo * (2 ^ (hi + 1 - lo) * (v / 2 ^ (hi + 1)) + x % 2 ^ (hi + 1 - lo)) := by rw [e]; ring
  rw [h1, Nat.add_mul_div_left _ _ (by positivity), Nat.div_eq_of_lt hr, Nat.zero_add, Nat.mul_add_mod,
    Nat.mod_mod]

theorem setBits_lt (v hi lo x w : Nat) (h : lo ≤ hi) (hw : hi < w) (hv : v < 2 ^ w) : setBits v hi lo x < 2 ^ w := by
  rw [setBits_eq v hi lo x h]
  have hf := field_lt hi lo x (v % 2 ^ lo) h (Nat.mod_lt _ (by positivity))
  have e : 2 ^ w = 2 ^ (w - (hi + 1)) * 2 ^ (hi + 1) := by rw [← Nat.pow_add]; congr 1; omega
  have hq : v / 2 ^ (hi + 1) < 2 ^ (w - (hi + 1)) := by
    rw [Nat.div_lt_iff_lt_mul (by positivity), ← e]; exact hv
  have : v / 2 ^ (hi + 1) * 2 ^ (hi + 1) + 2 ^ (hi + 1) ≤ 2 ^ w := by
    rw [e, ← Nat.succ_mul]; exact Nat.mul_le_mul_right _ hq
  omega

/-- A field below the one written. -/
theorem bitsOf_setBits_below (v hi lo x hi' lo' : Nat) (h : lo ≤ hi) (hd : hi' < lo) (h' : lo' ≤ hi') :
    bitsOf (setBits v hi lo x) hi' lo' = bitsOf v hi' lo' := by
  have key : ∀ u : Nat, bitsOf u hi' lo' = u % 2 ^ lo / 2 ^ lo' % 2 ^ (hi' + 1 - lo') := by
    intro u
    have e : (2 : Nat) ^ lo = 2 ^ lo' * 2 ^ (lo - lo') := by rw [← Nat.pow_add]; congr 1; omega
    unfold bitsOf
    rw [e, Nat.mod_mul_right_div_self, Nat.mod_mod_of_dvd]
    exact Nat.pow_dvd_pow 2 (by omega)
  have hm : setBits v hi lo x % 2 ^ lo = v % 2 ^ lo := by
    rw [setBits_eq v hi lo x h]
    have e : (2 : Nat) ^ (hi + 1) = 2 ^ lo * 2 ^ (hi + 1 - lo) := by rw [← Nat.pow_add]; congr 1; omega
    have h1 : v / 2 ^ (hi + 1) * 2 ^ (hi + 1) + x % 2 ^ (hi + 1 - lo) * 2 ^ lo + v % 2 ^ lo =
        v % 2 ^ lo + 2 ^ lo * (2 ^ (hi + 1 - lo) * (v / 2 ^ (hi + 1)) + x % 2 ^ (hi + 1 - lo)) := by rw [e]; ring
    rw [h1, Nat.add_mul_mod_self_left, Nat.mod_mod]
  rw [key, key, hm]

/-- A field above the one written. -/
theorem bitsOf_setBits_above (v hi lo x hi' lo' : Nat) (h : lo ≤ hi) (hd : hi < lo') :
    bitsOf (setBits v hi lo x) hi' lo' = bitsOf v hi' lo' := by
  have key : ∀ u : Nat, u / 2 ^ lo' = u / 2 ^ (hi + 1) / 2 ^ (lo' - (hi + 1)) := by
    intro u
    rw [Nat.div_div_eq_div_mul, ← Nat.pow_add]
    congr 2; omega
  have hm : setBits v hi lo x / 2 ^ (hi + 1) = v / 2 ^ (hi + 1) := by
    rw [setBits_eq v hi lo x h]
    have hf := field_lt hi lo x (v % 2 ^ lo) h (Nat.mod_lt _ (by positivity))
    rw [Nat.add_assoc, Nat.mul_comm, Nat.mul_add_div (by positivity), Nat.div_eq_of_lt hf, Nat.add_zero]
  unfold bitsOf
  rw [key, key, hm]

/-- A field of one word reads as what was written to it. -/
theorem State.getF_setF_same {s : State} {f : Fld} {v : Nat} (h : f.lo ≤ f.hi) (h32 : f.hi < 32) :
    (s.setF f v).getF f = v % 2 ^ f.width := by
  have hw : f.width = f.hi + 1 - f.lo := by unfold Fld.width; omega
  have hlt := setBits_lt (s.reg f.key).toNat f.hi f.lo v 32 h h32 (s.reg f.key).isLt
  unfold State.getF State.setF
  rw [if_pos h32, if_pos h32, State.reg_setReg_same, BitVec.toNat_ofNat, Nat.mod_eq_of_lt hlt, bitsOf_setBits_same _ _ _ _ h, hw]

/-- A field of another word reads as before. -/
theorem State.getF_setF_otherWord {s : State} {f g : Fld} {v : Nat} (hf : f.hi < 32) (hg : g.hi < 32) (h : g.key ≠ f.key) :
    (s.setF f v).getF g = s.getF g := by
  unfold State.getF State.setF
  rw [if_pos hf, if_pos hg, if_pos hg, State.reg_setReg_other h]

/-- Another field of the same word reads as before. -/
theorem State.getF_setF_otherBits {s : State} {f g : Fld} {v : Nat} (hf : f.hi < 32) (hg : g.hi < 32) (hfl : f.lo ≤ f.hi)
    (hgl : g.lo ≤ g.hi) (hk : g.key = f.key) (hd : g.hi < f.lo ∨ f.hi < g.lo) : (s.setF f v).getF g = s.getF g := by
  have hlt := setBits_lt (s.reg f.key).toNat f.hi f.lo v 32 hfl hf (s.reg f.key).isLt
  unfold State.getF State.setF
  rw [if_pos hf, if_pos hg, if_pos hg, hk, State.reg_setReg_same, BitVec.toNat_ofNat, Nat.mod_eq_of_lt hlt]
  rcases hd with hd | hd
  · exact bitsOf_setBits_below _ _ _ _ _ _ hfl hd hgl
  · exact bitsOf_setBits_above _ _ _ _ _ _ hfl hd

end Sys2Proof.Machine
end

