-- ==== Sys2Proof/Laws/Clients.lean ====
section
/-! SUPPORT. Clients of the DTU in Bare mode (15_memory_and_dma.md R459, R463): where no word is bad, their accesses to general SRAM
reach the memory as they stand. -/

namespace Sys2Proof.Machine

/-- A state with no bad word, in which a client other than the DMA engine is in Bare mode. -/
def State.bare (s : State) (c i : Nat) : Prop :=
  c ≠ 0 ∧ s.mem.ecc = [] ∧ (8 ≤ s.clientCtx c i ∨ s.getF (F.DTU_CTRL_MODE (s.clientCtx c i)) = 0)

/-- `n` bytes at `a` lie in general SRAM. -/
def inGeneral (a n : Nat) : Prop := 0x13800000 ≤ a ∧ a + n ≤ 0x13E00000

theorem State.region_general {s : State} {a : Nat} (h : inGeneral a 1) : s.region a = .general := by
  unfold inGeneral at h
  unfold State.region
  repeat rw [if_neg (by omega)]
  exact if_pos (by omega)

/-- A Bare client's address in general SRAM stands as it is. -/
theorem State.clientAddr_bare {s : State} {c i va : Nat} {w : Bool} (h : s.bare c i) (hr : inGeneral va 1) :
    s.clientAddr c i va w = (.inr va, s) := by
  obtain ⟨hc, -, hm⟩ := h
  have hg := State.region_general (s := s) hr
  have hmod : va % 2 ^ 64 = va := Nat.mod_eq_of_lt (by unfold inGeneral at hr; omega)
  unfold State.clientAddr State.translate State.lpddrTouch
  simp only [if_pos hm, hmod, hg, if_neg hc, Region.deviceMay, if_true]
  simp

theorem State.eccRead_clean {s : State} {a n : Nat} {m : Option Nat} (h : s.mem.ecc = []) : s.eccRead a n m = (false, s) := by
  simp [State.eccRead, State.badWords, h]

theorem State.physBytes_append (s : State) (a m n : Nat) : s.physBytes a (m + n) = s.physBytes a m ++ s.physBytes (a + m) n := by
  induction m generalizing a with
  | zero => simp [State.physBytes]
  | succ m ih =>
    rw [Nat.succ_add, State.physBytes, State.physBytes, ih, List.cons_append, Nat.add_assoc, Nat.add_comm 1 m]

/-- A Bare client's read of general SRAM gives its bytes and changes nothing. -/
theorem State.clientReadPages_bare {s : State} {c i p va n : Nat} (h : s.bare c i) (hr : inGeneral va n)
    (hp : n ≤ p * 0x1000 - va % 0x1000) : s.clientReadPages c i p va n = (⟨s.physBytes va n, none, false⟩, s) := by
  induction p generalizing va n with
  | zero =>
    obtain rfl : n = 0 := by omega
    rfl
  | succ p ih =>
    unfold State.clientReadPages
    split
    · next hn => subst hn; rfl
    · next hn =>
      have hr1 : inGeneral va 1 := by unfold inGeneral at *; omega
      have hb : n ≤ 0x1000 - va % 0x1000 ∨ 0x1000 - va % 0x1000 < n := le_or_gt _ _
      simp only [State.clientAddr_bare h hr1, State.eccRead_clean h.2.1]
      rcases hb with hb | hb
      · rw [Nat.min_eq_left hb, Nat.sub_self]
        cases p <;> simp [State.clientReadPages]
      · rw [Nat.min_eq_right (Nat.le_of_lt hb), ih (by unfold inGeneral at *; omega)
          (by rw [show (va + (0x1000 - va % 0x1000)) % 0x1000 = 0 by omega]; omega)]
        simp only [Bool.false_or, ← State.physBytes_append]
        congr 3
        omega

theorem State.clientRead_bare {s : State} {c i va n : Nat} (h : s.bare c i) (hr : inGeneral va n) :
    s.clientRead c i va n = (⟨s.physBytes va n, none, false⟩, s) :=
  State.clientReadPages_bare h hr (by omega)

theorem State.physWrite_clean {s : State} {a : Nat} {b : List Byte} (h : s.mem.ecc = []) : s.physWrite a b = s.storeBytes a b := by
  have e : ({ s with mem := { s.mem with ecc := [] } } : State) = s := by
    conv_lhs => rw [← h]
  simp [State.physWrite, State.badWords, h, e]

theorem State.storeBytes_only (s : State) (a : Nat) (b : List Byte) :
    s.storeBytes a b = { s with mem := { s.mem with bytes := (s.storeBytes a b).mem.bytes } } := by
  induction b generalizing s a with
  | nil => rfl
  | cons x xs ih =>
    unfold State.storeBytes
    rw [ih]
    rfl

theorem State.storeBytes_bare {s : State} {a c i : Nat} {b : List Byte} (h : s.bare c i) : (s.storeBytes a b).bare c i := by
  rw [State.storeBytes_only]
  exact h

theorem State.storeBytes_append (s : State) (a : Nat) (b d : List Byte) :
    s.storeBytes a (b ++ d) = (s.storeBytes a b).storeBytes (a + b.length) d := by
  induction b generalizing s a with
  | nil => rfl
  | cons x xs ih =>
    simp only [List.cons_append, State.storeBytes, ih, List.length_cons]
    congr 1
    omega

/-- A Bare client's write of general SRAM stores its bytes and changes nothing else. -/
theorem State.clientWritePages_bare {s : State} {c i p va : Nat} {b : List Byte} (h : s.bare c i) (hr : inGeneral va b.length)
    (hp : b.length ≤ p * 0x1000 - va % 0x1000) : s.clientWritePages c i p va b = (none, s.storeBytes va b) := by
  induction p generalizing s va b with
  | zero =>
    obtain rfl : b = [] := List.eq_nil_of_length_eq_zero (by omega)
    rfl
  | succ p ih =>
    unfold State.clientWritePages
    split
    · next hn => rw [List.isEmpty_iff.mp hn]; rfl
    · next hn =>
      have hl : 0 < b.length := List.length_pos_iff.mpr (fun e => hn (by simp [e]))
      have hr1 : inGeneral va 1 := by unfold inGeneral at *; omega
      simp only [State.clientAddr_bare h hr1, State.physWrite_clean h.2.1]
      have hd : (b.drop (0x1000 - va % 0x1000)).length = b.length - (0x1000 - va % 0x1000) := List.length_drop
      rw [ih (State.storeBytes_bare h)]
      · congr 1
        conv_rhs => rw [← List.take_append_drop (0x1000 - va % 0x1000) b, State.storeBytes_append]
        rcases le_or_gt (0x1000 - va % 0x1000) b.length with hb | hb
        · rw [List.length_take, Nat.min_eq_left hb]
        · rw [List.drop_of_length_le (Nat.le_of_lt hb)]; rfl
      · unfold inGeneral at *; omega
      · omega

theorem State.clientWrite_bare {s : State} {c i va : Nat} {b : List Byte} (h : s.bare c i) (hr : inGeneral va b.length) :
    s.clientWrite c i va b = (none, s.storeBytes va b) :=
  State.clientWritePages_bare h hr (by omega)

/-! ## What a store of bytes reads as -/

theorem State.physBytes_length (s : State) (a n : Nat) : (s.physBytes a n).length = n := by
  induction n generalizing a with
  | zero => rfl
  | succ n ih => simp [State.physBytes, ih]

theorem State.physByte_general {s : State} {a : Nat} (h : inGeneral a 1) : s.physByte a = s.memByte a := by
  unfold inGeneral at h
  unfold State.physByte
  rw [if_neg (by omega), if_neg (by omega)]

theorem State.physBytes_congr {s t : State} (h : t.mem = s.mem) (a n : Nat) : t.physBytes a n = s.physBytes a n := by
  induction n generalizing a with
  | zero => rfl
  | succ n ih =>
    simp only [State.physBytes, ih]
    unfold State.physByte State.flashByte State.memByte
    rw [h]

/-- Bytes elsewhere than a store read as before. -/
theorem State.physBytes_storeBytes_other {s : State} {a n b : Nat} {l : List Byte} (hr : inGeneral a n)
    (h : a + n ≤ b ∨ b + l.length ≤ a) : (s.storeBytes b l).physBytes a n = s.physBytes a n := by
  induction n generalizing a with
  | zero => rfl
  | succ n ih =>
    have hr1 : inGeneral a 1 := by unfold inGeneral at *; omega
    rw [State.physBytes, State.physBytes, ih (by unfold inGeneral at *; omega) (by omega), State.physByte_general hr1,
      State.physByte_general hr1, State.memByte_storeBytes_other (by omega)]

/-- The bytes stored read back. -/
theorem State.physBytes_storeBytes_same {s : State} {a : Nat} {l : List Byte} (hr : inGeneral a l.length) :
    (s.storeBytes a l).physBytes a l.length = l := by
  induction l generalizing s a with
  | nil => rfl
  | cons x xs ih =>
    have hr' : inGeneral a (xs.length + 1) := hr
    rw [List.length_cons, State.physBytes, State.storeBytes, ih (by unfold inGeneral at *; omega),
      State.physByte_general (by unfold inGeneral at *; omega), State.memByte_storeBytes_other (.inl (by omega)),
      State.memByte_setMemByte_same]

end Sys2Proof.Machine
end

