-- ==== Sys2Proof/Laws/Messages.lean ====
section
/-! SUPPORT. How a message of the cascade arrives: digests have their length, seven bytes to a word read back, packets are taken whole,
a single right fragment is a message. -/

namespace Sys2Proof.Machine

/-! ## Digests -/

theorem bytesLE_length (v n : Nat) : (bytesLE v n).length = n := by
  induction n generalizing v with
  | zero => rfl
  | succ n ih => simp [bytesLE, ih]

theorem bytesBE_length (v n : Nat) : (bytesBE v n).length = n := by simp [bytesBE, bytesLE_length]

theorem shaRound_length {w : Nat} (r : ShaRot) (v : List (BitVec w)) (k : BitVec w × BitVec w) : (shaRound r v k).length = v.length := by
  unfold shaRound; split <;> rfl

theorem shaRounds_length {w : Nat} (r : ShaRot) (ks : List (BitVec w × BitVec w)) (v : List (BitVec w)) :
    (ks.foldl (shaRound r) v).length = v.length := by
  induction ks generalizing v with
  | nil => rfl
  | cons k ks ih => simp [ih, shaRound_length]

theorem shaBlocks_length {w : Nat} (r : ShaRot) (k : List (BitVec w)) (n : Nat) (h : List (BitVec w)) (l : List Byte) :
    (shaBlocks r k n h l).length = h.length := by
  induction n generalizing h l with
  | zero => rfl
  | succ n ih => simp [shaBlocks, ih, shaRounds_length]

theorem words_length (l : List (BitVec 32)) : (l.flatMap fun x => bytesBE x.toNat 4).length = 4 * l.length := by
  induction l with
  | nil => rfl
  | cons x l ih => simp [bytesBE_length, ih]; omega

theorem sha256_length (l : List Byte) : (sha256 l).length = 32 := by
  unfold sha256
  rw [words_length, shaBlocks_length]; rfl

theorem hmac256_length (key msg : List Byte) : (hmac256 key msg).length = 32 := by simp [hmac256, sha256_length]

/-! ## Bytes in words -/

theorem bytesLE_leValue (l : List Byte) (n : Nat) (h : l.length ≤ n) :
    bytesLE (leValue l) n = l ++ List.replicate (n - l.length) 0 := by
  induction l generalizing n with
  | nil =>
    have z (m : Nat) : bytesLE 0 m = List.replicate m 0 := by
      induction m with
      | zero => rfl
      | succ m ih => simp [bytesLE, ih, List.replicate_succ]
    simpa [leValue] using z n
  | cons b l ih =>
    obtain ⟨n, rfl⟩ : ∃ m, n = m + 1 := ⟨n - 1, by simp at h; omega⟩
    have h1 : BitVec.ofNat 8 (b.toNat + 256 * leValue l) = b := by
      apply BitVec.eq_of_toNat_eq; simp; have := b.isLt; omega
    have h2 : (b.toNat + 256 * leValue l) / 256 = leValue l := by have := b.isLt; omega
    simp only [leValue, bytesLE, h1, h2, ih n (by simpa using h), List.length_cons, List.cons_append, Nat.add_sub_add_right]

theorem leValue_lt (l : List Byte) : leValue l < 256 ^ l.length := by
  induction l with
  | nil => simp [leValue]
  | cons b l ih => simp only [leValue, List.length_cons, Nat.pow_succ]; have := b.isLt; omega

theorem chunks7_bytes (k : Nat) (l : List Byte) (h : l.length ≤ 7 * k) :
    (((chunks 7 k l).map leValue).flatMap fun p => bytesLE p 7) = l ++ List.replicate (7 * k - l.length) 0 := by
  induction k generalizing l with
  | zero => simp at h; simp [chunks, h]
  | succ k ih =>
    have e := ih (l.drop 7) (by simp; omega)
    simp only [chunks, List.map_cons, List.flatMap_cons, e]
    rw [bytesLE_leValue _ 7 (by simp)]
    by_cases hl : 7 ≤ l.length
    · rw [List.length_take, Nat.min_eq_left hl, List.length_drop, List.append_assoc]
      simp only [Nat.sub_self, List.replicate_zero, List.nil_append, ← List.append_assoc, List.take_append_drop]
      congr 2; omega
    · have h1 : l.take 7 = l := List.take_of_length_le (by omega)
      have h2 : l.drop 7 = [] := List.drop_of_length_le (by omega)
      rw [h1, h2, List.append_assoc]
      simp only [List.nil_append, List.length_nil, List.replicate_append_replicate]
      congr 2; omega

/-- Bytes packed seven to a word read back. -/
theorem unpack7_pack7 (l : List Byte) : unpack7 l.length (pack7 l) = l := by
  unfold unpack7 pack7
  rw [chunks7_bytes _ _ (by omega)]
  simp

theorem pack7_lt (l : List Byte) : ∀ p ∈ pack7 l, p < 2 ^ 56 := by
  intro p hp
  unfold pack7 at hp
  obtain ⟨c, hc, rfl⟩ := List.mem_map.1 hp
  have h (k : Nat) (l : List Byte) : ∀ c ∈ chunks 7 k l, c.length ≤ 7 := by
    induction k generalizing l with
    | zero => simp [chunks]
    | succ k ih =>
      intro c hc
      rcases List.mem_cons.1 hc with rfl | hc
      · simp
      · exact ih _ _ hc
  exact Nat.lt_of_lt_of_le (leValue_lt c) (by
    have := Nat.pow_le_pow_right (n := 256) (by decide) (h _ _ _ hc)
    simpa using this)

/-! ## Packets -/

/-- The words of a packet of payloads: tag 1, the last one 3. -/
def packetWords : List Nat → List MboxWord
  | [] => []
  | [p] => [⟨BitVec.ofNat 64 (3 * 2 ^ 60 + p), false⟩]
  | p :: t => ⟨BitVec.ofNat 64 (2 ^ 60 + p), false⟩ :: packetWords t

theorem packetWords_length (ps : List Nat) : (packetWords ps).length = ps.length := by
  induction ps with
  | nil => rfl
  | cons p t ih => cases t with
    | nil => rfl
    | cons q t => simpa [packetWords] using ih

theorem packetWords_ready (ps : List Nat) (h : ps ≠ []) (hp : ∀ p ∈ ps, p < 2 ^ 56) :
    (packetWords ps).any (fun w => wordTag w.word == 3 || wordTag w.word == 8) = true := by
  induction ps with
  | nil => contradiction
  | cons p t ih => cases t with
    | nil =>
      have hp := hp p (by simp)
      have e : wordTag (BitVec.ofNat 64 (3 * 2 ^ 60 + p)) = 3 := by simp [wordTag]; omega
      simp only [packetWords, List.any_cons, e]; decide
    | cons q t =>
      rw [show packetWords (p :: q :: t) = ⟨BitVec.ofNat 64 (2 ^ 60 + p), false⟩ :: packetWords (q :: t) from rfl, List.any_cons,
        ih (by simp) (fun x hx => hp x (by simp [hx])), Bool.or_true]

/-- The state with these words in queue `q` and no other word in a queue. -/
def State.holding (s : State) (q : Nat) (l : List MboxWord) : State := { s with mbox := if l = [] then [] else [(q, { drain := l })] }

@[simp] theorem State.holding_holding (s : State) (q : Nat) (l m : List MboxWord) : (s.holding q l).holding q m = s.holding q m := rfl
@[simp] theorem State.holding_enabled (s : State) (q r : Nat) (l : List MboxWord) : (s.holding q l).mboxEnabled r = s.mboxEnabled r := rfl

theorem State.holding_mboxQ (s : State) (q : Nat) (l : List MboxWord) : (s.holding q l).mboxQ q = { drain := l } := by
  by_cases h : l = [] <;> simp [State.holding, State.mboxQ, h, Assoc.get]

theorem State.holding_setMbox (s : State) (q : Nat) (l m : List MboxWord) : (s.holding q l).setMbox q { drain := m } = s.holding q m := by
  unfold State.setMbox State.holding
  by_cases hl : l = [] <;> by_cases hm : m = [] <;> simp [hl, hm, Assoc.put, Assoc.del]

/-- Take the head of a queue. -/
theorem mboxTake_cons (s : State) (q : Nat) (w : MboxWord) (t : List MboxWord) (he : s.mboxEnabled q = true) (hb : w.bad = false) :
    (s.holding q (w :: t)).mboxTake q = (some w.word, s.holding q t) := by
  have h1 : (s.holding q (w :: t)).mboxCheckPtr q = s.holding q (w :: t) := by
    unfold State.mboxCheckPtr; rw [State.holding_mboxQ]; rfl
  have h3 : (s.holding q t).mboxServe q = s.holding q t := by
    unfold State.mboxServe; rw [State.holding_mboxQ]; rfl
  unfold State.mboxTake
  simp only [h1, State.holding_mboxQ, State.holding_enabled, he, MboxQueue.pop, State.holding_setMbox, h3, hb]
  rfl

/-- A packet is taken whole. -/
theorem mboxTakePacket_words (ps : List Nat) (s : State) (q n : Nat) (he : s.mboxEnabled q = true) (hps : ps ≠ [])
    (hp : ∀ p ∈ ps, p < 2 ^ 56) (hn : ps.length ≤ n) :
    (s.holding q (packetWords ps)).mboxTakePacket q n = (ps, false, s.holding q []) := by
  induction ps generalizing n with
  | nil => contradiction
  | cons p t ih =>
    obtain ⟨n, rfl⟩ : ∃ m, n = m + 1 := ⟨n - 1, by simp at hn; omega⟩
    have hlt := hp p (by simp)
    cases t with
    | nil =>
      have e3 : wordTag (BitVec.ofNat 64 (3 * 2 ^ 60 + p)) = 3 := by simp [wordTag]; omega
      have ep : wordPayload (BitVec.ofNat 64 (3 * 2 ^ 60 + p)) = p := by simp [wordPayload]; omega
      rw [State.mboxTakePacket, packetWords, mboxTake_cons s q _ _ he rfl]
      simp only [e3, ep, if_true, beq_self_eq_true]
    | cons r t =>
      have e1 : wordTag (BitVec.ofNat 64 (2 ^ 60 + p)) = 1 := by simp [wordTag]; omega
      have ep : wordPayload (BitVec.ofNat 64 (2 ^ 60 + p)) = p := by simp [wordPayload]; omega
      have e := ih n (by simp) (fun x hx => hp x (by simp [hx])) (by simp at hn ⊢; omega)
      have ew : packetWords (p :: r :: t) = ⟨BitVec.ofNat 64 (2 ^ 60 + p), false⟩ :: packetWords (r :: t) := rfl
      rw [ew, State.mboxTakePacket, mboxTake_cons s q _ _ he rfl]
      simp only [e1, ep, e]
      rfl

/-! ## Fragments -/

theorem wordAt_append (a b : List Byte) (o : Nat) (h : o + 4 ≤ a.length) : wordAt (a ++ b) o = wordAt a o := by
  unfold wordAt
  rw [List.drop_append_of_le_length (by omega), List.take_append_of_le_length (by simp; omega)]

theorem acceptMsg_new (s : State) (r : Reasm) (body : List Byte) (hb : body.length = r.total) (hh : s.pair.heardSeq = [])
    (hst : (s.notActive && standbyDiscards r.type) = false) : s.acceptMsg r body =
      (some ⟨r.type, r.src / 2, r.src % 2, r.bcast, r.flags, r.link, body⟩,
       { s with pair := { s.pair with heardSeq := [(r.src, some (r.seq, s.now))] } }) := by
  unfold State.acceptMsg
  rw [hh, if_neg (by simpa using hb), if_neg (by simp [Assoc.get])]
  have e (x : State) (hx : x.regs = s.regs) : (x.notActive && standbyDiscards r.type) = false := by
    rw [← hst]; simp only [State.notActive, State.role, State.getF, State.reg, hx]
  rw [if_neg (by rw [e _ rfl]; simp)]
  simp [Assoc.put]

/-- A right fragment that is a whole message of no source heard before is that message. -/
theorem rxFragment_whole (s : State) (link : Bool) (text key : List Byte) (hk : s.keys.kCasc = some key) (hr : s.pair.reasm = [])
    (hh : s.pair.heardSeq = []) (h16 : 16 ≤ text.length) (hlen : 16 + bitsOf (wordAt text 8) 15 0 = text.length)
    (hv : bitsOf (wordAt text 0) 23 16 = 1) (hn : msgKnown (bitsOf (wordAt text 0) 31 24) = true) (hf : bitsOf (wordAt text 8) 25 20 = 0)
    (h0 : bitsOf (wordAt text 8) 31 26 = 0) (ht : wordAt text 12 = text.length - 16)
    (hst : (s.notActive && standbyDiscards (bitsOf (wordAt text 0) 31 24)) = false) :
    s.rxFragment link (text ++ (hmac256 key text).take 8) =
      (some ⟨bitsOf (wordAt text 0) 31 24, bitsOf (wordAt text 0) 15 11 / 2, bitsOf (wordAt text 0) 15 11 % 2, bitAt (wordAt text 0) 10,
        bitsOf (wordAt text 8) 19 16, link, text.drop 16⟩,
       { s with pair := { s.pair with reasm := [], heardSeq := [(bitsOf (wordAt text 0) 15 11, some (wordAt text 4, s.now))] } }) := by
  have hl : ((hmac256 key text).take 8).length = 8 := by simp [hmac256_length]
  have h1 : s.reasmExpire = s := by simp [State.reasmExpire, hr]
  have e0 := wordAt_append text ((hmac256 key text).take 8) 0 (by omega)
  have e4 := wordAt_append text ((hmac256 key text).take 8) 4 (by omega)
  have e8 := wordAt_append text ((hmac256 key text).take 8) 8 (by omega)
  have e12 := wordAt_append text ((hmac256 key text).take 8) 12 (by omega)
  have et : (text ++ (hmac256 key text).take 8).take text.length = text := by simp
  have ed : (text ++ (hmac256 key text).take 8).drop text.length = (hmac256 key text).take 8 := by simp
  have eq8 : ((hmac256 key text).take 8).take 8 = (hmac256 key text).take 8 := by simp
  have el : text.length + 8 ≤ (text ++ (hmac256 key text).take 8).length := by rw [List.length_append, hl]
  have body : (text.drop 16).length = text.length - 16 := by simp
  have ew (r : Reasm) (h1 : r.nfrag = 1) (h2 : r.parts = [(0, text.drop 16)]) : r.whole = some (text.drop 16) := by
    simp [Reasm.whole, h1, h2]
  unfold State.rxFragment
  simp only [h1, e0, e4, e8, e12, hk, hlen, et, ed, eq8, el, decide_true, beq_self_eq_true, Bool.and_true, Bool.not_true, hv, hn, hr,
    List.find?_nil, Option.getD_none, hf, h0, List.filter_nil, Bool.true_and]
  simp only [Bool.false_eq_true, if_false, ne_eq, not_true_eq_false, or_self]
  rw [ew _ rfl rfl]
  exact acceptMsg_new _ _ _ (by simpa using ht.symm) hh (by
    rw [← hst]; simp only [State.notActive, State.role, State.getF, State.reg])

/-! ## Arrival -/

/-- A frame of EtherType 0x88B5 that carries a fragment. -/
def messageFrame (frag : List Byte) : List Byte := List.replicate 12 0 ++ [0x88, 0xB5] ++ frag

/-- The payloads of a packet of port 21: the head word with the ingress port, and the frame. -/
def messagePacket (port : Nat) (frag : List Byte) : List Nat :=
  (port * 2 ^ 32 + (messageFrame frag).length * 2 ^ 16) :: pack7 (messageFrame frag)

theorem rxPacket_message (s : State) (port : Nat) (frag : List Byte) (hp : port < 32) (hl : frag.length < 60000) :
    s.rxPacket (messagePacket port frag) = s.rxFragment (port == 16 + s.getF F.PAIR_CTRL_LINK_PORT) frag := by
  have hn : (messageFrame frag).length = frag.length + 14 := by simp [messageFrame]
  have h1 : bitsOf (port * 2 ^ 32 + (messageFrame frag).length * 2 ^ 16) 31 16 = (messageFrame frag).length := by
    rw [hn]; simp only [bitsOf]; omega
  have h2 : bitsOf (port * 2 ^ 32 + (messageFrame frag).length * 2 ^ 16) 36 32 = port := by
    rw [hn]; simp only [bitsOf]; omega
  have d12 : (messageFrame frag).drop 12 = 0x88 :: 0xB5 :: frag := rfl
  unfold State.rxPacket messagePacket
  simp only [List.getD_cons_zero, List.drop_one, List.tail_cons, h1, h2, unpack7_pack7, d12, List.take_succ_cons, List.take_zero]
  have f2 : beValue ([0x88, 0xB5] : List Byte) = 0x88B5 := rfl
  simp only [f2]
  rfl

/-- The state with one message in the queue of port 21: `text`, tagged with the key. -/
def State.arriving (s : State) (port : Nat) (key text : List Byte) : State :=
  s.holding (s.getF F.SWCH_P21_RX_QUEUE) (packetWords (messagePacket port (text ++ (hmac256 key text).take 8)))

/-- The state after that message has been taken. -/
def State.arrived (s : State) (text : List Byte) : State :=
  ({ s with mbox := [],
            pair := { s.pair with reasm := [], heardSeq := [(bitsOf (wordAt text 0) 15 11, some (wordAt text 4, s.now))] } }).bump
    F.CASC_RX_COUNT

/-- The message that a text is. -/
def messageOf (link : Bool) (text : List Byte) : Msg :=
  ⟨bitsOf (wordAt text 0) 31 24, bitsOf (wordAt text 0) 15 11 / 2, bitsOf (wordAt text 0) 15 11 % 2, bitAt (wordAt text 0) 10,
    bitsOf (wordAt text 8) 19 16, link, text.drop 16⟩

/-- The text of a message of one fragment: header and body. -/
def messageOk (text : List Byte) : Bool :=
  decide (16 ≤ text.length) && decide (16 + bitsOf (wordAt text 8) 15 0 = text.length) && decide (text.length < 50000) &&
    decide (bitsOf (wordAt text 0) 23 16 = 1) && msgKnown (bitsOf (wordAt text 0) 31 24) && decide (bitsOf (wordAt text 8) 25 20 = 0) &&
    decide (bitsOf (wordAt text 8) 31 26 = 0) && decide (wordAt text 12 = text.length - 16)

theorem takeMsg_arriving (s : State) (port : Nat) (key text : List Byte) (hp : port < 32) (hk : s.keys.kCasc = some key)
    (hr : s.pair.reasm = []) (hh : s.pair.heardSeq = []) (he : s.mboxEnabled (s.getF F.SWCH_P21_RX_QUEUE) = true)
    (ht : messageOk text = true) (hst : (s.notActive && standbyDiscards (bitsOf (wordAt text 0) 31 24)) = false) :
    (s.arriving port key text).takeMsg (bitsOf (wordAt text 0) 31 24)
        ((s.arriving port key text).mboxQ ((s.arriving port key text).getF F.SWCH_P21_RX_QUEUE)).level =
      (some (messageOf (port == 16 + s.getF F.PAIR_CTRL_LINK_PORT) text), s.arrived text) := by
  simp only [messageOk, Bool.and_eq_true, decide_eq_true_eq] at ht
  obtain ⟨⟨⟨⟨⟨⟨⟨h16, hlen⟩, hsz⟩, hv⟩, hn⟩, hf⟩, h0⟩, htl⟩ := ht
  have hq : (s.arriving port key text).getF F.SWCH_P21_RX_QUEUE = s.getF F.SWCH_P21_RX_QUEUE := rfl
  have hfl : (text ++ (hmac256 key text).take 8).length < 60000 := by
    have : ((hmac256 key text).take 8).length = 8 := by simp [hmac256_length]
    rw [List.length_append, this]; omega
  generalize hfr : text ++ (hmac256 key text).take 8 = frag at hfl
  have hps : messagePacket port frag ≠ [] := by simp [messagePacket]
  have hlt : ∀ p ∈ messagePacket port frag, p < 2 ^ 56 := by
    intro p hpm
    rcases List.mem_cons.1 hpm with rfl | h
    · have hn : (messageFrame frag).length = frag.length + 14 := by simp [messageFrame]
      rw [hn]; omega
    · exact pack7_lt _ _ h
  have hm : (s.arriving port key text) = s.holding (s.getF F.SWCH_P21_RX_QUEUE) (packetWords (messagePacket port frag)) := by
    rw [← hfr]; rfl
  rw [hq, hm, State.holding_mboxQ]
  have hready : (s.holding (s.getF F.SWCH_P21_RX_QUEUE) (packetWords (messagePacket port frag))).mboxPacketReady
      (s.getF F.SWCH_P21_RX_QUEUE) = true := by
    unfold State.mboxPacketReady
    rw [State.holding_mboxQ, State.holding_enabled, he]
    simpa [MboxQueue.words] using packetWords_ready _ hps hlt
  have hlev : MboxQueue.level { drain := packetWords (messagePacket port frag) } = (messagePacket port frag).length := by
    simp [MboxQueue.level, packetWords_length]
  rw [hlev]
  obtain ⟨n, hn1⟩ : ∃ n, (messagePacket port frag).length = n + 1 := ⟨(pack7 (messageFrame frag)).length, by simp [messagePacket]⟩
  have hq2 : (s.holding (s.getF F.SWCH_P21_RX_QUEUE) (packetWords (messagePacket port frag))).getF F.SWCH_P21_RX_QUEUE =
      s.getF F.SWCH_P21_RX_QUEUE := rfl
  have htake := mboxTakePacket_words (messagePacket port frag) s (s.getF F.SWCH_P21_RX_QUEUE) (messagePacket port frag).length he hps hlt
    (Nat.le_refl _)
  have hrx : (s.holding (s.getF F.SWCH_P21_RX_QUEUE) []).rxPacket (messagePacket port frag) =
      (s.holding (s.getF F.SWCH_P21_RX_QUEUE) []).rxFragment (port == 16 + s.getF F.PAIR_CTRL_LINK_PORT) frag :=
    rxPacket_message _ port frag hp hfl
  rw [← hfr] at hrx
  have hwhole := rxFragment_whole (s.holding (s.getF F.SWCH_P21_RX_QUEUE) []) (port == 16 + s.getF F.PAIR_CTRL_LINK_PORT) text key hk hr hh h16
    hlen hv hn hf h0 htl hst
  rw [hwhole, hfr] at hrx
  rw [hn1, State.takeMsg]
  simp only [hq2, hready, State.holding_mboxQ, hlev, htake, hrx]
  simp only [Bool.not_true, Bool.false_eq_true, if_false, if_true]
  rfl

end Sys2Proof.Machine
end

