-- ==== Sys2Proof/Tests/Slice0.lean ====
section
/-! SUPPORT. Tests: ill-formed commands that WellFormed refuses, and for every statement of Certificates/Slice0/Obligations.lean concrete
states and operands that meet its hypotheses, clause by clause. -/

namespace Sys2Proof.Tests

open Sys2Proof.Machine

set_option Elab.async false

/-- Control core 0. -/
abbrev core : Initiator := .ctl 0

abbrev zero : State := State.reset

/-- The block after reset, a register field set. -/
abbrev fieldSet (f : Fld) (v : Nat) : State := State.reset.setF f v

/-- The PCIe link is up, the host not yet admitted. -/
def linked : State := (State.reset.setFlag F.SYS_STRAP_PCIE true).setFlag F.CLK_STAT_PCIEREF_OK true

/-- Output time at 10 s, device time at 100 s. -/
def later : State := { zero with now := 100000000000, time := { out := 10 * secUnit } }

def withTime (t : TimeSt) : State := { later with time := t }

/-! ## Ill-formed commands -/

theorem test_illformed_alignment : (Instr.registerWrite core 0 (1, 0) .dword 0).wf = false ∧ (Instr.registerWrite core 0 (0, 0) .byte 256).wf = false ∧
    (Instr.registerWrite core 0 (0, 0) .dword 256).wf = true ∧ (Instr.registerWrite core 0 (0, 1) .half 1).wf = false ∧
    (Instr.registerWrite core 0 (0, 3) .byte 255).wf = true ∧ (Instr.rcFieldRead core 0 1 0 .dword).wf = false ∧
    (Instr.rcFieldRead core 0 0 1 .half).wf = false ∧ (Instr.rcFieldRead core 0 0 2 .word).wf = false ∧
    (Instr.rcFieldRead core 0 0 3 .byte).wf = true ∧ (Instr.wideValueRead core 0 (1, 0) .dword).wf = false ∧
    (Instr.wideValueRead core 0 (1, 0) .word).wf = true ∧ (Instr.wideValueCommit core 0 (1, 0) .dword 0).wf = false ∧
    (Instr.wideValueCommit core 0 (0, 0) .word (BitVec.ofNat 64 (2 ^ 32))).wf = false ∧ (Instr.unmappedAccess core 2 .word false 0).wf = false ∧
    (Instr.unmappedAccess core 1 .byte true 256).wf = false ∧ (Instr.unmappedAccess core 2 .half true 65535).wf = true := by decide

theorem test_illformed_measurements : (Instr.agcStep []).wf = false ∧ (Instr.agcStep (List.replicate 8 [(16, 0)])).wf = false ∧
    (Instr.agcStep (List.replicate 8 [(15, 15)])).wf = true ∧ (Instr.sampleClockCheck (List.replicate 7 none)).wf = false ∧
    (Instr.sampleClockCheck (List.replicate 8 (some (-5)))).wf = true ∧ (Instr.loopUpdate [⟨1024, 0, 0, false⟩] []).wf = false ∧
    (Instr.loopUpdate [⟨1023, 1024, 0, false⟩] []).wf = false ∧ (Instr.loopUpdate [⟨1023, 1023, 0, false⟩] []).wf = true ∧
    (Instr.loopUpdate [] [⟨1, none, some (List.replicate 11 0)⟩]).wf = false ∧
    (Instr.loopUpdate [] [⟨1, none, some (List.replicate 10 0)⟩]).wf = true ∧
    (Instr.acqDetection 1024).wf = false ∧ (Instr.acqDetection 1023).wf = true ∧
    (Instr.measurementLatch [⟨5, 0, 0, 0, 0, 0⟩, ⟨5, 0, 0, 0, 0, 0⟩] none).wf = false ∧
    (Instr.measurementLatch [⟨1024, 0, 0, 0, 0, 0⟩] none).wf = false ∧ (Instr.measurementLatch [] none).wf = true := by decide

theorem test_illformed_frames : (Instr.heartbeatFrame 0 []).wf = false ∧ (Instr.frameAccept 0 0 false 0 []).wf = false ∧
    (Instr.assocReq 0 0 false 0 []).wf = false ∧ (Instr.disassoc 0 0 false 0 []).wf = false ∧ (Instr.frameReceive 0 0 []).wf = false ∧
    (Instr.wakeMatch 0 []).wf = false ∧ (Instr.frameReceive 0 0 [0]).wf = true ∧ (Instr.tableDirectWrite core 0x0FFFFFFF).wf = false ∧
    (Instr.tableDirectWrite core 0x12000000).wf = false ∧ (Instr.tableDirectWrite core 0x11FFFFFF).wf = true := by decide

/-! ## Registers -/

theorem test_witness_StepRunsTheFrontCommand : ({ zero with pending := [.ref10Lost] }).pending = .ref10Lost :: [] := rfl

theorem test_witness_IdleTickAdvancesDeviceTime : zero.pending = [] ∧ zero.pwr.state ≠ PwrState.entering := by decide

/-- A block that follows domain A. -/
def following : State := { zero with time := { state := .lockA, follow := 1 } }

/-- A data plane reset of six microseconds under way. -/
theorem test_witness_IdleTickAdvancesDeviceTime_held : ({ zero with rst := { planeHeld := [(0, 6000)] } }).pending = [] ∧
    (({ zero with rst := { planeHeld := [(0, 6000)] } }).tick.rst.planeHeld = [(0, 6000)]) := by decide

theorem test_witness_IdleOutputTimeNeverDecreases : following.pwr.state ≠ PwrState.entering ∧ following.rst.held = false ∧
    following.stepDue = false ∧ following.time.state.unfollowed = false := by decide

theorem test_witness_ResetState : pageAssigned 0x000 = true ∧ pageAssigned 0x110 = true ∧ pageAssigned 0x111 = false := by decide

/-- PG_SCRATCH of SYS is one RW word; PG_ID is read-only. -/
theorem test_witness_RegisterAccessTypes_write : ∃ r : RegDef, zero.passes core (wordKey 0 11) true = true ∧ regAt (wordKey 0 11) = some (r, 0) ∧
    r.words = 1 ∧ (r.fields.all fun f => f.acc == .ro) = false ∧
    (zero.entered (wordKey 0 11)).refuseWrite core (wordKey 0 11) ((zero.entered (wordKey 0 11)).checkValue (wordKey 0 11) (allBits - ownedMask (wordKey 0 11)) r.fields 0 [5]) = none ∧
    ∀ x : State, (x.afterWrite (wordKey 0 11)).regs = x.regs :=
  ⟨_, by decide, rfl, by decide, by decide, by decide, fun _ => rfl⟩

/-- The tiles' clock has stopped in Bud: an access to a tile's page passes the gate and requests it. -/
def budded : State := { fieldSet F.CLK_STAT_PLL_LOCK 127 with pwr := { State.reset.pwr with state := .bud, tileOn := false } }

theorem test_witness_RegisterAccessTypes_clock : budded.passes core (wordKey 0x062 16) false = true ∧ budded.clkOn 0x062 = false ∧
    (budded.entered (wordKey 0x062 16)).clkOn 0x062 = true ∧ zero.passes core (wordKey 0 11) true = true := by decide

theorem test_witness_RegisterAccessTypes_readOnly : ∃ (r : RegDef) (w : Nat), zero.passes core (wordKey 0 0) true = true ∧
    regAt (wordKey 0 0) = some (r, w) ∧ (r.fields.all fun f => f.acc == .ro) = true :=
  ⟨_, _, by decide, rfl, by decide⟩

theorem test_witness_UndefinedOffsetsIgnored : pageAssigned 0 = true ∧ regAt (wordKey 0 63) = none ∧ zero.passes core (wordKey 0 63) true = true ∧
    zero.passes core (wordKey 0 63) false = true ∧ pageAssigned 4 = false ∧ zero.reaches core = true ∧ zero.rst.held = false := by decide

/-- SYS_LC_AUTH_ADDR is a 64-bit RW value; control core 1 writes PG_SCRATCH between the two reads. -/
theorem test_witness_WideReadConsistent : ∃ (r : RegDef) (s1 s2 : State), regAt (wordKey 0 20) = some (r, 0) ∧
    regAt (wordKey 0 20 + 4) = some (r, 1) ∧ r.words = 2 ∧ fifoOf (wordKey 0 20) = none ∧ fifoOf (wordKey 0 20 + 4) = none ∧
    zero.passes core (wordKey 0 20) false = true ∧ exec (.wideValueRead core 0 (20, 0) .word) zero = .next s1 ∧
    (∀ c ∈ [Instr.registerWrite (.ctl 1) 0 (11, 0) .word 7], ∃ other, registerAccess c = some other ∧ other ≠ core) ∧
    runs s1 [.registerWrite (.ctl 1) 0 (11, 0) .word 7] = some s2 ∧ s2.passes core (wordKey 0 20 + 4) false = true := by
  refine ⟨_, _, _, rfl, rfl, by decide, by decide, by decide, by decide, rfl, ?_, rfl, by decide⟩
  intro c hc
  cases hc with
  | head => exact ⟨.ctl 1, rfl, by decide⟩
  | tail _ h => cases h

theorem test_witness_WideReadConsistent_unlatched : ∃ r : RegDef, regAt (wordKey 0 21) = some (r, 1) ∧ r.words = 2 ∧
    fifoOf (wordKey 0 21) = none ∧ zero.passes core (wordKey 0 21) false = true ∧ zero.latch core = none :=
  ⟨_, rfl, by decide, by decide, by decide, by decide⟩

theorem test_witness_WideWriteCommits : ∃ (r : RegDef) (f : FieldDef), regAt (wordKey 0 20) = some (r, 0) ∧
    regAt (wordKey 0 20 + 4) = some (r, 1) ∧ r.words = 2 ∧ r.fields = [f] ∧ f.acc = .rw ∧ f.lo = 0 ∧ f.hi = 63 ∧
    ownedMask (wordKey 0 20) = 0 ∧ ownedMask (wordKey 0 20 + 4) = 0 ∧ (∀ x : State, (x.afterWrite (wordKey 0 20)).regs = x.regs) ∧
    (∀ x : State, x.winKey (wordKey 0 20) = wordKey 0 20 ∧ x.winKey (wordKey 0 20 + 4) = wordKey 0 20 + 4) ∧
    zero.passes core (wordKey 0 20) true = true ∧ zero.passes core (wordKey 0 20 + 4) true = true ∧
    (∀ x : State, x.refuseWrite core (wordKey 0 20) (0x1000 + 2 ^ 32 * 0) = none) :=
  ⟨_, _, rfl, rfl, rfl, rfl, rfl, rfl, rfl, by decide, by decide, fun _ => rfl, fun _ => ⟨rfl, rfl⟩, by decide, by decide, fun _ => rfl⟩

theorem test_witness_DeniedAccesses : zero.reaches core = true ∧ zero.rst.held = false ∧ zero.region 0x50000000 = .unmapped ∧
    zero.region 0 = .rom ∧ zero.region 0x60000000 = .flash ∧ linked.reaches .host = true ∧ linked.rst.held = false ∧
    pageAssigned 0x020 = true ∧ linked.hostMay 0x020 (4 * 16) true = false ∧ linked.hostMay 0x0C0 0x050 true = false := by decide

theorem test_witness_HeaderCommands : zero.opens core (0x020 * 0x1000 + 0x008) true = true ∧
    (fieldSet (F.PG_CTRL_LOCK 0x020) 1).opens core (0x020 * 0x1000 + 0x008) true = true ∧
    (fieldSet (F.PG_CTRL_LOCK 0x020) 1).flag (F.PG_CTRL_LOCK 0x020) = true ∧
    zero.opens core 0xC0008 true = true ∧ zero.flag (F.PG_CTRL_LOCK 0x0C0) = false ∧ zero.flag (F.PG_CTRL_LOCK 0x020) = false ∧
    zero.mapBusy 0x020 = false ∧ zero.rst.soft.elem 0x020 = false ∧ ({ soft := [0x020] } : RstSt).soft.elem 0x020 = true ∧
    ({ soft := [0x020] } : RstSt).softLate.elem 0x020 = false ∧ zero.opens core (0x020 * 0x1000 + 0x01C) true = true ∧
    zero.opens core (0x020 * 0x1000 + 0x028) true = true := by decide

/-- Page 0x054 mapped to vector 5, its line rising. -/
def mapped : State :=
  (((zero.setF (F.SCHED_IRQMAP_TARGET.win 0x054) 5).setF (F.SCHED_IRQMAP_EN.win 0x054) 1).setF (F.SCHED_IRQMAP_MSIX.win 0x054) 1)

theorem test_witness_MsixMessages : mapped.getF (F.SCHED_IRQMAP_TARGET.win 0x054) = 5 ∧ pageAssigned 0x054 = true ∧
    mapped.pagePowered 0x054 = true ∧ mapped.pagePowered 0x020 = true ∧ mapped.flag (F.SCHED_IRQMAP_EN.win 0x054) = true ∧
    mapped.flag (F.SCHED_IRQMAP_MSIX.win 0x054) = true ∧ mapped.time.catchFrom = none ∧
    ({ mapped with time := { catchFrom := some 5 } }).time.catchFrom.isSome = true ∧ (4 * 63 + 3 < 2048) ∧ linked.reaches .host = true ∧
      linked.rst.held = false := by decide

/-- CLK_STARTS counts in an RC register. -/
theorem test_witness_RegisterAccessTypes_read : ∃ r : RegDef, zero.passes core (wordKey 1 20) false = true ∧ regAt (wordKey 1 20) = some (r, 0) ∧
    r.words = 1 ∧ fifoOf (wordKey 1 20) = none ∧ zero.view (wordKey 1 20) = none :=
  ⟨_, by decide, rfl, by decide, by decide, by decide⟩

/-! ## Time base -/

theorem test_witness_TimeDomainsAndOutput_domains :
    ((withTime { domA := { state := .locked } }).dom 1).state = DomainState.locked ∧
    ((withTime { domA := { state := .locked } }).dom 1).heard.getD ((withTime { domA := { state := .locked } }).dom 1).upd +
      (withTime { domA := { state := .locked } }).getF (F.TIME_D_LOSS_LOSS_MS 0) * 1000000 < (withTime { domA := { state := .locked } }).now ∧
    ((withTime { domB := { state := .locked, heard := some 98999999999 } }).dom 2).state = DomainState.locked ∧
    ((withTime { domB := { state := .locked, heard := some 98999999999 } }).dom 2).heard.getD 0 +
      later.getF (F.TIME_D_LOSS_LOSS_MS 1) * 1000000 < later.now ∧
    zero.opens core 0x4005C true = true ∧ zero.opens core 0x4105C true = true ∧
    (withTime { domB := { state := .frozen } }).opens core 0x4105C true = true ∧
    (withTime { domB := { state := .frozen } }).time.domB.state = DomainState.frozen ∧ zero.time.domB.state ≠ DomainState.frozen ∧
    zero.opens core 0x40040 true = true ∧ zero.opens core 0x41040 true = true ∧ zero.flag (F.PG_CTRL_LOCK 0x040) = false ∧
    zero.flag (F.PG_CTRL_LOCK 0x041) = false ∧ zero.getF (F.TIME_D_CTRL_LOCK_CNT 0) ≠ 0 ∧ zero.getF (F.TIME_D_CTRL_LOCK_CNT 1) ≠ 0 ∧
    zero.opens core 0x42040 true = true := by decide

/-- A step of 5 s is pending in the last microsecond of a second. -/
def stepping : State := withTime { out := 10 * secUnit + 999999998 * nsUnit, d := 5 * secUnit, stepPending := true, state := .lockA, follow := 1 }

theorem test_witness_TimeDomainsAndOutput_output : stepping.stepDue = true ∧
    (withTime { state := .hold }).time.state = TimeState.hold ∧
    ({ withTime { state := .hold } with now := 4294967295000000000 }).time.holdSince +
      (withTime { state := .hold }).getF F.TIME_OUT_HOLD_LIMIT_S_SECONDS * 1000000000 ≤ 4294967295000000000 ∧
    ({ withTime { state := .hold } with now := 4294967295000000000 }).time.holdSince +
      (withTime { state := .hold }).getF F.TIME_OUT_HOLD_WARN_S_SECONDS * 1000000000 ≤ 4294967295000000000 ∧
    zero.opens core 0x4208C true = true ∧ zero.time.state.unfollowed = true ∧ zero.time.out ≤ 0 ∧
    later.opens core 0x4208C true = true ∧
    later.getF F.TIME_OUT_SET_SEC_SECONDS * secUnit + later.getF F.TIME_OUT_SET_NS_NS * nsUnit < later.time.out ∧
    (withTime { state := .manual, out := 5 }).opens core 0x4208C true = true ∧ (withTime { state := .lockA }).time.state.unfollowed = false ∧
    (withTime { correcting := true }).time.correcting = true ∧ (withTime { correcting := true }).time.stepPending = false ∧
    (withTime { correcting := true }).time.state.holdover = false ∧ (withTime { state := .holdLong }).time.state = TimeState.holdLong ∧
    (((withTime { correcting := true }).time.d.natAbs : Nat) : Int) ≤ (withTime { correcting := true }).validLimit ∧
    (later.setF F.TIME_OUT_UTC_AT_SECOND 10).getF F.TIME_OUT_UTC_AT_SECOND ≠ 0 ∧
    (later.setF F.TIME_OUT_UTC_AT_SECOND 10).taiSec = 10 := by decide

/-- A PTP message of a type: 60 bytes, its type in the first. -/
def ptpOf (type : Nat) (cls : Nat) : PtpRx :=
  ⟨0, 1000, 900, [BitVec.ofNat 8 type] ++ List.replicate 47 0 ++ [BitVec.ofNat 8 cls] ++ List.replicate 11 0⟩

/-- A Delay_Resp for the time base's own clock identity, port 1. -/
def respMsg : List Byte :=
  [9] ++ List.replicate 43 0 ++ bytesBE (Config.clockIdentity % 2 ^ 64 * 65536 + 1) 10

/-- The message waits. -/
def trapped (x : PtpRx) (t : TimeSt) : State := { withTime t with sw := { ptpIn := [x] } }

theorem test_witness_PtpMessagesAreTaken_types : (trapped (ptpOf 0 0) {}).sw.ptpIn = ptpOf 0 0 :: [] ∧ ptpType (ptpOf 0 0).msg = 0 ∧
    ptpTwoStep (ptpOf 0 0).msg = false ∧ ptpType (ptpOf 8 0).msg = 8 ∧ ptpType (ptpOf 1 0).msg = 1 ∧ ptpType (ptpOf 11 248).msg = 11 ∧
    248 ≤ ((ptpOf 11 248).msg.getD 48 0).toNat ∧ ptpTwoStep ([0, 2, 0, 0, 0, 0, 2] ++ List.replicate 53 0) = true ∧
    ptpType ([0, 2, 0, 0, 0, 0, 2] ++ List.replicate 53 0) = 0 ∧ zero.sw.ptpIn = [] := by decide

theorem test_witness_PtpMessagesAreTaken_followUp :
    let s := trapped (ptpOf 8 0) { ptp := { pendingSync := some ⟨0, 0, 5, 5, 0⟩ } }
    let r := trapped (ptpOf 8 0) { ptp := { pendingSync := some ⟨1, 0, 5, 5, 0⟩ } }
    (∃ p, s.sw.ptpIn = ptpOf 8 0 :: [] ∧ s.time.ptp.pendingSync = some p ∧ p.source = ptpSource (ptpOf 8 0).msg ∧
      p.seq = ptpSeq (ptpOf 8 0).msg) ∧
    ∃ p, r.time.ptp.pendingSync = some p ∧ p.source ≠ ptpSource (ptpOf 8 0).msg :=
  ⟨⟨⟨0, 0, 5, 5, 0⟩, rfl, rfl, by decide, by decide⟩, ⟨1, 0, 5, 5, 0⟩, rfl, by decide⟩

/-- A port identity reads back from its ten bytes. -/
theorem beValue_bytesBE (v n : Nat) (h : v < 256 ^ n) : beValue (bytesBE v n) = v := by
  unfold beValue bytesBE
  rw [List.reverse_reverse]
  induction n generalizing v with
  | zero => simp at h; simp [bytesLE, leValue, h]
  | succ n ih =>
    rw [bytesLE, leValue, ih (v / 256) (by rw [Nat.pow_succ] at h; omega)]
    simp only [BitVec.toNat_ofNat]
    omega

theorem test_witness_PtpMessagesAreTaken_delayResp :
    let x : PtpRx := ⟨0, 1000, 900, respMsg⟩
    let s := trapped x { ptp := { delayReq := some (0, 7), syncDelta := some 3 } }
    s.sw.ptpIn = x :: [] ∧ ptpType x.msg = 9 ∧ s.time.ptp.delayReq = some (ptpSeq x.msg, 7) ∧ s.time.ptp.syncDelta = some 3 ∧
    beValue ((x.msg.drop 44).take 10) = Config.clockIdentity % 2 ^ 64 * 65536 + (x.port + 1) := by
  refine ⟨rfl, rfl, ?_, rfl, ?_⟩
  · simp [trapped, withTime, respMsg, ptpSeq, List.replicate]; decide
  · have hl := bytesBE_length (Config.clockIdentity % 2 ^ 64 * 65536 + 1) 10
    have hd : (respMsg.drop 44).take 10 = bytesBE (Config.clockIdentity % 2 ^ 64 * 65536 + 1) 10 := by
      have : respMsg.drop 44 = bytesBE (Config.clockIdentity % 2 ^ 64 * 65536 + 1) 10 := by
        simp only [respMsg, List.replicate, List.cons_append, List.nil_append, List.drop_succ_cons, List.drop_zero]
      rw [this]; exact List.take_of_length_le (le_of_eq hl)
    show beValue ((respMsg.drop 44).take 10) = _
    rw [hd, beValue_bytesBE _ _ (by omega)]

/-- The slave role is with port 0, the backup with port 3, and domain B's servo runs. -/
def backedUp : State :=
  (((later.setF F.TIME_B_PORT_SLAVE_EN 1).setF F.TIME_B_PORT_BACKUP_EN 1).setF F.TIME_B_PORT_BACKUP 3).setFlag (F.TIME_D_CTRL_SERVO_EN 1) true

theorem test_witness_PtpMessagesAreTaken_timers :
    zero.pwr.state ≠ PwrState.snowdrop ∧ (zero.setF F.TIME_B_MPORTS_MASTER 1).masterPorts = [0] ∧
    Assoc.get (fun _ => 0) later.time.ptp.sentSync 0 + 62500000 ≤ later.now ∧
    Assoc.get (fun _ => 0) later.time.ptp.sentAnnounce 0 + 1000000000 ≤ later.now ∧
    backedUp.flag F.TIME_B_PORT_SLAVE_EN = true ∧ backedUp.time.ptp.delaySentAt = none ∧
    backedUp.flag F.TIME_B_PORT_BACKUP_EN = true ∧ backedUp.getF F.TIME_B_PORT_ACTIVE ≠ backedUp.getF F.TIME_B_PORT_BACKUP ∧
    backedUp.time.ptp.lastAnnounce + 3000000000 ≤ backedUp.now ∧ backedUp.flag (F.TIME_D_CTRL_SERVO_EN 1) = true ∧
    backedUp.time.domB.state ≠ DomainState.frozen ∧ (later.setFlag (F.TIME_D_CTRL_SERVO_EN 1) false).flag (F.TIME_D_CTRL_SERVO_EN 1) = false := by decide

/-- Pulse 0 due at 10 s; pulse 0 at its end. -/
def pulseDue : State := withTime { out := 10 * secUnit, pulses := [(0, { en := true, nextAt := some 10000000000, period := 20, width := 12 })] }
def pulseUp : State := withTime { out := 10 * secUnit, pulses := [(0, { en := true, active := true, fallAt := 10000000000, width := 8 })] }

theorem test_witness_PulsesAndCaptures : (pulseDue.pulse 0).active = false ∧ (pulseDue.pulse 0).nextAt = some 10000000000 ∧
    (pulseDue.pulse 0).en = true ∧ 10000000000 ≤ pulseDue.taiNs ∧ (pulseDue.pulse 0).gate = false ∧
    (withTime { pulses := [(0, { gate := true })] }).time.valid = false ∧ ((withTime { pulses := [(0, { gate := true })] }).pulse 0).gate = true ∧
    (pulseUp.pulse 0).active = true ∧ (pulseUp.pulse 0).fallAt ≤ pulseUp.taiNs ∧ (pulseUp.pulse 0).commit = none ∧
    zero.opens core 0x420C4 true = true ∧ 8 ≤ (fieldSet (F.TIME_OUT_PULSE_WIDTH_NS_WIDTH.win 0) 8).getF (F.TIME_OUT_PULSE_WIDTH_NS_WIDTH.win 0) ∧
    20 ≤ (fieldSet (F.TIME_OUT_PULSE_PERIOD_NS_PERIOD.win 0) 20).getF (F.TIME_OUT_PULSE_PERIOD_NS_PERIOD.win 0) ∧
    (fieldSet (F.TIME_OUT_PULSE_WIDTH_NS_WIDTH.win 0) 8).getF (F.TIME_OUT_PULSE_WIDTH_NS_WIDTH.win 0) + 8 ≤
      (fieldSet (F.TIME_OUT_PULSE_WIDTH_NS_WIDTH.win 0) 8).getF (F.TIME_OUT_PULSE_PERIOD_NS_PERIOD.win 0) ∧
    (fieldSet (F.TIME_OUT_PULSE_PERIOD_NS_PERIOD.win 0) 0).getF (F.TIME_OUT_PULSE_PERIOD_NS_PERIOD.win 0) = 0 ∧
    (fieldSet (F.TIME_OUT_PULSE_WIDTH_NS_WIDTH.win 0) 7).getF (F.TIME_OUT_PULSE_WIDTH_NS_WIDTH.win 0) < 8 ∧
    bitsOf ((fieldSet F.TIME_EVT_CTRL_EDGE 3).getF F.TIME_EVT_CTRL_EDGE) 1 0 % 2 = 1 ∧
    bitsOf ((fieldSet F.TIME_EVT_CTRL_EDGE 3).getF F.TIME_EVT_CTRL_EDGE) 1 0 / 2 = 1 ∧
    Assoc.get (fun _ => 0) zero.time.capLast 0 = 0 ∧ (zero.fifo 0x43080).length < 16 ∧
    Assoc.get (fun _ => 0) (withTime { capLast := [(0, 99999999985)] }).time.capLast 0 ≠ 0 ∧
    (withTime { capLast := [(0, 99999999985)] }).now < 99999999985 + 16 ∧ 99999999984 + 16 ≤ (withTime { capLast := [(0, 99999999984)] }).now ∧
    bitsOf (zero.getF F.TIME_EVT_CTRL_EDGE) 1 0 % 2 = 0 ∧
    16 ≤ ((zero.setFifo 0x43080 (List.replicate 16 [0, 0, 0])).fifo 0x43080).length := by decide

/-! ## Receiver -/

def withGnss (g : GnssSt) : State := { later with gnss := g }

/-- Channel 3 in a state of R64. -/
def chanIn (st : ChState) (c : Channel) : State := withGnss { chans := [(3, { c with now := { c.now with state := st } })] }

/-- A receiver whose band inputs are all enabled. -/
def bandsOn (s : State) : State :=
  (((s.setFlag (F.GNSS_FE_CTRL_L1_EN 0) true).setFlag (F.GNSS_FE_CTRL_L5_EN 0) true).setFlag (F.GNSS_FE_CTRL_ANT_SUPPLY_CHK 0) true)

def setOf (flags : Nat) : MeasSet := { seq := 1, quality := 0, instant := 0, nsat := 0, antOk := 0, ant := 0, flags := flags, soln := none, recs := [], latchAt := 0 }

theorem test_witness_GnssFrontEndAndLoops : zero.pagePowered 0x054 = true ∧ zero.portFault 0 0 = false ∧ zero.portFault 0 1 = false ∧
    zero.bandOn 0 0 = false ∧ (bandsOn zero).pagePowered 0x054 = true ∧ (bandsOn zero).portFault 0 0 = false ∧
    (bandsOn zero).bandOn 0 0 = true ∧ (bandsOn zero).bandOn 0 1 = true ∧
      (fieldSet (F.GNSS_FE_CTRL_ANT_SUPPLY_CHK 0) 0).flag (F.GNSS_FE_CTRL_ANT_SUPPLY_CHK 0) = false ∧
    (bandsOn zero).flag (F.GNSS_FE_CTRL_ANT_SUPPLY_CHK 0) = true ∧
    (fieldSet (F.GNSS_FE_STAT_L1_FAULT 0) 1).portFault 0 0 = true ∧ (fieldSet (F.GNSS_FE_STAT_L5_FAULT 0) 1).portFault 0 1 = true ∧
    [((7 : Nat), (7 : Nat))] ≠ [] ∧ ((-2000 : Int)).natAbs ≤ 2000 ∧
    (chanIn .pullin {}).edgeDue 1 1000000 = some 10000000000 ∧ Assoc.wf (fun _ => ({} : Channel)) (chanIn .pullin {}).gnss.chans = true ∧
    [(⟨3, 200, 192, false⟩ : LoopObs)].find? (fun o => o.ch == 3) = some ⟨3, 200, 192, false⟩ ∧
    ((chanIn .pullin {}).chan 3).now.state = ChState.pullin ∧ (bandsOn (chanIn .pullin {})).bandOn ((chanIn .pullin {}).chan 3).ant 0 = true ∧
    (192).testBit 7 = true ∧ (192).testBit 6 = true ∧ ((chanIn .pullin { pullMs := 499 }).chan 3).pullMs < 500 ∧
    ((chanIn .pullin {}).chan 2).now.state = ChState.idle ∧ ((chanIn .lost {}).chan 3).now.state = ChState.lost ∧
    zero.edgeDue 1 1000000 = none ∧
    (later.setF F.GNSS_RX_STATE_RX_STATE 1).getF F.GNSS_RX_STATE_RX_STATE = 1 ∧
    (later.setF F.GNSS_RX_STATE_RX_STATE 1).edgeDue 2 (later.setF F.GNSS_RX_STATE_RX_STATE 1).latchNs = some 10000000000 ∧
    (withGnss { pending := some (setOf 0) }).gnss.pending = some (setOf 0) ∧ bitAt (setOf 0).flags 0 = false ∧
    (withGnss { pending := some (setOf 0) }).flag F.GNSS_MEAS_CTRL_RING_EN = false ∧
    (withGnss { pending := some (setOf 1) }).gnss.pending = some (setOf 1) ∧ zero.gnss.pending = none ∧
    zero.opens core 0x55068 true = true ∧ zero.flag (F.PG_CTRL_LOCK 0x055) = false ∧
    [bitsOf 0xE4 1 0, bitsOf 0xE4 3 2, bitsOf 0xE4 5 4, bitsOf 0xE4 7 6].eraseDups.length = 4 := by decide

/-- Channel 3 waits for acquisition. -/
def acquiring : State := bandsOn (withGnss { chans := [(3, { now := { state := .acq } })], queue := [⟨0, 3, false⟩] })

theorem test_witness_GnssChannelEvents : acquiring.pagePowered 0x054 = true ∧ acquiring.gnss.queue = [⟨0, 3, false⟩] ∧
    acquiring.bandOn (acquiring.chan 3).ant (acquiring.chan 3).band = true ∧ acquiring.searched ⟨0, 3, false⟩ 1 = true ∧
    (acquiring.chan 3).now.state = ChState.acq ∧ acquiring.getF F.GNSS_CH_THR_ACQ_CN0 ≤ 1023 ∧
    acquiring.searched ⟨0, 3, false⟩ (acquiring.acqPasses ⟨0, 3, false⟩) = true ∧
    ((chanIn .pullin { pullMs := 500 }).chan 3).now.state = ChState.pullin ∧ 500 ≤ ((chanIn .pullin { pullMs := 500 }).chan 3).pullMs ∧
    (chanIn .pullin { pullMs := 500 }).portFault 0 0 = false ∧
    ((chanIn .track { lowMs := 50 }).chan 3).now.state = ChState.track ∧ 50 ≤ ((chanIn .track { lowMs := 50 }).chan 3).lowMs ∧
    ((chanIn .track { failMs := 20 }).chan 3).now.state = ChState.track ∧ 20 ≤ ((chanIn .track { failMs := 20 }).chan 3).failMs ∧
    ((chanIn .lost { reacq := 1 }).chan 3).now.state = ChState.lost ∧ 0 < ((chanIn .lost { reacq := 1 }).chan 3).reacq ∧
    (bandsOn (chanIn .lost { reacq := 1 })).bandOn ((chanIn .lost { reacq := 1 }).chan 3).ant ((chanIn .lost { reacq := 1 }).chan 3).band = true ∧
    ((chanIn .lost {}).chan 3).reacq = 0 ∧ (chanIn .lost {}).portFault ((chanIn .lost {}).chan 3).ant ((chanIn .lost {}).chan 3).band = false := by
  decide

def rxState (v : Nat) : State := later.setF F.GNSS_RX_STATE_RX_STATE v

theorem test_witness_GnssCommands : zero.opens core 0x54044 true = true ∧ validSignal (bitsOf 0x80000102 18 16) (bitsOf 0x80000102 15 8) = true ∧
    validSignal (bitsOf 0x102 18 16) (bitsOf 0x102 15 8) = true ∧ bitAt 0x102 31 = false ∧
    (zero.chan (zero.getF F.GNSS_CH_INDEX_INDEX)).now.state ≠ ChState.held ∧
    validSignal (bitsOf 0 18 16) (bitsOf 0 15 8) = false ∧ zero.opens core 0x54060 true = true ∧ (rxState 4).rxAsleep = true ∧
    (rxState 3).rxAsleep = true ∧ (rxState 4).opens core 0x54060 true = true ∧
    (chanIn .idle { cfg := 0x80000102 }).rxAsleep = false ∧ ((chanIn .idle { cfg := 0x80000102 }).chan 3).en = true ∧
    ((chanIn .idle { cfg := 0x80000102 }).chan 3).now.state = ChState.idle ∧
    (chanIn .idle { cfg := 0x80000102 }).portFault ((chanIn .idle { cfg := 0x80000102 }).chan 3).ant ((chanIn .idle { cfg := 0x80000102 }).chan 3).band = false ∧
    ((chanIn .track {}).chan 3).now.state ≠ ChState.idle ∧
    ((chanIn .track {}).chan 3).now.state ≠ ChState.held ∧ (rxState 1).getF F.GNSS_RX_STATE_RX_STATE = 1 ∧
    (rxState 2).getF F.GNSS_RX_STATE_RX_STATE = 2 ∧ (rxState 4).getF F.GNSS_RX_STATE_RX_STATE = 4 ∧ zero.getF F.GNSS_RX_STATE_RX_STATE = 0 ∧
    (rxState 3).getF F.GNSS_RX_STATE_RX_STATE = 3 ∧ (rxState 1).opens core 0x54060 true = true ∧ zero.opens core 0x54008 true = true ∧
    zero.flag (F.PG_CTRL_LOCK 0x054) = false ∧ zero.flag (F.PG_CTRL_ENABLE 0x054) = false ∧
    (rxState 1 |>.setFlag (F.PG_CTRL_ENABLE 0x054) true).flag (F.PG_CTRL_ENABLE 0x054) = true := by decide

/-! ## Fix engine -/

/-- A frame of machine 7 for the epoch 10 s, and the context that runs it at one script word. -/
def frame7 : ObsFrame := ⟨7, 10000, 1, 0, false, false, [], 100, 200000000000, 1⟩
def run7 (st : CtxState) (w : Nat) : RunCtx := { st := st, frame := frame7, script := [w] }
def atOp (w : Nat) : State := { later with solv := { ctxs := [(0, run7 .running w)] } }

/-- A compact observation frame of one satellite with one signal, epoch 10 s; machine 7 in mode 1. -/
def obsBytes : List Byte :=
  bytesLE 0x010101C5 4 ++ bytesLE 10000 4 ++ bytesLE 1 4 ++ bytesLE 0 4 ++ [1, 1, 16, 0, 0, 0, 0, 0] ++ List.replicate 8 0
def machine7 (mode : Nat) : State := { later with solv := { machines := [(7, { mode := mode })] } }

theorem test_witness_SolverInputs_frames : (machine7 1).pagePowered 0x060 = true ∧ 4 ≤ obsBytes.length ∧ wordAt obsBytes 0 % 256 = 0xC5 ∧
    bitsOf (wordAt obsBytes 0) 11 8 = 1 ∧ frameSized obsBytes 48 96 = true ∧
    (machine7 1).stale 7 ((machine7 1).fullEpoch (wordAt obsBytes 4)) = false ∧
    (machine7 1).duplicate 7 ((machine7 1).fullEpoch (wordAt obsBytes 4)) = false ∧ ((machine7 1).smach 7).mode = 1 ∧
    (machine7 1).fullEpoch (wordAt obsBytes 4) % (machine7 1).epochMs = 0 ∧ (toSigned 32 (wordAt obsBytes 12)).natAbs ≤ 1000000 ∧
    (machine7 1).solv.queue.length < 512 ∧ wordAt ([] : List Byte) 0 % 256 ≠ 0xC5 ∧ zero.getF F.SOLV_REFUSED_COUNT + 1 < 2 ^ 32 := by decide

/-- A record of GPS satellite 5. -/
def gps5 : MeasRec :=
  { ch := 0, ant := 0, band := 0, sys := 0, svid := 5, flags := 255, cn0 := 450, lock := 5000, range := 22528000000, phase := 0, doppler := 0,
    half := false, slip := false, cause := 0, elev := 0, az := 0, noPartner := false, base := true }

/-- A payload of one RTCM 3 frame: an MSM4 of GPS satellite 5 for the epoch 10 s. -/
def msmBytes : List Byte := rtcmFrame (msmMessage 0 false 1 10000 0 false [gps5])
def rtcm7 : State := (machine7 1).setF (F.SOLV_MCFG_RTCM_IN 7) 1

def msmRead : MsmRead := (((rtcmSplit 100 msmBytes).toOption.getD []).filterMap readMsm).getD 0 ⟨0, true, true, [], []⟩

theorem test_witness_SolverInputs_rtcm : rtcm7.pagePowered 0x060 = true ∧ (rtcm7.smach 7).mode = 1 ∧ rtcm7.flag (F.SOLV_MCFG_RTCM_IN 7) = true ∧
    (match rtcmSplit (msmBytes.length + 1) msmBytes with
     | .ok msgs => decide ((msgs.filter fun p => isMsm (rtcmType p)).mapM readMsm = some [msmRead])
     | .error _ => false) = true ∧ joinSats ([msmRead].flatMap fun r => r.sats) ≠ [] ∧
    (joinSats ([msmRead].flatMap fun r => r.sats)).length ≤ 48 ∧ rtcm7.nearest 604800000 msmRead.epoch = 10000 ∧
    rtcm7.stale 7 10000 = false ∧ rtcm7.duplicate 7 10000 = false ∧ rtcm7.epochOk 10000 = true ∧ msmRead.more = false ∧
    rtcm7.solv.queue.length < 512 := by decide +kernel

theorem test_witness_SolverInputs_others : ((machine7 0).smach 7).mode ≠ 1 ∧ (machine7 1).flag (F.SOLV_MCFG_RTCM_IN 7) = false ∧
    (match rtcmSplit 2 [0] with
     | .ok _ => false
     | .error c => c == 2) = true ∧
    (bytesLE 0x000011C6 4 ++ bytesLE 10000 4 ++ List.replicate 16 0 : List Byte).length = 24 ∧
    wordAt (bytesLE 0x000011C6 4 ++ bytesLE 10000 4 ++ List.replicate 16 0) 0 % 256 = 0xC6 ∧
    bitsOf (wordAt (bytesLE 0x000011C6 4 ++ bytesLE 10000 4 ++ List.replicate 16 0) 0) 11 8 = 1 ∧
    1 ≤ bitsOf (wordAt (bytesLE 0x000011C6 4 ++ bytesLE 10000 4 ++ List.replicate 16 0) 0) 14 12 ∧
    bitsOf (wordAt (bytesLE 0x000001C6 4 ++ bytesLE 10000 4 ++ List.replicate 16 0) 0) 14 12 = 0 ∧ ((machine7 2).smach 7).mode = 2 ∧
    ((machine7 3).smach 7).mode = 3 ∧ (machine7 2).fullEpoch 10000 % (machine7 2).epochMs = 0 ∧ zero.opens core (0x60400 + 4 * 255) true = true := by
  decide

theorem test_witness_ScriptWords : ∀ op ∈ [0x02, 0x03, 0x04, 0x05, 0x06, 0x07, 0x08, 0x09, 0x0C, 0x0D],
    (atOp (op * 0x1000000)).atWord 0 0 op := by
  unfold State.atWord; decide

def ownSet (valid : Bool) : BaseSet := { member := 0, epoch := 10000, ant := 0, pos := (0, 0, 0), valid := valid, recs := [], doneAt := 0, own := true }
def based (valid : Bool) : State := { atOp 0x3000000 with gnss := { baseSets := [ownSet valid] } }

theorem test_witness_ScriptWords_ddform : (atOp 0x3000000).atWord 0 0 0x03 ∧
    (atOp 0x3000000).baseOf ((atOp 0x3000000).runMember frame7) 10000 = none ∧
    (based false).baseOf ((based false).runMember frame7) 10000 = some (ownSet false) ∧
    (based true).baseOf ((based true).runMember frame7) 10000 = some (ownSet true) ∧ (ownSet true).member = (based true).member ∧
    frame7.pair = none ∧ ({ frame7 with machine := 257 } : ObsFrame).pair ≠ none := by
  unfold State.atWord; decide

/-- Words of UPDATE, CHECK, VALIDATE, and the runs in which they differ. -/
def validating (searched : Bool) (norms : Nat × Nat) (set : List (Nat × Nat)) : State :=
  { later with solv := { ctxs := [(0, { run7 .running 0x9010003 with searched := searched, norms := norms, set := set })] } }

theorem test_witness_ScriptWords_branches : (run7 .running 0).rows 2 = [] ∧ frame7.doppler = false ∧
    250 * 1 * 2 ^ 32 < 10 * ([2 ^ 20].map fun n => n * n).sum ∧ 10 * (([] : List Nat).map fun n => n * n).sum ≤ 250 * 0 * 2 ^ 32 ∧
    (validating false (0, 0) []).wordA 0 0 = 1 ∧ (validating false (0, 0) []).wordB 0 0 = 3 ∧ (validating false (0, 0) []).atWord 0 0 0x09 ∧
    0 < (validating false (0, 0) []).wordA 0 0 ∧ (validating true (1, 0) []).getF F.SOLV_VALID_RATIO ≠ 0 ∧
    0 * 256 < (validating true (1, 0) []).getF F.SOLV_VALID_RATIO * 1 ∧
    (validating true (1, 1000) (List.replicate 64 (1, 5))).getF F.SOLV_PAR_MIN_AMB +
      (validating true (1, 1000) (List.replicate 64 (1, 5))).getF F.SOLV_PAR_DROP ≤ 64 ∧
    0 < (validating true (1, 1000) []).getF F.SOLV_PAR_MIN_AMB + (validating true (1, 1000) []).getF F.SOLV_PAR_DROP := by
  unfold State.atWord; decide

/-- The state slots stand in general SRAM, the transfer address behind them. -/
def slotted (s : State) : State := (s.setF F.SOLV_STATE_BASE_BASE 0x13800).setF F.SOLV_XFER_ADDR_ADDR 0x13C00

/-- A slot of machine 7 without satellites, its CRC word `w`. -/
@[irreducible] def emptySlot (w : Nat) : List Byte := ({} : FilterState).slotBytes 7 w

theorem padBytes_zeros {n k : Nat} {l : List Byte} (h : l.length + k ≤ n) :
    padBytes n (l ++ List.replicate k 0) = l ++ List.replicate (n - l.length) 0 := by
  unfold padBytes
  rw [List.length_append, List.length_replicate, List.append_assoc, ← List.replicate_add]
  congr 2
  omega

/-- Its head: seven words and the CRC word. -/
def slotHead7 : List Byte := bytesLE 0xA9010700 4 ++ List.replicate 8 0 ++ bytesLE 0x60000 4 ++ List.replicate 12 0
def slotHead (w : Nat) : List Byte := slotHead7 ++ bytesLE w 4

theorem slotHead_length (w : Nat) : (slotHead w).length = 32 := rfl

theorem slot_pads {h x p : List Byte} {w : Nat} (hh : h = slotHead w) (hx : x = List.replicate 48 0) (hp : p = List.replicate 168 0) :
    padBytes 0x18000 (padBytes 0x1000 (padBytes 0x600 (padBytes 0x100 h ++ x) ++ []) ++ p) =
      slotHead7 ++ (bytesLE w 4 ++ List.replicate (0x18000 - 32) 0) := by
  have h0 : padBytes 0x100 (slotHead w) = slotHead w ++ List.replicate (0x100 - 32) 0 := rfl
  have hl := slotHead_length w
  subst hh hx hp
  rw [h0, List.append_assoc, ← List.replicate_add, padBytes_zeros (l := slotHead w) (by omega), hl, List.append_nil,
    padBytes_zeros (l := slotHead w) (by omega), hl, List.append_assoc, ← List.replicate_add, padBytes_zeros (l := slotHead w) (by omega), hl,
    slotHead, List.append_assoc]

theorem emptySlot_eq (w : Nat) : emptySlot w = slotHead7 ++ (bytesLE w 4 ++ List.replicate (0x18000 - 32) 0) := by
  unfold emptySlot FilterState.slotBytes
  exact slot_pads rfl (by decide) (by decide)

theorem emptySlot_length (w : Nat) : (emptySlot w).length = 0x18000 := by
  rw [emptySlot_eq, List.length_append, List.length_append, bytesLE_length, List.length_replicate]; rfl

/-- The CRC a slot calls for does not depend on its CRC word. -/
theorem emptySlot_crc (w : Nat) : slotCrc (emptySlot w) = crc32 (emptySlot 0) := by
  have h28 : slotHead7.length = 28 := rfl
  unfold slotCrc
  rw [emptySlot_eq w, emptySlot_eq 0, List.take_append_of_le_length (by rw [h28]), List.take_of_length_le (by rw [h28]),
    List.drop_append, h28, List.drop_of_length_le (by rw [h28]; omega), List.nil_append, List.drop_append, bytesLE_length,
    List.drop_of_length_le (by rw [bytesLE_length]), List.nil_append, List.append_assoc]
  rfl

theorem emptySlot_word (w : Nat) : wordAt (emptySlot w) 0x1C = w % 2 ^ 32 := by
  have h28 : slotHead7.length = 28 := rfl
  unfold wordAt
  rw [emptySlot_eq w, List.drop_append, h28, List.drop_of_length_le (by rw [h28]), Nat.sub_self, List.drop_zero, List.nil_append,
    List.take_append_of_le_length (by rw [bytesLE_length]), List.take_of_length_le (by rw [bytesLE_length])]
  simp only [bytesLE, leValue, BitVec.toNat_ofNat]
  omega

theorem emptySlot_valid (w : Nat) : slotValid (emptySlot w) = (crc32 (emptySlot 0) == w % 2 ^ 32) := by
  simp only [slotValid, emptySlot_length, emptySlot_crc, emptySlot_word, beq_self_eq_true, Bool.true_and]

theorem crc32_lt (l : List Byte) : crc32 l < 2 ^ 32 := by
  have hbit (c : Nat) (h : c < 2 ^ 32) : crc32Bit c < 2 ^ 32 := by
    unfold crc32Bit
    split
    · exact Nat.xor_lt_two_pow (by omega) (by decide)
    · omega
  have hfrom (l : List Byte) (c : Nat) (h : c < 2 ^ 32) : crc32From c l < 2 ^ 32 := by
    induction l generalizing c with
    | nil => exact h
    | cons b l ih =>
      refine ih _ ?_
      unfold crc32Byte
      have hb : c ^^^ b.toNat < 2 ^ 32 := Nat.xor_lt_two_pow h (lt_trans b.isLt (by decide))
      exact hbit _ (hbit _ (hbit _ (hbit _ (hbit _ (hbit _ (hbit _ (hbit _ hb)))))))
  exact Nat.xor_lt_two_pow (hfrom l _ (by decide)) (by decide)

/-- A slot written whole by a Bare client in general SRAM meets no fault. -/
theorem slotWrite_bare {s : State} {c i va : Nat} {b : List Byte} {commit : Bool} (h : s.bare c i) (hr : inGeneral va 0x18000)
    (hl : b.length = 0x18000) : (s.slotWrite c i va b commit).1 = none := by
  have h4 : inGeneral va (b.take 4).length := by rw [List.length_take]; unfold inGeneral at *; omega
  have h8 : inGeneral (va + 8) (b.drop 8).length := by rw [List.length_drop]; unfold inGeneral at *; omega
  have hw : inGeneral (va + 4) ((b.drop 4).take 4).length := by rw [List.length_take]; unfold inGeneral at *; omega
  unfold State.slotWrite
  rw [State.clientWrite_bare h h4]
  simp only
  rw [State.clientWrite_bare (State.storeBytes_bare h) h8]
  cases commit
  · rfl
  · simp only [if_true]
    rw [State.clientWrite_bare (State.storeBytes_bare (State.storeBytes_bare h)) hw]

theorem slot_length {f : FilterState} {m : Nat} (hs : f.sats = []) (hx : f.x = []) (hp : f.p = []) : (f.slot m).length = 0x18000 := by
  unfold FilterState.slot FilterState.slotBytes
  simp only [hs, hx, hp, FilterState.k, padBytes, wordsBytes, List.length_append, List.length_replicate, List.length_flatMap, List.map_cons,
    List.map_nil, List.sum_cons, List.sum_nil, bytesLE_length, List.length_nil, fit, nstate, List.take_nil, List.nil_append,
    List.map_replicate, List.sum_replicate, smul_eq_mul, Nat.max_eq_left, Nat.zero_le]
  decide

/-- LOAD and STORE of machine 7 with its slots in general SRAM, and with slots at 0, where no memory is. -/
theorem test_witness_ScriptLoadStoreFixEnd : (atOp 0x1000000).atWord 0 0 0x01 ∧ (atOp 0xA000000).atWord 0 0 0x0A ∧ (atOp 0xB000000).atWord 0 0 0x0B ∧
    (atOp 0).atWord 0 0 0x00 ∧ (atOp 0).solv.cmd = none ∧ (atOp 0).getF (F.ASTER_RUNS_COUNT 0) + 1 < 2 ^ 32 ∧
    (slotted (atOp 0x1000000)).atWord 0 0 0x01 ∧ (slotted (atOp 0xB000000)).atWord 0 0 0x0B ∧ (run7 .running 0).dropped = false ∧
    (slotted (atOp 0xB000000)).pairActive = false ∧ (run7 .running 0).nodd = 0 ∧
    ((atOp 0x1000000).clientRead 1 0 ((atOp 0x1000000).slotVa 7 0) 0x18000).1.fault ≠ none ∧
    ((atOp 0xB000000).clientAddr 1 0 ((atOp 0xB000000).slotVa 7 0) true).1.isLeft = true := by
  unfold State.atWord; decide

theorem test_witness_ScriptLoadStoreFixEnd_load : let s := slotted (atOp 0x1000000)
    let a := s.clientRead 1 (2 * 0 + 0) (s.slotVa 7 0) 0x18000
    a.1.fault = none ∧ (a.2.clientRead 1 (2 * 0 + 0) (s.slotVa 7 1) 0x18000).1.fault = none := by
  have hb : (slotted (atOp 0x1000000)).bare 1 0 := ⟨by decide, rfl, by decide⟩
  have ha : (slotted (atOp 0x1000000)).slotVa 7 0 = 0x13950000 := by decide
  have h1 : (slotted (atOp 0x1000000)).slotVa 7 1 = 0x13968000 := by decide
  simp only [ha, h1, Nat.mul_zero, Nat.add_zero]
  rw [State.clientRead_bare hb (by unfold inGeneral; omega)]
  exact ⟨rfl, by rw [State.clientRead_bare hb (by unfold inGeneral; omega)]⟩

theorem test_witness_ScriptLoadStoreFixEnd_store : let s := slotted (atOp 0xB000000)
    let c := s.ctx 0 0
    (s.slotWrite 1 (2 * 0 + 0) (s.slotVa 7 (1 - c.slot)) (c.commitState.slot 7) true).1 = none ∧ c.dropped = false := by
  have hb : (slotted (atOp 0xB000000)).bare 1 0 := ⟨by decide, rfl, by decide⟩
  have ha : (slotted (atOp 0xB000000)).slotVa 7 (1 - ((slotted (atOp 0xB000000)).ctx 0 0).slot) = 0x13950000 := by decide
  refine ⟨?_, by decide⟩
  rw [ha]
  exact slotWrite_bare hb (by unfold inGeneral; omega) (slot_length (by decide) (by decide) (by decide))

/-- A frame that waits, tile 0 enabled. -/
def queued : State := { (later.setF F.SOLV_TILES_EN 1) with solv := { queue := [{ frame7 with order := 2, deadline := 1000 }] } }
def preempting : State := { (queued.setF F.SOLV_CTRL_PREEMPT_EN 1) with
  solv := { queue := [{ frame7 with machine := 8, order := 2, deadline := 1000 }], ctxs := [(0, run7 .running 0)] } }

theorem test_witness_TileCommands : queued.pagePowered 0x060 = true ∧ queued.solv.ctxs = [] ∧ queued.tileTakes 0 = true ∧
    queued.nextFrame = some { frame7 with order := 2, deadline := 1000 } ∧ (queued.setF F.SOLV_CTRL_PREEMPT_EN 0).flag F.SOLV_CTRL_PREEMPT_EN = false ∧
    preempting.nextFrame = some { frame7 with machine := 8, order := 2, deadline := 1000 } ∧ preempting.flag F.SOLV_CTRL_PREEMPT_EN = true ∧
    preempting.getF F.SOLV_TILES_EN = 1 ∧ preempting.running 0 = some 0 ∧ (preempting.ctx 0 1).st = CtxState.free ∧
    preempting.flag (F.ASTER_CTRL_HOLD 0) = false ∧ preempting.flag (F.PG_STAT_FAULT 0x061) = false ∧
    1000 + 1000 * preempting.getF F.SOLV_PREEMPT_US < (preempting.ctx 0 0).frame.deadline ∧
    zero.opens core (0x61040 + 0x1000 * 15) true = true ∧ ((atOp 0).ctx 0 0).st ≠ CtxState.free ∧ ((atOp 0).ctx 0 0).test = false ∧
    ((atOp 0).ctx 0 0).fixed = false ∧ zero.solv.cmd = none ∧ zero.opens core (0x61058 + 0x1000 * 15) true = true ∧
    ({ zero with solv := { ctxs := [(0, run7 .running 0), (1, run7 .ready 0)] } } : State).freeCtx 0 = none ∧ zero.freeCtx 0 = some 0 ∧
    (atOp 0).freeCtx 0 = some 1 ∧
    (({ zero with solv := { ctxs := [(0, { run7 .running 0 with test := true })] } } : State).ctx 0 0).test = true := by decide

theorem test_witness_SolverEpochs_edges : later.pagePowered 0x060 = true ∧ later.edgeDue 3 (later.epochMs * 1000000) = some 10000000000 ∧
    (machine7 1).edgeDue 3 ((machine7 1).epochMs * 1000000) = some 10000000000 ∧ (machine7 1).getF (F.SOLV_MCFG_MODE 7) ≠ 1 ∧
    (later.setF F.SOLV_STAT_BANK_PENDING 1).flag F.SOLV_STAT_BANK_PENDING = true ∧
    (later.setF F.SOLV_STAT_EPOCH_PENDING 1).flag F.SOLV_STAT_EPOCH_PENDING = true ∧ later.edgeDue 4 200000000 = some 10000000000 ∧
    zero.opens core 0x60040 true = true ∧ 1 ≠ zero.getF F.SOLV_STAT_BANK_ACTIVE := by decide

/-- NONE_EVT: machine 7, mode 1, at 10 s, the epochs before counted or not; and one whose epoch had a fix. -/
theorem test_witness_SolverEpochs_none : let s := (machine7 1).setF F.SOLV_NONE_LIMIT_EPOCHS 1
    let len := s.epochMs * 1000000
    let n := (s.taiNs - 1 - s.getF F.SOLV_DEADLINE_US * 1000) / len * len
    let after : State := { s with time := { s.time with edges := [(5, n - len)] } }
    7 < 256 ∧ s.pagePowered 0x060 = true ∧ Assoc.get (fun _ => 0) s.time.edges 5 < n ∧ Assoc.get (fun _ => 0) s.time.edges 5 = 0 ∧
    Assoc.get (fun _ => 0) after.time.edges 5 < n ∧ n = Assoc.get (fun _ => 0) after.time.edges 5 + len ∧
    Assoc.get (fun _ => 0) after.time.edges 5 % len = 0 ∧ after.time.jump = none ∧
    s.getF F.SOLV_NONE_LIMIT_EPOCHS ≠ 0 ∧ (s.smach 7).mode ≠ 0 ∧ (s.smach 7).good.elem ((n - len) / 1000000) = false ∧
    ({ s.smach 7 with good := [(n - len) / 1000000] } : SolvMachine).good.elem ((n - len) / 1000000) = true ∧
    (s.smach 7).logged = false ∧ s.getF F.SOLV_NONE_LIMIT_EPOCHS ≤ (s.smach 7).none_ + 1 ∧
      0 + 1 < (s.setF F.SOLV_NONE_LIMIT_EPOCHS 2).getF F.SOLV_NONE_LIMIT_EPOCHS := by
  decide

def baseSet (m : Nat) : BaseSet := ⟨m, 9000, 0, (0, 0, 0), true, [], 0, true⟩

theorem test_witness_SolverEpochs_share : let s := { later with gnss := { baseSets := [baseSet 0] } }
    s.pagePowered 0x060 = true ∧ s.localBase 9000 = some (baseSet 0) ∧ s.shareWaitOver 9000 = true ∧ s.solv.expired.elem 9000 = false ∧
    later.shareWaitOver 10000 = false ∧ later.shareWaitOver 9000 = true := by decide

/-- A run of machine 7 in process when it leaves mode 1. -/
def leaving : State := { machine7 1 with solv := { (machine7 1).solv with ctxs := [(0, run7 .running 0)] } }

theorem test_witness_SolverEpochs_leave : leaving.edgeDue 3 (leaving.epochMs * 1000000) = some 10000000000 ∧
    (leaving.ctx 0 0).st ≠ CtxState.free ∧ (leaving.ctx 0 0).test = false ∧ (leaving.smach (leaving.ctx 0 0).frame.machine).mode = 1 ∧
    leaving.getF (F.SOLV_MCFG_MODE (leaving.ctx 0 0).frame.machine) ≠ 1 ∧ leaving.flag F.SOLV_STAT_BANK_PENDING = false := by decide

/-- The two halves of BANK: a script LOAD, PREDICT, DDFORM, FIXOUT, STORE, END obeys R134, one of zeros does not. -/
def scripted : State :=
  (List.zip (List.range 6) [0x1000000, 0x2000000, 0x3000000, 0xA000000, 0xB000000, 0]).foldl (fun s p => s.setF (F.SOLV_SCRIPT_B_WORD p.1) p.2) zero

theorem test_witness_SolverEpochs_bank : bankOk (scripted.bankWords 1) = true := by decide

theorem test_witness_SolverEpochs_badBank : bankOk (List.replicate 64 0) = false := by decide

/-- Slots with the given CRC words at machine 7's two places and at the transfer address. -/
@[irreducible] def slots (w0 w1 wx : Nat) : State :=
  (((slotted zero).storeBytes 0x13950000 (emptySlot w0)).storeBytes 0x13968000 (emptySlot w1)).storeBytes 0x13C00000 (emptySlot wx)

theorem slots_regs (w0 w1 wx : Nat) : (slots w0 w1 wx).regs = (slotted zero).regs ∧ (slots w0 w1 wx).mem.ecc = [] := by
  unfold slots
  rw [State.storeBytes_only, State.storeBytes_only (State.storeBytes _ _ _), State.storeBytes_only (slotted zero)]
  exact ⟨rfl, rfl⟩

theorem busy_regs {s t : State} (h : s.regs = t.regs) : (s.setFlag F.SOLV_CMD_STAT_BUSY true).regs = (t.setFlag F.SOLV_CMD_STAT_BUSY true).regs := by
  unfold State.setFlag State.setF State.setReg State.reg
  rw [h]
  rfl

theorem slots_bare (w0 w1 wx : Nat) (k : Nat) :
    ({ (slots w0 w1 wx).setFlag F.SOLV_CMD_STAT_BUSY true with solv := { (slots w0 w1 wx).solv with cmd := some (k, 7) } } : State).bare 2 0 := by
  refine ⟨by decide, ?_, .inr ?_⟩
  · show ((slots w0 w1 wx).setFlag F.SOLV_CMD_STAT_BUSY true).mem.ecc = []
    simpa using (slots_regs w0 w1 wx).2
  · unfold State.clientCtx State.getF State.reg
    simp only [busy_regs (slots_regs w0 w1 wx).1]
    decide

theorem slots_reads (w0 w1 wx : Nat) : (slots w0 w1 wx).physBytes 0x13950000 0x18000 = emptySlot w0 ∧
    (slots w0 w1 wx).physBytes 0x13968000 0x18000 = emptySlot w1 ∧ (slots w0 w1 wx).physBytes 0x13C00000 0x18000 = emptySlot wx := by
  have l (w : Nat) : 0x18000 = (emptySlot w).length := (emptySlot_length w).symm
  have g (w a : Nat) (h : 0x13800000 ≤ a ∧ a + 0x18000 ≤ 0x13E00000) : inGeneral a (emptySlot w).length := by
    rw [emptySlot_length]; exact h
  refine ⟨?_, ?_, ?_⟩
  · rw [slots, State.physBytes_storeBytes_other (by unfold inGeneral; omega) (by omega),
      State.physBytes_storeBytes_other (by unfold inGeneral; omega) (by omega), l w0, State.physBytes_storeBytes_same (g w0 _ (by omega))]
  · rw [slots, State.physBytes_storeBytes_other (by unfold inGeneral; omega) (by omega), l w1,
      State.physBytes_storeBytes_same (g w1 _ (by omega))]
  · rw [slots, l wx, State.physBytes_storeBytes_same (g wx _ (by omega))]

/-- What IMPORT and EXPORT of machine 7 read. -/
theorem slots_filter (w0 w1 wx k : Nat) : let s := slots w0 w1 wx
    let s0 : State := { s.setFlag F.SOLV_CMD_STAT_BUSY true with solv := { s.solv with cmd := some (k, 7) } }
    let a := s0.clientRead 2 0 (s0.slotVa 7 0) 0x18000
    let b := a.2.clientRead 2 0 (s0.slotVa 7 1) 0x18000
    let n := b.2.clientRead 2 0 (s0.getF F.SOLV_XFER_ADDR_ADDR * 0x1000) 0x18000
    a.1 = ⟨emptySlot w0, none, false⟩ ∧ b.1 = ⟨emptySlot w1, none, false⟩ ∧ n = (⟨emptySlot wx, none, false⟩, s0) ∧ b.2 = s0 := by
  intro s s0 a b n
  have hb : s0.bare 2 0 := slots_bare w0 w1 wx k
  have hg : s0.slotVa 7 0 = 0x13950000 ∧ s0.slotVa 7 1 = 0x13968000 ∧ s0.getF F.SOLV_XFER_ADDR_ADDR * 0x1000 = 0x13C00000 := by
    have hr : s0.regs = ((slotted zero).setFlag F.SOLV_CMD_STAT_BUSY true).regs := by
      exact busy_regs (slots_regs w0 w1 wx).1
    unfold State.slotVa State.getF State.reg
    rw [hr]
    decide
  have hm : s0.mem = s.mem := by show (s.setFlag F.SOLV_CMD_STAT_BUSY true).mem = _; simp
  obtain ⟨r0, r1, rx⟩ := slots_reads w0 w1 wx
  have ha : a = (⟨emptySlot w0, none, false⟩, s0) := by
    show s0.clientRead 2 0 (s0.slotVa 7 0) 0x18000 = _
    rw [hg.1, State.clientRead_bare hb (by unfold inGeneral; omega), State.physBytes_congr hm, r0]
  have hb' : b = (⟨emptySlot w1, none, false⟩, s0) := by
    show a.2.clientRead 2 0 (s0.slotVa 7 1) 0x18000 = _
    rw [ha, hg.2.1, State.clientRead_bare hb (by unfold inGeneral; omega), State.physBytes_congr hm, r1]
  have hn : n = (⟨emptySlot wx, none, false⟩, s0) := by
    show b.2.clientRead 2 0 (s0.getF F.SOLV_XFER_ADDR_ADDR * 0x1000) 0x18000 = _
    rw [hb', hg.2.2, State.clientRead_bare hb (by unfold inGeneral; omega), State.physBytes_congr hm, rx]
  exact ⟨by rw [ha], by rw [hb'], hn, by rw [hb']⟩

/-- A slot whose CRC word is right is valid and imported; one whose CRC word is one more is not. -/
theorem emptySlot_good {w : Nat} (h : w = crc32 (emptySlot 0)) : slotValid (emptySlot w) = true := by
  have hlt := crc32_lt (emptySlot 0)
  rw [emptySlot_valid, ← h]
  rw [← h] at hlt
  exact beq_iff_eq.mpr (Nat.mod_eq_of_lt hlt).symm

theorem emptySlot_bad {w : Nat} (h : w = crc32 (emptySlot 0)) : slotValid (emptySlot (w + 1)) = false := by
  rw [emptySlot_valid, ← h]
  exact beq_eq_false_iff_ne.mpr (by omega)

theorem emptySlot_mark (w : Nat) : wordAt (emptySlot w) 0 = 0xA9010700 := by
  unfold wordAt
  rw [emptySlot_eq, List.drop_zero, List.take_append_of_le_length (by decide)]
  decide

theorem chooseSlot_first {a b : List Byte} (ha : slotValid a = true) (hb : slotValid b = false) : chooseSlot a b = some (0, a) := by
  simp only [chooseSlot, ha, hb]

theorem chooseSlot_none {a b : List Byte} (ha : slotValid a = false) (hb : slotValid b = false) : chooseSlot a b = none := by
  simp only [chooseSlot, ha, hb]

theorem importValid_of {m : Nat} {b : List Byte} (hv : slotValid b = true) (h0 : wordAt b 0 = 0xA9010000 + 256 * m) (hm : m < 256) :
    importValid m b = true := by
  simp only [importValid, hv, h0, Bool.true_and, Bool.and_eq_true, beq_iff_eq, bitsOf]
  omega

theorem importValid_bad {m : Nat} {b : List Byte} (hv : slotValid b = false) : importValid m b = false := by
  simp only [importValid, hv, Bool.false_and]

theorem test_witness_FilterTransfers_slots : ∃ good, importValid 7 (emptySlot good) = true ∧ importValid 7 (emptySlot (good + 1)) = false ∧
    chooseSlot (emptySlot good) (emptySlot (good + 1)) = some (0, emptySlot good) ∧
    chooseSlot (emptySlot (good + 1)) (emptySlot (good + 1)) = none :=
  ⟨_, importValid_of (emptySlot_good rfl) (emptySlot_mark _) (by decide), importValid_bad (emptySlot_bad rfl),
    chooseSlot_first (emptySlot_good rfl) (emptySlot_bad rfl), chooseSlot_none (emptySlot_bad rfl) (emptySlot_bad rfl)⟩

theorem test_witness_FilterTransfers : zero.opens core 0x600A8 true = true ∧ (fieldSet F.SOLV_CMD_STAT_BUSY 1).flag F.SOLV_CMD_STAT_BUSY = true ∧
    zero.flag F.SOLV_CMD_STAT_BUSY = false ∧ (atOp 0).inProcess 7 = true ∧ zero.inProcess 7 = false := by decide

/-! ## Zone store -/

/-- A level 0 key and the zone id 1 staged. -/
def stagedAt (w1 : Nat) : State := fieldSet (F.ZONE_ENTRY_WORD 1) w1

/-- Level 0 has a table of two buckets at bucket 0. -/
def tabled : State := (stagedAt 0x10001).setF (F.ZONE_LVL_LOG2_BUCKETS 0) 1

/-- Slot 0 of both buckets holds the key. -/
def holding : State := { tabled with mem := { bytes := [(0x10000004, 1), (0x10000006, 1), (0x10000044, 1), (0x10000046, 1)] } }

theorem test_witness_ZoneCommands : zero.opens core 0x80040 true = true ∧ (fieldSet (F.ZONE_LVL_LOG2_BUCKETS 16) 17).levelsOk = false ∧
    zero.levelsOk = true ∧ zero.opens core 0x80090 true = true ∧
    (fieldSet F.ZONE_CMD_STAT_BUSY 1).flag F.ZONE_CMD_STAT_BUSY = true ∧ zero.flag F.ZONE_CMD_STAT_BUSY = false ∧ zero.notActive = false ∧
    zero.role = 0 ∧ zero.stagedZone.ok = false ∧ (stagedAt 0x10045).stagedZone.keyOk = false ∧ (stagedAt 0x10041).stagedZone.keyOk = true ∧
    (stagedAt 0xFFFF0001).stagedZone.ok = false ∧ tabled.stagedZone.ok = true ∧
    (stagedAt 0x10001).zoneBuckets (stagedAt 0x10001).stagedZone.w0 (stagedAt 0x10001).stagedZone.level = none ∧
    tabled.zoneFind tabled.stagedZone.w0 tabled.stagedZone.level = none ∧ tabled.getF F.ZONE_STAT_USED < 262144 := by
  decide +kernel

theorem test_witness_ZoneCommands_insert : (match tabled.zoneBuckets tabled.stagedZone.w0 tabled.stagedZone.level with
      | some (b1, b2) => decide (tabled.freeSlot b1 = some (slotAddr b1 0)) && (b1 != b2)
      | none => false) = true := by decide +kernel

/-- Slots of bucket `b` that hold other keys. -/
def filledBucket (b : Nat) : List Host.Cell :=
  (List.range 4).flatMap fun i => [(0x10000000 + 64 * b + 16 * i, 1), (0x10000004 + 64 * b + 16 * i, 1), (0x10000006 + 64 * b + 16 * i, 1)]

/-- Both buckets of the key full, and one of them. -/
def crowded : State := { tabled.setF F.ZONE_MAXKICK_STEPS 0 with mem := { bytes := filledBucket 0 ++ filledBucket 1 } }

theorem test_witness_ZoneCommands_full : (match crowded.zoneBuckets crowded.stagedZone.w0 crowded.stagedZone.level with
      | some (b1, b2) => decide (crowded.freeSlot b1 = none) && decide (crowded.freeSlot b2 = none) &&
        decide (crowded.chain 0 b1 [] (crowded.getF F.ZONE_MAXKICK_STEPS) = none) &&
        (let half : State := { tabled with mem := { bytes := filledBucket b1 } }
         decide (half.freeSlot b1 = none) && decide (half.freeSlot b2 = some (slotAddr b2 0)) &&
         decide (half.zoneFind half.stagedZone.w0 half.stagedZone.level = none))
      | none => false) = true ∧ crowded.stagedZone.ok = true ∧
    crowded.zoneFind crowded.stagedZone.w0 crowded.stagedZone.level = none := by decide +kernel

theorem test_witness_ZoneCommands_found : (holding.zoneFind holding.stagedZone.w0 holding.stagedZone.level).isSome = true ∧
    holding.stagedZone.ok = true ∧ holding.stagedZone.keyOk = true := by decide +kernel

/-- A site image without cells and zones, its address staged. -/
def imageHead : List Byte := bytesLE 0x4B524D42 4 ++ bytesLE 1 4 ++ List.replicate 0x24 0 ++ bytesLE 64 4 ++ List.replicate 12 0 ++ bytesLE 2838448920 4
def imaged : State := { fieldSet F.ZONE_IMG_ADDR_ADDR 0x13800000 with
  mem := { bytes := [(0x13800000, 0x42), (0x13800001, 0x4D), (0x13800002, 0x52), (0x13800003, 0x4B), (0x13800004, 1), (0x1380002C, 64),
    (0x1380003C, 0x18), (0x1380003D, 0x4B), (0x1380003E, 0x2F), (0x1380003F, 0xA9)] } }

theorem test_witness_ZoneLoadAndCompletion : (fieldSet F.ZONE_CTRL_LOOKUP_EN 1).flag F.ZONE_CTRL_LOOKUP_EN = true ∧
    zero.flag F.ZONE_CTRL_LOOKUP_EN = false ∧ (fieldSet F.ZONE_IMG_ADDR_ADDR 0x13800020).getF F.ZONE_IMG_ADDR_ADDR % 64 ≠ 0 ∧
    imaged.getF F.ZONE_IMG_ADDR_ADDR % 64 = 0 ∧ imaged.opens core 0x80090 true = true ∧ imaged.flag F.ZONE_CMD_STAT_BUSY = false ∧
    zero.zone.owed = [] ∧ ({ owed := [(0x10000000, [])] } : ZoneSt).owed ≠ [] ∧ holding.usedSlots ≠ [] ∧
    zero.pagePowered 0x080 = true ∧ zero.zone.loading = false ∧ zero.zone.result < 16 ∧ zero.zone.xtabResult < 16 ∧
    (fieldSet F.XTAB_CMD_STAT_BUSY 1).flag F.XTAB_CMD_STAT_BUSY = true := by decide

theorem test_witness_ZoneLoadAndCompletion_image :
    let h := (imaged.setFlag F.ZONE_CMD_STAT_BUSY true).clientRead 0x0C 0 (imaged.getF F.ZONE_IMG_ADDR_ADDR) 64
    let d := h.2.clientRead 0x0C 0 (imaged.getF F.ZONE_IMG_ADDR_ADDR + 64) 0
    h.1.fault = none ∧ h.1.bad = false ∧ h.1.data = imageHead ∧ h.2.imageHeadOk h.1.data = true ∧ d.1.fault = none ∧ d.1.bad = false ∧
    crc32 (h.1.data.take 0x3C ++ [0, 0, 0, 0] ++ d.1.data) = leValue ((h.1.data.drop 0x3C).take 4) ∧ d.2.imageBodyOk [] [] = true := by
  decide +kernel

/-- An image whose header is not right. -/
theorem test_witness_ZoneLoadAndCompletion_head : let s := fieldSet F.ZONE_IMG_ADDR_ADDR 0x13800000
    let h := (s.setFlag F.ZONE_CMD_STAT_BUSY true).clientRead 0x0C 0 (s.getF F.ZONE_IMG_ADDR_ADDR) 64
    h.1.fault = none ∧ h.1.bad = false ∧ h.2.imageHeadOk h.1.data = false := by decide +kernel

theorem test_witness_TableCommands : zero.opens core 0x81054 true = true ∧ zero.flag F.XTAB_CMD_STAT_BUSY = false ∧
    (fieldSet F.XTAB_CMD_STAT_BUSY 1).flag F.XTAB_CMD_STAT_BUSY = true ∧ zero.machIndexResult 0x1000 = 1 ∧ zero.machIndexResult 0x100 = 2 ∧
    zero.machIndexResult 0xFF = 0 ∧ zero.cellIndexResult 0x10000 = 2 ∧ zero.cellIndexResult 0 = 1 ∧
    (fieldSet F.XTAB_CELL_COUNT_COUNT 65536).cellIndexResult 0xFFFF = 0 ∧
    machineRecordOk (fieldSet (F.XTAB_STAGE_WORD 3) 1).staged = false ∧ machineRecordOk zero.staged = true ∧
    cellRecordOk 0 65536 (fieldSet (F.XTAB_STAGE_WORD 12) 1).staged = false ∧ cellRecordOk 0 65536 zero.staged = true ∧
    zero.rst.held = false ∧ zero.flag (F.PG_ERR_INFO_VALID 0x091) = false := by decide

/-- The shadow engine compares machine records; its shadow stands in general SRAM. -/
def shadowing : State := { (((zero.setF F.SHADOW_CTRL_EN 1).setF F.SHADOW_CTRL_REGION_EN 7).setF F.SHADOW_BASE_BASE 0x13800) with zone := { region := 0 } }

theorem test_witness_ShadowEngine : zero.zone.check = none ∧ zero.flag F.SHADOW_CTRL_EN = false ∧ shadowing.zone.check = none ∧
    ({ zero with mem := { dtuPaused := [(0x0B, 0)] } } : State).dtuIsPaused 0x0B 0 = true ∧
    ((shadowing.setF F.SHADOW_BASE_BASE 0x50000).clientRead 0x0B 0 ((shadowing.setF F.SHADOW_BASE_BASE 0x50000).getF F.SHADOW_BASE_BASE * 0x1000 + 0) 0x1000).1.fault ≠ none ∧ shadowing.pagePowered 0x082 = true ∧
    shadowing.flag F.SHADOW_CTRL_EN = true ∧ shadowing.dtuIsPaused 0x0B 0 = false ∧
    bitAt (shadowing.getF F.SHADOW_CTRL_REGION_EN) shadowing.zone.region = true ∧ shadowing.zone.discards < 2 ∧
    2 ≤ { shadowing with zone := { discards := 2 } }.zone.discards ∧ shadowing.getF F.SHADOW_SKIPPED_COUNT + 1 < 2 ^ 32 ∧
    zero.opens core 0x82064 true = true := by decide

/-- A client's read of one whole page that holds no bad word. -/
theorem clientRead_page (s : State) (c i va pa : Nat) (h : s.clientAddr c i va false = (.inr pa, s)) (he : s.mem.ecc = [])
    (ha : va % 0x1000 = 0) : s.clientRead c i va 0x1000 = (⟨s.physBytes pa 0x1000, none, false⟩, s) := by
  simp [State.clientRead, State.clientReadPages, h, ha, State.eccRead, State.badWords, he]

theorem memBytes_empty (s : State) (h : s.mem.bytes = []) (a n : Nat) : s.memBytes a n = List.replicate n 0 := by
  induction n generalizing a with
  | zero => rfl
  | succ n ih => simp [State.memBytes, State.memByte, h, Assoc.get, memDefault, ih, List.replicate_succ]

theorem physBytes_empty (s : State) (h : s.mem.bytes = []) (a n : Nat) (h1 : 0x20000 ≤ a) (h2 : a + n ≤ 0x60000000) :
    s.physBytes a n = List.replicate n 0 := by
  induction n generalizing a with
  | zero => rfl
  | succ n ih =>
    have e : ¬ a < 0x20000 ∧ ¬ 0x60000000 ≤ a := by omega
    simp [State.physBytes, State.physByte, e, State.memByte, h, Assoc.get, memDefault, ih (a + 1) (by omega) (by omega), List.replicate_succ]

theorem memBytes_head (s : State) (a n : Nat) (h : 0 < n) : (s.memBytes a n).head? = some (s.memByte a) := by
  cases n with
  | zero => omega
  | succ n => rfl

theorem physBytes_head (s : State) (a n : Nat) (h : 0 < n) : (s.physBytes a n).head? = some (s.physByte a) := by
  cases n with
  | zero => omega
  | succ n => rfl

theorem test_witness_ShadowEngine_equal :
    let off := (shadowRegion shadowing.zone.region).1 + 0x1000 * shadowing.zone.block
    let sh := shadowing.clientRead 0x0B 0 (shadowing.getF F.SHADOW_BASE_BASE * 0x1000 + off) 0x1000
    sh.1.fault = none ∧ sh.1.bad = false ∧ sh.2.badWords (0x10000000 + off) 0x1000 = [] ∧
    sh.2.memBytes (0x10000000 + off) 0x1000 = sh.1.data ∧ sh.2.zone.block + 1 < (shadowRegion sh.2.zone.region).2 := by
  intro off sh
  have e : sh = (⟨shadowing.physBytes 0x13800000 0x1000, none, false⟩, shadowing) := clientRead_page _ _ _ _ _ (by decide +kernel) rfl (by decide)
  rw [e]
  refine ⟨rfl, rfl, rfl, ?_, by decide⟩
  rw [memBytes_empty _ rfl, physBytes_empty _ rfl _ _ (by decide) (by decide)]

/-- The same block, to be checked after a table error. -/
theorem test_witness_ShadowEngine_check : let s : State := { shadowing with zone := { check := some (0, 0) } }
    let sh := s.clientRead 0x0B 0 (s.getF F.SHADOW_BASE_BASE * 0x1000 + ((shadowRegion 0).1 + 0x1000 * 0)) 0x1000
    s.zone.check = some (0, 0) ∧ s.zone.check ≠ none ∧ sh.1.fault = none ∧ sh.1.bad = false ∧
      sh.2.badWords (0x10000000 + (shadowRegion 0).1) 0x1000 = [] ∧
    sh.2.memBytes (0x10000000 + (shadowRegion 0).1 + 0x1000 * 0) 0x1000 = sh.1.data ∧ 0 + 1 < (shadowRegion 0).2 := by
  intro s sh
  have e : sh = (⟨s.physBytes 0x13800000 0x1000, none, false⟩, s) := clientRead_page _ _ _ _ _ (by decide +kernel) rfl (by decide)
  rw [e]
  refine ⟨rfl, by decide, rfl, rfl, rfl, ?_, by decide⟩
  rw [memBytes_empty _ rfl, physBytes_empty _ rfl _ _ (by decide) (by decide)]

/-- The live block differs from its shadow in its first byte. -/
def differing (repair : Nat) : State := { shadowing.setF F.SHADOW_CTRL_REPAIR repair with mem := { bytes := [(0x10000000, 1)] } }

theorem differing_block (repair : Nat) (hp : (differing repair).clientAddr 0x0B 0 0x13800000 false = (.inr 0x13800000, differing repair)) :
    let sh := (differing repair).clientRead 0x0B 0 0x13800000 0x1000
    sh.1.fault = none ∧ sh.1.bad = false ∧ sh.2.badWords 0x10000000 0x1000 = [] ∧ sh.2.memBytes 0x10000000 0x1000 ≠ sh.1.data ∧
    sh.2 = differing repair := by
  intro sh
  have e : sh = (⟨(differing repair).physBytes 0x13800000 0x1000, none, false⟩, differing repair) := clientRead_page _ _ _ _ _ hp rfl (by decide)
  rw [e]
  refine ⟨rfl, rfl, rfl, fun h => ?_, rfl⟩
  have e := congrArg List.head? h
  rw [memBytes_head _ _ _ (by decide), physBytes_head _ _ _ (by decide)] at e
  have h1 : (differing repair).memByte 0x10000000 = 1 := rfl
  have h2 : (differing repair).physByte 0x13800000 = 0 := rfl
  rw [h1, h2] at e
  revert e; decide

theorem test_witness_ShadowEngine_differ : (differing 0).clientAddr 0x0B 0 0x13800000 false = (.inr 0x13800000, differing 0) ∧
    (differing 1).clientAddr 0x0B 0 0x13800000 false = (.inr 0x13800000, differing 1) ∧ (differing 0).flag F.SHADOW_CTRL_REPAIR = false ∧
    (differing 1).flag F.SHADOW_CTRL_REPAIR = true ∧
    (differing 0).getF F.SHADOW_BASE_BASE * 0x1000 + ((shadowRegion 0).1 + 0x1000 * 0) = 0x13800000 ∧ (differing 0).zone.region = 0 ∧
    (differing 0).zone.block = 0 := by decide +kernel

/-! ## Stop plane -/

def lifeCycled (lc : Nat) : State := { zero with rst := { zero.rst with otp := { zero.rst.otp with lc := lc } } }

def withPoppy (p : PoppySt) : State := { later with poppy := p }
def chan1 (cfg2 cfg3 : Nat) : PoppyChan := { cfg := (poppyCfgReset.set 2 cfg2).set 3 cfg3 }

theorem test_witness_StopsAndUnitConditions_stops : zero.opens core 0xC0050 true = true ∧ zero.poppy.a.held = false ∧
    (withPoppy { a := { map := BitVec.allOnes 256 } }).poppy.a.map.getLsbD 255 = true ∧ zero.poppy.a.map.getLsbD 0 = false ∧
    zero.poppy.b.map.getLsbD 255 = false := by decide

theorem test_witness_StopsAndUnitConditions_units : zero.opens core 0xC0048 true = true ∧ zero.poppy.armAt = none ∧
    bitsOf (0xC3A50000#32).toNat 31 16 = 0xC3A5 ∧ (withPoppy { armAt := some 1, armCount := 65535 }).poppy.armAt ≠ none ∧
    bitsOf (0xC3A50000#32).toNat 15 0 = ((withPoppy { armAt := some 1, armCount := 65535 }).poppy.armCount + 1) % 65536 ∧
    bitsOf (0xC3A50001#32).toNat 15 0 ≠ ((withPoppy { armAt := some 1, armCount := 65535 }).poppy.armCount + 1) % 65536 ∧
    zero.armFresh = false ∧ (withPoppy { withheld := false }).poppy.withheld = false ∧ (withPoppy { withheld := false }).armFresh = false ∧
    zero.opens core 0xC0058 true = true ∧ (withPoppy { lastIssued := some 496 }).withdrawalDue = true ∧
    (withPoppy { lastIssued := some 497 }).withdrawalDue = false ∧ zero.withdrawalDue = false ∧
    ((withPoppy { a := { held := true } }).pchan 0).held = true ∧ (zero.pchan 1).held = false ∧
    (∃ y ∈ (withPoppy { stops := [⟨1, 0, 2, 0, 0, [], 0, none, false, true, false⟩] }).poppy.stops, y.scope < 2 ∧ y.inB = false) ∧
    (withPoppy { stops := [⟨1, 0, 2, 0, 0, [], 0, none, false, false, true⟩] }).poppy.stops.length = 1 ∧
    zero.poppy.withheld = zero.withholding ∧ (withPoppy { lastIssued := some 496 }).poppyFailing.head? = some 0x11 ∧
    zero.opens core 0xC0130 true = true ∧ zero.lifeCycle ≠ LifeCycle.provision ∧
    (lifeCycled 0x1).lifeCycle = LifeCycle.provision ∧ (lifeCycled 0x1).opens core 0xC0130 true = true ∧
      (lifeCycled 0x1).poppy.a.held = false := by decide

/-- A staged configuration whose input 0 has a discrepancy limit (300 ms) below or above the pulse width and 50 ms. -/
def staged300 (width : Nat) : State := ((lifeCycled 0x1).setReg 0xC0104 (BitVec.ofNat 32 width)).setReg 0xC0110 0x8000012C

theorem test_witness_StopsAndUnitConditions_cfg : ∀ width ∈ [250, 251], let words := (List.range 12).map (fun i => ((staged300 width).reg (0xC0100 + 4 * i)).toNat) ++ [0]
    ((List.range 8).any fun n => bitAt (words.getD (4 + n) 0) 31 && decide (bitsOf (words.getD (4 + n) 0) 9 0 < bitsOf (words.getD 1 0) 15 0 + 50)) =
      decide (width = 251) := by decide

/-- A unit that withholds nothing, at 10 s; its keys are 32 bytes of 7. -/
def issuingPlane : PoppySt where
  role := 1
  armAt := some 100000000000
  withheld := false
  compared := true
  stops := []
  keys := some (List.replicate 32 7, List.replicate 32 7)

def issuing : State := { withPoppy issuingPlane with time := { out := 10 * secUnit, state := .lockA, valid := true } }

def sampledToken : SampledToken := ⟨500, List.replicate 48 0, 9999999⟩

theorem test_witness_TokensAndReleases_tokens : let n := (issuing.taiNs + 100000) / 20000000
    issuing.taiNs ≤ n * 20000000 ∧ Assoc.get (fun _ => 0) issuing.time.edges 10 < n * 20000000 ∧ issuing.poppyDiff = none ∧
    issuing.withholding = issuing.poppy.withheld ∧ issuing.withholdingBut = false ∧
    issuing.poppy.keys = some (List.replicate 32 7, List.replicate 32 7) ∧
    ({ issuing with poppy := { issuing.poppy with role := 0, withheld := true } } : State).withholdingBut = true ∧
    ({ issuing with poppy := { issuing.poppy with sampled := some sampledToken } } : State).withholdingBut = false ∧
    (withPoppy { sampled := some sampledToken, blockRun := 1 }).withholdingBut = true ∧
    (withPoppy { sampled := some sampledToken, blockRun := 1 }).poppy.sampled = some sampledToken ∧ sampledToken.placeAt ≤ later.taiNs ∧
    (withPoppy { sampled := some sampledToken, blockRun := 1 }).poppy.blockRun = 1 ∧ issuing.poppy.compared = true ∧
    issuing.poppy.a.held = false ∧ issuing.poppy.b.held = false ∧
    (withPoppy { sampled := some sampledToken, a := { held := true } }).poppy.a.held = true ∧
    (500 * 20000000 : Nat) < (withTime { out := 10 * secUnit + nsUnit }).taiNs ∧
    ((withTime { out := 10 * secUnit + nsUnit }).taiNs + 100000) / 20000000 = 500 ∧
    500 * 20000000 ≤ Assoc.get (fun _ => 0) (withTime { out := 10 * secUnit, edges := [(10, 10000000000)] }).time.edges 10 := by decide

/-- The channels differ as at the sample before. -/
def differingPlane : State := withPoppy { a := { site := true }, diff := some (true, 0) }

theorem test_witness_TokensAndReleases_differ : differingPlane.poppyDiff ≠ none ∧ differingPlane.poppyDiff = differingPlane.poppy.diff ∧
    differingPlane.taiNs ≤ (differingPlane.taiNs + 100000) / 20000000 * 20000000 ∧
    Assoc.get (fun _ => 0) differingPlane.time.edges 10 < (differingPlane.taiNs + 100000) / 20000000 * 20000000 := by decide

/-- A stop of scope member, raised 1 s before. -/
def shownStop : PoppyStop := ⟨1, 1, 2, 0, 0, [], 99900000000, none, false, true, true⟩

theorem test_witness_TokensAndReleases_present : let s := { issuing with poppy := { issuing.poppy with stops := [shownStop] } }
    let odd := { s with time := { s.time with out := 10 * secUnit + 250000 * nsUnit } }
    s.edgeDue 11 250000 = some 10000000000 ∧ s.presentSlot (10000000000 / 250000 % 80) = true ∧
    odd.edgeDue 11 250000 = some 10000250000 ∧ odd.presentSlot (10000250000 / 250000 % 80) = false ∧
    s.poppy.stops = [shownStop] ∧ shownStop.scope < 2 ∧ shownStop.raisedAt + 60000 ≤ s.now ∧ s.now ≤ shownStop.raisedAt + 500000000 ∧
    s.poppy.a.held = false ∧ s.poppy.b.held = false ∧ s.poppy.keys = some (List.replicate 32 7, List.replicate 32 7) ∧
    (withPoppy { keys := none }).poppy.keys = none := by decide

theorem test_witness_TokensAndReleases_release : zero.opens core 0xC00B4 true = true ∧ zero.poppy.release = none ∧
    (withPoppy { release := some ⟨0, 0, 1, 0⟩ }).poppy.release = some ⟨0, 0, 1, 0⟩ ∧
    (withPoppy { release := some ⟨0, 0, 1, 0⟩ }).releaseResult ⟨0, 0, 1, 0⟩ ≠ 0 := by decide

/-- Releases of scope site, machines 0 to 0 and site with machines, their tags made with the key. -/
theorem test_witness_TokensAndReleases_applied : issuing.releaseResult ⟨0, 500, 1, 5220608551800962363⟩ = 0 ∧
    issuing.releaseResult ⟨0x40000000, 500, 1, 3898977793784203320⟩ = 0 ∧
    issuing.releaseResult ⟨0x80000000, 500, 1, 7032061036141632451⟩ = 0 := by decide +kernel

/-- Channels with input 0 enabled and tested, all outputs enabled. -/
def wiredCfg : List Nat := (poppyCfgReset.set 2 15).set 4 0xE014012C
def wired (closed : Nat) : State := withPoppy { a := { cfg := wiredCfg, closed := closed }, b := { cfg := wiredCfg, closed := closed } }

theorem test_witness_WiredInputsAndOutputs : ({ later with poppy := { a := { held := true } } }.pchan 0).held = true ∧
    zero.now < (zero.pchan 1).tpNext ∧ (later.pchan 1).tpNext ≤ later.now ∧ (later.pchan 1).held = false ∧
    bitAt (withPoppy { a := { closed := 1 } }).poppy.a.closed 0 = true ∧ (later.pchan 0).inEn 0 = false ∧
    ((wired 1).pchan 0).inEn 0 = true ∧ bitAt ((wired 1).pchan 1).closed 0 = true ∧ bitAt ((wired 0).pchan 0).closed 0 = false ∧
    bitAt ((wired 128).pchan 0).closed 7 = true ∧ ((wired 1).pchan 0).inTest 0 = true ∧ bitAt (wired 1).poppy.tpFault 0 = false ∧
    bitAt (wired 1).poppy.discFault 0 = false ∧ bitAt ((wired 1).pchan 0).outEn 3 = true ∧ bitAt ((wired 1).pchan 0).fb 3 = false ∧
    ((wired 1).pchan 0).held = false ∧ (wired 1).ioLost = false ∧
    (∀ y ∈ (wired 1).poppy.stops, ¬(y.scope = (if ((wired 1).pchan 0).inSite 0 then 0 else 1) ∧ y.cause = 0x01 ∧ y.detail = 0)) ∧
    ({ wired 1 with ioLost := true } : State).ioLost = true ∧ bitAt (({ wired 1 with ioLost := true } : State).outputs 0) 3 = false ∧
    bitAt ({ closed := 0, fb := 8 } : PoppyChan).fb 3 = true ∧ zero.poppy.clearFrom.find? (fun e => e.1 == 7) = none := by decide

/-- The unit holds the stop that input 0 raises already, from the other channel; and an output driven high without VDDIO_3V3. -/
def raisedOnce : State := { wired 1 with poppy := { (wired 1).poppy with stops := [⟨1, 0, 0x01, 0, 0, [], 0, none, false, false, true⟩] } }
def drivenHigh : State := { issuing with
  ioLost := true
  poppy := { issuingPlane with a := { cfg := wiredCfg, site := true }, b := { cfg := wiredCfg, site := true } } }

theorem test_witness_WiredInputsAndOutputs_again : (∃ y ∈ raisedOnce.poppy.stops, y.scope = (if (raisedOnce.pchan 0).inSite 0 then 0 else 1) ∧
      y.cause = 0x01 ∧ y.detail = 0) ∧ (raisedOnce.pchan 0).inEn 0 = true ∧ bitAt (raisedOnce.pchan 0).closed 0 = true ∧ drivenHigh.ioLost = true ∧
    bitAt (drivenHigh.outputs 0) 3 = true ∧ bitAt (drivenHigh.pchan 0).outEn 3 = true ∧ bitAt (drivenHigh.pchan 0).fb 3 = false ∧
    (drivenHigh.pchan 0).held = false := by decide

theorem test_witness_WiredInputsAndOutputs_differ : let s := { wired 1 with poppy := { (wired 1).poppy with diffAt := [(0, 0)], clearFrom := [(7, 0)] } }
    s.poppy.diffAt.find? (fun e => e.1 == 0) = some (0, 0) ∧ 0 + 1000000 * (s.pchan 0).discMs 0 ≤ s.now ∧
    s.poppy.clearFrom.find? (fun e => e.1 == 7) = some (7, 0) ∧ bitAt (wired 255).poppy.a.closed 7 = true ∧
    bitAt (wired 255).poppy.b.closed 7 = true ∧ 0 + 100000000 ≤ s.now ∧ (s.pchan 0).inEn 0 = true ∧ s.poppy.a.held = false ∧
      s.poppy.b.held = false := by decide

/-- A channel of member 0 on the stop bus: it leads or not, member 15 expected. -/
def busCfg (lead : Nat) : List Nat := poppyCfgReset.set 3 (0x80008000 + lead * 0x40000000)
def onBus (lead : Nat) (cycle marker : Option Nat) : State :=
  withPoppy { a := { cfg := busCfg lead, cycle := cycle, marker := marker }, b := { cfg := busCfg lead, cycle := cycle, marker := marker } }

theorem test_witness_StopBus : (later.pchan 0).busEn = false ∧ ((onBus 0 none none).pchan 0).busEn = true ∧
    ((onBus 0 none none).pchan 0).lead = false ∧ ((onBus 1 (some 0) none).pchan 1).lead = true ∧
    ((onBus 1 (some 0) none).pchan 1).cycle = some 0 ∧ 0 + 1800000 ≤ later.now ∧
    0 + 200000 + 100000 * ((onBus 0 (some 0) none).pchan 0).member ≤ (onBus 0 (some 0) none).now ∧
    (onBus 0 none (some 100000000000)).markerSeen 0 = true ∧ bitAt (onBus 0 none none).poppy.a.expect 15 = true ∧
    15 ≠ (onBus 0 none none).poppyMember ∧ bitAt (onBus 0 none none).poppy.missing 15 = false ∧
    (onBus 0 none none).getF F.POPPY_BUS_MISS_COUNT + 1 < 2 ^ 32 ∧ ((onBus 0 none none).pchan 0).busLost = false ∧
    ((onBus 0 none none).pchan 0).marker.getD ((onBus 0 none none).pchan 0).busFrom / 1000 + 1900 < (onBus 0 none none).now / 1000 ∧
    ((onBus 0 none none).pchan 1).busLost = false ∧ (onBus 0 none none).poppy.a.held = false ∧ (onBus 0 none none).poppy.b.held = false ∧
    (onBus 0 none none).poppy.a.busEn = true ∧
    (∀ y ∈ (onBus 0 none none).poppy.stops, ¬(y.scope = 1 ∧ y.cause = 0x0F ∧ y.detail = ((onBus 0 none none).pchan 0).leadMember)) ∧
    (∃ y ∈ ([⟨1, 1, 0x0F, 0, 0, [], 0, none, false, false, true⟩] : List PoppyStop), y.scope = 1 ∧ y.cause = 0x0F ∧
      y.detail = ((onBus 0 none none).pchan 0).leadMember) ∧
    (onBus 0 none (some 99998100000)).now / 1000 ≤ 99998100000 / 1000 + 1900 ∧ ((onBus 0 none none).pchan 0).cycle = none := by decide

/-- A heartbeat frame of unit B of member 0: no permits, no stops. -/
def heartbeat : List Byte := [0x7E, 0x08] ++ List.replicate 82 0 ++ bytesLE 707122393 4

theorem test_witness_HeartbeatsAndChannelResets_frame : let c := later.pchan 0
    heartbeat.length = 88 ∧ leValue (heartbeat.take 1) = 0x7E ∧ crc32 (heartbeat.take 84) = leValue (heartbeat.drop 84) ∧
    leValue ((heartbeat.drop 1).take 1) / 16 = c.member ∧ bitsOf (leValue ((heartbeat.drop 1).take 1)) 3 3 ≠ c.unit ∧
    c.held = false ∧ leValue ((heartbeat.drop 3).take 1) = 0 ∧ (hbReport heartbeat).map.getLsbD 255 = false := by decide +kernel

/-- A heartbeat that reports a stop of scope site, which the unit does not hold. -/
def heartbeatStop : List Byte :=
  let b := [0x7E, 0x08, 0, 1] ++ List.replicate 80 0
  b ++ bytesLE (crc32 b) 4

theorem test_witness_HeartbeatsAndChannelResets_stop : heartbeatStop.length = 88 ∧ crc32 (heartbeatStop.take 84) = leValue (heartbeatStop.drop 84) ∧
    ((hbReport heartbeatStop).stops.any fun r => decide (r.2.1 < 2) && !holdsStop later.poppy.stops r) = true := by decide +kernel

theorem test_witness_HeartbeatsAndChannelResets : (later.pchan 1).held = false ∧ (later.pchan 1).hbNext ≤ later.now ∧
    ([] : List Byte).length ≠ 88 ∧ ((withPoppy { b := { hbOk := true } }).pchan 1).hbOk = true ∧
    ((withPoppy { b := { hbOk := true } }).pchan 1).hbAt / 1000 + 3000 < later.now / 1000 ∧
    ((withPoppy { b := { hbOk := true } }).pchan 0).hbOk = false ∧ later.now / 1000 ≤ 99997000000 / 1000 + 3000 ∧
    later.ioLost = false ∧ (withPoppy { b := { held := true } }).rst.held = false ∧ zero.now < ({ hbNext := 1 } : PoppyChan).hbNext ∧
    ({ zero with rst := { zero.rst with held := true } } : State).rst.held = true ∧
    (withPoppy { a := { cfg := poppyCfgReset.set 0 2 } }).poppy.a.pair = true ∧ ((withPoppy { b := { held := true } }).pchan 1).held = true := by decide

/-! ## Dispatch engine -/

/-- Thread 511 in a state; control core 3 runs thread 511. -/
def threadIn (t : Thread) : State :=
  { fieldSet F.SCHED_THR_INDEX_THREAD 511 with sched := { threads := [(511, t)], cores := [(3, { run := some 511 })] } }

theorem test_witness_ThreadsAndDispatchEvents_threads : zero.opens core 0x21048 true = true ∧
    511 = (threadIn {}).getF F.SCHED_THR_INDEX_THREAD ∧ ((threadIn {}).schedCore 3).run = some 511 ∧
    (∀ st ∈ [ThreadState.free, .ready, .running, .delayed, .waitIrq, .suspended], ((threadIn { st := st }).thread 511).st = st) ∧
    ((threadIn { st := .running, irq := true }).thread 511).irq = true ∧ (1 : Fin 16777216).val ≠ 0 ∧
    zero.flag F.SCHED_CTRL_THR_EN = false ∧ (fieldSet F.SCHED_CTRL_THR_EN 1).flag F.SCHED_CTRL_THR_EN = true ∧
    (fieldSet F.SCHED_CTRL_THR_EN 1).idleCore 8 = some 3 ∧ (zero.thread 0).st = ThreadState.free ∧ zero.sched.thrBusy = false ∧
    zero.time.catchFrom = none ∧ ({ held := [.thread none .delete] } : SchedSt).thrBusy = true ∧ ({ catchFrom := some 5 } : TimeSt).catchFrom ≠ none ∧
    (zero.schedCore 3).run = none ∧ zero.flag F.SCHED_TRC_CTRL_EN = false := by decide

/-- Every set enabled at 10 s. -/
def dispatching (x : SchedSt) : State :=
  { ((later.setF F.SCHED_CTRL_THR_EN 1).setF F.SCHED_CTRL_WRK_EN 1).setF F.SCHED_CTRL_JOB_EN 1 with sched := x }

theorem test_witness_ThreadsAndDispatchEvents_events : let s := dispatching { threads := [(0, { st := .delayed }), (511, { st := .waitIrq, deadline := true })] }
    s.ticking 0x020 = true ∧ s.flag F.SCHED_CTRL_THR_EN = true ∧ s.flag F.SCHED_CTRL_WRK_EN = true ∧ s.flag F.SCHED_CTRL_JOB_EN = true ∧
    0 ∈ s.delayedDue s.tick10us ∧ 0 < tickDiff s.tick10us 0 ∧ zero.flag F.SCHED_CTRL_THR_EN = false ∧ zero.flag F.SCHED_CTRL_JOB_EN = false ∧
      zero.flag F.SCHED_CTRL_WRK_EN = false ∧
    s.sched.waiting = [] ∧ (511, { st := .waitIrq, deadline := true }) ∈ s.sched.threads ∧
    ({ s with rst := { s.rst with held := true } } : State).ticking 0x020 = false ∧
    (∃ y, ((dispatching { cores := [(3, { next := some (some 511) })] }).schedCore 3).next = some (some y) ∧ y ≠ 510) := by
  refine ⟨by decide, by decide, by decide, by decide, by decide, by decide, by decide, by decide, by decide, rfl, by decide, by decide, ⟨511, rfl, by decide⟩⟩

theorem test_witness_ThreadsAndDispatchEvents_ack : zero.opens core (0x20084 + 16 * 3) true = true ∧ (zero.schedCore 3).next = none ∧
    ((dispatching { cores := [(3, { next := some (some 511) })] }).schedCore 3).next = some (some 511) ∧
    ((dispatching { cores := [(3, { next := some (some 511) })] }).schedCore 3).irqAt + 1000 * later.getF F.SCHED_SWITCH_LIMIT_US <
      (dispatching {}).now ∧
    (dispatching {}).now ≤ ({ next := some (some 511), irqAt := 100000000000 } : SchedCore).irqAt + 1000 * later.getF F.SCHED_SWITCH_LIMIT_US := by decide

theorem test_witness_WorkItems_submit : zero.opens core 0x22060 true = true ∧
    (fieldSet F.SCHED_WRK_SUB0_AFFINITY 0).getF F.SCHED_WRK_SUB0_AFFINITY = 0 ∧
    (fieldSet F.SCHED_WRK_SUB0_AFFINITY 1).getF F.SCHED_WRK_SUB0_AFFINITY ≠ 0 ∧
    freeHandle (zero.sched.items.map fun i => i.handle) = some 0 ∧ zero.flag F.SCHED_CTRL_WRK_EN = false ∧ zero.sched.waiting = [] ∧
    zero.opens core 0x20040 true = true ∧ zero.time.catchFrom = none ∧ zero.sched.items = [] ∧
    (dispatching { waiting := [3] }).flag F.SCHED_CTRL_WRK_EN = true ∧ (dispatching { waiting := [3] }).sched.waiting = [3] ∧ bitAt 8 3 = true ∧
    ((dispatching { waiting := [3] }).setF F.SCHED_WRK_SUB0_AFFINITY 8).getF F.SCHED_WRK_SUB0_AFFINITY = 8 ∧
    (dispatching { waiting := [3] }).getF F.SCHED_WRK_SUB0_DELAY = 0 ∧ (dispatching {}).flag F.SCHED_CTRL_WRK_EN = true := by decide +kernel

/-- Every handle is in use. -/
theorem test_witness_WorkItems_full : freeHandle (((List.range 4096).map fun h => (⟨h, 0, 1, 0, 0, true, 0⟩ : WorkItem)).map fun i => i.handle) = none := by
  simp [freeHandle]

/-- A queue with words to take. -/
def queueOf (s : State) (q : Nat) (words : List DWord) : State :=
  { s.setF (F.MBOX_CFG_EN (q / 4) (q % 4)) 1 with mbox := [(q, { drain := words.map fun w => ⟨w, false⟩ })] }

/-- Item packets in the submission queue, without and with an affinity; queue 2 holds a request of data core 3. -/
def submitted (w0 : Nat) : State := queueOf ((dispatching {}).setF F.SCHED_WRK_QUEUES_SUBMIT_Q 1) 1
  [BitVec.ofNat 64 (2 ^ 60 + w0), BitVec.ofNat 64 (3 * 2 ^ 60 + 5)]
def requested (w : Nat) : State := queueOf ((dispatching {}).setF F.SCHED_WRK_QUEUES_REQ_Q 2) 2 [BitVec.ofNat 64 (3 * 2 ^ 60 + w)]

theorem test_witness_WorkItems_queues : ∀ w0 ∈ [0x8000000000001, 0x0004000000000001], let s := submitted w0
    let p := s.mboxTakePacket (s.getF F.SCHED_WRK_QUEUES_SUBMIT_Q) 1025
    s.ticking 0x020 = true ∧ s.flag F.SCHED_CTRL_WRK_EN = true ∧ s.mboxPacketReady (s.getF F.SCHED_WRK_QUEUES_SUBMIT_Q) = true ∧
    p.1 = [w0, 5] ∧ p.2.1 = false ∧ p.2.2.sched = s.sched ∧ s.sched.waiting = [] := by decide +kernel

theorem test_witness_WorkItems_item : bitsOf 0x3C00000000000 45 32 = 0 ∧ bitsOf 0x3C00000000000 49 46 ≠ 0 ∧
    ((submitted 0x3C00000000000).mboxTakePacket 1 1025).1 = [0x3C00000000000, 5] ∧
    ((submitted 0x3C00000000000).mboxTakePacket 1 1025).2.1 = false ∧
    ((submitted 0x3C00000000000).mboxTakePacket 1 1025).2.2.sched = (submitted 0).sched ∧
    bitsOf 0x8000000000001 49 46 = 0 ∧ freeHandle ((submitted 0x3C00000000000).sched.items.map fun i => i.handle) = some 0 ∧
    zero.mboxPacketReady 1 = false ∧ (dispatching {}).mboxPacketReady ((dispatching {}).getF F.SCHED_WRK_QUEUES_SUBMIT_Q) = false := by decide +kernel

/-- A packet of one word. -/
def shortPacket : State := queueOf ((dispatching {}).setF F.SCHED_WRK_QUEUES_SUBMIT_Q 1) 1 [BitVec.ofNat 64 (3 * 2 ^ 60 + 5)]

theorem test_witness_WorkItems_short : shortPacket.mboxPacketReady (shortPacket.getF F.SCHED_WRK_QUEUES_SUBMIT_Q) = true ∧
    (shortPacket.mboxTakePacket (shortPacket.getF F.SCHED_WRK_QUEUES_SUBMIT_Q) 1025).1.length ≠ 2 ∧ shortPacket.ticking 0x020 = true ∧
    shortPacket.flag F.SCHED_CTRL_WRK_EN = true := by decide +kernel

theorem test_witness_WorkItems_pull : ∀ w ∈ [4 * 2 ^ 50, 4 * 2 ^ 50 + 3 * 2 ^ 48], let s := requested w
    let p := s.mboxTake (s.getF F.SCHED_WRK_QUEUES_REQ_Q)
    s.ticking 0x020 = true ∧ s.flag F.SCHED_CTRL_WRK_EN = true ∧ p.1 = some (BitVec.ofNat 64 (3 * 2 ^ 60 + w)) ∧
    wordTag (BitVec.ofNat 64 (3 * 2 ^ 60 + w)) = 3 ∧ wordPayload (BitVec.ofNat 64 (3 * 2 ^ 60 + w)) = w ∧ bitsOf w 55 50 = 4 ∧ bitsOf w 47 13 = 0 ∧
    p.2.sched.items = [] ∧ bitsOf w 49 48 ∉ p.2.sched.waiting := by decide +kernel

/-- A request that is not one, a queue without a request, and a core that waits already. -/
theorem test_witness_WorkItems_noPull : bitsOf 0 55 50 ≠ 4 ∧ wordTag (BitVec.ofNat 64 (2 ^ 60)) ≠ 3 ∧ bitsOf (4 * 2 ^ 50 + 2 ^ 13) 47 13 ≠ 0 ∧
    ((dispatching {}).mboxTake ((dispatching {}).getF F.SCHED_WRK_QUEUES_REQ_Q)).1 = none ∧
    (let s := { requested (4 * 2 ^ 50) with sched := { waiting := [0] } }
     bitsOf (4 * 2 ^ 50) 49 48 ∈ (s.mboxTake (s.getF F.SCHED_WRK_QUEUES_REQ_Q)).2.sched.waiting) := by decide +kernel

/-- Machine 0 valid; class 0. -/
def validMachine : State := { dispatching { jobs := [⟨7, 0, 1, 0xFFFF, 0, 0, 0, true⟩], asks := [⟨0, none⟩] } with mem := { bytes := [(0x10840000, 1)] } }

theorem test_witness_JobsAndAsks : zero.opens core 0x23058 true = true ∧ zero.opens core 0x23060 true = true ∧ zero.opens core 0x23064 true = true ∧
    zero.opens core 0x23068 true = true ∧ bitsOf (zero.reg 0x23048).toNat 25 18 = 0 ∧
    bitsOf ((fieldSet ⟨0x23048, 25, 18⟩ 1).reg 0x23048).toNat 25 18 ≠ 0 ∧ ((fieldSet ⟨0x23048, 25, 18⟩ 1).reg 0x23054).toNat = 0 ∧
    freeHandle (zero.sched.jobs.map fun j => j.handle) = some 0 ∧ later.time.catchFrom = none ∧
    ((later.setReg 0x23054 1).reg 0x23054).toNat ≠ 0 ∧ tickDiff ((later.setReg 0x23054 1).reg 0x23054).toNat later.planTick ≤ 0 ∧
      zero.machValid 255 = false ∧ validMachine.machValid 0 = true ∧
    (∃ x ∈ validMachine.sched.asks, x.machine = 0) ∧ (∀ x ∈ zero.sched.asks, x.machine ≠ 0) ∧ (∀ j ∈ zero.sched.jobs, j.handle ≠ 4095) ∧
    (∃ j ∈ validMachine.sched.jobs, j.handle = 7) ∧ validMachine.ticking 0x020 = true ∧ validMachine.flag F.SCHED_CTRL_JOB_EN = true ∧
    validMachine.sched.jobs = [⟨7, 0, 1, 0xFFFF, 0, 0, 0, true⟩] ∧ validMachine.sched.asks = [⟨0, none⟩] ∧
    validMachine.jobEligible 0 ⟨7, 0, 1, 0xFFFF, 0, 0, 0, true⟩ = true ∧ validMachine.jobEligible 255 ⟨7, 0, 1, 0xFFFF, 0, 0, 0, true⟩ = false := by
  decide +kernel

/-! ## Planner and tracker -/

def withPlan (p : PlanSt) : State := { later with plan := p }
def request (m : Nat) : PlanReq := ⟨0, 0, false, m, 0, 0, 0, 0, 0, false⟩
def search (m outcome : Nat) (ready cancel : Bool) : PlanSearch := ⟨request m, 1000, 0, { outcome := outcome }, cancel, ready⟩

theorem test_witness_PlanRequests_submit : zero.opens core 0x92060 true = true ∧
    64 ≤ (withPlan { queue := List.replicate 64 (request 1) }).plan.queue.length ∧
    (later.setF F.TRACK_CTRL_PLAN_EN 0).flag F.TRACK_CTRL_PLAN_EN = false ∧ (later.setF F.TRACK_CTRL_PLAN_EN 1).flag F.TRACK_CTRL_PLAN_EN = true ∧
    later.plan.queue.length < 64 ∧ later.notActive = false ∧ later.pair.handoff = none ∧
    (∃ x ∈ (withPlan { queue := [request 0] }).plan.queue, x.machine = later.stagedRequest.machine) ∧
    (∀ x ∈ later.plan.queue, x.machine ≠ later.stagedRequest.machine) := by decide

theorem test_witness_PlanRequests_cancel : zero.opens core 0x92084 true = true ∧
    (∃ x ∈ (withPlan { queue := [request 255] }).plan.queue, x.machine = 255) ∧
    (withPlan { search := some (search 255 0 true false) }).plan.search = some (search 255 0 true false) ∧
    (search 255 0 true false).req.machine = 255 ∧ (search 255 0 true false).ready = true ∧ later.plan.search = none ∧
    (withPlan { search := some (search 255 0 false false) }).plan.search = some (search 255 0 false false) ∧
    (search 255 0 false false).ready = false ∧ (withPlan { search := some (search 255 0 false false) }).plan.cmd = none ∧
    (∀ r ∈ later.plan.queue, r.machine ≠ 255) := by decide

theorem test_witness_PlanRequests_start : later.ticking 0x090 = true ∧ (withPlan { queue := [request 1] }).plan.queue = [request 1] ∧
    (withPlan { queue := [request 1], search := some (search 2 0 true false) }).plan.search ≠ none ∧
    (withPlan { queue := [request 1] }).plan.search = none ∧ (withPlan { queue := [request 1] }).plan.cmd = none ∧
    later.flag F.TRACK_RES_CMD_STAT_BUSY = false ∧ later.notActive = false ∧
    (later.setF F.TRACK_RES_CMD_STAT_BUSY 1).flag F.TRACK_RES_CMD_STAT_BUSY = true := by decide

/-- A plan found over cell 5, which is not valid. -/
def unfit (m : Nat) : PlanSearch := ⟨request m, 1000, 0, { outcome := 0, route := [⟨5, 0, 0, 0⟩] }, false, true⟩

theorem test_witness_PlanRequests_commit : (withPlan { search := some (unfit 255) }).planFits (unfit 255) = false ∧
    (unfit 255).found.bumps = [] ∧ (withPlan { search := some (unfit 255) }).notActive = false ∧
    (withPlan { search := some (search 255 0 true false) }).planFits (search 255 0 true false) = true ∧
    (search 255 0 true false).req.machine = 255 ∧ (withPlan { shared := some ⟨[], 7, 1, 2, 0, 0, 0⟩ }).plan.shared ≠ none ∧
    (later.setF F.PAIR_STAT_ROLE 1).notActive = true ∧ (∀ x ∈ [search 255 0 true false, search 255 0 true true, search 255 1 true false, search 255 0 false false],
      (withPlan { search := some x }).plan.search = some x ∧ (withPlan { search := some x }).plan.shared = none ∧
      (withPlan { search := some x }).plan.cmd = none ∧ (withPlan { search := some x }).role = 0) ∧
    (search 255 1 true false).found.outcome ≠ 0 ∧ (search 255 15 true false).found.outcome < 16 ∧ (search 255 0 true false).found.bumps = [] ∧
    ((withPlan { search := some (search 255 0 true false) }).planRsvs (search 255 0 true false)).filter later.rsvShared = [] ∧
    (withPlan { search := some (search 255 0 true false) }).rsvRoom
      (((withPlan { search := some (search 255 0 true false) }).planRsvs (search 255 0 true false)).map fun r => r.cell)
      (((withPlan { search := some (search 255 0 true false) }).commitFrees 255 1000).map fun i =>
        ((withPlan { search := some (search 255 0 true false) }).rsv i).cell) = true := by decide

/-- A request of machine 7 of member 0 for one record of cell 5, serial 1, plan 2. -/
def sharedRequest : List Byte := wordsBytes [0x010701B2, 1, 2, 0, 0x50701, 1100, 1200, 0]
/-- Cell 5 is valid with capacity 1. -/
def cell5 (p : PlanSt) : State := { withPlan p with mem := { bytes := [(0x10440140, 0x11)] } }

/-- What machine 7 asks for. -/
def sharedRecs : List Rsv := (msgRecords sharedRequest 1).map fun r => { r with member := 0, machine := 7 }

theorem test_witness_SharedCells_requests : ∀ s ∈ [withPlan { ownReqs := [(sharedRequest, 0)] }, cell5 { ownReqs := [(sharedRequest, 0)] }],
    s.ticking 0x090 = true ∧ s.plan.ownReqs = [(sharedRequest, 0)] ∧ s.msgsWaiting = 0 ∧ s.isLead = true ∧
    (s.setF F.CASC_CTRL_LEAD 1).isLead = false ∧ s.serialRec 7 = none ∧ wordAt sharedRequest 0 / 0x1000000 ≠ 0 ∧
    s.firstBad sharedRecs = (if s.mem.bytes = [] then some 0 else none) ∧
    s.rsvRoom (sharedRecs.map fun r => r.cell)
      (((s.sharedOf 0 7 (some (wordAt sharedRequest 12))).filter fun r => !r.doubt).map fun r => r.cell) = true := by decide

/-- Cell 5 free, and `n` records in the store, all of cell 0. -/
def storeOf (n : Nat) : State := cell5 { ownReqs := [(sharedRequest, 0)], used := List.replicate n 0 }

/-- A record of a cell meets no record of another. -/
theorem recFits_elsewhere (s : State) (x r : Rsv) (n : Nat) (he : r.edge = false) (hv : s.cellValid r.cell = true)
    (hc : 0 < s.cellCapacity r.cell) (hx : x.cell ≠ r.cell) : s.recFits (List.replicate n x) [] r = true := by
  have hb : (x.cell == r.cell) = false := by simpa using hx
  simp [State.recFits, heldSpans, cellFits, he, hv, hc, hb]

theorem test_witness_SharedCells_full (n : Nat) (hn : 1048576 ≤ n) : (storeOf n).ticking 0x090 = true ∧
    (storeOf n).plan.ownReqs = [(sharedRequest, 0)] ∧ (storeOf n).isLead = true ∧ (storeOf n).serialRec 7 = none ∧
    (storeOf n).firstBad sharedRecs = none ∧
    (storeOf n).rsvRoom (sharedRecs.map fun r => r.cell)
      ((((storeOf n).sharedOf 0 7 (some (wordAt sharedRequest 12))).filter fun r => !r.doubt).map fun r => r.cell) = false := by
  have hr : (storeOf n).rsvs = List.replicate n ((storeOf n).rsv 0) := List.map_replicate
  have h0 : ((storeOf n).rsv 0).machine = 0 := by
    rw [show (storeOf n).rsv 0 = (storeOf 0).rsv 0 from rfl]; decide
  have hv : (storeOf n).cellValid (sharedRecs.getD 0 (rsvOf 0 [])).cell = (storeOf 0).cellValid 5 := rfl
  have hc : (storeOf n).cellCapacity (sharedRecs.getD 0 (rsvOf 0 [])).cell = (storeOf 0).cellCapacity 5 := rfl
  have hl : (storeOf n).isLead = (storeOf 0).isLead := rfl
  have hf (r : Rsv) (h : r ∈ sharedRecs) : (storeOf n).recFits (storeOf n).rsvs [] r = true := by
    rw [hr]
    obtain rfl : r = sharedRecs.getD 0 (rsvOf 0 []) := by
      have : sharedRecs = [sharedRecs.getD 0 (rsvOf 0 [])] := by decide
      rw [this] at h; simpa using h
    refine recFits_elsewhere _ _ _ _ (by decide) (hv.trans (by decide)) (by rw [hc]; decide) ?_
    rw [show (storeOf n).rsv 0 = (storeOf 0).rsv 0 from rfl]; decide
  refine ⟨rfl, rfl, hl.trans (by decide), rfl, ?_, ?_⟩
  · simp only [State.firstBad, List.findIdx?_eq_none_iff]
    intro r h; simp [hf r h]
  · have hs : (storeOf n).sharedOf 0 7 (some (wordAt sharedRequest 12)) = [] := by
      simp [State.sharedOf, hr, h0]
    have hu : (storeOf n).plan.used.length = n := List.length_replicate
    have hl : (sharedRecs.map fun r => r.cell).length = 1 := by decide
    simp only [State.rsvRoom, hs, hu, List.length_map] at hl ⊢
    simp [hl]; omega

theorem test_witness_SharedCells_waiting : ∀ e ∈ (withPlan { ownReqs := [] }).plan.ownReqs, e.2 ≠ 0 := by decide

def sharedReply (result serial : Nat) : List Byte := replyBody 0 result serial 2 0xFF
def sharedWait (sends : Nat) : SharedWait := ⟨[], 7, 1, 2, 0, sends, 0⟩
def awaiting (sends : Nat) (replies : List (List Byte)) : State :=
  withPlan { shared := some (sharedWait sends), search := some (search 7 0 true false), ownReplies := replies }

theorem test_witness_SharedCells_replies : (∀ b ∈ [sharedReply 0 1, sharedReply 1 1, sharedReply 0 2],
      (awaiting 1 [b]).plan.ownReplies = [b] ∧ wordAt b 8 = (sharedWait 1).plan) ∧ (awaiting 1 []).ticking 0x090 = true ∧
    (awaiting 1 []).plan.shared = some (sharedWait 1) ∧ (awaiting 1 []).plan.search = some (search 7 0 true false) ∧
    (awaiting 1 []).plan.cmd = none ∧ (awaiting 1 []).plan.orphans = [] ∧ (sharedWait 1).serial ≠ wordAt (sharedReply 0 2) 4 ∧
    (sharedWait 1).serial = wordAt (sharedReply 1 1) 4 ∧ wordAt (sharedReply 1 1) 0 / 0x1000000 ≠ 0 ∧
    (sharedWait 1).serial = wordAt (sharedReply 0 1) 4 ∧ wordAt (sharedReply 0 1) 0 / 0x1000000 = 0 ∧ (search 7 0 true false).cancel = false ∧
    (awaiting 1 [sharedReply 0 1]).planFits (search 7 0 true false) = true ∧ (unfit 7).cancel = false ∧
    (withPlan { shared := some (sharedWait 1), search := some (unfit 7), ownReplies := [sharedReply 0 1] }).planFits (unfit 7) = false := by
  decide

theorem test_witness_SharedCells_idle : (zero.received 0x03).1 = none ∧ (zero.received 0x04).1 = none ∧ (zero.received 0x05).1 = none ∧
    zero.plan.ownReplies = [] ∧ later.plan.shared = none ∧ later.plan.orphans = [] ∧ later.plan.cmd = none ∧
    bitAt 1 0 = true ∧ bitAt 2 0 = false := by decide

theorem test_witness_SharedCells_retry : (sharedWait 1).sentAt + 1000 * (awaiting 1 []).getF F.TRACK_SHR_RETRY_US ≤ (awaiting 1 []).now ∧
    { awaiting 1 [] with now := 0 }.now < (sharedWait 1).sentAt + 1000 * { awaiting 1 [] with now := 0 }.getF F.TRACK_SHR_RETRY_US ∧
    (sharedWait 1).sends < (awaiting 1 []).getF F.TRACK_SHR_TRIES ∧ (awaiting 3 []).getF F.TRACK_SHR_TRIES ≤ (sharedWait 255).sends := by decide

/-! ## Messages of the cascade -/

def cascKey : List Byte := List.replicate 32 7

/-- The text of a message of one fragment: type, source (member and unit), flags, MSG_SEQ 1, body. -/
def message (type src flags : Nat) (body : List Byte) : List Byte :=
  wordsBytes [type * 0x1000000 + 0x10400 + src * 0x800, 1, flags * 0x10000 + body.length, body.length] ++ body

/-- A device with K_casc and the queue of port 21 at queue 1. -/
def coupled (s : State) : State :=
  { (s.setF F.SWCH_P21_RX_QUEUE 1).setF (F.MBOX_CFG_EN 0 1) 1 with keys := { s.keys with kCasc := some cascKey } }

/-- A message at the head of the queue is received. -/
theorem received_coupled (s : State) (port : Nat) (text : List Byte) (hp : port < 32) (hk : s.keys.kCasc = some cascKey)
    (hr : s.pair.reasm = []) (hh : s.pair.heardSeq = []) (he : s.mboxEnabled (s.getF F.SWCH_P21_RX_QUEUE) = true)
    (ht : messageOk text = true) (hst : (s.notActive && standbyDiscards (bitsOf (wordAt text 0) 31 24)) = false)
    (ho : s.plan.ownReqs = [] := by rfl) :
    (s.arriving port cascKey text).received (bitsOf (wordAt text 0) 31 24) =
      (some (messageOf (port == 16 + s.getF F.PAIR_CTRL_LINK_PORT) text), s.arrived text) := by
  unfold State.received
  simp only [takeMsg_arriving s port cascKey text hp hk hr hh he ht hst]
  rw [State.msgsPassed, if_pos (Or.inr (show (s.arrived text).plan.ownReqs = [] from ho))]

/-- An update of sequence number `seq` without records. -/
def updateText (seq : Nat) : List Byte := message 0x05 2 0 (wordsBytes [0x1B4, seq, 0, 0])

theorem test_witness_SharedCells_updates : ∀ seq ∈ [0, 1, 2], ∀ s ∈ [coupled later, coupled (later.setF F.CASC_CTRL_LEAD 1)],
    ((s.arriving 16 cascKey (updateText seq)).received 0x05 =
      (some ⟨0x05, 1, 0, true, 0, 16 == 16 + s.getF F.PAIR_CTRL_LINK_PORT, wordsBytes [0x1B4, seq, 0, 0]⟩, s.arrived (updateText seq))) ∧
    (s.arriving 16 cascKey (updateText seq)).ticking 0x090 = true ∧ (s.arrived (updateText seq)).flag F.CASC_STAT_SNAP_PENDING = false ∧
    tickDiff (wordAt (wordsBytes [0x1B4, seq, 0, 0]) 4) ((s.arrived (updateText seq)).getF F.CASC_UPD_SEQ_SEQ) = seq ∧
    (s.arrived (updateText seq)).pair.updHeld = [] ∧ (s.arrived (updateText seq)).role = 0 ∧ (s.arrived (updateText seq)).notActive = false ∧
    ((coupled later).arrived (updateText seq)).isLead = true ∧ ((coupled (later.setF F.CASC_CTRL_LEAD 1)).arrived (updateText seq)).isLead = false := by
  intro seq h s hs
  refine ⟨?_, ?_⟩
  · simp only [List.mem_cons, List.mem_nil_iff, or_false] at h hs
    rcases hs with rfl | rfl
    · have := received_coupled (coupled later) 16 (updateText seq) (by decide) rfl rfl rfl (by decide)
      rcases h with rfl | rfl | rfl <;> exact this (by decide) (by decide)
    · have := received_coupled (coupled (later.setF F.CASC_CTRL_LEAD 1)) 16 (updateText seq) (by decide) rfl rfl rfl (by decide)
      rcases h with rfl | rfl | rfl <;> exact this (by decide) (by decide)
  · revert seq s; decide

/-- An update that belongs to a snapshot. -/
def snapText : List Byte := message 0x05 2 1 (wordsBytes [0x1B4, 1, 0, 0])

theorem test_witness_SharedCells_snapshot : ((coupled later).arriving 16 cascKey snapText).received 0x05 =
      (some (messageOf (16 == 16 + (coupled later).getF F.PAIR_CTRL_LINK_PORT) snapText), (coupled later).arrived snapText) ∧
    bitAt (messageOf true snapText).flags 0 = true ∧ ((coupled later).arrived snapText).flag F.CASC_STAT_SNAP_PENDING = false :=
  ⟨received_coupled _ 16 snapText (by decide) rfl rfl rfl (by decide) (by decide) (by decide) rfl, by decide⟩

/-! ## Tracker and store -/

def trackPlan : TrackPlan := ⟨0, 0, 0, 0, [], [(5, 0), (6, 1)], [], [], 0, none, []⟩

/-- Machine 0 valid and under way over cell 5, record 0; a fix packet of it in queue 3. -/
def trackingAt (st : Nat) : State :=
  { queueOf ((((later.setF F.TRACK_CTRL_TRACK_EN 1).setF F.TRACK_RES_CTRL_SWEEP_EN 1).setF F.TRACK_CTRL_MIN_STATUS 0).setF F.TRACK_QUEUES_FIX_QUEUE 3) 3
      ([10000 * 2 ^ 32 + st * 2 ^ 9, 0, 0, 0].map (fun p => BitVec.ofNat 64 (2 ^ 60 + p % 2 ^ 56)) ++ [BitVec.ofNat 64 (3 * 2 ^ 60)]) with
    plan := { used := [0, 1], plans := [(0, some trackPlan)] }
    mem := { bytes := [(0x10840000, 1), (0x10840030, 1), (0x10900000, 1), (0x10900002, 5)] } }

abbrev tracking : State := trackingAt 0

theorem test_witness_Tracker : later.flag F.TRACK_CTRL_TRACK_EN = false ∧ tracking.ticking 0x090 = true ∧
    tracking.flag F.TRACK_CTRL_TRACK_EN = true ∧ tracking.tracked = [(0, trackPlan)] ∧ tracking.track 0 = some trackPlan ∧
    trackPlan.cells.length = 2 ∧ (∀ r ∈ later.rsvs, later.mayRetire 0 r = false) ∧ 0 ∉ tracking.plan.stamped ∧ 0 ∉ trackPlan.acted ∧ tracking.role = 0 ∧
    (match tracking.trackRec 0 trackPlan 0 with
      | some r => r.idx == 0 && decide (0 ≤ tickDiff ((tracking.planTick + 2 ^ 32 - 1) % 2 ^ 32) (r.exit + tracking.getF F.TRACK_OVR_GRACE))
      | none => false) = true ∧ later.pair.touched = [] ∧ (later.setF F.TRACK_RES_CTRL_SWEEP_EN 0).flag F.TRACK_RES_CTRL_SWEEP_EN = false ∧
    tracking.flag F.TRACK_RES_CTRL_SWEEP_EN = true ∧ tracking.notActive = false := by decide

theorem test_witness_Tracker_fix : ∀ st ∈ [0, 4], let tracking := trackingAt st
    let q := tracking.getF F.TRACK_QUEUES_FIX_QUEUE
    let p := tracking.mboxTakePacket q (tracking.mboxQ q).level
    let b := unpack7 32 p.1
    tracking.mboxPacketReady q = true ∧ p.2.1 = false ∧ p.1.length = 5 ∧ bitsOf (wordAt b 0) 19 12 = 0 ∧ p.2.2.machValid 0 = true ∧
    p.2.2.track 0 = some trackPlan ∧ p.2.2.planActive 0 = true ∧ bitsOf (wordAt b 0) 11 9 = st ∧ p.2.2.getF F.TRACK_CTRL_MIN_STATUS = 0 ∧
    (p.2.2.setF F.PAIR_STAT_ROLE 1).notActive = true ∧
    0 < tickDiff (p.2.2.fullEpoch (wordAt b 4) / 10 % 2 ^ 32) (p.2.2.machWord 0 11) ∧ p.2.2.role = 0 ∧ p.2.2.notActive = false ∧
    p.2.2.pair.touched = [] ∧ (({ p.2.2 with plan := {} } : State).track 0) = none ∧ ({ p.2.2 with mem := {} } : State).machValid 0 = false := by
  decide +kernel

theorem test_witness_StoreCommands : zero.opens core 0x91054 true = true ∧ later.flag F.TRACK_RES_CMD_STAT_BUSY = false ∧
    (later.setF F.TRACK_RES_CMD_STAT_BUSY 1).flag F.TRACK_RES_CMD_STAT_BUSY = true ∧ (later.setF F.PAIR_STAT_ROLE 1).notActive = true ∧
    later.notActive = false ∧ later.plan.search = none ∧ (withPlan { search := some (search 1 0 true false) }).plan.search ≠ none ∧
    later.time.catchFrom = none ∧ (withTime { catchFrom := some 0 }).time.catchFrom ≠ none ∧
    later.cellIndexResult 0x10000 ≠ 0 ∧ (later.setF F.XTAB_CELL_COUNT_COUNT 6).cellIndexResult 5 = 0 ∧ later.machIndexResult 255 = 0 ∧
    later.machValid 255 = false ∧ tracking.machValid 0 = true ∧ tracking.machWord 0 8 = tracking.getF F.TRACK_RES_ARG0_ARG ∧
    tracking.machWord 0 8 ≠ (tracking.setF F.TRACK_RES_ARG0_ARG 1).getF F.TRACK_RES_ARG0_ARG ∧
    (later.setF F.TRACK_CTRL_PLAN_EN 1).flag F.TRACK_CTRL_PLAN_EN = true ∧ (later.setF F.TRACK_CTRL_PLAN_EN 0).flag F.TRACK_CTRL_PLAN_EN = false ∧
    zero.opens core 0x91070 false = true ∧ later.fifo 0x91070 = [] ∧
    ({ later with fifos := [(0x91070, [[1, 2, 3, 4]])] } : State).fifo 0x91070 = [[1, 2, 3, 4]] ∧ later.ticking 0x090 = true ∧
    (withPlan { cmd := some (1, 0, 0, 0) }).plan.cmd ≠ none ∧ later.plan.cmd = none ∧ later.plan.result < 16 := by decide

/-- Machine 0 and cell 5 valid, cell 5 with capacity 1 and a traverse time for class 0. -/
def reservable : State :=
  { later.setF F.XTAB_CELL_COUNT_COUNT 6 with mem := { bytes := [(0x10440140, 0x11), (0x10440160, 1), (0x10840000, 1)] } }

theorem test_witness_StoreCommands_reserve : reservable.cellIndexResult 5 = 0 ∧
    reservable.machValid (reservable.getF F.TRACK_RES_ARG0_ARG % 256) = true ∧
    reservable.cellValid 5 = true ∧ reservable.cellValid 4 = false ∧ reservable.cellTraverse 5 (reservable.machClass 0) ≠ 0 ∧
    reservable.cellShared 5 = false ∧ reservable.plan.used = [] ∧ 0 < reservable.cellCapacity 5 ∧ reservable.role = 0 ∧
    reservable.opens core 0x91054 true = true ∧ reservable.flag F.TRACK_RES_CMD_STAT_BUSY = false := by decide

/-! ## Segment tables and axes -/

/-- Machine 0 valid, a delivery word in queue 3. -/
def delivering (w : Nat) : State :=
  { queueOf (later.setF F.TRACK_QUEUES_ACK_QUEUE 3) 3 [BitVec.ofNat 64 w] with mem := { bytes := [(0x10840000, 1)] } }

theorem test_witness_SegmentDelivery_words : ∀ w ∈ [2 ^ 60 + 8 * 2 ^ 52 + 0xFFFFFFFF, 3 * 2 ^ 60], let s := delivering w
    let p := s.mboxTake (s.getF F.TRACK_QUEUES_ACK_QUEUE)
    s.ticking 0x0A0 = true ∧ s.notActive = false ∧ (s.setF F.PAIR_STAT_ROLE 2).notActive = true ∧ p.1 = some (BitVec.ofNat 64 w) ∧
    (w < 3 * 2 ^ 60 → wordTag (BitVec.ofNat 64 w) = 1 ∧ bitsOf (wordPayload (BitVec.ofNat 64 w)) 55 52 = 8 ∧ p.2.role = 0 ∧
      p.2.machValid (bitsOf (wordPayload (BitVec.ofNat 64 w)) 47 40) = true) ∧
    (w = 3 * 2 ^ 60 → wordTag (BitVec.ofNat 64 w) ≠ 1) := by decide +kernel

def segTabled (x : SegTable) : State := { later with seg := { tables := [(255, x)] } }

theorem test_witness_SegmentDelivery : later.pagePowered 0x0A0 = true ∧ later.ticking 0x0A0 = true ∧ (later.segTable 0).running = false ∧
    ((segTabled { running := true, chunks := 2, ok := 1, flight := 2 }).segTable 255).running = true ∧
    ((segTabled { running := true, chunks := 2, ok := 1, flight := 2 }).segTable 255).ok ||| 2 = 2 ^ 2 - 1 ∧
    (segTabled { running := true }).seg.tables = [(255, { running := true })] ∧ ({ running := true } : SegTable).late = false ∧
    0 < tickDiff later.planTick ({ running := true } : SegTable).start ∧ (later.setF F.SEG_CTRL_EVT_EN 0).flag F.SEG_CTRL_EVT_EN = false ∧
    bitAt ((segTabled { running := true, chunks := 2, ok := 1, sent := 2 }).segTable 255).sent 1 = true ∧
    bitAt ({} : SegTable).sent 1 = false ∧ ({ running := false } : SegTable).running = false ∧
    ((later.setF F.SEG_CTRL_GIVEUP_EP 1).getF F.SEG_CTRL_GIVEUP_EP * later.epochMs : Int) <
      tickDiff later.planTick ({ running := true } : SegTable).start * 10 ∧
    later.time.catchFrom = none := by decide

/-- A standby unit whose time jumped from 5 s to 10 s, a table in delivery that starts at tick `start`. -/
def skipping (start : Nat) : State :=
  { (later.setF F.PAIR_STAT_ROLE 2).setF F.SEG_CTRL_GIVEUP_EP 100 with
    seg := { tables := [(255, { running := true, start := start })] }
    time := { later.time with catchFrom := some 5000000000, jump := some (5000000000, 10000000000) } }

theorem test_witness_SegmentDelivery_skipped : ∀ start ∈ [700, 999, 1000], let s := skipping start
    let d := tickDiff start (5000000000 / 10000000)
    s.pagePowered 0x0A0 = true ∧ s.time.catchFrom = some 5000000000 ∧ s.time.jump = some (5000000000, 10000000000) ∧ s.sched.threads = [] ∧
    s.sched.items = [] ∧ s.sched.held = [] ∧ s.flag F.SCHED_CTRL_JOB_EN = false ∧ s.notActive = true ∧ s.rsvs = [] ∧ s.pair.touched = [] ∧
      s.plan.cmd = none ∧
    s.seg.tables = [(255, { running := true, start := start })] ∧ 0 ≤ d ∧
    d + (s.getF F.SEG_CTRL_GIVEUP_EP * s.epochMs / 10 : Nat) ≥ (10000000000 / 10000000 - 5000000000 / 10000000 : Nat) ∧
    (start < 1000 → d < (10000000000 / 10000000 - 5000000000 / 10000000 : Nat)) ∧
    (start = 1000 → d ≥ (10000000000 / 10000000 - 5000000000 / 10000000 : Nat)) := by decide

/-- What falls due at skipped ticks falls due in ascending order: an ask whose timeout ends at tick 600 is gone before the job that could
have met it is ready at tick 700 (R563). -/
theorem test_catch_up_order : let s := { (later.setF F.SCHED_CTRL_JOB_EN 1) with
      sched := { jobs := [⟨7, 0, 1, 0xFFFF, 0, 700, 0, false⟩], asks := [⟨0, some 600⟩] }
      mem := { bytes := [(0x10840000, 1)] }
      time := { later.time with catchFrom := some 5000000000, jump := some (5000000000, 10000000000) } }
    (match exec .timeJumpCatchUp s with
      | .next t => some (t.sched.asks.length, t.sched.jobs.map (·.ready), t.getF F.SCHED_JOB_TIMEOUTS_COUNT, t.time.catchFrom)
      | _ => none) = some (0, [true], 1, none) := by decide +kernel

def axis7 (a : AxisSt) : State := { later with axes := [(7, a)] }

/-- An input at the low level, as is its pin. -/
def lowPin : AxisInput := { raw := false, level := false }

/-- An input whose pin has been high since 0, from a low level; the encoder stood at 5 at the first edge. -/
def rising : AxisInput := { raw := true, level := false, first := some 5 }

theorem test_witness_AxisCommands_writes : later.opens core (axisPage 7 * 0x1000 + 0x040) true = true ∧
    later.opens core (axisPage 7 * 0x1000 + 0x048) true = true ∧ (later.axis 7).mode = AxisMode.disabled ∧
    ((axis7 { mode := .idle }).axis 7).mode ≠ AxisMode.disabled := by decide

theorem test_witness_AxisCommands_updates : ∀ mode ∈ [AxisMode.idle, .move, .fault], ∀ cmd ∈ [1, 2, 3, 4, 5, 6, 7, 8, 9],
    let s := axis7 { mode := mode, cmds := [(core, cmd)], resumable := true, target := 2147483647 }
    s.pagePowered 0x0A1 = true ∧ s.ioLost = false ∧ s.siteStops 7 = false ∧ (s.axis 7).cmds = [(core, cmd)] ∧ (s.axis 7).tab = none ∧
    (s.axis 7).mode = mode ∧ (s.axis 7).resumable = true ∧ s.flag (F.PG_ERR_INFO_VALID (axisPage 7)) = false := by decide

theorem test_witness_AxisCommands_free :
    let s := (axis7 { mode := .idle, target := 2147483647, limPos := lowPin, limNeg := lowPin }).setF (F.AXIS_TARGET_STEPS 7) 2147483648
    (s.axis 7).mode = AxisMode.idle ∧ s.limActive 7 (decide ((s.axis 7).cmdPos < toSigned 32 (s.getF (F.AXIS_TARGET_STEPS 7)))) = false ∧
    (s.axis 7).cmdPos ≠ toSigned 32 (s.getF (F.AXIS_TARGET_STEPS 7)) ∧
    (s.axis 7).cmdPos ≠ pos32 ((s.axis 7).cmdPos + toSigned 32 (s.getF (F.AXIS_TARGET_STEPS 7))) ∧ (s.axis 7).cmdPos ≠ (s.axis 7).target ∧
    s.limActive 7 true = false ∧ s.getF (F.AXIS_TABLE_COUNT_COUNT 7) = 0 ∧
    tickDiff s.taiMs ((s.setF (F.AXIS_TABLE_AT_MS 7) 20000).getF (F.AXIS_TABLE_AT_MS 7)) < 0 ∧
    (s.setF (F.AXIS_TABLE_AT_MS 7) 20000).getF (F.AXIS_TABLE_AT_MS 7) ≠ 0 := by decide

theorem test_witness_AxisMotionAndInputs_steps : later.pagePowered 0x0A1 = true ∧ zero.pagePowered 0x000 = true ∧
    ({ later with pwr := { state := .snowdrop } } : State).pagePowered 0x0A1 = false ∧ 0 < ((axis7 { wake := 1 }).axis 7).wake ∧
    ((axis7 { mode := .idle }).axis 7).wake = 0 ∧ ((axis7 { mode := .idle }).axis 7).vel = 0 ∧ ((axis7 { mode := .idle }).axis 7).owed = 0 ∧
    ((axis7 { mode := .move }).axis 7).pos = ((axis7 { mode := .move }).axis 7).target * stepUnit ∧
    ((axis7 { mode := .stopping }).axis 7).after = 0 ∧ ((axis7 { mode := .stopping }).axis 7).stopAt = none ∧
    ((axis7 { mode := .stopping, keep := true }).axis 7).keep = true := by decide

/-- A move at 2.000001 million steps per second. -/
def tooFast : State := axis7 { mode := .move, vel := 200000100000, target := 2147483647, vmax := 2147483647, acc := 2147483647 }

theorem test_witness_AxisMotionAndInputs_rate : (tooFast.axis 7).wake = 0 ∧ ((tooFast.axisAdvance 7).axis 7).mode ≠ AxisMode.disabled ∧
    tooFast.overRate 7 ((tooFast.axisAdvance 7).axis 7).vel.natAbs = true := by decide +kernel

theorem test_witness_AxisMotionAndInputs_inputs : later.flag (F.AXIS_CTRL_ENC_EN 7) = false ∧ later.ioLost = false ∧
    (later.setF (F.AXIS_CTRL_ENC_EN 7) 1).flag (F.AXIS_CTRL_ENC_EN 7) = true ∧ false ≠ ((later.axis 7).encA) ∧ true = (later.axis 7).encB ∧
    true = (later.axis 7).encA ∧ false ≠ (later.axis 7).encB ∧ (later.setF (F.AXIS_CTRL_ENC_FAULT 7) 0).flag (F.AXIS_CTRL_ENC_FAULT 7) = false ∧
    (later.setF (F.AXIS_CTRL_ENC_FAULT 7) 1).flag (F.AXIS_CTRL_ENC_FAULT 7) = true ∧
    later.getF (F.AXIS_ENC_ERR_COUNT 7) + 1 < 2 ^ (F.AXIS_ENC_ERR_COUNT 7).width ∧
    0 < 1000 * later.getF (F.AXIS_DEBOUNCE_LIM_US 7) ∧ 0 < 1000 * later.getF (F.AXIS_DEBOUNCE_HOME_US 7) ∧
    true ≠ lowPin.raw ∧ lowPin.raw = lowPin.level ∧ lowPin.first = none ∧ true = rising.raw ∧ true ≠ rising.level ∧
    rising.since + 1000 * later.getF (F.AXIS_DEBOUNCE_LIM_US 7) ≤ later.now ∧
    rising.since + 1000 * later.getF (F.AXIS_DEBOUNCE_HOME_US 7) ≤ later.now ∧
    true = (later.setF (F.AXIS_CTRL_LIM_LOW 7) 1).flag (F.AXIS_CTRL_LIM_LOW 7) ∧
    true ≠ (later.setF (F.AXIS_CTRL_LIM_LOW 7) 0).flag (F.AXIS_CTRL_LIM_LOW 7) ∧
    true = !(later.setF (F.AXIS_CTRL_HOME_LOW 7) 0).flag (F.AXIS_CTRL_HOME_LOW 7) ∧
    ((axis7 { mode := .move, vel := 1, limPos := rising }).axis 7).limPos = rising ∧
    ((axis7 { mode := .move, vel := 1 }).axis 7).mode ≠ AxisMode.homing ∧ 0 < ((axis7 { mode := .move, vel := 1 }).axis 7).vel ∧
    ((axis7 { mode := .move, vel := -1 }).axis 7).vel < 0 ∧ (later.axis 7).vel = 0 := by decide

theorem test_witness_AxisMotionAndInputs_others : (later.axis 7).mode ≠ AxisMode.homing ∧
    (∀ p ∈ [HomePhase.search, .approach], ((axis7 { mode := .homing, phase := p, homePin := rising }).axis 7).phase = p ∧
      ((axis7 { mode := .homing, phase := p, homePin := rising }).axis 7).homePin.first = some 5 ∧
      ((axis7 { mode := .homing, phase := p }).axis 7).mode = AxisMode.homing) ∧
    (later.setF (F.AXIS_CTRL_STALL_EN 7) 1).flag (F.AXIS_CTRL_STALL_EN 7) = true ∧
    (axis7 { mode := .idle, stall := 65535 }).getF (F.AXIS_STALL_MS 7) ≤ ((axis7 { mode := .idle, stall := 65535 }).axis 7).stall ∧
    ((later.axis 7).stall < later.getF (F.AXIS_STALL_MS 7)) ∧
    ((axis7 { mode := .idle }).axis 7).mode ≠ AxisMode.disabled ∧ (later.setF (F.AXIS_CTRL_IDLE_EN 7) 1).flag (F.AXIS_CTRL_IDLE_EN 7) = true ∧
    (∃ c ∈ ((axis7 { cmds := [(core, 1)] }).axis 7).cmds, axisMotion c.2 = true) ∧
    (∀ c ∈ ((axis7 { mode := .idle }).axis 7).cmds, axisMotion c.2 = false) ∧
    ((axis7 { mode := .idle }).axis 7).restAt + 1000000 * (axis7 { mode := .idle }).getF (F.AXIS_IDLE_DELAY_MS 7) ≤ (axis7 { mode := .idle }).now ∧
    ({ axis7 { mode := .idle } with ioLost := true } : State).ioLost = true := by decide

/-! ## Radio -/

/-- Sector 7 serves: enabled, its links up, the time base followed; `out` ns past 10 s. -/
def served (out : Nat) (x : SectSt) : State :=
  { ((((later.setF F.RADIO_CTRL_EN 1).setF (F.SECT_CTRL_EN 7) 1).setF (F.SECT_STAT_JESD_TX 7) 3).setF (F.SECT_STAT_JESD_RX 7) 3) with
    time := { out := 10 * secUnit + out * nsUnit, state := .lockA }
    keys := { later.keys with kRadio := some cascKey }
    radio := { sects := [(7, x)] } }

/-- Word 0 of bank 1 of sector 7 is reserved. -/
def badBank : State := later.setF ⟨0xB8C00, 31, 28⟩ 15

theorem test_witness_RadioLinksAndBanks : (served 0 {}).linksUp 7 = true ∧ later.linksUp 7 = false ∧
    (served 0 {}).getF (F.SECT_STAT_JESD_RX 7) = 3 ∧ zero.opens core (sectPage 7 * 0x1000 + 0x040) true = true ∧
    zero.getF (F.SECT_STAT_BANK_ACTIVE 7) = 0 ∧ zero.bankPasses 7 1 = true ∧ badBank.bankPasses 7 1 = false ∧
    zero.flag (F.PG_ERR_INFO_VALID (sectPage 7)) = false ∧ later.pagePowered (sectPage 7) = true ∧
    ({ later with pwr := { state := .snowdrop } } : State).pagePowered (sectPage 5) = false := by decide +kernel

/-- A sector with a correction left of an epoch gone by. -/
def staleCorr : State := { (later.setF (F.SECT_CTRL_BANK 7) 1) with radio := { sects := [(7, { corr := [[1]], corrEp := later.epochNo + 1 })] } }

theorem test_witness_RadioLinksAndBanks_corrections : (staleCorr.sect 7).corrEp ≠ staleCorr.epochNo ∧ [] ≠ (staleCorr.sect 7).corr ∧
    staleCorr.edgeDue 107 (staleCorr.cycleSlots * 250000) ≠ none ∧ staleCorr.flag (F.SECT_STAT_BANK_PENDING 7) = false ∧
    (staleCorr.sect 7).prCorr = [] := by decide +kernel

theorem test_witness_RadioLinksAndBanks_edges : let s := (later.setF (F.SECT_CTRL_BANK 7) 1).setF (F.SECT_STAT_BANK_PENDING 7) 1
    let b := (badBank.setF (F.SECT_CTRL_BANK 7) 1).setF (F.SECT_STAT_BANK_PENDING 7) 1
    zero.edgeDue 107 (zero.cycleSlots * 250000) = none ∧ s.edgeDue 107 (s.cycleSlots * 250000) ≠ none ∧
    later.flag (F.SECT_STAT_BANK_PENDING 7) = false ∧ s.flag (F.SECT_STAT_BANK_PENDING 7) = true ∧ s.epochHolds = false ∧
    s.bankPasses 7 (s.getF (F.SECT_CTRL_BANK 7)) = true ∧ b.bankPasses 7 (b.getF (F.SECT_CTRL_BANK 7)) = false ∧
    b.edgeDue 107 (b.cycleSlots * 250000) ≠ none ∧ b.epochHolds = false ∧ b.flag (F.SECT_STAT_BANK_PENDING 7) = true := by decide +kernel

def stopImage : Nat → State := fun slot =>
  { served ((slot - 40000) * 250000) {} with poppy := { imageSlot := some (slot * 250000), image := List.replicate 64 0 } }

theorem test_witness_RadioSlots_beacons : (served 0 {}).sectServes 7 = true ∧ (served 0 {}).pwr.state ≠ PwrState.snowdrop ∧
    (served 0 {}).keys.kRadio ≠ none ∧ (served 0 {}).edgeDue 117 250000 = some 10000000000 ∧ (served 0 {}).ownBeacon 40000 = true ∧
    (served 250000 {}).edgeDue 117 250000 = some 10000250000 ∧ (served 250000 {}).ownBeacon 40001 = false ∧
    (served 0 {}).mirrorToken 40000 = none ∧ (∀ slot ∈ [40020, 40040, 40060], (stopImage slot).sectServes 7 = true ∧
      (stopImage slot).edgeDue 127 250000 = some (slot * 250000) ∧ (stopImage slot).mirrorImage slot = some (List.replicate 64 0)) ∧
    (served 5000000 {}).edgeDue 127 250000 = some 10005000000 ∧ (served 5000000 {}).mirrorImage 40020 = none := by decide +kernel

/-- A program that idles for two slots and then runs the word of operation `op` over `n` slots, with `low` in its low 24 bits. -/
def progOf (out op n low : Nat) : State :=
  ((served out {}).setF ⟨0xB8800, 31, 24⟩ 0x82).setF ⟨0xB8804, 31, 0⟩ ((16 * op + n) * 0x1000000 + low)

/-- Each operation in slot 2 of its cycle. -/
theorem test_witness_RadioSlots_words : ∀ op ∈ [0, 3, 4, 5, 6, 7, 8, 9], let s := progOf 500000 op 1 0
    s.sectServes 7 = true ∧ s.pwr.state ≠ PwrState.snowdrop ∧ s.flag F.RADIO_CTRL_PAIR = false ∧ s.onlyTwins = false ∧
    (match s.progDue 7 (fun x => (op == 4 || op == 5 || op == 6) && progOp x.word == op) with
      | some (i, e) => i == 1 && progOp e.word == op && s.progFree e && (op != 6 || decide (s.slotNow % s.cycleSlots < e.start + (e.count + 1) / 2)) &&
        (op != 3 || (bitAt e.word 23 == false && s.machValid (bitsOf e.word 7 0) == false))
      | none => false) = true := by decide +kernel

/-- A word that meets the beacon's slot. -/
theorem test_witness_RadioSlots_fixed : ∀ op ∈ [3, 4, 5], let s := (served 0 {}).setF ⟨0xB8800, 31, 24⟩ (16 * op + 1)
    s.sectServes 7 = true ∧
    (match s.progDue 7 (fun x => (op == 4 || op == 5 || op == 6) && progOp x.word == op) with
      | some (_, e) => progOp e.word == op && !s.progFree e
      | none => false) = true := by decide +kernel

/-- Machine 0 is valid and has a fix to be sent. -/
def withFix (s : State) : State :=
  { s with mem := { bytes := [(0x10840000, 1), (0x10840004, 1)] }, solv := { s.solv with fixes := [(0, List.replicate 28 9)] } }

theorem test_witness_RadioSlots_fix : ∀ s ∈ [withFix (progOf 500000 3 2 0x100000),
      withFix (((progOf 500000 3 2 0x100000).setF F.RADIO_CTRL_PAIR 1).setF F.RADIO_CTRL_UNIT 1)],
    s.sectServes 7 = true ∧ s.keys.kRadio ≠ none ∧ s.fixFor 0 = some (List.replicate 28 9) ∧ s.machValid 0 = true ∧ s.isPrimrose 0 = false ∧
    s.onlyTwins = s.flag F.RADIO_CTRL_PAIR ∧
    (match s.progDue 7 (fun x => (progOp x.word == 4 || progOp x.word == 5 || progOp x.word == 6)) with
      | some (_, e) => progOp e.word == 3 && s.progFree e && !bitAt e.word 23 && bitsOf e.word 22 20 == 1 && bitsOf e.word 7 0 == 0 &&
        s.airFits 7 (rateOf (if bitsOf e.word 17 16 = 0 then s.getF (F.SECT_CTRL_DATA_RATE 7) else bitsOf e.word 17 16)) 60 true e.count
      | none => false) = true := by decide +kernel

/-- A poll window of two slots whose answer half has come, machine 0 polled. -/
def answering (l : List Nat) : State := withFix (served 750000 { rx := some ⟨.poll, 40002, 2, [], l⟩ })

theorem test_witness_RadioSlots_answers : ∀ l ∈ [[], [0]], let s := answering l
    s.sectServes 7 = true ∧ s.progDue 7 (fun x => progOp x.word == 6) = none ∧ s.edgeDue 137 250000 ≠ none ∧
    (s.sect 7).rx = some ⟨.poll, 40002, 2, [], l⟩ ∧ 40002 + (⟨.poll, 40002, 2, [], l⟩ : RxBlock).pollSlots ≤ s.slotNow ∧
    s.slotNow < 40002 + 2 ∧ s.isPrimrose 0 = false ∧ s.machValid 0 = true ∧ s.keys.kRadio ≠ none ∧
    s.fixFor 0 = some (List.replicate 28 9) ∧ s.airFits 7 (rateOf (s.getF (F.SECT_CTRL_DATA_RATE 7))) 60 true 1 = true := by decide +kernel

theorem test_witness_RadioSlots_none : later.sectServes 7 = false ∧
    ({ later with pwr := { state := .snowdrop } } : State).pwr.state = PwrState.snowdrop ∧
    zero.edgeDue 117 250000 = none ∧ zero.edgeDue 127 250000 = none ∧ zero.edgeDue 137 250000 = none := by decide

def content (primrose : Bool) : TxContent := ⟨none, primrose, 1, 0, false, false, [], 12, [], none, 0, 0⟩

/-- The program of the sector is done; unit B of a pair repeats a block. -/
def repeating : State := (((served 0 { twin := [(40000, ⟨1, some (content false)⟩)], cycle := some 100, next := 1 }).setF F.RADIO_CTRL_PAIR 1).setF F.RADIO_CTRL_UNIT 1)

theorem test_witness_RadioSlots_twin : later.sectServes 7 = false ∧ repeating.sectServes 7 = true ∧
    repeating.progDue 7 (fun _ => false) = none ∧ repeating.flag F.RADIO_CTRL_PAIR = true ∧ repeating.airUnit = 1 ∧
    (repeating.sect 7).twin = [(repeating.slotNow, ⟨1, some (content false)⟩)] ∧ repeating.keys.kRadio ≠ none ∧
    (content true).primrose = true := by decide +kernel

/-- A frame with its FCS: native DATA and Primrose frames. -/
def fcs (b : List Byte) : List Byte := b ++ bytesLE (crc32 b) 4
def nativeData (src : Nat) : List Byte := fcs (bytesLE 0x8020 2 ++ bytesLE 0 2 ++ bytesLE src 6 ++ bytesLE 0 6 ++ List.replicate 4 0)
def primrose (kind dst : Nat) (rest : List Byte) : List Byte := fcs (bytesLE (0x4000 + kind * 0x400) 2 ++ bytesLE 0 2 ++ bytesLE (dst * 0x10000 + 0xFFFE) 4 ++ rest)
def poll : List Byte := primrose 4 5 (List.replicate 12 0)
def assocRequest : List Byte := primrose 7 0xFFFF (bytesLE 1 6 ++ List.replicate 6 0)

theorem test_witness_RadioReception_refused : later.sectRunning 7 = false ∧ later.taiNs < 10000000001 ∧
    ((served 0 { back := some 40000 }).sect 7).back = some 40000 ∧
    ((served 0 {}).airStamp 7 ⟨12, false, 10000000000, nativeData 2⟩).start / 250000 ≤ 40000 ∧
    ({ served 0 {} with time := { (served 0 {}).time with jump := some (9000000000, 10000250000) } } : State).slotJumped 40000 = true ∧
    (⟨12, false, 0, assocRequest⟩ : RxFrame).proto = 1 ∧ (⟨12, false, 0, assocRequest⟩ : RxFrame).kind = 7 ∧
    (served 0 {}).sectRunning 7 = true ∧ ((served 0 {}).sect 7).back = none ∧ (served 0 {}).slotJumped 40000 = false ∧
    (⟨12, false, 0, nativeData 2⟩ : RxFrame).proto = 2 ∧ false = (served 0 {}).wide10 7 ∧ ((served 0 {}).sect 7).rx = none ∧
    (⟨12, false, 0, [0, 0x80]⟩ : RxFrame).proto = 2 ∧ ([0, 0x80] ++ List.replicate 2047 0 : List Byte).length = 2049 ∧
    (⟨12, false, 0, [0, 0x80] ++ List.replicate 2047 0⟩ : RxFrame).proto = 2 ∧
    ([0, 0x80] ++ List.replicate 22 0 : List Byte).length = 24 ∧
    crc32 (([0, 0x80] ++ List.replicate 22 0 : List Byte).take 20) ≠ leValue (([0, 0x80] ++ List.replicate 22 0 : List Byte).drop 20) := by
  decide +kernel

theorem hears_none (s : State) (n : Nat) (r : RxFrame) (h : (s.sect n).rx = none) (h1 : s.sectRunning n = true) (h2 : r.start ≤ s.taiNs)
    (h3 : (s.sect n).back = none) (hj : s.slotJumped ((s.airStamp n r).start / 250000) = false)
    (h4 : r.rate = 6 ∨ r.rate = 12 ∨ r.rate = 24) (h5 : r.wide = s.wide10 n) (h6 : 24 ≤ r.bytes.length ∧ r.bytes.length ≤ 2048)
    (h7 : crc32 (r.bytes.take (r.bytes.length - 4)) = leValue (r.bytes.drop (r.bytes.length - 4))) : s.hears n r :=
  ⟨h1, h2, fun b hb => by simp [h3] at hb, hj, h4, h5, h6.1, h6.2, fun b hb => by simp [h] at hb, h7⟩

theorem hears_some (s : State) (n : Nat) (r : RxFrame) (b : RxBlock) (h : (s.sect n).rx = some b) (h1 : s.sectRunning n = true)
    (h2 : r.start ≤ s.taiNs) (h3 : (s.sect n).back = none) (hj : s.slotJumped ((s.airStamp n r).start / 250000) = false)
    (h4 : r.rate = 6 ∨ r.rate = 12 ∨ r.rate = 24) (h5 : r.wide = s.wide10 n) (h6 : 24 ≤ r.bytes.length ∧ r.bytes.length ≤ 2048)
    (hf : s.airFits n r.rate r.bytes.length (bitAt (wordAt r.bytes 0) 9) (b.slotsFrom ((s.airStamp n r).start / 250000)) = true)
    (h7 : crc32 (r.bytes.take (r.bytes.length - 4)) = leValue (r.bytes.drop (r.bytes.length - 4))) : s.hears n r :=
  ⟨h1, h2, fun b' hb => by simp [h3] at hb, hj, h4, h5, h6.1, h6.2, fun b' hb _ => by rw [h] at hb; cases hb; exact hf, h7⟩

/-- Machine 0 has the identity 1; it is a Primrose machine of the short address 5 where `word0` says so. -/
def radioMachine (x : SectSt) (word0 : Byte) : State :=
  { (served 0 x).setF F.RADIO_CTRL_PRIMROSE_EN 1 with mem := { bytes := [(0x10840000, word0), (0x10840004, 1), (0x1084000A, 5)] } }

theorem test_witness_RadioReception_tags : (∀ src ∈ [1, 2], (radioMachine {} 1).hears 7 ⟨12, false, 10000000000, nativeData src⟩) ∧
    (∀ src ∈ [1, 2], (⟨12, false, 0, nativeData src⟩ : RxFrame).proto = 2 ∧ (⟨12, false, 0, nativeData src⟩ : RxFrame).kind = 0 ∧
      bitsOf (wordAt (nativeData src) 0) 5 4 = 2 ∧ leValue (((nativeData src).drop 4).take 6) = src) ∧
    ((radioMachine {} 1).sect 7).rx = none ∧ (radioMachine {} 1).identMachine 2 = none ∧ (radioMachine {} 1).identMachine 1 = some 0 ∧
    ({ radioMachine {} 1 with keys := {} } : State).linkTag 1 500 [] ≠ some [] := by
  refine ⟨fun src h => ?_, ?_⟩
  · simp only [List.mem_cons, List.mem_nil_iff, or_false] at h
    rcases h with rfl | rfl <;> exact hears_none _ _ _ (by decide) (by decide) (by decide) (by decide) (by decide) (by decide) (by decide) (by decide) (by decide +kernel)
  · decide +kernel

/-- A frame of the partner without a right TAG. -/
def partnerFrame (unit : Nat) : List Byte := fcs (bytesLE (0x8C00 + unit * 0x10) 2 ++ List.replicate 22 0)

theorem test_witness_RadioReception_partner : ∀ unit ∈ [0, 1], (served 0 {}).hears 7 ⟨12, false, 10000000000, partnerFrame unit⟩ ∧
    (⟨12, false, 0, partnerFrame unit⟩ : RxFrame).proto = 2 ∧ (⟨12, false, 0, partnerFrame unit⟩ : RxFrame).kind < 6 ∧
    bitsOf (wordAt (partnerFrame unit) 0) 5 4 = unit ∧
    (served 0 {}).linkTag (leValue (((partnerFrame unit).drop 10).take 6)) (10000000000 / 20000000)
      ((partnerFrame unit).take ((partnerFrame unit).length - 8)) ≠
        some (((partnerFrame unit).drop ((partnerFrame unit).length - 8)).take 4) := by
  intro unit h
  refine ⟨?_, ?_⟩
  · simp only [List.mem_cons, List.mem_nil_iff, or_false] at h
    rcases h with rfl | rfl <;>
      exact hears_none _ _ _ (by decide) (by decide) (by decide) (by decide) (by decide) (by decide) (by decide) (by decide) (by decide +kernel)
  · revert unit; decide +kernel

def pollBlock (k : RxKind) : RxBlock := ⟨k, 40000, 3, [], []⟩
def polled : State := { radioMachine { rx := some (pollBlock .poll) } 3 with
  radio := { sects := [(7, { rx := some (pollBlock .poll) })], assoc := [(0, some 1)] } }

theorem test_witness_RadioReception_poll : polled.hears 7 ⟨12, false, 10000000000, poll⟩ ∧ (⟨12, false, 0, poll⟩ : RxFrame).proto = 1 ∧
    (⟨12, false, 0, poll⟩ : RxFrame).kind = 4 ∧ bitAt (wordAt poll 0) 9 = false ∧ polled.flag F.RADIO_CTRL_PRIMROSE_EN = true ∧
    wordAt poll 4 % 65536 = 0xFFFE ∧ polled.shortMachine (wordAt poll 4 / 65536) = some 0 ∧ (polled.sect 7).rx = some (pollBlock .poll) ∧
    (pollBlock .poll).slotsFrom (10000000000 / 250000) ≠ 0 ∧ polled.pwr.state ≠ PwrState.snowdrop ∧
    polled.getF (F.SECT_RX_OK_COUNT 7) + 1 < 2 ^ (F.SECT_RX_OK_COUNT 7).width ∧
    bitAt ((polled.setF F.PWR_WAKE_EN_EN 1).getF F.PWR_WAKE_EN_EN) 0 = true ∧ polled.pwr.wakeAt = none :=
  ⟨hears_some _ _ _ (pollBlock .poll) (by decide) (by decide) (by decide) (by decide) (by decide) (by decide) (by decide) (by decide) (by decide +kernel)
    (by decide +kernel), by decide +kernel⟩

def ackWait : AckWait := ⟨7, 0, 0, 10000000000, [], 3, 0⟩

theorem test_witness_RadioReception_acks : ((served 0 {}).sect 7).wait = none ∧ ((served 0 { wait := some ackWait }).sect 7).wait = some ackWait ∧
    ackWait.until_ ≤ (served 0 {}).taiNs ∧ (served 0 {}).taiNs < { ackWait with until_ := 10000000001 }.until_ := by decide

def contending : State := (radioMachine { rx := some (pollBlock (.contention true)) } 3).setF F.RADIO_PRIMROSE_ASSOC_EN 1

theorem test_witness_RadioReception_assoc : contending.hears 7 ⟨12, false, 10000000000, assocRequest⟩ ∧
    bitAt (wordAt assocRequest 0) 9 = false ∧ contending.flag F.RADIO_CTRL_PRIMROSE_EN = true ∧ wordAt assocRequest 4 % 65536 = 0xFFFE ∧
    wordAt assocRequest 4 / 65536 = 0xFFFF ∧ (contending.sect 7).rx = some ⟨.contention true, 40000, 3, [], []⟩ ∧
    contending.identMachine (leValue ((assocRequest.drop 8).take 6)) = some 0 ∧ contending.isPrimrose 0 = true ∧
    contending.flag F.RADIO_PRIMROSE_ASSOC_EN = true ∧ contending.assocOf 0 = none :=
  ⟨hears_some _ _ _ (pollBlock (.contention true)) (by decide) (by decide) (by decide) (by decide) (by decide) (by decide) (by decide) (by decide)
    (by decide +kernel) (by decide +kernel), by decide +kernel⟩

def leave : List Byte := primrose 9 5 (List.replicate 12 0)

theorem test_witness_RadioReception_disassoc : polled.hears 7 ⟨12, false, 10000000000, leave⟩ ∧ (⟨12, false, 0, leave⟩ : RxFrame).kind = 9 ∧
    (⟨12, false, 0, leave⟩ : RxFrame).proto = 1 ∧ wordAt leave 4 % 65536 = 0xFFFE ∧ polled.shortMachine (wordAt leave 4 / 65536) = some 0 :=
  ⟨hears_some _ _ _ (pollBlock .poll) (by decide) (by decide) (by decide) (by decide) (by decide) (by decide) (by decide) (by decide) (by decide +kernel)
    (by decide +kernel), by decide +kernel⟩

theorem test_witness_RadioReception_timeouts : polled.assocOf 0 = some 1 ∧ polled.assocOf 255 = none ∧
    1 + polled.getF F.RADIO_PRIMROSE_TIMEOUT_S * 1000000000 ≤ polled.now ∧
    { polled with now := 1 }.now < 1 + polled.getF F.RADIO_PRIMROSE_TIMEOUT_S * 1000000000 := by decide

/-- In Snowdrop, sector 7 keeps the watch. -/
def watched : State := { (((served 0 {}).setF F.RADIO_WATCH_EN 1).setF F.RADIO_WATCH_SECT 7) with pwr := { state := .snowdrop } }

theorem test_witness_RadioReception_watch : watched.edgeDue 140 250000 = some 10000000000 ∧ watched.watching = true ∧
    watched.sectServes (watched.getF F.RADIO_WATCH_SECT) = true ∧ 40000 / 80 % 2 ^ 32 % 50 = 0 ∧ watched.ownBeacon 40000 = true ∧
    watched.keys.kRadio ≠ none := by decide

/-- A firmware packet for every machine, of `len` bytes. -/
def fwQueued (len : Nat) : State := queueOf ((later.setF F.RADIO_FWQ_EN 1).setF F.RADIO_FWQ_TX_QUEUE 3) 3
  [BitVec.ofNat 64 (2 ^ 60 + 2 ^ 47 + len * 2 ^ 32), BitVec.ofNat 64 (3 * 2 ^ 60)]

theorem test_witness_RadioReception_firmware : (later.setF F.RADIO_FWQ_EN 0).flag F.RADIO_FWQ_EN = false ∧ ∀ len ∈ [0, 1, 7], let s := fwQueued len
    let p := s.mboxTakePacket (s.getF F.RADIO_FWQ_TX_QUEUE) (s.mboxQ (s.getF F.RADIO_FWQ_TX_QUEUE)).level
    s.flag F.RADIO_FWQ_EN = true ∧ s.mboxPacketReady (s.getF F.RADIO_FWQ_TX_QUEUE) = true ∧ p.2.1 = false ∧ bitsOf (p.1.headD 0) 43 32 = len ∧
    len ≤ (p.1.length - 1) * 7 ∧ bitAt (p.1.headD 0) 47 = true ∧ s.pagePowered 0x0B0 = true ∧ (1 ≤ len → len ≤ 2020) := by decide +kernel

/-! ## Switch -/

/-- A frame of 64 bytes with its FCS: destination, source, then `rest`. -/
def ethFrame (dst src : Nat) (rest : List Byte) : List Byte := fcs (padBytes 60 (bytesBE dst 6 ++ bytesBE src 6 ++ rest))

/-- Port 19 takes and sends frames up to 64 bytes; frames are forwarded. -/
def port19 : State :=
  (((((later.setF (F.EMAC_CTRL_MODE 19) 1).setF (F.EMAC_STAT_LINK 19) 1).setF (F.EMAC_CTRL_RX_EN 19) 1).setF (F.EMAC_CTRL_TX_EN 19) 1).setF
    (F.EMAC_MAX_LEN_BYTES 19) 64)

theorem test_witness_SwitchFrames_refused : later.portUp 19 = false ∧ port19.portUp 19 = true ∧ port19.flag (F.EMAC_CTRL_RX_EN 19) = true ∧
    (0 : Nat) ≤ port19.taiNs ∧ ([] : List Byte).length ≤ 63 ∧ (List.replicate 64 0 : List Byte).length ≤ port19.portLimit 19 (frameTagged (List.replicate 64 0)) ∧
    port19.portLimit 19 (frameTagged (List.replicate 65 0)) < (List.replicate 65 0 : List Byte).length ∧
    crc32 ((List.replicate 64 1 : List Byte).take 60) ≠ leValue ((List.replicate 64 1 : List Byte).drop 60) := by decide +kernel

def pauseFrame : List Byte := ethFrame 1 2 [0x88, 0x08]
/-- The second copy of a frame of source 2, sequence number 1, on LAN B. -/
def prpFrame : List Byte := fcs (padBytes 54 (bytesBE 1 6 ++ bytesBE 2 6 ++ [0x08, 0x00]) ++ [0, 1, 0xB0, 46, 0x88, 0xFB])
def prpPort : State := { port19.setF F.SWCH_PRP_EN 512 with sw := { prpSeen := [⟨2, 1, 100000000000⟩] } }

theorem test_witness_SwitchFrames_good : (∀ f ∈ [pauseFrame, prpFrame], f.length = 64 ∧ crc32 (f.take 60) = leValue (f.drop 60) ∧
      f.length ≤ port19.portLimit 19 (frameTagged f)) ∧ frameType (pauseFrame.take 60) = 0x8808 ∧ frameType (prpFrame.take 60) ≠ 0x8808 ∧
    prpPort.inPrp 19 = true ∧ prpPort.portUp 19 = true ∧ prpFind (prpFrame.take 60) = some (1, 0xB) ∧ 0xB = 0xA + 19 % 2 ∧
    prpPort.sw.prpSeen = [⟨frameSrc (prpFrame.take 60), 1, 100000000000⟩] ∧
    prpPort.now < 100000000000 + prpPort.getF F.SWCH_PRP_CFG_ENTRY_FORGET_MS * 1000000 := by decide +kernel

/-- Address 1 of VLAN 1 lies at port 0. -/
def forwarding : State :=
  { ((((port19.setF F.SWCH_CTRL_FWD_EN 1).setF F.SWCH_CTRL_LEARN_EN 0).setF (F.EMAC_PVID_PVID 19) 1).setF (F.EMAC_CTRL_INGRESS_FILTER 19) 0) with
    sw := { atu := [⟨1, 1, 0, true, 0⟩] } }
def unicast : List Byte := ethFrame 1 2 [0x08, 0x00]

theorem test_witness_SwitchFrames_forward : let b := unicast.take 60
    unicast.length = 64 ∧ crc32 b = leValue (unicast.drop 60) ∧ unicast.length ≤ forwarding.portLimit 19 (frameTagged unicast) ∧
    forwarding.inPrp 19 = false ∧ forwarding.classify 19 b = some (1, 0) ∧ frameType b ≠ 0x8808 ∧ frameType b ≠ 0x88FB ∧
    frameType b ≠ 0x88F7 ∧ frameDst b / 16 ≠ 0x0180C200000 ∧ forwarding.flag F.SWCH_CTRL_FWD_EN = true ∧
    forwarding.flag F.SWCH_CTRL_LEARN_EN = false ∧ forwarding.atuFind (frameDst b) 1 = some ⟨frameDst b, 1, 0, true, 0⟩ ∧ forwarding.inPrp 0 = false ∧
    max 60 (forwarding.egressForm 0 1 0 b).length + 4 ≤ forwarding.portLimit 0 (frameTagged (forwarding.egressForm 0 1 0 b)) ∧
    forwarding.admits 0 (bitsOf (forwarding.getF (F.EMAC_PCP_MAP_MAP 19)) 2 0) (forwarding.egressForm 0 1 0 b).length = true := by decide +kernel

/-- A PTP message of type `type` on its way to the engine. -/
def ptpIn (type : Nat) : List Byte := ethFrame ptpMac 2 ([0x88, 0xF7] ++ bytesBE type 1 ++ [0x12, 0, 44, 0x2C])

/-- Port 19 is slave. -/
def slave19 : State :=
  ((((port19.setF F.TIME_B_PORT_SLAVE_EN 1).setF F.TIME_B_PORT_ACTIVE 19).setF (F.EMAC_PVID_PVID 19) 1).setF (F.EMAC_CTRL_INGRESS_FILTER 19) 0)

theorem test_witness_SwitchFrames_ptp : ∀ type ∈ [0, 1], let f := ptpIn type
    let b := f.take 60
    let s1 := (slave19.bump (F.EMAC_RX_OK_COUNT 19)).countOctets (F.EMAC_RX_BYTES_COUNT 19) 64
    f.length = 64 ∧ crc32 b = leValue (f.drop 60) ∧ f.length ≤ slave19.portLimit 19 (frameTagged f) ∧ slave19.portUp 19 = true ∧
    slave19.flag (F.EMAC_CTRL_RX_EN 19) = true ∧ slave19.inPrp 19 = false ∧ slave19.classify 19 b = some (1, 0) ∧ frameType b = 0x88F7 ∧
    frameDst b = ptpMac ∧ slave19.getF F.TIME_B_PTPCFG_VID = 0 ∧ frameTagged b = false ∧
    s1.ptpTakes 19 (b.drop (ptpAt b)) = (type == 0) := by decide +kernel

/-- A port that takes no VLAN. -/
theorem test_witness_SwitchFrames_noVlan : (port19.setF (F.EMAC_PVID_PVID 19) 4095).classify 19 (unicast.take 60) = none ∧
    (port19.setF (F.EMAC_PVID_PVID 19) 4095).inPrp 19 = false ∧ frameType (unicast.take 60) ≠ 0x8808 ∧
    unicast.length ≤ (port19.setF (F.EMAC_PVID_PVID 19) 4095).portLimit 19 (frameTagged unicast) ∧
    (port19.setF (F.EMAC_PVID_PVID 19) 4095).portUp 19 = true ∧
    (port19.setF (F.EMAC_PVID_PVID 19) 4095).flag (F.EMAC_CTRL_RX_EN 19) = true := by decide +kernel

/-- A frame that waits in queue 7 of port 19. -/
def sending (f : EgFrame) : State := { port19 with sw := { queues := [(159, [f])] } }
def plainFrame : EgFrame := { bytes := [1, 2, 3] }
def stampedFrame : EgFrame := { bytes := [1, 2, 3], ts := some 5 }
def lateFrame : EgFrame := { bytes := [1, 2, 3], launch := some 0, lateDrop := true }

theorem test_witness_SwitchFrames_transmit : port19.eligible8 19 = none ∧ (∀ f ∈ [plainFrame, stampedFrame, lateFrame],
      (sending f).eligible8 19 = some (7, f, []) ∧ f.desc = none ∧ (sending f).portUp 19 = true ∧
      (sending f).flag (F.EMAC_CTRL_TX_EN 19) = true ∧ Assoc.get (fun _ => 0) (sending f).sw.busy 19 ≤ (sending f).now) ∧
    lateFrame.launch = some 0 ∧ (sending lateFrame).launchAt 0 + 1000 < (sending lateFrame).taiNs ∧ lateFrame.lateDrop = true ∧
    plainFrame.launch = none ∧ plainFrame.ptp = none ∧ plainFrame.ts = none ∧ stampedFrame.ts = some 5 ∧
    ((sending stampedFrame).fifo (tsqKey 19)).length < 64 ∧ (sending stampedFrame).tsMarkers 19 = [] := by decide

/-- Port 3 is linked and keeps the wake watch in Snowdrop. -/
def asleep : State :=
  { ((((((later.setF F.SWCH_WAKE_CTRL_PORT_EN 8).setF F.SWCH_WAKE_CTRL_MAGIC_EN 1).setF F.SWCH_WAKE_MAC_MAC 0).setF (F.EMAC_CTRL_MODE 3) 1).setF
      (F.EMAC_STAT_LINK 3) 1).setF (F.EMAC_CTRL_RX_EN 3) 1) with
    pwr := { state := .snowdrop } }

def stamped (markers : List Nat) : State := { later with fifos := [(tsqKey 19, [[1, 2, 3, 4]])], sw := { markers := if markers = [] then [] else [(19, markers)] } }

theorem test_witness_SwitchFrames_stamps : zero.opens core (tsqKey 19) false = true ∧ (stamped []).fifo (tsqKey 19) = [[1, 2, 3, 4]] ∧
    (stamped []).tsMarkers 19 = [] ∧ (stamped [9]).fifo (tsqKey 19) = [[1, 2, 3, 4]] ∧ (stamped [9]).tsMarkers 19 = [9] ∧
    zero.fifo (tsqKey 19) = [] ∧ (zero.setF (F.EMAC_CTRL_MODE 19) 0).getF (F.EMAC_CTRL_MODE 19) = 0 ∧ port19.getF (F.EMAC_CTRL_MODE 19) ≠ 0 ∧
    port19.pwr.state ≠ PwrState.snowdrop ∧ (zero.setF (F.EMAC_CTRL_MODE 19) 2).getF (F.EMAC_CTRL_MODE 19) = 2 ∧ port19.refThere 19 = true ∧
    ({ port19 with pwr := { lost := 31 } } : State).refThere 19 = false ∧ asleep.refThere 3 = true ∧ asleep.getF (F.EMAC_CTRL_MODE 3) ≠ 0 ∧
    bitAt (asleep.getF F.SWCH_WAKE_CTRL_PORT_EN) 3 = true := by decide

def atuOf (l : List AtuEntry) (mac port : Nat) : State :=
  { ((later.setF F.SWCH_ATU_KEY_MAC mac).setF F.SWCH_ATU_KEY_VID 1).setF F.SWCH_ATU_DATA_PORT port with sw := { atu := l } }

theorem test_witness_SwitchTablesAndInnerPorts_table : zero.opens core 0xD0058 true = true ∧
    (atuOf [] 5 22).atuFind ((atuOf [] 5 22).getF F.SWCH_ATU_KEY_MAC) ((atuOf [] 5 22).getF F.SWCH_ATU_KEY_VID) = none ∧
    (atuOf [⟨5, 1, 21, false, 7⟩] 5 21).atuFind ((atuOf [] 5 21).getF F.SWCH_ATU_KEY_MAC) ((atuOf [] 5 21).getF F.SWCH_ATU_KEY_VID) = some ⟨5, 1, 21, false, 7⟩ ∧
    21 < (atuOf [] 5 22).getF F.SWCH_ATU_DATA_PORT ∧ (atuOf [] 5 21).getF F.SWCH_ATU_DATA_PORT ≤ 21 ∧ (atuOf [] 5 21).atuFull 5 1 = false ∧
    (atuOf (List.replicate 4 ⟨5, 4097, 0, true, 0⟩) 5 21).atuFull 5 1 = true := by decide +kernel

/-- Queues, packets, wake frames: a packet of `len` bytes for port 19 in the queue of port 21. -/
def fromCores (len : Nat) : State := queueOf (port19.setF F.SWCH_P21_TX_QUEUE 1) 1
  ([2 ^ 60 + 2 ^ 51 + len * 2 ^ 16, 2 ^ 60, 3 * 2 ^ 60].map (BitVec.ofNat 64))

theorem test_witness_SwitchTablesAndInnerPorts_port21 : port19.mboxPacketReady (port19.getF F.SWCH_P21_TX_QUEUE) = false ∧
    ∀ len ∈ [13, 14], let s := fromCores len
    let p := s.mboxTakePacket (s.getF F.SWCH_P21_TX_QUEUE) (s.mboxQ (s.getF F.SWCH_P21_TX_QUEUE)).level
    s.pagePowered 0x0D0 = true ∧ s.mboxPacketReady (s.getF F.SWCH_P21_TX_QUEUE) = true ∧ p.2.1 = false ∧ bitsOf (p.1.headD 0) 31 16 = len ∧
    bitsOf (p.1.headD 0) 54 52 ≠ 7 ∧ p.1.length - 1 = (len + 6) / 7 ∧ bitsOf (p.1.headD 0) 51 32 = 2 ^ 19 ∧ p.2.2.inPrp 19 = false ∧
    max 60 (unpack7 len (p.1.drop 1)).length + 4 ≤ p.2.2.portLimit 19 (frameTagged (unpack7 len (p.1.drop 1))) ∧
    p.2.2.admits 19 0 (unpack7 len (p.1.drop 1)).length = true := by decide +kernel

def ringed (stopped : Nat) : State := (later.setF (F.SWCH_RING_SIZE_COUNT.win 0) 4096).setF (F.SWCH_RING_STAT_STOPPED.win 0) stopped

theorem test_witness_SwitchTablesAndInnerPorts_rings : zero.opens core 0xD00B4 true = true ∧ zero.opens core 0xD00BC true = true ∧
    (later.setF F.SWCH_RING_INDEX_RING 0).getF F.SWCH_RING_INDEX_RING = 0 ∧ later.getF F.SWCH_RING_INDEX_RING = 0 ∧
      (ringed 0).getF F.SWCH_RING_INDEX_RING = 0 ∧
    (later.setF (F.SWCH_RING_SIZE_COUNT.win 0) 0).ringSize 0 ≤ 0 ∧ 4095 < (ringed 1).ringSize 0 ∧ (ringed 1).ringStopped 0 = true ∧
    (ringed 0).ringStopped 0 = false ∧ ((ringed 0).ring 0).fetch = 0 ∧ ((ringed 1).ring 0).held = none ∧ ((ringed 1).ring 0).out = [] ∧
    ((ringed 1).ring 0).fetch = (ringed 1).ringTail 0 ∧ 8 ≤ ((ringed 0).setF F.SWCH_RING_INDEX_RING 8).getF F.SWCH_RING_INDEX_RING := by decide

theorem test_witness_SwitchTablesAndInnerPorts_times : zero.pagePowered 0x0D0 = true ∧ (zero.setF F.SWCH_AGE_SECONDS 0).getF F.SWCH_AGE_SECONDS = 0 ∧
    (zero.setF F.SWCH_AGE_SECONDS 1).getF F.SWCH_AGE_SECONDS ≠ 0 ∧ zero.now < zero.sw.lifeAt + zero.getF F.SWCH_PRP_CFG_LIFE_CHECK_MS * 1000000 ∧
    later.sw.lifeAt + later.getF F.SWCH_PRP_CFG_LIFE_CHECK_MS * 1000000 ≤ later.now ∧ later.pwr.state ≠ PwrState.snowdrop := by decide

/-- A magic frame for address 0 in Snowdrop. -/
def magicFrame : List Byte := fcs (List.replicate 14 0 ++ List.replicate 6 0xFF ++ List.replicate 96 0)

theorem test_witness_SwitchTablesAndInnerPorts_wake : later.pwr.state ≠ PwrState.snowdrop ∧ asleep.pwr.state = PwrState.snowdrop ∧
    asleep.getF (F.EMAC_CTRL_MODE 3) ≠ 0 ∧ asleep.flag (F.EMAC_STAT_LINK 3) = true ∧ asleep.flag (F.EMAC_CTRL_RX_EN 3) = true ∧
    (asleep.setF (F.EMAC_CTRL_MODE 3) 0).getF (F.EMAC_CTRL_MODE 3) = 0 ∧ (asleep.setF (F.EMAC_STAT_LINK 3) 0).flag (F.EMAC_STAT_LINK 3) = false ∧
    (asleep.setF (F.EMAC_CTRL_RX_EN 3) 0).flag (F.EMAC_CTRL_RX_EN 3) = false ∧ bitAt ((asleep.setF F.PWR_WAKE_EN_EN 2).getF F.PWR_WAKE_EN_EN) 1 = true ∧
    bitAt (asleep.getF F.SWCH_WAKE_CTRL_PORT_EN) 3 = true ∧ bitAt (asleep.getF F.SWCH_WAKE_CTRL_PORT_EN) 2 = false ∧ magicFrame.length = 120 ∧
    crc32 (magicFrame.take 116) = leValue (magicFrame.drop 116) ∧ asleep.flag F.SWCH_WAKE_CTRL_MAGIC_EN = true ∧
    magicIn (bytesBE (asleep.getF F.SWCH_WAKE_MAC_MAC) 6) (magicFrame.take 116) = true ∧ asleep.flag F.SWCH_WAKE_STAT_VALID = false := by decide +kernel

/-! ## Pairs and cascades -/

/-- A unit of a pair in a role, with K_casc and the queue of port 21. -/
def paired (role : Nat) (p : PairSt) : State := coupled { later.setF F.PAIR_STAT_ROLE role with pair := p }

/-- The units agree on the pair. -/
def agreeing : State :=
  { (later.setF F.RADIO_CTRL_PAIR 1).setF F.PAIR_CTRL_PROMOTE_SF 3 with poppy := { a := { cfg := poppyCfgReset.set 0 2 } } }

theorem test_witness_PairRoles_enable : zero.opens core 0xF0040 true = true ∧ zero.flag (F.PG_CTRL_LOCK 0x0F0) = false ∧
    3 ≤ agreeing.getF F.PAIR_CTRL_PROMOTE_SF ∧ agreeing.getF F.PAIR_CTRL_WITNESS ≤ 2 ∧ agreeing.flag F.RADIO_CTRL_PAIR = true ∧
    agreeing.poppy.a.pair = true ∧ agreeing.getF F.RADIO_CTRL_UNIT = agreeing.poppy.a.unit ∧ agreeing.flag F.PAIR_CTRL_EN = false ∧
    (agreeing.setF F.RADIO_CTRL_PAIR 0).flag F.RADIO_CTRL_PAIR = false ∧ (agreeing.setF F.PAIR_CTRL_EN 1).flag F.PAIR_CTRL_EN = true := by decide

theorem test_witness_PairRoles_ends : zero.pagePowered 0x0F0 = true ∧ zero.edgeDue 13 20000000 = none ∧ later.edgeDue 13 20000000 ≠ none ∧
    (paired 1 { startSf := 255 }).pairBoundary.role = 1 ∧ (paired 1 { startSf := 255 }).getF F.PAIR_CTRL_PROMOTE_SF < (paired 1 { startSf := 255 }).pairBoundary.pair.startSf ∧
    (paired 4 { quietSf := 255 }).pairBoundary.role = 4 ∧ (paired 4 { quietSf := 255 }).getF F.PAIR_CTRL_PROMOTE_SF ≤ (paired 4 { quietSf := 255 }).pairBoundary.pair.quietSf ∧
    (paired 0 {}).pairBoundary.role ≠ 1 ∧ (paired 0 {}).pairBoundary.role ≠ 4 := by decide +kernel

def quiet (witness : Nat) : State := ((paired 3 { answer := some false, nextSeq := some 0 }).setF F.PAIR_STAT_NOEVID 255).setF F.PAIR_CTRL_WITNESS witness
def unanswered : State := ((paired 2 {}).setF F.PAIR_STAT_NOEVID 255).setF F.PAIR_CTRL_WITNESS 2

theorem test_witness_PairRoles_standby : (∀ s ∈ [quiet 0, quiet 2, unanswered], (s.pairBoundary.role = 2 ∨ s.pairBoundary.role = 3) ∧
      s.getF F.PAIR_CTRL_PROMOTE_SF ≤ s.pairBoundary.getF F.PAIR_STAT_NOEVID ∧ s.pairBoundary.pair.askDue = true) ∧
    unanswered.getF F.PAIR_CTRL_WITNESS = 2 ∧ unanswered.pairBoundary.pair.answered ≠ some false ∧ unanswered.pairBoundary.pair.blockSeen = false ∧
    (quiet 2).pairBoundary.pair.answered = some false ∧ (quiet 2).getF F.PAIR_CTRL_WITNESS ≠ 0 ∧ (quiet 2).keys.kCasc ≠ none ∧
    (quiet 2).pair.nextSeq = some 0 ∧ (quiet 0).getF F.PAIR_CTRL_WITNESS = 0 ∧
    (quiet 0).getF F.PAIR_TAKEOVERS_COUNT + 1 < 2 ^ (F.PAIR_TAKEOVERS_COUNT).width := by decide +kernel

theorem test_witness_PairRoles_commands : zero.opens core 0xF0048 true = true ∧ (paired 4 {}).role = 4 ∧ (paired 4 {}).pair.handoff = none ∧
    (paired 4 { handoff := some 0 }).pair.handoff = some 0 ∧ 0 < (paired 4 { handoff := some 0 }).taiNs ∧
    (paired 4 { handoff := some 20000000000 }).taiNs ≤ 20000000000 ∧ (paired 2 {}).role = 2 ∧ (paired 2 {}).pair.evidNow = false ∧
    (paired 2 {}).pair.evidPrev = false ∧ (paired 3 {}).role = 3 ∧ (paired 3 { evidNow := true }).pair.evidNow = true := by decide

/-- A message of the partner, unit B, over the pair link. -/
theorem received_paired (role : Nat) (p : PairSt) (text : List Byte) (hr : p.reasm = []) (hh : p.heardSeq = [])
    (he : (paired role p).mboxEnabled ((paired role p).getF F.SWCH_P21_RX_QUEUE) = true) (ht : messageOk text = true)
    (hst : ((paired role p).notActive && standbyDiscards (bitsOf (wordAt text 0) 31 24)) = false) :
    ((paired role p).arriving 16 cascKey text).received (bitsOf (wordAt text 0) 31 24) =
      (some (messageOf (16 == 16 + (paired role p).getF F.PAIR_CTRL_LINK_PORT) text), (paired role p).arrived text) :=
  received_coupled _ 16 text (by decide) rfl hr hh he ht hst

def messageTypes : List Nat := [0x01, 0x06, 0x07, 0x08, 0x09, 0x0A, 0x0B, 0x0C, 0x10, 0x11, 0x12, 0x13, 0x14, 0x15, 0x16, 0x17]

/-- Messages of every type with a body of one word, from the partner and from member 2, reach an active unit. -/
theorem test_witness_PairMessages_types : ∀ type ∈ messageTypes, ∀ src ∈ [1, 4],
    let text := message type src 0 (bytesLE 7 4)
    ((paired 4 {}).arriving 16 cascKey text).received type = (some (messageOf (16 == 16 + (paired 4 {}).getF F.PAIR_CTRL_LINK_PORT) text), (paired 4 {}).arrived text) := by
  intro type ht src hs
  simp only [messageTypes, List.mem_cons, List.mem_nil_iff, or_false] at ht hs
  rcases ht with rfl | rfl | rfl | rfl | rfl | rfl | rfl | rfl | rfl | rfl | rfl | rfl | rfl | rfl | rfl | rfl <;> rcases hs with rfl | rfl <;>
    exact received_paired 4 {} _ rfl rfl (by decide) (by decide) (by decide)

def own (type : Nat) (body : List Byte) : List Byte := message type 1 0 body

theorem test_witness_PairMessages_from : let text := own 0x10 (bytesLE 7 4)
    let m := messageOf (16 == 16 + (paired 4 {}).getF F.PAIR_CTRL_LINK_PORT) text
    m.member < 16 ∧ m.link = true ∧ m.body = bytesLE 7 4 ∧ ((paired 4 {}).arrived text).fromPartner m = true ∧ ((paired 4 {}).arrived text).role = 4 ∧
    ((paired 4 {}).arrived (message 0x10 4 0 (bytesLE 7 4))).fromPartner (messageOf true (message 0x10 4 0 (bytesLE 7 4))) = false ∧
    ((paired 4 {}).arriving 16 cascKey text).pagePowered 0x0F0 = true ∧ ((paired 4 {}).arrived text).pairActive = true ∧
    (zero.received 0x01).1 = none := by decide

/-- HANDOFF to a standby at the position 7 and at none; HANDOFF_ACK to an active unit that has sent HANDOFF. -/
theorem test_witness_PairRoles_handoff : (∀ p ∈ [some 7, none], let s := paired 3 { pos := p }
      (s.arriving 16 cascKey (own 0x16 (bytesLE 7 4))).received 0x16 =
        (some (messageOf (16 == 16 + s.getF F.PAIR_CTRL_LINK_PORT) (own 0x16 (bytesLE 7 4))), s.arrived (own 0x16 (bytesLE 7 4))) ∧
      (s.arrived (own 0x16 (bytesLE 7 4))).pair.pos = p ∧ (s.arrived (own 0x16 (bytesLE 7 4))).role = 3 ∧ wordAt (bytesLE 7 4) 0 = 7) ∧
    let s := paired 4 { handSent := true }
    (s.arriving 16 cascKey (own 0x17 (bytesLE 7 4))).received 0x17 =
      (some (messageOf (16 == 16 + s.getF F.PAIR_CTRL_LINK_PORT) (own 0x17 (bytesLE 7 4))), s.arrived (own 0x17 (bytesLE 7 4))) ∧
    (s.arrived (own 0x17 (bytesLE 7 4))).pair.handSent = true := by
  refine ⟨fun p h => ⟨?_, ?_⟩, ?_, rfl⟩
  · simp only [List.mem_cons, List.mem_nil_iff, or_false] at h
    rcases h with rfl | rfl <;> exact received_paired 3 _ _ rfl rfl (by decide) (by decide) (by decide)
  · revert p; decide
  · exact received_paired 4 { handSent := true } _ rfl rfl (by decide) (by decide) (by decide)

/-- Keepalives of a partner in role 2 to 5 to a unit that they move. -/
theorem test_witness_PairMessages_roles : ∀ x ∈ [(4, 2), (5, 3), (1, 4), (1, 5)], let s := paired x.1 {}
    let text := own 0x10 (bytesLE x.2 4)
    (s.arriving 16 cascKey text).received 0x10 = (some (messageOf (16 == 16 + s.getF F.PAIR_CTRL_LINK_PORT) text), s.arrived text) ∧
    (s.arrived text).role = x.1 ∧ wordAt (bytesLE x.2 4) 0 % 8 = x.2 ∧ (16 == 16 + s.getF F.PAIR_CTRL_LINK_PORT) = true := by
  intro x h
  simp only [List.mem_cons, List.mem_nil_iff, or_false] at h
  rcases h with rfl | rfl | rfl | rfl <;> exact ⟨received_paired _ {} _ rfl rfl (by decide) (by decide) (by decide), by decide⟩

/-- A transaction without entries, JSEQ 1, of member 0. -/
def journalHead : List Byte := wordsBytes [0xD1010000, 1, 32, 0, 0, 0, 0]
def transaction : List Byte := journalHead ++ bytesLE (crc32 (journalHead ++ [0, 0, 0, 0])) 4

theorem test_witness_PairMessages_journal : let s := paired 3 { pos := some 0 }
    let text := own 0x11 transaction
    (s.arriving 16 cascKey text).received 0x11 = (some (messageOf (16 == 16 + s.getF F.PAIR_CTRL_LINK_PORT) text), s.arrived text) ∧
    (messageOf true text).body = transaction ∧ 32 ≤ transaction.length ∧ wordAt transaction 8 = transaction.length ∧
    crc32 (transaction.take 28 ++ [0, 0, 0, 0] ++ transaction.drop 32) = wordAt transaction 28 ∧ wordAt transaction 0 / 65536 = 0xD101 ∧
    bitsOf (wordAt transaction 0) 15 12 = (s.arrived text).member ∧ (s.arrived text).pair.pos = some 0 ∧ wordAt transaction 4 = (0 + 1) % 2 ^ 32 ∧
    (s.arrived text).pair.beyond = [] ∧ (s.arrived text).role = 3 ∧ (bytesLE 7 4).length < 32 ∧ (paired 3 {}).pair.pos = none :=
  ⟨received_paired 3 { pos := some 0 } _ rfl rfl (by decide) (by decide +kernel) (by decide), by decide +kernel⟩

/-- A transaction in JBUF is asked for again; JBUF lies in general SRAM. -/
def ringed2 : State := (paired 4 { ring := [(7, 0, 32)] }).setF F.PAIR_JBUF_BASE_ADDR 0x138

theorem test_witness_PairMessages_jreq : (ringed2.arriving 16 cascKey (own 0x13 (bytesLE 7 4))).received 0x13 =
      (some (messageOf (16 == 16 + ringed2.getF F.PAIR_CTRL_LINK_PORT) (own 0x13 (bytesLE 7 4))), ringed2.arrived (own 0x13 (bytesLE 7 4))) ∧
    (let s1 := ringed2.arrived (own 0x13 (bytesLE 7 4))
     s1.pairActive = true ∧ s1.pair.ring = [(wordAt (bytesLE 7 4) 0, 0, 32)] ∧
      (s1.clientRead 0x0A 0 (s1.getF F.PAIR_JBUF_BASE_ADDR * 0x100000 + 0) 32).1.fault = none) :=
  ⟨received_coupled ringed2 16 _ (by decide) rfl rfl rfl (by decide) (by decide) (by decide), by decide +kernel⟩

/-- Machine 7's slots lie where no memory is: no committed state. -/
theorem test_witness_PairMessages_copies : let s1 := (paired 4 {}).arrived (own 0x15 (bytesLE 7 4))
    s1.pairActive = true ∧ (s1.committedSlot (wordAt (bytesLE 7 4) 0 % 256)).1 = none := by decide +kernel

/-- A unit whose memory holds a slot of machine 7 with CRC word `w0`, and one with `w1`, has committed the state that the two give. -/
theorem committedSlot_slots {s : State} {w0 w1 : Nat} (hb : s.bare 2 0) (h0 : s.slotVa 7 0 = 0x13950000) (h1 : s.slotVa 7 1 = 0x13968000)
    (hm : s.mem = (slots w0 w1 0).mem) (hd : (s.smach 7).discard = false) :
    s.committedSlot 7 = (chooseSlot (emptySlot w0) (emptySlot w1), s) := by
  obtain ⟨r0, r1, -⟩ := slots_reads w0 w1 0
  have e0 : s.slotRead 2 (s.slotVa 7 0) 0x18000 = (some (emptySlot w0), s) := by
    unfold State.slotRead
    rw [h0, State.clientRead_bare hb (by unfold inGeneral; omega), State.physBytes_congr hm, r0]
    rfl
  have e1 : s.slotRead 2 (s.slotVa 7 1) 0x18000 = (some (emptySlot w1), s) := by
    unfold State.slotRead
    rw [h1, State.clientRead_bare hb (by unfold inGeneral; omega), State.physBytes_congr hm, r1]
    rfl
  have et : s.topSlot 7 = (chooseSlot (emptySlot w0) (emptySlot w1), s) := by
    unfold State.topSlot
    rw [e0]
    simp only [e1]
  unfold State.committedSlot
  rw [et]
  simp [hd]

/-- An active unit whose memory is `m`, members 0 and 15 within reach. -/
def remembering (m : MemSt) : State := { (slotted (paired 4 {})).setF F.CASC_STAT_REACHABLE 0x8001 with mem := m }

/-- MOVE_SEND of machine 7 to a member within reach. -/
theorem remembering_ready (m : MemSt) (he : m.ecc = []) : (remembering m).bare 2 0 ∧ (remembering m).slotVa 7 0 = 0x13950000 ∧
    (remembering m).slotVa 7 1 = 0x13968000 ∧ ((remembering m).smach 7).discard = false ∧ (remembering m).opens core 0xF1064 true = true ∧
    (remembering m).flag F.CASC_MOVE_STAT_BUSY = false ∧ (remembering m).notActive = false ∧
    bitAt ((remembering m).getF F.CASC_STAT_REACHABLE) 15 = true := by
  let s := (slotted (paired 4 {})).setF F.CASC_STAT_REACHABLE 0x8001
  exact ⟨⟨by decide, he, .inr (show s.getF (F.DTU_CTRL_MODE (s.clientCtx 2 0)) = 0 by decide)⟩, show s.slotVa 7 0 = 0x13950000 by decide,
    show s.slotVa 7 1 = 0x13968000 by decide, rfl, show s.opens core 0xF1064 true = true by decide,
    show s.flag F.CASC_MOVE_STAT_BUSY = false by decide, show s.notActive = false by decide,
    show bitAt (s.getF F.CASC_STAT_REACHABLE) 15 = true by decide⟩

theorem remembering_arrived (m : MemSt) (he : m.ecc = []) : let s1 := (remembering m).arrived (own 0x15 (bytesLE 7 4))
    s1.bare 2 0 ∧ s1.slotVa 7 0 = 0x13950000 ∧ s1.slotVa 7 1 = 0x13968000 ∧ (s1.smach 7).discard = false ∧ s1.mem = m ∧ s1.pairActive = true ∧
    s1.pair.touched = [] := by
  intro s1
  have hr : s1.regs = (((slotted (paired 4 {})).setF F.CASC_STAT_REACHABLE 0x8001).arrived (own 0x15 (bytesLE 7 4))).regs := rfl
  have hm : s1.mem = m := rfl
  refine ⟨⟨by decide, by rw [hm, he], .inr ?_⟩, ?_, ?_, rfl, hm, ?_, rfl⟩
  · unfold State.clientCtx State.getF State.reg
    rw [hr]; decide
  · unfold State.slotVa State.getF State.reg
    rw [hr]; decide
  · unfold State.slotVa State.getF State.reg
    rw [hr]; decide
  · unfold State.pairActive State.role State.getF State.reg
    rw [hr]; decide

theorem remembering_received (m : MemSt) : ((remembering m).arriving 16 cascKey (own 0x15 (bytesLE 7 4))).received 0x15 =
    (some (messageOf (16 == 16 + (remembering m).getF F.PAIR_CTRL_LINK_PORT) (own 0x15 (bytesLE 7 4))),
      (remembering m).arrived (own 0x15 (bytesLE 7 4))) := by
  let s := (slotted (paired 4 {})).setF F.CASC_STAT_REACHABLE 0x8001
  exact received_coupled (remembering m) 16 (own 0x15 (bytesLE 7 4)) (by decide) rfl rfl rfl
    (show s.mboxEnabled (s.getF F.SWCH_P21_RX_QUEUE) = true by decide) (by decide)
    (show (s.notActive && standbyDiscards (bitsOf (wordAt (own 0x15 (bytesLE 7 4)) 0) 31 24)) = false by decide)

theorem test_witness_CascadeMessages_committed : ∃ m b s1, (remembering m).committedSlot 7 = (some (0, b), s1) ∧ b.length ≤ 0x18000 ∧
    m.ecc = [] := by
  obtain ⟨m, hm⟩ : ∃ m, m = (slots (crc32 (emptySlot 0)) (crc32 (emptySlot 0) + 1) 0).mem := ⟨_, rfl⟩
  have he : m.ecc = [] := hm ▸ (slots_regs _ _ _).2
  obtain ⟨hb, h0, h1, hd, -⟩ := remembering_ready m he
  refine ⟨m, _, _, (committedSlot_slots hb h0 h1 hm hd).trans (by rw [chooseSlot_first (emptySlot_good rfl) (emptySlot_bad rfl)]), ?_, he⟩
  rw [emptySlot_length]

/-- STATE_REQ of machine 7 reaches that unit. -/
theorem test_witness_PairMessages_committed : ∃ m b s2, ((remembering m).arrived (own 0x15 (bytesLE 7 4))).committedSlot 7 = (some (0, b), s2) ∧
    s2.pair.touched = [] ∧ b.length ≤ 0x18000 ∧ m.ecc = [] := by
  obtain ⟨m, hm⟩ : ∃ m, m = (slots (crc32 (emptySlot 0)) (crc32 (emptySlot 0) + 1) 0).mem := ⟨_, rfl⟩
  have he : m.ecc = [] := hm ▸ (slots_regs _ _ _).2
  obtain ⟨hb, h0, h1, hd, hs, -, ht⟩ := remembering_arrived m he
  refine ⟨m, _, _, (committedSlot_slots hb h0 h1 (hs.trans hm) hd).trans (by rw [chooseSlot_first (emptySlot_good rfl) (emptySlot_bad rfl)]),
    ht, ?_, he⟩
  rw [emptySlot_length]

/-- A witness's answer about member 0, unit B, and questions and answers that a unit with MSG_SEQ gets. -/
theorem test_witness_PairMessages_witness : (∀ type ∈ [0x08, 0x09], let s := paired 2 { nextSeq := some 5 }
      (s.arriving 16 cascKey (own type (bytesLE 0x110 4))).received type =
        (some (messageOf (16 == 16 + s.getF F.PAIR_CTRL_LINK_PORT) (own type (bytesLE 0x110 4))), s.arrived (own type (bytesLE 0x110 4))) ∧
      (s.arrived (own type (bytesLE 0x110 4))).keys.kCasc ≠ none ∧ (s.arrived (own type (bytesLE 0x110 4))).pair.nextSeq = some 5 ∧
      (s.arrived (own type (bytesLE 0x110 4))).role ≠ 0) ∧
    let s1 := (paired 2 { nextSeq := some 5 }).arrived (own 0x09 (bytesLE 0x110 4))
    wordAt (bytesLE 0x110 4) 0 % 16 = s1.member ∧ bitsOf (wordAt (bytesLE 0x110 4) 0) 4 4 = s1.otherLetter ∧
      bitAt (wordAt (bytesLE 0x110 4) 0) 8 = true ∧
    bitAt (wordAt (bytesLE 0x10 4) 0) 8 = false ∧ bitsOf (wordAt (bytesLE 0x110 4) 0) 4 4 ≠ (s1.setF F.RADIO_CTRL_UNIT 1).otherLetter := by
  refine ⟨fun type h => ?_, by decide⟩
  simp only [List.mem_cons, List.mem_nil_iff, or_false] at h
  rcases h with rfl | rfl <;>
    exact ⟨received_paired 2 { nextSeq := some 5 } _ rfl rfl (by decide) (by decide) (by decide), by decide, by decide, by decide⟩

def healthHead : List Byte := wordsBytes [0xD5010800, 0, 0, 0, 0, 0, 0]
def healthBody : List Byte := healthHead ++ bytesLE (crc32 healthHead) 4

theorem test_witness_PairMessages_health : let s := paired 4 {}
    let text := own 0x0C healthBody
    (s.arriving 16 cascKey text).received 0x0C = (some (messageOf (16 == 16 + s.getF F.PAIR_CTRL_LINK_PORT) text), s.arrived text) ∧
    healthBody.length = 32 ∧ (bytesWords healthBody).getD 0 0 / 65536 = 0xD501 ∧ crc32 (healthBody.take 28) = (bytesWords healthBody).getD 7 0 ∧
    ((s.arrived text).reg (0xF0070 + 4 * 0)).toNat ≠ (bytesWords healthBody).getD 0 0 :=
  ⟨received_paired 4 {} _ rfl rfl (by decide) (by decide +kernel) (by decide), by decide +kernel⟩

theorem test_witness_PairMessages_periods : later.pagePowered 0x0F0 = true ∧ (later.setF F.CASC_CTRL_EN 0).flag F.CASC_CTRL_EN = false ∧
    (later.setF F.CASC_CTRL_EN 1).flag F.CASC_CTRL_EN = true ∧ later.sendDue later.pair.kaSent (1000000 * later.getF F.CASC_KEEPALIVE_MS) = true ∧
    (paired 2 { nextSeq := some 5 }).pair.nextSeq = some 5 ∧ later.role = 0 ∧ (paired 2 {}).role = 2 ∧
      (paired 2 {}).sendDue (paired 2 {}).pair.pkaSent 1000000 = true ∧
    (∃ u ∈ (paired 4 { unconf := [(1, 0)] }).pair.unconf, u.2 + 1000 * (paired 4 {}).getF F.PAIR_CONF_US < (paired 4 {}).now) ∧
    (∀ u ∈ (paired 4 {}).pair.unconf, (paired 4 {}).now ≤ u.2) ∧ (paired 2 {}).sendDue (paired 2 {}).pair.healthAt 0 = true ∧
    (paired 2 {}).sendDue (paired 2 {}).pair.testAt 0 = true ∧ (paired 2 {}).freeCtx 15 = some 0 ∧
    (paired 2 { testAt := some 10000000000 }).sendDue (some 10000000000) 1 = false := by decide

theorem test_witness_CascadeMessages_snapshots : zero.pagePowered 0x0F0 = true ∧
    (let s1 := (paired 4 {}).arrived (own 0x06 (bytesLE 7 4))
     s1.isLead = true ∧ s1.notActive = false ∧ s1.plan.used = [] ∧ s1.flag F.CASC_STAT_SNAP_PENDING = false) ∧
    (let s := (paired 4 {}).setF F.CASC_STAT_SNAP_PENDING 1
     (s.arriving 16 cascKey (own 0x07 (bytesLE 7 4))).received 0x07 =
       (some (messageOf (16 == 16 + s.getF F.PAIR_CTRL_LINK_PORT) (own 0x07 (bytesLE 7 4))), s.arrived (own 0x07 (bytesLE 7 4))) ∧
     (s.arrived (own 0x07 (bytesLE 7 4))).flag F.CASC_STAT_SNAP_PENDING = true) ∧
    (let s := (paired 4 {}).setF F.CASC_CTRL_LEAD 1
     (s.arriving 16 cascKey (own 0x06 (bytesLE 7 4))).received 0x06 =
       (some (messageOf (16 == 16 + s.getF F.PAIR_CTRL_LINK_PORT) (own 0x06 (bytesLE 7 4))), s.arrived (own 0x06 (bytesLE 7 4))) ∧
     (s.arrived (own 0x06 (bytesLE 7 4))).isLead = false) :=
  ⟨by decide, by decide, ⟨received_coupled _ 16 _ (by decide) rfl rfl rfl (by decide) (by decide) (by decide), by decide⟩,
    ⟨received_coupled _ 16 _ (by decide) rfl rfl rfl (by decide) (by decide) (by decide), by decide⟩⟩

/-- A state of machine 7 moved from member 2; the machine's identity, 1, is known here or not. -/
def moveText : List Byte := message 0x0A 4 0 (wordsBytes [0, 1, 0, 0, 0x700])
def knowing (frames : List ObsFrame) : State :=
  { coupled later with mem := { bytes := [(0x10840000, 1), (0x10840004, 1)] }, solv := { queue := frames } }

theorem test_witness_CascadeMessages_move : ∀ s ∈ [coupled later, knowing []],
    (s.arriving 16 cascKey moveText).received 0x0A = (some (messageOf (16 == 16 + s.getF F.PAIR_CTRL_LINK_PORT) moveText), s.arrived moveText) ∧
    (s.arrived moveText).machineOf (wordAt (moveText.drop 16) 4) (wordAt (moveText.drop 16) 8 % 65536) = (if s.mem.bytes = [] then none else some 0) ∧
    (s.arrived moveText).inProcess 0 = false ∧ (knowing []).mbox = [] ∧
    ({ (knowing []).arrived moveText with solv := (atOp 0).solv } : State).inProcess 7 = true := by
  intro s h
  simp only [List.mem_cons, List.mem_nil_iff, or_false] at h
  rcases h with rfl | rfl <;>
    exact ⟨received_coupled _ 16 _ (by decide) rfl rfl rfl (by decide) (by decide) (by decide), by decide +kernel⟩

theorem test_witness_CascadeMessages_ack : ∀ at_ ∈ [0, 100000000000], let s := paired 4 { move := some (7, at_) }
    let text := own 0x0B (bytesLE 0x702 2)
    (s.arriving 16 cascKey text).received 0x0B = (some (messageOf (16 == 16 + s.getF F.PAIR_CTRL_LINK_PORT) text), s.arrived text) ∧
    bitsOf (leValue (bytesLE 0x702 2)) 15 8 = 7 ∧ (s.arrived text).pair.move = some (7, at_) ∧
    ((s.arrived text).now ≤ at_ + 100000000 ∨ at_ + 100000000 < (s.arrived text).now) ∧ later.pair.move = none := by
  intro at_ h
  simp only [List.mem_cons, List.mem_nil_iff, or_false] at h
  rcases h with rfl | rfl <;> exact ⟨received_paired 4 _ _ rfl rfl (by decide) (by decide) (by decide), by decide⟩

theorem test_witness_CascadeMessages_members : ({ later with pair := { heard := [(30, some later.now)] } } : State).heardRecently 30 = true ∧
    ({ later with pair := { move := some (7, 0) } } : State).pair.move = some (7, 0) ∧ 0 + 100000000 < later.now ∧
    (paired 4 {}).pair.nextSeq = none ∧ later.heardRecently 0 = false ∧ bitAt (later.getF F.CASC_STAT_REACHABLE) 15 = false ∧
    bitAt ((later.setF F.CASC_STAT_REACHABLE 0x8001).getF F.CASC_STAT_REACHABLE) 15 = true ∧ 0 = later.getF F.CASC_CTRL_LEAD ∧
    zero.opens core 0xF1064 true = true ∧ (later.setF F.CASC_MOVE_STAT_BUSY 1).flag F.CASC_MOVE_STAT_BUSY = true ∧
    later.flag F.CASC_MOVE_STAT_BUSY = false ∧ later.notActive = false ∧ (later.committedSlot 7).1 = none := by decide

/-- A base set of member 2 with one satellite and one signal. -/
def shareText : List Byte := message 0x02 4 0 (bytesLE 0x21C7 4 ++ bytesLE 10000 4 ++ List.replicate 24 0 ++ obsBytes)

theorem test_witness_SolverEpochs_shared : ((coupled later).arriving 17 cascKey shareText).received 0x02 =
      (some (messageOf (17 == 16 + (coupled later).getF F.PAIR_CTRL_LINK_PORT) shareText), (coupled later).arrived shareText) ∧
    (match ((coupled later).arrived shareText).parseShare (shareText.drop 16) with
      | some b => b.member != ((coupled later).arrived shareText).member
      | none => false) = true ∧ ((coupled later).arrived shareText).gnss.baseSets = [] :=
  ⟨received_coupled _ 17 _ (by decide) rfl rfl rfl (by decide) (by decide) (by decide), by decide +kernel⟩

/-! ## Key store, tamper, attestation -/

/-- A key of every usage, usable in every life-cycle state. -/
def anyKey : KeySlot := ⟨2, 0, 1, 0x1FFF, 7, 1, cascKey, bytesBE p256G.1 32 ++ bytesBE p256G.2 32⟩

/-- The bytes of a buffer in general SRAM. -/
def buffer (l : List Byte) : MemSt := { bytes := (l.zipIdx.filter fun p => p.1 != 0).map fun p => (0x13800000 + p.2, p.1) }

/-- The key store with keys in slots 2 and 10, the attributes of a key of TYPE 2 staged, a source buffer. -/
def keyed (len : Nat) (l : List Byte) : State :=
  { (((((lifeCycled 1).setF F.KEY_SRC_ADDR 0x13800000).setF F.KEY_DST_ADDR 0x13801000).setF F.KEY_LEN_BYTES len).setF F.KEY_ATTR_TYPE 2).setF F.KEY_ATTR_LC 7 with
    keys := { slots := [(2, some anyKey), (10, some anyKey)], rootOk := true, drbgOk := true }
    mem := buffer l }

theorem test_witness_KeyCommands_checks : zero.opens core 0x100044 true = true ∧ zero.keys.work = none ∧
    ({ zero with keys := { work := some { op := 1 } } } : State).keys.work ≠ none ∧ ({ zero with keys := { lock := true } } : State).keys.lock = true ∧
    ({ zero with keys := { rootFail := true } } : State).keys.rootFail = true ∧ zero.keys.lock = false ∧ zero.keys.rootFail = false ∧
    zero.keys.drbgOk = false ∧ (keyed 0 []).keys.drbgOk = true ∧ (keyed 0 []).slot 1023 = none ∧ (keyed 0 []).slot 10 = some anyKey ∧
    bitAt { anyKey with usage := 0 }.usage 0 = false ∧ (∀ b ∈ List.range 13, bitAt anyKey.usage b = true) ∧ (keyed 0 []).lcAllows anyKey = true ∧
    (keyed 0 []).lcAllows { anyKey with lc := 0 } = false := by decide

def curvePoint : List Byte := bytesBE p256G.1 32 ++ bytesBE p256G.2 32

/-- The reads of the source buffer, the staged attributes and what importing and agreeing ask of the bytes read. -/
theorem test_witness_KeyCommands_inputs : (∀ n ∈ [1, 32, 64, 108], ((keyed n (List.replicate n 1)).keyRead 0 ((keyed n []).getF F.KEY_SRC_ADDR) n).1 = some (List.replicate n 1)) ∧
    (keyed 1 []).slot 1023 = none ∧ (keyed 1 []).attrType = 2 ∧ (keyed 1 []).attrUsage % 8192 &&& usageAllowed 2 = (keyed 1 []).attrUsage % 8192 ∧
    (keyed 1 []).attrUsage % 8192 &&& usageAllowed 4 = (keyed 1 []).attrUsage % 8192 ∧ (keyed 1 []).attrLc &&& anyKey.lc = (keyed 1 []).attrLc ∧
    anyKey.depth < 7 ∧ (keyed 64 []).keyLen = 64 ∧ (keyed 0 []).keyLen = 0 ∧ (keyed 4097 []).keyLen = 4097 ∧ (keyed 1 []).lifeCycle = .provision ∧
    importOk 2 (List.replicate 32 1) = true ∧ importOk 3 (List.replicate 32 0) = false ∧ importOk 4 curvePoint = true ∧
      importOk 4 (List.replicate 64 1) = false ∧
    onCurve (pointOf curvePoint) = true ∧ onCurve (pointOf (List.replicate 64 1)) = false ∧ anyKey.pub ≠ [] := by decide +kernel

/-- Sealed bytes that open under the key: the tag of an empty plaintext. Other bytes do not open. -/
def sealedNothing : List Byte := bytesLE 160901281543431204778146694753837767518 16

theorem test_witness_KeyCommands_sealed : gcmOpen cascKey (List.replicate 12 0) [] sealedNothing = some [] ∧
    gcmOpen cascKey (List.replicate 12 0) [] (List.replicate 16 0) = none := by decide +kernel

def sealingState : State :=
  { keyed 0 [] with poppy := { a := { crc := poppyCrc ((List.range 13).map fun i => ((keyed 0 []).reg (0xC0100 + 4 * i)).toNat) } } }

theorem test_witness_KeyCommands_poppy : sealingState.lifeCycle = .provision ∧ sealingState.poppy.keys = none ∧ sealingState.slot 10 = some anyKey ∧
    sealingState.slot 2 = some anyKey ∧ bitAt anyKey.usage 12 = true ∧ sealingState.lcAllows anyKey = true ∧ sealingState.rst.otp.ctrP < 2047 ∧
    sealingState.poppy.a.crc = poppyCrc ((List.range 13).map fun i => (sealingState.reg (0xC0100 + 4 * i)).toNat) := by decide +kernel

def working (w : KeyWork) : State := { keyed 0 [] with keys := { (keyed 0 []).keys with work := some w } }

theorem test_witness_KeyStoreAndBlobs_invalidate : (keyed 0 []).slot 3 = none ∧ (keyed 0 []).slot 10 ≠ none ∧ 10 ∈ (keyed 0 []).subtree 10 ∧
    (working { op := 0x07 }).keys.work = some { op := 0x07 } ∧ (∀ k ∈ ({ op := 0x01, uses := [11] } : KeyWork).uses, k ∉ (keyed 0 []).subtree 10) ∧
    (working { op := 0x01, uses := [10] }).keys.work = some { op := 0x01, uses := [10] } ∧
    (∃ k ∈ ({ op := 0x01, uses := [10] } : KeyWork).uses, k ∈ (working { op := 0x01, uses := [10] }).subtree 10) ∧
    (working { op := 0x01, uses := [10] }).slot 10 ≠ none := by decide

/-- A general blob without entries in the other flash slot, its counter value `c`. -/
def blobOf (c tag : Nat) : List Byte := bytesLE 0xE2001000 4 ++ bytesLE c 4 ++ bytesLE 48 4 ++ List.replicate 20 0 ++ bytesLE tag 16
def flashed (c tag : Nat) : State := { keyed 0 [] with mem := { flash := (blobOf c tag).zipIdx.map fun p => (0x10000 + p.2, p.1) } }

theorem test_witness_KeyStoreAndBlobs_blobs : (flashed 1 308719346775866200037982039144778102568).readBlob 1 1 = some (1, []) ∧
    1 ≠ ({ flashed 1 308719346775866200037982039144778102568 with
      rst := { zero.rst with otp := { zero.rst.otp with ctrG := 5 } } } : State).rst.otp.ctrG + 1 ∧
    (keyed 0 []).readBlob 1 1 = none ∧ (keyed 0 []).keys.gCur = 0 ∧
    (keyed 0 []).rst.otp.ctrG < 2047 ∧ (keyed 0 []).persistSlots.length ≤ 768 ∧ (keyed 0 []).slot 2 = some anyKey ∧
    2047 ≤ ({ keyed 0 [] with rst := { zero.rst with otp := { zero.rst.otp with ctrG := 2047 } } } : State).rst.otp.ctrG ∧
    (keyed 0 []).poppy.keys = none ∧ issuing.poppy.keys ≠ none := by decide +kernel

theorem test_witness_KeyStoreAndBlobs_done : (working { op := 1, result := 2 }).keys.work = some { op := 1, result := 2 } ∧
    ({ op := 1, result := 2 } : KeyWork).result ≠ 0 ∧
    (working { op := 1, fill := [(11, anyKey)] }).keys.work = some { op := 1, fill := [(11, anyKey)] } ∧
    (working { op := 0x0B, out := some (0x13801000, [1, 2]) }).keys.work = some { op := 0x0B, out := some (0x13801000, [1, 2]) } ∧
    ((working { op := 0x0B, out := some (0x13801000, [1, 2]) }).keyWrite 0 0x13801000 [1, 2]).1 = none ∧
    ((working { op := 0x0B, out := some (0, [1, 2]) }).keyWrite 0 0 [1, 2]).1 ≠ none ∧ zero.keys.work = none ∧
    (working { op := 0x12 }).keys.work = some { op := 0x12 } ∧
    (working { op := 0x14, uses := [2], blob := some (1, 1, 1) }).keys.work =
      some { op := ({ op := 0x14, uses := [2], blob := some (1, 1, 1) } : KeyWork).op, uses := [2], blob := some (1, 1, 1) } := by decide +kernel

def tampered (t : TampSt) : State := { zero.setF F.TAMP_CFG_SRC_EN 31 with tamp := t }

theorem test_witness_TamperAndAttestation_sources : (zero.setF F.TAMP_CFG_SRC_EN 0).getF F.TAMP_CFG_SRC_EN = 0 ∧
    bitAt ((tampered {}).getF F.TAMP_CFG_SRC_EN) 4 = true ∧ bitAt ((tampered {}).getF F.TAMP_CFG_SRC_EN) 2 = true ∧ (tampered {}).tempOut 0x80 = true ∧
    (tampered {}).tempOut 25 = false ∧ bitAt (tampered { active := 16 }).tamp.active 4 = true ∧ bitAt (tampered {}).tamp.active 4 = false ∧
    bitAt ({ tampered { active := 2 } with pwr := { zero.pwr with lost := 2 } } : State).pwr.lost 1 = true ∧
    bitAt (tampered { active := 2 }).pwr.lost 0 = false ∧ bitAt (tampered { active := 2 }).pwr.lost 1 = false ∧
    bitAt (tampered { active := 2 }).tamp.active 1 = true ∧ (tampered {}).rst.held = false ∧
    ({ tampered {} with rst := { zero.rst with held := true } } : State).rst.held = true ∧
    (tampered { log := List.replicate 15 (0, 0, 0) }).tamp.log.length = 15 ∧ (tampered {}).tamp.log.length < 16 ∧
      16 ≤ (tampered { log := List.replicate 16 (0, 0, 0) }).tamp.log.length ∧ (tampered {}).tamperPhase = 0 ∧
    ({ tampered {} with rst := { zero.rst with hostOpen := true } } : State).tamperPhase ≠ 0 ∧ zero.opens core 0x101044 true = true ∧
    zero.rst.otp.tampProg < 4 ∧ 4 ≤ ({ zero with rst := { zero.rst with otp := { zero.rst.otp with tampProg := 4 } } } : State).rst.otp.tampProg := by decide

def stating (r : Nat) (a : Nat) : State := { keyed 0 [] with att := { statement := some (a, [1], r) } }

theorem test_witness_TamperAndAttestation_statements : zero.opens core 0x102040 true = true ∧ (stating 0 0).att.statement ≠ none ∧
    zero.att.statement = none ∧
    bitAt ((zero.setF F.ATTEST_MLOCK_LOCK 256).getF F.ATTEST_MLOCK_LOCK) 8 = true ∧ bitAt (zero.getF F.ATTEST_MLOCK_LOCK) 0 = false ∧
    zero.slot 1 = none ∧ ({ zero with keys := { slots := [(1, some anyKey)] } } : State).slot 1 = some anyKey ∧
    4096 < (zero.setF F.ATTEST_CHAIN_LEN_BYTES 4097).getF F.ATTEST_CHAIN_LEN_BYTES ∧ zero.getF F.ATTEST_CHAIN_LEN_BYTES ≤ 4096 ∧
    ((zero.setF F.ATTEST_CHAIN_ADDR_ADDR 0x13800000).keyRead 1 0x13800000 3).1 = some [0, 0, 0] ∧
    (zero.setF F.ATTEST_CHAIN_ADDR_ADDR 0x13800000).getF F.ATTEST_CHAIN_ADDR_ADDR = 0x13800000 ∧
    (zero.setF F.ATTEST_CHAIN_LEN_BYTES 3).getF F.ATTEST_CHAIN_LEN_BYTES = 3 ∧
    (stating 12 0).att.statement = some (0, [1], 12) ∧ ((stating 0 0x13801000).keyWrite 1 0x13801000 [1]).1 = none ∧
    ((stating 0 0).keyWrite 1 0 [1]).1 ≠ none := by decide +kernel

/-! ## Memory and DMA, mailbox -/

def withMem (m : MemSt) : State := { later with mem := m }

theorem test_witness_TranslationAndDma_inval : ∀ c ∈ [0, 7], let key := 0x08044 + 0x1000 * c
    let s := withMem { dtuInval := [(c, some 0x5000)], dtuCache := [⟨c, 0, 5, 0, true⟩, ⟨3, 1, 2, 0, false⟩] }
    later.opens core key true = true ∧ s.opens core key true = true ∧ (c, some 0x5000) ∈ s.mem.dtuInval ∧ later.mem.dtuInval = [] ∧
    (∃ e ∈ s.mem.dtuCache, e.ctx = c ∧ s.dtuStale e = true) ∧ s.pagePowered (0x008 + c) = true ∧
    (∀ e ∈ (withMem { dtuInval := [(c, some 0x5000)] }).mem.dtuCache, e.ctx = c → s.dtuStale e = false) := by
  decide +kernel

theorem test_witness_TranslationAndDma_resume : ∀ client ∈ [1, 4, 5, 0x0C, 255], let s := withMem { dtuPaused := [(client, 255)] }
    s.opens core 0x08108 true = true ∧ s.dtuIsPaused client 255 = true ∧ later.dtuIsPaused client 255 = false := by decide

/-- DMA channel 15, enabled. -/
def channel15 (x : DmaChannel) : State := { later.setF (F.DMA_CTRL_EN 7 1) 1 with mem := { dma := [(15, x)] } }

theorem test_witness_TranslationAndDma_commands : ∀ st ∈ [DmaState.idle, .running, .stopped, .paused, .error],
    let s := channel15 { state := st }
    s.opens core (0x10044 + 0x1000 * (15 / 2) + 0x40 * (15 % 2)) true = true ∧ s.flag (F.DMA_CTRL_EN (15 / 2) (15 % 2)) = true ∧
    (s.dmaCh 15).state = st ∧ later.flag (F.DMA_CTRL_EN (15 / 2) (15 % 2)) = false := by decide +kernel

theorem test_witness_TranslationAndDma_retry :
    ((channel15 { state := .paused, desc := 0x13800000 }).dmaRetry 15).1 = none ∧
    ((channel15 { state := .paused, desc := 0x30000000 }).dmaRetry 15).1 = some 8 := by decide +kernel

theorem test_witness_TranslationAndDma_fetch : ∀ (desc : Nat) (bad : List (Nat × EccError)),
    (desc, bad) ∈ [(0x30000000, []), (0x13800000, [(0x13800018, EccError.uncorrectable)]), (0x13800000, [])] →
    let s := { channel15 {} with mem := { dma := [(15, { state := .running, desc := desc })], ecc := bad } }
    let d := (s.clientRead 0 15 (s.dmaCh 15).desc 32).1
    later.dmaChoose = none ∧ s.pagePowered 0x010 = true ∧ s.dmaChoose = some 15 ∧ s.mem.dmaRunning = none ∧ (s.dmaCh 15).words = [] ∧
    d.fault = (if desc = 0x30000000 then some 8 else none) ∧ d.bad = !bad.isEmpty ∧
    (desc = 0x13800000 → d.data.length = 32) ∧ bitAt ((bytesWords d.data).getD 0 0) 31 = false := by
  simp only [List.mem_cons, List.not_mem_nil, or_false, Prod.mk.injEq]
  rintro desc bad (⟨rfl, rfl⟩ | ⟨rfl, rfl⟩ | ⟨rfl, rfl⟩) <;> decide +kernel

/-- A fill of 600 bytes up to the end of general SRAM. -/
def filling (done : Nat) : State :=
  channel15 { state := .running, desc := 0x13800000, done := done, words := [0x90000000, 600, 0x44332211, 0x88776655, 0x13DFFF00, 0, 0, 0] }

theorem test_witness_TranslationAndDma_fill : ∀ done ∈ [0, 128], let s := filling done
    let x := s.dmaCh 15
    let n := min (min 256 (x.len - x.done)) (0x1000 - (x.dst + x.done) % 0x1000)
    let p := s.clientAddr 0 15 (x.dst + x.done) true
    s.dmaChoose = some 15 ∧ s.mem.dmaRunning = none ∧ x.words ≠ [] ∧ x.status = 0 ∧ x.op = 1 ∧ n = 256 - done ∧ x.done + n < x.len ∧
    p.1 = .inr (0x13DFFF00 + done) ∧ p.2.region (0x13DFFF00 + done) = Region.general ∧ p.2.mem.ecc = [] := by decide +kernel

theorem test_witness_TranslationAndDma_others :
    let s := { later.setF F.DTU_ECC_CTRL_SCRUB_WORDS 255 with
               mem := { scrubPos := scrubTotal - 1, ecc := [(0x0803FFF8, EccError.correctable)] } }
    let r := ((later.setF F.PWR_LPDDR_SR_EN 1).setFlag F.DTU_LPDDR_STAT_READY true).setF F.PWR_LPDDR_IDLE_US 65535
    s.pagePowered 0x008 = true ∧ (s.setF F.DTU_ECC_CTRL_SCRUB_EN 0).flag F.DTU_ECC_CTRL_SCRUB_EN = false ∧
    (s.setF F.DTU_ECC_CTRL_SCRUB_EN 1).flag F.DTU_ECC_CTRL_SCRUB_EN = true ∧
    scrubTotal ≤ s.mem.scrubPos + s.getF F.DTU_ECC_CTRL_SCRUB_WORDS ∧ scrubIndex 0x0803FFF8 = some (scrubTotal - 1) ∧
    (scrubTotal - 1 + scrubTotal - s.mem.scrubPos) % scrubTotal < s.getF F.DTU_ECC_CTRL_SCRUB_WORDS ∧
    (r.flag F.PWR_LPDDR_SR_EN = true ∧ r.flag F.DTU_LPDDR_STAT_READY = true ∧ r.pwr.state = PwrState.bloom ∧
      r.mem.lpddrLast + 1000 * r.getF F.PWR_LPDDR_IDLE_US ≤ r.now) ∧ later.flag F.DTU_LPDDR_STAT_READY = false := by decide +kernel

/-- Queue 61 with two words a bank, enabled. -/
def queue61 (x : MboxQueue) : State :=
  { (later.setF (F.MBOX_CFG_EN 15 1) 1).setF (F.MBOX_CFG_DEPTH 15 1) 2 with mbox := [(61, x)] }

def word1 : DWord := BitVec.ofNat 64 (2 ^ 60 + 5)
def word3 : DWord := BitVec.ofNat 64 (3 * 2 ^ 60 + 5)

theorem test_witness_MailboxQueues_windows : ∀ o ∈ [none, some (Writer.ini core)],
    let s := queue61 { drain := [⟨word1, false⟩], fill := [⟨word1, false⟩], opener := o }
    let f := queue61 { drain := [⟨word1, false⟩], fill := [⟨word1, false⟩, ⟨word3, false⟩], opener := o }
    let x := s.mboxQ 61
    s.reaches core = true ∧ s.rst.held = false ∧ s.pagePowered (mboxPage 61) = true ∧ s.pagePowered (mboxPage 63) = true ∧
    x.ptrBad = false ∧ later.mboxEnabled 61 = false ∧ s.mboxEnabled 61 = true ∧ wordValid (BitVec.ofNat 64 (2 * 2 ^ 60)) = false ∧
    wordValid word1 = true ∧ wordValid word3 = true ∧ wordTag word3 = 3 ∧ x.held = [] ∧ x.dropPending = false ∧
    x.full (s.mboxDepth 61) = false ∧ x.opener = o ∧ (f.mboxQ 61).full (f.mboxDepth 61) = true ∧ x.drain = ⟨word1, false⟩ :: [] ∧
    ((queue61 {}).mboxQ 61).words = [] ∧ s.flag (F.PG_ERR_INFO_VALID (mboxPage 61)) = false := by decide +kernel

theorem test_witness_MailboxQueues_swap : ((queue61 { fill := [⟨word1, false⟩] }).mboxQ 61).drain = [] ∧
    ((queue61 { fill := [⟨word1, false⟩] }).mboxQ 61).fill = ⟨word1, false⟩ :: [] ∧ ((queue61 { fill := [⟨word1, false⟩] }).mboxQ 61).ptrBad = false ∧
    ((queue61 { fill := [⟨word1, false⟩] }).mboxQ 61).held = [] ∧ ((queue61 { fill := [⟨word1, false⟩] }).mboxQ 61).dropPending = false ∧
    (queue61 { fill := [⟨word1, false⟩] }).mboxEnabled 61 = true ∧
      ((queue61 { ptrBad := false, opener := some (.ini core) }).mboxQ 61).ptrBad = false := by
  decide +kernel

theorem test_witness_MailboxQueues_host : let s := { linked with rst := { zero.rst with hostOpen := true } }
    s.reaches .host = true ∧ s.rst.held = false ∧ s.hostBar2 = true := by decide

theorem test_witness_MailboxQueues_limits : ∀ lost ∈ [none, some (⟨F.CLK_STARTS_COUNT, none, none⟩ : Lost)],
    ∀ w ∈ [Writer.ini core, .blk .pair],
    let s := queue61 { held := [⟨w, word1, false, 99999992000, lost⟩] }
    let u := queue61 { held := [⟨w, word1, false, later.now, lost⟩] }
    let a := queue61 { opener := some w }
    s.pagePowered 0x030 = true ∧ (s.mboxQ 61).held = ⟨w, word1, false, 99999992000, lost⟩ :: [] ∧ 99999992000 + s.mboxLimit 61 ≤ s.now ∧
    (∀ h ∈ (u.mboxQ 61).held, u.now < h.since + u.mboxLimit 61) ∧ ((queue61 {}).mboxQ 61).opener = none ∧ (a.mboxQ 61).opener ≠ none ∧
    (a.mboxQ 61).lastPacket + a.mboxLimit 61 < a.now ∧ (a.mboxQ 61).held = [] ∧ (a.mboxQ 61).dropPending = false ∧
    a.getF (F.MBOX_WR_FAIL_COUNT (61 / 4) (61 % 4)) + 1 < 2 ^ 32 := by decide +kernel

theorem test_witness_MailboxQueues_drops : ∀ q ∈ [0, 61, 62, 63],
    later.opens core (0x30048 + 0x1000 * (q / 4) + 0x20 * (q % 4)) true = true ∧
    dropPacketWords [⟨word1, false⟩, ⟨word3, false⟩, ⟨word1, false⟩] = some (2, [⟨word1, false⟩]) ∧
    dropPacketWords [⟨word1, false⟩] = none ∧ ((queue61 { fill := [⟨word1, false⟩] }).mboxQ 61).words = [⟨word1, false⟩] ∧
    ((queue61 {}).mboxQ 61).ptrBad = false ∧ ((queue61 {}).mboxQ 61).held = [] ∧
    later.getF (F.MBOX_DROPPED_COUNT (q / 4) (q % 4)) + 2 < 2 ^ 32 := by decide +kernel

/-! ## Clocks and power -/

def withPwr (p : PwrSt) : State := { later with pwr := p }

theorem test_witness_ClockInputs : let s := withPwr { lost := 63 }
    bitAt s.pwr.lost 2 = true ∧ bitAt later.pwr.lost 2 = false ∧ later.getF F.CLK_REF_LOST_COUNT + 1 < 2 ^ 32 ∧
    (∀ which : Fin 4, bitAt s.pwr.lost (referenceInput which) = true ∧ bitAt later.pwr.lost (referenceInput which) = false) ∧
    bitAt s.pwr.lost 1 = true ∧ bitAt later.pwr.lost 1 = false ∧ later.pwr.x25LostAt = none ∧
    (withPwr { x25LostAt := some 99999000000 }).pwr.x25LostAt = some 99999000000 ∧ later.rst.held = false ∧
    later.now ≤ 99999000000 + 1000000 ∧ 98999999999 + 1000000 < later.now := by decide

theorem test_witness_ClockInputs_held :
    ({ withPwr { x25LostAt := some 0, lost := 2 } with rst := { held := true } } : State).rst.held = true ∧
    (withPwr { x25LostAt := some 0, lost := 2 }).pwr.x25LostAt = some 0 ∧
    bitAt ((later.setF F.TAMP_CFG_SRC_EN 0).getF F.TAMP_CFG_SRC_EN) 1 = false ∧
    bitAt ((later.setF F.TAMP_CFG_SRC_EN 2).getF F.TAMP_CFG_SRC_EN) 1 = true := by decide

theorem test_witness_ClockInputs_locks : ∀ pll ∈ [0, 6], let lock : Fld := ⟨0x1040, pll, pll⟩
    (later.setF lock 0).flag lock = false ∧ (later.setF lock 1).flag lock = true := by decide

theorem test_witness_ClockInputs_bud : ∀ on ∈ [true, false], let s := withPwr { state := .bud, coreOn := on, tileOn := on }
    s.pwr.state = PwrState.bud ∧ s.pwr.coreOn = on ∧ s.pwr.tileOn = on ∧ later.pwr.state ≠ PwrState.bud ∧
    s.getF F.CLK_STARTS_COUNT + 1 < 2 ^ 32 ∧ (s.setF (F.PG_CTRL_CLK_REQ 0x024) 1).coresWanted = true ∧
    (s.setF (F.PG_CTRL_CLK_REQ 0x070) 1).tilesWanted = true ∧ s.coresWanted = false ∧ s.tilesWanted = false ∧ s.pwr.coreHold ≤ s.now ∧
    s.pwr.tileHold ≤ s.now ∧ s.now < (withPwr { coreHold := later.now + 1 }).pwr.coreHold := by decide +kernel

theorem test_witness_PowerStates_commands : ∀ who ∈ [Initiator.ctl 0, .ctl 3, .data 0],
    ∀ st ∈ [PwrState.bloom, .bud, .entering, .waking], (withPwr { state := st }).opens who 0x2040 true = true ∧
      (withPwr { state := st }).pwr.state = st := by decide +kernel

theorem test_witness_PowerStates_entry : ∀ w ∈ [none, some 100000000001],
    let s := withPwr { state := .entering, wfiAt := w, startedAt := 1, slept := false }
    s.pwr.state = PwrState.entering ∧ s.pwr.slept = false ∧ s.pwr.startedAt + 1000 * s.getF F.PWR_WFI_WAIT_US ≤ s.now ∧
    (∀ v, s.pwr.wfiAt = some v → s.now < v ∨ s.pwr.startedAt + 1000 * s.getF F.PWR_WFI_WAIT_US < v) ∧
    later.pwr.state ≠ PwrState.entering ∧ (withPwr { state := .entering, slept := true }).pwr.slept = true ∧
    s.now < (withPwr { state := .entering, startedAt := later.now + 1 }).pwr.startedAt + 1000 * s.getF F.PWR_WFI_WAIT_US ∧
    later.getF F.PWR_SNOWDROPS_COUNT + 1 < 2 ^ 32 := by
  intro w hw
  rcases List.mem_pair.mp hw with rfl | rfl
  · exact ⟨by decide, by decide, by decide, (fun v h => nomatch h), by decide, by decide, by decide, by decide⟩
  · exact ⟨by decide, by decide, by decide, (fun v h => .inl (by cases h; decide)), by decide, by decide, by decide, by decide⟩

theorem test_witness_PowerStates_wake : ∀ st ∈ [PwrState.bloom, .entering, .snowdrop, .waking],
    let s := { (((withPwr { state := st }).setF F.PWR_WAKE_EN_EN 12).setF F.PWR_WAKE_AT_SECOND 10) with
               pwr := { state := st, wakeAt := if st = PwrState.snowdrop then some 5 else none } }
    bitAt (s.getF F.PWR_WAKE_EN_EN) 3 = true ∧ bitAt (s.getF F.PWR_WAKE_EN_EN) 2 = true ∧
    bitAt ((later.setF F.PWR_WAKE_EN_EN 3).getF F.PWR_WAKE_EN_EN) 3 = false ∧
    bitAt ((later.setF F.PWR_WAKE_EN_EN 3).getF F.PWR_WAKE_EN_EN) 2 = false ∧
    s.getF F.PWR_WAKE_AT_SECOND ≠ 0 ∧ s.getF F.PWR_WAKE_AT_SECOND ≤ s.taiSec ∧ later.getF F.PWR_WAKE_AT_SECOND = 0 ∧
    s.pwr.state = st ∧ later.pwr.wakeAt = none ∧ (st = .snowdrop → s.pwr.wakeAt = some 5) := by decide +kernel

theorem test_witness_PowerStates_asleep : (withPwr { state := .snowdrop }).pwr.wakeAt = none ∧
    (withPwr { state := .snowdrop }).pwr.state = PwrState.snowdrop := by decide

/-! ## Reset, life cycle and start -/

def withRst (r : RstSt) : State := { later with rst := r }

theorem test_witness_ResetSources_device : let s := { (later.setF F.RST_WDOG_CTRL_TIMEOUT_MS 65535).setF F.RST_WDOG_CTRL_TARGET 0 with
      pwr := { x25LostAt := some 99999000000 }, rst := { wdogOn := true, wdogFrom := 1 } }
    s.rst.otpOp = none ∧ s.rst.held = false ∧ later.pwr.x25LostAt = none ∧ 99999000000 + 1000000 ≤ s.now ∧ s.rst.wdogOn = true ∧
    s.rst.wdogFrom + s.wdogTimeout ≤ s.now ∧ s.getF F.RST_WDOG_CTRL_TARGET = 0 ∧ s.getF F.RST_DEV_COUNT_COUNT + 1 < 2 ^ 32 ∧
    s.rst.wdogFrom + s.wdogTimeout / 2 ≤ s.now ∧ s.rst.wdogHalf = false ∧ later.rst.wdogOn = false ∧
    (withRst { held := true, heldFrom := later.now }).rst.heldFrom = later.now ∧ (withRst { held := true }).rst.held = true ∧
    (withRst { held := true }).rst.heldFrom ≠ later.now := by decide +kernel

theorem test_witness_ResetSources_targets : ∀ target ∈ [1, 2, 3],
    let s := { (later.setF F.RST_WDOG_CTRL_TIMEOUT_MS 1).setF F.RST_WDOG_CTRL_TARGET target with
      rst := { wdogOn := true } }
    s.rst.held = false ∧ s.rst.wdogOn = true ∧ s.rst.wdogFrom + s.wdogTimeout ≤ s.now ∧ s.getF F.RST_WDOG_CTRL_TARGET ≠ 0 ∧
    s.getF F.RST_WDOG_CTRL_TARGET = target := by decide +kernel

/-- A plane in reset, its hold still to come or over; none in reset. -/
theorem test_witness_ResetSources_planes : ∀ x ∈ [PagePlane.data, .control, .mgmt], ∀ u ∈ [later.now, later.now + 1],
    let s := withRst { planeHeld := [(x.code, u)] }
    s.rst.planeHeld = [(x.code, u)] ∧ s.planeIn x = true ∧ (u ≤ s.now ∨ s.now < u) ∧
    s.opens (if x = .control then .data 3 else core) 0x3040 true = true ∧
    later.rst.planeHeld = [] ∧ later.opens core 0x3040 true = true ∧ (PagePlane.code .data = 1 ∧ PagePlane.code .control = 2) := by decide +kernel

theorem test_witness_ResetSources_commands : ∀ who ∈ [core, Initiator.debug], let s := withRst { tap := .debugPort }
    s.opens who 0x3040 true = true ∧ s.opens who 0x3058 true = true ∧ s.opens who 0x110040 true = true ∧ s.rst.otpOp = none := by decide +kernel

theorem test_witness_ResetSources_wipe : later.rst.wiping = true ∧ later.rst.held = false ∧ (withRst { wiping := false }).rst.wiping = false := by
  decide

def world (recov bad : Bool) : BootWorld := ⟨false, false, recov, false, false, false, bad, bad⟩

theorem test_witness_LifeCycleAndBoot_start : (∀ b ∈ [true, false], ∀ u ∈ [later.now, later.now + 1],
      (withRst { held := b, booted := true, heldUntil := u }).rst.held = b ∧
        (withRst { held := b, booted := true, heldUntil := u }).rst.booted = true) ∧
    later.now < (withRst { heldUntil := later.now + 1 }).rst.heldUntil ∧ (withPwr { x25LostAt := some 0 }).pwr.x25LostAt ≠ none ∧
    later.rst.held = false ∧ later.rst.booted = false ∧ (lifeCycled 8).lifeCycle = .scrap ∧ (lifeCycled 8).rst.booted = false ∧
    (lifeCycled 8).markerDone = none ∧ ((lifeCycled 8).storeWords markerAddr ((lifeCycled 8).markerWords false)).markerDone ≠ none ∧
    later.lifeCycle ≠ .scrap ∧ later.lifeCycle ≠ .field ∧ later.tamp.active &&& later.getF F.TAMP_CFG_SRC_EN = 0 ∧
    later.rst.tampHeld = false ∧ (tampered { active := 16 }).lifeCycle ≠ .scrap ∧
    (tampered { active := 16 }).tamp.active &&& (tampered { active := 16 }).getF F.TAMP_CFG_SRC_EN ≠ 0 ∧
    (tampered { active := 16 }).rst.booted = false ∧ (world true true).powerCut = false ∧ (world true true).recov = true ∧
    (world false true).badA = true ∧ (world false true).badB = true := by decide +kernel

theorem test_witness_LifeCycleAndBoot_host : let s := { linked with rst := { zero.rst with hostOpen := true, otp := { lc := 8 } } }
    s.reaches .host = true ∧ s.rst.held = false ∧ s.hostMay 0x000 0x044 true = false := by decide +kernel

theorem test_witness_LifeCycleAndBoot_transitions : ∀ lc ∈ [0, 1, 3, 7, 15], (lifeCycled lc).opens core 0x044 true = true ∧
    (lifeCycled lc).opens (.data 3) 0x044 true = true ∧ (lifeCycled lc).rst.otpOp = none ∧
    (withRst { otpOp := some (.svn 1) }).rst.otpOp ≠ none := by decide +kernel

theorem test_witness_LifeCycleAndBoot_needs : lcAllowed zero.lifeCycle 7 = none ∧ lcAllowed zero.lifeCycle 4 = some .nothing ∧
    lcAllowed zero.lifeCycle 1 = some .root ∧ lcAllowed (lifeCycled 1).lifeCycle 2 = some .fielded ∧
    lcAllowed (lifeCycled 3).lifeCycle 3 = some .authorised ∧ lcAllowed (lifeCycled 3).lifeCycle 4 = some .authorised ∧
    zero.keys.rootOk = false ∧ ({ zero.keys with rootOk := true } : KeySt).rootOk = true ∧ zero.keys.drbgOk = false ∧
    ((lifeCycled 3).authOk 3).1 = false ∧
    ({ lifeCycled 1 with keys := { pValid := true }, rst := { otp := { lc := 1, hash := some [] } } } : State).keys.pValid = true ∧
    ({ lifeCycled 1 with rst := { otp := { lc := 1, hash := some [] } } } : State).rst.otp.hash.isSome = true ∧
    (lifeCycled 1).rst.otp.hash.isSome = false ∧ ({ zero.keys with drbgOk := true } : KeySt).drbgOk = true := by decide +kernel

theorem test_witness_LifeCycleAndBoot_otp : let hash : List Word := List.replicate 8 0x3F
    let s := withRst { otp := { lc := 1, hash := some hash } }
    (∀ op ∈ [OtpOp.hash hash, .svn 63, .lifeCycle 4], (withRst { otpOp := some op }).rst.otpOp = some op ∧
      (withRst { otpOp := some op }).rst.held = false) ∧
    later.opens core 0x080 true = true ∧ s.opens core 0x080 true = true ∧ later.rst.otp.hash = none ∧ later.lifeCycle = .blank ∧
    s.rst.otp.hash = some hash ∧ s.rst.otp.minSvn < (hash.getD 0 0).toNat % 64 ∧ s.lifeCycle = .provision ∧ s.rst.otpOp = none ∧
    (later.reg 0x100).toNat % 64 ≤ later.rst.otp.minSvn := by decide +kernel

theorem test_witness_LifeCycleAndBoot_loads : ∀ n ∈ [0, 0x17FFFF, 0x180000],
    let s := { later.setFlag F.SYS_LOAD_STAT_READY true with rst := { loadLen := n } }
    s.opens core 0x088 true = true ∧ s.opens core 0x0AC true = true ∧ s.opens core 0x0A8 true = true ∧
    s.flag F.SYS_LOAD_STAT_READY = true ∧ later.flag F.SYS_LOAD_STAT_READY = false ∧ s.rst.loadLen = n ∧ s.mem.ecc = [] ∧
    s.rst.tampHeld = false ∧ (s.loadImage 2 false).1 ≠ 0 ∧
    ({ s with rst := { s.rst with tampHeld := true } } : State).rst.tampHeld = true := by decide +kernel

theorem test_witness_LifeCycleOnlyAdvances : ∀ op ∈ [none, some (OtpOp.svn 5), some (.hash [7])],
    let s := { withRst { otpOp := op, otp := { lc := 3, minSvn := 5 } } with pending := [.otpProgrammingDone] }
    s.otpAdvances ∧ (step s matches .next _) = true ∧ s.rst.otp.lc.testBit 1 = true := by
  simp only [State.otpAdvances, List.forall_mem_cons, List.not_mem_nil, false_imp_iff, implies_true, and_true]
  exact ⟨⟨⟨(fun v h => nomatch h), (fun l h => nomatch h)⟩, by decide +kernel, by decide⟩,
    ⟨⟨(fun v h => by cases h; decide), (fun l h => nomatch h)⟩, by decide +kernel, by decide⟩,
    ⟨⟨(fun v h => nomatch h), (fun l h => by decide)⟩, by decide +kernel, by decide⟩⟩

theorem test_witness_LifeCycleOnlyAdvances_hash : (withRst { otp := { hash := some [7] } }).rst.otp.hash = some [7] := by decide

/-! ## The spec's worked examples -/

/-- 03_satellite_receiver.md, worked example under R71: one record, and the same with the cross-antenna guard failed. -/
theorem test_record_words :
    let r : MeasRec := ⟨517, 2, 1, 1, 11, 0xFC, 473, 812400, 24019752062, 0, -316032, false, false, 0, 34, 251, false, false, 0, 0⟩
    (r.words.getD 0 0, r.words.getD 1 0, r.words.getD 2 0 + 2 ^ 32 * r.words.getD 3 0, r.words.getD 6 0, r.words.getD 7 0) =
      (0x81690BFC, 0x764C6570, 24019752062, 0xFFFB2D80, 0x00227D80) ∧
    ({ r with cause := 3 } : MeasRec).words.getD 7 0 = 0x23227D80 := by decide

/-- 06_site_map.md, worked example under R180: the grid position of a fix, its Morton code and the prefixes of its probes. -/
theorem test_lookup_position : gridIndex 1234567 = some 0x934A ∧ gridIndex (-456789) = some 0x78DC ∧
    siteCode 1234567 (-456789) = some 0x6B85B2E4 ∧ prefixAt 0x6B85B2E4 12 = 0x6B85B200 ∧ prefixAt 0x6B85B2E4 10 = 0x6B85B000 := by decide

/-- 10_poppy_plane.md, worked example: the air time of stop frames at 20 MHz and at 10 MHz. -/
theorem test_stop_frame_time : airUs false 12 88 = 84 ∧ airUs true 24 88 = 72 := by decide

/-- 09_malvo_radio.md, worked example: words of the first superframe of sector 2, and where the machines' blocks begin. -/
theorem test_superframe_program :
    let prog := [0x11000000, 0x81000000, 0x57000000, 0x34C00000, 0x67000000, 0x21000000, 0x81000000, 0x42000023, 0x90010801, 0x21000000]
    let run := progRun (fun i => prog.getD i 0) 41 40 0 0 0 0
    (run.map fun e => e.start) = [0, 1, 2, 9, 13, 20, 21, 22, 24, 24, 26, 26, 28, 28, 30, 30, 32, 32, 34, 34, 36, 36, 38, 38, 40, 40] ∧
    (run.filter fun e => e.start == 26 && e.count == 2).map (fun e => e.word % 256) = [37] := by decide +kernel

/-- 12_switch_and_ports.md, worked example under R364: learns of one address on ports 3 and 7. -/
theorem test_moving_address :
    let at_ (us : Nat) (s : State) : State := { s with now := 1000 * us }
    let shows (s : State) : Option (Nat × Nat) × Nat := ((s.atuFind 5 20).map fun e => (e.port, e.seen), s.getF F.SWCH_FLAPS_COUNT)
    let a := ((at_ 0 zero).setF F.SWCH_MOVE_HOLD_US 1000).learn 5 20 3
    let b := (at_ 600 a).learn 5 20 7
    let c := (at_ 1000 b).learn 5 20 7
    let d := ((at_ 1001 c).learn 5 20 3).learn 5 20 7
    shows b = (some (3, 0), 1) ∧ shows c = (some (3, 0), 2) ∧ shows d = (some (3, 1001), 3) ∧
      shows ((at_ 2002 d).learn 5 20 7) = (some (7, 2002), 3) := by decide +kernel

/-- 11_dispatch_engine.md, worked example under R347: the grant of job 0x027 to machine 22 on sector 5. -/
theorem test_grant_packet :
    let s := { (fieldSet (F.MBOX_CFG_EN 1 1) 1).setF F.SCHED_JOB_CTRL_GRANT_QUEUE 5 with
               mem := { bytes := [(0x10840000 + 64 * 22, 1)] }, radio := { zero.radio with heard := [(22, some (5, 0))] } }
    ((s.postGrant 22 1 0x027 0x51A3).mboxQ 5).words.map (fun w => w.word) = [0x1016500800000000, 0x100051A300270001, 0x3000000000000000] := by
  decide +kernel

/-- The next state of a result, or the state after reset. -/
def nextOf (r : Res) : State :=
  match r with
  | .next t => t
  | _ => zero

def message1 (n : Nat) : MboxWord := ⟨mboxWord 1 n, false⟩

/-- Queue 10 at 8,000 ns: one word in the drain bank, 16 in the fill bank, a write held since time 0. -/
def heldAtLimit : State := { (fieldSet (F.MBOX_CFG_EN 2 2) 1).setF (F.MBOX_CFG_DEPTH 2 2) 16 with
  now := 8000
  mbox := [(10, { drain := [message1 99], fill := (List.range 16).map message1, held := [⟨.ini (.ctl 2), mboxWord 1 77, false, 0, none⟩] })] }

/-- 16_mailbox_queues.md, worked example under R481: a read in the last cycle frees the held write; without it the limit expires. -/
theorem test_held_write : let t := nextOf (execDataRead (.data 0) 10 0 .dword heldAtLimit)
    let u := nextOf (execBusLimitExpiry 10 heldAtLimit)
    t.bus = ⟨mboxWord 1 99, false⟩ ∧ (t.mboxQ 10).held = [] ∧ (t.mboxQ 10).fill = [message1 77] ∧
    (t.mboxQ 10).drain = (List.range 16).map message1 ∧ u.bus = ⟨0, true⟩ ∧ u.getF (F.MBOX_WR_FAIL_COUNT 2 2) = 1 := by decide +kernel

end Sys2Proof.Tests
end

section
/-! What a tick of the device clock does (R98, R99): both clocks advance once, and no condition that a tick evaluates moves a clock, the
queue, memory, the key store, the power state, or more of the reset plane than planes that leave their reset. -/

namespace Sys2Proof.Machine

/-- From `s` to `t` neither clock moves, and the queue, memory, the key store and the power state stay; of the reset plane only the cores'
start addresses and the planes in reset may change, and no plane enters reset. -/
structure KeepsClocks (s t : State) : Prop where
  now : t.now = s.now
  out : t.time.out = s.time.out
  pending : t.pending = s.pending
  mem : t.mem = s.mem
  keys : t.keys = s.keys
  power : t.pwr.state = s.pwr.state
  rst : t.rst = { s.rst with starts := t.rst.starts, planeHeld := t.rst.planeHeld }
  planeHeld : ∀ e ∈ t.rst.planeHeld, e ∈ s.rst.planeHeld

namespace KeepsClocks

theorem refl (s : State) : KeepsClocks s s := ⟨rfl, rfl, rfl, rfl, rfl, rfl, rfl, fun _ h => h⟩

theorem trans {s t u : State} (h : KeepsClocks s t) (k : KeepsClocks t u) : KeepsClocks s u where
  now := k.now.trans h.now
  out := k.out.trans h.out
  pending := k.pending.trans h.pending
  mem := k.mem.trans h.mem
  keys := k.keys.trans h.keys
  power := k.power.trans h.power
  rst := k.rst.trans (by rw [h.rst])
  planeHeld e he := h.planeHeld e (k.planeHeld e he)

theorem foldl {α : Type} {f : State → α → State} (hf : ∀ s a, KeepsClocks s (f s a)) (l : List α) (s : State) :
    KeepsClocks s (l.foldl f s) := by
  induction l generalizing s with
  | nil => exact refl s
  | cons a l ih => exact (hf s a).trans (ih (f s a))

theorem ite {s t u : State} {c : Prop} [Decidable c] (ht : KeepsClocks s t) (hu : KeepsClocks s u) :
    KeepsClocks s (if c then t else u) := by
  split
  · exact ht
  · exact hu

/-! ## Registers and logs -/

theorem setF (s : State) (x : Fld) (v : Nat) : KeepsClocks s (s.setF x v) := by constructor <;> simp

theorem raise (s : State) (p b : Nat) : KeepsClocks s (s.raise p b) := setF s _ 1

theorem bumpBy (s : State) (x : Fld) (n : Nat) : KeepsClocks s (s.bumpBy x n) := setF s x _

theorem bump (s : State) (x : Fld) : KeepsClocks s (s.bump x) := bumpBy s x 1

/-- A new value of the Poppy plane. -/
theorem withPoppy (s : State) (p : PoppySt) : KeepsClocks s { s with poppy := p } := by constructor <;> simp

/-! ## The time base beside its output time (R100, R105, R106) -/

theorem timeEval (s : State) : KeepsClocks s s.timeEval := by
  have h (v : Bool) : KeepsClocks s { s with time := { s.time with valid := v } } := by constructor <;> simp
  unfold State.timeEval
  exact ite ((h _).trans (raise ..)) (ite ((h _).trans (raise ..)) (h _))

theorem timeSetD (s : State) (d : Int) : KeepsClocks s (s.timeSetD d) := by
  refine KeepsClocks.trans ?_ (timeEval _)
  constructor <;> simp

theorem pulseSkip (s : State) (i n : Nat) : KeepsClocks s (s.pulseSkip i n) :=
  ite (refl s) ((bumpBy ..).trans (raise ..))

theorem putPulse (s : State) (i : Nat) (p : Pulse) : KeepsClocks s (s.putPulse i p) := by
  have h (q : Pulse) : KeepsClocks s (s.setPulse i q) := by constructor <;> simp [State.setPulse]
  unfold State.putPulse
  split
  · exact (h _).trans (pulseSkip ..)
  · exact h p

theorem jumpOut (s : State) (lo out : Nat) : KeepsClocks { s with time := { s.time with out := out } } (s.jumpOut lo out) := by
  unfold State.jumpOut
  refine KeepsClocks.trans ?_ (foldl (fun t i => putPulse t i (t.pulse i)) _ _)
  constructor <;> simp

theorem stepOut (s : State) :
    KeepsClocks { s with time := { s.time with out := (s.time.out / secUnit + 1) * secUnit + s.time.d.toNat } } s.stepOut :=
  (((jumpOut s _ _).trans (bump ..)).trans (raise ..)).trans (timeSetD ..)

/-! ## The Poppy plane (R301, R302, R307) -/

theorem stopLog (s : State) (x : PoppyStop) (ended : Bool) : KeepsClocks s (s.stopLog x ended) := by
  unfold State.stopLog State.pushFifo
  split
  · constructor <;> simp
  · exact refl s

theorem newStop (s : State) (x : PoppyStop) : KeepsClocks s (s.newStop x) :=
  ((withPoppy ..).trans (stopLog ..)).trans (raise ..)

theorem setPoppy (s : State) (p : PoppySt) : KeepsClocks s (s.setPoppy p) :=
  ite (withPoppy s p) ((withPoppy s p).trans (raise ..))

theorem raiseStop (s : State) (inA inB : Bool) (scope cause detail origin : Nat) (machines : List Nat) (fromBus : Bool) :
    KeepsClocks s (s.raiseStop inA inB scope cause detail origin machines fromBus) := by
  unfold State.raiseStop
  refine ite (refl s) (KeepsClocks.trans (ite ?_ (newStop ..)) (setPoppy ..))
  exact (withPoppy ..).trans (foldl (fun t p => newStop t _) _ _)

theorem endStops (s : State) (l : List PoppyStop) : KeepsClocks s (s.endStops l) :=
  foldl (fun _ _ => (stopLog ..).trans (raise ..)) l s

theorem adoptPartner (s : State) (ra rb : HbReport) : KeepsClocks s (s.adoptPartner ra rb) :=
  ((endStops s s.poppy.stops).trans (setPoppy ..)).trans (foldl (fun t _ => ite (refl t) (raiseStop ..)) (ra.stops ++ rb.stops) _)

theorem poppyEval (s : State) : KeepsClocks s s.poppyEval := by
  have h (p : PoppySt) (b : Nat) : KeepsClocks s ({ s with poppy := p }.raise 0x0C0 b) := (withPoppy ..).trans (raise ..)
  unfold State.poppyEval
  refine ite (refl s) (ite (h ..) ?_)
  split
  · exact ite ((h ..).trans (adoptPartner ..)) (h ..)
  · exact h ..

/-! ## Planes in reset, messages, tiles and clocks (R512, R391, R166, R494) -/

theorem startCores (s : State) (cores : List Nat) (addr : Nat) : KeepsClocks s (s.startCores cores addr) := by
  constructor <;> simp [State.startCores]

theorem planeDone (s : State) (x : Nat) : KeepsClocks s (s.planeDone x) := by
  refine KeepsClocks.trans ?_ (raise ..)
  split
  · exact (setF ..).trans (startCores ..)
  · exact (setF ..).trans (startCores ..)
  · exact refl s

theorem planeEval (s : State) : KeepsClocks s s.planeEval := by
  unfold State.planeEval
  refine ite (refl s) (KeepsClocks.trans ?_ (foldl (fun t (e : Nat × Nat) => planeDone t e.1) _ _))
  exact ⟨rfl, rfl, rfl, rfl, rfl, rfl, rfl, fun _ he => (List.mem_filter.1 he).1⟩

theorem msgStart (s : State) : KeepsClocks s s.msgStart := by
  unfold State.msgStart
  refine ite (refl s) ?_
  split <;> constructor <;> simp

theorem busyAdd (s : State) (n : Nat) : KeepsClocks s (s.busyAdd n) := by
  have h (b : List (Nat × Nat)) : KeepsClocks s { s with solv := { s.solv with busyNs := b } } := by constructor <;> simp
  exact ite ((h _).trans (bump ..)) (h _)

theorem busyEval (s : State) : KeepsClocks s s.busyEval := foldl busyAdd _ s

theorem clockRequest (s : State) (cores : Bool) : KeepsClocks s (s.clockRequest cores) := by
  have h {p : PwrSt} (hp : p.state = s.pwr.state) (on : Bool) :
      KeepsClocks s (if on then { s with pwr := p } else { s with pwr := p }.bump F.CLK_STARTS_COUNT) := by
    have hs : KeepsClocks s { s with pwr := p } := by constructor <;> simp [hp]
    exact ite hs (hs.trans (bump ..))
  refine ite (refl s) (ite (h ?_ _) (h ?_ _)) <;> rfl

theorem clockEval (s : State) : KeepsClocks s s.clockEval := by
  have h (t : State) (b cores : Bool) : KeepsClocks t (if b then t.clockRequest cores else t) := ite (clockRequest ..) (refl t)
  exact (h s _ true).trans (h _ _ false)

end KeepsClocks

/-- The entry's work is done in the state of the entry alone (R502). -/
theorem State.entryEval_of_not_entering {s : State} (h : s.pwr.state ≠ .entering) : s.entryEval = s := by
  unfold State.entryEval
  split
  · exact if_neg (by simp [h])
  · rfl

/-! ## The advance of the clocks -/

/-- What a tick adds to the output time where no step falls due: the effective increment, dithered and clamped where a domain is or was
followed (R99). -/
def State.outIncr (s : State) : Nat :=
  if s.time.state.unfollowed then s.effIncr else clampIncr (s.effIncr + (s.fresh 2).1)

/-- The output time after a tick: a step that falls due sets it to the next whole second and D (R106). -/
def State.nextOut (s : State) : Nat :=
  if s.stepDue then (s.time.out / secUnit + 1) * secUnit + s.time.d.toNat else s.time.out + s.outIncr

/-- `s` with both clocks one tick on. -/
def State.advanced (s : State) : State := { s with now := s.now + 2, time := { s.time with out := s.nextOut } }

theorem State.timeTick_keepsClocks (s : State) : KeepsClocks s.advanced s.timeTick := by
  unfold State.timeTick State.advanced State.nextOut
  split
  · exact KeepsClocks.stepOut { s with now := s.now + 2 }
  · exact ⟨rfl, rfl, rfl, rfl, rfl, rfl, rfl, fun _ h => h⟩

/-- Outside of the entry to Snowdrop a tick advances both clocks once. -/
theorem State.tick_keepsClocks {s : State} (hr : s.rst.held = false) (hp : s.pwr.state ≠ .entering) : KeepsClocks s.advanced s.tick := by
  have h : KeepsClocks s.advanced s.timeTick.planeEval.poppyEval.msgStart.busyEval.clockEval :=
    s.timeTick_keepsClocks.trans <| (KeepsClocks.planeEval _).trans <| (KeepsClocks.poppyEval _).trans <|
      (KeepsClocks.msgStart _).trans <| (KeepsClocks.busyEval _).trans (KeepsClocks.clockEval _)
  unfold State.tick
  rwa [if_neg (by simp [hr]), State.entryEval_of_not_entering (h.power.trans_ne hp)]

/-- While device reset is held only device time passes (log 2). -/
theorem State.tick_of_held {s : State} (hr : s.rst.held = true) : s.tick = { s with now := s.now + 2 } := if_pos hr

theorem step_of_no_command {s : State} (h : s.pending = []) : step s = .next s.tick := by
  unfold step
  rw [h]

/-! ## The output time -/

theorem clampIncr_bounds (v : Int) : 0x01FF7CED91 ≤ clampIncr v ∧ clampIncr v ≤ 0x020083126F := by
  unfold clampIncr
  omega

/-- The output time goes forward: the whole second that a step reaches lies ahead, and an increment is not negative. -/
theorem State.out_le_nextOut (s : State) : s.time.out ≤ s.nextOut := by
  unfold State.nextOut
  split
  · have h : s.time.out < (s.time.out / secUnit + 1) * secUnit := Nat.lt_mul_of_div_lt (Nat.lt_succ_self _) (by decide)
    omega
  · exact Nat.le_add_right ..

theorem State.out_le_tick_out {s : State} (hp : s.pwr.state ≠ .entering) : s.time.out ≤ s.tick.time.out := by
  cases hr : s.rst.held with
  | true => rw [State.tick_of_held hr]
  | false => exact s.out_le_nextOut.trans_eq (State.tick_keepsClocks hr hp).out.symm

theorem State.tick_power {s : State} (hp : s.pwr.state ≠ .entering) : s.tick.pwr.state = s.pwr.state := by
  cases hr : s.rst.held with
  | true => rw [State.tick_of_held hr]
  | false => exact (State.tick_keepsClocks hr hp).power

theorem State.out_le_idle_out {s : State} (hp : s.pwr.state ≠ .entering) (n : Nat) : s.time.out ≤ (s.idle n).time.out := by
  induction n generalizing s with
  | zero => exact Nat.le_refl _
  | succ n ih => exact (State.out_le_tick_out hp).trans (ih ((State.tick_power hp).trans_ne hp))

/-- Where a domain is or was followed and no step falls due, a tick adds an increment within the clamp of R99. -/
theorem State.tick_out_bounds {s : State} (hp : s.pwr.state ≠ .entering) (hr : s.rst.held = false) (hd : s.stepDue = false)
    (hf : s.time.state.unfollowed = false) :
    s.time.out + 0x01FF7CED91 ≤ s.tick.time.out ∧ s.tick.time.out ≤ s.time.out + 0x020083126F := by
  have h : s.tick.time.out = s.time.out + clampIncr (s.effIncr + (s.fresh 2).1) :=
    (State.tick_keepsClocks hr hp).out.trans (by simp [State.advanced, State.nextOut, State.outIncr, hd, hf])
  have hb := clampIncr_bounds (s.effIncr + (s.fresh 2).1)
  omega

/-- Settles O3: by induction on the ticks, each of which leaves the power state and takes the output time forward; the bounds of one tick are
those of the clamp (R99). -/
theorem idleOutputTimeNeverDecreases : Obligations.IdleOutputTimeNeverDecreases :=
  ⟨fun _ n hp => State.out_le_idle_out hp n, fun _ hp hr hd hf => State.tick_out_bounds hp hr hd hf⟩

end Sys2Proof.Machine
end

section
/-! The end of a plane reset is more than its entry in the list of planes in reset: R512 starts the plane's cores at its warm vector. -/

namespace Sys2Proof.Machine

/-- A data plane reset begun at 0 ends with the next tick; the warm vector of the data cores points into general SRAM. -/
def warmStartDue : State :=
  let s := State.reset.setF F.SYS_WARM_VEC_D_ADDR 0x13800000
  { s with now := 51150, rst := { s.rst with planeHeld := [(1, planeHoldNs .data)] } }

/-- The tick that ends the reset records where the data cores start. -/
theorem warmStartDue_tick_starts : warmStartDue.rst.starts = [] ∧
    warmStartDue.tick.rst.starts = [(4, 0x13800000), (5, 0x13800000), (6, 0x13800000), (7, 0x13800000)] := by decide

/-- Refutes O2: of the reset plane the statement lets only the list of planes in reset change, and the tick that ends a data plane reset
also records the start addresses of the plane's cores (R512). -/
theorem not_idleTickAdvancesDeviceTime : ¬ Obligations.IdleTickAdvancesDeviceTime := by
  intro h
  obtain ⟨t, ht, -, -, -, -, hrst, -⟩ := h warmStartDue (by decide) (by decide)
  obtain rfl : warmStartDue.tick = t := Host.Outcome.next.inj ((step_of_no_command (by decide)).symm.trans ht)
  have hs : warmStartDue.tick.rst.starts = warmStartDue.rst.starts := by rw [hrst]
  rw [warmStartDue_tick_starts.1, warmStartDue_tick_starts.2] at hs
  exact absurd hs (by decide)

/-- The rest of the refuted statement holds: an idle tick advances device time, and beside the planes that leave their reset only the cores'
start addresses change in the reset plane. -/
theorem step_of_no_command_frame {s : State} (hq : s.pending = []) (hp : s.pwr.state ≠ .entering) :
    ∃ t, step s = .next t ∧ t.now = s.now + 2 ∧ t.pending = [] ∧ t.mem = s.mem ∧ t.keys = s.keys ∧
      t.rst = { s.rst with starts := t.rst.starts, planeHeld := t.rst.planeHeld } ∧ ∀ e ∈ t.rst.planeHeld, e ∈ s.rst.planeHeld := by
  refine ⟨s.tick, step_of_no_command hq, ?_⟩
  cases hr : s.rst.held with
  | true =>
    rw [State.tick_of_held hr]
    exact ⟨rfl, hq, rfl, rfl, rfl, fun _ h => h⟩
  | false =>
    obtain ⟨hnow, -, hpending, hmem, hkeys, -, hrst, hheld⟩ := State.tick_keepsClocks hr hp
    exact ⟨hnow, hpending.trans hq, hmem, hkeys, hrst, hheld⟩

end Sys2Proof.Machine
end

section
/-! What an initiator holds between its accesses: the latch of a wide read (R46) and the buffer of a wide write (R48). Nothing that a
register write sets off touches them, down to the engines that it starts. -/

namespace Sys2Proof.Machine

/-- From `s` to `t` every initiator keeps its latch and its write buffer. -/
structure KeepsPorts (s t : State) : Prop where
  latches : t.latches = s.latches
  wrBufs : t.wrBufs = s.wrBufs

namespace KeepsPorts

theorem refl (s : State) : KeepsPorts s s := ⟨rfl, rfl⟩

theorem trans {s t u : State} (h : KeepsPorts s t) (k : KeepsPorts t u) : KeepsPorts s u :=
  ⟨k.latches.trans h.latches, k.wrBufs.trans h.wrBufs⟩

/-- A step may begin with an update of other parts of the state. -/
theorem since {s t u : State} (k : KeepsPorts t u) (hl : t.latches = s.latches := by rfl) (hw : t.wrBufs = s.wrBufs := by rfl) :
    KeepsPorts s u := trans ⟨hl, hw⟩ k

theorem of_snd {α : Type} {s u : State} {x : α × State} {a : α} (h : KeepsPorts s x.2) (e : x = (a, u)) : KeepsPorts s u := by
  subst e
  exact h

theorem ite {s t u : State} {c : Prop} [Decidable c] (ht : KeepsPorts s t) (hu : KeepsPorts s u) :
    KeepsPorts s (if c then t else u) := by
  split
  · exact ht
  · exact hu

theorem foldl {α : Type} {f : State → α → State} (hf : ∀ s a, KeepsPorts s (f s a)) (l : List α) (s : State) :
    KeepsPorts s (l.foldl f s) :=
  List.foldlRecOn l f (motive := KeepsPorts s) (refl s) fun t ht a _ => ht.trans (hf t a)

/-! ## Registers, logs, errors -/

theorem setF (s : State) (x : Fld) (v : Nat) : KeepsPorts s (s.setF x v) := by constructor <;> simp

theorem setReg (s : State) (k : Nat) (v : Word) : KeepsPorts s (s.setReg k v) := ⟨rfl, rfl⟩

theorem setFlag (s : State) (x : Fld) (b : Bool) : KeepsPorts s (s.setFlag x b) := setF s x _

theorem raise (s : State) (p b : Nat) : KeepsPorts s (s.raise p b) := setF s _ 1

theorem bump (s : State) (x : Fld) : KeepsPorts s (s.bump x) := setF s x _

theorem err (s : State) (p code : Nat) (who : Option Initiator) (a : Nat) : KeepsPorts s (s.err p code who a) := by
  constructor <;> simp

theorem accessErr (s : State) (code : Nat) (who : Initiator) (key sub : Nat) : KeepsPorts s (s.accessErr code who key sub) := err ..

theorem respond (s : State) (d : Nat) (e : Bool) : KeepsPorts s (s.respond d e) := ⟨rfl, rfl⟩

theorem pushFifo (s : State) (key depth : Nat) (e : List Word) {full : State → State} (hf : KeepsPorts s (full s)) :
    KeepsPorts s (s.pushFifo key depth e full) := ite ⟨rfl, rfl⟩ hf

theorem lineFall (s : State) (p : Nat) : KeepsPorts s (s.lineFall p) := ite (refl s) ⟨rfl, rfl⟩

/-! ## Memory and its translation (R453, R459 to R463) -/

theorem eccLog (s : State) (m a : Nat) : KeepsPorts s (s.eccLog m a) :=
  ((bump ..).trans (raise ..)).trans (pushFifo _ _ _ _ (refl _))

theorem eccRead (s : State) (a n : Nat) (m : Option Nat) : KeepsPorts s (s.eccRead a n m).2 := by
  refine List.foldlRecOn _ _ (motive := fun x : Bool × State => KeepsPorts s x.2) (refl s) fun x hx e _ => hx.trans ?_
  dsimp only
  split
  · exact refl _
  · dsimp only
    exact ((bump ..).trans (raise ..)).since
  · exact eccLog ..

theorem setMemByte (s : State) (a : Nat) (v : Byte) : KeepsPorts s (s.setMemByte a v) := ⟨rfl, rfl⟩

theorem storeBytes (s : State) (a : Nat) (l : List Byte) : KeepsPorts s (s.storeBytes a l) := by
  rw [State.storeBytes_only]
  exact ⟨rfl, rfl⟩

theorem physWrite (s : State) (a : Nat) (l : List Byte) : KeepsPorts s (s.physWrite a l) := by
  have h1 (e : List (Nat × EccError)) : KeepsPorts s { s with mem := { s.mem with ecc := e } } := ⟨rfl, rfl⟩
  have h2 (l : List (Nat × EccError)) (t : State) :
      KeepsPorts t (l.foldl (fun s _ => (s.bump F.DTU_ECC_CE_COUNT).raise 0x008 3) t) :=
    foldl (fun _ _ => (bump ..).trans (raise ..)) l t
  have h3 (l : List (Nat × EccError)) (t : State) : KeepsPorts t (l.foldl (fun s e => s.eccLog (eccMemory e.1) e.1) t) :=
    foldl (fun _ _ => eccLog ..) l t
  refine (((h1 _).trans (h2 _ _)).trans (h3 _ _)).trans (ite (storeBytes ..) (foldl (fun t b => ite (refl t) (setMemByte ..)) _ _))

theorem lpddrTouch (s : State) (a : Nat) : KeepsPorts s (s.lpddrTouch a) :=
  ite ((setFlag s _ _).trans ⟨rfl, rfl⟩) (refl s)

theorem walk (s : State) (va : Nat) (write : Bool) (table level : Nat) : KeepsPorts s (s.walk va write table level).2 := by
  induction level generalizing s table with
  | zero => exact refl s
  | succ level ih =>
    have h := eccRead s (table + 8 * (va / (0x1000 * 512 ^ level) % 512)) 8 (some 3)
    unfold State.walk
    dsimp only
    split
    · exact refl s
    · split
      · exact h
      · split
        · exact h
        · split
          · split
            · exact h
            · split <;> exact h
          · exact h.trans (ih ..)

theorem dtuFill (s : State) (e : DtuEntry) : KeepsPorts s (s.dtuFill e) := ite ⟨rfl, rfl⟩ ⟨rfl, rfl⟩

theorem translate (s : State) (may : Region → Bool) (pinned : Bool) (ctx va : Nat) (write : Bool) :
    KeepsPorts s (s.translate may pinned ctx va write).2 := by
  have target {t u : State} {x : Nat ⊕ Nat} {c : Prop} [Decidable c] {pa : Nat}
      (h : (if c then ((.inr pa, t) : (Nat ⊕ Nat) × State) else (.inl 8, t)) = (x, u)) : u = t := by
    split at h <;> exact (congrArg Prod.snd h).symm
  have target' (t : State) (c : Prop) [Decidable c] (pa : Nat) :
      KeepsPorts t (if c then ((.inr pa, t) : (Nat ⊕ Nat) × State) else (.inl 8, t)).2 := by
    split <;> exact refl t
  unfold State.translate
  dsimp only
  split
  · exact target' ..
  · split
    · exact refl s
    · split
      · exact refl s
      · split
        · exact (bump ..).trans (target' ..)
        · have hw (root : Nat) := (bump s (F.DTU_MISSES_COUNT ctx)).trans (walk _ (va % 2 ^ 48) write root 4)
          split
          · next heq => exact (hw _).of_snd heq
          · next heq =>
            split
            · next htgt => exact target htgt ▸ (hw _).of_snd heq
            · next htgt => exact (target htgt ▸ (hw _).of_snd heq : KeepsPorts s _).trans (dtuFill ..)

theorem dtuFault (s : State) (ctx client index va cause : Nat) (write : Bool) :
    KeepsPorts s (s.dtuFault ctx client index va cause write) := by
  have h : KeepsPorts s (if ctx < 8 then s.bump (F.DTU_FAULTS_COUNT ctx) else s) := ite (bump ..) (refl s)
  unfold State.dtuFault
  exact (h.trans (raise ..)).trans (pushFifo _ _ _ _ ((bump ..).trans (raise ..)))

theorem clientAddr (s : State) (client index va : Nat) (write : Bool) : KeepsPorts s (s.clientAddr client index va write).2 := by
  unfold State.clientAddr
  dsimp only
  split
  · next heq => exact (of_snd (translate ..) heq).trans (lpddrTouch ..)
  · next heq => exact (of_snd (translate ..) heq).trans (dtuFault ..)

theorem clientWrite (s : State) (client index va : Nat) (l : List Byte) : KeepsPorts s (s.clientWrite client index va l).2 := by
  suffices h : ∀ (pages : Nat) (s : State) (va : Nat) (l : List Byte), KeepsPorts s (s.clientWritePages client index pages va l).2 from h ..
  intro pages
  induction pages with
  | zero => exact fun s _ _ => refl s
  | succ pages ih =>
    intro s va l
    unfold State.clientWritePages
    split
    · exact refl s
    · dsimp only
      have h := clientAddr s client index va true
      split
      · next heq => exact h.of_snd heq
      · next heq => exact (h.of_snd heq).trans ((physWrite ..).trans (ih ..))

theorem storeRefused (s : State) (who : Initiator) (a : Nat) : KeepsPorts s (s.storeRefused who a) := by
  unfold State.storeRefused
  exact ite ((err ..).trans (bump ..)) (err ..)

/-! ## Mailbox queues (R479 to R486) -/

theorem setMbox (s : State) (q : Nat) (v : MboxQueue) : KeepsPorts s (s.setMbox q v) := ⟨rfl, rfl⟩

theorem mboxEvent (s : State) (q e : Nat) : KeepsPorts s (s.mboxEvent q e) := raise ..

theorem mboxCheckPtr (s : State) (q : Nat) : KeepsPorts s (s.mboxCheckPtr q) :=
  ite ((((setMbox ..).trans (bump ..)).trans (err ..)).trans (mboxEvent ..)) (refl s)

theorem mboxStore (s : State) (q : Nat) (w : Writer) (word : DWord) (packet : Bool) : KeepsPorts s (s.mboxStore q w word packet) := by
  unfold State.mboxStore
  have h (v : MboxQueue) (x : Fld) (n : Nat) : KeepsPorts s ((s.setMbox q v).setF x n) := (setMbox ..).trans (setF ..)
  exact ite ((setMbox ..).trans (bump ..)) (ite ((h ..).trans (mboxEvent ..)) (h ..))

theorem mboxServeHeld (s : State) (q n : Nat) : KeepsPorts s (s.mboxServeHeld q n) := by
  induction n generalizing s with
  | zero => exact refl s
  | succ n ih =>
    unfold State.mboxServeHeld
    split
    · refine KeepsPorts.trans ?_ (ih _)
      split
      · exact ((setMbox ..).trans (mboxStore ..)).trans (respond ..)
      · exact (setMbox ..).trans (mboxStore ..)
    · exact refl s

theorem countLost (s : State) (lost : Option Lost) : KeepsPorts s (s.countLost lost) := by
  have h1 (l : Lost) : KeepsPorts (s.bump l.count) (match l.event with
      | some (p, b) => (s.bump l.count).raise p b
      | none => s.bump l.count) := by
    split
    · exact raise ..
    · exact refl _
  unfold State.countLost
  split
  · next l =>
    dsimp only
    split
    · exact ((bump ..).trans (h1 l)).trans (pushFifo _ _ _ _ (refl _))
    · exact (bump ..).trans (h1 l)
  · exact refl s

theorem mboxFail (s : State) (q : Nat) (w : Writer) (lost : Option Lost) : KeepsPorts s (s.mboxFail q w lost) := by
  have h : KeepsPorts s ((s.bump (F.MBOX_WR_FAIL_COUNT (q / 4) (q % 4))).mboxEvent q 1) := (bump ..).trans (mboxEvent ..)
  unfold State.mboxFail
  split
  · exact h.trans (countLost ..)
  · exact h.trans ((err ..).trans (respond ..))

theorem mboxWrite (s : State) (q : Nat) (w : Writer) (word : DWord) (packet : Bool) (lost : Option Lost) :
    KeepsPorts s (s.mboxWrite q w word packet lost) :=
  (mboxCheckPtr s q).trans <| ite (mboxFail ..) <| ite ((err ..).trans (countLost ..)) <| ite ((err ..).trans (countLost ..)) <|
    ite ((mboxStore ..).trans (mboxServeHeld ..)) (setMbox ..)

/-! ## DMA channels (R466 to R471) -/

theorem dmaWriteback (s : State) (c status : Nat) : KeepsPorts s (s.dmaWriteback c status).2 := by
  have put (t : State) (a : Nat) (l : List Byte) : KeepsPorts t (t.dmaPut a l) := by
    unfold State.dmaPut
    split
    · exact storeRefused ..
    · exact storeRefused ..
    · exact storeRefused ..
    · exact physWrite ..
  have word (va w : Nat) : KeepsPorts s (s.dmaWord c va w).2 := by
    have h := clientAddr s 0 c va true
    unfold State.dmaWord
    split
    · next heq => exact h.of_snd heq
    · next heq => exact (h.of_snd heq).trans (put ..)
  have notify (t : State) : KeepsPorts t (t.dmaNotify c status) := ite (mboxWrite ..) (refl t)
  unfold State.dmaWriteback
  dsimp only
  split
  · exact refl s
  · split
    · next heq => exact (word ..).of_snd heq
    · next heq => exact ((word ..).of_snd heq).trans (notify _)

theorem dmaAbort (s : State) (c : Nat) : KeepsPorts s (s.dmaAbort c) :=
  (dmaWriteback ..).trans (raise ..).since

/-! ## The time base, threads, keys, clocks (R101 to R111, R336, R426, R494) -/

theorem timeEval (s : State) : KeepsPorts s s.timeEval := by
  have h (v : Bool) : KeepsPorts s { s with time := { s.time with valid := v } } := ⟨rfl, rfl⟩
  exact ite ((h _).trans (raise ..)) (ite ((h _).trans (raise ..)) (h _))

theorem timeSetD (s : State) (d : Int) : KeepsPorts s (s.timeSetD d) := (timeEval _).since

theorem reselect (s : State) : KeepsPorts s s.reselect := by
  have h : KeepsPorts s ({ s with time := { s.time with follow := s.selected } }.raise 0x042 3) := (raise ..).since
  unfold State.reselect
  dsimp only
  split
  · exact refl s
  · split
    · exact ((raise ..).trans (timeEval _)).since h.latches h.wrBufs
    · split
      · exact (timeSetD ..).since h.latches h.wrBufs
      · exact (timeEval _).since h.latches h.wrBufs

theorem domDiscard (s : State) (i : Nat) : KeepsPorts s (s.domDiscard i) := by
  have restart : KeepsPorts s (if i = 2 then s.asymRestart else s) := ite ⟨rfl, rfl⟩ (refl s)
  have set (t : State) : KeepsPorts t (t.setDom i {}) := ite ⟨rfl, rfl⟩ ⟨rfl, rfl⟩
  unfold State.domDiscard
  exact (restart.trans (set _)).trans (reselect _)

theorem ptpMove (s : State) (port : Nat) : KeepsPorts s (s.ptpMove port) := (setF ..).trans ⟨rfl, rfl⟩

theorem trace (s : State) (kind set level object peer aux : Nat) : KeepsPorts s (s.trace kind set level object peer aux) := by
  unfold State.trace
  have h1 (n : Nat) : KeepsPorts s { s with sched := { s.sched with seq := n } } := ⟨rfl, rfl⟩
  have lost (t : State) : KeepsPorts t ((t.bump F.SCHED_TRC_LOST_COUNT).raise 0x024 0) := (bump ..).trans (raise ..)
  refine ite ?_ (refl s)
  dsimp only
  refine (h1 _).trans (ite (lost _) ?_)
  split
  · next heq => exact (of_snd (clientWrite ..) heq).trans (lost _)
  · next heq =>
    refine (of_snd (clientWrite ..) heq).trans ?_
    exact ite ((raise ..).since) ⟨rfl, rfl⟩

theorem signalCore (s : State) (k : Nat) (t : Option Nat) : KeepsPorts s (s.signalCore k t) := by
  unfold State.signalCore
  dsimp only
  have set (c : SchedCore) : KeepsPorts s (s.setSchedCore k c) := ⟨rfl, rfl⟩
  split
  · exact (trace ..).since
  · exact set _

theorem freeCore (s : State) (k : Nat) : KeepsPorts s (s.freeCore k) := by
  unfold State.freeCore
  split
  · exact (signalCore ..).since
  · exact signalCore ..

theorem serveCores (s : State) : KeepsPorts s s.serveCores := foldl (fun t _ => ite (freeCore ..) (refl t)) _ s

theorem keySelect (s : State) : KeepsPorts s s.keySelect := by
  have radio (t : State) : KeepsPorts t t.revokeRadio := ite (refl t) ((raise ..).since)
  have casc (t : State) : KeepsPorts t t.revokeCasc := ite (refl t) ((raise ..).since)
  have deliver (t : State) : KeepsPorts t t.keyDeliver := by
    unfold State.keyDeliver
    dsimp only
    split <;> split <;> exact ⟨rfl, rfl⟩
  exact ((ite (refl s) (radio s)).trans (ite (refl _) (casc _))).trans (deliver _)

theorem clockRequest (s : State) (cores : Bool) : KeepsPorts s (s.clockRequest cores) := by
  have h (p : PwrSt) (on : Bool) : KeepsPorts s (if on then { s with pwr := p } else { s with pwr := p }.bump F.CLK_STARTS_COUNT) :=
    ite ⟨rfl, rfl⟩ (bump ..).since
  exact ite (refl s) (ite (h ..) (h ..))

theorem clockEval (s : State) : KeepsPorts s s.clockEval :=
  (ite (clockRequest ..) (refl s)).trans (ite (clockRequest ..) (refl _))

/-! ## What an access sets off (R39, R377, and the rules that `afterWrite` names) -/

theorem entered (s : State) (key : Nat) : KeepsPorts s (s.entered key) := by
  refine ite (ite (refl s) (ite (clockRequest ..) (ite (bump ..).since (bump ..)))) (refl s)

theorem afterPop (s : State) (base : Nat) : KeepsPorts s (s.afterPop base) := by
  have refill (p : Nat) : KeepsPorts s (s.tsRefill p) := ite (refl s) ((raise ..).since)
  exact ite (refill _) (refl s)

theorem clearRc (s : State) (key : Nat) : KeepsPorts s (s.clearRc key) := by
  unfold State.clearRc
  split
  · exact ite (refl s) (setReg ..)
  · exact refl s

theorem commitWords (s : State) (who : Initiator) (key at_ w own : Nat) (fs : List FieldDef) (vs : List Nat) (locked : Bool) :
    KeepsPorts s (s.commitWords who key at_ w own fs vs locked) := by
  induction vs generalizing s w locked with
  | nil => exact ite (accessErr ..) (refl s)
  | cons v vs ih => exact (setReg ..).trans (ih ..)

theorem afterWrite (s : State) (key : Nat) : KeepsPorts s (s.afterWrite key) := by
  have port : KeepsPorts s s.afterTimePort := ite (ptpMove ..) ((domDiscard ..).trans ⟨rfl, rfl⟩)
  have mode (p : Nat) : KeepsPorts s (s.afterMode p) := ite ((setReg ..).trans (raise ..)) (refl s)
  have dma (c : Nat) : KeepsPorts s (s.afterDma c) := ite (refl s) (dmaAbort ..)
  have watchdog : KeepsPorts s s.afterWatchdog := ite ⟨rfl, rfl⟩ ⟨rfl, rfl⟩
  exact ite port <| ite (ite (refl s) (timeSetD ..)) <| ite (setFlag ..) <| ite (setFlag ..) <|
    ite (ite (serveCores s) (refl s)) <| ite (mode _) <| ite (keySelect s) <| ite (dma _) <| ite (clockEval s) <|
    ite (lineFall ..) <| ite ⟨rfl, rfl⟩ <| ite ⟨rfl, rfl⟩ <| ite watchdog (refl s)

theorem writeReg (s : State) (who : Initiator) (key at_ own : Nat) (r : RegDef) (vs : List Nat) :
    KeepsPorts s (s.writeReg who key at_ own r vs) := by
  unfold State.writeReg
  dsimp only
  split
  · exact accessErr ..
  · exact (commitWords ..).trans (afterWrite ..)

end KeepsPorts

end Sys2Proof.Machine
end

section
/-! Pages, the keys of their register words, and what the gate makes of an access (R30, R31, R36, R39, R54). -/

namespace Sys2Proof.Machine

/-! ## Pages and their headers (R36, R37) -/

theorem pageRow_mem {p : Nat} {r : PageRow} (h : pageRow p = some r) : r ∈ pageTable ∧ r.first ≤ p ∧ p ≤ r.last := by
  have hb := List.find?_some h
  simp only [Bool.and_eq_true, decide_eq_true_eq] at hb
  exact ⟨List.mem_of_find?_eq_some h, hb⟩

/-- Every row of the page map lies in the register space, and its code and numbers fit the fields of PG_ID. -/
theorem pageTable_bounds : ∀ r ∈ pageTable, r.last < 0x1000 ∧ r.code < 0x10000 ∧ r.inst + (r.last - r.first) < 0x100 := by decide

theorem pageAssigned_lt {p : Nat} (h : pageAssigned p = true) : p < 0x1000 := by
  obtain ⟨r, hr⟩ := Option.isSome_iff_exists.1 h
  obtain ⟨hmem, -, hlast⟩ := pageRow_mem hr
  exact Nat.lt_of_le_of_lt hlast (pageTable_bounds r hmem).1

theorem plainKey_of_lt {key : Nat} (h : key < 0x1000000) : plainKey key = key := Nat.mod_eq_of_lt h

theorem plainKey_page {p off : Nat} (hp : p < 0x1000) (ho : off < 0x1000) : plainKey (p * 0x1000 + off) = p * 0x1000 + off :=
  plainKey_of_lt (by omega)

theorem regAt_header {p off : Nat} (hp : pageAssigned p = true) (ho : off < 0x040) :
    regAt (p * 0x1000 + off) = findReg (headerRegs p) off := by
  have hlt := pageAssigned_lt hp
  unfold regAt
  rw [plainKey_page hlt (by omega), show (p * 0x1000 + off) / 0x1000 = p by omega, show (p * 0x1000 + off) % 0x1000 = off by omega]
  simp only [hp, if_pos ho, if_true]

/-! ## Register words of a page (R30) -/

theorem plainKey_wordKey (page : Fin 4096) (word : Fin 1024) : plainKey (wordKey page.val word.val) = wordKey page.val word.val :=
  plainKey_of_lt (by unfold wordKey; omega)

theorem wordKey_page (page : Nat) (word : Fin 1024) : wordKey page word.val / 0x1000 = page := by
  unfold wordKey
  omega

theorem wordKey_offset (page : Nat) (word : Fin 1024) : wordKey page word.val % 0x1000 = 4 * word.val := by
  unfold wordKey
  omega

theorem wordKey_succ (page : Nat) {word : Fin 1024} (h : word.val + 1 < 1024) : wordKey page (word + 1).val = wordKey page word.val + 4 := by
  have hv : (word + 1).val = word.val + 1 := by
    rw [Fin.val_add_one_of_lt']
    exact h
  unfold wordKey
  omega

/-! ## Accesses that the gate turns away (R31, R53, R54) -/

theorem State.gate_of_unassigned {s : State} {who : Initiator} {key sub : Nat} {write : Bool} {k : State → State}
    (hr : s.reaches who = true) (hh : s.rst.held = false) (hp : pageAssigned (plainKey key / 0x1000) = false) :
    s.gate who key write k sub = s.decodeError who (regAddr key + sub) := by
  simp [State.gate, hr, hh, hp]

theorem State.gate_of_denied {s : State} {key sub : Nat} {write : Bool} {k : State → State} (hr : s.reaches .host = true)
    (hh : s.rst.held = false) (hp : pageAssigned (plainKey key / 0x1000) = true)
    (hd : s.hostMay (plainKey key / 0x1000) (plainKey key % 0x1000) write = false) :
    s.gate .host key write k sub =
      (s.err (if s.pagePowered (plainKey key / 0x1000) then plainKey key / 0x1000 else 0x000) 0x04 (some .host) (regAddr key + sub)).respond 0
        false := by
  simp [State.gate, hr, hh, hp, hd]

/-! ## 32-bit accesses that pass the gate -/

theorem State.writeAccess_word {s : State} {who : Initiator} {key sub v : Nat} {own : Nat → Nat} (h : s.passes who key true = true) :
    s.writeAccess who key sub .word v own = ((s.entered key).writeWord who key (v % 2 ^ 32) (own key)).respond 0 false :=
  State.gate_of_passes h

theorem State.readAccess_word {s : State} {who : Initiator} {key sub : Nat} (h : s.passes who key false = true) :
    s.readAccess who key sub .word = ((s.entered key).readWord who key).2.respond ((s.entered key).readWord who key).1 false :=
  State.gate_of_passes h

end Sys2Proof.Machine
end

section
/-! The promise of R48: a wide value read low word first is consistent, whatever other initiators do in between. -/

namespace Sys2Proof.Machine

/-! ## Latches (R46) -/

theorem initiatorIndex_injective : Function.Injective initiatorIndex := by
  intro a b h
  cases a <;> cases b <;> grind [initiatorIndex]

theorem KeepsPorts.latch {s t : State} (h : KeepsPorts s t) (who : Initiator) : t.latch who = s.latch who :=
  congrArg (Assoc.get _ · _) h.latches

@[simp] theorem State.latch_setLatch_same (s : State) (who : Initiator) (l : Option ReadLatch) : (s.setLatch who l).latch who = l :=
  Assoc.get_put_same

theorem State.latch_setLatch_other (s : State) {who other : Initiator} (l : Option ReadLatch) (h : other ≠ who) :
    (s.setLatch who l).latch other = s.latch other :=
  Assoc.get_put_other (initiatorIndex_injective.ne h)

/-- The lowest word of a wide value latches the others. -/
theorem State.readWord_low {s : State} {who : Initiator} {key : Nat} {r : RegDef} (hr : regAt key = some (r, 0)) (hw : 1 < r.words)
    (hf : fifoOf key = none) :
    s.readWord who key = (s.liveWord key, s.setLatch who (some ⟨key, s.liveWords (key + 4) (r.words - 1)⟩)) := by
  simp [State.readWord, hr, hf, hw]

/-- The highest word of a wide value that the reader has latched comes from the latch, which is then empty. -/
theorem State.readWord_last_latched {s : State} {who : Initiator} {key w : Nat} {r : RegDef} {words : List Word}
    (hr : regAt key = some (r, w)) (hw : r.words = w + 1) (hw0 : w ≠ 0) (hf : fifoOf key = none)
    (hl : s.latch who = some ⟨key - 4 * w, words⟩) :
    s.readWord who key = ((words.getD (w - 1) 0).toNat, s.setLatch who none) := by
  simp [State.readWord, hr, hf, hl, hw, hw0, Nat.pos_of_ne_zero]

/-- A higher word of a wide value is the live one where the reader holds no latch. -/
theorem State.readWord_high_live {s : State} {who : Initiator} {key w : Nat} {r : RegDef} (hr : regAt key = some (r, w))
    (hw : 1 < r.words) (hw0 : w ≠ 0) (hf : fifoOf key = none) (hl : s.latch who = none) :
    s.readWord who key = (s.liveWord key, s) := by
  simp [State.readWord, hr, hf, hl, hw, hw0]

/-- A read touches no latch but its reader's. -/
theorem State.latch_readWord_other (s : State) {who other : Initiator} (key : Nat) (h : other ≠ who) :
    (s.readWord who key).2.latch other = s.latch other := by
  have set (t : State) (l : Option ReadLatch) (ht : KeepsPorts s t) : (t.setLatch who l).latch other = s.latch other :=
    (t.latch_setLatch_other l h).trans (ht.latch other)
  have high (base w n live : Nat) : (match s.latch who with
      | some l => if l.base = base then ((l.words.getD (w - 1) 0).toNat, if w + 1 = n then s.setLatch who none else s) else (live, s)
      | none => (live, s)).2.latch other = s.latch other := by
    split
    · split
      · dsimp only
        split
        · exact set s _ (.refl s)
        · rfl
      · rfl
    · rfl
  have pop (base : Nat) : KeepsPorts s ((s.setFifo base (s.fifo base).tail).afterPop base) := (KeepsPorts.afterPop ..).since
  unfold State.readWord
  dsimp only
  split
  · split
    · split
      · dsimp only
        split
        · exact (pop _).latch other
        · exact set _ _ (pop _)
      · dsimp only
        split
        · rfl
        · exact set s _ (.refl s)
    · exact high ..
  · split
    · rfl
    · split
      · split
        · exact set s _ (.refl s)
        · exact high ..
      · exact (KeepsPorts.clearRc s key).latch other

theorem State.writeWord_latches (s : State) (who : Initiator) (key v own : Nat) : (s.writeWord who key v own).latches = s.latches := by
  unfold State.writeWord
  split
  · rfl
  · dsimp only
    split
    · exact (KeepsPorts.accessErr ..).latches
    · split
      · exact (KeepsPorts.writeReg ..).latches
      · split
        · rfl
        · exact (KeepsPorts.writeReg ..).latches

theorem State.latch_gate {s : State} {who other : Initiator} {key sub : Nat} {write : Bool} {k : State → State}
    (hk : ∀ t, (k t).latch other = t.latch other) : (s.gate who key write k sub).latch other = s.latch other := by
  cases hp : s.passes who key write with
  | true => rw [State.gate_of_passes hp, hk, (KeepsPorts.entered s key).latch]
  | false =>
    rcases State.gate_of_closed (k := k) (sub := sub) hp with h | ⟨_, _, h⟩ | ⟨_, _, _, _, h⟩ <;> rw [h]
    · rfl
    · exact ((KeepsPorts.err ..).trans (KeepsPorts.respond ..)).latch other

theorem State.latch_readAccess_other (s : State) {who other : Initiator} (key sub : Nat) (size : AccessSize) (h : other ≠ who) :
    (s.readAccess who key sub size).latch other = s.latch other := by
  refine State.latch_gate fun t => ?_
  cases size with
  | byte | half | word => exact t.latch_readWord_other key h
  | dword => exact ((t.readWord who key).2.latch_readWord_other (key + 4) h).trans (t.latch_readWord_other key h)

theorem State.latch_writeAccess (s : State) (who other : Initiator) (key sub : Nat) (size : AccessSize) (v : Nat) (own : Nat → Nat) :
    (s.writeAccess who key sub size v own).latch other = s.latch other := by
  have word (t : State) (k x : Nat) : (t.writeWord who k x (own k)).latch other = t.latch other :=
    congrArg (Assoc.get _ · _) (t.writeWord_latches ..)
  refine State.latch_gate fun t => ?_
  cases size with
  | byte | half => exact (KeepsPorts.accessErr ..).latch other
  | word => exact word t key _
  | dword => exact (word _ (key + 4) _).trans (word t key _)

/-- A register access answers a next state, and touches no latch but its own initiator's. -/
theorem latch_exec_registerAccess {c : Instr} {who other : Initiator} {s t : State} (hc : registerAccess c = some who)
    (h : other ≠ who) (ht : exec c s = .next t) : t.latch other = s.latch other := by
  unfold registerAccess at hc
  split at hc <;> cases hc <;> cases ht
  · exact s.latch_writeAccess ..
  · exact s.latch_readAccess_other _ _ _ h
  · exact s.latch_readAccess_other _ _ _ h
  · exact s.latch_writeAccess ..

/-- An initiator's latch outlasts any run of register accesses of others. -/
theorem latch_runs {who : Initiator} {cs : List Instr} {s t : State}
    (hcs : ∀ c ∈ cs, ∃ other, registerAccess c = some other ∧ other ≠ who) (h : runs s cs = some t) : t.latch who = s.latch who := by
  induction cs generalizing s with
  | nil => cases h; rfl
  | cons c cs ih =>
    obtain ⟨⟨other, hc, hne⟩, hcs⟩ := List.forall_mem_cons.1 hcs
    unfold runs at h
    split at h
    · next heq => exact (ih hcs h).trans (latch_exec_registerAccess hc hne.symm heq)
    · cases h
    · cases h

/-! ## The two reads of a wide value -/

/-- Settles O7: the first read latches the high word, the others' accesses leave the latch, and the second read answers from it. -/
theorem wideReadConsistent : Obligations.WideReadConsistent := by
  refine ⟨?_, ?_⟩
  · intro who page word s s1 s2 cs r key hlo hhi hw hf0 hf1 hword hp h1 hcs hrun hp2
    set s0 := s.entered key
    have hread : s.readAccess who key 0 .word = (s0.setLatch who (some ⟨key, s0.liveWords (key + 4) 1⟩)).respond (s0.liveWord key) false := by
      rw [State.readAccess_word hp, State.readWord_low hlo (by omega) hf0, hw]
    obtain rfl : s.readAccess who key 0 .word = s1 := Host.Outcome.next.inj h1
    have hl : (s2.entered (key + 4)).latch who = some ⟨key + 4 - 4 * 1, [BitVec.ofNat 32 (s0.liveWord (key + 4))]⟩ :=
      calc (s2.entered (key + 4)).latch who
        _ = s2.latch who := (KeepsPorts.entered ..).latch who
        _ = (s.readAccess who key 0 .word).latch who := latch_runs hcs hrun
        _ = some ⟨key, s0.liveWords (key + 4) 1⟩ := by rw [hread]; exact s0.latch_setLatch_same who _
    refine ⟨by rw [hread]; rfl, s2.readAccess who (key + 4) 0 .word, ?_, ?_⟩
    · rw [← wordKey_succ page.val hword]; rfl
    · rw [State.readAccess_word hp2, State.readWord_last_latched hhi hw (by omega) hf1 hl]
      exact ⟨rfl, State.latch_setLatch_same _ who none⟩
  · intro who page word s r key hr hw hf hp hl
    have hl0 : (s.entered key).latch who = none := ((KeepsPorts.entered ..).latch who).trans hl
    have hread : s.readAccess who key 0 .word = (s.entered key).respond ((s.entered key).liveWord key) false := by
      rw [State.readAccess_word hp, State.readWord_high_live hr (by omega) (by omega) hf hl0]
    exact congrArg _ hread

end Sys2Proof.Machine
end

section
/-! Steps, and the state after reset (R34, R36, R37, R513). -/

namespace Sys2Proof.Machine

/-- Settles O1: a step matches on the queue. -/
theorem stepRunsTheFrontCommand : Obligations.StepRunsTheFrontCommand := by
  intro c rest s h
  unfold step
  rw [h]

/-! ## Page headers at reset -/

theorem copyReset_header {p off : Nat} (ho : off < 0x040) : copyReset (p * 0x1000 + off) = none := by
  unfold copyReset windowStep
  simp only [beq_iff_eq]
  repeat rw [if_neg (by omega)]

/-- A header word beside PG_ID holds at reset what its fields state. -/
theorem resetWord_header {p off v : Nat} (hp : pageAssigned p = true) (ho : off < 0x040) (h0 : off ≠ 0)
    (hv : (findReg (headerRegs p) off).map (fun x => fieldsReset x.2 x.1.fields) = some v) :
    resetWord (p * 0x1000 + off) = BitVec.ofNat 32 v := by
  have hlt := pageAssigned_lt hp
  have hne : (plainKey (p * 0x1000 + off) % 0x1000 == 0) = false := by
    rw [plainKey_page hlt (by omega), beq_eq_false_iff_ne]
    omega
  obtain ⟨⟨r, w⟩, hr, rfl⟩ := Option.map_eq_some_iff.1 hv
  unfold resetWord
  rw [copyReset_header ho, regAt_header hp ho, hr]
  simp only [hne, Bool.false_eq_true, if_false]

theorem resetWord_pgId {p : Nat} {r : PageRow} (hr : pageRow p = some r) :
    (resetWord (p * 0x1000)).toNat = r.code * 0x10000 + (r.inst + (p - r.first)) * 0x100 + 1 := by
  obtain ⟨hmem, hfirst, hlast⟩ := pageRow_mem hr
  obtain ⟨hlt, hcode, hinst⟩ := pageTable_bounds r hmem
  have hp : plainKey (p * 0x1000) = p * 0x1000 := plainKey_of_lt (by omega)
  have hc : copyReset (p * 0x1000) = none := by simpa using copyReset_header (p := p) (off := 0) (by omega)
  unfold resetWord
  rw [hc, hp, show p * 0x1000 / 0x1000 = p by omega, show p * 0x1000 % 0x1000 = 0 by omega, hr]
  simp only [beq_self_eq_true, if_true, BitVec.toNat_ofNat]
  omega

theorem pageAlwaysEnabled_eq (p : Nat) : pageAlwaysEnabled p = [0x000, 0x001, 0x002, 0x003, 0x040, 0x041, 0x0C0].elem p := by
  rw [Bool.eq_iff_iff]
  simp [pageAlwaysEnabled]
  omega

/-- PG_CTRL at reset: ENABLE where it is fixed, and nothing else. -/
theorem resetWord_pgCtrl {p : Nat} (hp : pageAssigned p = true) :
    resetWord (p * 0x1000 + 0x008) = BitVec.ofNat 32 (bit (pageAlwaysEnabled p)) := by
  refine resetWord_header hp (by omega) (by omega) ?_
  cases h : pageAlwaysEnabled p <;> simp [headerRegs, findReg, RegDef.locate, fieldsReset, bit, h]

/-- Settles O4: the reset state lists no register, so every header reads what the register map states for its page. -/
theorem resetState : Obligations.ResetState := by
  refine ⟨fun p hp => ?_, ?_⟩
  · obtain ⟨r, hr⟩ := Option.isSome_iff_exists.1 hp
    have ctrl := resetWord_pgCtrl hp
    have raw : (findReg (headerRegs p) 0x010).map (fun x => fieldsReset x.2 x.1.fields) = some 0 := by
      simp [headerRegs, findReg, RegDef.locate, fieldsReset]
    refine ⟨⟨r, hr, resetWord_pgId hr⟩, resetWord_header (off := 0x004) hp (by omega) (by omega) rfl, ?_, ?_,
      resetWord_header hp (by omega) (by omega) raw, resetWord_header (off := 0x014) hp (by omega) (by omega) rfl,
      resetWord_header (off := 0x020) hp (by omega) (by omega) rfl⟩
    · rw [← pageAlwaysEnabled_eq]
      show (bitsOf (resetWord (p * 0x1000 + 0x008)).toNat 0 0 == 1) = _
      rw [ctrl]
      cases pageAlwaysEnabled p <;> rfl
    · show (bitsOf (resetWord (p * 0x1000 + 0x008)).toNat 31 31 == 1) = _
      rw [ctrl]
      cases pageAlwaysEnabled p <;> rfl
  · exact ⟨⟨nofun, nofun⟩, rfl, rfl, rfl, rfl, rfl⟩

end Sys2Proof.Machine
end

section
/-! Writes and reads by access type (R41 to R45). -/

namespace Sys2Proof.Machine

/-! ## The bits of fields -/

theorem testBit_range {hi lo i : Nat} : (2 ^ (hi + 1) - 2 ^ lo).testBit i = (decide (lo ≤ i) && decide (i ≤ hi)) := by
  by_cases h : lo ≤ hi + 1
  · obtain ⟨n, hn⟩ := Nat.exists_eq_add_of_le h
    rw [show 2 ^ (hi + 1) - 2 ^ lo = 2 ^ lo * (2 ^ n - 1) by rw [hn, Nat.pow_add, Nat.mul_sub, Nat.mul_one], Nat.testBit_two_pow_mul,
      Nat.testBit_two_pow_sub_one, Bool.eq_iff_iff]
    simp only [ge_iff_le, Bool.and_eq_true, decide_eq_true_eq]
    omega
  · rw [Nat.sub_eq_zero_of_le (Nat.pow_le_pow_right (by decide) (by omega)), Nat.zero_testBit, eq_comm, Bool.and_eq_false_iff]
    simp only [decide_eq_false_iff_not]
    omega

/-- Bit `i` of an access mask: some field of the access type holds it. -/
theorem testBit_accessMask {w i : Nat} (p : Access → Bool) (fs : List FieldDef) (hi : i < 32) :
    (accessMask w p fs).testBit i = fs.any fun f => p f.acc && decide (f.lo ≤ 32 * w + i) && decide (32 * w + i ≤ f.hi) := by
  induction fs with
  | nil => simp [accessMask]
  | cons f fs ih =>
    rw [accessMask, Nat.testBit_or, ih, List.any_cons]
    congr 1
    split
    · next hp =>
      rw [Nat.testBit_mod_two_pow, Nat.testBit_div_two_pow, testBit_range, Nat.add_comm i]
      simp [hp, hi]
    · next hp => simp [hp]

theorem accessMask_lt (w : Nat) (p : Access → Bool) (fs : List FieldDef) : accessMask w p fs < 2 ^ 32 := by
  induction fs with
  | nil => exact Nat.two_pow_pos 32
  | cons f fs ih =>
    refine Nat.or_lt_two_pow ?_ ih
    split
    · exact Nat.mod_lt _ (by decide)
    · decide

/-- A bit that one field alone holds is in the mask of that field's access type only. -/
theorem testBit_accessMask_of_unique {i : Nat} {fs : List FieldDef} {f : FieldDef} (p : Access → Bool) (hi : i < 32) (hf : f ∈ fs)
    (hlo : f.lo ≤ i) (hhi : i ≤ f.hi) (hu : ∀ g ∈ fs, g.lo ≤ i → i ≤ g.hi → g = f) : (accessMask 0 p fs).testBit i = p f.acc := by
  rw [testBit_accessMask p fs hi, Bool.eq_iff_iff, List.any_eq_true]
  simp only [Nat.mul_zero, Nat.zero_add, Bool.and_eq_true, decide_eq_true_eq]
  constructor
  · rintro ⟨g, hg, ⟨hp, hglo⟩, hghi⟩
    rwa [← hu g hg hglo hghi]
  · exact fun hp => ⟨f, hf, ⟨hp, hlo⟩, hhi⟩

theorem accessMask_eq_zero {w : Nat} {p : Access → Bool} {fs : List FieldDef} (h : ∀ f ∈ fs, p f.acc = false) : accessMask w p fs = 0 := by
  induction fs with
  | nil => rfl
  | cons f fs ih =>
    rw [accessMask, h f (by simp), ih fun g hg => h g (by simp [hg]), if_neg Bool.false_ne_true, Nat.zero_or]

theorem testBit_allBits_sub {m i : Nat} (hm : m < 2 ^ 32) (hi : i < 32) : (allBits - m).testBit i = !m.testBit i := by
  rw [show allBits - m = 2 ^ 32 - (m + 1) by unfold allBits; omega, Nat.testBit_two_pow_sub_succ hm]
  simp [hi]

/-- Clearing the bits of a mask by a subtraction. -/
theorem getLsbD_clear (x : Word) (m : Nat) {i : Nat} (hi : i < 32) :
    (BitVec.ofNat 32 (x.toNat - (x.toNat &&& m))).getLsbD i = (x.getLsbD i && !m.testBit i) := by
  have hand : BitVec.ofNat 32 (x.toNat &&& m) = x &&& BitVec.ofNat 32 m := by
    refine BitVec.eq_of_getLsbD_eq fun j hj => ?_
    simp [hj]
  have hsplit : x = (x &&& BitVec.ofNat 32 m) + (x &&& ~~~BitVec.ofNat 32 m) := by
    have h0 : (x &&& BitVec.ofNat 32 m) &&& (x &&& ~~~BitVec.ofNat 32 m) = 0#32 := by
      refine BitVec.eq_of_getLsbD_eq fun j hj => ?_
      simp only [BitVec.getLsbD_and, BitVec.getLsbD_not]
      cases (BitVec.ofNat 32 m).getLsbD j <;> simp
    rw [BitVec.add_eq_or_of_and_eq_zero _ _ h0]
    refine BitVec.eq_of_getLsbD_eq fun j hj => ?_
    simp only [BitVec.getLsbD_or, BitVec.getLsbD_and, BitVec.getLsbD_not, hj]
    cases (BitVec.ofNat 32 m).getLsbD j <;> simp
  have hclear : BitVec.ofNat 32 (x.toNat - (x.toNat &&& m)) = x &&& ~~~BitVec.ofNat 32 m := by
    have hle : x.toNat &&& m ≤ x.toNat := Nat.and_le_left
    rw [← BitVec.ofNat_sub_ofNat_of_le _ _ (Nat.lt_of_le_of_lt hle x.isLt) hle, hand, BitVec.ofNat_toNat, BitVec.setWidth_eq]
    exact BitVec.sub_eq_iff_eq_add.2 (by rw [BitVec.add_comm]; exact hsplit)
  rw [hclear, BitVec.getLsbD_and, BitVec.getLsbD_not, BitVec.getLsbD_ofNat]
  simp [hi]

/-! ## The write of one word by access type (R41, R44) -/

/-- A bit of a word of which `v` writes the bits `rw`, clears the bits `w1c` and sets the bits `w1s`. -/
theorem testBit_merged {old v rw w1c w1s i : Nat} (hrw : rw < 2 ^ 32) (hw1c : w1c < 2 ^ 32) (hi : i < 32) :
    (((old &&& (allBits - rw)) ||| (v &&& rw)) &&& (allBits - (v &&& w1c)) ||| (v &&& w1s)).testBit i =
      (((old.testBit i && !rw.testBit i || v.testBit i && rw.testBit i) && !(v.testBit i && w1c.testBit i)) ||
        v.testBit i && w1s.testBit i) := by
  have hclear : v &&& w1c < 2 ^ 32 := Nat.lt_of_le_of_lt Nat.and_le_right hw1c
  simp only [Nat.testBit_or, Nat.testBit_and, testBit_allBits_sub hrw hi, testBit_allBits_sub hclear hi]

/-- What a write leaves in a bit that its command writes, by the access types that hold the bit. -/
theorem State.testBit_mergeWord (s : State) {key w v own i : Nat} {fs : List FieldDef} (hi : i < 32) (hown : own.testBit i = true) :
    (s.mergeWord key w v own fs).1.testBit i =
      let old := (s.reg (s.winKey key)).getLsbD i
      let holds (a : Access) := (accessMask w (· == a) fs).testBit i
      let rw := holds .rw || holds .rwl && !s.flag (F.PG_CTRL_LOCK (plainKey key / 0x1000))
      (((old && !rw || v.testBit i && rw) && !(v.testBit i && holds .w1c)) || v.testBit i && holds .w1s) := by
  have hmask (p : Access → Bool) : accessMask w p fs &&& own < 2 ^ 32 := Nat.lt_of_le_of_lt Nat.and_le_left (accessMask_lt w p fs)
  have hlock : (if s.flag (F.PG_CTRL_LOCK (plainKey key / 0x1000)) then 0 else accessMask w (· == .rwl) fs &&& own) < 2 ^ 32 := by
    split
    · exact Nat.two_pow_pos 32
    · exact hmask _
  unfold State.mergeWord
  dsimp only
  rw [testBit_merged (Nat.or_lt_two_pow (hmask _) hlock) (hmask _) hi]
  cases s.flag (F.PG_CTRL_LOCK (plainKey key / 0x1000)) <;> simp [hown, BitVec.testBit_toNat]

/-! ## Where an error record and a windowed register lie (R37) -/

theorem State.winKey_offset (s : State) (key : Nat) : s.winKey key % 0x1000 = key % 0x1000 := by
  unfold State.winKey windowStep
  split
  · omega
  · rfl

/-- An error record changes PG_ERR_INFO, PG_ERR_ADDR and PG_IRQ_RAW of its page only. -/
theorem State.reg_err_other {s : State} {p code addr k : Nat} {who : Option Initiator} (h10 : k ≠ p * 0x1000 + 0x10)
    (h20 : k ≠ p * 0x1000 + 0x20) (h24 : k ≠ p * 0x1000 + 0x24) : (s.err p code who addr).reg k = s.reg k := by
  have setF (t : State) (f : Fld) (v : Nat) (hf : f.hi < 32) (hk : k ≠ f.key) : (t.setF f v).reg k = t.reg k := by
    unfold State.setF
    rw [if_pos hf]
    exact State.reg_setReg_other hk
  unfold State.err
  split
  · exact setF s _ _ (by decide : 15 < 32) h20
  · exact (setF _ _ _ (by decide : 31 < 32) h10).trans ((State.reg_setReg_other h24).trans (State.reg_setReg_other h20))

theorem findReg_of_regAt_header {key w : Nat} {r : RegDef} (hr : regAt key = some (r, w)) (ho : plainKey key % 0x1000 < 0x040) :
    findReg (headerRegs (plainKey key / 0x1000)) (plainKey key % 0x1000) = some (r, w) := by
  unfold regAt at hr
  dsimp only at hr
  split at hr
  · exact hr
  · cases hr

/-- No header register into which an error record writes has a field that LOCK keeps. -/
theorem headerRegs_rwl (p : Nat) : ∀ off ∈ [0x10, 0x20, 0x24],
    (findReg (headerRegs p) off).all (fun x => x.1.fields.all fun f => f.acc != .rwl) = true := by
  simp [headerRegs, findReg, RegDef.locate]

theorem accessMask_rwl_of_errorRegister {key w : Nat} {r : RegDef} (hr : regAt key = some (r, w))
    (ho : plainKey key % 0x1000 ∈ [0x10, 0x20, 0x24]) : accessMask 0 (· == .rwl) r.fields = 0 := by
  have hlt : ∀ off ∈ [0x10, 0x20, 0x24], off < 0x040 := by decide
  have h := headerRegs_rwl (plainKey key / 0x1000) _ ho
  rw [findReg_of_regAt_header hr (hlt _ ho), Option.all_some, List.all_eq_true] at h
  exact accessMask_eq_zero fun f hf => by simpa [bne, beq_eq_decide] using h f hf

/-- The word that a write of a one-word register leaves there; an error record of it lies elsewhere. -/
theorem State.reg_commitWords_single {s : State} {who : Initiator} {key v own : Nat} {r : RegDef} (hkey : plainKey key = key)
    (hr : regAt key = some (r, 0)) :
    (s.commitWords who key key 0 own r.fields [v] false).reg (s.winKey key) = BitVec.ofNat 32 (s.mergeWord key 0 v own r.fields).1 := by
  show (if (false || (s.mergeWord key 0 v own r.fields).2) = true
    then (s.setReg (s.winKey key) (BitVec.ofNat 32 (s.mergeWord key 0 v own r.fields).1)).accessErr 0x01 who key
    else s.setReg (s.winKey key) (BitVec.ofNat 32 (s.mergeWord key 0 v own r.fields).1)).reg (s.winKey key) = _
  split
  · next hl =>
    have hoff : plainKey key % 0x1000 ∉ [0x10, 0x20, 0x24] := fun ho => by
      simp [State.mergeWord, accessMask_rwl_of_errorRegister hr ho] at hl
    have hwin := s.winKey_offset key
    simp only [hkey, List.mem_cons, List.not_mem_nil, or_false, not_or] at hoff
    unfold State.accessErr
    rw [State.reg_err_other (by omega) (by omega) (by omega), State.reg_setReg_same]
  · exact State.reg_setReg_same

/-- REGISTER_WRITE of a one-word register that passes the gate. -/
theorem State.writeWord_single {s : State} {who : Initiator} {key v own : Nat} {r : RegDef} (hr : regAt key = some (r, 0))
    (hw : r.words = 1) (hro : (r.fields.all fun f => f.acc == .ro) = false)
    (hok : s.refuseWrite who key (s.checkValue key own r.fields 0 [v]) = none) :
    s.writeWord who key v own = (s.commitWords who key key 0 own r.fields [v] false).afterWrite key := by
  simp [State.writeWord, State.writeReg, hr, hw, hro, hok]

/-- A register of read-only fields refuses a write. -/
theorem State.writeWord_readOnly {s : State} {who : Initiator} {key v own w : Nat} {r : RegDef} (hr : regAt key = some (r, w))
    (hro : (r.fields.all fun f => f.acc == .ro) = true) : s.writeWord who key v own = s.accessErr 0x02 who key := by
  simp [State.writeWord, hr, hro]

/-! ## The read of one word with RC fields (R41, R43) -/

theorem State.readWord_single {s : State} {who : Initiator} {key : Nat} {r : RegDef} (hr : regAt key = some (r, 0)) (hw : r.words = 1)
    (hf : fifoOf key = none) (hv : s.view key = none) : s.readWord who key = ((s.reg (s.winKey key)).toNat, s.clearRc key) := by
  simp [State.readWord, State.liveWord, hr, hw, hf, hv]

theorem State.clearRc_only (s : State) (key : Nat) : s.clearRc key = { s with regs := (s.clearRc key).regs } := by
  unfold State.clearRc
  split
  · dsimp only
    split <;> rfl
  · rfl

theorem State.reg_clearRc_other {s : State} {key k : Nat} (h : k ≠ s.winKey key) : (s.clearRc key).reg k = s.reg k := by
  unfold State.clearRc
  split
  · dsimp only
    split
    · rfl
    · exact State.reg_setReg_other h
  · rfl

theorem State.getLsbD_clearRc {s : State} {key w i : Nat} {r : RegDef} (hr : regAt key = some (r, w)) (hi : i < 32) :
    ((s.clearRc key).reg (s.winKey key)).getLsbD i =
      ((s.reg (s.winKey key)).getLsbD i && !(accessMask w (· == .rc) r.fields).testBit i) := by
  unfold State.clearRc
  rw [hr]
  dsimp only
  split
  · next h0 => simp [h0]
  · rw [State.reg_setReg_same, getLsbD_clear _ _ hi]

/-- Settles O5: a bit that one field alone holds lies in the mask of that field's access type only, which decides what a write leaves of it;
an error record of the write lies in other registers. -/
theorem registerAccessTypes : Obligations.RegisterAccessTypes := by
  refine ⟨⟨?_, ?_, ?_, ?_⟩, ?_⟩
  · exact fun s who key write k sub h => State.gate_of_passes h
  · intro who page word sub v s0 r key s hp hr hw hro hok hafter
    set t := (s.commitWords who key key 0 (allBits - ownedMask key) r.fields [v.toNat % 2 ^ 32] false).afterWrite key
    have hwrite : s0.writeAccess who key 0 .word v.toNat (fun k => allBits - ownedMask k) = t.respond 0 false := by
      rw [State.writeAccess_word hp, State.writeWord_single hr hw hro hok]
    refine ⟨_, congrArg Host.Outcome.next hwrite, fun i f hi hf hlo hhi hu hown => ?_⟩
    have hreg : (t.respond 0 false).reg (s.winKey key) =
        BitVec.ofNat 32 (s.mergeWord key 0 (v.toNat % 2 ^ 32) (allBits - ownedMask key) r.fields).1 :=
      (congrArg (Assoc.get resetWord · _) (hafter _)).trans (State.reg_commitWords_single (plainKey_wordKey page word) hr)
    have hbit : (v.toNat % 2 ^ 32).testBit i = v.getLsbD i := by
      rw [Nat.testBit_mod_two_pow, BitVec.testBit_toNat]
      simp [hi]
    rw [hreg, BitVec.getLsbD_ofNat, State.testBit_mergeWord s hi hown]
    simp only [testBit_accessMask_of_unique _ hi hf hlo hhi hu, hbit, hi]
    cases f.acc <;> cases s.flag (F.PG_CTRL_LOCK (plainKey key / 0x1000)) <;> simp [beq_eq_decide]
  · intro who page word sub v s r w key hp hr hro
    show Host.Outcome.next (s.writeAccess who key 0 .word v.toNat _) = _
    rw [State.writeAccess_word hp, State.writeWord_readOnly hr hro]
  · rintro who page word sub size v s key (rfl | rfl) hp <;> exact congrArg Host.Outcome.next (State.gate_of_passes hp)
  · intro who page word sub s0 r key s m hp hr hw hf hv
    have hread : s0.readAccess who key 0 .word = (s.clearRc key).respond (s.reg (s.winKey key)).toNat false := by
      rw [State.readAccess_word hp, State.readWord_single hr hw hf hv]
    refine ⟨_, congrArg Host.Outcome.next hread, rfl, fun i hi => State.getLsbD_clearRc hr hi, fun k hk => State.reg_clearRc_other hk, ?_⟩
    rw [State.clearRc_only]
    rfl

end Sys2Proof.Machine
end

section
/-! A wide write takes effect with its highest word (R48); the state in which an access is carried out differs from the one it finds at most
in which clocks run (R39). -/
namespace Sys2Proof.Machine

/-! ## Write buffers (R48) -/

theorem KeepsPorts.wrBuf {s t : State} (h : KeepsPorts s t) (who : Initiator) (base : Nat) : t.wrBuf who base = s.wrBuf who base := by
  unfold State.wrBuf
  rw [h.wrBufs]

@[simp] theorem State.wrBuf_setWrBuf_same (s : State) (who : Initiator) (base : Nat) (words : List (Nat × Word)) :
    (s.setWrBuf who base words).wrBuf who base = words := by
  have hrest (l : List WriteBuffer) : (l.filter fun b => b.base != base).find? (·.base == base) = none :=
    List.find?_eq_none.2 fun b hb => by simpa using (List.mem_filter.1 hb).2
  unfold State.wrBuf State.setWrBuf
  dsimp only
  rw [Assoc.get_put_same]
  cases words with
  | nil => simp [hrest]
  | cons e l => simp

theorem State.wrBuf_setWrBuf_other (s : State) (who : Initiator) {base other : Nat} (words : List (Nat × Word)) (h : other ≠ base) :
    (s.setWrBuf who base words).wrBuf who other = s.wrBuf who other := by
  have hrest (l : List WriteBuffer) : (l.filter fun b => b.base != base).find? (·.base == other) = l.find? (·.base == other) := by
    rw [List.find?_filter]
    congr 1
    funext b
    by_cases hb : b.base = other <;> simp [hb, h]
  unfold State.wrBuf State.setWrBuf
  dsimp only
  rw [Assoc.get_put_same]
  cases words <;> simp [hrest, h.symm]

/-! ## The state in which an access is carried out (R39) -/

/-- `t` is `s` with other running clocks: the power state stays, and of the registers at most the count of starts changes. -/
def ClocksOnly (s t : State) : Prop :=
  ∃ p : PwrSt, p.state = s.pwr.state ∧ (t = { s with pwr := p } ∨ t = { s with pwr := p }.bump F.CLK_STARTS_COUNT)

theorem State.clockRequest_clocksOnly (s : State) (cores : Bool) : ClocksOnly s (s.clockRequest cores) := by
  have h (p : PwrSt) (on : Bool) (hp : p.state = s.pwr.state) :
      ClocksOnly s (if on then { s with pwr := p } else { s with pwr := p }.bump F.CLK_STARTS_COUNT) := by
    split
    · exact ⟨p, hp, .inl rfl⟩
    · exact ⟨p, hp, .inr rfl⟩
  unfold State.clockRequest
  dsimp only
  split
  · exact ⟨s.pwr, rfl, .inl rfl⟩
  · split
    · exact h _ _ rfl
    · exact h _ _ rfl

theorem State.entered_clocksOnly (s : State) (key : Nat) : ClocksOnly s (s.entered key) := by
  have self : ClocksOnly s s := ⟨s.pwr, rfl, .inl rfl⟩
  unfold State.entered
  split
  · unfold State.clockHold
    split
    · exact self
    · split
      · exact s.clockRequest_clocksOnly false
      · split
        · exact ⟨{ s.pwr with radioUntil := Assoc.put (fun _ => 0) s.pwr.radioUntil (plainKey key / 0x1000 - 0x0B1) s.now }, rfl, .inr rfl⟩
        · exact ⟨s.pwr, rfl, .inr rfl⟩
  · exact self

/-- What an access has to pass does not depend on whether its register's clock runs. -/
theorem State.passes_congr {s t : State} (hr : t.rst = s.rst) (hp : t.pwr.state = s.pwr.state) (hu : t.pcieUp = s.pcieUp)
    (who : Initiator) (key : Nat) (write : Bool) : t.passes who key write = s.passes who key write := by
  unfold State.passes State.reaches State.pagePowered State.pageInReset State.hostMay State.tapNow State.lifeCycle State.planeIn
  rw [hr, hp, hu]

theorem State.passes_entered (s : State) (key : Nat) (who : Initiator) (k : Nat) (write : Bool) :
    (s.entered key).passes who k write = s.passes who k write := by
  have flag (t : State) (f : Fld) (hf : f.hi < 32) (hk : f.key ≠ 0x1050) : (t.bump F.CLK_STARTS_COUNT).flag f = t.flag f :=
    congrArg (· == 1) (State.getF_setF_otherWord (f := F.CLK_STARTS_COUNT) (by decide) hf hk)
  obtain ⟨p, hp, h | h⟩ := s.entered_clocksOnly key
  · rw [h]
    refine State.passes_congr (s := s) (t := { s with pwr := p }) rfl hp ?_ who k write
    unfold State.pcieUp
    rw [hp]
    rfl
  · have hs : ({ s with pwr := p }.bump F.CLK_STARTS_COUNT).pwr = p := State.setF_pwr ..
    have hr : ({ s with pwr := p }.bump F.CLK_STARTS_COUNT).rst = s.rst := State.setF_rst ..
    rw [h]
    refine State.passes_congr hr (by rw [hs, hp]) ?_ who k write
    unfold State.pcieUp
    rw [hs, hr, hp, flag _ _ (by decide) (by decide), flag _ _ (by decide) (by decide)]
    rfl

/-! ## A value of two words that one RW field fills -/

theorem and_allBits {v : Nat} (hv : v < 2 ^ 32) : v &&& allBits = v := Nat.and_two_pow_sub_one_of_lt_two_pow hv

/-- A RW field of 64 bits holds every bit of both words, and no other access type holds one. -/
theorem accessMask_rw64 {f : FieldDef} (ha : f.acc = .rw) (hl : f.lo = 0) (hh : f.hi = 63) {w : Nat} (hw : w < 2) (p : Access → Bool) :
    accessMask w p [f] = if p .rw then allBits else 0 := by
  obtain rfl | rfl : w = 0 ∨ w = 1 := by omega
  all_goals simp [accessMask, ha, hl, hh, allBits]

/-- A write of all bits of such a word leaves the word written, and LOCK keeps nothing out. -/
theorem State.mergeWord_rw64 (s : State) {f : FieldDef} (ha : f.acc = .rw) (hl : f.lo = 0) (hh : f.hi = 63) {w v : Nat} (hw : w < 2)
    (hv : v < 2 ^ 32) (key : Nat) : s.mergeWord key w v allBits [f] = (v, false) := by
  unfold State.mergeWord
  simp only [accessMask_rw64 ha hl hh hw, beq_self_eq_true, if_true]
  simp [beq_eq_decide, and_allBits hv]

theorem State.checkValue_rw64 (s : State) {f : FieldDef} (ha : f.acc = .rw) (hl : f.lo = 0) (hh : f.hi = 63) {lo hi : Nat}
    (hlo : lo < 2 ^ 32) (hhi : hi < 2 ^ 32) (key : Nat) : s.checkValue key allBits [f] 0 [lo, hi] = lo + 2 ^ 32 * hi := by
  simp only [State.checkValue, s.mergeWord_rw64 ha hl hh (w := 0) (by decide) hlo, s.mergeWord_rw64 ha hl hh (w := 1) (by decide) hhi,
    accessMask_rw64 ha hl hh (w := 0) (by decide), accessMask_rw64 ha hl hh (w := 1) (by decide)]
  simp [beq_eq_decide, and_allBits hlo, and_allBits hhi]

theorem State.commitWords_rw64 (s : State) {f : FieldDef} (ha : f.acc = .rw) (hl : f.lo = 0) (hh : f.hi = 63) {lo hi : Nat}
    (hlo : lo < 2 ^ 32) (hhi : hi < 2 ^ 32) (who : Initiator) {key at_ : Nat}
    (hwin : ∀ x : State, x.winKey key = key ∧ x.winKey (key + 4) = key + 4) :
    s.commitWords who key at_ 0 allBits [f] [lo, hi] false = (s.setReg key (BitVec.ofNat 32 lo)).setReg (key + 4) (BitVec.ofNat 32 hi) := by
  simp only [State.commitWords, State.mergeWord_rw64 _ ha hl hh (w := 0) (by decide) hlo,
    State.mergeWord_rw64 _ ha hl hh (w := 0 + 1) (by decide) hhi]
  simp [hwin]

/-- A write of both words that no rule refuses stores both. -/
theorem State.writeReg_rw64 {s : State} {r : RegDef} {f : FieldDef} (hfs : r.fields = [f]) (ha : f.acc = .rw) (hl : f.lo = 0)
    (hh : f.hi = 63) {lo hi : Nat} (hlo : lo < 2 ^ 32) (hhi : hi < 2 ^ 32) {who : Initiator} {key at_ : Nat}
    (hwin : ∀ x : State, x.winKey key = key ∧ x.winKey (key + 4) = key + 4) (hok : s.refuseWrite who key (lo + 2 ^ 32 * hi) = none) :
    s.writeReg who key at_ allBits r [lo, hi] =
      ((s.setReg key (BitVec.ofNat 32 lo)).setReg (key + 4) (BitVec.ofNat 32 hi)).afterWrite key := by
  unfold State.writeReg
  rw [hfs, State.checkValue_rw64 _ ha hl hh hlo hhi, State.commitWords_rw64 _ ha hl hh hlo hhi who hwin]
  dsimp only
  rw [hok]

/-- The low word of such a value waits in the writer's buffer. -/
theorem State.writeWord_low {s : State} {who : Initiator} {key v own : Nat} {r : RegDef} (hr : regAt key = some (r, 0)) (hw : 1 < r.words)
    (hro : (r.fields.all fun f => f.acc == .ro) = false) :
    s.writeWord who key v own = s.setWrBuf who key ((0, BitVec.ofNat 32 v) :: (s.wrBuf who key).filter (fun e => e.1 != 0)) := by
  simp [State.writeWord, hr, hro, hw, Nat.ne_of_gt hw]

/-- The high word of a value of two words is written with the low word that waits. -/
theorem State.writeWord_high {s : State} {who : Initiator} {key v own : Nat} {r : RegDef} {lo : Word} {rest : List (Nat × Word)}
    (hr : regAt (key + 4) = some (r, 1)) (hw : r.words = 2) (hro : (r.fields.all fun f => f.acc == .ro) = false)
    (hb : s.wrBuf who key = (0, lo) :: rest) :
    s.writeWord who (key + 4) v own = (s.setWrBuf who key []).writeReg who key (key + 4) own r [lo.toNat, v] := by
  simp [State.writeWord, hr, hro, hw, hb, List.range_succ]

theorem ofNat_mod_word (v : Nat) : BitVec.ofNat 32 (v % 2 ^ 32) = BitVec.ofNat 32 v := BitVec.eq_of_toNat_eq (by simp)

/-- Settles O8: the low word waits in the buffer, and the high word finds it there and commits both. -/
theorem wideWriteCommits : Obligations.WideWriteCommits := by
  intro who page word lo hi s r f key pair hr0 hr1 hw hfs ha hl hh hword ho0 ho1 hafter hwin hp0 hp1 hok
  have hro : (r.fields.all fun f => f.acc == .ro) = false := by simp [hfs, ha, beq_eq_decide]
  have hlo : lo.toNat % 2 ^ 32 < 2 ^ 32 := Nat.mod_lt _ (by decide)
  have hhi : hi.toNat % 2 ^ 32 < 2 ^ 32 := Nat.mod_lt _ (by decide)
  set x := s.entered key with hx
  set s1 := (x.setWrBuf who key ((0, BitVec.ofNat 32 (lo.toNat % 2 ^ 32)) :: (x.wrBuf who key).filter (fun e => e.1 != 0))).respond 0 false
  have first : s.writeAccess who key 0 .word lo.toNat (fun k => allBits - ownedMask k) = s1 := by
    rw [State.writeAccess_word hp0, State.writeWord_low hr0 (by omega) hro]
  refine ⟨s1, congrArg Host.Outcome.next first, rfl, ?_⟩
  set y := s1.entered (key + 4)
  have hp : s1.passes who (key + 4) true = true := by
    have h : s1.passes who (key + 4) true = x.passes who (key + 4) true := State.passes_congr rfl rfl rfl who (key + 4) true
    rw [h, hx, State.passes_entered, hp1]
  have hbuf : y.wrBuf who key = (0, BitVec.ofNat 32 (lo.toNat % 2 ^ 32)) :: (x.wrBuf who key).filter (fun e => e.1 != 0) :=
    ((KeepsPorts.entered ..).wrBuf who key).trans (x.wrBuf_setWrBuf_same who key _)
  set z := y.setWrBuf who key [] with hz
  set u := (z.setReg key (BitVec.ofNat 32 (lo.toNat % 2 ^ 32))).setReg (key + 4) (BitVec.ofNat 32 (hi.toNat % 2 ^ 32)) with hu
  have second : s1.writeAccess who (key + 4) 0 .word hi.toNat (fun k => allBits - ownedMask k) = (u.afterWrite key).respond 0 false := by
    rw [State.writeAccess_word hp, State.writeWord_high hr1 hw hro hbuf, ho1, Nat.sub_zero, BitVec.toNat_ofNat, Nat.mod_mod,
      State.writeReg_rw64 hfs ha hl hh hlo hhi hwin (hok z)]
  have hregs (k : Nat) : ((u.afterWrite key).respond 0 false).reg k = u.reg k := congrArg (Assoc.get resetWord · k) (hafter u)
  have hports : KeepsPorts z ((u.afterWrite key).respond 0 false) :=
    ((KeepsPorts.setReg ..).trans (KeepsPorts.setReg ..)).trans ((KeepsPorts.afterWrite ..).trans (KeepsPorts.respond ..))
  refine ⟨(u.afterWrite key).respond 0 false, ?_, ?_, ?_, ?_, ?_, ?_⟩
  · rw [← second, ← wordKey_succ page.val hword]
    rfl
  · rw [hregs, hu, State.reg_setReg_other (by omega), State.reg_setReg_same, ofNat_mod_word]
  · rw [hregs, hu, State.reg_setReg_same, ofNat_mod_word]
  · rw [hports.wrBuf, hz, State.wrBuf_setWrBuf_same]
  · intro base hne
    calc ((u.afterWrite key).respond 0 false).wrBuf who base
      _ = z.wrBuf who base := hports.wrBuf who base
      _ = y.wrBuf who base := y.wrBuf_setWrBuf_other who [] hne
      _ = s1.wrBuf who base := (KeepsPorts.entered ..).wrBuf who base
      _ = x.wrBuf who base := x.wrBuf_setWrBuf_other who _ hne
      _ = s.wrBuf who base := (KeepsPorts.entered ..).wrBuf who base
  · intro k h0 h4
    rw [hregs, hu, State.reg_setReg_other h4, State.reg_setReg_other h0]
    rfl

end Sys2Proof.Machine
end

section
/-! Accesses that reach no register, accesses that are denied, and MSI-X (R29 to R32, R50, R53, R54). -/

namespace Sys2Proof.Machine

/-! ## Offsets without a register (R32) -/

/-- Every word of every log is a word of a register. -/
theorem regAt_isSome_of_fifoRegs : ∀ f ∈ fifoRegs, 4 ∣ f.1 ∧ 4 ∣ f.2.2.1 ∧
    ∀ i < f.2.1, ∀ w < f.2.2.2.1, (regAt (f.1 + f.2.2.1 * i + 4 * w)).isSome = true := by decide

theorem fifoOf_eq_none {key : Nat} (h4 : 4 ∣ key) (h : regAt key = none) : fifoOf key = none := by
  have outside (f : Nat × Nat × Nat × Nat × Nat) (hf : f ∈ fifoRegs) (i j : Nat) (hi : i < f.2.1) (hj : j < 4 * f.2.2.2.1) :
      key ≠ f.1 + f.2.2.1 * i + j := by
    rintro rfl
    obtain ⟨hbase, hstride, hreg⟩ := regAt_isSome_of_fifoRegs f hf
    obtain ⟨w, rfl⟩ : 4 ∣ j := (Nat.dvd_add_right (Nat.dvd_add hbase (hstride.mul_right i))).1 h4
    exact absurd (hreg i hi w (by omega)) (by simp [h])
  unfold fifoOf
  dsimp only
  split
  · next f heq =>
    have hf := List.mem_of_find?_eq_some heq
    have hin := List.find?_some heq
    simp only [Bool.or_eq_true, Bool.and_eq_true, decide_eq_true_eq] at hin
    rcases hin with ⟨⟨hle, hi⟩, hj⟩ | ⟨⟨hle, hi⟩, hj⟩
    · refine absurd ?_ (outside f hf _ _ hi hj)
      rw [Nat.add_assoc, Nat.div_add_mod]
      omega
    · exact absurd (by omega) (outside f hf 0 (key - f.1) (by omega) hj)
  · rfl

theorem State.writeWord_of_no_register {key : Nat} (h : regAt key = none) (s : State) (who : Initiator) (v own : Nat) :
    s.writeWord who key v own = s := by
  simp [State.writeWord, h]

theorem State.readWord_of_no_register {key : Nat} (h4 : 4 ∣ key) (h : regAt key = none) (s : State) (who : Initiator) :
    s.readWord who key = (0, s) := by
  simp [State.readWord, h, fifoOf_eq_none h4 h]

/-- Settles O6: an access that passes the gate finds no register and no log, and one to an unassigned page is turned away there. -/
theorem undefinedOffsetsIgnored : Obligations.UndefinedOffsetsIgnored := by
  refine ⟨?_, ?_⟩
  · intro who page word v s key _ hr
    have h4 : 4 ∣ key := by
      unfold key wordKey
      omega
    refine ⟨fun hp => ?_, fun hp => ?_⟩
    · show Host.Outcome.next (s.writeAccess who key 0 .word v.toNat _) = _
      rw [State.writeAccess_word hp, State.writeWord_of_no_register hr]
    · show Host.Outcome.next (s.readAccess who key 0 .word) = _
      rw [State.readAccess_word hp, State.readWord_of_no_register h4 hr]
  · intro who page word v s key t hp hr hh
    have hpage : pageAssigned (plainKey key / 0x1000) = false := by rw [plainKey_wordKey, wordKey_page, hp]
    have gate (write : Bool) (k : State → State) : s.gate who key write k 0 = t := by
      rw [State.gate_of_unassigned hr hh hpage, regAddr, plainKey_wordKey]
      rfl
    exact ⟨congrArg Host.Outcome.next (gate true _), congrArg Host.Outcome.next (gate false _)⟩

/-! ## Decode errors and denied accesses (R29, R31, R53, R54) -/

/-- Whoever accesses an address where no region is, or writes the boot ROM or the flash window, meets a decode error. -/
theorem exec_unmappedAccess_decodeError {who : Initiator} {addr : DWord} {size : AccessSize} {write : Bool} {v : DWord} {s : State}
    (hr : s.reaches who = true) (hh : s.rst.held = false)
    (ha : s.region (addr.toNat / accessBytes size * accessBytes size) = .unmapped ∨
      ((s.region (addr.toNat / accessBytes size * accessBytes size) = .rom ∨
        s.region (addr.toNat / accessBytes size * accessBytes size) = .flash) ∧ write = true)) :
    exec (.unmappedAccess who addr size write v) s =
      .next (s.decodeError who (addr.toNat / accessBytes size * accessBytes size)) := by
  show execUnmappedAccess who addr size write v s = _
  unfold execUnmappedAccess
  generalize addr.toNat / accessBytes size * accessBytes size = a at ha ⊢
  rcases ha with ha | ⟨ha | ha, rfl⟩
  · cases write <;> simp [State.memRead, State.memWrite, hr, hh, ha]
  · simp [State.memWrite, hr, hh, ha]
  · simp [State.memWrite, hr, hh, ha]

/-- A stop request of the host that R53 or R54 denies leaves the stop plane. -/
theorem State.command_poppy_of_denied {s : State} (k : State → State) (hr : s.reaches .host = true) (hh : s.rst.held = false)
    (hd : s.hostMay 0x0C0 0x050 true = false) : (s.command .host 0xC0050 k).poppy = s.poppy := by
  unfold State.command
  rw [State.gate_of_denied (key := 0xC0050) hr hh (by decide) hd]
  simp

/-- Settles O9: no region answers the unmapped access, and the gate turns the denied ones away. -/
theorem deniedAccesses : Obligations.DeniedAccesses := by
  refine ⟨?_, ?_, ?_⟩
  · intro who addr size write v s a hr hh ha
    exact ⟨exec_unmappedAccess_decodeError hr hh ha, State.err_mem ..⟩
  · intro page word v s key hr hh hp hd
    have hgate : s.writeAccess .host key 0 .word v.toNat (fun k => allBits - ownedMask k) =
        (s.err (if s.pagePowered page.val then page.val else 0x000) 0x04 (some .host) (0x40000000 + key)).respond 0 false := by
      unfold State.writeAccess
      rw [State.gate_of_denied hr hh (by rwa [plainKey_wordKey, wordKey_page]) (by rwa [plainKey_wordKey, wordKey_page, wordKey_offset]),
        regAddr, plainKey_wordKey, wordKey_page]
      rfl
    exact ⟨_, congrArg Host.Outcome.next hgate, rfl, State.err_poppy .., State.err_mem .., State.err_keys ..⟩
  · intro detail s hr hh hd
    exact ⟨⟨_, rfl, State.command_poppy_of_denied _ hr hh hd⟩, ⟨_, rfl, State.command_poppy_of_denied _ hr hh hd⟩⟩

/-! ## MSI-X (R50) -/


theorem State.msixEdge_of_open {s : State} {v : Nat} (h : Assoc.get (fun _ => false) s.msixOpen v = true) :
    s.msixEdge v = s.msixSend v := if_pos h

theorem State.msixEdge_of_masked {s : State} {v : Nat} (h : Assoc.get (fun _ => false) s.msixOpen v = false) :
    s.msixEdge v = { s with msixPend := Assoc.put (fun _ => false) s.msixPend v true } := if_neg (by simp [h])

/-- The summary line of a powered page that is mapped to vector `v`, while no jump is caught up with: the edge reaches the vector. -/
theorem State.schedTake_edge_msix {s : State} {p : Nat} (he : s.flag (F.SCHED_IRQMAP_EN.win p) = true)
    (hm : s.flag (F.SCHED_IRQMAP_MSIX.win p) = true) (hc : s.time.catchFrom = none) :
    s.schedTake (.edge p) = s.msixEdge (s.getF (F.SCHED_IRQMAP_TARGET.win p)) := by
  simp [State.schedTake, State.schedDo, State.lineEdge, he, hm, hc]

/-- The line of a page as its summary line command leaves it. -/
def State.lineSignalled (s : State) (p : Nat) : State := { s with lines := Assoc.put (fun _ => false) s.lines p (s.lineLevel p) }

@[simp] theorem State.lineSignalled_line (s : State) (p : Nat) : (s.lineSignalled p).line p = s.lineLevel p := Assoc.get_put_same

/-- The summary line of a page that is assigned and powered: the line follows its level, and a rising edge is signalled (R49). -/
theorem exec_summaryLine {page : Fin 4096} {s : State} (ha : pageAssigned page.val = true) (hp : s.pagePowered page.val = true)
    (hs : s.pagePowered 0x020 = true) :
    exec (.summaryLine page) s = .next (if s.lineLevel page.val && !s.line page.val then (s.lineSignalled page.val).schedTake (.edge page.val)
      else s.lineSignalled page.val) := by
  show execSummaryLine page s = _
  simp [execSummaryLine, ha, hp, hs, State.lineSignalled]

theorem bitAt_eq_getLsbD (v : Word) : bitAt v.toNat 0 = v.getLsbD 0 := by
  simp [bitAt, BitVec.getLsbD, Nat.testBit_eq_decide_div_mod_eq, beq_eq_decide]

/-- The host writes a word of BAR4's vector table. -/
theorem exec_msixUnmask_write {word : Fin 2048} {value : Word} {s : State} (hr : s.reaches .host = true) (hh : s.rst.held = false)
    (hw : word.val < 256) :
    exec (.msixUnmask word (some value)) s = .next (if word.val % 4 = 3 then (s.respond 0 false).msixMask (word.val / 4) (bitAt value.toNat 0)
      else { s.respond 0 false with
        msixMsg := Assoc.put (fun _ => 0) s.msixMsg word.val (if word.val % 4 = 0 then value &&& 0xFFFFFFFC else value) }) := by
  show execMsixUnmask word (some value) s = _
  simp [execMsixUnmask, hr, hh, Nat.not_le.2 hw]

/-- Settles O11: an edge, or an unmasking, reaches the vector that the page names, and the vector's mask decides between a message and its
pending bit. -/
theorem msixMessages : Obligations.MsixMessages := by
  refine ⟨?_, ?_, ?_, ?_, ?_⟩
  · intro page s v ha hp hs he hm hc
    refine ⟨_, exec_summaryLine ha hp hs, ?_⟩
    cases hedge : s.lineLevel page.val && !s.line page.val with
    | false => exact ⟨State.lineSignalled_line .., ⟨rfl, rfl⟩, rfl⟩
    | true =>
      have take : (s.lineSignalled page.val).schedTake (.edge page.val) = (s.lineSignalled page.val).msixEdge v :=
        State.schedTake_edge_msix he hm hc
      simp only [if_true]
      rw [take]
      cases ho : Assoc.get (fun _ => false) s.msixOpen v with
      | true =>
        rw [State.msixEdge_of_open (s := s.lineSignalled page.val) ho]
        exact ⟨State.lineSignalled_line .., ⟨⟨_, _, rfl⟩, rfl⟩, rfl⟩
      | false =>
        rw [State.msixEdge_of_masked (s := s.lineSignalled page.val) ho]
        exact ⟨State.lineSignalled_line .., ⟨rfl, Assoc.get_put_same⟩, rfl⟩
  · intro page s ha hp hs hc
    refine ⟨_, exec_summaryLine ha hp hs, ?_⟩
    cases s.lineLevel page.val && !s.line page.val with
    | false => exact ⟨State.lineSignalled_line .., (List.append_nil _).symm, rfl⟩
    | true =>
      simp only [if_true]
      have h : (s.lineSignalled page.val).schedTake (.edge page.val) = _ := if_pos hc
      rw [h]
      exact ⟨State.lineSignalled_line .., rfl, rfl⟩
  · intro vector word value s hw hr hh
    refine ⟨_, exec_msixUnmask_write hr hh (by omega), ?_⟩
    rw [if_pos (by omega), show word.val / 4 = vector.val by omega, bitAt_eq_getLsbD]
    unfold State.msixMask
    cases hu : !value.getLsbD 0 && Assoc.get (fun _ => false) s.msixPend vector.val with
    | false =>
      simp only [State.respond_msixPend, hu, Bool.false_eq_true, if_false]
      exact ⟨Assoc.get_put_same, ⟨rfl, trivial⟩, rfl⟩
    | true =>
      simp only [State.respond_msixPend, hu, if_true]
      exact ⟨Assoc.get_put_same, ⟨⟨_, _, rfl⟩, Assoc.get_put_same⟩, rfl⟩
  · intro word s hr hh
    show execMsixUnmask word none s = _
    simp [execMsixUnmask, hr, hh]
  · intro word value s hr hh hw hm
    refine ⟨_, exec_msixUnmask_write hr hh hw, ?_⟩
    rw [if_neg hm]
    exact ⟨Assoc.get_put_same, fun w h => Assoc.get_put_other h, rfl⟩

end Sys2Proof.Machine
end

section
/-! Registers and fields under the named updates: which word a write reaches, fields of two words, events, and writes of the low field of a
register (R37, R41, R46). -/

namespace Sys2Proof.Machine

/-! ## The words that a field's write reaches -/

theorem State.setF_only (s : State) (f : Fld) (v : Nat) : s.setF f v = { s with regs := (s.setF f v).regs } := by
  unfold State.setF
  split
  · rfl
  · split <;> rfl

theorem State.reg_setF_other {s : State} {f : Fld} {v k : Nat} (hf : f.hi < 32) (h : k ≠ f.key) : (s.setF f v).reg k = s.reg k := by
  unfold State.setF
  rw [if_pos hf, State.reg_setReg_other h]

/-- A field of two words lies in the word of its key and the next one. -/
theorem State.reg_setF_otherWords {s : State} {f : Fld} {v k : Nat} (h0 : k ≠ f.key) (h4 : k ≠ f.key + 4) :
    (s.setF f v).reg k = s.reg k := by
  unfold State.setF
  split
  · exact State.reg_setReg_other h0
  · split
    · exact State.reg_setReg_other h4
    · exact (State.reg_setReg_other h4).trans (State.reg_setReg_other h0)

theorem State.getF_congr {s t : State} {f : Fld} (h0 : t.reg f.key = s.reg f.key) (h4 : t.reg (f.key + 4) = s.reg (f.key + 4)) :
    t.getF f = s.getF f := by
  unfold State.getF
  rw [h0, h4]

theorem State.getF_of_reg_eq {s t : State} {f : Fld} (hf : f.hi < 32) (h : t.reg f.key = s.reg f.key) : t.getF f = s.getF f := by
  unfold State.getF
  rw [if_pos hf, if_pos hf, h]

theorem State.getF_lt (s : State) {f : Fld} (h : f.lo ≤ f.hi) : s.getF f < 2 ^ f.width := by
  have hw (v hi lo : Nat) (e : hi + 1 - lo = f.width) : bitsOf v hi lo < 2 ^ f.width := e ▸ Nat.mod_lt _ (Nat.two_pow_pos _)
  unfold State.getF
  split
  · exact hw _ _ _ (by unfold Fld.width; omega)
  · split
    · exact hw _ _ _ (by unfold Fld.width; omega)
    · exact hw _ _ _ (by unfold Fld.width; omega)

theorem State.flag_setFlag_same {s : State} {f : Fld} {b : Bool} (h : f.lo = f.hi) (h32 : f.hi < 32) : (s.setFlag f b).flag f = b := by
  unfold State.flag State.setFlag
  rw [State.getF_setF_same (Nat.le_of_eq h) h32, Fld.width, h, Nat.sub_self]
  cases b <;> rfl

/-- A field that begins in one word and ends in the next reads as what was written to it. -/
theorem State.getF_setF_twoWords {s : State} {f : Fld} {v : Nat} (hl : f.lo < 32) (hh : 32 ≤ f.hi) (h64 : f.hi < 64) :
    (s.setF f v).getF f = v % 2 ^ f.width := by
  have hw : f.width = f.hi + 1 - f.lo := by unfold Fld.width; omega
  have h0 := (s.reg f.key).isLt
  have h4 := (s.reg (f.key + 4)).isLt
  have hlt := setBits_lt ((s.reg f.key).toNat + 2 ^ 32 * (s.reg (f.key + 4)).toNat) f.hi f.lo v 64 (by omega) h64 (by omega)
  unfold State.getF State.setF
  simp only [if_neg (Nat.not_lt.2 hh), if_neg (Nat.not_le.2 hl)]
  rw [State.reg_setReg_same, State.reg_setReg_other (by omega), State.reg_setReg_same, BitVec.toNat_ofNat, BitVec.toNat_ofNat, Nat.mod_mod,
    Nat.mod_eq_of_lt (b := 2 ^ 32) (Nat.div_lt_of_lt_mul hlt), Nat.mod_add_div, bitsOf_setBits_same _ _ _ _ (by omega), hw]

/-! ## Events (R37) -/

theorem State.event_eq_flag (s : State) {p b : Nat} (hb : b < 32) : s.event p b = s.flag ⟨p * 0x1000 + 0x10, b, b⟩ := by
  unfold State.event State.flag State.getF
  rw [if_pos hb, ← BitVec.testBit_toNat, Nat.testBit_eq_decide_div_mod_eq, bitsOf, Nat.add_sub_cancel_left, beq_eq_decide]
  rfl

theorem State.event_raise_same (s : State) (p : Nat) {b : Nat} (hb : b < 32) : (s.raise p b).event p b = true := by
  rw [State.event_eq_flag _ hb, State.flag, State.raise, State.getF_setF_same (Nat.le_refl _) hb]
  simp [Fld.width]

/-- No event bit falls when another one is raised. -/
theorem State.event_raise {s : State} {p b q c : Nat} (hb : b < 32) (h : s.event q c = true) : (s.raise p b).event q c = true := by
  have hc : c < 32 := by
    by_contra hc
    simp [State.event, BitVec.getLsbD_of_ge _ _ (Nat.not_lt.1 hc)] at h
  rw [State.event_eq_flag _ hc] at h ⊢
  by_cases hk : q * 0x1000 + 0x10 = p * 0x1000 + 0x10
  · by_cases hbc : c = b
    · subst hbc
      obtain rfl : q = p := by omega
      rw [← State.event_eq_flag _ hc]
      exact s.event_raise_same q hc
    · exact (congrArg (· == 1) (State.getF_setF_otherBits (g := ⟨q * 0x1000 + 0x10, c, c⟩) hb hc (Nat.le_refl _) (Nat.le_refl _) hk
        (by simp only; omega))).trans h
  · exact (congrArg (· == 1) (State.getF_setF_otherWord (g := ⟨q * 0x1000 + 0x10, c, c⟩) hb hc hk)).trans h

theorem State.event_of_reg_eq {s t : State} {p b : Nat} (h : t.reg (p * 0x1000 + 0x10) = s.reg (p * 0x1000 + 0x10)) :
    t.event p b = s.event p b := by
  unfold State.event
  rw [h]

/-! ## A row's write of the low field of its register (R41, R44) -/

/-- Replacing the low bits of a number. -/
theorem setBits_low (old n v : Nat) (hn : 0 < n) : setBits old (n - 1) 0 v = 2 ^ n * (old / 2 ^ n) + v % 2 ^ n := by
  rw [setBits_eq _ _ _ _ (Nat.zero_le _), Nat.sub_add_cancel hn, Nat.mul_comm]
  simp [Nat.mod_one]

/-- The low `n` bits of a register word are of fields that a write sets, RW or RW/L, and no other bit of the word acts on a write. -/
structure LowWritable (fs : List FieldDef) (n : Nat) : Prop where
  pos : 0 < n
  le : n ≤ 32
  rw : (accessMask 0 (· == .rw) fs ||| accessMask 0 (· == .rwl) fs) &&& (2 ^ n - 1) = 2 ^ n - 1
  w1c : accessMask 0 (· == .w1c) fs = 0
  w1s : accessMask 0 (· == .w1s) fs = 0
  wo : accessMask 0 (· == .wo) fs = 0

/-- LOCK keeps no bit of the word at `key` from a write: it is clear, or the register has no RW/L field. -/
def State.unlocked (s : State) (key : Nat) (fs : List FieldDef) : Prop :=
  s.flag (F.PG_CTRL_LOCK (plainKey key / 0x1000)) = false ∨ accessMask 0 (· == .rwl) fs = 0

/-- A write of the low bits of a register leaves the rest of the word, and LOCK keeps nothing out. -/
theorem State.mergeWord_low {s : State} {key n v : Nat} {fs : List FieldDef} (h : LowWritable fs n) (hlock : s.unlocked key fs) :
    s.mergeWord key 0 v (2 ^ n - 1) fs = (setBits (s.reg (s.winKey key)).toNat (n - 1) 0 v, false) := by
  have hn := h.pos
  have hn32 := h.le
  have hmask : 2 ^ n - 1 < 2 ^ 32 := Nat.lt_of_lt_of_le (Nat.sub_lt (Nat.two_pow_pos n) Nat.one_pos) (Nat.pow_le_pow_right (by decide) hn32)
  have hrw : ((accessMask 0 (· == .rw) fs &&& (2 ^ n - 1)) |||
      (if s.flag (F.PG_CTRL_LOCK (plainKey key / 0x1000)) then 0 else accessMask 0 (· == .rwl) fs &&& (2 ^ n - 1))) = 2 ^ n - 1 := by
    have hrw := h.rw
    rcases hlock with hl | hl
    · rw [hl, if_neg Bool.false_ne_true, ← Nat.and_or_distrib_right, hrw]
    · simpa [hl] using hrw
  have hmerge : ((s.reg (s.winKey key)).toNat &&& (allBits - (2 ^ n - 1))) ||| (v &&& (2 ^ n - 1)) =
      setBits (s.reg (s.winKey key)).toNat (n - 1) 0 v := by
    rw [setBits_low _ _ _ hn]
    refine Nat.eq_of_testBit_eq fun i => ?_
    rw [Nat.testBit_two_pow_mul_add _ (Nat.mod_lt _ (Nat.two_pow_pos n)), Nat.testBit_or, Nat.testBit_and, Nat.testBit_and,
      Nat.testBit_two_pow_sub_one, Nat.testBit_mod_two_pow, Nat.testBit_div_two_pow]
    by_cases hi : i < n
    · rw [testBit_allBits_sub hmask (by omega), Nat.testBit_two_pow_sub_one]
      simp [hi]
    · by_cases hi32 : i < 32
      · rw [testBit_allBits_sub hmask hi32, Nat.testBit_two_pow_sub_one]
        simp [hi, Nat.sub_add_cancel (Nat.not_lt.1 hi)]
      · have h0 : (s.reg (s.winKey key)).toNat.testBit i = false := by
          rw [BitVec.testBit_toNat, BitVec.getLsbD_of_ge _ _ (Nat.not_lt.1 hi32)]
        simp [hi, h0, Nat.sub_add_cancel (Nat.not_lt.1 hi)]
  have hlt := setBits_lt (s.reg (s.winKey key)).toNat (n - 1) 0 v 32 (Nat.zero_le _) (by omega) (s.reg (s.winKey key)).isLt
  unfold State.mergeWord
  dsimp only
  rw [hrw, h.w1c, h.w1s, hmerge]
  refine Prod.ext ?_ ?_
  · simp [and_allBits hlt]
  · rcases hlock with hl | hl <;> simp [hl]

theorem State.winKey_of_no_window {key : Nat} (h : (windows.find? fun w => decide (w.1 ≤ key) && decide (key ≤ w.2.1)) = none)
    (s : State) : s.winKey key = key := by
  unfold State.winKey
  rw [h]

/-- A row's write of the low bits of its register that no rule refuses sets the field there. -/
theorem State.rowWrite_low {s : State} {who : Initiator} {key n v : Nat} {r : RegDef} {k : State → State → State}
    (ho : s.opens who key true = true) (hr : regAt key = some (r, 0)) (hw : LowWritable r.fields n) (hlock : s.unlocked key r.fields)
    (hwin : s.winKey key = key) (hok : s.refuseWrite who key (setBits (s.reg key).toNat (n - 1) 0 v) = none) :
    s.rowWrite who key v (2 ^ n - 1) k = (k s (s.setF ⟨key, n - 1, 0⟩ v)).respond 0 false := by
  have hm : s.mergeWord (key + 4 * 0) 0 v (2 ^ n - 1) r.fields = (setBits (s.reg key).toNat (n - 1) 0 v, false) :=
    (State.mergeWord_low hw hlock).trans (by rw [hwin])
  have hn : n - 1 < 32 := by
    have := hw.pos
    have := hw.le
    omega
  have hlt := setBits_lt (s.reg key).toNat (n - 1) 0 v 32 (Nat.zero_le _) hn (s.reg key).isLt
  have hcheck : s.checkValue key (2 ^ n - 1) r.fields 0 [v] = setBits (s.reg key).toNat (n - 1) 0 v := by
    simp only [State.checkValue, hm, hw.wo]
    simp [and_allBits hlt]
  have hcommit : s.commitWords who key key 0 (2 ^ n - 1) r.fields [v] false = s.setF ⟨key, n - 1, 0⟩ v := by
    simp only [State.commitWords, hm, State.setF, if_pos hn]
    simp [hwin]
  unfold State.rowWrite
  rw [State.gate_of_opens ho, hr]
  dsimp only
  rw [hcheck, hok, hcommit]

/-! ## Refusals of the time registers (R99, R117, R118) -/

/-- The range rule is one of the register at `key`. -/
def RangeRule.covers (key : Nat) (r : RangeRule) : Bool :=
  decide (r.p0 ≤ plainKey key / 0x1000) && decide (plainKey key / 0x1000 ≤ r.p1) &&
    isCopy (plainKey key % 0x1000) r.off r.count r.stride

/-- A value within every range that its register has is not refused. -/
theorem rangeRefusal_eq_none {key v : Nat} (h : ∀ r ∈ (rangeRules1 ++ rangeRules2 ++ rangeRules3).filter (·.covers key),
    r.least ≤ bitsOf v r.top r.bot ∧ bitsOf v r.top r.bot ≤ r.most) : rangeRefusal key v = none := by
  have hnone (l : List RangeRule) (hl : l ⊆ rangeRules1 ++ rangeRules2 ++ rangeRules3) :
      (l.find? fun r => r.covers key &&
        !(decide (r.least ≤ bitsOf v r.top r.bot) && decide (bitsOf v r.top r.bot ≤ r.most))) = none := by
    refine List.find?_eq_none.2 fun r hr => ?_
    simp only [Bool.and_eq_true, Bool.not_eq_true', Bool.and_eq_false_iff, decide_eq_false_iff_not, not_and, not_or, not_not]
    exact fun hc => h r (List.mem_filter.2 ⟨hl hr, hc⟩)
  have h1 := hnone rangeRules1 fun r hr => by simp [hr]
  have h2 := hnone rangeRules2 fun r hr => by simp [hr]
  have h3 := hnone rangeRules3 fun r hr => by simp [hr]
  unfold RangeRule.covers at h1 h2 h3
  unfold rangeRefusal
  dsimp only
  rw [h1, h2, h3]

theorem State.refuseTime_eq_none (s : State) {key : Nat} (x : Nat) (h : key ∉ [0x41064, 0x4005C, 0x42044, 0x42068]) :
    s.refuseTime key x = none := by
  simp only [List.mem_cons, List.not_mem_nil, or_false, not_or] at h
  obtain ⟨h1, h2, h3, h4⟩ := h
  simp [State.refuseTime, h1, h2, h3, h4]

/-- A register of the time base with no rule of its own takes a value in its ranges. -/
theorem State.refuseWrite_time {s : State} {who : Initiator} {key x : Nat} (hp : 0x040 ≤ plainKey key / 0x1000)
    (hp' : plainKey key / 0x1000 ≤ 0x043) (hk : key ∉ [0x41064, 0x4005C, 0x42044, 0x42068]) (hr : rangeRefusal key x = none) :
    s.refuseWrite who key x = none := by
  unfold State.refuseWrite
  rw [hr]
  dsimp only
  rw [if_neg (by omega), if_pos ⟨hp, hp'⟩, State.refuseTime_eq_none s x hk]

end Sys2Proof.Machine
end

section
/-! What the operations of the time base change: nothing outside of the registers and the time base, and, of the registers, mostly the event
bits of TIME_OUT alone (R98 to R109). -/

namespace Sys2Proof.Machine

/-! ## Registers and the time base -/

/-- Between two states nothing changes but registers and the time base. -/
def TimeFrame (s t : State) : Prop := t = { s with regs := t.regs, time := t.time }

namespace TimeFrame

theorem refl (s : State) : TimeFrame s s := rfl

theorem trans {s t u : State} (h : TimeFrame s t) (k : TimeFrame t u) : TimeFrame s u := Eq.trans k (by rw [h])

theorem withTime (s : State) (q : TimeSt) : TimeFrame s { s with time := q } := rfl

theorem setF (s : State) (f : Fld) (v : Nat) : TimeFrame s (s.setF f v) := by
  unfold TimeFrame
  rw [State.setF_time]
  exact s.setF_only f v

theorem raise (s : State) (p b : Nat) : TimeFrame s (s.raise p b) := setF ..

theorem bumpBy (s : State) (f : Fld) (n : Nat) : TimeFrame s (s.bumpBy f n) := setF ..

theorem foldl {α : Type} {f : State → α → State} (hf : ∀ s a, TimeFrame s (f s a)) (l : List α) (s : State) :
    TimeFrame s (l.foldl f s) := by
  induction l generalizing s with
  | nil => exact refl s
  | cons a l ih => exact (hf s a).trans (ih (f s a))

theorem with_time {s t : State} (h : TimeFrame s t) {q : TimeSt} (hq : t.time = q) : t = { s with regs := t.regs, time := q } := by
  rw [← hq]
  exact h

theorem regs_only {s t : State} (h : TimeFrame s t) (ht : t.time = s.time) : t = { s with regs := t.regs } := h.with_time ht

/-- The answer to an access whose effect is of the time base. -/
theorem respond {s t : State} (h : TimeFrame s t) :
    t.respond 0 false = { s with regs := t.regs, time := t.time, bus := ⟨0, false⟩ } := congrArg (State.respond · 0 false) h

theorem selected {s t : State} (hsel : t.reg 0x42040 = s.reg 0x42040) (ha : t.time.domA = s.time.domA) (hb : t.time.domB = s.time.domB) :
    t.selected = s.selected := by
  unfold State.selected
  rw [ha, hb, State.getF_of_reg_eq (f := F.TIME_OUT_CTRL_SEL) (by decide) hsel]

/-! ### Pulse outputs -/

theorem pulseSkip (s : State) (i n : Nat) : TimeFrame s (s.pulseSkip i n) := by
  unfold State.pulseSkip
  split
  · exact refl s
  · exact (bumpBy ..).trans (raise ..)

theorem putPulse (s : State) (i : Nat) (p : Pulse) : TimeFrame s (s.putPulse i p) := by
  unfold State.putPulse
  split
  · exact (withTime s _).trans (pulseSkip ..)
  · exact withTime s _

theorem jumpOut (s : State) (lo out : Nat) : TimeFrame s (s.jumpOut lo out) :=
  (withTime s _).trans (foldl (fun _ _ => putPulse ..) _ _)

end TimeFrame

/-! ## Events of TIME_OUT -/

/-- From `s` to `t` the time base may change, and of the registers only the event bits of TIME_OUT, none of which falls. -/
structure RaisesOut (s t : State) : Prop where
  frame : TimeFrame s t
  reg : ∀ k, k ≠ 0x42010 → t.reg k = s.reg k
  event : ∀ b, s.event 0x042 b = true → t.event 0x042 b = true

namespace RaisesOut

theorem refl (s : State) : RaisesOut s s := ⟨rfl, fun _ _ => rfl, fun _ h => h⟩

theorem trans {s t u : State} (h : RaisesOut s t) (k : RaisesOut t u) : RaisesOut s u where
  frame := h.frame.trans k.frame
  reg j hj := (k.reg j hj).trans (h.reg j hj)
  event b hb := k.event b (h.event b hb)

theorem withTime (s : State) (q : TimeSt) : RaisesOut s { s with time := q } := ⟨rfl, fun _ _ => rfl, fun _ h => h⟩

theorem raise (s : State) {b : Nat} (hb : b < 32) : RaisesOut s (s.raise 0x042 b) where
  frame := .raise ..
  reg _ hk := State.reg_setF_other (f := ⟨0x42010, b, b⟩) hb hk
  event _ h := State.event_raise hb h

theorem getF {s t : State} (h : RaisesOut s t) (f : Fld) (h0 : f.key ≠ 0x42010) (h4 : f.key + 4 ≠ 0x42010) : t.getF f = s.getF f :=
  State.getF_congr (h.reg _ h0) (h.reg _ h4)

theorem timeEval (s : State) : RaisesOut s s.timeEval := by
  unfold State.timeEval
  dsimp only
  split
  · exact (withTime s _).trans (raise _ (by decide))
  · split
    · exact (withTime s _).trans (raise _ (by decide))
    · exact withTime s _

theorem timeSetD (s : State) (d : Int) : RaisesOut s (s.timeSetD d) := (withTime s _).trans (timeEval _)

theorem setDom (s : State) (i : Nat) (d : Domain) : RaisesOut s (s.setDom i d) := by
  unfold State.setDom
  split
  · exact withTime s _
  · exact withTime s _

theorem reselect (s : State) : RaisesOut s s.reselect := by
  have follow : RaisesOut s ({ s with time := { s.time with follow := s.selected } }.raise 0x042 3) :=
    (withTime s _).trans (raise _ (by decide))
  unfold State.reselect
  dsimp only
  split
  · exact refl s
  · split
    · exact ((follow.trans (withTime _ _)).trans (raise _ (by decide))).trans (timeEval _)
    · split
      · exact ((follow.trans (withTime _ _)).trans (withTime _ _)).trans (timeSetD ..)
      · exact ((follow.trans (withTime _ _)).trans (withTime _ _)).trans (timeEval _)

end RaisesOut

/-! ## What of the time base an operation sets -/

/-- TIME_VALID is re-evaluated from the state and CORRECTING (R100). -/
@[simp] theorem State.timeEval_time (s : State) :
    s.timeEval.time = { s.time with valid := !s.time.correcting && s.time.state.validPossible } := by
  unfold State.timeEval
  dsimp only
  split
  · simp
  · split <;> simp

@[simp] theorem State.timeSetD_time (s : State) (d : Int) :
    (s.timeSetD d).time = { s.time with
      d := d, stepPending := decide (stepLimit < d)
      correcting := decide (stepLimit < d) || decide (s.validLimit < d.natAbs)
      valid := !(decide (stepLimit < d) || decide (s.validLimit < d.natAbs)) && s.time.state.validPossible } :=
  State.timeEval_time _

/-- Re-evaluating the selection sets what the output follows, and leaves the domains, the output time, the pulses and PTP. -/
theorem State.reselect_time (s : State) :
    s.reselect.time = { s.time with
      follow := s.selected, state := s.reselect.time.state, holdSince := s.reselect.time.holdSince, f := s.reselect.time.f
      x := s.reselect.time.x, d := s.reselect.time.d, stepPending := s.reselect.time.stepPending
      correcting := s.reselect.time.correcting, valid := s.reselect.time.valid } := by
  unfold State.reselect
  dsimp only
  split
  · next h => rw [h]
  · split
    · next h => simp [h]
    · split
      · simp
      · simp

@[simp] theorem State.dom_setDom_same (s : State) (i : Nat) (d : Domain) : (s.setDom i d).dom i = d := by
  unfold State.setDom State.dom
  split <;> simp [*]

@[simp] theorem State.dom_reselect (s : State) (i : Nat) : s.reselect.dom i = s.dom i := by
  unfold State.dom
  rw [State.reselect_time]

/-- What the output follows is what SEL selects. -/
theorem State.follow_reselect (s : State) : s.reselect.time.follow = s.reselect.selected := by
  have hsel : s.reselect.selected = s.selected :=
    TimeFrame.selected ((RaisesOut.reselect s).reg _ (by decide)) (by rw [State.reselect_time]) (by rw [State.reselect_time])
  rw [hsel, State.reselect_time]

end Sys2Proof.Machine
end

section
/-! The domains of the time base, selection, steps, holdover limits, SET and UTC (R100 to R109, R116, R117). -/

namespace Sys2Proof.Machine

/-! ## A domain that enters a state or is discarded (R101) -/

theorem RaisesOut.domState (s : State) (i : Nat) (st : DomainState) : RaisesOut s (s.domState i st) := (setDom ..).trans (reselect _)

@[simp] theorem State.dom_domState (s : State) (i : Nat) (st : DomainState) : (s.domState i st).dom i = { s.dom i with state := st } :=
  (State.dom_reselect ..).trans (State.dom_setDom_same ..)

theorem State.follow_domState (s : State) (i : Nat) (st : DomainState) : (s.domState i st).time.follow = (s.domState i st).selected :=
  State.follow_reselect _

theorem RaisesOut.domDiscard (s : State) (i : Nat) : RaisesOut s (s.domDiscard i) := by
  have start : RaisesOut s (if i = 2 then s.asymRestart else s) := by
    split
    · exact withTime s _
    · exact refl s
  exact (start.trans (setDom ..)).trans (reselect _)

@[simp] theorem State.dom_domDiscard (s : State) (i : Nat) : (s.domDiscard i).dom i = {} :=
  (State.dom_reselect ..).trans (State.dom_setDom_same ..)

theorem State.follow_domDiscard (s : State) (i : Nat) : (s.domDiscard i).time.follow = (s.domDiscard i).selected := State.follow_reselect _

/-! ## SERVO_EN and SEL as writes of a field (R101, R102, R117) -/

/-- SERVO_EN sets its bit; a domain whose servo is off is discarded. -/
theorem exec_servoEn {who : Initiator} {dom : Fin 2} {enable : Bool} {s : State} (ho : s.opens who (0x40040 + 0x1000 * dom.val) true = true)
    (hl : s.flag (F.PG_CTRL_LOCK (0x040 + dom.val)) = false) (hc : s.getF (F.TIME_D_CTRL_LOCK_CNT dom.val) ≠ 0) :
    exec (.servoEn who dom enable) s = .next
      ((if enable then s.setFlag (F.TIME_D_CTRL_SERVO_EN dom.val) enable
        else (s.setFlag (F.TIME_D_CTRL_SERVO_EN dom.val) enable).domDiscard (dom.val + 1)).respond 0 false) := by
  have hkey : ∀ d : Fin 2, regAt (0x40040 + 0x1000 * d.val) = some (Reg.TIME_d_CTRL, 0) ∧
      plainKey (0x40040 + 0x1000 * d.val) / 0x1000 = 0x040 + d.val ∧
      (windows.find? fun w => decide (w.1 ≤ 0x40040 + 0x1000 * d.val) && decide (0x40040 + 0x1000 * d.val ≤ w.2.1)) = none ∧
      (rangeRules1 ++ rangeRules2 ++ rangeRules3).filter (·.covers (0x40040 + 0x1000 * d.val)) =
        [⟨0x040, 0x041, 0x040, 23, 16, 1, 255, 0x10, 1, 4⟩] := by decide
  obtain ⟨hreg, hpage, hwin, hrules⟩ := hkey dom
  have hcnt : bitsOf (setBits (s.reg (0x40040 + 0x1000 * dom.val)).toNat (1 - 1) 0 (bit enable)) 23 16 =
      s.getF (F.TIME_D_CTRL_LOCK_CNT dom.val) := bitsOf_setBits_above _ _ _ _ _ _ (Nat.le_refl _) (by decide)
  have hle : s.getF (F.TIME_D_CTRL_LOCK_CNT dom.val) < 2 ^ 8 := s.getF_lt (f := F.TIME_D_CTRL_LOCK_CNT dom.val) (show 16 ≤ 23 by decide)
  have hrange : rangeRefusal (0x40040 + 0x1000 * dom.val)
      (setBits (s.reg (0x40040 + 0x1000 * dom.val)).toNat (1 - 1) 0 (bit enable)) = none := by
    refine rangeRefusal_eq_none fun r hr => ?_
    rw [hrules, List.mem_singleton] at hr
    subst hr
    rw [hcnt]
    exact ⟨Nat.pos_of_ne_zero hc, Nat.le_of_lt_succ hle⟩
  have hwrite := State.rowWrite_low (n := 1) (v := bit enable)
    (k := fun _ new => if new.flag (F.TIME_D_CTRL_SERVO_EN dom.val) then new else new.domDiscard (dom.val + 1)) ho hreg
    ⟨by decide, by decide, by decide, by decide, by decide, by decide⟩ (.inl (hpage ▸ hl)) (State.winKey_of_no_window hwin s)
    (State.refuseWrite_time (by omega) (by omega) (by simp only [List.mem_cons, List.not_mem_nil, or_false]; omega) hrange)
  have hflag : (s.setFlag (F.TIME_D_CTRL_SERVO_EN dom.val) enable).flag (F.TIME_D_CTRL_SERVO_EN dom.val) = enable :=
    State.flag_setFlag_same rfl (Nat.zero_lt_succ 31)
  refine (congrArg Host.Outcome.next hwrite).trans ?_
  show Host.Outcome.next (State.respond (if (s.setFlag (F.TIME_D_CTRL_SERVO_EN dom.val) enable).flag _ then _ else _) 0 false) = _
  rw [hflag]
  rfl

/-- SEL sets its field, and the output follows what it selects. -/
theorem exec_sel {who : Initiator} {sel : Fin 4} {s : State} (ho : s.opens who 0x42040 true = true) (hs : sel.val ≠ 3) :
    exec (.sel who sel) s = .next ((s.setF F.TIME_OUT_CTRL_SEL sel.val).reselect.respond 0 false) := by
  have hrules : (rangeRules1 ++ rangeRules2 ++ rangeRules3).filter (·.covers 0x42040) =
      [⟨0x042, 0x042, 0x040, 1, 0, 0, 2, 0x10, 1, 4⟩] := by decide
  have hrange : rangeRefusal 0x42040 (setBits (s.reg 0x42040).toNat (2 - 1) 0 sel.val) = none := by
    refine rangeRefusal_eq_none fun r hr => ?_
    rw [hrules, List.mem_singleton] at hr
    subst hr
    rw [bitsOf_setBits_same _ _ _ _ (by decide)]
    simp only
    omega
  exact congrArg Host.Outcome.next (State.rowWrite_low (n := 2) (k := fun _ new => new.reselect) ho
    (by decide : _ = some (Reg.TIME_OUT_CTRL, 0))
    ⟨by decide, by decide, by decide, by decide, by decide, by decide⟩ (.inr (by decide)) (State.winKey_of_no_window (by decide) s)
    (State.refuseWrite_time (by decide) (by decide) (by decide) hrange))

/-! ## What each row does where its condition holds (R100 to R109, R116) -/

theorem exec_domainLoss {dom : Fin 2} {s : State} (hs : (s.dom (dom.val + 1)).state = .locked)
    (hl : (s.dom (dom.val + 1)).heard.getD (s.dom (dom.val + 1)).upd + s.getF (F.TIME_D_LOSS_LOSS_MS dom.val) * 1000000 < s.now) :
    exec (.domainLoss dom) s = .next ((s.raise (0x040 + dom.val) 1).domState (dom.val + 1) .hold) := by
  show execDomainLoss dom s = _
  simp [execDomainLoss, hs, hl, domPage, show 63 + (dom.val + 1) = 64 + dom.val by omega]

/-- RESUME of a frozen domain B clears its count of good updates and the flag, and enters ACQUIRE. -/
theorem exec_resume_frozen {who : Initiator} {s : State} (ho : s.opens who 0x4105C true = true) (hf : s.time.domB.state = .frozen) :
    exec (.resume who) s = .next
      ((((s.setDom 2 { s.time.domB with good := 0 }).setFlag F.TIME_B_ASYM_STAT_FLAGGED false).domState 2 .acquire).respond 0 false) := by
  refine (congrArg Host.Outcome.next (State.command_of_opens ho)).trans ?_
  simp only [hf, beq_self_eq_true, if_true]

theorem exec_resume_refused {who : Initiator} {s : State} (ho : s.opens who 0x4105C true = true) (hf : s.time.domB.state ≠ .frozen) :
    exec (.resume who) s = .next ((s.accessErr 0x11 who 0x4105C).respond 0 false) := by
  refine (congrArg Host.Outcome.next (State.command_of_opens ho)).trans ?_
  simp only [beq_iff_eq, hf, if_false]

theorem exec_holdWarn {s : State} (hs : s.time.state = .hold)
    (hd : s.time.holdSince + s.getF F.TIME_OUT_HOLD_WARN_S_SECONDS * 1000000000 ≤ s.now) :
    exec .holdWarn s = .next (State.timeEval ({ s with time := { s.time with state := .holdLong } }.raise 0x042 5)) := by
  show execHoldWarn s = _
  simp [execHoldWarn, hs, hd]

theorem exec_holdLimit {s : State} (hs : s.time.state = .hold ∨ s.time.state = .holdLong)
    (hd : s.time.holdSince + s.getF F.TIME_OUT_HOLD_LIMIT_S_SECONDS * 1000000000 ≤ s.now) :
    exec .holdLimit s = .next (State.timeEval ({ s with time := { s.time with state := .holdExpired } }.raise 0x042 6)) := by
  show execHoldLimit s = _
  simp [execHoldLimit, hs, hd]

/-- The time that TIME_OUT_SET_SEC and TIME_OUT_SET_NS hold. -/
def State.setValue (s : State) : Nat := s.getF F.TIME_OUT_SET_SEC_SECONDS * secUnit + s.getF F.TIME_OUT_SET_NS_NS * nsUnit

/-- The state in which a SET that is taken leaves the block, before TIME_VALID is re-evaluated. -/
def State.manualAt (s : State) (v : Nat) : State :=
  { s.jumpOut (s.taiNs + 1) v with time := { (s.jumpOut (s.taiNs + 1) v).time with state := .manual } }

theorem exec_set_taken {who : Initiator} {s : State} (ho : s.opens who 0x4208C true = true) (hu : s.time.state.unfollowed = true)
    (hv : s.time.out ≤ s.setValue) : exec (.set who) s = .next ((s.manualAt s.setValue).timeEval.respond 0 false) := by
  refine (congrArg Host.Outcome.next (State.command_of_opens ho)).trans ?_
  rw [if_pos (by rw [hu]; exact decide_eq_true hv)]
  rfl

theorem exec_set_refused {who : Initiator} {s : State} (ho : s.opens who 0x4208C true = true)
    (h : s.time.state.unfollowed = false ∨ s.setValue < s.time.out) :
    exec (.set who) s = .next ((s.accessErr 0x11 who 0x4208C).respond 0 false) := by
  refine (congrArg Host.Outcome.next (State.command_of_opens ho)).trans ?_
  rw [if_neg]
  simp only [Bool.and_eq_true, decide_eq_true_eq, not_and, Nat.not_le]
  rcases h with h | h
  · simp [h]
  · exact fun _ => h

theorem exec_slewComplete {s : State} (hc : s.time.correcting = true) (hp : s.time.stepPending = false) (hh : s.time.state.holdover = false)
    (hd : (s.time.d.natAbs : Int) ≤ s.validLimit) :
    exec .slewComplete s = .next (State.timeEval { s with time := { s.time with correcting := false } }) := by
  show execSlewComplete s = _
  simp only [execSlewComplete, hc, hp, hh, hd]
  rfl

theorem TimeFrame.stepOut (s : State) : TimeFrame s s.stepOut :=
  (((jumpOut ..).trans (bumpBy ..)).trans (raise ..)).trans (RaisesOut.timeSetD ..).frame

theorem State.stepOut_event (s : State) : s.stepOut.event 0x042 2 = true :=
  (RaisesOut.timeSetD ..).event _ (State.event_raise_same _ _ (by decide))

/-- Settles O12: what follows a domain's change raises only events of TIME_OUT, and each row sets its own part of the time base before
it. -/
theorem timeDomainsAndOutput : Obligations.TimeDomainsAndOutput := by
  refine ⟨⟨?domainLoss, ?restart, ?resume, ?servoEn, ?sel⟩, ?step, ?holdWarn, ?holdLimit, ?set, ?slewComplete, ?utcApply⟩
  case domainLoss =>
    intro dom s hs hl
    have hout := RaisesOut.domState (s.raise (0x040 + dom.val) 1) (dom.val + 1) .hold
    refine ⟨_, exec_domainLoss hs hl, ?_, ?_, State.follow_domState .., (TimeFrame.raise ..).trans hout.frame⟩
    · rw [State.dom_domState]
      unfold State.dom
      rw [State.raise_time]
    · rw [State.event_of_reg_eq (hout.reg _ (by omega))]
      exact State.event_raise_same _ _ (by decide)
  case restart =>
    intro who dom s ho
    exact ⟨_, congrArg Host.Outcome.next (State.command_of_opens ho), State.dom_domDiscard s (dom.val + 1),
      State.follow_domDiscard s (dom.val + 1), (RaisesOut.domDiscard s (dom.val + 1)).frame.respond⟩
  case resume =>
    intro who s ho
    refine ⟨fun hf => ⟨_, exec_resume_frozen ho hf, ?_⟩, exec_resume_refused ho⟩
    set u := (s.setDom 2 { s.time.domB with good := 0 }).setFlag F.TIME_B_ASYM_STAT_FLAGGED false with hu
    have hout := RaisesOut.domState u 2 .acquire
    have hdom : u.dom 2 = { s.time.domB with good := 0 } := congrArg TimeSt.domB (State.setF_time ..)
    refine ⟨?_, ?_, (((RaisesOut.setDom ..).frame.trans (.setF ..)).trans hout.frame).respond⟩
    · exact (State.dom_domState u 2 .acquire).trans (by rw [hdom])
    · have hflag : u.flag F.TIME_B_ASYM_STAT_FLAGGED = false := State.flag_setFlag_same rfl (by decide)
      exact (congrArg (· == 1) (hout.getF _ (by decide) (by decide))).trans hflag
  case servoEn =>
    intro who dom enable s ho hl hc
    have hexec := exec_servoEn (who := who) (enable := enable) ho hl hc
    have hflag : (s.setFlag (F.TIME_D_CTRL_SERVO_EN dom.val) enable).flag (F.TIME_D_CTRL_SERVO_EN dom.val) = enable :=
      State.flag_setFlag_same rfl (Nat.zero_lt_succ 31)
    cases enable with
    | true =>
      rw [if_pos rfl] at hexec
      exact ⟨_, hexec, hflag, fun _ => State.setF_time .., nofun, (TimeFrame.setF ..).respond⟩
    | false =>
      rw [if_neg Bool.false_ne_true] at hexec
      have hout := RaisesOut.domDiscard (s.setFlag (F.TIME_D_CTRL_SERVO_EN dom.val) false) (dom.val + 1)
      refine ⟨_, hexec, ?_, nofun, fun _ => ⟨State.dom_domDiscard .., State.follow_domDiscard ..⟩,
        ((TimeFrame.setF ..).trans hout.frame).respond⟩
      exact (congrArg (· == 1) (hout.getF (F.TIME_D_CTRL_SERVO_EN dom.val) (by simp only [F.TIME_D_CTRL_SERVO_EN]; omega)
        (by simp only [F.TIME_D_CTRL_SERVO_EN]; omega))).trans hflag
  case sel =>
    intro who sel s ho hs
    have hout := RaisesOut.reselect (s.setF F.TIME_OUT_CTRL_SEL sel.val)
    refine ⟨_, exec_sel ho hs, ?_, State.follow_reselect _, ((TimeFrame.setF ..).trans hout.frame).respond⟩
    exact (hout.getF _ (by decide) (by decide)).trans ((State.getF_setF_same (by decide) (by decide)).trans (Nat.mod_eq_of_lt sel.isLt))
  case step =>
    intro s hdue
    refine ⟨_, congrArg Host.Outcome.next (if_pos hdue), (KeepsClocks.stepOut s).out, ?_, ?_, s.stepOut_event, TimeFrame.stepOut s⟩
    · simp [State.stepOut]
    · simp [State.stepOut, stepLimit, nsUnit]
  case holdWarn =>
    intro s hs hd
    have hout := RaisesOut.timeEval ({ s with time := { s.time with state := .holdLong } }.raise 0x042 5)
    exact ⟨_, exec_holdWarn hs hd, by simp, hout.event _ (State.event_raise_same _ _ (by decide)), by simp,
      ((TimeFrame.withTime s _).trans (.raise ..)).trans hout.frame⟩
  case holdLimit =>
    intro s hs hd
    have hout := RaisesOut.timeEval ({ s with time := { s.time with state := .holdExpired } }.raise 0x042 6)
    exact ⟨_, exec_holdLimit hs hd, by simp, by simp [TimeState.validPossible],
      hout.event _ (State.event_raise_same _ _ (by decide)), by simp, ((TimeFrame.withTime s _).trans (.raise ..)).trans hout.frame⟩
  case set =>
    intro who s ho v
    refine ⟨fun hu hv => ⟨_, exec_set_taken ho hu hv, ?_⟩, exec_set_refused ho⟩
    have hout := RaisesOut.timeEval (s.manualAt s.setValue)
    have hclock : (s.manualAt s.setValue).time.out = v := (KeepsClocks.jumpOut s (s.taiNs + 1) s.setValue).out
    exact ⟨(congrArg TimeSt.out (State.timeEval_time _)).trans hclock, by simp [State.manualAt],
      by simp [State.manualAt, TimeState.validPossible],
      (((TimeFrame.jumpOut ..).trans (.withTime ..)).trans hout.frame).respond⟩
  case slewComplete =>
    intro s hc hp hh hd
    exact ⟨_, exec_slewComplete hc hp hh hd, by simp, by simp, by simp, (TimeFrame.withTime s _).trans (RaisesOut.timeEval _).frame⟩
  case utcApply =>
    intro s h0 hat
    set n := s.getF F.TIME_OUT_UTC_NEXT_OFFSET
    set u := s.setF F.TIME_OUT_UTC_OFFSET n
    set w := u.setF F.TIME_OUT_UTC_AT_SECOND 0
    have hraise (k : Nat) (hk : k ≠ 0x42010) : (w.raise 0x042 8).reg k = w.reg k := State.reg_setF_other (by decide) hk
    refine ⟨w.raise 0x042 8, congrArg Host.Outcome.next (if_pos ⟨h0, hat⟩), ?_, ?_, State.event_raise_same _ _ (by decide), ?_⟩
    · calc (w.raise 0x042 8).getF F.TIME_OUT_UTC_OFFSET
        _ = w.getF F.TIME_OUT_UTC_OFFSET := State.getF_of_reg_eq (by decide) (hraise _ (by decide))
        _ = u.getF F.TIME_OUT_UTC_OFFSET := State.getF_of_reg_eq (by decide) (State.reg_setF_otherWords (by decide) (by decide))
        _ = n % 2 ^ 16 := State.getF_setF_same (by decide) (by decide)
        _ = n := Nat.mod_eq_of_lt (s.getF_lt (f := F.TIME_OUT_UTC_NEXT_OFFSET) (by decide))
    · rw [State.getF_congr (hraise _ (by decide)) (hraise _ (by decide)), State.getF_setF_twoWords (by decide) (by decide) (by decide),
        Nat.zero_mod]
    · exact (((TimeFrame.setF ..).trans (.setF ..)).trans (.raise ..)).regs_only (by simp)

end Sys2Proof.Machine
end

section
/-! The PTP engine: trapped messages are taken by type, an update of domain B leaves the engine's own records, and messages are sent from
the master ports and the slave port (R101, R109 to R111, R360). -/

namespace Sys2Proof.Machine

/-! ## Messages at the front (R360) -/

/-- The state after the PTP engine has taken the message at its front; `rest` are those behind it. -/
def State.withPtpIn (s : State) (rest : List PtpRx) : State := { s with sw := { s.sw with ptpIn := rest } }

theorem State.ptpTake_cons {s : State} {x : PtpRx} {rest : List PtpRx} {type : Nat} (h : s.sw.ptpIn = x :: rest) (ht : ptpType x.msg = type)
    (k : PtpRx → State → State) : s.ptpTake type k = k x (s.withPtpIn rest) := by
  unfold State.ptpTake
  rw [h]
  exact if_pos ht

theorem State.ptpTake_nil {s : State} (h : s.sw.ptpIn = []) (type : Nat) (k : PtpRx → State → State) : s.ptpTake type k = s := by
  unfold State.ptpTake
  rw [h]

/-! ## Updates of domain B (R101, R109) -/

/-- From `s` to `t` registers, the time base and the free values drawn may change; of the PTP engine's records only the run of disagreeing
updates does. -/
structure KeepsPtp (s t : State) : Prop where
  frame : t = { s with regs := t.regs, time := t.time, freeCtr := t.freeCtr }
  ptp : t.time.ptp = { s.time.ptp with asymRun := t.time.ptp.asymRun }

namespace KeepsPtp

theorem refl (s : State) : KeepsPtp s s := ⟨rfl, rfl⟩

theorem trans {s t u : State} (h : KeepsPtp s t) (k : KeepsPtp t u) : KeepsPtp s u where
  frame := k.frame.trans (by rw [h.frame])
  ptp := k.ptp.trans (by rw [h.ptp])

theorem of_frame {s t : State} (h : TimeFrame s t) (hp : t.time.ptp = s.time.ptp) : KeepsPtp s t where
  frame := by
    have hf : t.freeCtr = s.freeCtr := by
      unfold TimeFrame at h
      rw [h]
    rw [hf]
    exact h
  ptp := by rw [hp]

theorem withTime (s : State) (q : TimeSt) (h : q.ptp = s.time.ptp) : KeepsPtp s { s with time := q } := of_frame (.withTime ..) h

theorem ite {s t u : State} {c : Prop} [Decidable c] (ht : KeepsPtp s t) (hu : KeepsPtp s u) : KeepsPtp s (if c then t else u) := by
  split
  · exact ht
  · exact hu

theorem setF (s : State) (f : Fld) (v : Nat) : KeepsPtp s (s.setF f v) := of_frame (.setF ..) (by rw [State.setF_time])

theorem raise (s : State) (p b : Nat) : KeepsPtp s (s.raise p b) := setF ..

theorem setDom (s : State) (i : Nat) (d : Domain) : KeepsPtp s (s.setDom i d) := by
  unfold State.setDom
  exact ite ⟨rfl, rfl⟩ ⟨rfl, rfl⟩

theorem reselect (s : State) : KeepsPtp s s.reselect := of_frame (RaisesOut.reselect s).frame (by rw [State.reselect_time])

theorem domState (s : State) (i : Nat) (st : DomainState) : KeepsPtp s (s.domState i st) := (setDom ..).trans (reselect _)

theorem timeSetD (s : State) (d : Int) : KeepsPtp s (s.timeSetD d) := of_frame (RaisesOut.timeSetD s d).frame (by rw [State.timeSetD_time])

theorem asymCheck (s : State) : KeepsPtp s s.asymCheck := by
  have run (n : Nat) : KeepsPtp s { s with time := { s.time with ptp := { s.time.ptp with asymRun := n } } } := ⟨rfl, rfl⟩
  unfold State.asymCheck
  dsimp only
  refine ite (ite (ite ?_ (run _)) (run 0)) (run 0)
  exact ((((run 0).trans (setF ..)).trans (setF ..)).trans (raise ..)).trans (domState ..)

theorem domUpdate (s : State) (i at_ : Nat) (out offset freq : Int) : KeepsPtp s (s.domUpdate i at_ out offset freq) := by
  unfold State.domUpdate
  extract_lets d tai lockNs lockCnt start bw pred res good run lock s1 dm src s2
  have hlock (u : State) : KeepsPtp u (lock u) := ite ((raise ..).trans (domState ..)) (refl u)
  have h1 : KeepsPtp s s1 := by
    unfold s1
    split
    · exact (setDom ..).trans (hlock _)
    · exact (setDom ..).trans (hlock _)
    · exact (setDom ..).trans (hlock _)
    · exact setDom ..
    · exact refl s
  have h2 : KeepsPtp s s2 := h1.trans (ite ((withTime s1 { s1.time with f := dm.freq } rfl).trans (timeSetD ..)) (refl s1))
  exact ite (refl s) (ite (h2.trans (asymCheck s2)) h2)

end KeepsPtp

/-- The measurement that a Sync, or its Follow_Up, gives: the difference of its receipt and its origin. -/
def State.measured (s : State) (at_ : Nat) (origin : Int) : State :=
  { s with time := { s.time with ptp := { s.time.ptp with
    syncDelta := some (((at_ * nsUnit : Nat) : Int) - origin), pendingSync := none } } }

/-- After the measurement an update keeps the PTP engine's records. -/
theorem State.ptpUpdate_keeps (s : State) (at_ rx : Nat) (origin : Int) : KeepsPtp (s.measured at_ origin) (s.ptpUpdate at_ rx origin) := by
  show KeepsPtp _ (match (s.measured at_ origin).time.ptp.mpd with | none => _ | some mpd => _)
  split
  · exact .refl _
  · refine .ite (.refl _) (KeepsPtp.trans (t := ((s.measured at_ origin).fresh (2 ^ 32)).2) ⟨rfl, rfl⟩ (.domUpdate ..))

/-! ## Messages that are sent (R110, R362) -/

/-- Between two states nothing changes but registers, the PTP engine's records and the egress queues. -/
def SendFrame (s t : State) : Prop :=
  t = { s with regs := t.regs, time := { s.time with ptp := t.time.ptp }, sw := { s.sw with queues := t.sw.queues } }

namespace SendFrame

theorem refl (s : State) : SendFrame s s := rfl

theorem trans {s t u : State} (h : SendFrame s t) (k : SendFrame t u) : SendFrame s u := Eq.trans k (by rw [h])

theorem withPtp (s : State) (q : PtpSt) : SendFrame s { s with time := { s.time with ptp := q } } := rfl

theorem foldl {f : State → Nat → State} (hf : ∀ s a, SendFrame s (f s a)) (l : List Nat) (s : State) : SendFrame s (l.foldl f s) := by
  induction l generalizing s with
  | nil => exact refl s
  | cons a l ih => exact (hf s a).trans (ih (f s a))

end SendFrame

/-- Between two states nothing changes but registers and the egress queues. -/
def QueueFrame (s t : State) : Prop := t = { s with regs := t.regs, sw := { s.sw with queues := t.sw.queues } }

namespace QueueFrame

theorem trans {s t u : State} (h : QueueFrame s t) (k : QueueFrame t u) : QueueFrame s u := Eq.trans k (by rw [h])

theorem setF (s : State) (f : Fld) (v : Nat) : QueueFrame s (s.setF f v) := by
  unfold QueueFrame
  rw [State.setF_sw]
  exact s.setF_only f v

/-- A frame is queued, or dropped and counted. -/
theorem egress (s : State) (p q : Nat) (f : EgFrame) : QueueFrame s (s.egress p q f).2 := by
  unfold State.egress
  split
  · exact setF s (F.EMAC_TX_DROP_COUNT p) _
  · exact trans (t := s.setEgQueue p q (s.egQueue p q ++ [f])) rfl (setF _ (F.PG_STAT_WIPED 0x0D0) 0)

theorem ptpQueue (s : State) (p : Nat) (msg : List Byte) (kind : Option PtpTx) : QueueFrame s (s.ptpQueue p msg kind) := egress ..

theorem time {s t : State} (h : QueueFrame s t) : t.time = s.time := by rw [h]

theorem sendFrame {s t : State} (h : QueueFrame s t) : SendFrame s t := Eq.trans h (by rw [h.time])

end QueueFrame

end Sys2Proof.Machine
end

section
/-! Each row of the PTP engine (R101, R109 to R111, R360). -/

namespace Sys2Proof.Machine

/-! ## What is sent from the master ports (R110) -/

/-- When a Sync, or an Announce, was last sent from a port. -/
def State.syncSentAt (s : State) (p : Nat) : Nat := Assoc.get (fun _ => 0) s.time.ptp.sentSync p

def State.announceSentAt (s : State) (p : Nat) : Nat := Assoc.get (fun _ => 0) s.time.ptp.sentAnnounce p

/-- The Sync of a master port, where one is due. -/
def State.sendSync (s : State) (p : Nat) : State :=
  let two := s.flag F.TIME_B_PTPCFG_TWO_STEP
  if s.now < s.syncSentAt p + 62500000 then s
  else
    let t := { s with time := { s.time with ptp := { s.time.ptp with
      sentSync := Assoc.put (fun _ => 0) s.time.ptp.sentSync p s.now, masterSeq := (s.time.ptp.masterSeq + 1) % 65536 } } }
    t.ptpQueue p (t.ptpMessage 0 (ptpFlags + (if two then 0x0200 else 0)) s.time.ptp.masterSeq p 0xFC 0 (ptpTimeBytes 0))
      (some (if two then .twoStep else .oneStep))

/-- The Announce of a master port, where one is due. -/
def State.sendAnnounce (s : State) (p : Nat) : State :=
  if s.now < s.announceSentAt p + 1000000000 then s
  else
    let t := { s with time := { s.time with ptp := { s.time.ptp with
      sentAnnounce := Assoc.put (fun _ => 0) s.time.ptp.sentAnnounce p s.now, masterSeq := (s.time.ptp.masterSeq + 1) % 65536 } } }
    t.ptpQueue p (t.ptpMessage 11 ptpFlags s.time.ptp.masterSeq p 0 0 t.ptpAnnounce) none

/-- What a master port sends where it is due. -/
def State.sendMaster (s : State) (p : Nat) : State := (s.sendSync p).sendAnnounce p

theorem exec_ptpMasterSend {s : State} (h : s.pwr.state ≠ .snowdrop) :
    exec .ptpMasterSend s = .next (s.masterPorts.foldl State.sendMaster s) := congrArg Host.Outcome.next (if_neg (by simpa using h))

theorem SendFrame.sendSync (s : State) (p : Nat) : SendFrame s (s.sendSync p) := by
  unfold State.sendSync
  dsimp only
  split
  · exact refl s
  · exact (withPtp s _).trans (QueueFrame.ptpQueue ..).sendFrame

theorem SendFrame.sendAnnounce (s : State) (p : Nat) : SendFrame s (s.sendAnnounce p) := by
  unfold State.sendAnnounce
  dsimp only
  split
  · exact refl s
  · exact (withPtp s _).trans (QueueFrame.ptpQueue ..).sendFrame

theorem State.sendSync_sentAt (s : State) (p q : Nat) :
    (s.sendSync p).syncSentAt q = (if q = p ∧ s.syncSentAt p + 62500000 ≤ s.now then s.now else s.syncSentAt q) ∧
      (s.sendSync p).announceSentAt q = s.announceSentAt q := by
  unfold State.sendSync
  dsimp only
  split
  · next h => exact ⟨by rw [if_neg (by omega)], rfl⟩
  · next h =>
    unfold State.syncSentAt State.announceSentAt
    rw [(QueueFrame.ptpQueue ..).time]
    refine ⟨?_, rfl⟩
    by_cases hq : q = p
    · subst hq
      rw [if_pos ⟨rfl, Nat.not_lt.1 h⟩]
      exact Assoc.get_put_same
    · rw [if_neg (by omega)]
      exact Assoc.get_put_other hq

theorem State.sendAnnounce_sentAt (s : State) (p q : Nat) :
    (s.sendAnnounce p).announceSentAt q = (if q = p ∧ s.announceSentAt p + 1000000000 ≤ s.now then s.now else s.announceSentAt q) ∧
      (s.sendAnnounce p).syncSentAt q = s.syncSentAt q := by
  unfold State.sendAnnounce
  dsimp only
  split
  · next h => exact ⟨by rw [if_neg (by omega)], rfl⟩
  · next h =>
    unfold State.syncSentAt State.announceSentAt
    rw [(QueueFrame.ptpQueue ..).time]
    refine ⟨?_, rfl⟩
    by_cases hq : q = p
    · subst hq
      rw [if_pos ⟨rfl, Nat.not_lt.1 h⟩]
      exact Assoc.get_put_same
    · rw [if_neg (by omega)]
      exact Assoc.get_put_other hq

theorem SendFrame.sendMaster (s : State) (p : Nat) : SendFrame s (s.sendMaster p) := (sendSync s p).trans (sendAnnounce _ p)

theorem State.sendMaster_now (s : State) (p : Nat) : (s.sendMaster p).now = s.now := by rw [SendFrame.sendMaster]

theorem State.sendMaster_syncSentAt (s : State) (p q : Nat) :
    (s.sendMaster p).syncSentAt q = if q = p ∧ s.syncSentAt p + 62500000 ≤ s.now then s.now else s.syncSentAt q :=
  (State.sendAnnounce_sentAt ..).2.trans (State.sendSync_sentAt ..).1

theorem State.sendMaster_announceSentAt (s : State) (p q : Nat) :
    (s.sendMaster p).announceSentAt q = if q = p ∧ s.announceSentAt p + 1000000000 ≤ s.now then s.now else s.announceSentAt q := by
  have hnow : (s.sendSync p).now = s.now := by rw [SendFrame.sendSync]
  unfold State.sendMaster
  rw [(State.sendAnnounce_sentAt ..).1, (State.sendSync_sentAt ..).2, (State.sendSync_sentAt ..).2, hnow]

/-- What is sent from each port where it is due, and marked there with the time, has been sent now from every port where it was due. -/
theorem sentAt_foldl {f : State → Nat → State} {sentAt : State → Nat → Nat} {period : Nat} (hnow : ∀ s p, (f s p).now = s.now)
    (hsent : ∀ s p q, sentAt (f s p) q = if q = p ∧ sentAt s p + period ≤ s.now then s.now else sentAt s q) {p : Nat} {l : List Nat}
    {s : State} (h : sentAt s p = s.now ∨ p ∈ l ∧ sentAt s p + period ≤ s.now) : sentAt (l.foldl f s) p = s.now := by
  induction l generalizing s with
  | nil => simpa using h
  | cons a l ih =>
    have hstep := hsent s a p
    rw [List.foldl_cons, ← hnow s a]
    refine ih ?_
    rw [hstep, hnow]
    by_cases hdue : p = a ∧ sentAt s a + period ≤ s.now
    · exact .inl (if_pos hdue)
    · rw [if_neg hdue]
      refine h.imp id fun ⟨hp, hd⟩ => ⟨(List.mem_cons.1 hp).resolve_left ?_, hd⟩
      rintro rfl
      exact hdue ⟨rfl, hd⟩

/-! ## Rows with a condition (R101, R110, R111) -/

theorem exec_delayReqSend {s : State} (he : s.flag F.TIME_B_PORT_SLAVE_EN = true) (hp : s.pwr.state ≠ .snowdrop)
    (hd : ∀ a, s.time.ptp.delaySentAt = some a → a + 62500000 ≤ s.now) :
    ∃ p msg, exec .delayReqSend s = .next (State.ptpQueue
      { s with time := { s.time with ptp := { s.time.ptp with
        delaySeq := (s.time.ptp.delaySeq + 1) % 65536, delaySentAt := some s.now } } } p msg (some .delayReq)) := by
  have hdue : ¬ s.now < (s.time.ptp.delaySentAt.map fun t => t + 62500000).getD 0 := by
    cases ha : s.time.ptp.delaySentAt with
    | none => simp
    | some a => simpa using hd a ha
  exact ⟨_, _, congrArg Host.Outcome.next (if_neg (by simp [he, hp, hdue]))⟩

/-- The slave role on the backup port, with its event. -/
def State.ptpBackup (s : State) : State := (s.ptpMove (s.getF F.TIME_B_PORT_BACKUP)).raise 0x041 3

theorem exec_slavePortSwitched {s : State} (he : s.flag F.TIME_B_PORT_SLAVE_EN = true) (hb : s.flag F.TIME_B_PORT_BACKUP_EN = true)
    (hp : s.getF F.TIME_B_PORT_ACTIVE ≠ s.getF F.TIME_B_PORT_BACKUP) (ha : s.time.ptp.lastAnnounce + 3000000000 ≤ s.now) :
    exec .slavePortSwitched s = .next (if !s.ptpBackup.flag (F.TIME_D_CTRL_SERVO_EN 1) || s.ptpBackup.time.domB.state == .frozen
      then s.ptpBackup else (s.ptpBackup.setDom 2 { s.ptpBackup.time.domB with good := 0 }).domState 2 .acquire) :=
  congrArg Host.Outcome.next (if_pos (by simp [he, hb, hp, ha]))

theorem State.ptpBackup_time (s : State) : s.ptpBackup.time = { s.time with ptp := s.ptpBackup.time.ptp } ∧
    s.ptpBackup.time.ptp.lastAnnounce = s.now := by
  unfold State.ptpBackup State.ptpMove
  rw [State.raise_time]
  cases s.getF F.TIME_B_PORT_ACTIVE == s.getF F.TIME_B_PORT_BACKUP <;> simp

theorem State.ptpBackup_reg {s : State} {k : Nat} (h : k ≠ 0x41060) (h' : k ≠ 0x41010) : s.ptpBackup.reg k = s.reg k :=
  (State.reg_setF_other (f := ⟨0x41010, 3, 3⟩) (by decide) h').trans (State.reg_setF_other (f := F.TIME_B_PORT_ACTIVE) (by decide) h)

theorem State.ptpBackup_active (s : State) : s.ptpBackup.getF F.TIME_B_PORT_ACTIVE = s.getF F.TIME_B_PORT_BACKUP := by
  calc s.ptpBackup.getF F.TIME_B_PORT_ACTIVE
    _ = (s.setF F.TIME_B_PORT_ACTIVE (s.getF F.TIME_B_PORT_BACKUP)).getF F.TIME_B_PORT_ACTIVE :=
      State.getF_of_reg_eq (by decide) (State.reg_setF_other (f := ⟨0x41010, 3, 3⟩) (by decide) (by decide))
    _ = s.getF F.TIME_B_PORT_BACKUP % 2 ^ 5 := State.getF_setF_same (by decide) (by decide)
    _ = s.getF F.TIME_B_PORT_BACKUP := Nat.mod_eq_of_lt (s.getF_lt (f := F.TIME_B_PORT_BACKUP) (by decide))

theorem TimeFrame.ptpBackup (s : State) : TimeFrame s s.ptpBackup := ((setF ..).trans (withTime ..)).trans (raise ..)

end Sys2Proof.Machine
end

section
/-! What the PTP engine makes of each message, and the statement on all of its rows (R101, R110, R111, R360). -/

namespace Sys2Proof.Machine

/-! ## Measurements (R101, R110) -/

/-- After a measurement, and the update of domain B that it gives, the engine's records hold it, and no Sync waits. -/
theorem State.ptpUpdate_records (s : State) (at_ rx : Nat) (origin : Int) :
    (s.ptpUpdate at_ rx origin).time.ptp.lastSync = s.time.ptp.lastSync ∧ (s.ptpUpdate at_ rx origin).time.ptp.pendingSync = none ∧
      (s.ptpUpdate at_ rx origin).time.ptp.syncDelta = some (((at_ * nsUnit : Nat) : Int) - origin) ∧
      s.ptpUpdate at_ rx origin = { s with
        regs := (s.ptpUpdate at_ rx origin).regs, time := (s.ptpUpdate at_ rx origin).time
        freeCtr := (s.ptpUpdate at_ rx origin).freeCtr } := by
  obtain ⟨hframe, hptp⟩ := s.ptpUpdate_keeps at_ rx origin
  refine ⟨?_, ?_, ?_, hframe⟩ <;> rw [hptp] <;> rfl

theorem exec_sync_oneStep {x : PtpRx} {rest : List PtpRx} {s : State} (h : s.sw.ptpIn = x :: rest) (ht : ptpType x.msg = 0)
    (h2 : ptpTwoStep x.msg = false) :
    exec .sync s = .next (State.ptpUpdate
      { s.withPtpIn rest with time := { s.time with ptp := { s.time.ptp with lastSync := s.now } } }
      x.at_ (x.stamp * nsUnit) (ptpStamp x.msg + ptpCorr x.msg)) := by
  refine (congrArg Host.Outcome.next (State.ptpTake_cons h ht _)).trans ?_
  simp only [h2, Bool.false_eq_true, if_false]
  rfl

theorem exec_sync_twoStep {x : PtpRx} {rest : List PtpRx} {s : State} (h : s.sw.ptpIn = x :: rest) (ht : ptpType x.msg = 0)
    (h2 : ptpTwoStep x.msg = true) :
    exec .sync s = .next { s.withPtpIn rest with time := { s.time with ptp := { s.time.ptp with
      lastSync := s.now, pendingSync := some ⟨ptpSource x.msg, ptpSeq x.msg, x.stamp * nsUnit, x.at_, ptpCorr x.msg⟩ } } } := by
  refine (congrArg Host.Outcome.next (State.ptpTake_cons h ht _)).trans ?_
  simp only [h2, if_true]
  rfl

/-- A Follow_Up completes the Sync that waits for it, or is dropped. -/
theorem exec_followUp {x : PtpRx} {rest : List PtpRx} {s : State} {p : PendingSync} (h : s.sw.ptpIn = x :: rest) (ht : ptpType x.msg = 8)
    (hp : s.time.ptp.pendingSync = some p) :
    exec .followUp s = .next (if p.source = ptpSource x.msg ∧ p.seq = ptpSeq x.msg
      then (s.withPtpIn rest).ptpUpdate p.rxAt p.rxOut (ptpStamp x.msg + p.corr + ptpCorr x.msg) else s.withPtpIn rest) := by
  have hp' : (s.withPtpIn rest).time.ptp.pendingSync = some p := hp
  refine (congrArg Host.Outcome.next (State.ptpTake_cons h ht _)).trans ?_
  simp only [hp']

/-- A Delay_Resp that answers the Delay_Req sent gives the mean path delay. -/
theorem exec_delayResp {x : PtpRx} {rest : List PtpRx} {s : State} {t3 : Nat} {d : Int} (h : s.sw.ptpIn = x :: rest)
    (ht : ptpType x.msg = 9) (hr : s.time.ptp.delayReq = some (ptpSeq x.msg, t3)) (hd : s.time.ptp.syncDelta = some d)
    (hi : beValue ((x.msg.drop 44).take 10) = Config.clockIdentity % 2 ^ 64 * 65536 + (x.port + 1)) :
    exec .delayResp s = .next (State.setF
      { s.withPtpIn rest with time := { s.time with ptp := { s.time.ptp with
        mpd := some ((d + ((ptpStamp x.msg : Int) - ptpCorr x.msg - t3)) / 2), delayReq := none } } }
      F.TIME_B_MPD_MPD (ofSigned 32 ((d + ((ptpStamp x.msg : Int) - ptpCorr x.msg - t3)) / 2 / 2 ^ 28))) := by
  refine (congrArg Host.Outcome.next (State.ptpTake_cons h ht _)).trans ?_
  split
  · next seq t d' hr' hd' =>
    obtain ⟨rfl, rfl⟩ := Prod.mk.inj (Option.some.inj (hr.symm.trans hr'))
    obtain rfl := Option.some.inj (hd.symm.trans hd')
    rw [if_pos ⟨rfl, hi⟩]
    rfl
  · next hno => exact absurd hd (hno _ _ _ hr)

theorem ofSigned_lt (w : Nat) (v : Int) : ofSigned w v < 2 ^ w := by
  have hpos : (0 : Int) < 2 ^ w := by positivity
  have hlt : v % 2 ^ w < ((2 ^ w : Nat) : Int) := by
    push_cast
    exact Int.emod_lt_of_pos v hpos
  unfold ofSigned
  have := Int.emod_nonneg v hpos.ne'
  omega

/-! ## Announce (R111) -/

/-- The state after an Announce has been taken, with its clockClass and stepsRemoved in their fields; `rest` are the messages behind it. -/
def State.announced (s : State) (x : PtpRx) (rest : List PtpRx) : State :=
  (State.setF { s.withPtpIn rest with time := { s.time with ptp := { s.time.ptp with
      lastAnnounce := s.now, class248 := decide (248 ≤ (x.msg.getD 48 0).toNat), steps := beValue ((x.msg.drop 61).take 2) } } }
    F.TIME_B_MASTER_CLASS (x.msg.getD 48 0).toNat).setF F.TIME_B_MASTER_STEPS (beValue ((x.msg.drop 61).take 2) % 256)

theorem exec_announce {x : PtpRx} {rest : List PtpRx} {s : State} (h : s.sw.ptpIn = x :: rest) (ht : ptpType x.msg = 11) :
    exec .announce s = .next (if decide (248 ≤ (x.msg.getD 48 0).toNat)
      then (s.announced x rest).raise 0x041 4 else s.announced x rest) :=
  congrArg Host.Outcome.next (State.ptpTake_cons h ht _)

theorem State.announced_class (s : State) (x : PtpRx) (rest : List PtpRx) :
    (s.announced x rest).getF F.TIME_B_MASTER_CLASS = (x.msg.getD 48 0).toNat := by
  have hother (t : State) (v : Nat) : (t.setF F.TIME_B_MASTER_STEPS v).getF F.TIME_B_MASTER_CLASS = t.getF F.TIME_B_MASTER_CLASS :=
    State.getF_setF_otherBits (by decide) (by decide) (by decide) (by decide) rfl (by decide)
  exact (hother ..).trans ((State.getF_setF_same (by decide) (by decide)).trans (Nat.mod_eq_of_lt (BitVec.isLt _)))

theorem State.announced_steps (s : State) (x : PtpRx) (rest : List PtpRx) :
    (s.announced x rest).getF F.TIME_B_MASTER_STEPS = beValue ((x.msg.drop 61).take 2) % 256 :=
  (State.getF_setF_same (by decide) (by decide)).trans (Nat.mod_mod _ _)

theorem State.announced_only (s : State) (x : PtpRx) (rest : List PtpRx) :
    TimeFrame (s.withPtpIn rest) (s.announced x rest) ∧ (s.announced x rest).time = { s.time with ptp := { s.time.ptp with
      lastAnnounce := s.now, class248 := decide (248 ≤ (x.msg.getD 48 0).toNat), steps := beValue ((x.msg.drop 61).take 2) } } :=
  ⟨((TimeFrame.withTime ..).trans (.setF ..)).trans (.setF ..), (State.setF_time ..).trans (State.setF_time ..)⟩

/-- Settles O13: the message at the front decides the row, and each row changes the engine's records, which an update of domain B and a
frame that is queued keep. -/
theorem ptpMessagesAreTaken : Obligations.PtpMessagesAreTaken := by
  refine ⟨?syncTwoStep, ?syncOneStep, ?followUp, ?delayReq, ?delayResp, ?announce, ?noMessage, ?masterSend, ?delayReqSend,
    ?portSwitched⟩
  case syncTwoStep => exact fun x rest s h ht h2 => exec_sync_twoStep h ht h2
  case syncOneStep =>
    intro x rest s h ht h2
    exact ⟨_, exec_sync_oneStep h ht h2, State.ptpUpdate_records ..⟩
  case followUp =>
    intro x rest s p h ht hp
    have hexec := exec_followUp h ht hp
    refine ⟨fun hm => ?_, fun hm => ?_⟩
    · rw [if_pos hm] at hexec
      exact ⟨_, hexec, (State.ptpUpdate_records ..).2⟩
    · rwa [if_neg (fun h => hm.elim (· h.1) (· h.2))] at hexec
  case delayReq => exact fun x rest s h ht => congrArg Host.Outcome.next (State.ptpTake_cons h ht _)
  case delayResp =>
    intro x rest s t3 d h ht hr hd hi
    refine ⟨_, exec_delayResp h ht hr hd hi, ?_, State.setF_only ..⟩
    exact (State.getF_setF_same (by decide) (by decide)).trans (Nat.mod_eq_of_lt (ofSigned_lt 32 _))
  case announce =>
    intro x rest s h ht
    obtain ⟨hframe, htime⟩ := s.announced_only x rest
    have hclass := s.announced_class x rest
    have hsteps := s.announced_steps x rest
    refine ⟨_, exec_announce h ht, ?_⟩
    by_cases hc : 248 ≤ (x.msg.getD 48 0).toNat
    · rw [if_pos (decide_eq_true hc)]
      have hreg : ((s.announced x rest).raise 0x041 4).reg 0x4107C = (s.announced x rest).reg 0x4107C :=
        State.reg_setF_other (f := ⟨0x41010, 4, 4⟩) (by decide) (by decide)
      refine ⟨(State.getF_of_reg_eq (by decide) hreg).trans hclass, (State.getF_of_reg_eq (by decide) hreg).trans hsteps,
        fun _ => State.event_raise_same _ _ (by decide), ?_⟩
      exact (hframe.trans (.raise ..)).with_time ((State.raise_time ..).trans htime)
    · rw [if_neg (by simpa using hc)]
      exact ⟨hclass, hsteps, fun h => absurd h hc, hframe.with_time htime⟩
  case noMessage =>
    intro s h
    have take (type : Nat) (k : PtpRx → State → State) : Host.Outcome.next (s.ptpTake type k) = (.next s : Res) :=
      congrArg _ (State.ptpTake_nil h type k)
    exact ⟨take .., take .., take .., take .., take ..⟩
  case masterSend =>
    intro s h
    exact ⟨_, exec_ptpMasterSend h,
      fun p hp => ⟨fun hd => sentAt_foldl State.sendMaster_now State.sendMaster_syncSentAt (.inr ⟨hp, hd⟩),
        fun hd => sentAt_foldl State.sendMaster_now State.sendMaster_announceSentAt (.inr ⟨hp, hd⟩)⟩,
      SendFrame.foldl SendFrame.sendMaster _ _⟩
  case delayReqSend =>
    intro s he hp hd
    obtain ⟨p, msg, hexec⟩ := exec_delayReqSend he hp hd
    have hq := QueueFrame.ptpQueue { s with time := { s.time with ptp := { s.time.ptp with
      delaySeq := (s.time.ptp.delaySeq + 1) % 65536, delaySentAt := some s.now } } } p msg (some .delayReq)
    exact ⟨_, hexec, by rw [hq.time], by rw [hq.time], (SendFrame.withPtp s _).trans hq.sendFrame⟩
  case portSwitched =>
    intro s he hb hp ha
    obtain ⟨htime, hannounce⟩ := s.ptpBackup_time
    have hservo : s.ptpBackup.flag (F.TIME_D_CTRL_SERVO_EN 1) = s.flag (F.TIME_D_CTRL_SERVO_EN 1) :=
      congrArg (· == 1) (State.getF_of_reg_eq (by decide) (State.ptpBackup_reg (by decide) (by decide)))
    have hdomB : s.ptpBackup.time.domB = s.time.domB := by rw [htime]
    have hevent : s.ptpBackup.event 0x041 3 = true := State.event_raise_same _ _ (by decide)
    refine ⟨_, exec_slavePortSwitched he hb hp ha, ?_⟩
    rw [hservo, hdomB]
    by_cases hstay : s.flag (F.TIME_D_CTRL_SERVO_EN 1) = false ∨ s.time.domB.state = .frozen
    · rw [if_pos (by simpa using hstay)]
      exact ⟨s.ptpBackup_active, hevent, hannounce, fun h1 h2 => by simp [h1, h2] at hstay, fun _ => hdomB, TimeFrame.ptpBackup s⟩
    · rw [if_neg (by simpa using hstay)]
      set u := s.ptpBackup.setDom 2 { s.time.domB with good := 0 }
      have hout : RaisesOut s.ptpBackup (u.domState 2 .acquire) := (RaisesOut.setDom ..).trans (RaisesOut.domState ..)
      have hptp : KeepsPtp s.ptpBackup (u.domState 2 .acquire) := (KeepsPtp.setDom ..).trans (KeepsPtp.domState ..)
      refine ⟨(hout.getF _ (by decide) (by decide)).trans s.ptpBackup_active,
        (State.event_of_reg_eq (hout.reg _ (by decide))).trans hevent,
        (congrArg PtpSt.lastAnnounce hptp.ptp).trans hannounce, fun _ _ => ?_, fun h => absurd h hstay, (TimeFrame.ptpBackup s).trans hout.frame⟩
      exact congrArg Domain.state (State.dom_domState u 2 .acquire)

end Sys2Proof.Machine
end

section
/-! Pulse outputs and capture inputs (R106, R112 to R114). -/

namespace Sys2Proof.Machine

/-! ## Pulse outputs (R112, R113) -/

/-- A pulse output whose next instant has been taken past the interval that was jumped over last (R106). -/
def Pulse.ahead (p : Pulse) : Option (Nat × Nat) → Pulse
  | none => p
  | some (lo, hi) => (p.jumpTo lo hi).2

/-- Between two states the registers and the time base may change, and of the pulse outputs only `i` does, to `p`. -/
structure SetsPulse (s t : State) (i : Nat) (p : Pulse) : Prop where
  frame : TimeFrame s t
  same : t.pulse i = p
  other : ∀ j, j ≠ i → t.pulse j = s.pulse j

theorem SetsPulse.setPulse (s : State) (i : Nat) (p : Pulse) : SetsPulse s (s.setPulse i p) i p :=
  ⟨rfl, Assoc.get_put_same, fun _ h => Assoc.get_put_other h⟩

theorem State.pulse_respond (s : State) (i : Nat) : (s.respond 0 false).pulse i = s.pulse i := rfl

theorem State.pulseSkip_time (s : State) (i n : Nat) : (s.pulseSkip i n).time = s.time := by
  unfold State.pulseSkip
  split
  · rfl
  · simp

/-- Counting skipped instants touches no pulse output. -/
theorem SetsPulse.pulseSkip {s t : State} {i : Nat} {p : Pulse} (h : SetsPulse s t i p) (j n : Nat) :
    SetsPulse s (t.pulseSkip j n) i p where
  frame := h.frame.trans (.pulseSkip ..)
  same := by
    unfold State.pulse
    rw [State.pulseSkip_time]
    exact h.same
  other k hk := by
    unfold State.pulse
    rw [State.pulseSkip_time]
    exact h.other k hk

theorem SetsPulse.putPulse (s : State) (i : Nat) (p : Pulse) : SetsPulse s (s.putPulse i p) i (p.ahead s.time.jump) := by
  unfold State.putPulse
  cases s.time.jump with
  | none => exact setPulse s i p
  | some e => exact (setPulse ..).pulseSkip i _

/-- A commit keeps whether the pulse is active, and sets what was committed (R113). -/
theorem State.pulseCommit_sets (s : State) (i : Nat) (en gate invert : Bool) (start period width : Nat) :
    ∃ next, SetsPulse s (s.pulseCommit i (en, gate, invert, start, period, width)) i { s.pulse i with
      en := en, gate := gate, invert := invert, start := start, period := period, width := width, nextAt := next, commit := none } := by
  unfold State.pulseCommit
  dsimp only
  exact ⟨_, (SetsPulse.setPulse ..).pulseSkip i _⟩

/-- Event 7 of TIME_OUT tells of a skipped instant. -/
theorem State.pulseSkip_event (s : State) (i : Nat) : (s.pulseSkip i 1).event 0x042 7 = true := by
  unfold State.pulseSkip
  rw [if_neg Nat.one_ne_zero]
  exact State.event_raise_same _ _ (by decide)

/-! ## What PULSE_EDGE and PULSE_CTRL do -/

/-- The next instant of a pulse output at which a pulse falls due: none where there is no period. -/
def Pulse.following (p : Pulse) (a : Nat) : Pulse := { p with nextAt := if p.period = 0 then none else some (a + p.period) }

theorem exec_pulseEdge_rise {out : Fin 16} {a : Nat} {s : State} (hi : (s.pulse out.val).active = false)
    (ha : (s.pulse out.val).nextAt = some a) (he : (s.pulse out.val).en = true) (hd : a ≤ s.taiNs) :
    exec (.pulseEdge out) s = .next (if (s.pulse out.val).gate && !s.time.valid
      then (s.putPulse out.val ((s.pulse out.val).following a)).pulseSkip out.val 1
      else s.putPulse out.val { (s.pulse out.val).following a with active := true, fallAt := a + (s.pulse out.val).width }) := by
  show execPulseEdge out s = _
  unfold execPulseEdge
  dsimp only
  rw [if_neg (by simp [hi])]
  split
  · next t ht =>
    obtain rfl := Option.some.inj (ha.symm.trans ht)
    rw [if_pos ⟨hd, he⟩]
    rfl
  · next hn => cases ha.symm.trans hn

theorem exec_pulseEdge_fall {out : Fin 16} {s : State} (hi : (s.pulse out.val).active = true) (hd : (s.pulse out.val).fallAt ≤ s.taiNs)
    (hc : (s.pulse out.val).commit = none) :
    exec (.pulseEdge out) s = .next (s.setPulse out.val { s.pulse out.val with active := false }) := by
  show execPulseEdge out s = _
  simp only [execPulseEdge, hi, hd, hc, if_true]

/-- The parameters that are staged for pulse output `i` (R113, R118). -/
def State.stagedStart (s : State) (i : Nat) : Nat :=
  s.getF (F.TIME_OUT_PULSE_START_SEC_SECONDS.win i) * 1000000000 + s.getF (F.TIME_OUT_PULSE_START_NS_NS.win i)

def State.stagedPeriod (s : State) (i : Nat) : Nat := s.getF (F.TIME_OUT_PULSE_PERIOD_NS_PERIOD.win i)

def State.stagedWidth (s : State) (i : Nat) : Nat := s.getF (F.TIME_OUT_PULSE_WIDTH_NS_WIDTH.win i)

/-- The state with the flags of pulse output `i` in TIME_OUT_PULSE_CTRL. -/
def State.pulseFlags (s : State) (i : Nat) (en gate invert : Bool) : State :=
  ((s.setFlag (F.TIME_OUT_PULSE_CTRL_EN.win i) en).setFlag (F.TIME_OUT_PULSE_CTRL_GATE_VALID.win i) gate).setFlag
    (F.TIME_OUT_PULSE_CTRL_INVERT.win i) invert

theorem State.pulseFlags_frame (s : State) (i : Nat) (en gate invert : Bool) :
    TimeFrame s (s.pulseFlags i en gate invert) ∧ (s.pulseFlags i en gate invert).time = s.time := by
  unfold State.pulseFlags State.setFlag
  exact ⟨((TimeFrame.setF ..).trans (.setF ..)).trans (.setF ..), by simp⟩

/-- PULSE_CTRL on the output that the index register selects. -/
theorem exec_pulseCtrl {who : Initiator} {en gate invert : Bool} {s : State} {i : Nat} (ho : s.opens who 0x420C4 true = true)
    (hi : s.getF F.TIME_OUT_PULSE_INDEX_INDEX = i) (hw : 8 ≤ s.stagedWidth i)
    (hp : s.stagedPeriod i = 0 ∨ 20 ≤ s.stagedPeriod i ∧ s.stagedWidth i + 8 ≤ s.stagedPeriod i) :
    exec (.pulseCtrl who en gate invert) s = .next (State.respond (if (s.pulse i).active
      then (s.pulseFlags i en gate invert).setPulse i
        { s.pulse i with commit := some (en, gate, invert, s.stagedStart i, s.stagedPeriod i, s.stagedWidth i) }
      else (s.pulseFlags i en gate invert).pulseCommit i
        (en, gate, invert, s.stagedStart i, s.stagedPeriod i, s.stagedWidth i)) 0 false) := by
  subst hi
  have hpulse (i : Nat) : (s.pulseFlags i en gate invert).pulse i = s.pulse i := by
    unfold State.pulse
    rw [(State.pulseFlags_frame ..).2]
  refine (congrArg Host.Outcome.next (State.command_of_opens ho)).trans ?_
  rw [if_neg]
  · rw [← hpulse]
    rfl
  · unfold State.stagedWidth at hw
    unfold State.stagedWidth State.stagedPeriod at hp
    simpa [hw, or_iff_not_imp_left] using hp

theorem exec_pulseCtrl_refused {who : Initiator} {en gate invert : Bool} {s : State} {i : Nat} (ho : s.opens who 0x420C4 true = true)
    (hi : s.getF F.TIME_OUT_PULSE_INDEX_INDEX = i)
    (h : s.stagedWidth i < 8 ∨ (s.stagedPeriod i ≠ 0 ∧ (s.stagedPeriod i < 20 ∨ s.stagedPeriod i < s.stagedWidth i + 8))) :
    exec (.pulseCtrl who en gate invert) s = .next ((s.accessErr 0x10 who 0x420C4).respond 0 false) := by
  subst hi
  refine (congrArg Host.Outcome.next (State.command_of_opens ho)).trans ?_
  rw [if_pos]
  unfold State.stagedWidth State.stagedPeriod at h
  simp only [Bool.not_eq_true', Bool.and_eq_false_iff, Bool.or_eq_false_iff, decide_eq_false_iff_not, beq_eq_false_iff_ne, Nat.not_le]
  exact h

end Sys2Proof.Machine
end

section
/-! Capture inputs, and the statement on pulses and captures (R112 to R114). -/

namespace Sys2Proof.Machine

/-! ## Captures (R114) -/

theorem bitAt_eq_testBit (v i : Nat) : bitAt v i = v.testBit i := by
  rw [bitAt, Nat.testBit_eq_decide_div_mod_eq, beq_eq_decide]

/-- The two bits of TIME_EVT_CTRL.EDGE of capture input `n`. -/
def State.edgeMode (s : State) (n : Nat) : Nat := bitsOf (s.getF F.TIME_EVT_CTRL_EDGE) (2 * n + 1) (2 * n)

/-- The edges in a direction are enabled by the bit of that direction. -/
def edgeEnabled (mode : Nat) (rising : Bool) : Prop := if rising then mode % 2 ≠ 0 else mode / 2 ≠ 0

theorem edgeEnabled_iff {mode : Nat} {rising : Bool} :
    edgeEnabled mode rising ↔ ¬ (if rising then mode % 2 = 0 else mode / 2 = 0) := by
  cases rising <;> rfl

/-- When the last edge of capture input `n` gave or lost a stamp. -/
def State.lastCapture (s : State) (n : Nat) : Nat := Assoc.get (fun _ => 0) s.time.capLast n

/-- The state with an edge noted on capture input `n`. -/
def State.noteCapture (s : State) (n : Nat) : State :=
  { s with time := { s.time with capLast := Assoc.put (fun _ => 0) s.time.capLast n s.now } }

/-- The entry of the log of a capture input (R114). -/
def State.captureStamp (s : State) (rising : Bool) : List Word :=
  [BitVec.ofNat 32 (2 ^ 31 + bit rising * 2 ^ 30 + s.taiNsec), BitVec.ofNat 32 s.taiSec,
    BitVec.ofNat 32 (s.quality * 2 ^ 24 + s.taiSec / 2 ^ 32 % 2 ^ 16)]

/-- The state with a stamp appended to the log of capture input `n`. -/
def State.logCapture (s : State) (n : Nat) (rising : Bool) : State :=
  ((s.noteCapture n).setFifo (0x43080 + 0x10 * n) (s.fifo (0x43080 + 0x10 * n) ++ [s.captureStamp rising])).raise 0x043 n

/-- The state with a stamp of capture input `n` lost. -/
def State.loseCapture (s : State) (n : Nat) : State :=
  (((s.noteCapture n).setF F.TIME_EVT_STAT_OVF (s.getF F.TIME_EVT_STAT_OVF ||| 2 ^ n)).bump F.TIME_EVT_LOST_COUNT).raise 0x043 8

theorem exec_captureEdge_disabled {input : Fin 8} {rising : Bool} {s : State}
    (h : if rising then s.edgeMode input.val % 2 = 0 else s.edgeMode input.val / 2 = 0) : exec (.captureEdge input rising) s = .next s :=
  congrArg Host.Outcome.next (if_pos h)

theorem exec_captureEdge_near {input : Fin 8} {rising : Bool} {s : State} (h : edgeEnabled (s.edgeMode input.val) rising)
    (h0 : s.lastCapture input.val ≠ 0) (hn : s.now < s.lastCapture input.val + 16) : exec (.captureEdge input rising) s = .next s :=
  congrArg Host.Outcome.next ((if_neg (edgeEnabled_iff.1 h)).trans (if_pos ⟨h0, hn⟩))

/-- An enabled edge that is not near to the one before is logged, or lost where the log is full. -/
theorem exec_captureEdge {input : Fin 8} {rising : Bool} {s : State} (h : edgeEnabled (s.edgeMode input.val) rising)
    (hn : s.lastCapture input.val = 0 ∨ s.lastCapture input.val + 16 ≤ s.now) :
    exec (.captureEdge input rising) s =
      .next (if 16 ≤ (s.fifo (0x43080 + 0x10 * input.val)).length then s.loseCapture input.val else s.logCapture input.val rising) := by
  have hfar : ¬ (s.lastCapture input.val ≠ 0 ∧ s.now < s.lastCapture input.val + 16) := by omega
  exact congrArg Host.Outcome.next ((if_neg (edgeEnabled_iff.1 h)).trans (if_neg hfar))

theorem State.logCapture_only (s : State) (n : Nat) (rising : Bool) : s.logCapture n rising =
    { s with regs := (s.logCapture n rising).regs, fifos := (s.logCapture n rising).fifos, time := (s.logCapture n rising).time } := by
  unfold State.logCapture
  rw [State.raise_fifos]
  exact TimeFrame.raise ..

theorem State.loseCapture_frame (s : State) (n : Nat) : TimeFrame s (s.loseCapture n) :=
  (((TimeFrame.withTime s _).trans (.setF ..)).trans (.bumpBy ..)).trans (.raise ..)

/-- The overflow flag of the input is set (R114). -/
theorem State.loseCapture_overflow (s : State) {n : Nat} (hn : n < 8) : bitAt ((s.loseCapture n).getF F.TIME_EVT_STAT_OVF) n = true := by
  have hreg : (s.loseCapture n).reg 0x43044 =
      ((s.noteCapture n).setF F.TIME_EVT_STAT_OVF (s.getF F.TIME_EVT_STAT_OVF ||| 2 ^ n)).reg 0x43044 :=
    (State.reg_setF_other (f := ⟨0x43010, 8, 8⟩) (by decide) (by decide)).trans
      (State.reg_setF_other (f := F.TIME_EVT_LOST_COUNT) (by decide) (by decide))
  rw [State.getF_of_reg_eq (by decide) hreg, State.getF_setF_same (by decide) (by decide), bitAt_eq_testBit, Nat.testBit_mod_two_pow,
    Nat.testBit_or, Nat.testBit_two_pow_self, Bool.or_true, Bool.and_true]
  exact decide_eq_true hn

@[simp] theorem State.lastCapture_noteCapture (s : State) (n : Nat) : (s.noteCapture n).lastCapture n = s.now := Assoc.get_put_same

theorem State.lastCapture_logCapture (s : State) (n : Nat) (rising : Bool) : (s.logCapture n rising).lastCapture n = s.now := by
  unfold State.logCapture State.lastCapture
  rw [State.raise_time]
  exact s.lastCapture_noteCapture n

theorem State.lastCapture_loseCapture (s : State) (n : Nat) : (s.loseCapture n).lastCapture n = s.now := by
  unfold State.loseCapture State.lastCapture
  rw [State.raise_time, State.bump_time, State.setF_time]
  exact s.lastCapture_noteCapture n

/-- Settles O14: a pulse output is set alone, past what was jumped over, and each row of the captures notes its edge first. -/
theorem pulsesAndCaptures : Obligations.PulsesAndCaptures := by
  refine ⟨?rise, ?fall, ?pulseCtrl, ?captureEdge⟩
  case rise =>
    intro out a s hi ha he hd p next ahead
    have hexec := exec_pulseEdge_rise hi ha he hd
    have hahead (q : Pulse) : ahead q = q.ahead s.time.jump := by
      show (match s.time.jump with | none => q | some (lo, hi) => (q.jumpTo lo hi).2) = _
      cases s.time.jump <;> rfl
    refine ⟨fun hg => ?_, fun hg hv => ?_⟩
    · rw [if_neg (by rcases hg with hg | hg <;> simp [p, hg])] at hexec
      obtain ⟨hframe, hsame, hother⟩ := SetsPulse.putPulse s out.val { p.following a with active := true, fallAt := a + p.width }
      exact ⟨_, hexec, hsame.trans (hahead _).symm, hother, hframe⟩
    · rw [if_pos (by simp [p, hg, hv])] at hexec
      obtain ⟨hframe, hsame, hother⟩ := (SetsPulse.putPulse s out.val (p.following a)).pulseSkip out.val 1
      exact ⟨_, hexec, hsame.trans (hahead _).symm, State.pulseSkip_event .., hother, hframe⟩
  case fall =>
    intro out s hi hd hc
    obtain ⟨-, hsame, hother⟩ := SetsPulse.setPulse s out.val { s.pulse out.val with active := false }
    exact ⟨_, exec_pulseEdge_fall hi hd hc, hsame, hother, rfl⟩
  case pulseCtrl =>
    intro who en gate invert s ho i period width
    obtain ⟨hframe, htime⟩ := s.pulseFlags_frame i en gate invert
    have hpulse (j : Nat) : (s.pulseFlags i en gate invert).pulse j = s.pulse j := by
      unfold State.pulse
      rw [htime]
    refine ⟨fun hw hp hi => ?_, fun hw hp hi => ?_, exec_pulseCtrl_refused ho rfl⟩
    · have hexec := exec_pulseCtrl (en := en) (gate := gate) (invert := invert) ho rfl hw hp
      rw [if_neg (by rw [hi]; exact Bool.false_ne_true)] at hexec
      obtain ⟨next, hset⟩ := (s.pulseFlags i en gate invert).pulseCommit_sets i en gate invert (s.stagedStart i) period width
      have hothers (j : Nat) (hj : j ≠ i) := (State.pulse_respond _ j).trans ((hset.other j hj).trans (hpulse j))
      have hsame := (State.pulse_respond ..).trans hset.same
      rw [hpulse] at hsame
      refine ⟨_, hexec, ?_, ?_, ?_, ?_, ?_, ?_, hothers, (hframe.trans hset.frame).respond⟩
      · exact congrArg Pulse.en hsame
      · exact congrArg Pulse.gate hsame
      · exact congrArg Pulse.invert hsame
      · exact congrArg Pulse.period hsame
      · exact congrArg Pulse.width hsame
      · exact (congrArg Pulse.active hsame).trans hi
    · have hexec := exec_pulseCtrl (en := en) (gate := gate) (invert := invert) ho rfl hw hp
      rw [if_pos hi] at hexec
      have hset := SetsPulse.setPulse (s.pulseFlags i en gate invert) i
        { s.pulse i with commit := some (en, gate, invert, s.stagedStart i, period, width) }
      have hothers (j : Nat) (hj : j ≠ i) := (State.pulse_respond _ j).trans ((hset.other j hj).trans (hpulse j))
      exact ⟨_, hexec, ⟨_, (State.pulse_respond ..).trans hset.same⟩, hothers, (hframe.trans hset.frame).respond⟩
  case captureEdge =>
    intro input rising s mode key last
    refine ⟨exec_captureEdge_disabled, exec_captureEdge_near, fun he hn => ⟨fun hl => ?_, fun hl => ?_⟩⟩
    · have hexec := exec_captureEdge he hn
      rw [if_neg (Nat.not_le.2 hl)] at hexec
      refine ⟨_, hexec, ?_, State.event_raise_same _ _ (by omega), s.lastCapture_logCapture .., s.logCapture_only ..⟩
      unfold State.fifo State.logCapture
      rw [State.raise_fifos]
      exact Assoc.get_put_same
    · have hexec := exec_captureEdge he hn
      rw [if_pos hl] at hexec
      refine ⟨_, hexec, ?_, State.event_raise_same _ _ (by decide), s.loseCapture_overflow input.isLt, s.lastCapture_loseCapture _,
        s.loseCapture_frame _⟩
      simp [State.loseCapture, State.noteCapture]

end Sys2Proof.Machine
end

section
/-! The contexts of the tiles, and what the running context of a tile makes of its script word (R133). -/

namespace Sys2Proof.Machine

/-! ## Contexts -/

@[simp] theorem State.ctx_setCtx_same (s : State) (n k : Nat) (c : RunCtx) : (s.setCtx n k c).ctx n k = c := Assoc.get_put_same

theorem State.ctx_setCtx_other {s : State} {n k n' k' : Nat} {c : RunCtx} (h : 2 * n' + k' ≠ 2 * n + k) :
    (s.setCtx n k c).ctx n' k' = s.ctx n' k' := Assoc.get_put_other h

theorem OnlyCtx.setCtx (s : State) (n k : Nat) (c : RunCtx) : OnlyCtx s (s.setCtx n k c) n k c :=
  ⟨s.ctx_setCtx_same n k c, fun _ _ => State.ctx_setCtx_other, rfl⟩

/-! ## Script operations -/

/-- A page that is powered carries out what its block does. -/
theorem State.live_of_powered {s : State} {p : Nat} {r : Res} (h : s.pagePowered p = true) : s.live p r = r := if_pos h

/-- The script word at which context `k` of tile `n` stands. -/
def State.wordHere (s : State) (n k : Nat) : Nat := (s.ctx n k).script.getD (s.ctx n k).index 0

theorem State.argA_wordHere (s : State) (n k : Nat) : argA (s.wordHere n k) = s.wordA n k := rfl

theorem State.argB_wordHere (s : State) (n k : Nat) : argB (s.wordHere n k) = s.wordB n k := rfl

theorem State.macroOp_of_atWord {s : State} {n k op : Nat} {f : Nat → RunCtx → Nat → State} (h : s.atWord n k op) :
    s.macroOp n op f = f k (s.ctx n k) (s.wordHere n k) := by
  obtain ⟨-, hrun, htest, hop⟩ := h
  unfold State.macroOp
  rw [hrun]
  exact if_neg (by rw [htest, hop]; simp)

/-- A script word of another operation is not carried out. -/
theorem State.macroOp_of_otherWord {s : State} {n k op op' : Nat} {f : Nat → RunCtx → Nat → State} (h : s.atWord n k op)
    (hne : op' ≠ op) : s.macroOp n op' f = s := by
  obtain ⟨-, hrun, -, hop⟩ := h
  unfold State.macroOp
  rw [hrun]
  exact if_pos (by rw [hop]; simp [hne.symm])

theorem exec_otherWord {c : Instr} {s : State} {n k op op' : Nat} {f : Nat → RunCtx → Nat → State}
    (hexec : exec c s = s.live 0x060 (.next (s.macroOp n op' f))) (h : s.atWord n k op) (hne : op' ≠ op) : exec c s = .next s := by
  rw [hexec, State.live_of_powered h.1, State.macroOp_of_otherWord h hne]

/-- A script operation that stores `f` of its run and its script word completes in a state in which only that context has changed. -/
theorem completes_macroOp {c : Instr} {s : State} {n k op : Nat} {f : RunCtx → Nat → RunCtx} {P : State → Prop}
    (hexec : exec c s = s.live 0x060 (.next (s.macroOp n op fun i r w => s.setCtx n i (f r w)))) (h : s.atWord n k op)
    (hp : ∀ t, OnlyCtx s t n k (f (s.ctx n k) (s.wordHere n k)) → P t) : Completes c s P := by
  refine ⟨s.setCtx n k (f (s.ctx n k) (s.wordHere n k)), ?_, hp _ (OnlyCtx.setCtx ..)⟩
  rw [hexec, State.live_of_powered h.1, State.macroOp_of_atWord h]

end Sys2Proof.Machine
end

section
/-! What the script operations make of a run (R136 to R142): each keeps the script index, which the step past the word advances. -/

namespace Sys2Proof.Machine

/-! ## DDFORM (R136, R153) -/

/-- The satellites common to a run's frame and its base set. -/
def RunCtx.commonSats (c : RunCtx) : List Nat := ((c.frame.sats.map fun o => o.sat).filter fun x => c.hasBoth x 0 || c.hasBoth x 1).take 48

theorem State.ddAgainst_few {s : State} {c : RunCtx} {b : BaseSet} {m : Nat}
    (h : { c with base := some b }.commonSats.length < if m = 0 then 5 else m) :
    s.ddAgainst c b m = { c with base := some b, common := { c with base := some b }.commonSats, nodd := 2 } := if_pos h

theorem State.ddAgainst_enough {s : State} {c : RunCtx} {b : BaseSet} {m : Nat}
    (h : ¬ { c with base := some b }.commonSats.length < if m = 0 then 5 else m) :
    s.ddAgainst c b m = { c with
      base := some b, common := { c with base := some b }.commonSats, nodd := 0
      filter := { s.formStates { c with base := some b } { c with base := some b }.commonSats with member := b.member } } := if_neg h

@[simp] theorem State.ddAgainst_index (s : State) (c : RunCtx) (b : BaseSet) (m : Nat) : (s.ddAgainst c b m).index = c.index := by
  by_cases h : { c with base := some b }.commonSats.length < if m = 0 then 5 else m
  · rw [State.ddAgainst_few h]
  · rw [State.ddAgainst_enough h]

/-- The filter that DDFORM forms is over the common satellites, against the reference chosen of them. -/
theorem State.formStates_sats (s : State) (c : RunCtx) (common : List Nat) :
    (s.formStates c common).sats.map (fun e => e.sat) = common ∧ (s.formStates c common).ref = c.chooseRefSat common := by
  refine ⟨?_, rfl⟩
  show (common.map c.satNow).map (fun e => e.sat) = common
  simp [Function.comp_def, RunCtx.satNow]

theorem State.opDdform_missing {s : State} {c : RunCtx} {m : Nat} (h : s.baseOf (s.runMember c.frame) c.frame.epoch = none) :
    s.opDdform c m = { c with base := none, nodd := 1 } := by
  unfold State.opDdform
  rw [h]

theorem State.opDdform_invalid {s : State} {c : RunCtx} {b : BaseSet} {m : Nat}
    (h : s.baseOf (s.runMember c.frame) c.frame.epoch = some b) (hv : b.valid = false) :
    s.opDdform c m = { c with base := some b, nodd := 1 } := by
  simp [State.opDdform, h, hv]

/-- Against the unit's own base set no base pair is needed. -/
theorem State.opDdform_own {s : State} {c : RunCtx} {b : BaseSet} {m : Nat} (h : s.baseOf (s.runMember c.frame) c.frame.epoch = some b)
    (hv : b.valid = true) (hm : b.member = s.member) (hp : c.frame.pair = none) : s.opDdform c m = s.ddAgainst c b m := by
  cases ho : s.baseOf s.member c.frame.epoch with
  | none => simp [State.opDdform, h, hv, hp, ho]
  | some own => simp [State.opDdform, h, hv, hp, hm, ho]

@[simp] theorem State.opDdform_index (s : State) (c : RunCtx) (m : Nat) : (s.opDdform c m).index = c.index := by
  unfold State.opDdform
  split
  · rfl
  · split
    · rfl
    · split
      · rw [State.ddAgainst_index]
        split <;> rfl
      · dsimp only
        split
        · split
          · split <;> simp
          · simp
        · simp

/-! ## SLIPDET (R139) -/

/-- A signal of a common satellite that both sides have is marked slipped where one of the tests of R139 says so. -/
theorem State.mem_opSlipdet_slips {s : State} {c : RunCtx} {a x b : Nat} (hx : x ∈ c.common) (hb : b < 2) (h : c.hasBoth x b = true) :
    (x, b) ∈ (s.opSlipdet c a).slips ↔ (c.lockSlip x b || s.comboSlip c a x) = true := by
  have hsig : (x, b) ∈ c.common.flatMap fun x => [(x, 0), (x, 1)] := by
    refine List.mem_flatMap.2 ⟨x, hx, ?_⟩
    obtain rfl | rfl : b = 0 ∨ b = 1 := by omega
    · simp
    · simp
  show (x, b) ∈ List.filter _ _ ↔ _
  rw [List.mem_filter, and_iff_right hsig, h, Bool.true_and]

/-! ## UPDATE and CHECK (R138, R140) -/

/-- What the rows of an UPDATE of kind `kind` keep of a run. -/
structure KeptByUpdate (kind : Nat) (c d : RunCtx) : Prop where
  index : d.index = c.index
  sats : d.filter.sats = c.filter.sats
  phase : kind ≠ 1 → d.phase = c.phase
  skips : kind ≠ 1 → d.skips = c.skips

theorem KeptByUpdate.refl (kind : Nat) (c : RunCtx) : KeptByUpdate kind c c := ⟨rfl, rfl, fun _ => rfl, fun _ => rfl⟩

theorem KeptByUpdate.trans {kind : Nat} {c d e : RunCtx} (h : KeptByUpdate kind c d) (k : KeptByUpdate kind d e) :
    KeptByUpdate kind c e :=
  ⟨k.index.trans h.index, k.sats.trans h.sats, fun hk => (k.phase hk).trans (h.phase hk), fun hk => (k.skips hk).trans (h.skips hk)⟩

theorem KeptByUpdate.ite {kind : Nat} {c d e : RunCtx} {p : Prop} [Decidable p] (hd : KeptByUpdate kind c d) (he : KeptByUpdate kind c e) :
    KeptByUpdate kind c (if p then d else e) := by
  split
  · exact hd
  · exact he

theorem State.updateRow_keeps (s : State) (kind limit : Nat) (c : RunCtx) (e : Nat × Nat) :
    KeptByUpdate kind c (s.updateRow kind limit c e) := by
  unfold State.updateRow
  dsimp only
  split
  · split
    · next hk => exact ⟨rfl, rfl, fun _ => rfl, fun hne => absurd hk hne⟩
    · exact .refl kind c
  · exact ⟨rfl, rfl, fun hk => by simp [hk], fun _ => rfl⟩

theorem State.opUpdate_keeps (s : State) (c : RunCtx) (a b : Nat) : KeptByUpdate a c (s.opUpdate c a b) := by
  unfold State.opUpdate
  exact .ite (.refl a c) (List.foldlRecOn _ _ (.refl a c) fun d hd e _ => hd.trans (s.updateRow_keeps a _ d e))

theorem State.opUpdate_noRows {s : State} {c : RunCtx} {a b : Nat} (h : c.rows a = []) : s.opUpdate c a b = c := by
  unfold State.opUpdate
  rw [h]
  exact ite_self c

/-- Doppler rows are updated only for a frame that carries Doppler. -/
theorem State.opUpdate_noDoppler {s : State} {c : RunCtx} {b : Nat} (h : c.frame.doppler = false) : s.opUpdate c 2 b = c :=
  if_pos ⟨rfl, by simp [h]⟩

/-- The sum that CHECK takes over the innovations of a run. -/
theorem innovSquares_eq (l : List Nat) : l.foldl (fun a n => a + n * n) 0 = (l.map fun n => n * n).sum := by
  rw [List.sum_eq_foldl, List.foldl_map]

theorem State.opCheck_diverged {s : State} {c : RunCtx} {b : Nat}
    (h : (if b = 0 then 250 else b) * c.innovs.length * 2 ^ 32 < 10 * (c.innovs.map fun n => n * n).sum) :
    s.opCheck c b = { c with restart := true, diverged := true, phase := false, filter := s.codeRestart c } :=
  if_pos (by rwa [innovSquares_eq])

theorem State.opCheck_passed {s : State} {c : RunCtx} {b : Nat}
    (h : 10 * (c.innovs.map fun n => n * n).sum ≤ (if b = 0 then 250 else b) * c.innovs.length * 2 ^ 32) : s.opCheck c b = c :=
  if_neg (by rwa [innovSquares_eq, Nat.not_lt])

/-! ## SEARCH and VALIDATE (R141, R142) -/

theorem fit_length (n : Nat) (l : List Nat) : (fit n l).length = n := by
  simp only [fit, List.length_append, List.length_take, List.length_replicate]
  omega

/-- VALIDATE passes where SEARCH ended in its limit and both thresholds are met. -/
def State.validates (s : State) (c : RunCtx) : Bool :=
  c.searched && decide (s.getF F.SOLV_VALID_RATIO * c.norms.1 ≤ c.norms.2 * 256) &&
    decide (s.getF F.SOLV_VALID_PSUCC ≤ (s.runCalc c 0x09 (keyNums c.set ++ c.decor)).getD 0 0)

theorem State.opValidate_passed {s : State} {c : RunCtx} {a b : Nat} (h : s.validates c = true) :
    s.opValidate c a b = { c with valid := true, failed := false, index := c.index + 1 } := if_pos h

/-- A retry takes ambiguities out of the set and goes back to word B. -/
theorem State.opValidate_retry {s : State} {c : RunCtx} {a b : Nat} (h : s.validates c = false) (hr : c.retries < a)
    (hs : s.getF F.SOLV_PAR_MIN_AMB + s.getF F.SOLV_PAR_DROP ≤ c.set.length) :
    s.opValidate c a b = { c with
      retries := c.retries + 1, set := c.filter.dropLargest (s.getF F.SOLV_PAR_DROP) c.set, valid := false, failed := true, index := b } :=
  (if_neg (ne_true_of_eq_false h)).trans (if_pos ⟨hr, hs⟩)

theorem State.opValidate_failed {s : State} {c : RunCtx} {a b : Nat} (h : s.validates c = false)
    (hn : ¬ (c.retries < a ∧ s.getF F.SOLV_PAR_MIN_AMB + s.getF F.SOLV_PAR_DROP ≤ c.set.length)) :
    s.opValidate c a b = { c with valid := false, failed := true, index := c.index + 1 } :=
  (if_neg (ne_true_of_eq_false h)).trans (if_neg hn)

/-- Without an end of the search, or below the ratio, VALIDATE does not pass. -/
theorem State.validates_eq_false {s : State} {c : RunCtx} (h : c.searched = false ∨ c.norms.2 * 256 < s.getF F.SOLV_VALID_RATIO * c.norms.1) :
    s.validates c = false := by
  unfold State.validates
  rcases h with h | h
  · simp [h]
  · simp [Nat.not_le.2 h]

end Sys2Proof.Machine
end

section
/-! The statement on the script operations that work on the context alone. -/

namespace Sys2Proof.Machine

/-- Settles O19: a script operation stores what it makes of its run in the run's own context, and a word of another operation is not carried
out. -/
theorem scriptWords : Obligations.ScriptWords := by
  refine ⟨fun tile k s => ⟨?predict, ?ddform, ?slipdet, ?update⟩, fun tile k s => ⟨?check, ?decor, ?search, ?validate, ?branch, ?nop⟩,
    ?other⟩
  case predict =>
    intro h
    refine completes_macroOp rfl h fun t ht => ?_
    rw [ht.1]
    exact ⟨ht, rfl, rfl, rfl⟩
  case ddform =>
    intro h
    refine completes_macroOp rfl h fun t ht => ?_
    rw [State.opDdform_index, State.argA_wordHere] at ht
    rw [ht.1]
    refine ⟨ht, rfl, fun hb => by rw [State.opDdform_missing hb], fun b hb => ⟨fun hv => by rw [State.opDdform_invalid hb hv],
      fun hv hm hp => ?_⟩⟩
    rw [State.opDdform_own hb hv hm hp]
    by_cases hfew : { s.ctx tile.val k with base := some b }.commonSats.length < if s.wordA tile.val k = 0 then 5 else s.wordA tile.val k
    · rw [State.ddAgainst_few hfew]
      exact ⟨rfl, rfl, fun _ => ⟨rfl, rfl⟩, fun hn => absurd hfew hn⟩
    · rw [State.ddAgainst_enough hfew]
      exact ⟨rfl, rfl, fun hn => absurd hn hfew, fun _ => ⟨rfl, s.formStates_sats _ _⟩⟩
  case slipdet =>
    intro h
    refine completes_macroOp rfl h fun t ht => ?_
    rw [ht.1]
    exact ⟨ht, rfl, fun x b hx hb hboth => State.mem_opSlipdet_slips hx hb hboth⟩
  case update =>
    intro h
    refine completes_macroOp rfl h fun t ht => ?_
    have hk := s.opUpdate_keeps (s.ctx tile.val k) (s.wordA tile.val k) (s.wordB tile.val k)
    rw [State.argA_wordHere, State.argB_wordHere, hk.index] at ht
    rw [ht.1]
    refine ⟨ht, rfl, hk.sats, fun hne => ⟨hk.phase hne, hk.skips hne⟩, fun hr => by rw [State.opUpdate_noRows hr], fun h2 hd => ?_⟩
    rw [h2, State.opUpdate_noDoppler hd]
  case check =>
    intro h
    refine completes_macroOp rfl h fun t ht => ?_
    rw [State.argB_wordHere] at ht
    refine ⟨fun hd => ?_, fun hp => ?_⟩
    · rw [State.opCheck_diverged hd] at ht
      rw [ht.1]
      exact ⟨ht, rfl⟩
    · rwa [State.opCheck_passed hp] at ht
  case decor => exact fun h => completes_macroOp rfl h fun t ht => by rw [ht.1]; exact ht
  case search =>
    intro h
    refine completes_macroOp rfl h fun t ht => ?_
    dsimp only
    rw [ht.1]
    exact ⟨ht, (List.length_map _).trans (fit_length ..), (List.length_map _).trans (fit_length ..)⟩
  case validate =>
    intro h
    refine completes_macroOp rfl h fun t ht => ?_
    rw [State.argA_wordHere, State.argB_wordHere] at ht
    dsimp only
    rw [ht.1]
    cases hv : s.validates (s.ctx tile.val k) with
    | true =>
      rw [State.opValidate_passed hv] at ht ⊢
      refine ⟨ht, fun hn => ?_, rfl, fun _ => ⟨rfl, rfl, rfl⟩, nofun⟩
      exact absurd ((State.validates_eq_false hn).symm.trans hv) Bool.false_ne_true
    | false =>
      by_cases hr : (s.ctx tile.val k).retries < s.wordA tile.val k ∧
          s.getF F.SOLV_PAR_MIN_AMB + s.getF F.SOLV_PAR_DROP ≤ (s.ctx tile.val k).set.length
      · rw [State.opValidate_retry hv hr.1 hr.2] at ht ⊢
        exact ⟨ht, fun _ => rfl, rfl, nofun, fun _ => ⟨fun _ _ => ⟨rfl, rfl, rfl⟩, by omega⟩⟩
      · rw [State.opValidate_failed hv hr] at ht ⊢
        exact ⟨ht, fun _ => rfl, rfl, nofun, fun _ => ⟨fun h1 h2 => absurd ⟨h1, h2⟩ hr, fun _ => ⟨rfl, rfl, rfl⟩⟩⟩
  case branch => exact fun h => completes_macroOp rfl h fun t ht => ht
  case nop => exact fun h => completes_macroOp rfl h fun t ht => ht
  case other =>
    intro tile k op s h e he hne
    simp only [List.mem_cons, List.not_mem_nil, or_false] at he
    rcases he with rfl | rfl | rfl | rfl | rfl | rfl | rfl | rfl | rfl | rfl | rfl | rfl | rfl | rfl | rfl
    all_goals exact exec_otherWord rfl h hne

end Sys2Proof.Machine
end

section
/-! What an access of a client of the translation unit changes (R453, R459 to R463). -/

namespace Sys2Proof.Machine

/-- From `s` to `t` only memory, the logs, the free values drawn and registers of the translation unit's pages change. -/
structure ClientFrame (s t : State) : Prop where
  frame : t = { s with regs := t.regs, fifos := t.fifos, mem := t.mem, freeCtr := t.freeCtr }
  reg : ∀ k, 0x10000 ≤ k → t.reg k = s.reg k

namespace ClientFrame

theorem refl (s : State) : ClientFrame s s := ⟨rfl, fun _ _ => rfl⟩

theorem trans {s t u : State} (h : ClientFrame s t) (k : ClientFrame t u) : ClientFrame s u where
  frame := k.frame.trans (by rw [h.frame])
  reg j hj := (k.reg j hj).trans (h.reg j hj)

theorem of_snd {α : Type} {s u : State} {x : α × State} {a : α} (h : ClientFrame s x.2) (e : x = (a, u)) : ClientFrame s u := by
  subst e
  exact h

theorem ite {s t u : State} {c : Prop} [Decidable c] (ht : ClientFrame s t) (hu : ClientFrame s u) :
    ClientFrame s (if c then t else u) := by
  split
  · exact ht
  · exact hu

theorem foldl {α : Type} {f : State → α → State} (hf : ∀ s a, ClientFrame s (f s a)) (l : List α) (s : State) :
    ClientFrame s (l.foldl f s) :=
  List.foldlRecOn l f (motive := ClientFrame s) (refl s) fun t ht a _ => ht.trans (hf t a)

theorem solv {s t : State} (h : ClientFrame s t) : t.solv = s.solv := by rw [h.frame]

theorem time {s t : State} (h : ClientFrame s t) : t.time = s.time := by rw [h.frame]

theorem withMem (s : State) (x : MemSt) : ClientFrame s { s with mem := x } := ⟨rfl, fun _ _ => rfl⟩

/-- A register of the translation unit's pages. -/
theorem setF (s : State) {f : Fld} (v : Nat) (h : f.key + 4 < 0x10000) : ClientFrame s (s.setF f v) where
  frame := by
    rw [State.setF_fifos, State.setF_mem, State.setF_freeCtr]
    exact s.setF_only f v
  reg k hk := State.reg_setF_otherWords (by omega) (by omega)

theorem bump (s : State) {f : Fld} (h : f.key + 4 < 0x10000) : ClientFrame s (s.bump f) := setF s _ h

theorem raise (s : State) (b : Nat) : ClientFrame s (s.raise 0x008 b) := setF s 1 (by simp only; omega)

theorem pushFifo (s : State) (key depth : Nat) (e : List Word) {full : State → State} (hf : ClientFrame s (full s)) :
    ClientFrame s (s.pushFifo key depth e full) := ite ⟨rfl, fun _ _ => rfl⟩ hf

/-! ## Memory with its error correction (R453) -/

theorem eccLog (s : State) (m a : Nat) : ClientFrame s (s.eccLog m a) :=
  ((bump s (by decide)).trans (raise ..)).trans (pushFifo _ _ _ _ (refl _))

theorem corrected (s : State) : ClientFrame s ((s.bump F.DTU_ECC_CE_COUNT).raise 0x008 3) := (bump s (by decide)).trans (raise ..)

theorem eccRead (s : State) (a n : Nat) (m : Option Nat) : ClientFrame s (s.eccRead a n m).2 := by
  refine List.foldlRecOn _ _ (motive := fun x : Bool × State => ClientFrame s x.2) (refl s) fun x hx e _ => hx.trans ?_
  dsimp only
  split
  · exact refl _
  · exact (withMem ..).trans (corrected _)
  · exact eccLog ..

theorem storeBytes (s : State) (a : Nat) (l : List Byte) : ClientFrame s (s.storeBytes a l) := by
  rw [State.storeBytes_only]
  exact withMem ..

theorem physWrite (s : State) (a : Nat) (l : List Byte) : ClientFrame s (s.physWrite a l) := by
  have lost (l : List (Nat × EccError)) (t : State) : ClientFrame t (l.foldl (fun s e => s.eccLog (eccMemory e.1) e.1) t) :=
    foldl (fun _ _ => eccLog ..) l t
  exact (((withMem ..).trans (foldl (fun t _ => corrected t) _ _)).trans (lost _ _)).trans
    (ite (storeBytes ..) (foldl (fun t _ => ite (refl t) (withMem ..)) _ _))

/-! ## Translation (R459 to R463) -/

theorem lpddrTouch (s : State) (a : Nat) : ClientFrame s (s.lpddrTouch a) :=
  ite ((setF (f := F.DTU_LPDDR_STAT_SELF_REFRESH) s 0 (by decide)).trans (withMem ..)) (refl s)

theorem walk (s : State) (va : Nat) (write : Bool) (table level : Nat) : ClientFrame s (s.walk va write table level).2 := by
  induction level generalizing s table with
  | zero => exact refl s
  | succ level ih =>
    have h := eccRead s (table + 8 * (va / (0x1000 * 512 ^ level) % 512)) 8 (some 3)
    unfold State.walk
    dsimp only
    split
    · exact refl s
    · split
      · exact h
      · split
        · exact h
        · split
          · split
            · exact h
            · split <;> exact h
          · exact h.trans (ih ..)

theorem dtuFill (s : State) (e : DtuEntry) : ClientFrame s (s.dtuFill e) :=
  ite (withMem ..) ⟨rfl, fun _ _ => rfl⟩

theorem translate (s : State) (may : Region → Bool) (pinned : Bool) (ctx va : Nat) (write : Bool) :
    ClientFrame s (s.translate may pinned ctx va write).2 := by
  have target (t : State) (c : Prop) [Decidable c] (pa : Nat) :
      ClientFrame t (if c then ((.inr pa, t) : (Nat ⊕ Nat) × State) else (.inl 8, t)).2 := by
    split <;> exact refl t
  unfold State.translate
  dsimp only
  split
  · exact target ..
  · next hctx =>
    have hits : ClientFrame s (s.bump (F.DTU_HITS_COUNT ctx)) := bump s (by simp only [F.DTU_HITS_COUNT]; omega)
    have misses : ClientFrame s (s.bump (F.DTU_MISSES_COUNT ctx)) := bump s (by simp only [F.DTU_MISSES_COUNT]; omega)
    split
    · exact refl s
    · split
      · exact refl s
      · split
        · exact hits.trans (target ..)
        · have hw (root : Nat) := misses.trans (walk _ (va % 2 ^ 48) write root 4)
          split
          · next heq => exact (hw _).of_snd heq
          · next heq =>
            split
            · next htgt => exact ((hw _).of_snd heq).trans ((target ..).of_snd htgt)
            · next htgt => exact (((hw _).of_snd heq).trans ((target ..).of_snd htgt)).trans (dtuFill ..)

theorem dtuFault (s : State) (ctx client index va cause : Nat) (write : Bool) :
    ClientFrame s (s.dtuFault ctx client index va cause write) := by
  have h : ClientFrame s (if ctx < 8 then s.bump (F.DTU_FAULTS_COUNT ctx) else s) := by
    split
    · exact bump s (by simp only [F.DTU_FAULTS_COUNT]; omega)
    · exact refl s
  unfold State.dtuFault
  exact (h.trans (raise ..)).trans (pushFifo _ _ _ _ ((bump (f := F.DTU_FAULT_OVF_COUNT) _ (by decide)).trans (raise ..)))

theorem clientAddr (s : State) (client index va : Nat) (write : Bool) : ClientFrame s (s.clientAddr client index va write).2 := by
  unfold State.clientAddr
  dsimp only
  split
  · next heq => exact (of_snd (translate ..) heq).trans (lpddrTouch ..)
  · next heq => exact (of_snd (translate ..) heq).trans (dtuFault ..)

theorem clientReadPages (s : State) (client index pages va n : Nat) : ClientFrame s (s.clientReadPages client index pages va n).2 := by
  induction pages generalizing s va n with
  | zero => exact refl s
  | succ pages ih =>
    unfold State.clientReadPages
    split
    · exact refl s
    · dsimp only
      have h := clientAddr s client index va false
      split
      · next heq => exact h.of_snd heq
      · next heq => exact (h.of_snd heq).trans ((eccRead ..).trans (ih ..))

theorem clientRead (s : State) (client index va n : Nat) : ClientFrame s (s.clientRead client index va n).2 := clientReadPages ..

end ClientFrame

end Sys2Proof.Machine
end

section
/-! The filter commands of the fix engine (R163, R165): how they begin, what a transfer does, and how they end. -/

namespace Sys2Proof.Machine

/-! ## Registers -/

theorem State.reg_raise_other {s : State} {p b k : Nat} (hb : b < 32) (h : k ≠ p * 0x1000 + 0x10) : (s.raise p b).reg k = s.reg k :=
  State.reg_setF_other (f := ⟨p * 0x1000 + 0x10, b, b⟩) hb h

theorem State.flag_of_reg_eq {s t : State} {f : Fld} (hf : f.hi < 32) (h : t.reg f.key = s.reg f.key) : t.flag f = s.flag f :=
  congrArg (· == 1) (State.getF_of_reg_eq hf h)

/-! ## What the fix engine changes -/

/-- Between two states nothing changes but registers, the logs, the fix engine and the clients that the translation unit holds paused. -/
def SolvFrame (s t : State) : Prop :=
  t = { s with regs := t.regs, fifos := t.fifos, solv := t.solv, mem := { s.mem with dtuPaused := t.mem.dtuPaused } }

namespace SolvFrame

theorem refl (s : State) : SolvFrame s s := rfl

theorem trans {s t u : State} (h : SolvFrame s t) (k : SolvFrame t u) : SolvFrame s u := Eq.trans k (by rw [h])

theorem withSolv (s : State) (x : SolvSt) : SolvFrame s { s with solv := x } := rfl

theorem setReg (s : State) (k : Nat) (v : Word) : SolvFrame s (s.setReg k v) := rfl

theorem setF (s : State) (f : Fld) (v : Nat) : SolvFrame s (s.setF f v) := by
  unfold SolvFrame
  rw [State.setF_fifos, State.setF_solv, State.setF_mem]
  exact s.setF_only f v

theorem setFlag (s : State) (f : Fld) (b : Bool) : SolvFrame s (s.setFlag f b) := setF ..

theorem raise (s : State) (p b : Nat) : SolvFrame s (s.raise p b) := setF ..

theorem bumpBy (s : State) (f : Fld) (n : Nat) : SolvFrame s (s.bumpBy f n) := setF ..

theorem err (s : State) (p code : Nat) (who : Option Initiator) (addr : Nat) : SolvFrame s (s.err p code who addr) := by
  unfold State.err
  split
  · exact setF ..
  · exact ((setReg ..).trans (setReg ..)).trans (raise ..)

theorem pushFifo (s : State) (key depth : Nat) (e : List Word) : SolvFrame s (s.pushFifo key depth e id) := by
  unfold State.pushFifo
  split
  · rfl
  · exact refl s

/-- Where the logs and memory stay, nothing changes but registers and the fix engine. -/
theorem regs_solv {s t : State} (h : SolvFrame s t) (hf : t.fifos = s.fifos) (hm : t.mem = s.mem) :
    t = { s with regs := t.regs, solv := t.solv } := by
  unfold SolvFrame at h
  rw [hf, hm] at h
  exact h

/-- The answer to a command where the logs and memory stay. -/
theorem respond {s t : State} (h : SolvFrame s t) (hf : t.fifos = s.fifos) (hm : t.mem = s.mem) :
    t.respond 0 false = { s with
      regs := (t.respond 0 false).regs
      solv := (t.respond 0 false).solv
      bus := ⟨0, false⟩ } :=
  congrArg (State.respond · 0 false) (h.regs_solv hf hm)

/-- Where the fix engine and memory stay, nothing changes but registers and the logs. -/
theorem regs_fifos {s t : State} (h : SolvFrame s t) (hs : t.solv = s.solv) (hm : t.mem = s.mem) :
    t = { s with regs := t.regs, fifos := t.fifos } := by
  unfold SolvFrame at h
  rw [hs, hm] at h
  exact h

/-- Where the logs stay. -/
theorem regs_solv_paused {s t : State} (h : SolvFrame s t) (hf : t.fifos = s.fifos) :
    t = { s with regs := t.regs, solv := t.solv, mem := { s.mem with dtuPaused := t.mem.dtuPaused } } := by
  unfold SolvFrame at h
  rw [hf] at h
  exact h

end SolvFrame

/-! ## A command's begin and end (R165) -/

/-- The state in which IMPORT (kind 2) or EXPORT (kind 3) of a machine is in progress. -/
def State.transferring (s : State) (kind m : Nat) : State :=
  { s.setFlag F.SOLV_CMD_STAT_BUSY true with solv := { s.solv with cmd := some (kind, m) } }

@[simp] theorem State.transferring_busy (s : State) (kind m : Nat) : (s.transferring kind m).flag F.SOLV_CMD_STAT_BUSY = true :=
  State.flag_setFlag_same (s := s) rfl (by decide)

@[simp] theorem State.transferring_mem (s : State) (kind m : Nat) : (s.transferring kind m).mem = s.mem := State.setFlag_mem ..

theorem State.solvCommand_refused {s : State} {who : Initiator} {k : State → State} (ho : s.opens who 0x600A8 true = true)
    (hb : s.flag F.SOLV_CMD_STAT_BUSY = true) : s.solvCommand who k = (s.accessErr 0x11 who 0x600A8).respond 0 false :=
  (State.command_of_opens ho).trans (congrArg (State.respond · 0 false) (if_pos hb))

theorem State.solvCommand_taken {s : State} {who : Initiator} {k : State → State} (ho : s.opens who 0x600A8 true = true)
    (hb : s.flag F.SOLV_CMD_STAT_BUSY = false) : s.solvCommand who k = (k s).respond 0 false :=
  (State.command_of_opens ho).trans (congrArg (State.respond · 0 false) (if_neg (ne_true_of_eq_false hb)))

theorem exec_resetFilter {who : Initiator} {m : Fin 256} {s : State} (ho : s.opens who 0x600A8 true = true)
    (hb : s.flag F.SOLV_CMD_STAT_BUSY = false) :
    exec (.resetFilter who m) s = .next (((s.setFlag (F.SOLV_MCFG_RESET m.val) true).solvDone 0).respond 0 false) :=
  congrArg Host.Outcome.next (State.solvCommand_taken ho hb)

theorem exec_solvImport {who : Initiator} {m : Fin 256} {s : State} (ho : s.opens who 0x600A8 true = true)
    (hb : s.flag F.SOLV_CMD_STAT_BUSY = false) :
    exec (.solvImport who m) s = .next (((s.transferring 2 m.val).solvTransfer 2 m.val).respond 0 false) := by
  refine congrArg Host.Outcome.next ((State.solvCommand_taken ho hb).trans ?_)
  unfold State.transferring
  rw [← State.setFlag_solv s F.SOLV_CMD_STAT_BUSY true]

theorem exec_solvExport {who : Initiator} {m : Fin 256} {s : State} (ho : s.opens who 0x600A8 true = true)
    (hb : s.flag F.SOLV_CMD_STAT_BUSY = false) :
    exec (.solvExport who m) s = .next (((s.transferring 3 m.val).solvTransfer 3 m.val).respond 0 false) := by
  refine congrArg Host.Outcome.next ((State.solvCommand_taken ho hb).trans ?_)
  unfold State.transferring
  rw [← State.setFlag_solv s F.SOLV_CMD_STAT_BUSY true]

/-- What a command's end leaves: BUSY 0, its RESULT, event 7, no command in progress, and no other register changed. -/
structure CommandEnded (s t : State) (result : Nat) : Prop where
  result : t.getF F.SOLV_CMD_STAT_RESULT = result
  busy : t.flag F.SOLV_CMD_STAT_BUSY = false
  event : t.event 0x060 7 = true
  frame : t = { s with regs := t.regs, solv := t.solv }
  solv : t.solv = { s.solv with cmd := none }
  reg : ∀ k, k ≠ 0x600AC → k ≠ 0x60010 → t.reg k = s.reg k

theorem State.reg_withSolv (s : State) (x : SolvSt) (k : Nat) : { s with solv := x }.reg k = s.reg k := rfl

theorem State.solvDone_reg (s : State) (result : Nat) {k : Nat} (h : k ≠ 0x60010) :
    (s.solvDone result).reg k = ((s.setFlag F.SOLV_CMD_STAT_BUSY false).setF F.SOLV_CMD_STAT_RESULT result).reg k := by
  unfold State.solvDone
  exact (State.reg_withSolv ..).trans (State.reg_raise_other (p := 0x060) (b := 7) (by decide) h)

theorem State.solvDone_frame (s : State) (result : Nat) : SolvFrame s (s.solvDone result) :=
  (((SolvFrame.setFlag ..).trans (.setF ..)).trans (.raise ..)).trans (.withSolv ..)

@[simp] theorem State.solvDone_fifos (s : State) (result : Nat) : (s.solvDone result).fifos = s.fifos := by simp [State.solvDone]

@[simp] theorem State.solvDone_mem (s : State) (result : Nat) : (s.solvDone result).mem = s.mem := by simp [State.solvDone]

theorem State.solvDone_result (s : State) {result : Nat} (hr : result < 16) :
    (s.solvDone result).getF F.SOLV_CMD_STAT_RESULT = result := by
  rw [State.getF_of_reg_eq (by decide) (s.solvDone_reg result (by decide)), State.getF_setF_same (by decide) (by decide)]
  exact Nat.mod_eq_of_lt hr

theorem State.solvDone_busy (s : State) (result : Nat) : (s.solvDone result).flag F.SOLV_CMD_STAT_BUSY = false := by
  rw [State.flag_of_reg_eq (by decide) (s.solvDone_reg result (by decide))]
  refine (congrArg (· == 1) (State.getF_setF_otherBits ?_ ?_ ?_ ?_ ?_ ?_)).trans (State.flag_setFlag_same (s := s) rfl (by decide))
  all_goals decide

theorem State.solvDone_ends (s : State) {result : Nat} (hr : result < 16) : CommandEnded s (s.solvDone result) result where
  result := s.solvDone_result hr
  busy := s.solvDone_busy result
  event := (State.event_of_reg_eq (State.reg_withSolv ..)).trans (State.event_raise_same _ _ (by decide))
  frame := (s.solvDone_frame result).regs_solv (s.solvDone_fifos result) (s.solvDone_mem result)
  solv := rfl
  reg k h1 h2 := (s.solvDone_reg result h2).trans ((State.reg_setF_other (by decide) h1).trans (State.reg_setF_other (by decide) h1))

theorem CommandEnded.smach {s t : State} {result : Nat} (h : CommandEnded s t result) (m : Nat) : t.smach m = s.smach m := by
  unfold State.smach
  rw [h.solv]

theorem CommandEnded.mem {s t : State} {result : Nat} (h : CommandEnded s t result) : t.mem = s.mem := by rw [h.frame]

theorem CommandEnded.answer {s t : State} {result : Nat} (h : CommandEnded s t result) :
    (t.respond 0 false).flag F.SOLV_CMD_STAT_BUSY = false ∧ (t.respond 0 false).getF F.SOLV_CMD_STAT_RESULT = result ∧
      (t.respond 0 false).event 0x060 7 = true := ⟨h.busy, h.result, h.event⟩

/-- The answer of a command that ended: what `y` held before the end, but for the end's own fields. -/
theorem CommandEnded.completes {c : Instr} {s y t : State} {result : Nat} (h : CommandEnded y t result)
    (hx : exec c s = .next (t.respond 0 false)) : ∃ u, exec c s = .next u ∧ u.getF F.SOLV_CMD_STAT_RESULT = result ∧
      u.flag F.SOLV_CMD_STAT_BUSY = false ∧ u.event 0x060 7 = true ∧ u.solv.cmd = none ∧ u.mem = y.mem ∧
      ∀ m, u.smach m = y.smach m := by
  obtain ⟨hbusy, hresult, hevent⟩ := h.answer
  exact ⟨_, hx, hresult, hbusy, hevent, congrArg SolvSt.cmd h.solv, h.mem, h.smach⟩

/-! ## Transfers (R163) -/

theorem State.solvTransfer_waits {s : State} {kind m : Nat} (h : s.inProcess m = true) : s.solvTransfer kind m = s := by
  rw [State.solvTransfer, if_pos h]

/-- A fault at the first slot pauses the transfer. -/
theorem State.solvTransfer_paused {s s1 : State} {kind m : Nat} {a : ClientData} (hp : s.inProcess m = false)
    (ha : s.clientRead 2 0 (s.slotVa m 0) 0x18000 = (a, s1)) (hf : a.fault ≠ none) : s.solvTransfer kind m = s1.dtuPause 2 0 := by
  simp [State.solvTransfer, hp, ha, Option.isSome_iff_ne_none.2 hf]

section

variable {s s1 s2 : State} {m : Nat} {a b : ClientData} (hp : s.inProcess m = false)
  (ha : s.clientRead 2 0 (s.slotVa m 0) 0x18000 = (a, s1)) (hb : s1.clientRead 2 0 (s.slotVa m 1) 0x18000 = (b, s2))
  (fa : a.fault = none) (fb : b.fault = none)

include hp ha hb fa fb

/-- IMPORT writes what `importSlot` gives and ends with its RESULT. -/
theorem State.solvTransfer_import {s3 s4 : State} {n : ClientData} {d : Nat × List Byte × Nat}
    (hn : s2.clientRead 2 0 (s.getF F.SOLV_XFER_ADDR_ADDR * 0x1000) 0x18000 = (n, s3)) (fn : n.fault = none)
    (hd : s3.importSlot m (chooseSlot a.data b.data) n.data = d)
    (hw : s3.slotWrite 2 0 (s3.slotVa m d.1) d.2.1 (d.2.2 == 0) = (none, s4)) :
    s.solvTransfer 2 m = (if d.2.2 = 0 then s4.imported m d.2.1 else s4).solvDone d.2.2 := by
  simp [State.solvTransfer, hp, ha, hb, fa, fb, hn, fn, hd, hw]

/-- EXPORT without a committed slot. -/
theorem State.solvTransfer_export_none (hc : (if (s2.smach m).discard then none else chooseSlot a.data b.data) = none) :
    s.solvTransfer 3 m = s2.solvDone 2 := by
  simp only [State.solvTransfer, hp, ha, hb, fa, fb, Option.isSome_none, Bool.or_self, Bool.false_eq_true, if_false,
    show ¬ (3 : Nat) = 2 by decide, hc]

/-- EXPORT copies the committed slot. -/
theorem State.solvTransfer_export_some {s3 : State} {i : Nat} {c : List Byte}
    (hc : (if (s2.smach m).discard then none else chooseSlot a.data b.data) = some (i, c))
    (hw : s2.clientWrite 2 0 (s.getF F.SOLV_XFER_ADDR_ADDR * 0x1000) c = (none, s3)) : s.solvTransfer 3 m = s3.solvDone 0 := by
  simp only [State.solvTransfer, hp, ha, hb, fa, fb, Option.isSome_none, Bool.or_self, Bool.false_eq_true, if_false,
    show ¬ (3 : Nat) = 2 by decide, hc, hw]

end

/-! ## What IMPORT writes (R163) -/

/-- IMPORT writes to the slot that is not the committed one. -/
theorem State.importSlot_dest (s : State) (m : Nat) (top : Option (Nat × List Byte)) (b : List Byte) :
    (s.importSlot m top b).1 = (top.map fun e => 1 - e.1).getD 0 := by
  cases top <;> simp only [State.importSlot, apply_ite Prod.fst, ite_self, Option.map_some, Option.map_none, Option.getD]

theorem State.importSlot_invalid {s : State} {m : Nat} {top : Option (Nat × List Byte)} {b : List Byte} (h : importValid m b = false) :
    (s.importSlot m top b).2 = (b, 2) := by
  simp [State.importSlot, h]

theorem State.importSlot_older {s : State} {m i : Nat} {b c : List Byte} (h : importValid m b = true) (hd : (s.smach m).discard = false)
    (hle : s.fullEpoch (wordAt b 8) ≤ s.fullEpoch (wordAt c 8)) : (s.importSlot m (some (i, c)) b).2 = (b, 1) := by
  simp [State.importSlot, h, hd, Nat.not_lt.2 hle]

theorem State.importSlot_first {s : State} {m : Nat} {b : List Byte} (h : importValid m b = true) :
    (s.importSlot m none b).2 = (b, 0) := by
  cases hd : (s.smach m).discard <;> simp [State.importSlot, h, hd]

theorem State.importSlot_result_lt (s : State) (m : Nat) (top : Option (Nat × List Byte)) (b : List Byte) :
    (s.importSlot m top b).2.2 < 16 := by
  have h2 : 2 < 16 := by decide
  cases top
  all_goals
    simp only [State.importSlot, apply_ite Prod.snd]
    split_ifs <;> omega

/-- A committed import makes the machine's state known by its epoch, and changes nothing of memory. -/
theorem State.imported_smach (s : State) (m : Nat) (b : List Byte) :
    (s.imported m b).smach m = { s.smach m with epoch := some (s.fullEpoch (wordAt b 8)), discard := false } := by
  unfold State.imported State.smach
  rw [State.setF_solv]
  exact Assoc.get_put_same

theorem State.imported_mem (s : State) (m : Nat) (b : List Byte) : (s.imported m b).mem = s.mem := State.setF_mem ..

/-! ## The statement on the filter commands -/

theorem State.flag_respond (s : State) (f : Fld) (data : Nat) (error : Bool) : (s.respond data error).flag f = s.flag f := rfl

theorem mcfgReset_flag {m : Nat} {s t : State} (h : ∀ k, k ≠ 0x600AC → k ≠ 0x60010 → t.reg k = s.reg k) :
    t.flag (F.SOLV_MCFG_RESET m) = s.flag (F.SOLV_MCFG_RESET m) := by
  have h1 : (F.SOLV_MCFG_RESET m).key ≠ 0x600AC := by simp only [F.SOLV_MCFG_RESET]; omega
  have h2 : (F.SOLV_MCFG_RESET m).key ≠ 0x60010 := by simp only [F.SOLV_MCFG_RESET]; omega
  exact State.flag_of_reg_eq (Nat.lt_succ_self 31) (h _ h1 h2)

theorem resetFilter_completes {who : Initiator} {m : Fin 256} {s : State} (ho : s.opens who 0x600A8 true = true)
    (hb : s.flag F.SOLV_CMD_STAT_BUSY = false) : Completes (.resetFilter who m) s fun t =>
      t.flag (F.SOLV_MCFG_RESET m.val) = true ∧ t.flag F.SOLV_CMD_STAT_BUSY = false ∧ t.getF F.SOLV_CMD_STAT_RESULT = 0 ∧
      t.event 0x060 7 = true ∧ t = { s with regs := t.regs, solv := t.solv, bus := ⟨0, false⟩ } := by
  set u := s.setFlag (F.SOLV_MCFG_RESET m.val) true with hu
  have hset : u.flag (F.SOLV_MCFG_RESET m.val) = true := State.flag_setFlag_same rfl (Nat.lt_succ_self 31)
  have hframe : SolvFrame s (u.solvDone 0) := (SolvFrame.setFlag ..).trans (State.solvDone_frame ..)
  have h := u.solvDone_ends (result := 0) (by decide)
  have hx := exec_resetFilter (m := m) ho hb
  rw [← hu] at hx
  have hf : (u.solvDone 0).fifos = s.fifos := by simp [hu]
  have hm : (u.solvDone 0).mem = s.mem := by simp [hu]
  generalize u.solvDone 0 = t at h hx hframe hf hm
  have hflag : (t.respond 0 false).flag (F.SOLV_MCFG_RESET m.val) = t.flag (F.SOLV_MCFG_RESET m.val) := State.flag_respond ..
  obtain ⟨hbusy, hresult, hevent⟩ := h.answer
  exact ⟨_, hx, hflag.trans ((mcfgReset_flag h.reg).trans hset), hbusy, hresult, hevent, hframe.respond hf hm⟩

/-- A transfer whose machine has a frame in process waits (R163). -/
theorem transfer_waits {c : Instr} {kind m : Nat} {s : State} (hp : s.inProcess m = true)
    (hx : exec c s = .next (((s.transferring kind m).solvTransfer kind m).respond 0 false)) :
    Completes c s fun t => t.solv.cmd = some (kind, m) ∧ t.flag F.SOLV_CMD_STAT_BUSY = true ∧ t.mem = s.mem := by
  rw [State.solvTransfer_waits (s := s.transferring kind m) hp] at hx
  exact ⟨_, hx, rfl, s.transferring_busy kind m, s.transferring_mem kind m⟩

/-- A transfer that a translation fault pauses stays in progress. -/
theorem import_paused {who : Initiator} {m : Fin 256} {s s1 : State} {a : ClientData} (ho : s.opens who 0x600A8 true = true)
    (hb : s.flag F.SOLV_CMD_STAT_BUSY = false) (hp : s.inProcess m.val = false)
    (ha : (s.transferring 2 m.val).clientRead 2 0 ((s.transferring 2 m.val).slotVa m.val 0) 0x18000 = (a, s1)) (hf : a.fault ≠ none) :
    Completes (.solvImport who m) s fun t =>
      t.dtuIsPaused 2 0 = true ∧ t.flag F.SOLV_CMD_STAT_BUSY = true ∧ t.solv.cmd = some (2, m.val) := by
  have hframe := ClientFrame.clientRead (s.transferring 2 m.val) 2 0 ((s.transferring 2 m.val).slotVa m.val 0) 0x18000
  have hx := exec_solvImport (m := m) ho hb
  rw [ha] at hframe
  rw [State.solvTransfer_paused (s := s.transferring 2 m.val) hp ha hf] at hx
  exact ⟨_, hx, by simp [State.dtuIsPaused, State.dtuPause, State.respond],
    (State.flag_of_reg_eq (f := F.SOLV_CMD_STAT_BUSY) (by decide) (hframe.reg _ (by decide))).trans (s.transferring_busy 2 m.val),
    congrArg SolvSt.cmd hframe.solv⟩

/-- What an import leaves that wrote the slot chosen for it (`s4`). -/
theorem import_completes {c : Instr} {m : Nat} {s s4 : State} {bytes : List Byte} {result : Nat} (hr : result < 16)
    (hx : exec c s = .next (((if result = 0 then s4.imported m bytes else s4).solvDone result).respond 0 false)) :
    Completes c s fun t => t.getF F.SOLV_CMD_STAT_RESULT = result ∧ t.flag F.SOLV_CMD_STAT_BUSY = false ∧ t.event 0x060 7 = true ∧
      t.solv.cmd = none ∧ t.mem = s4.mem ∧
      (result = 0 → (t.smach m).epoch = some (s4.fullEpoch (wordAt bytes 8)) ∧ (t.smach m).discard = false) ∧
      (result ≠ 0 → t.smach m = s4.smach m) := by
  obtain ⟨u, hu, hresult, hbusy, hevent, hcmd, hmem, hsmach⟩ := (State.solvDone_ends _ hr).completes hx
  refine ⟨u, hu, hresult, hbusy, hevent, hcmd, ?_, fun h0 => ?_, fun h0 => ?_⟩
  · refine hmem.trans ?_
    split
    · exact s4.imported_mem m bytes
    · rfl
  · rw [hsmach, if_pos h0, State.imported_smach]
    exact ⟨rfl, rfl⟩
  · rw [hsmach, if_neg h0]

theorem exec_import_ends {who : Initiator} {m : Fin 256} {s t : State} (ho : s.opens who 0x600A8 true = true)
    (hb : s.flag F.SOLV_CMD_STAT_BUSY = false) (ht : (s.transferring 2 m.val).solvTransfer 2 m.val = t) :
    exec (.solvImport who m) s = .next (t.respond 0 false) := by rw [exec_solvImport ho hb, ht]

theorem exec_export_ends {who : Initiator} {m : Fin 256} {s t : State} (ho : s.opens who 0x600A8 true = true)
    (hb : s.flag F.SOLV_CMD_STAT_BUSY = false) (ht : (s.transferring 3 m.val).solvTransfer 3 m.val = t) :
    exec (.solvExport who m) s = .next (t.respond 0 false) := by rw [exec_solvExport ho hb, ht]

/-- Settles O23: a command that is taken is in progress until the machine has no frame in process; its transfer then ends it, or a fault of
translation pauses it. -/
theorem filterTransfers : Obligations.FilterTransfers := by
  refine ⟨fun who m s ho => ⟨fun hb c hc => ?refused, fun hb => ⟨resetFilter_completes ho hb, fun hp =>
    ⟨transfer_waits hp (exec_solvImport ho hb), transfer_waits hp (exec_solvExport ho hb)⟩⟩⟩, ?transfer⟩
  case refused =>
    simp only [List.mem_cons, List.not_mem_nil, or_false] at hc
    rcases hc with rfl | rfl | rfl
    all_goals exact congrArg Host.Outcome.next (State.solvCommand_refused ho hb)
  intro who m kind s ho hb hp s0 xfer a b n top
  have ha : s0.clientRead 2 0 (s0.slotVa m.val 0) 0x18000 = a := rfl
  have hb' : a.2.clientRead 2 0 (s0.slotVa m.val 1) 0x18000 = b := rfl
  have hn : b.2.clientRead 2 0 xfer 0x18000 = n := rfl
  clear_value n b a
  refine ⟨?_, fun fa fb => ⟨?_, ?_⟩⟩
  · rintro rfl hf
    exact import_paused ho hb hp ha hf
  · rintro rfl fn d w
    have hd : n.2.importSlot m.val top n.1.data = d := rfl
    have hw : n.2.slotWrite 2 0 (n.2.slotVa m.val d.1) d.2.1 (d.2.2 == 0) = w := rfl
    clear_value w d
    subst hd
    refine ⟨State.importSlot_dest .., State.importSlot_invalid, fun hv i c ht hd hle => ?_, fun hv ht => ?_, fun hw1 => ?_⟩
    · rw [ht, State.importSlot_older hv hd hle]
    · rw [ht, State.importSlot_first hv]
    · exact import_completes (State.importSlot_result_lt ..) (exec_import_ends ho hb
        (State.solvTransfer_import (s := s0) hp ha hb' fa fb hn fn rfl (hw.trans (Prod.ext hw1 rfl))))
  · rintro rfl cur
    refine ⟨fun hc => ?_, fun i c hc hw => ?_⟩
    · obtain ⟨t, ht, hresult, hbusy, hevent, hcmd, -, -⟩ := (State.solvDone_ends b.2 (result := 2) (by decide)).completes
        (exec_export_ends ho hb (State.solvTransfer_export_none (s := s0) hp ha hb' fa fb hc))
      exact ⟨t, ht, hresult, hbusy, hevent, hcmd⟩
    · obtain ⟨t, ht, hresult, hbusy, hevent, hcmd, hmem, -⟩ := (State.solvDone_ends _ (result := 0) (by decide)).completes
        (exec_export_ends ho hb (State.solvTransfer_export_some (s := s0) hp ha hb' fa fb hc (Prod.ext hw rfl)))
      exact ⟨t, ht, hresult, hbusy, hevent, hcmd, hmem⟩

end Sys2Proof.Machine
end

section
/-! Rows that write the low field of a register whose other fields act on writes of their own (R38). -/

namespace Sys2Proof.Machine

/-- The bits `own` of a write of the first word of the fields `fs` act as those of the fields `gs`. -/
def SameWrite (own : Nat) (fs gs : List FieldDef) : Prop :=
  ∀ a : Access, accessMask 0 (· == a) fs &&& own = accessMask 0 (· == a) gs &&& own

theorem State.mergeWord_congr {own : Nat} {fs gs : List FieldDef} (h : SameWrite own fs gs) (s : State) (key v : Nat) :
    s.mergeWord key 0 v own fs = s.mergeWord key 0 v own gs := by
  simp only [State.mergeWord, h .rw, h .rwl, h .w1c, h .w1s]

/-- A row's write of the low bits of its register, which no rule refuses, sets the field there. -/
theorem State.rowWrite_lowField {s : State} {who : Initiator} {key n v : Nat} {r : RegDef} {gs : List FieldDef} {k : State → State → State}
    (ho : s.opens who key true = true) (hr : regAt key = some (r, 0)) (hsame : SameWrite (2 ^ n - 1) r.fields gs)
    (hw : LowWritable gs n) (hlock : s.unlocked key gs) (hwin : s.winKey key = key)
    (hok : ∀ x, s.refuseWrite who key x = none) :
    s.rowWrite who key v (2 ^ n - 1) k = (k s (s.setF ⟨key, n - 1, 0⟩ v)).respond 0 false := by
  have hm : s.mergeWord (key + 4 * 0) 0 v (2 ^ n - 1) r.fields = (setBits (s.reg key).toNat (n - 1) 0 v, false) :=
    (State.mergeWord_congr hsame ..).trans ((State.mergeWord_low hw hlock).trans (by rw [hwin]))
  have hn : n - 1 < 32 := by
    have := hw.pos
    have := hw.le
    omega
  have hcommit : s.commitWords who key key 0 (2 ^ n - 1) r.fields [v] false = s.setF ⟨key, n - 1, 0⟩ v := by
    simp only [State.commitWords, hm, State.setF, if_pos hn]
    simp [hwin]
  unfold State.rowWrite
  rw [State.gate_of_opens ho, hr]
  dsimp only
  rw [hok, hcommit]

/-- No rule refuses a value of a register of the fix engine's tiles. -/
theorem State.refuseWrite_tile {s : State} {who : Initiator} {key x : Nat} (hk : plainKey key = key) (h1 : 0x61000 ≤ key)
    (h2 : key < 0x71000) (hrange : (rangeRules1 ++ rangeRules2 ++ rangeRules3).filter (·.covers key) = []) :
    s.refuseWrite who key x = none := by
  unfold State.refuseWrite
  rw [rangeRefusal_eq_none (by rw [hrange]; simp), hk]
  dsimp only
  rw [if_neg (by omega), if_neg (by omega), if_neg (by omega), if_neg (by omega), if_neg (by omega), if_neg (by omega), if_neg (by omega),
    if_neg (by omega), if_neg (by omega), if_neg (by omega), if_neg (by omega), if_neg (by omega)]

end Sys2Proof.Machine
end

section
/-! The tiles of the fix engine: dispatch, pre-emption, HOLD, EVICT, faults and tests (R149 to R152, R166). -/

namespace Sys2Proof.Machine

/-! ## Contexts and their tiles -/

theorem State.ctx_of_solv {s t : State} (h : t.solv = s.solv) (n k : Nat) : t.ctx n k = s.ctx n k := by
  unfold State.ctx
  rw [h]

@[simp] theorem State.setCtx_fifos (s : State) (n k : Nat) (c : RunCtx) : (s.setCtx n k c).fifos = s.fifos := rfl

@[simp] theorem State.setCtx_mem (s : State) (n k : Nat) (c : RunCtx) : (s.setCtx n k c).mem = s.mem := rfl

@[simp] theorem State.unwipe_solv (s : State) (p : Nat) : (s.unwipe p).solv = s.solv := State.setFlag_solv ..

@[simp] theorem State.unwipe_fifos (s : State) (p : Nat) : (s.unwipe p).fifos = s.fifos := State.setFlag_fifos ..

@[simp] theorem State.unwipe_mem (s : State) (p : Nat) : (s.unwipe p).mem = s.mem := State.setFlag_mem ..

theorem SolvFrame.setCtx (s : State) (n k : Nat) (c : RunCtx) : SolvFrame s (s.setCtx n k c) := .withSolv ..

theorem SolvFrame.unwipe (s : State) (p : Nat) : SolvFrame s (s.unwipe p) := .setFlag ..

/-- A tile whose contexts are free runs none. -/
theorem State.running_of_free {s : State} {n : Nat} (h0 : (s.ctx n 0).st = .free) (h1 : (s.ctx n 1).st = .free) : s.running n = none := by
  simp [State.running, h0, h1]

/-! ## Dispatch (R149) -/

/-- What a frame `f` that is taken onto context `k` of tile `n` leaves. -/
structure FrameStarted (s t : State) (n k : Nat) (f : ObsFrame) : Prop where
  frame : (t.ctx n k).frame = f
  st : (t.ctx n k).st = .running
  index : (t.ctx n k).index = 0
  script : (t.ctx n k).script = s.bankWords (s.getF F.SOLV_STAT_BANK_ACTIVE)
  other : ∀ n' k', 2 * n' + k' ≠ 2 * n + k → t.ctx n' k' = s.ctx n' k'
  queue : ∀ g, g ∈ t.solv.queue ↔ g ∈ s.solv.queue ∧ g.order ≠ f.order
  only : SolvFrame s t
  fifos : t.fifos = s.fifos
  mem : t.mem = s.mem

theorem State.startFrame_starts (s : State) (n k : Nat) (f : ObsFrame) : FrameStarted s (s.startFrame n k f) n k f := by
  set s1 : State := { s with solv := { s.solv with queue := s.solv.queue.filter fun g => g.order != f.order } } with hs1
  set c : RunCtx := { frame := f, script := s.bankWords (s.getF F.SOLV_STAT_BANK_ACTIVE), st := .running } with hc
  have heq : s.startFrame n k f = (s1.setCtx n k c).unwipe (0x061 + n) := rfl
  have hsolv : (s.startFrame n k f).solv = (s1.setCtx n k c).solv := by rw [heq, State.unwipe_solv]
  have hctx : (s.startFrame n k f).ctx n k = c := (State.ctx_of_solv hsolv n k).trans (State.ctx_setCtx_same ..)
  refine ⟨?_, ?_, ?_, ?_, fun n' k' h => ?_, fun g => ?_, ?_, ?_, ?_⟩
  · rw [hctx]
  · rw [hctx]
  · rw [hctx]
  · rw [hctx]
  · exact (State.ctx_of_solv hsolv n' k').trans (State.ctx_setCtx_other h)
  · rw [hsolv]
    show g ∈ List.filter _ _ ↔ _
    rw [List.mem_filter]
    simp
  · exact (SolvFrame.withSolv s _).trans ((SolvFrame.setCtx ..).trans (.unwipe ..))
  · rw [heq, State.unwipe_fifos, State.setCtx_fifos]
  · rw [heq, State.unwipe_mem, State.setCtx_mem]

/-- A free tile without a ready run takes the frame that is next. -/
theorem State.tileChoose_starts {s : State} {n j : Nat} {f : ObsFrame} (ht : s.tileTakes n = true) (hr : s.running n = none)
    (hready : s.readyCtx n = none) (hfree : s.freeCtx n = some j) (hf : s.nextFrame = some f) :
    s.tileChoose n = some (s.startFrame n j f) := by
  have htakes := ht
  simp only [State.tileTakes, Bool.and_eq_true, Bool.not_eq_true'] at htakes
  obtain ⟨⟨-, hhold⟩, hfault⟩ := htakes
  simp [State.tileChoose, hr, hfault, hhold, ht, hready, hfree, hf]

/-- Where no run is on a tile, the frame that is next starts on the first one. -/
theorem State.tileDispatch_starts {s : State} {f : ObsFrame} (hempty : s.solv.ctxs = []) (ht : s.tileTakes 0 = true)
    (hf : s.nextFrame = some f) : s.tileDispatch 0 16 = s.startFrame 0 0 f := by
  have hctx (k : Nat) : (s.ctx 0 k).st = .free := by
    unfold State.ctx
    rw [hempty]
    rfl
  have hready : s.readyCtx 0 = none := by
    unfold State.readyCtx
    rw [hctx 0, hctx 1]
    rfl
  have hfree : s.freeCtx 0 = some 0 := by simp [State.freeCtx, hctx]
  unfold State.tileDispatch
  rw [State.tileChoose_starts ht (State.running_of_free (hctx 0) (hctx 1)) hready hfree hf]

/-! ## Pre-emption (R150) -/

theorem State.preempt_disabled {s : State} (h : s.flag F.SOLV_CTRL_PREEMPT_EN = false) : s.preempt = s := by
  unfold State.preempt
  split
  · rfl
  · dsimp only
    split
    · exact if_neg (by simp [h])
    · rfl

/-- With tile 0 alone enabled, no other tile takes frames. -/
theorem State.tileTakes_other {s : State} {n : Nat} (h : s.getF F.SOLV_TILES_EN = 1) (hn : n ≠ 0) : s.tileTakes n = false := by
  have h1 : 1 < 2 ^ n := Nat.one_lt_two_pow hn
  simp [State.tileTakes, h, bitAt, Nat.div_eq_of_lt h1]

/-- What tile `n` offers a pre-emption: its running context, its free one, and the deadline of the run. -/
def State.preemptCand (s : State) (n : Nat) : Option (Nat × Nat × Nat × Nat) :=
  match s.running n, s.freeCtx n with
  | some k, some j => if s.tileTakes n then some (n, k, j, (s.ctx n k).frame.deadline) else none
  | _, _ => none

theorem State.preemptCand_of_notTaking {s : State} {n : Nat} (h : s.tileTakes n = false) : s.preemptCand n = none := by
  unfold State.preemptCand
  rw [h]
  split <;> rfl

theorem State.preemptCand_of_running {s : State} {n k j : Nat} (ht : s.tileTakes n = true) (hr : s.running n = some k)
    (hfree : s.freeCtx n = some j) : s.preemptCand n = some (n, k, j, (s.ctx n k).frame.deadline) := by
  unfold State.preemptCand
  rw [hr, hfree]
  exact if_pos ht

/-- The run of the only tile that offers its run gives way to a frame whose deadline is earlier by more than SOLV_PREEMPT. -/
theorem State.preempt_of_cand {s : State} {f : ObsFrame} {n k j d : Nat} (hf : s.nextFrame = some f)
    (hen : s.flag F.SOLV_CTRL_PREEMPT_EN = true)
    (hfree : ((List.range 16).any fun n => s.tileTakes n && (s.running n).isNone && (s.freeCtx n).isSome) = false)
    (hcand : (List.range 16).filterMap s.preemptCand = [(n, k, j, d)]) (hd : f.deadline + 1000 * s.getF F.SOLV_PREEMPT_US < d) :
    s.preempt = ((s.setCtx n k { s.ctx n k with st := .ready }).bump (F.ASTER_PREEMPTS_COUNT n)).startFrame n j f := by
  have hfirst : firstBy (fun a b => decide (b.2.2.2 < a.2.2.2)) ((List.range 16).filterMap s.preemptCand) = some (n, k, j, d) := by
    rw [hcand]
    rfl
  unfold State.preempt
  rw [hf]
  dsimp only
  split
  · next heq =>
    cases heq.symm.trans hfirst
    exact if_pos ⟨hen, by rw [hfree]; rfl, hd⟩
  · next heq => cases heq.symm.trans hfirst

/-- The run of tile 0 where it alone is enabled. -/
theorem State.preempt_first {s : State} {f : ObsFrame} (hf : s.nextFrame = some f) (hen : s.flag F.SOLV_CTRL_PREEMPT_EN = true)
    (hone : s.getF F.SOLV_TILES_EN = 1) (hr : s.running 0 = some 0) (hfree : s.freeCtx 0 = some 1) (ht : s.tileTakes 0 = true)
    (hd : f.deadline + 1000 * s.getF F.SOLV_PREEMPT_US < (s.ctx 0 0).frame.deadline) :
    s.preempt = ((s.setCtx 0 0 { s.ctx 0 0 with st := .ready }).bump (F.ASTER_PREEMPTS_COUNT 0)).startFrame 0 1 f := by
  refine State.preempt_of_cand hf hen ?_ ?_ hd
  · rw [List.any_eq_false]
    intro n _
    by_cases hn : n = 0
    · simp [hn, hr]
    · simp [State.tileTakes_other hone hn]
  · rw [List.range_succ_eq_map, List.filterMap_cons, State.preemptCand_of_running ht hr hfree]
    refine congrArg (List.cons _) (List.filterMap_eq_nil_iff.2 fun n hn => ?_)
    obtain ⟨i, -, rfl⟩ := List.mem_map.1 hn
    exact State.preemptCand_of_notTaking (State.tileTakes_other hone (Nat.succ_ne_zero i))

/-! ## HOLD (R152) -/

/-- What HOLD, or its release, makes of a context's state. -/
def heldState (hold : Bool) (st : CtxState) : CtxState :=
  if hold && st == .running then .held else if !hold && st == .held then .ready else st

/-- HOLD on one context of a tile. -/
def State.holdCtx (s : State) (hold : Bool) (n k : Nat) : State :=
  if hold && (s.ctx n k).st == .running then s.setCtx n k { s.ctx n k with st := .held }
  else if !hold && (s.ctx n k).st == .held then s.setCtx n k { s.ctx n k with st := .ready }
  else s

theorem State.holdCtx_only (s : State) (hold : Bool) (n k : Nat) :
    OnlyCtx s (s.holdCtx hold n k) n k { s.ctx n k with st := heldState hold (s.ctx n k).st } := by
  unfold State.holdCtx heldState
  split
  · exact OnlyCtx.setCtx ..
  · split
    · exact OnlyCtx.setCtx ..
    · exact ⟨rfl, fun _ _ _ => rfl, rfl⟩

/-- HOLD on both contexts. -/
theorem State.holdBoth_st (s : State) (hold : Bool) (n : Nat) {k : Nat} (hk : k < 2) :
    (((s.holdCtx hold n 0).holdCtx hold n 1).ctx n k).st = heldState hold (s.ctx n k).st := by
  obtain ⟨h0, hother0, -⟩ := s.holdCtx_only hold n 0
  obtain ⟨h1, hother1, -⟩ := (s.holdCtx hold n 0).holdCtx_only hold n 1
  obtain rfl | rfl : k = 0 ∨ k = 1 := by omega
  · rw [hother1 n 0 (by omega), h0]
  · rw [h1, hother0 n 1 (by omega)]

theorem State.holdBoth_only (s : State) (hold : Bool) (n : Nat) :
    (s.holdCtx hold n 0).holdCtx hold n 1 =
      { s with solv := { s.solv with ctxs := ((s.holdCtx hold n 0).holdCtx hold n 1).solv.ctxs } } := by
  obtain ⟨-, -, h0⟩ := s.holdCtx_only hold n 0
  obtain ⟨-, -, h1⟩ := (s.holdCtx hold n 0).holdCtx_only hold n 1
  exact h1.trans (by rw [h0])

/-- The field that a HOLD row writes. -/
def holdField : List FieldDef := [⟨"HOLD", 0, 0, .rw, 0⟩]

theorem asterCtrl_sameWrite : SameWrite (2 ^ 1 - 1) Reg.ASTER_CTRL.fields holdField := by
  intro a
  cases a <;> decide

theorem asterCtrl_regAt : ∀ n : Fin 16, regAt (0x61040 + 0x1000 * n.val) = some (Reg.ASTER_CTRL, 0) ∧
    (rangeRules1 ++ rangeRules2 ++ rangeRules3).filter (·.covers (0x61040 + 0x1000 * n.val)) = [] ∧
    plainKey (0x61040 + 0x1000 * n.val) = 0x61040 + 0x1000 * n.val ∧
    (windows.find? fun w => decide (w.1 ≤ 0x61040 + 0x1000 * n.val) && decide (0x61040 + 0x1000 * n.val ≤ w.2.1)) = none := by
  decide

/-- The state after the write of HOLD and its effect on the contexts. -/
def State.held (s : State) (hold : Bool) (n : Nat) : State :=
  ((s.setF (F.ASTER_CTRL_HOLD n) (bit hold)).holdCtx hold n 0).holdCtx hold n 1

theorem exec_tileHold {who : Initiator} {tile : Fin 16} {s : State} (hold : Bool)
    (ho : s.opens who (0x61040 + 0x1000 * tile.val) true = true) : exec (.tileHold who tile hold) s =
      .next ((if hold then (s.held hold tile.val).raise (0x061 + tile.val) 2 else s.held hold tile.val).respond 0 false) := by
  obtain ⟨hreg, hrange, hplain, hwin⟩ := asterCtrl_regAt tile
  have := tile.isLt
  exact congrArg Host.Outcome.next (State.rowWrite_lowField (n := 1) (gs := holdField) ho hreg asterCtrl_sameWrite
    ⟨by decide, by decide, by decide, by decide, by decide, by decide⟩ (.inr (by decide)) (State.winKey_of_no_window hwin s)
    fun _ => State.refuseWrite_tile hplain (by omega) (by omega) hrange)

/-! ## EVICT (R152) -/

/-- What is left of context `k` of tile `n` when it is freed: its frame is queued again unless it was a test or has given its fix. -/
structure Evicted (s t : State) (n k : Nat) : Prop where
  free : (t.ctx n k).st = .free
  other : ∀ n' k', 2 * n' + k' ≠ 2 * n + k → t.ctx n' k' = s.ctx n' k'
  requeued : (s.ctx n k).st ≠ .free → (s.ctx n k).test = false → (s.ctx n k).fixed = false → (s.ctx n k).frame ∈ t.solv.queue
  queue : s.solv.queue ⊆ t.solv.queue
  cmd : t.solv.cmd = s.solv.cmd
  reg : ∀ key, key ≠ F.SOLV_QUEUE_STAT_PEAK.key → t.reg key = s.reg key
  only : SolvFrame s t
  fifos : t.fifos = s.fifos

/-- The context freed, its frame not yet queued. -/
def State.freed (s : State) (n k : Nat) : State := (s.setCtx n k noCtx).dtuUnpause 1 (2 * n + k)

theorem State.freed_only (s : State) (n k : Nat) : SolvFrame s (s.freed n k) := rfl

theorem State.freed_ctx (s : State) (n k : Nat) : (s.freed n k).ctx n k = noCtx := Assoc.get_put_same

theorem State.freed_ctx_other {s : State} {n k n' k' : Nat} (h : 2 * n' + k' ≠ 2 * n + k) : (s.freed n k).ctx n' k' = s.ctx n' k' :=
  Assoc.get_put_other h

/-- A frame put at the end of the input queue, whose peak is kept. -/
def State.requeue (s : State) (f : ObsFrame) : State :=
  let t := { s with solv := { s.solv with queue := s.solv.queue ++ [f] } }
  t.setF F.SOLV_QUEUE_STAT_PEAK (max (t.getF F.SOLV_QUEUE_STAT_PEAK) t.solv.queue.length)

@[simp] theorem State.requeue_solv (s : State) (f : ObsFrame) :
    (s.requeue f).solv = { s.solv with queue := s.solv.queue ++ [f] } := State.setF_solv ..

@[simp] theorem State.requeue_fifos (s : State) (f : ObsFrame) : (s.requeue f).fifos = s.fifos := State.setF_fifos ..

theorem State.requeue_reg {s : State} {f : ObsFrame} {key : Nat} (h : key ≠ F.SOLV_QUEUE_STAT_PEAK.key) :
    (s.requeue f).reg key = s.reg key := State.reg_setF_other (f := F.SOLV_QUEUE_STAT_PEAK) (by decide) h

theorem State.requeue_only (s : State) (f : ObsFrame) : SolvFrame s (s.requeue f) := (SolvFrame.withSolv ..).trans (.setF ..)

theorem State.requeue_ctx (s : State) (f : ObsFrame) (n k : Nat) : (s.requeue f).ctx n k = s.ctx n k := by
  unfold State.ctx
  rw [State.requeue_solv]

theorem State.evictCtx_free {s : State} {n k : Nat} (h : (s.ctx n k).st = .free) : s.evictCtx n k = s := if_pos (by rw [h]; rfl)

theorem State.evictCtx_done {s : State} {n k : Nat} (h : (s.ctx n k).st ≠ .free) (hd : ((s.ctx n k).test || (s.ctx n k).fixed) = true) :
    s.evictCtx n k = s.freed n k := (if_neg (by simpa using h)).trans (if_pos hd)

theorem State.evictCtx_requeue {s : State} {n k : Nat} (h : (s.ctx n k).st ≠ .free)
    (hd : ((s.ctx n k).test || (s.ctx n k).fixed) = false) : s.evictCtx n k = (s.freed n k).requeue (s.ctx n k).frame :=
  (if_neg (by simpa using h)).trans (if_neg (ne_true_of_eq_false hd))

theorem State.evictCtx_evicts (s : State) (n k : Nat) : Evicted s (s.evictCtx n k) n k := by
  by_cases h : (s.ctx n k).st = .free
  · rw [State.evictCtx_free h]
    exact ⟨h, fun _ _ _ => rfl, fun hn => absurd h hn, fun _ hg => hg, rfl, fun _ _ => rfl, .refl s, rfl⟩
  · cases hd : (s.ctx n k).test || (s.ctx n k).fixed
    · rw [State.evictCtx_requeue h hd]
      refine ⟨?_, fun n' k' hk => ?_, fun _ _ _ => ?_, ?_, ?_, fun key hk => State.requeue_reg hk, ?_, State.requeue_fifos ..⟩
      · rw [State.requeue_ctx, State.freed_ctx]
        rfl
      · rw [State.requeue_ctx, State.freed_ctx_other hk]
      · simp
      · rw [State.requeue_solv]
        exact List.subset_append_left ..
      · rw [State.requeue_solv]
        rfl
      · exact (s.freed_only n k).trans (State.requeue_only ..)
    · rw [State.evictCtx_done h hd]
      refine ⟨by rw [State.freed_ctx]; rfl, fun _ _ hk => State.freed_ctx_other hk, fun _ ht hf => ?_, fun _ hg => hg, rfl,
        fun _ _ => rfl, s.freed_only n k, rfl⟩
      simp [ht, hf] at hd

/-- Both contexts of a tile freed: no filter command waits (R152). -/
structure TileFreed (s t : State) (n : Nat) : Prop where
  free0 : (t.ctx n 0).st = .free
  free1 : (t.ctx n 1).st = .free
  requeued : (s.ctx n 0).st ≠ .free → (s.ctx n 0).test = false → (s.ctx n 0).fixed = false → (s.ctx n 0).frame ∈ t.solv.queue
  reg : ∀ key, key ≠ F.SOLV_QUEUE_STAT_PEAK.key → t.reg key = s.reg key
  only : SolvFrame s t
  fifos : t.fifos = s.fifos

theorem State.solvRetry_none {s : State} (h : s.solv.cmd = none) : s.solvRetry = s := by
  unfold State.solvRetry
  rw [h]

theorem State.evictBoth_frees {s : State} (n : Nat) (h : s.solv.cmd = none) :
    TileFreed s ((s.evictCtx n 0).evictCtx n 1).solvRetry n := by
  have h0 := s.evictCtx_evicts n 0
  have h1 := (s.evictCtx n 0).evictCtx_evicts n 1
  rw [State.solvRetry_none (h1.cmd.trans (h0.cmd.trans h))]
  exact {
    free0 := (congrArg RunCtx.st (h1.other n 0 (by omega))).trans h0.free
    free1 := h1.free
    requeued := fun hst ht hf => h1.queue (h0.requeued hst ht hf)
    reg := fun key hk => (h1.reg key hk).trans (h0.reg key hk)
    only := h0.only.trans h1.only
    fifos := h1.fifos.trans h0.fifos }

theorem exec_tileEvict {who : Initiator} {tile : Fin 16} {s : State} (ho : s.opens who (0x61040 + 0x1000 * tile.val) true = true) :
    exec (.tileEvict who tile) s = .next ((((s.evictCtx tile.val 0).evictCtx tile.val 1).solvRetry).respond 0 false) :=
  congrArg Host.Outcome.next (State.command_of_opens ho)

/-! ## TILE_FAULT (R152, R166) -/

/-- The fault recorded, the runs not yet returned. -/
def State.tileFaulted (s : State) (n k : Nat) (ecc : Bool) : State :=
  let c := s.ctx n k
  let rec_ := 0x80000000 + k * 0x40000000 + c.index * 0x1000000 + opOf (c.script.getD c.index 0) * 0x10000 + (if ecc then 2 else 3)
  (((s.setReg (0x6104C + 0x1000 * n) (BitVec.ofNat 32 rec_)).setFlag (F.PG_STAT_FAULT (0x061 + n)) true).raise (0x061 + n) 1).err
    (0x061 + n) 0x12 none c.index

theorem exec_tileFault {tile : Fin 16} {k : Fin 2} {ecc : Bool} {s : State} (h : s.pagePowered 0x060 = true) :
    exec (.tileFault tile k ecc) s =
      .next (((s.tileFaulted tile.val k.val ecc).evictCtx tile.val 0).evictCtx tile.val 1).solvRetry := State.live_of_powered h

theorem State.tileFaulted_only (s : State) (n k : Nat) (ecc : Bool) : SolvFrame s (s.tileFaulted n k ecc) :=
  (((SolvFrame.setReg ..).trans (.setFlag ..)).trans (.raise ..)).trans (.err ..)

@[simp] theorem State.tileFaulted_solv (s : State) (n k : Nat) (ecc : Bool) : (s.tileFaulted n k ecc).solv = s.solv := by
  simp [State.tileFaulted]

@[simp] theorem State.tileFaulted_fifos (s : State) (n k : Nat) (ecc : Bool) : (s.tileFaulted n k ecc).fifos = s.fifos := by
  simp [State.tileFaulted]

theorem State.tileFaulted_flag (s : State) (n k : Nat) (ecc : Bool) :
    (s.tileFaulted n k ecc).flag (F.PG_STAT_FAULT (0x061 + n)) = true := by
  have hkey : (F.PG_STAT_FAULT (0x061 + n)).key = (0x061 + n) * 0x1000 + 0xC := rfl
  unfold State.tileFaulted
  rw [State.flag_of_reg_eq (Nat.lt_of_sub_eq_succ rfl) (State.reg_err_other (by omega) (by omega) (by omega)),
    State.flag_of_reg_eq (Nat.lt_of_sub_eq_succ rfl) (State.reg_raise_other (by decide) (by omega)),
    State.flag_setFlag_same rfl (Nat.lt_of_sub_eq_succ rfl)]

theorem State.event_err {s : State} {p q c code addr : Nat} {who : Option Initiator} (h : s.event q c = true)
    (h20 : q * 0x1000 + 0x10 ≠ p * 0x1000 + 0x20) (h24 : q * 0x1000 + 0x10 ≠ p * 0x1000 + 0x24) :
    (s.err p code who addr).event q c = true := by
  unfold State.err
  split
  · exact (State.event_of_reg_eq (State.reg_setF_other (f := F.PG_ERR_INFO_COUNT p) (Nat.lt_of_sub_eq_succ rfl) h20)).trans h
  · refine State.event_raise (by decide) ((State.event_of_reg_eq ?_).trans h)
    rw [State.reg_setReg_other h24, State.reg_setReg_other h20]

theorem State.tileFaulted_event (s : State) (n k : Nat) (ecc : Bool) : (s.tileFaulted n k ecc).event (0x061 + n) 1 = true :=
  State.event_err (State.event_raise_same _ _ (by decide)) (by omega) (by omega)

/-! ## TEST (R166) -/

/-- The context that a test takes. -/
def State.testRun (s : State) (n : Nat) : RunCtx :=
  { noCtx with
    st := if (s.running n).isSome then CtxState.ready else CtxState.running
    test := true }

/-- A test started in context `k` of tile `n`. -/
def State.testStarted (s : State) (n k : Nat) : State :=
  ((s.setCtx n k (s.testRun n)).unwipe (0x061 + n)).setReg (0x61058 + 0x1000 * n) 0x80000000

theorem State.tileTestStart_eq {s : State} {n k : Nat} (h : s.freeCtx n = some k) : s.tileTestStart n = some (s.testStarted n k) := by
  unfold State.tileTestStart
  rw [h]
  rfl

theorem State.testStarted_solv (s : State) (n k : Nat) : (s.testStarted n k).solv = (s.setCtx n k (s.testRun n)).solv :=
  (State.setReg_solv ..).trans (State.unwipe_solv ..)

theorem State.testStarted_ctx (s : State) (n k : Nat) : (s.testStarted n k).ctx n k = s.testRun n :=
  (State.ctx_of_solv (s.testStarted_solv n k) n k).trans (State.ctx_setCtx_same ..)

theorem State.testStarted_ctx_other {s : State} {n k n' k' : Nat} (h : 2 * n' + k' ≠ 2 * n + k) :
    (s.testStarted n k).ctx n' k' = s.ctx n' k' := (State.ctx_of_solv (s.testStarted_solv n k) n' k').trans (State.ctx_setCtx_other h)

theorem State.testStarted_reg (s : State) (n k : Nat) : (s.testStarted n k).reg (0x61058 + 0x1000 * n) = 0x80000000 :=
  State.reg_setReg_same

theorem State.tileTestStart_none {s : State} {n : Nat} (h : s.freeCtx n = none) : s.tileTestStart n = none := by
  unfold State.tileTestStart
  rw [h]
  rfl

theorem exec_tileTest_refused {who : Initiator} {tile : Fin 16} {s : State}
    (ho : s.opens who (0x61058 + 0x1000 * tile.val) true = true) (h : s.tileTestStart tile.val = none) :
    exec (.tileTest who tile) s = .next ((s.accessErr 0x11 who (0x61058 + 0x1000 * tile.val)).respond 0 false) := by
  refine congrArg Host.Outcome.next ((State.command_of_opens ho).trans ?_)
  dsimp only
  rw [h]

theorem exec_tileTest_started {who : Initiator} {tile : Fin 16} {s t : State}
    (ho : s.opens who (0x61058 + 0x1000 * tile.val) true = true) (h : s.tileTestStart tile.val = some t) :
    exec (.tileTest who tile) s = .next (t.respond 0 false) := by
  refine congrArg Host.Outcome.next ((State.command_of_opens ho).trans ?_)
  dsimp only
  rw [h]

/-- A test run's context freed at the end of its test. -/
def State.clearTest (s : State) (n k : Nat) : State := if (s.ctx n k).test then s.setCtx n k noCtx else s

/-- The tests of a tile ended, with the word that shows DONE, PASS and the signature. -/
def State.testDone (s : State) (n : Nat) (word : Word) : State :=
  (((s.clearTest n 0).clearTest n 1).setReg (0x61058 + 0x1000 * n) word).raise (0x061 + n) 3

/-- The word of a test that has ended (R166). -/
def testWord (pass : Bool) (signature : Nat) : Word := BitVec.ofNat 32 (0x40000000 + bit pass * 0x20000000 + signature)

theorem exec_tileTestDone {tile : Fin 16} {sig : Fin 65536} {s : State} (h : s.pagePowered 0x060 = true)
    (ht : (s.ctx tile.val 0).test = true) : exec (.tileTestDone tile sig) s =
      .next (s.testDone tile.val (testWord (sig.val == Config.tileSignature % 65536) sig.val)) := by
  refine (State.live_of_powered h).trans (congrArg Host.Outcome.next ?_)
  exact if_pos (by rw [ht, Bool.true_or])

theorem State.clearTest_only (s : State) (n k : Nat) : OnlyCtx s (s.clearTest n k) n k (if (s.ctx n k).test then noCtx else s.ctx n k) := by
  unfold State.clearTest
  split
  · exact OnlyCtx.setCtx ..
  · exact ⟨rfl, fun _ _ _ => rfl, rfl⟩

theorem testWord_toNat (pass : Bool) {signature : Nat} (h : signature < 65536) :
    (testWord pass signature).toNat = (if pass then 0x60000000 else 0x40000000) + signature := by
  unfold testWord bit
  rw [BitVec.toNat_ofNat]
  split
  · omega
  · omega

/-- The word shows the signature, DONE and, where the signature is the known one, PASS. -/
theorem testWord_bits (pass : Bool) {signature : Nat} (h : signature < 65536) : (testWord pass signature).toNat % 65536 = signature ∧
    (testWord pass signature).getLsbD 30 = true ∧ (testWord pass signature).getLsbD 29 = pass := by
  rw [← BitVec.testBit_toNat, ← BitVec.testBit_toNat, testWord_toNat pass h, Nat.testBit_eq_decide_div_mod_eq,
    Nat.testBit_eq_decide_div_mod_eq]
  cases pass
  · rw [if_neg Bool.false_ne_true]
    exact ⟨by omega, decide_eq_true (by omega), decide_eq_false (by omega)⟩
  · rw [if_pos rfl]
    exact ⟨by omega, decide_eq_true (by omega), decide_eq_true (by omega)⟩

end Sys2Proof.Machine
end

section
/-! The statement on the tiles of the fix engine. -/

namespace Sys2Proof.Machine

/-- Between two states nothing changes but registers and the contexts of the tiles. -/
def TileFrame (s t : State) : Prop := t = { s with regs := t.regs, solv := { s.solv with ctxs := t.solv.ctxs } }

namespace TileFrame

theorem trans {s t u : State} (h : TileFrame s t) (k : TileFrame t u) : TileFrame s u := Eq.trans k (by rw [h])

theorem onlyCtx {s t : State} {n k : Nat} {c : RunCtx} (h : OnlyCtx s t n k c) : TileFrame s t := by
  obtain ⟨-, -, h⟩ := h
  exact h.trans (by rw [h])

theorem setReg (s : State) (k : Nat) (v : Word) : TileFrame s (s.setReg k v) := rfl

theorem setF (s : State) (f : Fld) (v : Nat) : TileFrame s (s.setF f v) := by
  unfold TileFrame
  rw [State.setF_solv]
  exact s.setF_only f v

theorem raise (s : State) (p b : Nat) : TileFrame s (s.raise p b) := setF ..

/-- The answer to a command. -/
theorem respond {s t : State} (h : TileFrame s t) : t.respond 0 false = { s with
    regs := (t.respond 0 false).regs
    solv := { s.solv with ctxs := (t.respond 0 false).solv.ctxs }
    bus := ⟨0, false⟩ } := congrArg (State.respond · 0 false) h

end TileFrame

theorem tileDispatch_completes {s : State} {f : ObsFrame} (hp : s.pagePowered 0x060 = true) (hempty : s.solv.ctxs = [])
    (ht : s.tileTakes 0 = true) (hf : s.nextFrame = some f) : Completes .tileDispatch s fun t =>
      (t.ctx 0 0).frame = f ∧ (t.ctx 0 0).st = CtxState.running ∧ (t.ctx 0 0).index = 0 ∧
      (t.ctx 0 0).script = s.bankWords (s.getF F.SOLV_STAT_BANK_ACTIVE) ∧ (∀ n k, 2 * n + k ≠ 0 → t.ctx n k = s.ctx n k) ∧
      (∀ g, g ∈ t.solv.queue ↔ g ∈ s.solv.queue ∧ g.order ≠ f.order) ∧ t = { s with regs := t.regs, solv := t.solv } := by
  have h := s.startFrame_starts 0 0 f
  refine ⟨_, (State.live_of_powered hp).trans (congrArg Host.Outcome.next (State.tileDispatch_starts hempty ht hf)), ?_⟩
  exact ⟨h.frame, h.st, h.index, h.script, h.other, h.queue, h.only.regs_solv h.fifos h.mem⟩

theorem preemption_completes {s : State} {f : ObsFrame} (hp : s.pagePowered 0x060 = true) (hf : s.nextFrame = some f)
    (hen : s.flag F.SOLV_CTRL_PREEMPT_EN = true) (hone : s.getF F.SOLV_TILES_EN = 1) (hr : s.running 0 = some 0)
    (hfree : (s.ctx 0 1).st = CtxState.free) (hhold : s.flag (F.ASTER_CTRL_HOLD 0) = false)
    (hfault : s.flag (F.PG_STAT_FAULT 0x061) = false)
    (hd : f.deadline + 1000 * s.getF F.SOLV_PREEMPT_US < (s.ctx 0 0).frame.deadline) : Completes .preemption s fun t =>
      (t.ctx 0 0).st = CtxState.ready ∧ (t.ctx 0 1).st = CtxState.running ∧ (t.ctx 0 1).frame = f ∧
      (∀ n k, 2 ≤ 2 * n + k → t.ctx n k = s.ctx n k) ∧ t = { s with regs := t.regs, solv := t.solv } := by
  have hst : (s.ctx 0 0).st = CtxState.running := by
    by_contra hne
    simp [State.running, hne, hfree] at hr
  have hfree1 : s.freeCtx 0 = some 1 := by simp [State.freeCtx, hst, hfree]
  have htakes : s.tileTakes 0 = true := by simp [State.tileTakes, hone, hhold, hfault, bitAt]
  set u := (s.setCtx 0 0 { s.ctx 0 0 with st := .ready }).bump (F.ASTER_PREEMPTS_COUNT 0) with hu
  have hctx (n k : Nat) : u.ctx n k = (s.setCtx 0 0 { s.ctx 0 0 with st := .ready }).ctx n k :=
    State.ctx_of_solv (State.bump_solv ..) n k
  have hfifos : u.fifos = s.fifos := State.bump_fifos ..
  have hmem : u.mem = s.mem := State.bump_mem ..
  have honly : SolvFrame s u := (SolvFrame.setCtx ..).trans (.bumpBy ..)
  have h := u.startFrame_starts 0 1 f
  refine ⟨_, (State.live_of_powered hp).trans (congrArg Host.Outcome.next (State.preempt_first hf hen hone hr hfree1 htakes hd)), ?_⟩
  refine ⟨?_, h.st, h.frame, fun n k hk => ?_, (honly.trans h.only).regs_solv (h.fifos.trans hfifos) (h.mem.trans hmem)⟩
  · rw [h.other 0 0 (by decide), hctx, State.ctx_setCtx_same]
  · rw [h.other n k (by omega), hctx, State.ctx_setCtx_other (by omega)]

/-! ## HOLD -/

theorem State.held_frame (s : State) (hold : Bool) (n : Nat) : TileFrame s (s.held hold n) :=
  ((TileFrame.setF ..).trans (.onlyCtx (State.holdCtx_only ..))).trans (.onlyCtx (State.holdCtx_only ..))

theorem State.held_flag (s : State) (hold : Bool) (n : Nat) : (s.held hold n).flag (F.ASTER_CTRL_HOLD n) = hold := by
  unfold State.held
  rw [State.holdBoth_only]
  exact State.flag_setFlag_same (b := hold) rfl (Nat.lt_of_sub_eq_succ rfl)

theorem State.held_st (s : State) (hold : Bool) (n : Nat) {k : Nat} (hk : k < 2) :
    ((s.held hold n).ctx n k).st = heldState hold (s.ctx n k).st :=
  (State.holdBoth_st _ hold n hk).trans (by rw [State.ctx_of_solv (State.setF_solv ..)])

theorem heldState_true (st : CtxState) : heldState true st = if st = CtxState.running then CtxState.held else st := by
  cases st <;> rfl

theorem heldState_false (st : CtxState) : heldState false st = if st = CtxState.held then CtxState.ready else st := by
  cases st <;> rfl

theorem tileHold_completes {who : Initiator} {tile : Fin 16} {s : State} (ho : s.opens who (0x61040 + 0x1000 * tile.val) true = true) :
    Completes (.tileHold who tile true) s fun t => t.flag (F.ASTER_CTRL_HOLD tile.val) = true ∧ t.event (0x061 + tile.val) 2 = true ∧
      (∀ k, k < 2 → (t.ctx tile.val k).st =
        if (s.ctx tile.val k).st = CtxState.running then CtxState.held else (s.ctx tile.val k).st) ∧
      t = { s with regs := t.regs, solv := { s.solv with ctxs := t.solv.ctxs }, bus := ⟨0, false⟩ } := by
  have hx := exec_tileHold true ho
  rw [if_pos rfl] at hx
  set u := (s.held true tile.val).raise (0x061 + tile.val) 2 with hu
  have hkey : (F.ASTER_CTRL_HOLD tile.val).key = 0x61040 + 0x1000 * tile.val := rfl
  have hreg : u.reg (F.ASTER_CTRL_HOLD tile.val).key = (s.held true tile.val).reg (F.ASTER_CTRL_HOLD tile.val).key :=
    State.reg_raise_other (by decide) (by omega)
  have hflag := (State.flag_of_reg_eq (Nat.lt_of_sub_eq_succ rfl) hreg).trans (s.held_flag true tile.val)
  have hevent : u.event (0x061 + tile.val) 2 = true := State.event_raise_same _ _ (by decide)
  have hctx (k) : u.ctx tile.val k = (s.held true tile.val).ctx tile.val k := State.ctx_of_solv (State.raise_solv ..) tile.val k
  have hst (k) (hk : k < 2) := (congrArg RunCtx.st (hctx k)).trans ((s.held_st true tile.val hk).trans (heldState_true _))
  have honly : TileFrame s u := (s.held_frame true tile.val).trans (.raise ..)
  generalize u = t at hx hflag hevent hst honly
  exact ⟨_, hx, hflag, hevent, hst, honly.respond⟩

theorem tileRelease_completes {who : Initiator} {tile : Fin 16} {s : State} (ho : s.opens who (0x61040 + 0x1000 * tile.val) true = true) :
    Completes (.tileHold who tile false) s fun t => t.flag (F.ASTER_CTRL_HOLD tile.val) = false ∧
      (∀ k, k < 2 → (t.ctx tile.val k).st =
        if (s.ctx tile.val k).st = CtxState.held then CtxState.ready else (s.ctx tile.val k).st) ∧
      t = { s with regs := t.regs, solv := { s.solv with ctxs := t.solv.ctxs }, bus := ⟨0, false⟩ } := by
  have hx := exec_tileHold false ho
  rw [if_neg Bool.false_ne_true] at hx
  have hflag := s.held_flag false tile.val
  have hst (k) (hk : k < 2) := (s.held_st false tile.val hk).trans (heldState_false _)
  have honly := s.held_frame false tile.val
  generalize s.held false tile.val = t at hx hflag hst honly
  exact ⟨_, hx, hflag, hst, honly.respond⟩

/-! ## EVICT and faults -/

theorem tileEvict_completes {who : Initiator} {tile : Fin 16} {s : State} (ho : s.opens who (0x61040 + 0x1000 * tile.val) true = true)
    (hc : s.solv.cmd = none) : Completes (.tileEvict who tile) s fun t =>
      (t.ctx tile.val 0).st = CtxState.free ∧ (t.ctx tile.val 1).st = CtxState.free ∧
      ((s.ctx tile.val 0).st ≠ CtxState.free → (s.ctx tile.val 0).test = false → (s.ctx tile.val 0).fixed = false →
        (s.ctx tile.val 0).frame ∈ t.solv.queue) ∧ (∀ k, k ≠ F.SOLV_QUEUE_STAT_PEAK.key → t.reg k = s.reg k) ∧
      t = { s with regs := t.regs, solv := t.solv, mem := { s.mem with dtuPaused := t.mem.dtuPaused }, bus := ⟨0, false⟩ } := by
  have h := State.evictBoth_frees tile.val hc
  have hx := exec_tileEvict ho
  generalize ((s.evictCtx tile.val 0).evictCtx tile.val 1).solvRetry = t at h hx
  exact ⟨_, hx, h.free0, h.free1, h.requeued, h.reg, congrArg (State.respond · 0 false) (h.only.regs_solv_paused h.fifos)⟩

theorem tileFault_completes {tile : Fin 16} {k : Fin 2} {ecc : Bool} {s : State} (hp : s.pagePowered 0x060 = true)
    (hc : s.solv.cmd = none) : Completes (.tileFault tile k ecc) s fun t => t.flag (F.PG_STAT_FAULT (0x061 + tile.val)) = true ∧
      t.event (0x061 + tile.val) 1 = true ∧ (t.ctx tile.val 0).st = CtxState.free ∧ (t.ctx tile.val 1).st = CtxState.free ∧
      t = { s with regs := t.regs, solv := t.solv, mem := { s.mem with dtuPaused := t.mem.dtuPaused } } := by
  have hflag := s.tileFaulted_flag tile.val k.val ecc
  have hevent := s.tileFaulted_event tile.val k.val ecc
  have honly := s.tileFaulted_only tile.val k.val ecc
  have hfifos := s.tileFaulted_fifos tile.val k.val ecc
  have hx := exec_tileFault (tile := tile) (k := k) (ecc := ecc) hp
  have h := State.evictBoth_frees (s := s.tileFaulted tile.val k.val ecc) tile.val (by rw [State.tileFaulted_solv, hc])
  generalize (((s.tileFaulted tile.val k.val ecc).evictCtx tile.val 0).evictCtx tile.val 1).solvRetry = t at h hx
  have hstat : (F.PG_STAT_FAULT (0x061 + tile.val)).key = (0x061 + tile.val) * 0x1000 + 0xC := rfl
  have hpeak : F.SOLV_QUEUE_STAT_PEAK.key = 0x60088 := rfl
  refine ⟨t, hx, ?_, ?_, h.free0, h.free1, (honly.trans h.only).regs_solv_paused (h.fifos.trans hfifos)⟩
  · exact (State.flag_of_reg_eq (Nat.lt_of_sub_eq_succ rfl) (h.reg _ (by omega))).trans hflag
  · exact (State.event_of_reg_eq (h.reg _ (by omega))).trans hevent

/-! ## TEST -/

theorem State.testStarted_frame (s : State) (n k : Nat) : TileFrame s (s.testStarted n k) :=
  ((TileFrame.onlyCtx (OnlyCtx.setCtx ..)).trans (.setF ..)).trans (.setReg ..)

theorem tileTest_completes {who : Initiator} {tile : Fin 16} {s : State} {k : Nat}
    (ho : s.opens who (0x61058 + 0x1000 * tile.val) true = true) (hfree : s.freeCtx tile.val = some k) :
    Completes (.tileTest who tile) s fun t => (t.ctx tile.val k).test = true ∧
      (t.ctx tile.val k).st = (if (s.running tile.val).isSome then CtxState.ready else CtxState.running) ∧
      t.reg (0x61058 + 0x1000 * tile.val) = 0x80000000 ∧ (∀ n j, 2 * n + j ≠ 2 * tile.val + k → t.ctx n j = s.ctx n j) ∧
      t = { s with regs := t.regs, solv := { s.solv with ctxs := t.solv.ctxs }, bus := ⟨0, false⟩ } := by
  have hx := exec_tileTest_started ho (State.tileTestStart_eq hfree)
  have hctx := s.testStarted_ctx tile.val k
  have hother (n j) (h : 2 * n + j ≠ 2 * tile.val + k) := State.testStarted_ctx_other (s := s) h
  have hreg := s.testStarted_reg tile.val k
  have honly := s.testStarted_frame tile.val k
  generalize s.testStarted tile.val k = t at hx hctx hother hreg honly
  exact ⟨_, hx, congrArg RunCtx.test hctx, congrArg RunCtx.st hctx, hreg, hother, honly.respond⟩

theorem State.testDone_frame (s : State) (n : Nat) (word : Word) : TileFrame s (s.testDone n word) :=
  (((TileFrame.onlyCtx (State.clearTest_only ..)).trans (.onlyCtx (State.clearTest_only ..))).trans (.setReg ..)).trans (.raise ..)

theorem State.testDone_reg (s : State) (n : Nat) (word : Word) : (s.testDone n word).reg (0x61058 + 0x1000 * n) = word :=
  (State.reg_raise_other (by decide) (by omega)).trans State.reg_setReg_same

theorem State.testDone_ctx {s : State} {n : Nat} {word : Word} (h : (s.ctx n 0).test = true) : (s.testDone n word).ctx n 0 = noCtx := by
  obtain ⟨h0, -, -⟩ := s.clearTest_only n 0
  obtain ⟨-, hother, -⟩ := (s.clearTest n 0).clearTest_only n 1
  rw [if_pos h] at h0
  exact (State.ctx_of_solv (State.raise_solv ..) n 0).trans ((hother n 0 (by omega)).trans h0)

theorem tileTestDone_completes {tile : Fin 16} {sig : Fin 65536} {s : State} (hp : s.pagePowered 0x060 = true)
    (ht : (s.ctx tile.val 0).test = true) : Completes (.tileTestDone tile sig) s fun t =>
      (t.ctx tile.val 0).st = CtxState.free ∧ t.event (0x061 + tile.val) 3 = true ∧
      (t.reg (0x61058 + 0x1000 * tile.val)).toNat % 65536 = sig.val ∧
      (t.reg (0x61058 + 0x1000 * tile.val)).getLsbD 30 = true ∧
      (t.reg (0x61058 + 0x1000 * tile.val)).getLsbD 29 = (sig.val == Config.tileSignature % 65536) ∧
      t = { s with regs := t.regs, solv := { s.solv with ctxs := t.solv.ctxs } } := by
  obtain ⟨hsig, hdone, hpass⟩ := testWord_bits (sig.val == Config.tileSignature % 65536) sig.isLt
  refine ⟨_, exec_tileTestDone hp ht, by rw [State.testDone_ctx ht]; rfl, State.event_raise_same _ _ (by decide), ?_, ?_, ?_,
    State.testDone_frame ..⟩
  · rw [State.testDone_reg, hsig]
  · rw [State.testDone_reg, hdone]
  · rw [State.testDone_reg, hpass]

/-- Settles O21: each command of a tile leaves its contexts as the rules say and changes nothing else but registers and the queue. -/
theorem tileCommands : Obligations.TileCommands := by
  refine ⟨fun f s hp hempty ht hf => tileDispatch_completes hp hempty ht hf, fun f s hp hf => ⟨fun hen => ?disabled, ?preempts⟩,
    fun who tile s ho => ⟨tileHold_completes ho, tileRelease_completes ho, fun hc => tileEvict_completes ho hc⟩,
    fun tile k ecc s hp hc => tileFault_completes hp hc, fun who tile s ho => ⟨fun hfree => ?refused, fun k hk => tileTest_completes ho hk⟩,
    fun tile sig s hp ht => tileTestDone_completes hp ht⟩
  case disabled => exact (State.live_of_powered hp).trans (congrArg Host.Outcome.next (State.preempt_disabled hen))
  case preempts =>
    intro hen hone hr hfree hhold hfault hd
    exact preemption_completes hp hf hen hone hr hfree hhold hfault hd
  case refused => exact exec_tileTest_refused ho (State.tileTestStart_none hfree)

end Sys2Proof.Machine
end

section
/-! What the record of a fix reaches (R145, R176): the zone lookup with its violations and stops, the shadow engine's check, and the queues. It
leaves the fix engine and the time base as they are. -/

namespace Sys2Proof.Machine

/-- From `s` to `t` the fix engine and the time base stay as they are. -/
structure KeepsSolver (s t : State) : Prop where
  solv : t.solv = s.solv
  time : t.time = s.time

namespace KeepsSolver

theorem refl (s : State) : KeepsSolver s s := ⟨rfl, rfl⟩

theorem trans {s t u : State} (h : KeepsSolver s t) (k : KeepsSolver t u) : KeepsSolver s u :=
  ⟨k.solv.trans h.solv, k.time.trans h.time⟩

theorem ite {s t u : State} {c : Prop} [Decidable c] (ht : KeepsSolver s t) (hu : KeepsSolver s u) :
    KeepsSolver s (if c then t else u) := by
  split
  · exact ht
  · exact hu

theorem foldl {α : Type} {f : State → α → State} (hf : ∀ s a, KeepsSolver s (f s a)) (l : List α) (s : State) :
    KeepsSolver s (l.foldl f s) :=
  List.foldlRecOn l f (motive := KeepsSolver s) (refl s) fun t ht a _ => ht.trans (hf t a)

/-- An access of a client of the translation unit. -/
theorem of_client {s t : State} (h : ClientFrame s t) : KeepsSolver s t := ⟨h.solv, h.time⟩

/-! ## Registers, logs, errors -/

theorem setF (s : State) (x : Fld) (v : Nat) : KeepsSolver s (s.setF x v) := by constructor <;> simp

theorem raise (s : State) (p b : Nat) : KeepsSolver s (s.raise p b) := setF s _ 1

theorem bump (s : State) (x : Fld) : KeepsSolver s (s.bump x) := setF s x _

theorem err (s : State) (p code : Nat) (who : Option Initiator) (a : Nat) : KeepsSolver s (s.err p code who a) := by
  constructor <;> simp

theorem respond (s : State) (d : Nat) (e : Bool) : KeepsSolver s (s.respond d e) := ⟨rfl, rfl⟩

theorem pushFifo (s : State) (key depth : Nat) (e : List Word) {full : State → State} (hf : KeepsSolver s (full s)) :
    KeepsSolver s (s.pushFifo key depth e full) := ite ⟨rfl, rfl⟩ hf

/-! ## Stops (R300 to R309) -/

theorem withPoppy (s : State) (p : PoppySt) : KeepsSolver s { s with poppy := p } := ⟨rfl, rfl⟩

theorem setPoppy (s : State) (p : PoppySt) : KeepsSolver s (s.setPoppy p) := ite (withPoppy s p) ((withPoppy s p).trans (raise ..))

theorem newStop (s : State) (x : PoppyStop) : KeepsSolver s (s.newStop x) :=
  ((withPoppy ..).trans (pushFifo _ _ _ _ (refl _))).trans (raise ..)

theorem raiseStop (s : State) (inA inB : Bool) (scope cause detail origin : Nat) (machines : List Nat) (fromBus : Bool) :
    KeepsSolver s (s.raiseStop inA inB scope cause detail origin machines fromBus) := by
  unfold State.raiseStop
  refine ite (refl s) (KeepsSolver.trans (ite ?_ (newStop ..)) (setPoppy ..))
  exact (withPoppy ..).trans (foldl (fun t p => newStop t _) _ _)

theorem poppyRequest (s : State) (op cause detail machine : Nat) : KeepsSolver s (s.poppyRequest op cause detail machine) :=
  (withPoppy ..).trans <| ite (raiseStop ..) <| ite (raiseStop ..) <| ite (raiseStop ..) (refl _)

/-! ## The zone lookup (R174 to R177, R189) -/

theorem withZone (s : State) (z : ZoneSt) : KeepsSolver s { s with zone := z } := ⟨rfl, rfl⟩

theorem violation (s : State) (kind m zone : Nat) : KeepsSolver s (s.violation kind m zone) :=
  (((pushFifo s 0x800BC 16 _ (refl s)).trans (bump ..)).trans (raise ..)).trans (poppyRequest _ 3 0x03 kind m)

theorem zoneResult (s : State) (m epoch : Nat) (hit : Option ZoneHit) (ve vn : Nat) :
    KeepsSolver s (s.zoneResult m epoch hit ve vn) := by
  unfold State.zoneResult
  dsimp only
  split
  · exact (violation ..).trans (withZone ..)
  · next h =>
    have hviolates : KeepsSolver s (if bitAt h.flags 4 then s.violation 1 m h.id
        else if bitsOf h.speed (4 * s.machClass m + 3) (4 * s.machClass m) = 0 then s.violation 3 m h.id
        else if bitAt h.flags 3 && (!(s.zoneState m).known || (s.zoneState m).outside || (s.zoneState m).zone != h.id) then
          s.violation 2 m h.id
        else s) := ite (violation ..) (ite (violation ..) (ite (violation ..) (refl s)))
    exact (hviolates.trans (ite (raise ..) (refl _))).trans (withZone ..)

theorem shadowLog (s : State) (region block outcome : Nat) : KeepsSolver s (s.shadowLog region block outcome) :=
  pushFifo _ _ _ _ (refl s)

theorem mismatch (s : State) : KeepsSolver s s.mismatch := (bump s F.SHADOW_MISMATCH_COUNT).trans (withZone ..)

theorem shadowRepair (s : State) (region a size n : Nat) (l : List Byte) : KeepsSolver s (s.shadowRepair region a size n l) := by
  induction n generalizing s a l with
  | zero => exact refl s
  | succ n ih =>
    have hgen : KeepsSolver s (if region = 0 then s.repairGen else s) := ite ((setF ..).trans (withZone ..)) (refl s)
    exact (ite (refl s) (hgen.trans (of_client (.physWrite ..)))).trans (ih ..)

theorem shadowBlock (s : State) (region block : Nat) : KeepsSolver s (s.shadowBlock region block).2 := by
  unfold State.shadowBlock
  have hread := ClientFrame.clientRead s 0x0B 0 (s.getF F.SHADOW_BASE_BASE * 0x1000 + ((shadowRegion region).1 + 0x1000 * block)) 0x1000
  dsimp only
  split
  · exact (of_client hread).trans ⟨rfl, rfl⟩
  · refine (of_client hread).trans (ite (((shadowLog ..).trans (mismatch ..)).trans (raise ..)) ?_)
    refine KeepsSolver.trans (of_client (.eccRead ..)) (ite (refl _) ?_)
    refine ((mismatch ..).trans (raise ..)).trans (ite (shadowLog ..) ?_)
    exact (((shadowRepair ..).trans (shadowLog ..)).trans (bump ..)).trans (raise ..)

theorem shadowCheck (s : State) (region block : Nat) : KeepsSolver s (s.shadowCheck region block) := by
  have hblock := shadowBlock s region block
  unfold State.shadowCheck
  dsimp only
  split
  · exact withZone ..
  · split
    · next heq =>
      rw [heq] at hblock
      exact hblock.trans (withZone ..)
    · next heq =>
      rw [heq] at hblock
      exact hblock.trans (withZone ..)

theorem zoneTableError (s : State) (m epoch a : Nat) : KeepsSolver s (s.zoneTableError m epoch a) :=
  ((((violation ..).trans (raise ..)).trans (err ..)).trans (withZone ..)).trans (shadowCheck ..)

theorem zoneFix (s : State) (m status epoch : Nat) (e n : Int) (ve vn : Nat) (moved : Bool) :
    KeepsSolver s (s.zoneFix m status epoch e n ve vn moved) := by
  unfold State.zoneFix
  refine ite (violation ..) (ite (violation ..) (ite (refl s) (ite (refl s) ?_)))
  dsimp only
  split
  · exact (bump ..).trans (zoneResult ..)
  · split
    · exact ((bump ..).trans (ite ((bump ..).trans (raise ..)) (refl _))).trans (zoneTableError ..)
    · exact ((bump ..).trans (ite ((bump ..).trans (raise ..)) (refl _))).trans (zoneResult ..)

/-! ## The queues (R479 to R486) -/

theorem setMbox (s : State) (q : Nat) (v : MboxQueue) : KeepsSolver s (s.setMbox q v) := ⟨rfl, rfl⟩

theorem mboxEvent (s : State) (q e : Nat) : KeepsSolver s (s.mboxEvent q e) := raise ..

theorem mboxCheckPtr (s : State) (q : Nat) : KeepsSolver s (s.mboxCheckPtr q) :=
  ite ((((setMbox ..).trans (bump ..)).trans (err ..)).trans (mboxEvent ..)) (refl s)

theorem mboxStore (s : State) (q : Nat) (w : Writer) (word : DWord) (packet : Bool) : KeepsSolver s (s.mboxStore q w word packet) := by
  unfold State.mboxStore
  have hstored (v : MboxQueue) (x : Fld) (n : Nat) : KeepsSolver s ((s.setMbox q v).setF x n) := (setMbox ..).trans (setF ..)
  exact ite ((setMbox ..).trans (bump ..)) (ite ((hstored ..).trans (mboxEvent ..)) (hstored ..))

theorem mboxServeHeld (s : State) (q n : Nat) : KeepsSolver s (s.mboxServeHeld q n) := by
  induction n generalizing s with
  | zero => exact refl s
  | succ n ih =>
    unfold State.mboxServeHeld
    split
    · refine KeepsSolver.trans ?_ (ih _)
      split
      · exact ((setMbox ..).trans (mboxStore ..)).trans (respond ..)
      · exact (setMbox ..).trans (mboxStore ..)
    · exact refl s

theorem countLost (s : State) (lost : Option Lost) : KeepsSolver s (s.countLost lost) := by
  cases lost with
  | none => exact refl s
  | some l =>
    obtain ⟨count, event, log⟩ := l
    cases event <;> cases log
    · exact bump ..
    · exact (bump ..).trans (pushFifo _ _ _ _ (refl _))
    · exact (bump ..).trans (raise ..)
    · exact ((bump ..).trans (raise ..)).trans (pushFifo _ _ _ _ (refl _))

theorem mboxFail (s : State) (q : Nat) (w : Writer) (lost : Option Lost) : KeepsSolver s (s.mboxFail q w lost) := by
  have hfail : KeepsSolver s ((s.bump (F.MBOX_WR_FAIL_COUNT (q / 4) (q % 4))).mboxEvent q 1) := (bump ..).trans (mboxEvent ..)
  cases w with
  | blk _ => exact hfail.trans (countLost ..)
  | ini _ => exact hfail.trans ((err ..).trans (respond ..))

theorem mboxWrite (s : State) (q : Nat) (w : Writer) (word : DWord) (packet : Bool) (lost : Option Lost) :
    KeepsSolver s (s.mboxWrite q w word packet lost) :=
  (mboxCheckPtr s q).trans <| ite (mboxFail ..) <| ite ((err ..).trans (countLost ..)) <| ite ((err ..).trans (countLost ..)) <|
    ite ((mboxStore ..).trans (mboxServeHeld ..)) (setMbox ..)

theorem postPacket (s : State) (q : Nat) (b : Block) (lost : Option Lost) (l : List Nat) : KeepsSolver s (s.postPacket q b lost l) := by
  induction l generalizing s with
  | nil => exact refl s
  | cons p ps ih =>
    cases ps with
    | nil => exact mboxWrite ..
    | cons _ _ => exact (mboxWrite ..).trans (ih _)

end KeepsSolver

end Sys2Proof.Machine
end

section
/-! The uplink payloads that the fix engine takes (R122 to R129, R147, R148). -/

namespace Sys2Proof.Machine

/-! ## Refusal (R126) -/

theorem State.getF_bump_same {s : State} {f : Fld} (h : f.lo ≤ f.hi) (h32 : f.hi < 32) (hlt : s.getF f + 1 < 2 ^ f.width) :
    (s.bump f).getF f = s.getF f + 1 := by
  unfold State.bump State.bumpBy
  dsimp only
  rw [if_pos hlt, State.getF_setF_same h h32, Nat.mod_eq_of_lt hlt]

/-- What a refused payload leaves: counted, logged, event 2, and nothing else changed. -/
structure PayloadRefused (s t : State) : Prop where
  count : s.getF F.SOLV_REFUSED_COUNT + 1 < 2 ^ 32 → t.getF F.SOLV_REFUSED_COUNT = s.getF F.SOLV_REFUSED_COUNT + 1
  event : t.event 0x060 2 = true
  only : t = { s with regs := t.regs, fifos := t.fifos }

theorem State.reg_pushFifo (s : State) (key depth : Nat) (e : List Word) (k : Nat) : (s.pushFifo key depth e id).reg k = s.reg k := by
  unfold State.pushFifo
  split <;> rfl

theorem State.obsRefuse_solv (s : State) (m cause seq : Nat) : (s.obsRefuse m cause seq).solv = s.solv := by
  unfold State.obsRefuse State.pushFifo
  split <;> simp

theorem State.obsRefuse_mem (s : State) (m cause seq : Nat) : (s.obsRefuse m cause seq).mem = s.mem := by
  unfold State.obsRefuse State.pushFifo
  split <;> simp

theorem State.obsRefuse_refuses (s : State) (m cause seq : Nat) : PayloadRefused s (s.obsRefuse m cause seq) := by
  set u := (s.bump F.SOLV_REFUSED_COUNT).raise 0x060 2 with hu
  have hreg (k) : (s.obsRefuse m cause seq).reg k = u.reg k := State.reg_pushFifo ..
  refine ⟨fun hlt => ?_, ?_, ?_⟩
  · rw [State.getF_of_reg_eq (by decide) (hreg _), State.getF_of_reg_eq (by decide) (State.reg_raise_other (by decide) (by decide)),
      State.getF_bump_same (by decide) (by decide) hlt]
  · exact (State.event_of_reg_eq (hreg _)).trans (State.event_raise_same _ _ (by decide))
  · have honly : SolvFrame s (s.obsRefuse m cause seq) := ((SolvFrame.bumpBy ..).trans (.raise ..)).trans (.pushFifo ..)
    exact honly.regs_fifos (State.obsRefuse_solv ..) (State.obsRefuse_mem ..)

/-- A payload that is refused, as a command of the model. -/
theorem PayloadRefused.completes {c : Instr} {s t : State} (h : PayloadRefused s t) (hx : exec c s = .next t)
    (hlt : s.getF F.SOLV_REFUSED_COUNT + 1 < 2 ^ 32) : Completes c s fun t =>
      t.getF F.SOLV_REFUSED_COUNT = s.getF F.SOLV_REFUSED_COUNT + 1 ∧ t.event 0x060 2 = true ∧
      t = { s with regs := t.regs, fifos := t.fifos } := ⟨t, hx, h.count hlt, h.event, h.only⟩

/-! ## The input queue (R129, R148) -/

/-- What a frame leaves that is queued: it is the last, with the order of its acceptance. -/
structure FrameQueued (s t : State) (f : ObsFrame) : Prop where
  queue : t.solv.queue = s.solv.queue ++ [f]
  order : t.solv.order = s.solv.order + 1
  accepted : f.order = s.solv.order
  reg : ∀ k, k ≠ F.SOLV_QUEUE_STAT_PEAK.key → t.reg k = s.reg k
  only : t = { s with regs := t.regs, solv := { s.solv with queue := t.solv.queue, order := t.solv.order } }

theorem State.enqueue_queues {s : State} (f : ObsFrame) (h : s.solv.queue.length < 512) :
    FrameQueued s (s.enqueue f) { f with order := s.solv.order } := by
  set u : State := { s with
    solv := { s.solv with queue := s.solv.queue ++ [{ f with order := s.solv.order }], order := s.solv.order + 1 } } with hu
  have heq : s.enqueue f = u.setF F.SOLV_QUEUE_STAT_PEAK (max (u.getF F.SOLV_QUEUE_STAT_PEAK) u.solv.queue.length) :=
    if_neg (Nat.not_le.2 h)
  have hsolv : (s.enqueue f).solv = u.solv := by rw [heq, State.setF_solv]
  refine ⟨congrArg SolvSt.queue hsolv, congrArg SolvSt.order hsolv, rfl, fun k hk => ?_, ?_⟩
  · rw [heq]
    exact State.reg_setF_other (f := F.SOLV_QUEUE_STAT_PEAK) (by decide) hk
  · rw [hsolv, heq]
    exact State.setF_only ..

/-- What an accepted frame is queued with (R129). -/
theorem State.obsQueue_queues {s : State} (m epoch seq : Nat) (offset : Int) (restart doppler : Bool) (sats : List SatObs)
    (h : s.solv.queue.length < 512) : ∃ f, FrameQueued s (s.obsQueue m epoch seq offset restart doppler sats) f ∧ f.machine = m ∧
      f.epoch = epoch ∧ f.doppler = doppler ∧ f.sats = sats ∧ f.accepted = s.now ∧
      f.deadline = s.now + 1000 * s.getF F.SOLV_DEADLINE_US := ⟨_, State.enqueue_queues _ h, rfl, rfl, rfl, rfl, rfl, rfl⟩

/-! ## Compact observation frames (R124) -/

theorem State.obsFrame_ofOtherType {s : State} {m : Nat} {b : List Byte} (h : wordAt b 0 % 256 ≠ 0xC5) :
    s.obsFrame m b = s.obsRefuse m 1 0 := if_pos (.inr (.inl h))

/-- A frame that passes every check of R126. -/
theorem State.obsFrame_accepted {s : State} {m : Nat} {b : List Byte} (hlen : 4 ≤ b.length) (htype : wordAt b 0 % 256 = 0xC5)
    (hversion : bitsOf (wordAt b 0) 11 8 = 1) (hsize : frameSized b 48 96 = true) (hstale : s.stale m (s.fullEpoch (wordAt b 4)) = false)
    (hdup : s.duplicate m (s.fullEpoch (wordAt b 4)) = false) (hmode : (s.smach m).mode = 1)
    (hepoch : s.fullEpoch (wordAt b 4) % s.epochMs = 0) (hoff : (toSigned 32 (wordAt b 12)).natAbs ≤ 1000000) :
    s.obsFrame m b = s.obsQueue m (s.fullEpoch (wordAt b 4)) (wordAt b 8 / 65536) (toSigned 32 (wordAt b 12))
      (bitAt (wordAt b 0) 13 || bitAt (wordAt b 0) 12) true (frameSats b) := by
  have hok : s.epochOk (s.fullEpoch (wordAt b 4)) = true := beq_iff_eq.2 hepoch
  unfold State.obsFrame
  dsimp only
  rw [if_neg (by simp [htype, hversion, Nat.not_lt.2 hlen]), if_neg (by simp [hsize]), if_neg (by simp [hstale]), if_neg (by simp [hdup]),
    if_neg (by simp [hmode]), if_neg (by simp [hok, Nat.not_lt.2 hoff])]

/-! ## RTCM payloads (R127) -/

theorem State.rtcmPayload_closed {s : State} {m : Nat} {b : List Byte}
    (h : (s.smach m).mode ≠ 1 ∨ s.flag (F.SOLV_MCFG_RTCM_IN m) = false) : s.rtcmPayload m b = s.obsRefuse m 5 0 :=
  if_pos (h.imp_right fun h => by rw [h]; rfl)

theorem State.rtcmPayload_split {s : State} {m c : Nat} {b : List Byte} (hmode : (s.smach m).mode = 1)
    (hin : s.flag (F.SOLV_MCFG_RTCM_IN m) = true) (h : rtcmSplit (b.length + 1) b = .error c) : s.rtcmPayload m b = s.obsRefuse m c 0 := by
  unfold State.rtcmPayload
  rw [if_neg (by simp [hmode, hin]), h]

/-- A payload that is not taken for an epoch at all is refused. -/
theorem State.rtcmPayload_refuses {s : State} {m : Nat} {b : List Byte}
    (h : (s.smach m).mode ≠ 1 ∨ s.flag (F.SOLV_MCFG_RTCM_IN m) = false ∨ ∃ c, rtcmSplit (b.length + 1) b = .error c) :
    PayloadRefused s (s.rtcmPayload m b) := by
  by_cases hclosed : (s.smach m).mode ≠ 1 ∨ s.flag (F.SOLV_MCFG_RTCM_IN m) = false
  · rw [State.rtcmPayload_closed hclosed]
    exact State.obsRefuse_refuses ..
  · rw [not_or, not_not, Bool.not_eq_false] at hclosed
    obtain ⟨hmode, hin⟩ := hclosed
    obtain h | h | ⟨c, h⟩ := h
    · exact absurd hmode h
    · exact absurd (hin.symm.trans h) (by decide)
    · rw [State.rtcmPayload_split hmode hin h]
      exact State.obsRefuse_refuses ..

/-- The lock-loss counts that the messages `reads` give a machine. -/
def SolvMachine.nextLocks (x : SolvMachine) (reads : List MsmRead) : List (Nat × Nat × Nat) :=
  (reads.flatMap fun r => r.locks).map (nextLock x.locks)

/-- The observables of a satellite with the lock-loss counts `locks`. -/
def SatObs.withLocks (locks : List (Nat × Nat × Nat)) (o : SatObs) : SatObs :=
  { o with sigs := o.sigs.map fun g => { g with lli := ((locks.find? fun e => e.1 == 2 * o.sat + g.band).map fun e => e.2.2).getD 0 } }

/-- The machine with those counts, and the counts kept of its other signals. -/
def SolvMachine.relocked (x : SolvMachine) (reads : List MsmRead) : SolvMachine :=
  { x with locks := x.nextLocks reads ++ x.locks.filter fun o => !((x.nextLocks reads).any fun n => n.1 == o.1) }

/-- A payload whose MSMs are one complete group that passes every check of R126. -/
theorem State.rtcmPayload_accepted {s : State} {m : Nat} {b : List Byte} {msgs : List (List Byte)} {x : MsmRead} {rest : List MsmRead}
    (hmode : (s.smach m).mode = 1) (hin : s.flag (F.SOLV_MCFG_RTCM_IN m) = true) (hsplit : rtcmSplit (b.length + 1) b = .ok msgs)
    (hread : (msgs.filter fun p => isMsm (rtcmType p)).mapM readMsm = some (x :: rest))
    (hsome : joinSats ((x :: rest).flatMap fun r => r.sats) ≠ []) (hfew : (joinSats ((x :: rest).flatMap fun r => r.sats)).length ≤ 48)
    (hstale : s.stale m (s.nearest 604800000 x.epoch) = false) (hdup : s.duplicate m (s.nearest 604800000 x.epoch) = false)
    (hepoch : s.epochOk (s.nearest 604800000 x.epoch) = true) (hlast : (x :: rest).getLast?.map (fun r => r.more) = some false)
    (hmore : ∀ r ∈ (x :: rest).dropLast, r.more = true) (hsame : ∀ r ∈ x :: rest, r.epoch = x.epoch) :
    ∃ n, s.rtcmPayload m b = ((s.bumpBy F.SOLV_REFUSED_COUNT n).setSmach m ((s.smach m).relocked (x :: rest))).obsQueue m
      (s.nearest 604800000 x.epoch) 0 0 false ((x :: rest).all fun r => r.msm7)
      ((joinSats ((x :: rest).flatMap fun r => r.sats)).map (SatObs.withLocks ((s.smach m).nextLocks (x :: rest)))) := by
  have hcount : ¬(48 < (joinSats ((x :: rest).flatMap fun r => r.sats)).length ∨
      (joinSats ((x :: rest).flatMap fun r => r.sats)).isEmpty = true) := by
    rw [not_or, List.isEmpty_iff]
    exact ⟨Nat.not_lt.2 hfew, hsome⟩
  have hgroup : (((x :: rest).getLast?.map fun r => r.more).getD true || !((x :: rest).dropLast.all fun r => r.more) ||
      (x :: rest).any fun r => r.epoch != x.epoch) = false := by
    rw [hlast, List.all_eq_true.2 hmore, List.any_eq_false.2 fun r hr => by simp [hsame r hr]]
    rfl
  have hsmach (n : Nat) : (s.bumpBy F.SOLV_REFUSED_COUNT n).smach m = s.smach m := by
    unfold State.smach
    rw [State.bumpBy_solv]
  refine ⟨msgs.length - (msgs.filter fun p => isMsm (rtcmType p)).length, ?_⟩
  unfold State.rtcmPayload
  rw [if_neg (by simp [hmode, hin]), hsplit]
  dsimp only
  rw [hread]
  dsimp only
  rw [if_neg hcount, if_neg (by simp [hstale]), if_neg (by simp [hdup]), if_neg (by simp [hepoch]),
    if_neg (ne_true_of_eq_false hgroup), hsmach]
  rfl

/-! ## Position reports (R128) -/

theorem State.positionReport_ofOtherType {s : State} {m : Nat} {b : List Byte}
    (h : wordAt b 0 % 256 ≠ 0xC6 ∨ b.length ≠ 24 ∨ ((s.smach m).mode ≠ 2 ∧ (s.smach m).mode ≠ 3)) :
    ∃ cause, s.positionReport m b = s.obsRefuse m cause 0 := by
  unfold State.positionReport
  dsimp only
  split
  · exact ⟨1, rfl⟩
  · next hhead =>
    split
    · exact ⟨2, rfl⟩
    · next hlen =>
      rw [if_pos]
      · exact ⟨5, rfl⟩
      · rw [not_or, not_or] at hhead
        exact (h.resolve_left hhead.2.1).resolve_left hlen

/-- A report of a machine in mode 2 or 3 becomes a record of its status with SOURCE 1. -/
theorem State.positionReport_emits {s : State} {m : Nat} {b : List Byte} (hlen : b.length = 24) (htype : wordAt b 0 % 256 = 0xC6)
    (hversion : bitsOf (wordAt b 0) 11 8 = 1) (hmode : (s.smach m).mode = 2 ∨ (s.smach m).mode = 3)
    (hepoch : s.fullEpoch (wordAt b 4) % s.epochMs = 0) : ∃ (s1 : State) (r : FixRecord) (moved : Bool), KeepsSolver s s1 ∧
      s.positionReport m b = s1.emitFix r moved ∧ r.source = true ∧ r.machine = m ∧ r.epoch = s.fullEpoch (wordAt b 4) ∧
      r.status = bitsOf (wordAt b 0) 14 12 := by
  have hok : s.epochOk (s.fullEpoch (wordAt b 4)) = true := beq_iff_eq.2 hepoch
  have hfresh : KeepsSolver s (if s.mayMove then s.fresh 2 else (0, s)).2 := by
    split <;> exact ⟨rfl, rfl⟩
  unfold State.positionReport
  dsimp only
  rw [if_neg (by simp [hlen, htype, hversion]), if_neg (by simp [hlen]), if_neg (by omega), if_neg (by simp [hok])]
  exact ⟨_, _, _, hfresh, rfl, rfl, rfl, rfl, rfl⟩

/-- The record counted, with the events of a late one and of an alert (R145, R146). -/
def State.fixCounted (s : State) (r : FixRecord) : State :=
  let s1 := s.bump F.SOLV_FIXES_COUNT
  let s2 := if r.late then (s1.bump F.SOLV_LATE_COUNT).raise 0x060 0 else s1
  if 1 ≤ r.status ∧ (s.getF F.SOLV_PL_ALERT_HAL_MM < r.hpl ∨ s.getF F.SOLV_PL_ALERT_VAL_MM < r.vpl) then s2.raise 0x060 9 else s2

theorem State.fixCounted_keeps (s : State) (r : FixRecord) : KeepsSolver s (s.fixCounted r) :=
  ((KeepsSolver.bump s F.SOLV_FIXES_COUNT).trans (.ite ((KeepsSolver.bump ..).trans (.raise ..)) (.refl _))).trans
    (.ite (.raise ..) (.refl _))

/-- A record of a position report changes of the fix engine only its machine, and that with STATUS 1 or more (R145, R147). -/
theorem State.emitFix_keeps {s : State} {r : FixRecord} {moved : Bool} (h : r.source = true) :
    KeepsSolver (if 1 ≤ r.status then (s.fixCounted r).markGood r.machine r.epoch else s.fixCounted r) (s.emitFix r moved) := by
  unfold State.emitFix
  rw [if_pos h]
  exact ((KeepsSolver.zoneFix ..).trans (.postPacket ..)).trans (.ite (.postPacket ..) (.refl _))

/-- The machine of a record with STATUS 1 or more. -/
def SolvMachine.marked (x : SolvMachine) (epoch : Nat) : SolvMachine := { x with good := (epoch :: x.good).take 8, logged := false }

theorem State.markGood_smach (s : State) (m epoch : Nat) : (s.markGood m epoch).smach m = (s.smach m).marked epoch := Assoc.get_put_same

theorem State.markGood_solv (s : State) (m epoch : Nat) : (s.markGood m epoch).solv =
    { s.solv with machines := Assoc.put (fun _ => {}) s.solv.machines m ((s.smach m).marked epoch) } := rfl

theorem State.smach_of_solv {s t : State} (h : t.solv = s.solv) (m : Nat) : t.smach m = s.smach m := by
  unfold State.smach
  rw [h]

theorem positionReport_completes {m : Fin 256} {b : List Byte} {s : State} (hp : s.pagePowered 0x060 = true) (hlen : b.length = 24)
    (htype : wordAt b 0 % 256 = 0xC6) (hversion : bitsOf (wordAt b 0) 11 8 = 1)
    (hmode : (s.smach m.val).mode = 2 ∨ (s.smach m.val).mode = 3) (hepoch : s.fullEpoch (wordAt b 4) % s.epochMs = 0) :
    Completes (.positionReport m b) s fun t => t.solv.queue = s.solv.queue ∧ t.solv.fixes = s.solv.fixes ∧ t.time = s.time ∧
      t.solv.ctxs = s.solv.ctxs ∧
      (1 ≤ bitsOf (wordAt b 0) 14 12 → (t.smach m.val).good.head? = some (s.fullEpoch (wordAt b 4)) ∧ (t.smach m.val).logged = false ∧
        (t.smach m.val).none_ = (s.smach m.val).none_) ∧
      (bitsOf (wordAt b 0) 14 12 = 0 → t.solv = s.solv) := by
  obtain ⟨s1, r, moved, hs1, hreport, hsource, hmachine, hrepoch, hstatus⟩ :=
    State.positionReport_emits (m := m.val) hlen htype hversion hmode hepoch
  have hu := s1.fixCounted_keeps r
  have ht := State.emitFix_keeps (s := s1) (moved := moved) hsource
  have hx : exec (.positionReport m b) s = .next (s1.emitFix r moved) :=
    (State.live_of_powered hp).trans (congrArg Host.Outcome.next hreport)
  generalize s1.emitFix r moved = t at ht hx
  generalize s1.fixCounted r = u at hu ht
  rw [hstatus, hmachine, hrepoch] at ht
  obtain ⟨husolv, hutime⟩ := hs1.trans hu
  obtain ⟨htsolv, httime⟩ := ht
  by_cases hgood : 1 ≤ bitsOf (wordAt b 0) 14 12
  · rw [if_pos hgood] at htsolv httime
    have hsmach : t.smach m.val = (s.smach m.val).marked (s.fullEpoch (wordAt b 4)) := by
      rw [State.smach_of_solv htsolv, State.markGood_smach, State.smach_of_solv husolv]
    rw [State.markGood_solv, husolv] at htsolv
    refine ⟨t, hx, by rw [htsolv], by rw [htsolv], httime.trans hutime, by rw [htsolv], fun _ => ?_, fun h0 => by omega⟩
    rw [hsmach]
    exact ⟨rfl, rfl, rfl⟩
  · rw [if_neg hgood] at htsolv httime
    have hsolv := htsolv.trans husolv
    exact ⟨t, hx, congrArg SolvSt.queue hsolv, congrArg SolvSt.fixes hsolv, httime.trans hutime, congrArg SolvSt.ctxs hsolv,
      fun h1 => absurd h1 hgood, fun _ => hsolv⟩

/-! ## MODE (R122) -/

/-- The field that a MODE row writes. -/
def modeField : List FieldDef := [⟨"MODE", 1, 0, .rw, 0⟩]

theorem solvMcfg_sameWrite : SameWrite (2 ^ 2 - 1) Reg.SOLV_MCFG.fields modeField := by
  intro a
  cases a <;> decide

theorem solvMcfg_regAt : ∀ m : Fin 256, regAt (0x60400 + 4 * m.val) = some (Reg.SOLV_MCFG, 0) := by decide +kernel

theorem solvMcfg_window {key : Nat} (h1 : 0x60400 ≤ key) (h2 : key < 0x60800) :
    (windows.find? fun w => decide (w.1 ≤ key) && decide (key ≤ w.2.1)) = none := by
  rw [List.find?_eq_none]
  simp only [windows, List.forall_mem_cons, Bool.and_eq_true, decide_eq_true_eq, List.not_mem_nil, false_implies, implies_true, and_true]
  omega

/-- The registers of the fix engine that have a range lie below the machines' configurations. -/
theorem rangeRules_solver : ∀ r ∈ rangeRules1 ++ rangeRules2 ++ rangeRules3, r.p0 ≤ 0x60 → 0x60 ≤ r.p1 →
    0 < r.stride ∧ r.off + r.count * r.stride ≤ 0x400 := by decide

theorem rangeRules_mcfg {key : Nat} (h1 : 0x60400 ≤ key) (h2 : key < 0x60800) :
    (rangeRules1 ++ rangeRules2 ++ rangeRules3).filter (·.covers key) = [] := by
  rw [List.filter_eq_nil_iff]
  intro r hr hc
  have hplain : plainKey key = key := Nat.mod_eq_of_lt (by unfold windowStep; omega)
  simp only [RangeRule.covers, isCopy, hplain, Bool.and_eq_true, decide_eq_true_eq] at hc
  obtain ⟨⟨hp0, hp1⟩, ⟨hle, -⟩, hcount⟩ := hc
  have hpage : key / 0x1000 = 0x60 := by omega
  rw [hpage] at hp0 hp1
  obtain ⟨hpos, hend⟩ := rangeRules_solver r hr hp0 hp1
  rw [Nat.div_lt_iff_lt_mul hpos] at hcount
  omega

/-- No rule refuses a value of a machine's configuration register. -/
theorem State.refuseWrite_mcfg {s : State} {who : Initiator} {key x : Nat} (h1 : 0x60400 ≤ key) (h2 : key < 0x60800) :
    s.refuseWrite who key x = none := by
  have hplain : plainKey key = key := Nat.mod_eq_of_lt (by unfold windowStep; omega)
  have hmap : s.refuseMap key = none := by
    unfold State.refuseMap
    rw [if_neg (by omega), if_neg (by omega), if_neg (by omega)]
  unfold State.refuseWrite
  rw [rangeRefusal_eq_none (by rw [rangeRules_mcfg h1 h2]; simp), hplain]
  dsimp only
  rw [if_neg (by omega), if_neg (by omega), if_neg (by omega), if_pos (by omega), hmap]

theorem exec_machineMode {who : Initiator} {m : Fin 256} {mode : Fin 4} {s : State}
    (ho : s.opens who (0x60400 + 4 * m.val) true = true) :
    exec (.machineMode who m mode) s = .next ((s.setF (F.SOLV_MCFG_MODE m.val) mode.val).respond 0 false) := by
  have h1 : 0x60400 ≤ 0x60400 + 4 * m.val := Nat.le_add_right ..
  have h2 : 0x60400 + 4 * m.val < 0x60800 := by omega
  exact congrArg Host.Outcome.next (State.rowWrite_lowField (n := 2) (gs := modeField) ho (solvMcfg_regAt m) solvMcfg_sameWrite
    ⟨by decide, by decide, by decide, by decide, by decide, by decide⟩ (.inr (by decide))
    (State.winKey_of_no_window (solvMcfg_window h1 h2) s) fun _ => State.refuseWrite_mcfg h1 h2)

theorem machineMode_completes {who : Initiator} {m : Fin 256} {mode : Fin 4} {s : State}
    (ho : s.opens who (0x60400 + 4 * m.val) true = true) : Completes (.machineMode who m mode) s fun t =>
      t.getF (F.SOLV_MCFG_MODE m.val) = mode.val ∧ (∀ k, k ≠ 0x60400 + 4 * m.val → t.reg k = s.reg k) ∧
      t = { s with regs := t.regs, bus := ⟨0, false⟩ } := by
  have hx := exec_machineMode (mode := mode) ho
  have hmode : (s.setF (F.SOLV_MCFG_MODE m.val) mode.val).getF (F.SOLV_MCFG_MODE m.val) = mode.val :=
    (State.getF_setF_same (Nat.zero_le _) (Nat.lt_of_sub_eq_succ rfl)).trans (Nat.mod_eq_of_lt mode.isLt)
  have hreg (k) (hk : k ≠ 0x60400 + 4 * m.val) : (s.setF (F.SOLV_MCFG_MODE m.val) mode.val).reg k = s.reg k :=
    State.reg_setF_other (f := F.SOLV_MCFG_MODE m.val) (Nat.lt_of_sub_eq_succ rfl) hk
  have honly := s.setF_only (F.SOLV_MCFG_MODE m.val) mode.val
  generalize s.setF (F.SOLV_MCFG_MODE m.val) mode.val = t at hx hmode hreg honly
  exact ⟨_, hx, hmode, hreg, congrArg (State.respond · 0 false) honly⟩

end Sys2Proof.Machine
end

section
/-! The statement on the uplink payloads of the fix engine. -/

namespace Sys2Proof.Machine

theorem observationFrame_completes {m : Fin 256} {b : List Byte} {s : State} (hp : s.pagePowered 0x060 = true)
    (hroom : s.solv.queue.length < 512) {seq : Nat} {offset : Int} {restart : Bool}
    (hframe : s.obsFrame m.val b = s.obsQueue m.val (s.fullEpoch (wordAt b 4)) seq offset restart true (frameSats b)) :
    Completes (.observationFrame m b) s fun t =>
      (∃ f : ObsFrame, t.solv.queue = s.solv.queue ++ [f] ∧ f.machine = m.val ∧ f.epoch = s.fullEpoch (wordAt b 4) ∧ f.sats = frameSats b ∧
        f.accepted = s.now ∧ f.deadline = s.now + 1000 * s.getF F.SOLV_DEADLINE_US ∧ f.order = s.solv.order) ∧
      t.solv.order = s.solv.order + 1 ∧ (∀ k, k ≠ F.SOLV_QUEUE_STAT_PEAK.key → t.reg k = s.reg k) ∧
      t = { s with regs := t.regs, solv := { s.solv with queue := t.solv.queue, order := t.solv.order } } := by
  have hx : exec (.observationFrame m b) s = .next (s.obsFrame m.val b) := State.live_of_powered hp
  rw [hframe] at hx
  obtain ⟨f, hqueued, hmachine, hepoch, -, hsats, haccepted, hdeadline⟩ :=
    State.obsQueue_queues m.val (s.fullEpoch (wordAt b 4)) seq offset restart true (frameSats b) hroom
  generalize s.obsQueue m.val (s.fullEpoch (wordAt b 4)) seq offset restart true (frameSats b) = t at hx hqueued
  exact ⟨t, hx, ⟨f, hqueued.queue, hmachine, hepoch, hsats, haccepted, hdeadline, hqueued.accepted⟩, hqueued.order, hqueued.reg,
    hqueued.only⟩

/-- A frame of RTCM messages is queued after other messages are counted and the machine's lock-loss counts have advanced. -/
theorem rtcmFrame_completes {m : Fin 256} {b0 b1 b2 : Byte} {r : List Byte} {s : State} (hp : s.pagePowered 0x060 = true)
    (hroom : s.solv.queue.length < 512) {n epoch : Nat} {x : SolvMachine} {doppler : Bool} {sats : List SatObs}
    {locks : List (Nat × Nat × Nat)}
    (hframe : s.rtcmPayload m.val (b0 :: b1 :: b2 :: r) = ((s.bumpBy F.SOLV_REFUSED_COUNT n).setSmach m.val x).obsQueue m.val epoch 0 0
      false doppler (sats.map (SatObs.withLocks locks))) :
    Completes (.rtcmFrame m b0 b1 b2 r) s fun t =>
      (∃ f : ObsFrame, t.solv.queue = s.solv.queue ++ [f] ∧ f.machine = m.val ∧ f.epoch = epoch ∧ f.doppler = doppler ∧
        f.sats.map (fun o => o.sat) = sats.map (fun o => o.sat) ∧ f.accepted = s.now ∧
        f.deadline = s.now + 1000 * s.getF F.SOLV_DEADLINE_US) ∧
      t.solv.order = s.solv.order + 1 ∧
      t = { s with
        regs := t.regs
        solv := { s.solv with queue := t.solv.queue, order := t.solv.order, machines := t.solv.machines } } := by
  set s1 := s.bumpBy F.SOLV_REFUSED_COUNT n with hs1
  have hdeadline1 : s1.getF F.SOLV_DEADLINE_US = s.getF F.SOLV_DEADLINE_US := State.getF_setF_otherWord (by decide) (by decide) (by decide)
  have hs1only : s1 = { s with regs := s1.regs } := s.setF_only ..
  set y := s1.setSmach m.val x with hy
  have hyonly : y = { s with regs := s1.regs, solv := { s.solv with machines := y.solv.machines } } := by
    rw [hy, hs1only]
    rfl
  have hydeadline : y.getF F.SOLV_DEADLINE_US = s.getF F.SOLV_DEADLINE_US := hdeadline1
  clear_value y s1
  have hx : exec (.rtcmFrame m b0 b1 b2 r) s = .next (s.rtcmPayload m.val (b0 :: b1 :: b2 :: r)) := State.live_of_powered hp
  rw [hframe] at hx
  obtain ⟨f, hqueued, hmachine, hepoch, hdoppler, hsats, haccepted, hdeadline⟩ :=
    State.obsQueue_queues m.val epoch 0 0 false doppler (sats.map (SatObs.withLocks locks)) (s := y) (by rwa [hyonly])
  generalize y.obsQueue m.val epoch 0 0 false doppler (sats.map (SatObs.withLocks locks)) = t at hx hqueued
  have hqueue : y.solv.queue = s.solv.queue := by rw [hyonly]
  have horder : y.solv.order = s.solv.order := by rw [hyonly]
  have hnow : y.now = s.now := by rw [hyonly]
  refine ⟨t, hx, ⟨f, by rw [hqueued.queue, hqueue], hmachine, hepoch, hdoppler, ?_, by rw [haccepted, hnow], ?_⟩,
    by rw [hqueued.order, horder], ?_⟩
  · rw [hsats]
    simp [SatObs.withLocks]
  · rw [hdeadline, hnow, hydeadline]
  · have hmachines : t.solv.machines = y.solv.machines := by rw [hqueued.only]
    rw [hmachines]
    exact hqueued.only.trans (by rw [hyonly])

/-- Settles O18: a payload that passes the checks is queued, a report becomes a record, another payload is refused; MODE is only written. -/
theorem solverInputs : Obligations.SolverInputs := by
  refine ⟨?frame, ?rtcmRefused, ?rtcm, ?report, ?otherReport, fun who m mode s ho => machineMode_completes ho⟩
  case frame =>
    intro m b s epoch hp
    refine ⟨fun hlen htype hversion hsize hstale hdup hmode hepoch hoff hroom => ?_, fun htype hlt => ?_⟩
    · exact observationFrame_completes hp hroom (State.obsFrame_accepted hlen htype hversion hsize hstale hdup hmode hepoch hoff)
    · exact (s.obsRefuse_refuses m.val 1 0).completes
        ((State.live_of_powered hp).trans (congrArg Host.Outcome.next (State.obsFrame_ofOtherType htype))) hlt
  case rtcmRefused =>
    intro m b0 b1 b2 r s b hp hlt h
    exact (State.rtcmPayload_refuses h).completes (State.live_of_powered hp) hlt
  case rtcm =>
    intro m b0 b1 b2 r msgs x rest s b reads sats epoch hp hmode hin hsplit hread hsome hfew hstale hdup hepoch hlast hmore hsame hroom
    obtain ⟨n, hframe⟩ := State.rtcmPayload_accepted hmode hin hsplit hread hsome hfew hstale hdup hepoch hlast hmore hsame
    exact rtcmFrame_completes hp hroom hframe
  case report =>
    intro m b s epoch hp hlen htype hversion hmode hepoch
    exact positionReport_completes hp hlen htype hversion hmode hepoch
  case otherReport =>
    intro m b s hp hlt h
    obtain ⟨cause, hreport⟩ := State.positionReport_ofOtherType h
    exact (s.obsRefuse_refuses m.val cause 0).completes ((State.live_of_powered hp).trans (congrArg Host.Outcome.next hreport)) hlt

end Sys2Proof.Machine
end

section
/-! Which bytes of memory an access of a client of the translation unit reaches: a read reaches none, and a device's write none of the fleet
store (R450, R453, R459 to R463). -/

namespace Sys2Proof.Machine

/-- From `s` to `t` every byte of memory stays as it is. -/
def KeepsBytes (s t : State) : Prop := t.mem.bytes = s.mem.bytes

namespace KeepsBytes

theorem refl (s : State) : KeepsBytes s s := rfl

theorem trans {s t u : State} (h : KeepsBytes s t) (k : KeepsBytes t u) : KeepsBytes s u := Eq.trans k h

theorem of_snd {α : Type} {s u : State} {x : α × State} {a : α} (h : KeepsBytes s x.2) (e : x = (a, u)) : KeepsBytes s u := by
  subst e
  exact h

theorem ite {s t u : State} {c : Prop} [Decidable c] (ht : KeepsBytes s t) (hu : KeepsBytes s u) : KeepsBytes s (if c then t else u) := by
  split
  · exact ht
  · exact hu

theorem foldl {α : Type} {f : State → α → State} (hf : ∀ s a, KeepsBytes s (f s a)) (l : List α) (s : State) :
    KeepsBytes s (l.foldl f s) :=
  List.foldlRecOn l f (motive := KeepsBytes s) (refl s) fun t ht a _ => ht.trans (hf t a)

theorem memByte {s t : State} (h : KeepsBytes s t) (x : Nat) : t.memByte x = s.memByte x := by
  unfold State.memByte
  rw [h]

theorem withEcc (s : State) (l : List (Nat × EccError)) : KeepsBytes s { s with mem := { s.mem with ecc := l } } := rfl

theorem setF (s : State) (f : Fld) (v : Nat) : KeepsBytes s (s.setF f v) := congrArg MemSt.bytes (State.setF_mem s f v)

theorem bump (s : State) (f : Fld) : KeepsBytes s (s.bump f) := setF ..

theorem raise (s : State) (p b : Nat) : KeepsBytes s (s.raise p b) := setF ..

theorem pushFifo (s : State) (key depth : Nat) (e : List Word) {full : State → State} (hf : KeepsBytes s (full s)) :
    KeepsBytes s (s.pushFifo key depth e full) := ite rfl hf

theorem eccLog (s : State) (m a : Nat) : KeepsBytes s (s.eccLog m a) := ((bump ..).trans (raise ..)).trans (pushFifo _ _ _ _ (refl _))

theorem eccRead (s : State) (a n : Nat) (m : Option Nat) : KeepsBytes s (s.eccRead a n m).2 := by
  refine List.foldlRecOn _ _ (motive := fun x : Bool × State => KeepsBytes s x.2) (refl s) fun x hx e _ => hx.trans ?_
  dsimp only
  split
  · exact refl _
  · exact (withEcc ..).trans ((bump ..).trans (raise ..))
  · exact eccLog ..

theorem lpddrTouch (s : State) (a : Nat) : KeepsBytes s (s.lpddrTouch a) := ite (setF s F.DTU_LPDDR_STAT_SELF_REFRESH 0) (refl s)

theorem walk (s : State) (va : Nat) (write : Bool) (table level : Nat) : KeepsBytes s (s.walk va write table level).2 := by
  induction level generalizing s table with
  | zero => exact refl s
  | succ level ih =>
    have h := eccRead s (table + 8 * (va / (0x1000 * 512 ^ level) % 512)) 8 (some 3)
    unfold State.walk
    dsimp only
    split
    · exact refl s
    · split
      · exact h
      · split
        · exact h
        · split
          · split
            · exact h
            · split <;> exact h
          · exact h.trans (ih ..)

theorem dtuFill (s : State) (e : DtuEntry) : KeepsBytes s (s.dtuFill e) := ite rfl rfl

/-- A translation whose target may be out of reach. -/
theorem target (s : State) (c : Prop) [Decidable c] (pa : Nat) :
    KeepsBytes s (if c then ((.inr pa, s) : (Nat ⊕ Nat) × State) else (.inl 8, s)).2 := by
  split <;> exact refl s

theorem translate (s : State) (may : Region → Bool) (pinned : Bool) (ctx va : Nat) (write : Bool) :
    KeepsBytes s (s.translate may pinned ctx va write).2 := by
  unfold State.translate
  dsimp only
  split
  · exact target ..
  · split
    · exact refl s
    · split
      · exact refl s
      · split
        · exact (bump ..).trans (target ..)
        · have hwalk := (bump s (F.DTU_MISSES_COUNT ctx)).trans
            (walk _ (va % 2 ^ 48) write (s.getF (F.DTU_ROOT_PPN ctx) * 0x1000) 4)
          split
          · next heq => exact hwalk.of_snd heq
          · next heq =>
            split
            · next htgt => exact (hwalk.of_snd heq).trans ((target ..).of_snd htgt)
            · next htgt => exact ((hwalk.of_snd heq).trans ((target ..).of_snd htgt)).trans (dtuFill ..)

theorem dtuFault (s : State) (ctx client index va cause : Nat) (write : Bool) :
    KeepsBytes s (s.dtuFault ctx client index va cause write) := by
  have h : KeepsBytes s (if ctx < 8 then s.bump (F.DTU_FAULTS_COUNT ctx) else s) := ite (bump ..) (refl s)
  unfold State.dtuFault
  exact (h.trans (raise ..)).trans (pushFifo _ _ _ _ ((bump ..).trans (raise ..)))

theorem clientAddr (s : State) (client index va : Nat) (write : Bool) : KeepsBytes s (s.clientAddr client index va write).2 := by
  unfold State.clientAddr
  dsimp only
  split
  · next heq => exact (of_snd (translate ..) heq).trans (lpddrTouch ..)
  · next heq => exact (of_snd (translate ..) heq).trans (dtuFault ..)

theorem clientReadPages (s : State) (client index pages va n : Nat) : KeepsBytes s (s.clientReadPages client index pages va n).2 := by
  induction pages generalizing s va n with
  | zero => exact refl s
  | succ pages ih =>
    unfold State.clientReadPages
    split
    · exact refl s
    · dsimp only
      have h := clientAddr s client index va false
      split
      · next heq => exact h.of_snd heq
      · next heq => exact (h.of_snd heq).trans ((eccRead ..).trans (ih ..))

theorem clientRead (s : State) (client index va n : Nat) : KeepsBytes s (s.clientRead client index va n).2 := clientReadPages ..

end KeepsBytes

/-! ## Where a device's write goes -/

theorem State.region_fleet {s : State} {a : Nat} (h0 : 0x10000000 ≤ a) (h1 : a < 0x12000000) : s.region a = .fleet := by
  unfold State.region
  repeat rw [if_neg (by omega)]
  exact if_pos ⟨h0, h1⟩

/-- Translation keeps the offset in the page. -/
theorem leafAddr_mod (pte level va : Nat) : leafAddr pte level va % 0x1000 = va % 0x1000 := by
  have hdvd : 0x1000 ∣ 0x1000 * 512 ^ level := Nat.dvd_mul_right ..
  unfold leafAddr
  dsimp only
  rw [Nat.add_mod, Nat.mod_eq_zero_of_dvd (hdvd.trans (Nat.dvd_mul_left ..)), Nat.zero_add, Nat.mod_mod, Nat.mod_mod_of_dvd _ hdvd]

/-- What a translation gives lies where the client may reach, at the same offset in its page. -/
theorem State.translate_reaches {s t : State} {may : Region → Bool} {pinned write : Bool} {ctx va pa : Nat}
    (h : s.translate may pinned ctx va write = (.inr pa, t)) : (∃ u : State, may (u.region pa) = true) ∧ pa % 0x1000 = va % 0x1000 := by
  have target {u v : State} {q : Nat}
      (h : (if may (u.region q) then ((.inr q, u) : (Nat ⊕ Nat) × State) else (.inl 8, u)) = (.inr pa, v)) :
      pa = q ∧ may (u.region pa) = true := by
    split at h
    · next hmay =>
      obtain rfl : q = pa := Sum.inr.inj (Prod.ext_iff.1 h).1
      exact ⟨rfl, hmay⟩
    · exact absurd (Prod.ext_iff.1 h).1 Sum.inl_ne_inr
  unfold State.translate at h
  dsimp only at h
  split at h
  · obtain ⟨rfl, hmay⟩ := target h
    exact ⟨⟨s, hmay⟩, by omega⟩
  · split at h
    · simp at h
    · split at h
      · simp at h
      · split at h
        · obtain ⟨rfl, hmay⟩ := target h
          exact ⟨⟨_, hmay⟩, (leafAddr_mod ..).trans (by omega)⟩
        · split at h
          · simp at h
          · split at h
            · simp at h
            · next htgt =>
              obtain ⟨hq, hmay⟩ := target (htgt.trans (congrArg (fun x => (x, _)) (Prod.ext_iff.1 h).1))
              exact ⟨⟨_, hmay⟩, hq ▸ (leafAddr_mod ..).trans (by omega)⟩

/-- A device's write does not go to the fleet store. -/
theorem State.clientAddr_outsideFleet {s t : State} {client index va pa : Nat} (hc : client ≠ 0)
    (h : s.clientAddr client index va true = (.inr pa, t)) :
    ¬ (0x10000000 ≤ pa ∧ pa < 0x12000000) ∧ pa % 0x1000 = va % 0x1000 := by
  unfold State.clientAddr at h
  dsimp only at h
  split at h
  · next heq =>
    obtain rfl := Sum.inr.inj (Prod.ext_iff.1 h).1
    obtain ⟨⟨u, hmay⟩, hoff⟩ := State.translate_reaches heq
    refine ⟨fun hfleet => ?_, hoff⟩
    rw [State.region_fleet hfleet.1 hfleet.2, if_neg hc] at hmay
    exact Bool.false_ne_true hmay
  · simp at h

/-- A physical write leaves the bytes outside of it. -/
theorem State.memByte_physWrite_other {s : State} {a x : Nat} {l : List Byte} (h : x < a ∨ a + l.length ≤ x) :
    (s.physWrite a l).memByte x = s.memByte x := by
  have hcorrected (l : List (Nat × EccError)) (t : State) :
      KeepsBytes t (l.foldl (fun s _ => (s.bump F.DTU_ECC_CE_COUNT).raise 0x008 3) t) :=
    .foldl (fun _ _ => (KeepsBytes.bump ..).trans (.raise ..)) l t
  have hlost (l : List (Nat × EccError)) (t : State) :
      KeepsBytes t (l.foldl (fun s e => s.eccLog (eccMemory e.1) e.1) t) := .foldl (fun _ _ => .eccLog ..) l t
  unfold State.physWrite
  dsimp only
  split
  · rw [State.memByte_storeBytes_other h, (hlost ..).memByte, (hcorrected ..).memByte]
    rfl
  · refine List.foldlRecOn _ _ (motive := fun t : State => t.memByte x = s.memByte x) ?_ fun t ht b hb => ?_
    · rw [(hlost ..).memByte, (hcorrected ..).memByte]
      rfl
    · obtain ⟨-, hlt, -⟩ := List.mem_zipIdx (x := b.1) (i := b.2) hb
      split
      · exact ht
      · rw [State.memByte_setMemByte_other (by omega), ht]

/-- From `s` to `t` the fleet store stays as it is. -/
def KeepsFleet (s t : State) : Prop := ∀ x, 0x10000000 ≤ x → x < 0x12000000 → t.memByte x = s.memByte x

theorem KeepsBytes.fleet {s t : State} (h : KeepsBytes s t) : KeepsFleet s t := fun x _ _ => h.memByte x

theorem KeepsFleet.trans {s t u : State} (h : KeepsFleet s t) (k : KeepsFleet t u) : KeepsFleet s u :=
  fun x h0 h1 => (k x h0 h1).trans (h x h0 h1)

/-- A device's write leaves the fleet store. -/
theorem KeepsFleet.clientWritePages {client index : Nat} (hc : client ≠ 0) (s : State) (pages va : Nat) (l : List Byte) :
    KeepsFleet s (s.clientWritePages client index pages va l).2 := by
  induction pages generalizing s va l with
  | zero => exact (KeepsBytes.refl s).fleet
  | succ pages ih =>
    unfold State.clientWritePages
    split
    · exact (KeepsBytes.refl s).fleet
    · dsimp only
      have haddr := KeepsBytes.clientAddr s client index va true
      split
      · next heq => exact (haddr.of_snd heq).fleet
      · next pa t heq =>
        obtain ⟨hout, hoff⟩ := State.clientAddr_outsideFleet hc heq
        refine ((haddr.of_snd heq).fleet.trans fun x h0 h1 => ?_).trans (ih _ _ _)
        have hlen : (l.take (0x1000 - va % 0x1000)).length ≤ 0x1000 - va % 0x1000 := List.length_take_le ..
        exact State.memByte_physWrite_other (by omega)

theorem KeepsFleet.clientWrite {client : Nat} (hc : client ≠ 0) (s : State) (index va : Nat) (l : List Byte) :
    KeepsFleet s (s.clientWrite client index va l).2 := clientWritePages hc _ _ _ _

theorem ClientFrame.clientWritePages (s : State) (client index pages va : Nat) (l : List Byte) :
    ClientFrame s (s.clientWritePages client index pages va l).2 := by
  induction pages generalizing s va l with
  | zero => exact refl s
  | succ pages ih =>
    unfold State.clientWritePages
    split
    · exact refl s
    · dsimp only
      have h := clientAddr s client index va true
      split
      · next heq => exact h.of_snd heq
      · next heq => exact (h.of_snd heq).trans ((physWrite ..).trans (ih ..))

theorem ClientFrame.clientWrite (s : State) (client index va : Nat) (l : List Byte) :
    ClientFrame s (s.clientWrite client index va l).2 := clientWritePages ..

end Sys2Proof.Machine
end

section
/-! Writes of a table and of its shadow (R188, R395): what they change beside the bytes of the table, and what reads back. -/

namespace Sys2Proof.Machine

/-- From `s` to `t` only memory, the logs, the free values drawn, registers of the translation unit's pages, the shadow writes kept and the
pair's records change. -/
structure TableFrame (s t : State) : Prop where
  frame : t = { s with
    regs := t.regs, fifos := t.fifos, mem := t.mem, freeCtr := t.freeCtr, pair := t.pair, zone := { s.zone with owed := t.zone.owed } }
  reg : ∀ k, 0x10000 ≤ k → t.reg k = s.reg k

namespace TableFrame

theorem refl (s : State) : TableFrame s s := ⟨rfl, fun _ _ => rfl⟩

theorem trans {s t u : State} (h : TableFrame s t) (k : TableFrame t u) : TableFrame s u where
  frame := k.frame.trans (by rw [h.frame])
  reg j hj := (k.reg j hj).trans (h.reg j hj)

theorem of_client {s t : State} (h : ClientFrame s t) : TableFrame s t where
  frame := h.frame.trans (by rw [h.frame])
  reg := h.reg

theorem ite {s t u : State} {c : Prop} [Decidable c] (ht : TableFrame s t) (hu : TableFrame s u) :
    TableFrame s (if c then t else u) := by
  split
  · exact ht
  · exact hu

theorem foldl {α : Type} {f : State → α → State} (hf : ∀ s a, TableFrame s (f s a)) (l : List α) (s : State) :
    TableFrame s (l.foldl f s) :=
  List.foldlRecOn l f (motive := TableFrame s) (refl s) fun t ht a _ => ht.trans (hf t a)

theorem zone {s t : State} (h : TableFrame s t) : t.zone = { s.zone with owed := t.zone.owed } := by rw [h.frame]

theorem getF {s t : State} (h : TableFrame s t) {f : Fld} (hk : 0x10000 ≤ f.key) : t.getF f = s.getF f :=
  State.getF_congr (h.reg _ hk) (h.reg _ (by omega))

theorem withMem (s : State) (x : MemSt) : TableFrame s { s with mem := x } := ⟨rfl, fun _ _ => rfl⟩

theorem withOwed (s : State) (x : List (Nat × List Byte)) : TableFrame s { s with zone := { s.zone with owed := x } } :=
  ⟨rfl, fun _ _ => rfl⟩

theorem withPair (s : State) (x : PairSt) : TableFrame s { s with pair := x } := ⟨rfl, fun _ _ => rfl⟩

theorem jnoteObj (s : State) (obj idx : Nat) (l : List Byte) : TableFrame s (s.jnoteObj obj idx l) := ite (withPair ..) (refl s)

theorem jnote (s : State) (a : Nat) (l : List Byte) : TableFrame s (s.jnote a l) := by
  unfold State.jnote
  exact foldl (fun t _ => jnoteObj t ..) _ s

theorem shadowWrite (s : State) (a : Nat) (l : List Byte) : TableFrame s (s.shadowWrite a l) := by
  have hwrite := of_client (ClientFrame.clientWrite s 0x0B 0 (s.getF F.SHADOW_BASE_BASE * 0x1000 + (a - 0x10000000)) l)
  unfold State.shadowWrite
  dsimp only
  refine ite (withOwed ..) ?_
  split
  · next heq =>
    rw [heq] at hwrite
    exact (hwrite.trans (withMem ..)).trans (withOwed ..)
  · next heq =>
    rw [heq] at hwrite
    exact hwrite

theorem tableWrite (s : State) (a : Nat) (l : List Byte) : TableFrame s (s.tableWrite a l) :=
  ((of_client (.storeBytes s a l)).trans (jnote _ a l)).trans (shadowWrite _ a l)

theorem clearMem (s : State) (lo hi : Nat) : TableFrame s (s.clearMem lo hi) := withMem ..

theorem tableClear (s : State) (a n : Nat) : TableFrame s (s.tableClear a n) :=
  (clearMem s a (a + n)).trans (shadowWrite _ a (List.replicate n 0))

theorem filterSet (s : State) (level region n : Nat) : TableFrame s (s.filterSet level region n) := by
  induction n generalizing s region with
  | zero => exact refl s
  | succ n ih =>
    unfold State.filterSet
    exact (tableWrite ..).trans (ih ..)

end TableFrame

/-! ## The bytes of the fleet store -/

theorem KeepsBytes.jnoteObj (s : State) (obj idx : Nat) (l : List Byte) : KeepsBytes s (s.jnoteObj obj idx l) := ite rfl (refl s)

theorem KeepsBytes.jnote (s : State) (a : Nat) (l : List Byte) : KeepsBytes s (s.jnote a l) := by
  unfold State.jnote
  exact foldl (fun t _ => jnoteObj t ..) _ s

/-- A write to the shadow leaves the fleet store: the shadow lies outside of it (R450). -/
theorem KeepsFleet.shadowWrite (s : State) (a : Nat) (l : List Byte) : KeepsFleet s (s.shadowWrite a l) := by
  have hwrite := clientWrite (client := 0x0B) (by decide) s 0 (s.getF F.SHADOW_BASE_BASE * 0x1000 + (a - 0x10000000)) l
  unfold State.shadowWrite
  dsimp only
  split
  · exact fun _ _ _ => rfl
  · split
    · next heq =>
      rw [heq] at hwrite
      exact hwrite.trans fun _ _ _ => rfl
    · next heq =>
      rw [heq] at hwrite
      exact hwrite

theorem State.memByte_tableWrite {s : State} {a x : Nat} {l : List Byte} (h0 : 0x10000000 ≤ x) (h1 : x < 0x12000000) :
    (s.tableWrite a l).memByte x = (s.storeBytes a l).memByte x :=
  (KeepsFleet.shadowWrite _ a l x h0 h1).trans ((KeepsBytes.jnote (s.storeBytes a l) a l).memByte x)

theorem State.memByte_tableWrite_other {s : State} {a x : Nat} {l : List Byte} (h0 : 0x10000000 ≤ x) (h1 : x < 0x12000000)
    (h : x < a ∨ a + l.length ≤ x) : (s.tableWrite a l).memByte x = s.memByte x :=
  (State.memByte_tableWrite h0 h1).trans (State.memByte_storeBytes_other h)

/-- Filter words set for a range of regions leave the rest of the fleet store. -/
theorem State.memByte_filterSet_other {s : State} {level region n x : Nat} (h0 : 0x10000000 ≤ x) (h1 : x < 0x12000000)
    (h : x < 0x10400000 + 4 * region ∨ 0x10400000 + 4 * (region + n) ≤ x) : (s.filterSet level region n).memByte x = s.memByte x := by
  induction n generalizing s region with
  | zero => rfl
  | succ n ih =>
    unfold State.filterSet
    refine (ih (by omega)).trans (State.memByte_tableWrite_other h0 h1 ?_)
    rw [bytesLE_length]
    omega

/-! ## Words of memory -/

theorem State.memLE_congr {s t : State} {a n : Nat} (h : ∀ x, a ≤ x → x < a + n → t.memByte x = s.memByte x) :
    t.memLE a n = s.memLE a n := by
  induction n generalizing a with
  | zero => rfl
  | succ n ih =>
    unfold State.memLE
    rw [h a (by omega) (by omega), ih fun x h0 h1 => h x (by omega) (by omega)]

/-- A number stored in `n` bytes reads back. -/
theorem State.memLE_storeBytes_bytesLE (s : State) (a v n : Nat) : (s.storeBytes a (bytesLE v n)).memLE a n = v % 256 ^ n := by
  induction n generalizing s a v with
  | zero => simp [State.memLE, Nat.mod_one]
  | succ n ih =>
    unfold bytesLE State.storeBytes State.memLE
    rw [ih, State.memByte_storeBytes_other (.inl (by omega)), State.memByte_setMemByte_same, BitVec.toNat_ofNat]
    exact ((congrArg (v % ·) Nat.pow_succ').trans Nat.mod_mul).symm

theorem State.memWord_lt (s : State) (a : Nat) : s.memWord a < 2 ^ 32 := by
  have h (n : Nat) : s.memLE a n < 256 ^ n := by
    induction n generalizing a with
    | zero => exact Nat.one_pos
    | succ n ih =>
      have hb := (s.memByte a).isLt
      have hn := ih (a + 1)
      unfold State.memLE
      rw [Nat.pow_succ']
      omega
  exact h 4

theorem State.memWords_getD (s : State) (a : Nat) {n i : Nat} (hi : i < n) : (s.memWords a n).getD i 0 = s.memWord (a + 4 * i) := by
  induction n generalizing a i with
  | zero => omega
  | succ n ih =>
    cases i with
    | zero => rfl
    | succ i => exact (ih (a + 4) (by omega)).trans (congrArg s.memWord (by omega))

theorem State.memWords_length (s : State) (a n : Nat) : (s.memWords a n).length = n := by
  induction n generalizing a with
  | zero => rfl
  | succ n ih => exact congrArg (· + 1) (ih _)

theorem wordsBytes_length (ws : List Nat) : (wordsBytes ws).length = 4 * ws.length := by
  induction ws with
  | nil => rfl
  | cons w ws ih =>
    rw [wordsBytes, List.flatMap_cons, List.length_append, bytesLE_length, ← wordsBytes, ih, List.length_cons]
    omega

/-- Words stored read back. -/
theorem State.memWord_storeBytes_words (s : State) (a : Nat) {ws : List Nat} {i : Nat} (hi : i < ws.length) :
    (s.storeBytes a (wordsBytes ws)).memWord (a + 4 * i) = ws.getD i 0 % 2 ^ 32 := by
  induction ws generalizing s a i with
  | nil => exact absurd hi (Nat.not_lt_zero i)
  | cons w ws ih =>
    rw [wordsBytes, List.flatMap_cons, ← wordsBytes, State.storeBytes_append, bytesLE_length]
    cases i with
    | zero =>
      exact (State.memLE_congr fun x _ h1 => State.memByte_storeBytes_other (.inl (by omega))).trans
        (s.memLE_storeBytes_bytesLE a w 4)
    | succ i =>
      rw [show a + 4 * (i + 1) = a + 4 + 4 * i by omega]
      exact ih _ _ (Nat.lt_of_succ_lt_succ hi)

/-- Words written to a table read back. -/
theorem State.memWord_tableWrite_words {s : State} {a i : Nat} {ws : List Nat} (hi : i < ws.length) (h0 : 0x10000000 ≤ a)
    (h1 : a + 4 * ws.length ≤ 0x12000000) : (s.tableWrite a (wordsBytes ws)).memWord (a + 4 * i) = ws.getD i 0 % 2 ^ 32 :=
  (State.memLE_congr fun _ _ _ => State.memByte_tableWrite (by omega) (by omega)).trans (s.memWord_storeBytes_words a hi)

/-- Words of a table elsewhere than a write stay. -/
theorem State.memWord_tableWrite_other {s : State} {a b : Nat} {ws : List Nat} (h0 : 0x10000000 ≤ b) (h1 : b + 4 ≤ 0x12000000)
    (h : b + 4 ≤ a ∨ a + 4 * ws.length ≤ b) : (s.tableWrite a (wordsBytes ws)).memWord b = s.memWord b :=
  State.memLE_congr fun _ _ _ => State.memByte_tableWrite_other (by omega) (by omega) (by rw [wordsBytes_length]; omega)

/-! ## A unit that belongs to no pair -/

theorem State.pairActive_of_unpaired {s t : State} (hr : s.role = 0) (hreg : t.reg 0xF0044 = s.reg 0xF0044) : t.pairActive = false := by
  have h : t.role = 0 := (State.getF_of_reg_eq (f := F.PAIR_STAT_ROLE) (by decide) hreg).trans hr
  simp [State.pairActive, h]

theorem State.notActive_of_unpaired {s : State} (hr : s.role = 0) : s.notActive = false := by simp [State.notActive, hr]

/-- A unit without a partner makes no journal transaction (R395). -/
theorem State.journal_of_unpaired {s : State} (h : s.pairActive = false) (src : Nat) :
    s.journal src = { s with pair := { s.pair with touched := [] } } := by
  unfold State.journal
  dsimp only
  rw [h, Bool.false_and, if_neg Bool.false_ne_true]

end Sys2Proof.Machine
end

section
/-! The zone store's operations: what a search reads, where slots and filter words lie, and what INSERT, DELETE and MODIFY make of the store
(R171 to R174, R178, R179). -/

namespace Sys2Proof.Machine

/-! ## Searches -/

/-- From `s` to `t` memory's bytes stay, and of the registers only ZONE_CMD_STAT may change. -/
structure SameStore (s t : State) : Prop where
  bytes : KeepsBytes s t
  reg : ∀ k, k ≠ 0x800A4 → t.reg k = s.reg k

theorem KeepsBytes.memWord {s t : State} (h : KeepsBytes s t) (a : Nat) : t.memWord a = s.memWord a :=
  State.memLE_congr fun x _ _ => h.memByte x

theorem KeepsBytes.zoneAt {s t : State} (h : KeepsBytes s t) (a : Nat) : t.zoneAt a = s.zoneAt a := by
  unfold State.zoneAt
  simp only [h.memWord]

namespace SameStore

variable {s t : State}

theorem getF (h : SameStore s t) {f : Fld} (hf : f.hi < 32) (hk : f.key ≠ 0x800A4) : t.getF f = s.getF f :=
  State.getF_of_reg_eq hf (h.reg _ hk)

theorem zoneTable (h : SameStore s t) (level : Nat) : t.zoneTable level = s.zoneTable level := by
  have hlog : t.getF (F.ZONE_LVL_LOG2_BUCKETS level) = s.getF (F.ZONE_LVL_LOG2_BUCKETS level) :=
    h.getF (show 31 < 32 by decide) (by simp only [F.ZONE_LVL_LOG2_BUCKETS]; omega)
  have hbase : t.getF (F.ZONE_LVL_BASE level) = s.getF (F.ZONE_LVL_BASE level) :=
    h.getF (show 15 < 32 by decide) (by simp only [F.ZONE_LVL_BASE]; omega)
  unfold State.zoneTable
  rw [hlog, hbase]

theorem zoneBuckets (h : SameStore s t) (pre level : Nat) : t.zoneBuckets pre level = s.zoneBuckets pre level := by
  unfold State.zoneBuckets
  rw [h.zoneTable, h.getF (f := F.ZONE_HASH_SEED_SEED) (by decide) (by decide)]

theorem zoneFind (h : SameStore s t) (pre level : Nat) : t.zoneFind pre level = s.zoneFind pre level := by
  unfold State.zoneFind
  rw [h.zoneBuckets]
  simp only [h.bytes.zoneAt]

theorem freeSlot (h : SameStore s t) (bucket : Nat) : t.freeSlot bucket = s.freeSlot bucket := by
  unfold State.freeSlot
  simp only [h.bytes.zoneAt]

theorem otherBucket (h : SameStore s t) (a bucket : Nat) : t.otherBucket a bucket = s.otherBucket a bucket := by
  unfold State.otherBucket
  rw [h.bytes.zoneAt, h.zoneBuckets]

theorem chain (h : SameStore s t) (i bucket : Nat) (acc : List Nat) (n : Nat) : t.chain i bucket acc n = s.chain i bucket acc n := by
  induction n generalizing i bucket acc with
  | zero => rfl
  | succ n ih =>
    unfold State.chain
    simp only [h.otherBucket, h.freeSlot, ih]

theorem stagedZone (h : SameStore s t) : t.stagedZone = s.stagedZone := by
  have hword (k : Nat) (hk : k < 4) : t.getF (F.ZONE_ENTRY_WORD k) = s.getF (F.ZONE_ENTRY_WORD k) :=
    h.getF (show 31 < 32 by decide) (by simp only [F.ZONE_ENTRY_WORD]; omega)
  unfold State.stagedZone
  rw [hword 0 (by decide), hword 1 (by decide), hword 2 (by decide), hword 3 (by decide)]

end SameStore

theorem State.zoneFind_of_noTable {s : State} {pre level : Nat} (h : s.zoneBuckets pre level = none) : s.zoneFind pre level = none := by
  unfold State.zoneFind
  rw [h]

/-! ## Where slots lie (R173) -/

/-- The four words at an address lie in the part of the fleet store that holds the slots. -/
def InSlots (a : Nat) : Prop := 0x10000000 ≤ a ∧ a + 16 ≤ 0x10400000

theorem slotAddr_inSlots {b i : Nat} (hb : b < 65536) (hi : i < 4) : InSlots (slotAddr b i) := by
  unfold InSlots slotAddr
  omega

theorem State.zoneBuckets_lt {s : State} {pre level b1 b2 : Nat} (h : s.zoneBuckets pre level = some (b1, b2)) :
    b1 < 65536 ∧ b2 < 65536 := by
  unfold State.zoneBuckets State.zoneTable at h
  dsimp only at h
  split at h
  · exact absurd h (by simp)
  · next n b htable =>
    obtain ⟨⟨-, hn, -, hfit⟩, hnb⟩ := Option.ite_none_right_eq_some.1 htable
    obtain ⟨rfl, rfl⟩ := Prod.mk.injEq .. ▸ Option.some.inj hnb
    obtain ⟨rfl, rfl⟩ := Prod.mk.injEq .. ▸ Option.some.inj h
    have hmod (v : Nat) : v % 2 ^ s.getF (F.ZONE_LVL_LOG2_BUCKETS level) < 2 ^ s.getF (F.ZONE_LVL_LOG2_BUCKETS level) :=
      Nat.mod_lt _ (Nat.two_pow_pos _)
    have h1 := hmod (zoneHash (s.getF F.ZONE_HASH_SEED_SEED) pre level)
    have h2 := hmod (zoneHash (0xFFFFFFFF - s.getF F.ZONE_HASH_SEED_SEED) pre level)
    have hx := Nat.xor_lt_two_pow h1 (Nat.one_lt_two_pow (Nat.one_le_iff_ne_zero.1 hn))
    refine ⟨by omega, ?_⟩
    split <;> omega

theorem State.freeSlot_inSlots {s : State} {b a : Nat} (hb : b < 65536) (h : s.freeSlot b = some a) : InSlots a := by
  have hmem := List.mem_of_find?_eq_some h
  simp only [List.map_cons, List.map_nil, List.mem_cons, List.not_mem_nil, or_false] at hmem
  rcases hmem with rfl | rfl | rfl | rfl
  all_goals exact slotAddr_inSlots hb (by decide)

theorem State.zoneFind_inSlots {s : State} {pre level a : Nat} (h : s.zoneFind pre level = some a) : InSlots a := by
  unfold State.zoneFind at h
  split at h
  · exact absurd h (by simp)
  · next b hbuckets =>
    obtain ⟨h1, h2⟩ := State.zoneBuckets_lt hbuckets
    have hmem := List.mem_of_find?_eq_some h
    simp only [candidateSlots, List.mem_cons, List.not_mem_nil, or_false] at hmem
    rcases hmem with rfl | rfl | rfl | rfl | rfl | rfl | rfl | rfl
    all_goals exact slotAddr_inSlots (by assumption) (by decide)

/-! ## Entries in slots -/

/-- An entry of four 32-bit words. -/
structure ZoneEntry.Fits (e : ZoneEntry) : Prop where
  w0 : e.w0 < 2 ^ 32
  w1 : e.w1 < 2 ^ 32
  w2 : e.w2 < 2 ^ 32
  w3 : e.w3 < 2 ^ 32

theorem State.stagedZone_fits (s : State) : s.stagedZone.Fits := by
  constructor
  all_goals exact s.getF_lt (f := F.ZONE_ENTRY_WORD _) (by decide)

theorem State.zoneVersion_fits {s : State} {e : ZoneEntry} (h : e.Fits) : (s.zoneVersion e).1.Fits where
  w0 := h.w0
  w1 := h.w1
  w2 := h.w2
  w3 := by
    have := Nat.mod_lt (s.zone.writes + 1) (show 65536 > 0 by decide)
    simp only [State.zoneVersion]
    omega

theorem State.zoneAt_congr {s t : State} {a : Nat} (h : ∀ x, a ≤ x → x < a + 16 → t.memByte x = s.memByte x) : t.zoneAt a = s.zoneAt a := by
  have hword (b : Nat) (h0 : a ≤ b) (h1 : b + 4 ≤ a + 16) : t.memWord b = s.memWord b :=
    State.memLE_congr fun x _ _ => h x (by omega) (by omega)
  unfold State.zoneAt
  rw [hword a (by omega) (by omega), hword (a + 4) (by omega) (by omega), hword (a + 8) (by omega) (by omega),
    hword (a + 12) (by omega) (by omega)]

/-- An entry written to a slot reads back. -/
theorem State.zoneAt_zonePut {s : State} {a : Nat} {e : ZoneEntry} (ha : InSlots a) (he : e.Fits) : (s.zonePut a e).zoneAt a = e := by
  obtain ⟨h0, h1⟩ := ha
  have hword (i : Nat) (hi : i < 4) : (s.zonePut a e).memWord (a + 4 * i) = [e.w0, e.w1, e.w2, e.w3].getD i 0 % 2 ^ 32 :=
    State.memWord_tableWrite_words hi h0 (by simp only [List.length_cons, List.length_nil]; omega)
  have hw0 := (hword 0 (by decide)).trans (Nat.mod_eq_of_lt he.w0)
  have hw1 := (hword 1 (by decide)).trans (Nat.mod_eq_of_lt he.w1)
  have hw2 := (hword 2 (by decide)).trans (Nat.mod_eq_of_lt he.w2)
  have hw3 := (hword 3 (by decide)).trans (Nat.mod_eq_of_lt he.w3)
  simp only [Nat.mul_zero, Nat.add_zero, Nat.mul_one, Nat.reduceMul] at hw0 hw1 hw2 hw3
  unfold State.zoneAt
  rw [hw0, hw1, hw2, hw3]
  rfl

theorem State.memByte_zonePut_other {s : State} {a x : Nat} {e : ZoneEntry} (h0 : 0x10000000 ≤ x) (h1 : x < 0x12000000)
    (h : x < a ∨ a + 16 ≤ x) : (s.zonePut a e).memByte x = s.memByte x :=
  State.memByte_tableWrite_other h0 h1 (by rw [wordsBytes_length]; exact h)

/-! ## The filter (R174) -/

/-- The regions that a well-formed key covers lie in the filter. -/
theorem nodeRegions_le {e : ZoneEntry} (hk : e.keyOk = true) (hw : e.w0 < 2 ^ 32) :
    (nodeRegions e.w0 e.level).1 + (nodeRegions e.w0 e.level).2 ≤ 65536 := by
  obtain ⟨-, hpre⟩ := Bool.and_eq_true .. ▸ hk
  have hpre := eq_of_beq hpre
  unfold prefixAt at hpre
  unfold nodeRegions
  generalize e.level = l at hpre
  split
  · omega
  · interval_cases l <;> omega

theorem State.memByte_zoneCovers_other {s : State} {e : ZoneEntry} {x : Nat} (hk : e.keyOk = true) (hw : e.w0 < 2 ^ 32)
    (h0 : 0x10000000 ≤ x) (h1 : x < 0x12000000) (h : x < 0x10400000 ∨ 0x10440000 ≤ x) : (s.zoneCovers e).memByte x = s.memByte x := by
  have hle := nodeRegions_le hk hw
  exact State.memByte_filterSet_other h0 h1 (by omega)

/-! ## INSERT (R172, R179) -/

/-- The store after an entry has been placed in the free slot `a`. -/
def State.zonePlaced (s : State) (e : ZoneEntry) (a : Nat) : State :=
  let t := ((s.zoneVersion e).2.zonePut a (s.zoneVersion e).1).zoneCovers (s.zoneVersion e).1
  t.setF F.ZONE_STAT_USED (t.getF F.ZONE_STAT_USED + 1)

section
variable {s : State} {e : ZoneEntry} {a : Nat}

theorem State.zoneInsert_invalid (he : e.ok = false) : s.zoneInsert e = (4, s) := by
  unfold State.zoneInsert
  rw [he]
  rfl

theorem State.zoneInsert_present (he : e.ok = true) (hf : s.zoneFind e.w0 e.level ≠ none) : s.zoneInsert e = (2, s) := by
  unfold State.zoneInsert
  rw [he, Option.isSome_iff_ne_none.2 hf]
  rfl

theorem State.zoneInsert_noTable (he : e.ok = true) (hb : s.zoneBuckets e.w0 e.level = none) : s.zoneInsert e = (3, s) := by
  unfold State.zoneInsert
  rw [he, State.zoneFind_of_noTable hb, hb]
  rfl

theorem State.zoneInsert_noRoom {b1 b2 : Nat} (he : e.ok = true) (hf : s.zoneFind e.w0 e.level = none)
    (hb : s.zoneBuckets e.w0 e.level = some (b1, b2)) (h1 : s.freeSlot b1 = none) (h2 : s.freeSlot b2 = none)
    (hc : s.chain 0 b1 [] (s.getF F.ZONE_MAXKICK_STEPS) = none) : s.zoneInsert e = (3, s) := by
  unfold State.zoneInsert
  rw [he, hf, hb]
  dsimp only
  rw [h1, h2, hc]
  rfl

theorem State.zoneInsert_placed {b1 b2 : Nat} (he : e.ok = true) (hf : s.zoneFind e.w0 e.level = none)
    (hb : s.zoneBuckets e.w0 e.level = some (b1, b2)) (ha : s.freeSlot b1 = some a ∨ s.freeSlot b1 = none ∧ s.freeSlot b2 = some a) :
    s.zoneInsert e = (0, s.zonePlaced e a) := by
  unfold State.zoneInsert
  rw [he, hf, hb]
  dsimp only
  rcases ha with h1 | ⟨h1, h2⟩
  · rw [h1]
    rfl
  · rw [h1, h2]
    rfl

/-- What placing an entry changes beside memory: VERSION's counter, USED, and what a write of a table changes. -/
theorem State.zonePlaced_frame : ∃ t : State, TableFrame (s.zoneVersion e).2 t ∧
    s.zonePlaced e a = t.setF F.ZONE_STAT_USED (s.getF F.ZONE_STAT_USED + 1) := by
  have ht : TableFrame (s.zoneVersion e).2 (((s.zoneVersion e).2.zonePut a (s.zoneVersion e).1).zoneCovers (s.zoneVersion e).1) :=
    (TableFrame.tableWrite ..).trans (.filterSet ..)
  refine ⟨_, ht, ?_⟩
  unfold State.zonePlaced
  dsimp only
  rw [ht.getF (f := F.ZONE_STAT_USED) (by decide)]
  rfl

theorem State.zonePlaced_reg {k : Nat} (h : 0x10000 ≤ k) (hk : k ≠ 0x80044) : (s.zonePlaced e a).reg k = s.reg k := by
  obtain ⟨t, ht, heq⟩ := State.zonePlaced_frame (s := s) (e := e) (a := a)
  rw [heq, State.reg_setF_other (by decide) hk]
  exact ht.reg k h

theorem State.zonePlaced_used (h : s.getF F.ZONE_STAT_USED < 262144) :
    (s.zonePlaced e a).getF F.ZONE_STAT_USED = s.getF F.ZONE_STAT_USED + 1 := by
  obtain ⟨t, -, heq⟩ := State.zonePlaced_frame (s := s) (e := e) (a := a)
  rw [heq, State.getF_setF_same (by decide) (by decide)]
  exact Nat.mod_eq_of_lt (Nat.lt_of_lt_of_le (Nat.succ_lt_succ h) (by decide))

theorem State.zonePlaced_writes : (s.zonePlaced e a).zone.writes = (s.zone.writes + 1) % 65536 := by
  obtain ⟨t, ht, heq⟩ := State.zonePlaced_frame (s := s) (e := e) (a := a)
  rw [heq, State.setF_zone, ht.zone]
  rfl

theorem State.memByte_zonePlaced_other {x : Nat} (hk : e.keyOk = true) (hw : e.w0 < 2 ^ 32) (h0 : 0x10000000 ≤ x) (h1 : x < 0x12000000)
    (ha : x < a ∨ a + 16 ≤ x) (hx : x < 0x10400000 ∨ 0x10440000 ≤ x) : (s.zonePlaced e a).memByte x = s.memByte x :=
  ((KeepsBytes.setF ..).memByte x).trans
    ((State.memByte_zoneCovers_other hk hw h0 h1 hx).trans (State.memByte_zonePut_other h0 h1 ha))

theorem State.zoneAt_zonePlaced (he : e.Fits) (hk : e.keyOk = true) (ha : InSlots a) :
    (s.zonePlaced e a).zoneAt a = { e with w3 := (s.zone.writes + 1) % 65536 * 65536 } := by
  obtain ⟨h0, h1⟩ := id ha
  refine ((KeepsBytes.setF ..).zoneAt a).trans ((State.zoneAt_congr fun x hx0 hx1 => ?_).trans
    (State.zoneAt_zonePut (s := (s.zoneVersion e).2) ha (State.zoneVersion_fits he)))
  exact State.memByte_zoneCovers_other (e := (s.zoneVersion e).1) hk he.w0 (by omega) (by omega) (by omega)

end

/-! ## DELETE and MODIFY (R172, R178, R179) -/

/-- The store after the entry in slot `a` has been deleted. -/
def State.zoneFreed (s : State) (a : Nat) : State :=
  (s.zonePut a ⟨0, 0, 0, 0⟩).setF F.ZONE_STAT_USED (s.getF F.ZONE_STAT_USED - 1)

/-- The store after the entry in slot `a` has been given the other words of `e`. -/
def State.zoneModified (s : State) (e : ZoneEntry) (a : Nat) : State :=
  (s.zoneVersion e).2.tableWrite (a + 4) (wordsBytes [e.w1, e.w2, (s.zoneVersion e).1.w3])

section
variable {s : State} {e : ZoneEntry} {a : Nat}

theorem State.zoneDelete_invalid (he : e.keyOk = false) : s.zoneDelete e = (4, s) := by
  unfold State.zoneDelete
  rw [he]
  rfl

theorem State.zoneDelete_absent (he : e.keyOk = true) (hf : s.zoneFind e.w0 e.level = none) : s.zoneDelete e = (1, s) := by
  unfold State.zoneDelete
  rw [he, hf]
  rfl

theorem State.zoneDelete_found (he : e.keyOk = true) (hf : s.zoneFind e.w0 e.level = some a) :
    s.zoneDelete e = (0, s.zoneFreed a) := by
  unfold State.zoneDelete
  rw [he, hf]
  rfl

theorem State.zoneModify_invalid (he : e.ok = false) : s.zoneModify e = (4, s) := by
  unfold State.zoneModify
  rw [he]
  rfl

theorem State.zoneModify_absent (he : e.ok = true) (hf : s.zoneFind e.w0 e.level = none) : s.zoneModify e = (1, s) := by
  unfold State.zoneModify
  rw [he, hf]
  rfl

theorem State.zoneModify_found (he : e.ok = true) (hf : s.zoneFind e.w0 e.level = some a) :
    s.zoneModify e = (0, s.zoneModified e a) := by
  unfold State.zoneModify
  rw [he, hf]
  rfl

theorem State.zoneFreed_reg {k : Nat} (h : 0x10000 ≤ k) (hk : k ≠ 0x80044) : (s.zoneFreed a).reg k = s.reg k :=
  (State.reg_setF_other (by decide) hk).trans ((TableFrame.tableWrite ..).reg k h)

theorem State.zoneFreed_used : (s.zoneFreed a).getF F.ZONE_STAT_USED = s.getF F.ZONE_STAT_USED - 1 :=
  (State.getF_setF_same (by decide) (by decide)).trans
    (Nat.mod_eq_of_lt (Nat.lt_of_le_of_lt (Nat.sub_le ..) (s.getF_lt (by decide))))

theorem State.zoneAt_zoneFreed (ha : InSlots a) : (s.zoneFreed a).zoneAt a = ⟨0, 0, 0, 0⟩ :=
  ((KeepsBytes.setF ..).zoneAt a).trans (State.zoneAt_zonePut ha ⟨by decide, by decide, by decide, by decide⟩)

theorem State.memByte_zoneFreed_other {x : Nat} (h0 : 0x10000000 ≤ x) (h1 : x < 0x12000000) (h : x < a ∨ a + 16 ≤ x) :
    (s.zoneFreed a).memByte x = s.memByte x :=
  ((KeepsBytes.setF ..).memByte x).trans (State.memByte_zonePut_other h0 h1 h)

theorem State.zoneModified_reg {k : Nat} (h : 0x10000 ≤ k) : (s.zoneModified e a).reg k = s.reg k := (TableFrame.tableWrite ..).reg k h

theorem State.memByte_zoneModified_other {x : Nat} (h0 : 0x10000000 ≤ x) (h1 : x < 0x12000000) (h : x < a + 4 ∨ a + 16 ≤ x) :
    (s.zoneModified e a).memByte x = s.memByte x :=
  State.memByte_tableWrite_other h0 h1 (by rw [wordsBytes_length]; exact h)

theorem State.zoneAt_zoneModified (he : e.Fits) (ha : InSlots a) :
    (s.zoneModified e a).zoneAt a = { e with w0 := (s.zoneAt a).w0, w3 := (s.zone.writes + 1) % 65536 * 65536 } := by
  obtain ⟨h0, h1⟩ := ha
  have hfits := State.zoneVersion_fits (s := s) he
  have hword (i : Nat) (hi : i < 3) : (s.zoneModified e a).memWord (a + 4 + 4 * i) =
      [e.w1, e.w2, (s.zoneVersion e).1.w3].getD i 0 % 2 ^ 32 :=
    State.memWord_tableWrite_words hi (by omega) (by simp only [List.length_cons, List.length_nil]; omega)
  have hw0 : (s.zoneModified e a).memWord a = s.memWord a :=
    State.memLE_congr fun x _ _ => State.memByte_zoneModified_other (by omega) (by omega) (by omega)
  have hw1 := (hword 0 (by decide)).trans (Nat.mod_eq_of_lt he.w1)
  have hw2 := (hword 1 (by decide)).trans (Nat.mod_eq_of_lt he.w2)
  have hw3 := (hword 2 (by decide)).trans (Nat.mod_eq_of_lt hfits.w3)
  simp only [Nat.add_assoc, Nat.mul_zero, Nat.add_zero, Nat.mul_one, Nat.reduceMul, Nat.reduceAdd] at hw1 hw2 hw3
  unfold State.zoneAt
  rw [hw0, hw1, hw2, hw3]
  rfl

end

end Sys2Proof.Machine
end

section
/-! The commands of the zone store (R173, R178, R190, R384) and the statement on them. -/

namespace Sys2Proof.Machine

/-! ## How a zone command begins and is answered -/

/-- The state in which a zone command runs: BUSY is 1, and nothing has been relocated. -/
def State.zoneStarted (s : State) : State :=
  { s with zone := { s.zone with relocates := false } }.setFlag F.ZONE_CMD_STAT_BUSY true

/-- The answer to a zone command whose RESULT will be `r`. -/
def State.zoneAnswer (s : State) (r : Nat) : State := { s with zone := { s.zone with result := r } }.respond 0 false

theorem State.zoneStarted_reg (s : State) {k : Nat} (h : k ≠ 0x800A4) : s.zoneStarted.reg k = s.reg k :=
  State.reg_setF_other (s := { s with zone := { s.zone with relocates := false } }) (f := F.ZONE_CMD_STAT_BUSY) (by decide) h

theorem State.zoneStarted_busy (s : State) : s.zoneStarted.flag F.ZONE_CMD_STAT_BUSY = true := State.flag_setFlag_same rfl (by decide)

theorem State.zoneStarted_zone (s : State) : s.zoneStarted.zone = { s.zone with relocates := false } := State.setF_zone ..

theorem State.zoneStarted_mem (s : State) : s.zoneStarted.mem = s.mem := State.setF_mem ..

theorem State.zoneStarted_sameStore (s : State) : SameStore s s.zoneStarted :=
  ⟨congrArg MemSt.bytes s.zoneStarted_mem, fun _ => s.zoneStarted_reg⟩

section
variable {s : State} {who : Initiator}

theorem State.zoneCommand_refused {k : State → Nat × State} (ho : s.opens who 0x80090 true = true)
    (hb : s.flag F.ZONE_CMD_STAT_BUSY = true ∨ s.notActive = true) :
    s.zoneCommand who k = (s.accessErr 0x11 who 0x80090).respond 0 false :=
  (State.command_of_opens ho).trans (congrArg (State.respond · 0 false) (if_pos (Bool.or_eq_true .. ▸ hb)))

theorem State.zoneCommand_taken {k : State → Nat × State} (ho : s.opens who 0x80090 true = true) (hb : s.flag F.ZONE_CMD_STAT_BUSY = false)
    (ha : s.notActive = false) : s.zoneCommand who k = (k s.zoneStarted).2.zoneAnswer (k s.zoneStarted).1 :=
  (State.command_of_opens ho).trans (congrArg (State.respond · 0 false) (if_neg (by rw [hb, ha]; exact Bool.false_ne_true)))

end

/-- The command `c` of `who` applies the operation `op` to the entry staged, and journals what it did where its result is 0. -/
def IsZoneOp (c : Instr) (who : Initiator) (op : State → ZoneEntry → Nat × State) : Prop :=
  ∀ s, exec c s = .next (s.zoneCommand who fun s =>
    ((op s s.stagedZone).1, if (op s s.stagedZone).1 = 0 then (op s s.stagedZone).2.journal 3 else (op s s.stagedZone).2))

theorem isZoneOp_insert (who : Initiator) : IsZoneOp (.zoneInsert who) who State.zoneInsert := fun _ => rfl

theorem isZoneOp_delete (who : Initiator) : IsZoneOp (.zoneDelete who) who State.zoneDelete := fun _ => rfl

theorem isZoneOp_modify (who : Initiator) : IsZoneOp (.zoneModify who) who State.zoneModify := fun _ => rfl

/-- An operation with another result than 0 leaves the state of the command's start, and is answered with it. -/
theorem IsZoneOp.exec_fails {c : Instr} {who : Initiator} {op : State → ZoneEntry → Nat × State} {s : State} {r : Nat}
    (hc : IsZoneOp c who op) (ho : s.opens who 0x80090 true = true) (hb : s.flag F.ZONE_CMD_STAT_BUSY = false) (ha : s.notActive = false)
    (h : op s.zoneStarted s.stagedZone = (r, s.zoneStarted)) (hr : r ≠ 0) : exec c s = .next (s.zoneStarted.zoneAnswer r) := by
  rw [hc, State.zoneCommand_taken ho hb ha, s.zoneStarted_sameStore.stagedZone, h, if_neg hr]

/-- An operation with result 0 on a unit that belongs to no pair is answered with the state it gives. -/
theorem IsZoneOp.exec_acts {c : Instr} {who : Initiator} {op : State → ZoneEntry → Nat × State} {s t : State} (hc : IsZoneOp c who op)
    (ho : s.opens who 0x80090 true = true) (hb : s.flag F.ZONE_CMD_STAT_BUSY = false) (hr : s.role = 0)
    (h : op s.zoneStarted s.stagedZone = (0, t)) (ht : ∀ k, 0x81000 ≤ k → t.reg k = s.zoneStarted.reg k) :
    exec c s = .next ({ t with pair := { t.pair with touched := [] } }.zoneAnswer 0) := by
  have hunpaired : t.pairActive = false :=
    State.pairActive_of_unpaired hr ((ht 0xF0044 (by decide)).trans (s.zoneStarted_reg (by decide)))
  rw [hc, State.zoneCommand_taken ho hb (State.notActive_of_unpaired hr), s.zoneStarted_sameStore.stagedZone, h, if_pos rfl,
    State.journal_of_unpaired hunpaired]

section
variable (s : State) (p : PairSt) (r : Nat)

theorem State.zoneAnswer_getF (f : Fld) : ({ s with pair := p }.zoneAnswer r).getF f = s.getF f := rfl

theorem State.zoneAnswer_flag (f : Fld) : ({ s with pair := p }.zoneAnswer r).flag f = s.flag f := rfl

theorem State.zoneAnswer_zoneAt (a : Nat) : ({ s with pair := p }.zoneAnswer r).zoneAt a = s.zoneAt a := rfl

theorem State.zoneAnswer_memByte (x : Nat) : ({ s with pair := p }.zoneAnswer r).memByte x = s.memByte x := rfl

end

theorem ZoneEntry.keyOk_of_ok {e : ZoneEntry} (h : e.ok = true) : e.keyOk = true := by
  simp only [ZoneEntry.ok, Bool.and_eq_true] at h
  exact h.1.2

/-! ## LOOKUP_EN (R173) -/

theorem exec_lookupEn {who : Initiator} {en : Bool} {s : State} (ho : s.opens who 0x80040 true = true) :
    exec (.lookupEn who en) s = .next ((if en && !s.levelsOk then s.accessErr 0x12 who 0x80040
      else s.setFlag F.ZONE_CTRL_LOOKUP_EN en).respond 0 false) := congrArg Host.Outcome.next (State.command_of_opens ho)

theorem lookupEn_completes {who : Initiator} {en : Bool} {s : State} (ho : s.opens who 0x80040 true = true)
    (hl : en = false ∨ s.levelsOk = true) : Completes (.lookupEn who en) s fun t => t.flag F.ZONE_CTRL_LOOKUP_EN = en ∧
      (∀ k, k ≠ 0x80040 → t.reg k = s.reg k) ∧ t = { s with regs := t.regs, bus := ⟨0, false⟩ } := by
  have hne : ¬ (en && !s.levelsOk) = true := by
    rcases hl with rfl | hl
    · exact Bool.false_ne_true
    · rw [hl, Bool.and_comm]
      exact Bool.false_ne_true
  rw [Completes, exec_lookupEn ho, if_neg hne]
  refine ⟨_, rfl, State.flag_setFlag_same (s := s) rfl (by decide), fun k hk => ?_, ?_⟩
  · exact State.reg_setF_other (f := F.ZONE_CTRL_LOOKUP_EN) (by decide) hk
  · exact (congrArg (State.respond · 0 false) (s.setF_only F.ZONE_CTRL_LOOKUP_EN (bit en)) :)

/-! ## INSERT, DELETE and MODIFY that act -/

section
variable {s : State} {who : Initiator} (ho : s.opens who 0x80090 true = true) (hb : s.flag F.ZONE_CMD_STAT_BUSY = false) (hr : s.role = 0)
include ho hb hr

theorem zoneInsert_completes {b1 b2 a : Nat} (he : s.stagedZone.ok = true)
    (hf : s.zoneFind s.stagedZone.w0 s.stagedZone.level = none)
    (hbk : s.zoneBuckets s.stagedZone.w0 s.stagedZone.level = some (b1, b2))
    (ha : s.freeSlot b1 = some a ∨ s.freeSlot b1 = none ∧ s.freeSlot b2 = some a) (hu : s.getF F.ZONE_STAT_USED < 262144) :
    Completes (.zoneInsert who) s fun t => t.zone.result = 0 ∧ t.flag F.ZONE_CMD_STAT_BUSY = true ∧
      t.zoneAt a = { s.stagedZone with w3 := (s.zone.writes + 1) % 65536 * 65536 } ∧ t.zone.writes = (s.zone.writes + 1) % 65536 ∧
      t.getF F.ZONE_STAT_USED = s.getF F.ZONE_STAT_USED + 1 ∧
      (∀ x, 0x10000000 ≤ x → x < 0x12000000 → (x < a ∨ a + 16 ≤ x) → (x < 0x10400000 ∨ 0x10440000 ≤ x) →
        t.memByte x = s.memByte x) := by
  have hstart := s.zoneStarted_sameStore
  have hplaced := State.zoneInsert_placed he ((hstart.zoneFind ..).trans hf) ((hstart.zoneBuckets ..).trans hbk)
    (by rwa [hstart.freeSlot, hstart.freeSlot])
  have hx := (isZoneOp_insert who).exec_acts ho hb hr hplaced fun k hk => State.zonePlaced_reg (by omega) (by omega)
  have hkey := ZoneEntry.keyOk_of_ok he
  have hslot : InSlots a := by
    obtain ⟨h1, h2⟩ := State.zoneBuckets_lt hbk
    rcases ha with h | ⟨-, h⟩
    · exact State.freeSlot_inSlots h1 h
    · exact State.freeSlot_inSlots h2 h
  have hused : s.zoneStarted.getF F.ZONE_STAT_USED = s.getF F.ZONE_STAT_USED := hstart.getF (by decide) (by decide)
  have hwrites : s.zoneStarted.zone.writes = s.zone.writes := by rw [s.zoneStarted_zone]
  have hbusy : (s.zoneStarted.zonePlaced s.stagedZone a).flag F.ZONE_CMD_STAT_BUSY = true :=
    (State.flag_of_reg_eq (by decide) (State.zonePlaced_reg (by decide) (by decide))).trans s.zoneStarted_busy
  refine ⟨_, hx, rfl, (State.zoneAnswer_flag ..).trans hbusy, ?_, ?_, ?_, fun x h0 h1 hxa hxf => ?_⟩
  · rw [State.zoneAnswer_zoneAt, State.zoneAt_zonePlaced s.stagedZone_fits hkey hslot, hwrites]
  · rw [← hwrites]
    exact State.zonePlaced_writes
  · rw [← hused]
    exact State.zonePlaced_used (hused ▸ hu)
  · exact (State.zoneAnswer_memByte ..).trans <|
      (State.memByte_zonePlaced_other hkey s.stagedZone_fits.w0 h0 h1 hxa hxf).trans (hstart.bytes.memByte x)

theorem zoneDelete_completes {a : Nat} (hk : s.stagedZone.keyOk = true)
    (hf : s.zoneFind s.stagedZone.w0 s.stagedZone.level = some a) :
    Completes (.zoneDelete who) s fun t => t.zone.result = 0 ∧ t.flag F.ZONE_CMD_STAT_BUSY = true ∧
      t.zoneAt a = ⟨0, 0, 0, 0⟩ ∧ t.getF F.ZONE_STAT_USED = s.getF F.ZONE_STAT_USED - 1 ∧
      (∀ x, 0x10000000 ≤ x → x < 0x12000000 → (x < a ∨ a + 16 ≤ x) → t.memByte x = s.memByte x) := by
  have hstart := s.zoneStarted_sameStore
  have hx := (isZoneOp_delete who).exec_acts ho hb hr (State.zoneDelete_found hk ((hstart.zoneFind ..).trans hf))
    fun k hk => State.zoneFreed_reg (by omega) (by omega)
  have hbusy : (s.zoneStarted.zoneFreed a).flag F.ZONE_CMD_STAT_BUSY = true :=
    (State.flag_of_reg_eq (by decide) (State.zoneFreed_reg (by decide) (by decide))).trans s.zoneStarted_busy
  refine ⟨_, hx, rfl, (State.zoneAnswer_flag ..).trans hbusy, ?_, ?_, fun x h0 h1 hxa => ?_⟩
  · exact (State.zoneAnswer_zoneAt ..).trans (State.zoneAt_zoneFreed (State.zoneFind_inSlots hf))
  · exact (State.zoneAnswer_getF ..).trans <|
      State.zoneFreed_used.trans (congrArg (· - 1) (hstart.getF (f := F.ZONE_STAT_USED) (by decide) (by decide)))
  · exact (State.zoneAnswer_memByte ..).trans <| (State.memByte_zoneFreed_other h0 h1 hxa).trans (hstart.bytes.memByte x)

theorem zoneModify_completes {a : Nat} (he : s.stagedZone.ok = true)
    (hf : s.zoneFind s.stagedZone.w0 s.stagedZone.level = some a) :
    Completes (.zoneModify who) s fun t => t.zone.result = 0 ∧ t.flag F.ZONE_CMD_STAT_BUSY = true ∧
      t.zoneAt a = { s.stagedZone with w0 := (s.zoneAt a).w0, w3 := (s.zone.writes + 1) % 65536 * 65536 } ∧
      (∀ x, 0x10000000 ≤ x → x < 0x12000000 → (x < a ∨ a + 16 ≤ x) → t.memByte x = s.memByte x) := by
  have hstart := s.zoneStarted_sameStore
  have hx := (isZoneOp_modify who).exec_acts ho hb hr (State.zoneModify_found he ((hstart.zoneFind ..).trans hf))
    fun k hk => State.zoneModified_reg (by omega)
  have hwrites : s.zoneStarted.zone.writes = s.zone.writes := by rw [s.zoneStarted_zone]
  have hbusy : (s.zoneStarted.zoneModified s.stagedZone a).flag F.ZONE_CMD_STAT_BUSY = true :=
    (State.flag_of_reg_eq (by decide) (State.zoneModified_reg (by decide))).trans s.zoneStarted_busy
  refine ⟨_, hx, rfl, (State.zoneAnswer_flag ..).trans hbusy, ?_, fun x h0 h1 hxa => ?_⟩
  · rw [State.zoneAnswer_zoneAt, State.zoneAt_zoneModified s.stagedZone_fits (State.zoneFind_inSlots hf), hwrites, hstart.bytes.zoneAt]
  · exact (State.zoneAnswer_memByte ..).trans <| (State.memByte_zoneModified_other h0 h1 (by omega)).trans (hstart.bytes.memByte x)

end

/-- Settles O24: what a zone command makes of the store follows from where its search ends, and a write of the store and of its shadow
reaches no other byte of the fleet store. -/
theorem zoneCommands : Obligations.ZoneCommands := by
  refine ⟨?lookupEn, ?refused, ?fails, ?insert, ?found⟩
  case lookupEn =>
    refine fun who en s ho => ⟨fun he hl => ?_, lookupEn_completes ho⟩
    rw [exec_lookupEn ho, if_pos (by rw [he, hl]; rfl)]
  case refused =>
    intro who s ho hb c hc
    have hrefused (k : State → Nat × State) := congrArg (Host.Outcome.next (φ := Fault) (ρ := Refusal))
      (State.zoneCommand_refused (k := k) ho hb)
    simp only [List.mem_cons, List.not_mem_nil, or_false] at hc
    rcases hc with rfl | rfl | rfl | rfl | rfl | rfl
    all_goals exact hrefused _
  case fails =>
    intro who s ho hb ha
    have hstart := s.zoneStarted_sameStore
    have hinsert {r : Nat} := (isZoneOp_insert who).exec_fails (r := r) ho hb ha
    have hdelete {r : Nat} := (isZoneOp_delete who).exec_fails (r := r) ho hb ha
    have hmodify {r : Nat} := (isZoneOp_modify who).exec_fails (r := r) ho hb ha
    refine ⟨fun he => ⟨hinsert (State.zoneInsert_invalid he) (by decide), hmodify (State.zoneModify_invalid he) (by decide)⟩,
      fun he hf => hinsert (State.zoneInsert_present he ?_) (by decide), fun he hbk => hinsert (State.zoneInsert_noTable he ?_) (by decide),
      fun b1 b2 he hf hbk h1 h2 hc => hinsert (State.zoneInsert_noRoom (b1 := b1) (b2 := b2) he ?_ ?_ ?_ ?_ ?_) (by decide),
      fun hk => hdelete (State.zoneDelete_invalid hk) (by decide), fun he hf => hmodify (State.zoneModify_absent he ?_) (by decide),
      fun hk hf => hdelete (State.zoneDelete_absent hk ?_) (by decide)⟩
    · rwa [hstart.zoneFind]
    · rwa [hstart.zoneBuckets]
    · rwa [hstart.zoneFind]
    · rwa [hstart.zoneBuckets]
    · rwa [hstart.freeSlot]
    · rwa [hstart.freeSlot]
    · rwa [hstart.chain, hstart.getF (f := F.ZONE_MAXKICK_STEPS) (by decide) (by decide)]
    · rwa [hstart.zoneFind]
    · rwa [hstart.zoneFind]
  case insert => exact fun who b1 b2 a s ho hb hr he hf hbk ha hu => zoneInsert_completes ho hb hr he hf hbk ha hu
  case found =>
    exact fun who a s ho hb hr hf => ⟨fun hk => zoneDelete_completes ho hb hr hk hf, fun he => zoneModify_completes ho hb hr he hf⟩

end Sys2Proof.Machine
end

section
/-! The machine and cell tables: records written with their VERSION, the operations of the table commands, and what a plan event that a
changed cell gives leaves as it is (R181 to R184, R191, R202, R223). -/

namespace Sys2Proof.Machine

/-! ## Events posted to a queue (R205, R481) -/

/-- From `s` to `t` only registers, logs, the queues, the answer on the bus and the free values drawn change. -/
def PostFrame (s t : State) : Prop :=
  t = { s with regs := t.regs, fifos := t.fifos, mbox := t.mbox, bus := t.bus, freeCtr := t.freeCtr }

namespace PostFrame

theorem refl (s : State) : PostFrame s s := rfl

theorem trans {s t u : State} (h : PostFrame s t) (k : PostFrame t u) : PostFrame s u := Eq.trans k (by rw [h])

theorem ite {s t u : State} {c : Prop} [Decidable c] (ht : PostFrame s t) (hu : PostFrame s u) : PostFrame s (if c then t else u) := by
  split
  · exact ht
  · exact hu

theorem foldl {α : Type} {f : State → α → State} (hf : ∀ s a, PostFrame s (f s a)) (l : List α) (s : State) : PostFrame s (l.foldl f s) :=
  List.foldlRecOn l f (motive := PostFrame s) (refl s) fun t ht a _ => ht.trans (hf t a)

theorem mem {s t : State} (h : PostFrame s t) : t.mem = s.mem := by rw [h]

theorem regs_only {s t : State} (h : PostFrame s t) (hf : t.fifos = s.fifos) (hm : t.mbox = s.mbox) (hb : t.bus = s.bus)
    (hc : t.freeCtr = s.freeCtr) : t = { s with regs := t.regs } := by
  unfold PostFrame at h
  rw [hf, hm, hb, hc] at h
  exact h

theorem setReg (s : State) (k : Nat) (v : Word) : PostFrame s (s.setReg k v) := rfl

theorem setF (s : State) (f : Fld) (v : Nat) : PostFrame s (s.setF f v) := ite (setReg ..) (ite (setReg ..) ((setReg ..).trans (setReg ..)))

theorem raise (s : State) (p b : Nat) : PostFrame s (s.raise p b) := setF ..

theorem bump (s : State) (f : Fld) : PostFrame s (s.bump f) := setF ..

theorem err (s : State) (p code : Nat) (who : Option Initiator) (a : Nat) : PostFrame s (s.err p code who a) :=
  ite (setF ..) (((setReg ..).trans (setReg ..)).trans (raise ..))

theorem respond (s : State) (d : Nat) (e : Bool) : PostFrame s (s.respond d e) := rfl

theorem pushFifo (s : State) (key depth : Nat) (e : List Word) {full : State → State} (hf : PostFrame s (full s)) :
    PostFrame s (s.pushFifo key depth e full) := ite rfl hf

theorem setMbox (s : State) (q : Nat) (v : MboxQueue) : PostFrame s (s.setMbox q v) := rfl

theorem mboxEvent (s : State) (q e : Nat) : PostFrame s (s.mboxEvent q e) := raise ..

theorem mboxCheckPtr (s : State) (q : Nat) : PostFrame s (s.mboxCheckPtr q) :=
  ite ((((setMbox ..).trans (bump ..)).trans (err ..)).trans (mboxEvent ..)) (refl s)

theorem mboxStore (s : State) (q : Nat) (w : Writer) (word : DWord) (packet : Bool) : PostFrame s (s.mboxStore q w word packet) := by
  have hstored (v : MboxQueue) (x : Fld) (n : Nat) : PostFrame s ((s.setMbox q v).setF x n) := (setMbox ..).trans (setF ..)
  unfold State.mboxStore
  exact ite ((setMbox ..).trans (bump ..)) (ite ((hstored ..).trans (mboxEvent ..)) (hstored ..))

theorem mboxServeHeld (s : State) (q n : Nat) : PostFrame s (s.mboxServeHeld q n) := by
  induction n generalizing s with
  | zero => exact refl s
  | succ n ih =>
    unfold State.mboxServeHeld
    split
    · refine PostFrame.trans ?_ (ih _)
      split
      · exact ((setMbox ..).trans (mboxStore ..)).trans (respond ..)
      · exact (setMbox ..).trans (mboxStore ..)
    · exact refl s

theorem countLost (s : State) (lost : Option Lost) : PostFrame s (s.countLost lost) := by
  cases lost with
  | none => exact refl s
  | some l =>
    obtain ⟨count, event, log⟩ := l
    have hraised : PostFrame s (match event with
        | some (p, b) => (s.bump count).raise p b
        | none => s.bump count) := by
      cases event
      · exact bump ..
      · exact (bump ..).trans (raise ..)
    cases log
    · exact hraised
    · exact hraised.trans (pushFifo _ _ _ _ (refl _))

theorem mboxFail (s : State) (q : Nat) (w : Writer) (lost : Option Lost) : PostFrame s (s.mboxFail q w lost) := by
  have hfail : PostFrame s ((s.bump (F.MBOX_WR_FAIL_COUNT (q / 4) (q % 4))).mboxEvent q 1) := (bump ..).trans (mboxEvent ..)
  cases w with
  | blk _ => exact hfail.trans (countLost ..)
  | ini _ => exact hfail.trans ((err ..).trans (respond ..))

theorem mboxWrite (s : State) (q : Nat) (w : Writer) (word : DWord) (packet : Bool) (lost : Option Lost) :
    PostFrame s (s.mboxWrite q w word packet lost) :=
  (mboxCheckPtr s q).trans <| ite (mboxFail ..) <| ite ((err ..).trans (countLost ..)) <| ite ((err ..).trans (countLost ..)) <|
    ite ((mboxStore ..).trans (mboxServeHeld ..)) (setMbox ..)

theorem planEvent (s : State) (kind m detail pid : Nat) : PostFrame s (s.planEvent kind m detail pid) :=
  ite (((bump ..).trans (raise ..)).trans (mboxWrite ..)) (refl s)

theorem cellChanged (s before : State) (c : Nat) : PostFrame s (s.cellChanged before c) := by
  unfold State.cellChanged
  refine ite (refl s) (foldl (fun t k => ite (planEvent ..) ?_) _ s)
  exact PostFrame.trans (t := (t.fresh 65536).2) rfl (planEvent ..)

end PostFrame

/-! ## Records with their VERSION (R181) -/

/-- The VERSION that a record gets whose first word was `v`. -/
def nextVersion (v : Nat) : Nat := (bitsOf v 31 16 + 1) % 65536

theorem nextVersion_lt (v : Nat) : nextVersion v < 65536 := Nat.mod_lt _ (by decide)

section
variable {s : State} {a w0 : Nat} {rest : List Nat}

theorem TableFrame.recordWrite (s : State) (a w0 : Nat) (rest : List Nat) : TableFrame s (s.recordWrite a w0 rest) := tableWrite ..

/-- The first word of a record written: its low half is that of the word given, its high half the next VERSION. -/
theorem State.memWord_recordWrite_first (h0 : 0x10000000 ≤ a) (h1 : a + 4 * (rest.length + 1) ≤ 0x12000000) :
    (s.recordWrite a w0 rest).memWord a = w0 % 65536 + nextVersion (s.memWord a) * 65536 := by
  have hv := nextVersion_lt (s.memWord a)
  have hlow : w0 % 65536 < 65536 := Nat.mod_lt _ (by decide)
  exact (State.memWord_tableWrite_words (i := 0) (ws := (w0 % 65536 + nextVersion (s.memWord a) * 65536) :: rest) (Nat.succ_pos _) h0 h1).trans
    (Nat.mod_eq_of_lt (by simp only [List.getD_cons_zero]; omega))

theorem State.memWord_recordWrite_rest {i : Nat} (h0 : 0x10000000 ≤ a) (h1 : a + 4 * (rest.length + 1) ≤ 0x12000000) (hi : 1 ≤ i)
    (hi' : i ≤ rest.length) : (s.recordWrite a w0 rest).memWord (a + 4 * i) = rest.getD (i - 1) 0 % 2 ^ 32 := by
  obtain ⟨j, rfl⟩ : ∃ j, i = j + 1 := ⟨i - 1, by omega⟩
  exact State.memWord_tableWrite_words (ws := (w0 % 65536 + nextVersion (s.memWord a) * 65536) :: rest) (Nat.succ_lt_succ hi') h0 h1

theorem State.memWord_recordWrite_other {b : Nat} (h0 : 0x10000000 ≤ b) (h1 : b + 4 ≤ 0x12000000)
    (h : b + 4 ≤ a ∨ a + 4 * (rest.length + 1) ≤ b) : (s.recordWrite a w0 rest).memWord b = s.memWord b :=
  State.memWord_tableWrite_other h0 h1 h

end

/-! ## The operations of the table commands -/

theorem State.staged_length (s : State) : s.staged.length = 16 := by simp [State.staged]

theorem State.staged_getD_lt (s : State) (i : Nat) : s.staged.getD i 0 < 2 ^ 32 := by
  rw [List.getD_eq_getElem?_getD, State.staged, List.getElem?_map]
  rcases (List.range 16)[i]? with _ | k
  · exact Nat.two_pow_pos 32
  · exact s.getF_lt (f := F.XTAB_STAGE_WORD k) (Nat.zero_le _)

/-- WRITE_MACHINE: RESULT, and the state (R182, R191). -/
def State.machineWrite (s : State) (index : Nat) : Nat × State :=
  if s.machIndexResult index ≠ 0 then (s.machIndexResult index, s)
  else if !machineRecordOk s.staged then (3, s)
  else (0, ((s.recordWrite (machAddr (index % 256)) (s.staged.getD 0 0) ((s.staged.drop 1).take 7)).radioForget (index % 256)).journal 3)

/-- INVALIDATE_MACHINE (R191, R202). -/
def State.machineInvalidate (s : State) (index : Nat) : Nat × State :=
  if s.machIndexResult index ≠ 0 then (s.machIndexResult index, s)
  else (0, ((s.recordWrite (machAddr (index % 256)) (s.machWord (index % 256) 0 / 2 * 2)
    (s.memWords (machAddr (index % 256) + 4) 7 ++ List.replicate 8 0)).radioForget (index % 256)).journal 3)

/-- WRITE_CELL (R183, R191, R223). -/
def State.cellWrite (s : State) (index : Nat) : Nat × State :=
  if s.cellIndexResult index ≠ 0 then (s.cellIndexResult index, s)
  else if !cellRecordOk s.member (s.getF F.XTAB_CELL_COUNT_COUNT) s.staged then (3, s)
  else (0, ((s.recordWrite (cellAddr (index % 65536)) (s.staged.getD 0 0) (s.staged.drop 1)).journal 3).cellChanged s (index % 65536))

/-- INVALIDATE_CELL (R191, R223). -/
def State.cellInvalidate (s : State) (index : Nat) : Nat × State :=
  if s.cellIndexResult index ≠ 0 then (s.cellIndexResult index, s)
  else (0, ((s.recordWrite (cellAddr (index % 65536)) (s.cellWord (index % 65536) 0 / 2 * 2)
    (s.memWords (cellAddr (index % 65536) + 4) 15)).journal 3).cellChanged s (index % 65536))

theorem exec_writeMachine (who : Initiator) (i : Fin 1048576) (s : State) :
    exec (.writeMachine who i) s = .next (s.xtabCommand who (State.machineWrite · i.val)) := rfl

theorem exec_invalidateMachine (who : Initiator) (i : Fin 1048576) (s : State) :
    exec (.invalidateMachine who i) s = .next (s.xtabCommand who (State.machineInvalidate · i.val)) := rfl

theorem exec_writeCell (who : Initiator) (i : Fin 1048576) (s : State) :
    exec (.writeCell who i) s = .next (s.xtabCommand who (State.cellWrite · i.val)) := rfl

theorem exec_invalidateCell (who : Initiator) (i : Fin 1048576) (s : State) :
    exec (.invalidateCell who i) s = .next (s.xtabCommand who (State.cellInvalidate · i.val)) := rfl

end Sys2Proof.Machine
end

section
/-! How a table command begins and is answered, and the records that it writes (R181 to R184, R191, R384). -/

namespace Sys2Proof.Machine

/-! ## Tables of 64-byte records -/

/-- Word `w` of record `m` of a table at `base`: of machines at 0x10840000, of cells at 0x10440000. -/
def State.recordWord (s : State) (base m w : Nat) : Nat := s.memWord (base + 64 * m + 4 * w)

theorem KeepsBytes.recordWord {s t : State} (h : KeepsBytes s t) (base m w : Nat) : t.recordWord base m w = s.recordWord base m w :=
  h.memWord _

/-- A table of `count` records lies in the fleet store. -/
def InFleet (base count : Nat) : Prop := 0x10000000 ≤ base ∧ base + 64 * count ≤ 0x12000000

theorem inFleet_machines : InFleet 0x10840000 256 := ⟨by decide, by decide⟩

theorem inFleet_cells : InFleet 0x10440000 65536 := ⟨by decide, by decide⟩

section
variable {s : State} {base count m w0 : Nat} {rest : List Nat} (hb : InFleet base count)
include hb

theorem State.recordWord_first (hm : m < count) (hl : rest.length < 16) :
    (s.recordWrite (base + 64 * m) w0 rest).recordWord base m 0 = w0 % 65536 + nextVersion (s.recordWord base m 0) * 65536 := by
  obtain ⟨h0, h1⟩ := hb
  exact State.memWord_recordWrite_first (by omega) (by omega)

theorem State.recordWord_rest {w : Nat} (hm : m < count) (hl : rest.length < 16) (hw : 1 ≤ w) (hw' : w ≤ rest.length) :
    (s.recordWrite (base + 64 * m) w0 rest).recordWord base m w = rest.getD (w - 1) 0 % 2 ^ 32 := by
  obtain ⟨h0, h1⟩ := hb
  exact State.memWord_recordWrite_rest (by omega) (by omega) hw hw'

theorem State.recordWord_unwritten {w : Nat} (hm : m < count) (hw : rest.length < w) (hw' : w < 16) :
    (s.recordWrite (base + 64 * m) w0 rest).recordWord base m w = s.recordWord base m w := by
  obtain ⟨h0, h1⟩ := hb
  exact State.memWord_recordWrite_other (by omega) (by omega) (by omega)

theorem State.recordWord_otherRecord {n w : Nat} (hl : rest.length < 16) (hn : n < count) (hnm : n ≠ m) (hw : w < 16) :
    (s.recordWrite (base + 64 * m) w0 rest).recordWord base n w = s.recordWord base n w := by
  obtain ⟨h0, h1⟩ := hb
  exact State.memWord_recordWrite_other (by omega) (by omega) (by omega)

end

/-- The first word of a record that is invalidated: VALID is 0, VERSION the one given. -/
theorem invalidated_word {v n : Nat} (hn : n < 65536) :
    bitAt (v / 2 * 2 % 65536 + n * 65536) 0 = false ∧ bitsOf (v / 2 * 2 % 65536 + n * 65536) 31 16 = n := by
  unfold bitAt bitsOf
  refine ⟨beq_false_of_ne ?_, ?_⟩ <;> omega

/-! ## How a table command begins and is answered -/

/-- The state in which a table command runs. -/
def State.xtabStarted (s : State) : State := s.setFlag F.XTAB_CMD_STAT_BUSY true

/-- The answer to a table command whose RESULT will be `r`. -/
def State.xtabAnswer (s : State) (r : Nat) : State := { s with zone := { s.zone with xtabResult := r } }.respond 0 false

theorem State.xtabStarted_busy (s : State) : s.xtabStarted.flag F.XTAB_CMD_STAT_BUSY = true :=
  State.flag_setFlag_same (s := s) rfl (by decide)

theorem KeepsBytes.xtabStarted (s : State) : KeepsBytes s s.xtabStarted := setF ..

section
variable (s : State)

theorem State.xtabStarted_reg {k : Nat} (h : k ≠ 0x81058) : s.xtabStarted.reg k = s.reg k :=
  State.reg_setF_other (f := F.XTAB_CMD_STAT_BUSY) (by decide) h

theorem State.xtabStarted_member : s.xtabStarted.member = s.member :=
  State.getF_of_reg_eq (f := F.CASC_CTRL_MEMBER) (by decide) (s.xtabStarted_reg (by decide))

theorem State.xtabStarted_cellCount : s.xtabStarted.getF F.XTAB_CELL_COUNT_COUNT = s.getF F.XTAB_CELL_COUNT_COUNT :=
  State.getF_of_reg_eq (by decide) (s.xtabStarted_reg (by decide))

theorem State.xtabStarted_staged : s.xtabStarted.staged = s.staged :=
  List.map_congr_left fun k _ => State.getF_of_reg_eq (f := F.XTAB_STAGE_WORD k) (show 31 < 32 by decide)
    (s.xtabStarted_reg (by simp only [F.XTAB_STAGE_WORD]; omega))

theorem State.xtabStarted_machIndexResult (index : Nat) : s.xtabStarted.machIndexResult index = s.machIndexResult index := by
  unfold State.machIndexResult
  rw [s.xtabStarted_member]

theorem State.xtabStarted_cellIndexResult (index : Nat) : s.xtabStarted.cellIndexResult index = s.cellIndexResult index := by
  unfold State.cellIndexResult
  rw [s.xtabStarted_member, s.xtabStarted_cellCount]

end

section
variable {s t : State} {who : Initiator} {c : Instr} {k : State → Nat × State} {r : Nat}

theorem State.xtabCommand_refused (ho : s.opens who 0x81054 true = true)
    (hb : s.flag F.XTAB_CMD_STAT_BUSY = true ∨ s.notActive = true) :
    s.xtabCommand who k = (s.accessErr 0x11 who 0x81054).respond 0 false :=
  (State.command_of_opens ho).trans (congrArg (State.respond · 0 false) (if_pos (Bool.or_eq_true .. ▸ hb)))

/-- A table command that is taken is answered with what its operation gives. -/
theorem exec_tableCommand (hc : exec c s = .next (s.xtabCommand who k)) (ho : s.opens who 0x81054 true = true)
    (hb : s.flag F.XTAB_CMD_STAT_BUSY = false) (ha : s.notActive = false) (h : k s.xtabStarted = (r, t)) :
    exec c s = .next (t.xtabAnswer r) := by
  have htaken : s.xtabCommand who k = (k s.xtabStarted).2.xtabAnswer (k s.xtabStarted).1 :=
    (State.command_of_opens ho).trans (congrArg (State.respond · 0 false) (if_neg (by rw [hb, ha]; exact Bool.false_ne_true)))
  rw [hc, htaken, h]

end

theorem State.xtabStarted_answer (s : State) (r : Nat) : s.xtabStarted.xtabAnswer r =
    { s.setFlag F.XTAB_CMD_STAT_BUSY true with zone := { s.zone with xtabResult := r } }.respond 0 false := by
  unfold State.xtabAnswer State.xtabStarted
  rw [State.setFlag_zone]

/-! ## Commands that write a record -/

/-- What a table command that writes record `m` of a table makes of the table: the first word with the next VERSION, the words given after
it, and every other word as it was. -/
structure RecordWritten (s t : State) (base count m w0 : Nat) (rest : List Nat) : Prop where
  first : t.recordWord base m 0 = w0 % 65536 + nextVersion (s.recordWord base m 0) * 65536
  given : ∀ w, 1 ≤ w → w ≤ rest.length → t.recordWord base m w = rest.getD (w - 1) 0 % 2 ^ 32
  unwritten : ∀ w, rest.length < w → w < 16 → t.recordWord base m w = s.recordWord base m w
  others : ∀ n, n < count → n ≠ m → ∀ w, w < 16 → t.recordWord base n w = s.recordWord base n w

theorem RecordWritten.of_bytes {s t : State} {a base count m w0 : Nat} {rest : List Nat} (hb : InFleet base count) (hm : m < count)
    (hl : rest.length < 16) (ha : a = base + 64 * m) (h : KeepsBytes (s.xtabStarted.recordWrite a w0 rest) t) :
    RecordWritten s t base count m w0 rest := by
  subst ha
  have hs := (KeepsBytes.xtabStarted s).recordWord base
  constructor
  · rw [h.recordWord, State.recordWord_first hb hm hl, hs]
  · exact fun w hw hw' => (h.recordWord ..).trans (State.recordWord_rest hb hm hl hw hw')
  · exact fun w hw hw' => (h.recordWord ..).trans ((State.recordWord_unwritten hb hm hw hw').trans (hs ..))
  · exact fun n hn hnm w hw => (h.recordWord ..).trans ((State.recordWord_otherRecord hb hl hn hnm hw).trans (hs ..))

theorem State.recordWrite_reg (s : State) (a w0 : Nat) (rest : List Nat) {k : Nat} (h : 0x10000 ≤ k) :
    (s.recordWrite a w0 rest).reg k = s.reg k := (TableFrame.recordWrite ..).reg k h

theorem State.recordWrite_unpaired {s : State} (hr : s.role = 0) (a w0 : Nat) (rest : List Nat) :
    (s.xtabStarted.recordWrite a w0 rest).pairActive = false :=
  State.pairActive_of_unpaired hr ((State.recordWrite_reg _ _ _ _ (by decide)).trans (s.xtabStarted_reg (by decide)))

theorem KeepsBytes.journal {s : State} (h : s.pairActive = false) (src : Nat) : KeepsBytes s (s.journal src) := by
  rw [State.journal_of_unpaired h]
  exact refl s

theorem State.radioForget_journal {s : State} (h : s.pairActive = false) (m src : Nat) :
    (s.radioForget m).journal src = { s.radioForget m with pair := { s.pair with touched := [] } } :=
  State.journal_of_unpaired (s := s.radioForget m) h src

section
variable {s : State} {index : Nat}

theorem State.machineWrite_done (h0 : s.machIndexResult index = 0) (h : machineRecordOk s.staged = true) : s.machineWrite index =
    (0, ((s.recordWrite (machAddr (index % 256)) (s.staged.getD 0 0) ((s.staged.drop 1).take 7)).radioForget (index % 256)).journal 3) := by
  unfold State.machineWrite
  rw [h0, h]
  rfl

theorem State.machineInvalidate_done (h0 : s.machIndexResult index = 0) : s.machineInvalidate index =
    (0, ((s.recordWrite (machAddr (index % 256)) (s.machWord (index % 256) 0 / 2 * 2)
      (s.memWords (machAddr (index % 256) + 4) 7 ++ List.replicate 8 0)).radioForget (index % 256)).journal 3) := by
  unfold State.machineInvalidate
  rw [h0]
  rfl

theorem State.cellWrite_done (h0 : s.cellIndexResult index = 0)
    (h : cellRecordOk s.member (s.getF F.XTAB_CELL_COUNT_COUNT) s.staged = true) : s.cellWrite index =
    (0, ((s.recordWrite (cellAddr (index % 65536)) (s.staged.getD 0 0) (s.staged.drop 1)).journal 3).cellChanged s (index % 65536)) := by
  unfold State.cellWrite
  rw [h0, h]
  rfl

theorem State.cellInvalidate_done (h0 : s.cellIndexResult index = 0) : s.cellInvalidate index =
    (0, ((s.recordWrite (cellAddr (index % 65536)) (s.cellWord (index % 65536) 0 / 2 * 2)
      (s.memWords (cellAddr (index % 65536) + 4) 15)).journal 3).cellChanged s (index % 65536)) := by
  unfold State.cellInvalidate
  rw [h0]
  rfl

end

theorem State.machWord_eq (s : State) (m w : Nat) : s.machWord m w = s.recordWord 0x10840000 m w := rfl

theorem State.cellWord_eq (s : State) (c w : Nat) : s.cellWord c w = s.recordWord 0x10440000 c w := rfl

theorem getD_drop_one_pred {l : List Nat} {w : Nat} (hw : 1 ≤ w) : (l.drop 1).getD (w - 1) 0 = l.getD w 0 := by
  rw [List.getD_eq_getElem?_getD, List.getElem?_drop, Nat.add_sub_cancel' hw, ← List.getD_eq_getElem?_getD]

end Sys2Proof.Machine
end

section
/-! The statement on the table commands (R181 to R184, R191, R202, R384, R451). -/

namespace Sys2Proof.Machine

section
variable {s : State} {who : Initiator} {i : Fin 1048576} (ho : s.opens who 0x81054 true = true)
  (hb : s.flag F.XTAB_CMD_STAT_BUSY = false) (hr : s.role = 0)
include ho hb hr

/-- The answer of a machine command that has written `x`. -/
theorem exec_machineCommand {c : Instr} {k : State → Nat × State} {x : State} {m : Nat} (hc : exec c s = .next (s.xtabCommand who k))
    (hx : x.pairActive = false) (hbusy : x.flag F.XTAB_CMD_STAT_BUSY = true) (h : k s.xtabStarted = (0, (x.radioForget m).journal 3)) :
    ∃ t, exec c s = .next t ∧ t.zone.xtabResult = 0 ∧ t.flag F.XTAB_CMD_STAT_BUSY = true ∧ KeepsBytes x t := by
  rw [State.radioForget_journal hx] at h
  exact ⟨_, exec_tableCommand hc ho hb (State.notActive_of_unpaired hr) h, rfl, hbusy, .refl x⟩

/-- The answer of a cell command that has written `x`. -/
theorem exec_cellCommand {c : Instr} {k : State → Nat × State} {x : State} {n : Nat} (hc : exec c s = .next (s.xtabCommand who k))
    (hx : x.pairActive = false) (h : k s.xtabStarted = (0, (x.journal 3).cellChanged s.xtabStarted n)) :
    ∃ t, exec c s = .next t ∧ t.zone.xtabResult = 0 ∧ KeepsBytes x t := by
  have hchanged : KeepsBytes x ((x.journal 3).cellChanged s.xtabStarted n) :=
    (KeepsBytes.journal hx 3).trans (congrArg MemSt.bytes (PostFrame.cellChanged (x.journal 3) s.xtabStarted n).mem)
  generalize (x.journal 3).cellChanged s.xtabStarted n = y at h hchanged
  exact ⟨_, exec_tableCommand hc ho hb (State.notActive_of_unpaired hr) h, rfl, hchanged⟩

omit ho hb hr in
theorem State.recordWrite_busy (a w0 : Nat) (rest : List Nat) : (s.xtabStarted.recordWrite a w0 rest).flag F.XTAB_CMD_STAT_BUSY = true :=
  (State.flag_of_reg_eq (f := F.XTAB_CMD_STAT_BUSY) (by decide) (s.xtabStarted.recordWrite_reg a w0 rest (by decide))).trans
    s.xtabStarted_busy

/-- The answer of a machine command whose index and record pass. -/
theorem machineCommand_answers {c : Instr} {k : State → Nat × State} {m w0 : Nat} {rest : List Nat}
    (hc : exec c s = .next (s.xtabCommand who k)) (hm : m < 256) (hl : rest.length < 16)
    (h : k s.xtabStarted = (0, ((s.xtabStarted.recordWrite (machAddr m) w0 rest).radioForget m).journal 3)) :
    ∃ t, exec c s = .next t ∧ t.zone.xtabResult = 0 ∧ t.flag F.XTAB_CMD_STAT_BUSY = true ∧
      RecordWritten s t 0x10840000 256 m w0 rest := by
  obtain ⟨t, hx, hres, hbusy, hbytes⟩ := exec_machineCommand ho hb hr hc (State.recordWrite_unpaired hr ..) (State.recordWrite_busy ..) h
  exact ⟨t, hx, hres, hbusy, .of_bytes inFleet_machines hm hl rfl hbytes⟩

/-- The answer of a cell command whose index and record pass. -/
theorem cellCommand_answers {c : Instr} {k : State → Nat × State} {n w0 : Nat} {rest : List Nat}
    (hc : exec c s = .next (s.xtabCommand who k)) (hn : n < 65536) (hl : rest.length < 16)
    (h : k s.xtabStarted = (0, ((s.xtabStarted.recordWrite (cellAddr n) w0 rest).journal 3).cellChanged s.xtabStarted n)) :
    ∃ t, exec c s = .next t ∧ t.zone.xtabResult = 0 ∧ RecordWritten s t 0x10440000 65536 n w0 rest := by
  obtain ⟨t, hx, hres, hbytes⟩ := exec_cellCommand ho hb hr hc (State.recordWrite_unpaired hr ..) h
  exact ⟨t, hx, hres, .of_bytes inFleet_cells hn hl rfl hbytes⟩

theorem writeMachine_completes (h0 : s.machIndexResult i.val = 0) (hok : machineRecordOk s.staged = true) :
    Completes (.writeMachine who i) s fun t => t.zone.xtabResult = 0 ∧ t.flag F.XTAB_CMD_STAT_BUSY = true ∧
      t.machWord (i.val % 256) 0 = s.staged.getD 0 0 % 65536 + nextVersion (s.machWord (i.val % 256) 0) * 65536 ∧
      (∀ w, 1 ≤ w → w < 8 → t.machWord (i.val % 256) w = s.staged.getD w 0) ∧
      (∀ w, 8 ≤ w → w < 16 → t.machWord (i.val % 256) w = s.machWord (i.val % 256) w) ∧
      ∀ n, n < 256 → n ≠ i.val % 256 → ∀ w, w < 16 → t.machWord n w = s.machWord n w := by
  have hdone := State.machineWrite_done (s := s.xtabStarted) (index := i.val) ((s.xtabStarted_machIndexResult _).trans h0)
    (by rwa [s.xtabStarted_staged])
  rw [s.xtabStarted_staged] at hdone
  have hlen : ((s.staged.drop 1).take 7).length = 7 := by simp [s.staged_length]
  obtain ⟨t, hx, hres, hbusy, hw⟩ := machineCommand_answers ho hb hr (exec_writeMachine who i s) (Nat.mod_lt _ (by decide)) (by omega) hdone
  refine ⟨t, hx, hres, hbusy, hw.first, fun w h1 h8 => ?_, fun w h8 h16 => hw.unwritten w (by omega) h16, hw.others⟩
  rw [State.machWord_eq, hw.given w h1 (by omega), List.getD_eq_getElem?_getD, List.getElem?_take_of_lt (by omega),
    ← List.getD_eq_getElem?_getD, getD_drop_one_pred h1]
  exact Nat.mod_eq_of_lt (s.staged_getD_lt w)

theorem invalidateMachine_completes (h0 : s.machIndexResult i.val = 0) :
    Completes (.invalidateMachine who i) s fun t => t.zone.xtabResult = 0 ∧ t.machValid (i.val % 256) = false ∧
      bitsOf (t.machWord (i.val % 256) 0) 31 16 = nextVersion (s.machWord (i.val % 256) 0) ∧
      (∀ w, 1 ≤ w → w < 8 → t.machWord (i.val % 256) w = s.machWord (i.val % 256) w) ∧
      (∀ w, 8 ≤ w → w < 16 → t.machWord (i.val % 256) w = 0) ∧
      ∀ n, n < 256 → n ≠ i.val % 256 → ∀ w, w < 16 → t.machWord n w = s.machWord n w := by
  have hlen : (s.xtabStarted.memWords (machAddr (i.val % 256) + 4) 7).length = 7 := State.memWords_length ..
  obtain ⟨t, hx, hres, -, hw⟩ := machineCommand_answers ho hb hr (exec_invalidateMachine who i s) (Nat.mod_lt _ (by decide))
    (by rw [List.length_append, hlen, List.length_replicate]; decide)
    (State.machineInvalidate_done ((s.xtabStarted_machIndexResult _).trans h0))
  have hword (w : Nat) : s.xtabStarted.machWord (i.val % 256) w = s.machWord (i.val % 256) w := (KeepsBytes.xtabStarted s).memWord _
  obtain ⟨hvalid, hversion⟩ := invalidated_word (v := s.xtabStarted.machWord (i.val % 256) 0)
    (nextVersion_lt (s.machWord (i.val % 256) 0))
  refine ⟨t, hx, hres, ?_, ?_, fun w h1 h8 => ?_, fun w h8 h16 => ?_, hw.others⟩
  · exact (congrArg (bitAt · 0) hw.first).trans hvalid
  · exact (congrArg (bitsOf · 31 16) hw.first).trans hversion
  · rw [State.machWord_eq, hw.given w h1 (by rw [List.length_append, hlen]; omega), List.getD_append _ _ _ _ (by omega),
      State.memWords_getD _ _ (by omega), Nat.mod_eq_of_lt (State.memWord_lt ..), ← hword w, State.machWord]
    exact congrArg s.xtabStarted.memWord (by omega)
  · rw [State.machWord_eq, hw.given w (by omega) (by rw [List.length_append, hlen, List.length_replicate]; omega),
      List.getD_append_right _ _ _ _ (by omega), List.getD_replicate _ (by omega)]
    rfl

theorem writeCell_completes (h0 : s.cellIndexResult i.val = 0)
    (hok : cellRecordOk s.member (s.getF F.XTAB_CELL_COUNT_COUNT) s.staged = true) :
    Completes (.writeCell who i) s fun t => t.zone.xtabResult = 0 ∧
      t.cellWord (i.val % 65536) 0 = s.staged.getD 0 0 % 65536 + nextVersion (s.cellWord (i.val % 65536) 0) * 65536 ∧
      (∀ w, 1 ≤ w → w < 16 → t.cellWord (i.val % 65536) w = s.staged.getD w 0) ∧
      ∀ n, n < 65536 → n ≠ i.val % 65536 → ∀ w, w < 16 → t.cellWord n w = s.cellWord n w := by
  have hdone := State.cellWrite_done (s := s.xtabStarted) (index := i.val) ((s.xtabStarted_cellIndexResult _).trans h0)
    (by rwa [s.xtabStarted_staged, s.xtabStarted_member, s.xtabStarted_cellCount])
  rw [s.xtabStarted_staged] at hdone
  have hlen : (s.staged.drop 1).length = 15 := by simp [s.staged_length]
  obtain ⟨t, hx, hres, hw⟩ := cellCommand_answers ho hb hr (exec_writeCell who i s) (Nat.mod_lt _ (by decide)) (by omega) hdone
  refine ⟨t, hx, hres, hw.first, fun w h1 h16 => ?_, hw.others⟩
  rw [State.cellWord_eq, hw.given w h1 (by omega), getD_drop_one_pred h1]
  exact Nat.mod_eq_of_lt (s.staged_getD_lt w)

theorem invalidateCell_completes (h0 : s.cellIndexResult i.val = 0) :
    Completes (.invalidateCell who i) s fun t => t.zone.xtabResult = 0 ∧ bitAt (t.cellWord (i.val % 65536) 0) 0 = false ∧
      bitsOf (t.cellWord (i.val % 65536) 0) 31 16 = nextVersion (s.cellWord (i.val % 65536) 0) ∧
      (∀ w, 1 ≤ w → w < 16 → t.cellWord (i.val % 65536) w = s.cellWord (i.val % 65536) w) ∧
      ∀ n, n < 65536 → n ≠ i.val % 65536 → ∀ w, w < 16 → t.cellWord n w = s.cellWord n w := by
  have hlen : (s.xtabStarted.memWords (cellAddr (i.val % 65536) + 4) 15).length = 15 := State.memWords_length ..
  obtain ⟨t, hx, hres, hw⟩ := cellCommand_answers ho hb hr (exec_invalidateCell who i s) (Nat.mod_lt _ (by decide)) (by omega)
    (State.cellInvalidate_done ((s.xtabStarted_cellIndexResult _).trans h0))
  have hword (w : Nat) : s.xtabStarted.cellWord (i.val % 65536) w = s.cellWord (i.val % 65536) w := (KeepsBytes.xtabStarted s).memWord _
  obtain ⟨hvalid, hversion⟩ := invalidated_word (v := s.xtabStarted.cellWord (i.val % 65536) 0)
    (nextVersion_lt (s.cellWord (i.val % 65536) 0))
  refine ⟨t, hx, hres, ?_, ?_, fun w h1 h16 => ?_, hw.others⟩
  · exact (congrArg (bitAt · 0) hw.first).trans hvalid
  · exact (congrArg (bitsOf · 31 16) hw.first).trans hversion
  · rw [State.cellWord_eq, hw.given w h1 (by omega), State.memWords_getD _ _ (by omega), Nat.mod_eq_of_lt (State.memWord_lt ..),
      ← hword w, State.cellWord]
    exact congrArg s.xtabStarted.memWord (by omega)

end

/-! ## Commands that fail -/

section
variable {s : State} {index : Nat}

theorem State.machineWrite_index (h : s.machIndexResult index ≠ 0) : s.machineWrite index = (s.machIndexResult index, s) := if_pos h

theorem State.machineInvalidate_index (h : s.machIndexResult index ≠ 0) : s.machineInvalidate index = (s.machIndexResult index, s) :=
  if_pos h

theorem State.cellWrite_index (h : s.cellIndexResult index ≠ 0) : s.cellWrite index = (s.cellIndexResult index, s) := if_pos h

theorem State.cellInvalidate_index (h : s.cellIndexResult index ≠ 0) : s.cellInvalidate index = (s.cellIndexResult index, s) := if_pos h

theorem State.machineWrite_record (h0 : s.machIndexResult index = 0) (h : machineRecordOk s.staged = false) :
    s.machineWrite index = (3, s) := by
  unfold State.machineWrite
  rw [h0, h]
  rfl

theorem State.cellWrite_record (h0 : s.cellIndexResult index = 0)
    (h : cellRecordOk s.member (s.getF F.XTAB_CELL_COUNT_COUNT) s.staged = false) : s.cellWrite index = (3, s) := by
  unfold State.cellWrite
  rw [h0, h]
  rfl

end

/-! ## A direct write (R181, R451) -/

theorem errSource_lt (who : Option Initiator) : (errSource who).1 < 16 ∧ (errSource who).2 < 16 := by
  rcases who with _ | (- | k | k | - | -)
  case some.ctl => exact ⟨show 0 < 16 by decide, Nat.lt_of_lt_of_le k.isLt (by decide)⟩
  case some.data => exact ⟨show 1 < 16 by decide, Nat.lt_of_lt_of_le k.isLt (by decide)⟩
  all_goals decide

/-- The first error of a page is recorded with its code and address, and raises ERR (R37). -/
theorem State.err_first {s : State} {p code addr : Nat} {who : Option Initiator} (hv : s.flag (F.PG_ERR_INFO_VALID p) = false)
    (hc : code < 256) : (s.err p code who addr).getF (F.PG_ERR_INFO_CODE p) = code ∧ (s.err p code who addr).event p 31 = true ∧
      (s.err p code who addr).reg (p * 0x1000 + 0x24) = BitVec.ofNat 32 addr := by
  obtain ⟨h1, h2⟩ := errSource_lt who
  unfold State.err
  rw [hv, if_neg Bool.false_ne_true]
  dsimp only
  refine ⟨?_, State.event_raise_same _ _ (by decide), ?_⟩
  · have hinfo := (State.reg_raise_other (s := (s.setReg (p * 0x1000 + 0x20) (BitVec.ofNat 32 (code % 256 * 0x1000000 +
      (errSource who).1 * 0x100000 + (errSource who).2 * 0x10000 + 0x100 + 1))).setReg (p * 0x1000 + 0x24) (BitVec.ofNat 32 addr))
      (p := p) (b := 31) (k := p * 0x1000 + 0x20) (by decide) (by omega)).trans
        ((State.reg_setReg_other (by omega)).trans State.reg_setReg_same)
    unfold State.getF F.PG_ERR_INFO_CODE bitsOf
    dsimp only
    rw [if_pos (by decide), hinfo, BitVec.toNat_ofNat]
    omega
  · exact (State.reg_raise_other (by decide) (by omega)).trans State.reg_setReg_same

theorem State.err_only (s : State) (p code : Nat) (who : Option Initiator) (addr : Nat) :
    s.err p code who addr = { s with regs := (s.err p code who addr).regs } :=
  (PostFrame.err s p code who addr).regs_only (by simp) (by simp) (by simp) (by simp)

/-- A write to a part of the fleet store is recorded in the page `p` that owns it, and changes no byte. -/
structure WriteRecorded (s t : State) (p addr : Nat) : Prop where
  only : t = { s with regs := t.regs }
  first : s.flag (F.PG_ERR_INFO_VALID p) = false → t.getF (F.PG_ERR_INFO_CODE p) = 0x07 ∧ t.event p 31 = true ∧
    t.reg (p * 0x1000 + 0x24) = BitVec.ofNat 32 addr

theorem WriteRecorded.err (s : State) (p addr : Nat) (who : Initiator) : WriteRecorded s (s.err p 0x07 (some who) addr) p addr :=
  ⟨s.err_only .., fun hv => State.err_first hv (by decide)⟩

/-- XTAB_PROT_ERR counts it. -/
theorem WriteRecorded.counted {s t : State} {p addr : Nat} (h : WriteRecorded s t p addr) :
    WriteRecorded s (t.bump F.XTAB_PROT_ERR_COUNT) p addr where
  only := Eq.trans (PostFrame.bump t F.XTAB_PROT_ERR_COUNT |>.regs_only (by simp) (by simp) (by simp) (by simp)) (by rw [h.only])
  first hv := by
    have hreg {k : Nat} (hk : k ≠ 0x8105C) : (t.bump F.XTAB_PROT_ERR_COUNT).reg k = t.reg k :=
      State.reg_setF_other (f := F.XTAB_PROT_ERR_COUNT) (by decide) hk
    obtain ⟨hcode, hevent, haddr⟩ := h.first hv
    refine ⟨Eq.trans ?_ hcode, (State.event_of_reg_eq (hreg (by omega))).trans hevent, (hreg (by omega)).trans haddr⟩
    exact State.getF_of_reg_eq (f := F.PG_ERR_INFO_CODE p) (show 31 < 32 by decide) (hreg (by simp only [F.PG_ERR_INFO_CODE]; omega))

theorem State.storeRefused_records {s : State} {who : Initiator} {addr p : Nat} (h0 : 0x10000000 ≤ addr) (h1 : addr < 0x12000000)
    (hp : fleetOwner (addr - 0x10000000) = p) : WriteRecorded s (s.storeRefused who addr) p addr := by
  subst hp
  unfold State.storeRefused
  rw [State.region_fleet h0 h1]
  dsimp only
  split
  · exact (WriteRecorded.err ..).counted
  · exact .err ..

theorem exec_tableDirectWrite {who : Initiator} {addr : Nat} {s : State} (h0 : 0x10000000 ≤ addr) (h1 : addr < 0x12000000)
    (hr : s.rst.held = false) : exec (.tableDirectWrite who addr) s = .next ((s.storeRefused who addr).respond 0 false) := by
  have hx : exec (.tableDirectWrite who addr) s =
      .next (if s.rst.held then s.respond 0 true else if s.region addr == .fleet then s.directWrite who addr else s) := rfl
  rw [hx, hr, State.region_fleet h0 h1]
  rfl

theorem fleetOwner_eq {addr : Nat} (h0 : 0x10000000 ≤ addr) : fleetOwner (addr - 0x10000000) =
    if addr < 0x10440000 then 0x080 else if addr < 0x10900000 then 0x081 else 0x091 := by
  unfold fleetOwner
  split
  · rw [if_pos (by omega)]
  · split
    · rw [if_neg (by omega), if_pos (by omega)]
    · rw [if_neg (by omega), if_neg (by omega)]

theorem tableDirectWrite_completes {who : Initiator} {addr p : Nat} {s : State} (h0 : 0x10000000 ≤ addr) (h1 : addr < 0x12000000)
    (hr : s.rst.held = false) (hp : fleetOwner (addr - 0x10000000) = p) :
    Completes (.tableDirectWrite who addr) s fun t => t.mem = s.mem ∧ t.bus = ⟨0, false⟩ ∧
      t = { s with regs := t.regs, bus := ⟨0, false⟩ } ∧
      (s.flag (F.PG_ERR_INFO_VALID p) = false → t.getF (F.PG_ERR_INFO_CODE p) = 0x07 ∧ t.event p 31 = true ∧
        t.reg (p * 0x1000 + 0x24) = BitVec.ofNat 32 addr) := by
  have hx := exec_tableDirectWrite (who := who) h0 h1 hr
  obtain ⟨honly, hfirst⟩ := State.storeRefused_records (s := s) (who := who) h0 h1 hp
  generalize s.storeRefused who addr = t at hx honly hfirst
  exact ⟨_, hx, (congrArg State.mem honly :), rfl, (congrArg (State.respond · 0 false) honly :), hfirst⟩

/-- Settles O26: a table command's checks decide its RESULT, and what passes them writes one record with the next VERSION; a direct write is
only recorded. -/
theorem tableCommands : Obligations.TableCommands := by
  refine ⟨?fails, ?machine, ?cell, ?direct⟩
  case fails =>
    refine fun who i s ho => ⟨fun hb c hc => ?_, fun hb ha => ?_⟩
    · have hrefused (k : State → Nat × State) := congrArg (Host.Outcome.next (φ := Fault) (ρ := Refusal))
        (State.xtabCommand_refused (k := k) ho hb)
      simp only [List.mem_cons, List.not_mem_nil, or_false] at hc
      rcases hc with rfl | rfl | rfl | rfl
      all_goals exact hrefused _
    · have hfails {c : Instr} {k : State → Nat × State} {r : Nat} (hc : exec c s = .next (s.xtabCommand who k))
          (h : k s.xtabStarted = (r, s.xtabStarted)) := (exec_tableCommand hc ho hb ha h).trans (congrArg _ (s.xtabStarted_answer r))
      have hmach := s.xtabStarted_machIndexResult i.val
      have hcell := s.xtabStarted_cellIndexResult i.val
      refine ⟨fun h => ⟨hfails (exec_writeMachine ..) ?_, hfails (exec_invalidateMachine ..) ?_⟩,
        fun h => ⟨hfails (exec_writeCell ..) ?_, hfails (exec_invalidateCell ..) ?_⟩,
        fun h h3 => hfails (exec_writeMachine ..) ?_, fun h h3 => hfails (exec_writeCell ..) ?_⟩
      · exact hmach ▸ State.machineWrite_index (hmach ▸ h)
      · exact hmach ▸ State.machineInvalidate_index (hmach ▸ h)
      · exact hcell ▸ State.cellWrite_index (hcell ▸ h)
      · exact hcell ▸ State.cellInvalidate_index (hcell ▸ h)
      · exact State.machineWrite_record (hmach.trans h) (by rwa [s.xtabStarted_staged])
      · exact State.cellWrite_record (hcell.trans h) (by rwa [s.xtabStarted_staged, s.xtabStarted_member, s.xtabStarted_cellCount])
  case machine =>
    exact fun who i s ho hb hr => fun h0 => ⟨writeMachine_completes ho hb hr h0, invalidateMachine_completes ho hb hr h0⟩
  case cell =>
    exact fun who i s ho hb hr => fun h0 => ⟨writeCell_completes ho hb hr h0, invalidateCell_completes ho hb hr h0⟩
  case direct => exact fun who addr s h0 h1 hr => tableDirectWrite_completes h0 h1 hr (fleetOwner_eq h0)

end Sys2Proof.Machine
end

section
/-! CLEAR and the machines' zone states (R177, R190, R395), and the statement on LOAD, REFILTER and CLEAR. -/

namespace Sys2Proof.Machine

theorem State.zoneEmpty_frame (s : State) : ∃ t : State, TableFrame s t ∧ s.zoneEmpty = t.setF F.ZONE_STAT_USED 0 :=
  ⟨_, (TableFrame.tableClear s 0x10000000 0x400000).trans (.tableClear _ 0x10400000 0x40000), rfl⟩

theorem State.zoneEmpty_reg (s : State) {k : Nat} (h : 0x10000 ≤ k) (hk : k ≠ 0x80044) : s.zoneEmpty.reg k = s.reg k := by
  obtain ⟨t, ht, heq⟩ := s.zoneEmpty_frame
  rw [heq, State.reg_setF_other (by decide) hk]
  exact ht.reg k h

theorem State.zoneEmpty_mstate (s : State) : s.zoneEmpty.zone.mstate = s.zone.mstate := by
  obtain ⟨t, ht, heq⟩ := s.zoneEmpty_frame
  rw [heq, State.setF_zone, ht.zone]

theorem State.copyAfter_of_unpaired {s : State} (h : s.pairActive = false) : s.copyAfter = s :=
  if_neg (by rw [h]; exact Bool.false_ne_true)

theorem State.zoneForget_copyAfter {s : State} (h : s.pairActive = false) : s.zoneForget.copyAfter = s.zoneForget :=
  State.copyAfter_of_unpaired (s := s.zoneForget) h

theorem State.zoneForget_mstate (s : State) (r : Nat) : (s.zoneForget.zoneAnswer r).zone.mstate =
    Assoc.mapVals (fun _ => {}) (fun _ z => { epoch := z.epoch }) s.zone.mstate := rfl

theorem exec_zoneClear (who : Initiator) (s : State) :
    exec (.zoneClear who) s = .next (s.zoneCommand who fun s => (0, s.zoneEmpty.zoneForget.copyAfter)) := rfl

/-- CLEAR on a unit that belongs to no pair: what it makes of the table of zone states. -/
theorem exec_zoneClear_mstate {who : Initiator} {s : State} (ho : s.opens who 0x80090 true = true)
    (hb : s.flag F.ZONE_CMD_STAT_BUSY = false) (hr : s.role = 0) : ∃ t, exec (.zoneClear who) s = .next t ∧
      t.zone.mstate = Assoc.mapVals (fun _ => {}) (fun _ z => { epoch := z.epoch }) s.zone.mstate := by
  have hunpaired : s.zoneStarted.zoneEmpty.pairActive = false :=
    State.pairActive_of_unpaired hr ((State.zoneEmpty_reg _ (by decide) (by decide)).trans (s.zoneStarted_reg (by decide)))
  refine ⟨s.zoneStarted.zoneEmpty.zoneForget.zoneAnswer 0, ?_, ?_⟩
  · rw [exec_zoneClear, State.zoneCommand_taken ho hb (State.notActive_of_unpaired hr), State.zoneForget_copyAfter hunpaired]
  · rw [State.zoneForget_mstate, State.zoneEmpty_mstate, s.zoneStarted_zone]

/-- The block after reset, but for a table that lists machine 0 twice: the first entry counts, and CLEAR makes it one that is not listed. -/
def machineListedTwice : State := { State.reset with zone := { mstate := [(0, { known := true }), (0, { epoch := 1 })] } }

/-- Refutes O25: the statement holds CLEAR to the epochs of every state, also of one whose table of zone states lists a machine twice. There
CLEAR takes the first entry, of epoch 0, out as the default one, and the second entry, of epoch 1, comes to count. -/
theorem not_zoneLoadAndCompletion : ¬ Obligations.ZoneLoadAndCompletion := by
  rintro ⟨-, -, hclear, -⟩
  have ho : machineListedTwice.opens (.ctl 0) 0x80090 true = true := by decide
  have hb : machineListedTwice.flag F.ZONE_CMD_STAT_BUSY = false := by decide
  have hr : machineListedTwice.role = 0 := by decide
  obtain ⟨-, t, hx, -, -, -, -, -, hstates, -⟩ := hclear (.ctl 0) machineListedTwice ho hb hr
  obtain ⟨u, hx', hmstate⟩ := exec_zoneClear_mstate ho hb hr
  obtain rfl : t = u := Host.Outcome.next.inj (hx.symm.trans hx')
  have hepoch := (hstates 0).2
  unfold State.zoneState at hepoch
  rw [hmstate] at hepoch
  revert hepoch
  decide

end Sys2Proof.Machine
end

section
/-! The shadow engine's comparison of a block: what each step of it leaves, and what a repair makes of memory (R187, R189). -/

namespace Sys2Proof.Machine

/-! ## What the engine's steps keep -/

/-- From `s` to `t` no event of the shadow engine falls, and the mismatches counted since reset stay. -/
structure KeepsReports (s t : State) : Prop where
  event : ∀ b, s.event 0x082 b = true → t.event 0x082 b = true
  mismatches : t.zone.mismatches = s.zone.mismatches

/-- From `s` to `t` only registers, the logs and the site map's records change. -/
def LogFrame (s t : State) : Prop := t = { s with regs := t.regs, fifos := t.fifos, zone := t.zone }

namespace KeepsReports

theorem refl (s : State) : KeepsReports s s := ⟨fun _ h => h, rfl⟩

theorem trans {s t u : State} (h : KeepsReports s t) (k : KeepsReports t u) : KeepsReports s u where
  event b hb := k.event b (h.event b hb)
  mismatches := k.mismatches.trans h.mismatches

theorem of_client {s t : State} (h : ClientFrame s t) : KeepsReports s t where
  event _ hb := (State.event_of_reg_eq (h.reg _ (by decide))).trans hb
  mismatches := by rw [h.frame]

theorem withZone (s : State) {z : ZoneSt} (h : z.mismatches = s.zone.mismatches) : KeepsReports s { s with zone := z } := ⟨fun _ hb => hb, h⟩

/-- A field of another register than PG_IRQ_RAW. -/
theorem setF (s : State) {f : Fld} (v : Nat) (hf : f.hi < 32) (hk : f.key ≠ 0x82010) : KeepsReports s (s.setF f v) where
  event _ hb := (State.event_of_reg_eq (State.reg_setF_other hf hk.symm)).trans hb
  mismatches := by rw [State.setF_zone]

theorem raise (s : State) {b : Nat} (hb : b < 32) : KeepsReports s (s.raise 0x082 b) where
  event _ h := State.event_raise hb h
  mismatches := congrArg ZoneSt.mismatches (State.setF_zone ..)

theorem shadowLog (s : State) (region block outcome : Nat) : KeepsReports s (s.shadowLog region block outcome) := by
  unfold State.shadowLog State.pushFifo
  split
  · exact ⟨fun _ h => h, rfl⟩
  · exact refl s

theorem shadowNext (s : State) : KeepsReports s s.shadowNext := by
  unfold State.shadowNext
  dsimp only
  split
  · exact withZone s rfl
  · refine (withZone s (z := { s.zone with region := (s.nextRegion s.zone.region 5).1, block := 0, discards := 0 }) rfl).trans ?_
    split
    · exact (setF _ _ (by decide) (by decide)).trans (raise _ (by decide))
    · exact refl _

theorem repairGen (s : State) : KeepsReports s s.repairGen :=
  (setF s (f := F.ZONE_MOVE_GEN_GEN) _ (by decide) (by decide)).trans (withZone s.moveGen (by rw [State.moveGen, State.setF_zone]))

theorem shadowRepair (s : State) (region a size n : Nat) (l : List Byte) : KeepsReports s (s.shadowRepair region a size n l) := by
  induction n generalizing s a l with
  | zero => exact refl s
  | succ n ih =>
    unfold State.shadowRepair
    dsimp only
    refine KeepsReports.trans ?_ (ih ..)
    split
    · exact refl s
    · refine KeepsReports.trans (t := if region = 0 then s.repairGen else s) ?_ (of_client (.physWrite ..))
      split
      · exact repairGen s
      · exact refl s

end KeepsReports

namespace LogFrame

theorem refl (s : State) : LogFrame s s := rfl

theorem trans {s t u : State} (h : LogFrame s t) (k : LogFrame t u) : LogFrame s u := Eq.trans k (by rw [h])

theorem mem {s t : State} (h : LogFrame s t) : t.mem = s.mem := by rw [h]

theorem withZone (s : State) (z : ZoneSt) : LogFrame s { s with zone := z } := rfl

theorem setF (s : State) (f : Fld) (v : Nat) : LogFrame s (s.setF f v) := by
  unfold LogFrame
  rw [State.setF_fifos, State.setF_zone]
  exact s.setF_only f v

theorem raise (s : State) (p b : Nat) : LogFrame s (s.raise p b) := setF ..

theorem bump (s : State) (f : Fld) : LogFrame s (s.bump f) := setF ..

theorem mismatch (s : State) : LogFrame s s.mismatch := (bump s F.SHADOW_MISMATCH_COUNT).trans (withZone ..)

theorem shadowLog (s : State) (region block outcome : Nat) : LogFrame s (s.shadowLog region block outcome) := by
  unfold State.shadowLog State.pushFifo
  split
  · rfl
  · exact refl s

theorem shadowNext (s : State) : LogFrame s s.shadowNext := by
  unfold State.shadowNext
  dsimp only
  split
  · exact withZone ..
  · refine (withZone s { s.zone with region := (s.nextRegion s.zone.region 5).1, block := 0, discards := 0 }).trans ?_
    split
    · exact (setF ..).trans (raise ..)
    · exact refl _

end LogFrame

theorem State.shadowNext_discards (s : State) : s.shadowNext.zone.discards = 0 := by
  unfold State.shadowNext
  dsimp only
  split
  · rfl
  · split
    · rw [State.raise, State.setF_zone, State.setF_zone]
    · rfl

theorem State.shadowNext_reg (s : State) {k : Nat} (h : k ≠ 0x82050) (h' : k ≠ 0x82010) : s.shadowNext.reg k = s.reg k := by
  unfold State.shadowNext
  dsimp only
  split
  · rfl
  · split
    · exact (State.reg_raise_other (by decide) h').trans (State.reg_setF_other (f := F.SHADOW_STAT_PASSES) (by decide) h)
    · rfl

theorem State.shadowNext_within {s : State} (h : s.zone.block + 1 < (shadowRegion s.zone.region).2) :
    s.shadowNext = { s with zone := { s.zone with block := s.zone.block + 1, discards := 0 } } := if_pos h

/-- A difference counts as a mismatch and raises event 0. -/
theorem State.mismatch_reports (s : State) : (s.mismatch.raise 0x082 0).event 0x082 0 = true ∧
    (s.mismatch.raise 0x082 0).zone.mismatches = s.zone.mismatches + 1 :=
  ⟨State.event_raise_same _ _ (by decide), congrArg ZoneSt.mismatches (State.setF_zone ..)⟩

theorem State.mismatch_flag (s : State) {f : Fld} (hf : f.hi < 32) (h0 : f.key ≠ 0x82054) (h1 : f.key ≠ 0x82010) :
    (s.mismatch.raise 0x082 0).flag f = s.flag f :=
  State.flag_of_reg_eq hf ((State.reg_raise_other (by decide) h1).trans (State.reg_setF_other (f := F.SHADOW_MISMATCH_COUNT) (by decide) h0))

/-! ## Blocks of memory -/

theorem State.memBytes_append (s : State) (a m n : Nat) : s.memBytes a (m + n) = s.memBytes a m ++ s.memBytes (a + m) n := by
  induction m generalizing a with
  | zero => rw [Nat.zero_add]; rfl
  | succ m ih =>
    rw [Nat.succ_add, State.memBytes, State.memBytes, ih, List.cons_append, Nat.add_assoc, Nat.add_comm 1 m]

theorem State.memBytes_congr {s t : State} {a n : Nat} (h : ∀ x, a ≤ x → x < a + n → t.memByte x = s.memByte x) :
    t.memBytes a n = s.memBytes a n := by
  induction n generalizing a with
  | zero => rfl
  | succ n ih =>
    unfold State.memBytes
    rw [h a (by omega) (by omega), ih fun x h0 h1 => h x (by omega) (by omega)]

/-- The bytes stored read back. -/
theorem State.memBytes_storeBytes_same (s : State) (a : Nat) (l : List Byte) : (s.storeBytes a l).memBytes a l.length = l := by
  induction l generalizing s a with
  | nil => rfl
  | cons b bs ih =>
    unfold State.storeBytes
    rw [List.length_cons, State.memBytes, ih, State.memByte_storeBytes_other (.inl (by omega)), State.memByte_setMemByte_same]

theorem State.badWords_sub {s : State} {a n b m : Nat} (h : s.badWords a n = []) (h0 : a ≤ b) (h1 : b + m ≤ a + n) : s.badWords b m = [] := by
  unfold State.badWords at h ⊢
  rw [List.filter_eq_nil_iff] at h ⊢
  intro e he
  have hout := h e he
  simp only [Bool.and_eq_true, decide_eq_true_eq] at hout ⊢
  omega

/-- A physical write that meets no bad word stores its bytes. -/
theorem State.physWrite_of_noBadWords {s : State} {a : Nat} {l : List Byte} (h : s.badWords a l.length = []) :
    s.physWrite a l = s.storeBytes a l := by
  unfold State.physWrite
  dsimp only
  rw [h]
  simp

theorem State.eccRead_of_noBadWords {s : State} {a n : Nat} (m : Option Nat) (h : s.badWords a n = []) : s.eccRead a n m = (false, s) := by
  unfold State.eccRead
  rw [h]
  rfl

/-- A client's read that meets no fault gives as many bytes as it asks for. -/
theorem State.clientReadPages_length {s : State} {client index p va n : Nat} (hp : n ≤ p * 0x1000 - va % 0x1000)
    (hf : (s.clientReadPages client index p va n).1.fault = none) : (s.clientReadPages client index p va n).1.data.length = n := by
  induction p generalizing s va n with
  | zero =>
    obtain rfl : n = 0 := by omega
    rfl
  | succ p ih =>
    unfold State.clientReadPages at hf ⊢
    by_cases hn : n = 0
    · subst hn
      rfl
    · rw [if_neg hn] at hf ⊢
      dsimp only at hf ⊢
      split at hf
      · exact absurd hf (by simp)
      · next heq =>
        dsimp only at hf ⊢
        rw [List.length_append, State.physBytes_length, ih ?_ hf]
        · omega
        · omega

theorem State.clientRead_length {s : State} {client index va n : Nat} (hf : (s.clientRead client index va n).1.fault = none) :
    (s.clientRead client index va n).1.data.length = n := State.clientReadPages_length (by omega) hf

/-! ## Repairs (R189) -/

theorem State.repairGen_mem (s : State) : s.repairGen.mem = s.mem := State.setF_mem ..

/-- The state after the entry at `a` has been compared with `e`, and copied where it differs or holds an uncorrectable word. -/
def State.entryRepaired (s : State) (region a : Nat) (e : List Byte) : State :=
  if !((s.badWords a e.length).any fun x => x.2 == .uncorrectable) && s.memBytes a e.length == e then s
  else (if region = 0 then s.repairGen else s).physWrite a e

theorem State.shadowRepair_succ {s : State} {region a size n : Nat} {l : List Byte} (hl : (l.take size).length = size) :
    s.shadowRepair region a size (n + 1) l =
      (s.entryRepaired region a (l.take size)).shadowRepair region (a + size) size n (l.drop size) := by
  unfold State.entryRepaired
  rw [hl]
  rfl

/-- An entry without bad words, once repaired, equals its shadow; the rest of memory and the bad words stay. -/
theorem State.entryRepaired_bytes {s : State} {region a : Nat} {e : List Byte} (hb : s.badWords a e.length = []) :
    (s.entryRepaired region a e).memBytes a e.length = e ∧
      (∀ x, x < a ∨ a + e.length ≤ x → (s.entryRepaired region a e).memByte x = s.memByte x) ∧
      (s.entryRepaired region a e).mem.ecc = s.mem.ecc := by
  unfold State.entryRepaired
  split
  · next heq => exact ⟨eq_of_beq (Bool.and_eq_true .. ▸ heq).2, fun _ _ => rfl, rfl⟩
  · have hgen : (if region = 0 then s.repairGen else s).mem = s.mem := by
      split
      · exact s.repairGen_mem
      · rfl
    generalize (if region = 0 then s.repairGen else s) = g at hgen
    have hclean : g.badWords a e.length = [] := by
      unfold State.badWords at hb ⊢
      rwa [hgen]
    rw [State.physWrite_of_noBadWords hclean]
    refine ⟨g.memBytes_storeBytes_same a e, fun x hx => ?_, ?_⟩
    · exact (State.memByte_storeBytes_other hx).trans (KeepsBytes.memByte (congrArg MemSt.bytes hgen) x)
    · rw [State.storeBytes_only, ← hgen]

/-- Where a block holds no bad word, its repair makes it equal to the shadow, and leaves the rest of memory. -/
theorem State.shadowRepair_bytes {s : State} {region a size n : Nat} {l : List Byte} (hb : s.badWords a (n * size) = [])
    (hl : l.length = n * size) : (s.shadowRepair region a size n l).memBytes a (n * size) = l ∧
      ∀ x, x < a ∨ a + n * size ≤ x → (s.shadowRepair region a size n l).memByte x = s.memByte x := by
  induction n generalizing s a l with
  | zero =>
    rw [Nat.zero_mul] at hl ⊢
    exact ⟨(List.eq_nil_of_length_eq_zero hl).symm, fun _ _ => rfl⟩
  | succ n ih =>
    have hmul : (n + 1) * size = size + n * size := by rw [Nat.succ_mul, Nat.add_comm]
    rw [hmul] at hb hl ⊢
    have htake : (l.take size).length = size := by rw [List.length_take]; omega
    have hdrop : (l.drop size).length = n * size := by rw [List.length_drop]; omega
    obtain ⟨hsame, hother, hecc⟩ := State.entryRepaired_bytes (s := s) (region := region) (e := l.take size)
      (State.badWords_sub hb (Nat.le_refl a) (by omega))
    rw [htake] at hsame hother
    rw [State.shadowRepair_succ htake]
    generalize s.entryRepaired region a (l.take size) = y at hsame hother hecc
    have hclean : y.badWords (a + size) (n * size) = [] := by
      have hsub := State.badWords_sub (b := a + size) (m := n * size) hb (by omega) (by omega)
      unfold State.badWords at hsub ⊢
      rwa [hecc]
    obtain ⟨hrest, hout⟩ := ih hclean hdrop
    refine ⟨?_, fun x hx => (hout x (by omega)).trans (hother x (by omega))⟩
    rw [State.memBytes_append, hrest, State.memBytes_congr fun x _ _ => hout x (.inl (by omega)), hsame, List.take_append_drop]

end Sys2Proof.Machine
end

section
/-! The shadow engine's rows and the statement on them (R187, R189, R192). -/

namespace Sys2Proof.Machine

/-! ## One block -/

/-- The block compared differs: the state after its repair. -/
def State.blockRepaired (s : State) (region block a : Nat) (l : List Byte) : State :=
  ((((s.mismatch.raise 0x082 0).shadowRepair region a (shadowEntry region) (0x1000 / shadowEntry region) l).shadowLog region block 1).bump
    F.SHADOW_REPAIRED_COUNT).raise 0x082 1

theorem shadowEntry_mul (region : Nat) : 0x1000 / shadowEntry region * shadowEntry region = 0x1000 := by
  unfold shadowEntry
  split <;> rfl

section
variable {s t : State} {region block a : Nat} {d : ClientData}
  (hread : s.clientRead 0x0B 0 (s.getF F.SHADOW_BASE_BASE * 0x1000 + ((shadowRegion region).1 + 0x1000 * block)) 0x1000 = (d, t))
include hread

theorem State.shadowBlock_fault (hf : d.fault ≠ none) : s.shadowBlock region block = (true, t.dtuPause 0x0B 0) := by
  obtain ⟨c, hc⟩ := Option.ne_none_iff_exists'.1 hf
  unfold State.shadowBlock
  dsimp only
  rw [hread, hc]

variable (ha : 0x10000000 + ((shadowRegion region).1 + 0x1000 * block) = a) (hf : d.fault = none) (hbad : d.bad = false)
  (hclean : t.badWords a 0x1000 = [])
include ha hf hbad hclean

/-- A comparison that meets no fault and no bad word turns on the bytes alone. -/
theorem State.shadowBlock_compared : s.shadowBlock region block = (false,
    if t.memBytes a 0x1000 == d.data then t
    else if !t.flag F.SHADOW_CTRL_REPAIR then (t.mismatch.raise 0x082 0).shadowLog region block 2
    else t.blockRepaired region block a d.data) := by
  unfold State.shadowBlock
  dsimp only
  rw [hread, hf, ha]
  dsimp only
  rw [hbad, State.eccRead_of_noBadWords none hclean]
  dsimp only
  rw [Bool.not_false, Bool.true_and, t.mismatch_flag (f := F.SHADOW_CTRL_REPAIR) (by decide) (by decide) (by decide)]
  rfl

theorem State.shadowBlock_equal (h : t.memBytes a 0x1000 = d.data) : s.shadowBlock region block = (false, t) := by
  rw [State.shadowBlock_compared hread ha hf hbad hclean, if_pos (beq_iff_eq.2 h)]

theorem State.shadowBlock_reported (h : t.memBytes a 0x1000 ≠ d.data) (hr : t.flag F.SHADOW_CTRL_REPAIR = false) :
    s.shadowBlock region block = (false, (t.mismatch.raise 0x082 0).shadowLog region block 2) := by
  rw [State.shadowBlock_compared hread ha hf hbad hclean, if_neg (mt beq_iff_eq.1 h), hr]
  rfl

theorem State.shadowBlock_repaired (h : t.memBytes a 0x1000 ≠ d.data) (hr : t.flag F.SHADOW_CTRL_REPAIR = true) :
    s.shadowBlock region block = (false, t.blockRepaired region block a d.data) := by
  rw [State.shadowBlock_compared hread ha hf hbad hclean, if_neg (mt beq_iff_eq.1 h), hr]
  rfl

end

theorem State.blockRepaired_reports (s : State) (region block a : Nat) (l : List Byte) :
    (s.blockRepaired region block a l).event 0x082 0 = true ∧ (s.blockRepaired region block a l).event 0x082 1 = true ∧
      (s.blockRepaired region block a l).zone.mismatches = s.zone.mismatches + 1 := by
  obtain ⟨hevent, hcount⟩ := s.mismatch_reports
  have hkeeps : KeepsReports (s.mismatch.raise 0x082 0) (s.blockRepaired region block a l) :=
    (((KeepsReports.shadowRepair ..).trans (.shadowLog ..)).trans
      (.setF (f := F.SHADOW_REPAIRED_COUNT) _ _ (by decide) (by decide))).trans (.raise _ (by decide))
  exact ⟨hkeeps.event 0 hevent, State.event_raise_same _ _ (by decide), hkeeps.mismatches.trans hcount⟩

theorem State.blockRepaired_bytes {s : State} {region block a : Nat} {l : List Byte} (hb : s.badWords a 0x1000 = [])
    (hl : l.length = 0x1000) : (s.blockRepaired region block a l).memBytes a 0x1000 = l ∧
      ∀ x, x < a ∨ a + 0x1000 ≤ x → (s.blockRepaired region block a l).memByte x = s.memByte x := by
  have hcounted : (s.mismatch.raise 0x082 0).mem = s.mem := ((LogFrame.mismatch s).trans (.raise ..)).mem
  have hb' : (s.mismatch.raise 0x082 0).badWords a 0x1000 = [] := by
    unfold State.badWords at hb ⊢
    rwa [hcounted]
  have hrepair := State.shadowRepair_bytes (s := s.mismatch.raise 0x082 0) (region := region) (a := a) (size := shadowEntry region)
    (n := 0x1000 / shadowEntry region) (l := l)
  rw [shadowEntry_mul] at hrepair
  obtain ⟨hsame, hother⟩ := hrepair hb' hl
  have hlogged (y : State) : KeepsBytes y (((y.shadowLog region block 1).bump F.SHADOW_REPAIRED_COUNT).raise 0x082 1) :=
    congrArg MemSt.bytes (((LogFrame.shadowLog ..).trans (.bump ..)).trans (.raise ..)).mem
  unfold State.blockRepaired
  refine ⟨(State.memBytes_congr fun x _ _ => (hlogged _).memByte x).trans hsame, fun x hx => ?_⟩
  exact ((hlogged _).memByte x).trans ((hother x hx).trans (KeepsBytes.memByte (congrArg MemSt.bytes hcounted) x))

/-! ## The block in hand -/

/-- The engine's next comparison is of this block: one to be checked after a table error, or else the one that the pass has come to. -/
def State.compares (s : State) (region block : Nat) : Prop :=
  s.zone.check = some (region, block) ∨ (s.zone.check = none ∧ s.flag F.SHADOW_CTRL_EN = true ∧
    bitAt (s.getF F.SHADOW_CTRL_REGION_EN) s.zone.region = true ∧ region = s.zone.region ∧ block = s.zone.block)

section
variable {s t : State} {region block : Nat}

theorem State.shadowCompare_paused (h : s.dtuIsPaused 0x0B 0 = true) (raced : Bool) : s.shadowCompare raced = s := if_pos h

variable (hp : s.dtuIsPaused 0x0B 0 = false)
include hp

theorem State.shadowCompare_check {x : Nat × Nat} (hc : s.zone.check = some x) (raced : Bool) :
    s.shadowCompare raced = s.shadowCheck x.1 x.2 := by
  unfold State.shadowCompare
  rw [hp, hc]
  rfl

theorem State.shadowCompare_disabled (hc : s.zone.check = none) (he : s.flag F.SHADOW_CTRL_EN = false) (raced : Bool) :
    s.shadowCompare raced = s := by
  unfold State.shadowCompare
  rw [hp, hc, he]
  rfl

/-- A write has raced the comparison of a pass: a third one in a row skips the block. -/
theorem State.shadowCompare_raced (hc : s.zone.check = none) (he : s.flag F.SHADOW_CTRL_EN = true)
    (hr : bitAt (s.getF F.SHADOW_CTRL_REGION_EN) s.zone.region = true) : s.shadowCompare true =
      if 2 ≤ s.zone.discards then s.shadowSkip else { s with zone := { s.zone with discards := s.zone.discards + 1 } } := by
  unfold State.shadowCompare
  rw [hp, hc, he, hr]
  rfl

/-- A pass goes on after the block it has come to, but for a fault. -/
theorem State.shadowCompare_pass {paused : Bool} (hc : s.zone.check = none) (he : s.flag F.SHADOW_CTRL_EN = true)
    (hr : bitAt (s.getF F.SHADOW_CTRL_REGION_EN) s.zone.region = true) (h : s.shadowBlock s.zone.region s.zone.block = (paused, t)) :
    s.shadowCompare false = if paused then t else t.shadowNext := by
  unfold State.shadowCompare
  rw [hp, hc, he, hr, h]
  cases paused <;> rfl

theorem State.shadowCheck_of_fault (h : s.shadowBlock region block = (true, t)) :
    s.shadowCheck region block = { t with zone := { t.zone with check := some (region, block) } } := by
  unfold State.shadowCheck
  dsimp only
  rw [hp, h]
  rfl

theorem State.shadowCheck_of_block (h : s.shadowBlock region block = (false, t)) :
    s.shadowCheck region block = { t with zone := { t.zone with check := none } } := by
  unfold State.shadowCheck
  dsimp only
  rw [hp, h]
  rfl

theorem State.shadowCompare_of_fault (hm : s.compares region block) (h : s.shadowBlock region block = (true, t)) (hz : t.zone = s.zone) :
    s.shadowCompare false = t := by
  rcases hm with hc | ⟨hc, he, hr, rfl, rfl⟩
  · rw [State.shadowCompare_check hp hc, State.shadowCheck_of_fault hp h, ← hc, ← hz]
  · exact State.shadowCompare_pass hp hc he hr h

/-- After a comparison the engine goes on, which changes no memory and takes no report back. -/
theorem State.shadowCompare_of_block (hm : s.compares region block) (h : s.shadowBlock region block = (false, t)) :
    LogFrame t (s.shadowCompare false) ∧ KeepsReports t (s.shadowCompare false) := by
  rcases hm with hc | ⟨hc, he, hr, rfl, rfl⟩
  · rw [State.shadowCompare_check hp hc, State.shadowCheck_of_block hp h]
    exact ⟨.withZone .., .withZone _ rfl⟩
  · rw [State.shadowCompare_pass hp hc he hr h]
    exact ⟨.shadowNext t, .shadowNext t⟩

end

/-! ## The rows -/

theorem exec_shadowBlockCompare (raced : Bool) (s : State) :
    exec (.shadowBlockCompare raced) s = s.live 0x082 (.next (s.shadowCompare raced)) := rfl

theorem exec_shadowBlockCompare_powered {s : State} (h : s.pagePowered 0x082 = true) (raced : Bool) :
    exec (.shadowBlockCompare raced) s = .next (s.shadowCompare raced) := State.live_of_powered h

theorem exec_shadowBlockCompare_idle {s : State} {raced : Bool} (h : s.shadowCompare raced = s) :
    exec (.shadowBlockCompare raced) s = .next s := by
  rw [exec_shadowBlockCompare, h]
  exact ite_self _

/-- A block skipped is counted, with event 4 (R189). -/
theorem State.shadowSkip_reports {s : State} (h : s.getF F.SHADOW_SKIPPED_COUNT + 1 < 2 ^ 32) :
    s.shadowSkip.getF F.SHADOW_SKIPPED_COUNT = s.getF F.SHADOW_SKIPPED_COUNT + 1 ∧ s.shadowSkip.event 0x082 4 = true ∧
      s.shadowSkip.zone.discards = 0 ∧
      s.shadowSkip = { s with regs := s.shadowSkip.regs, fifos := s.shadowSkip.fifos, zone := s.shadowSkip.zone } := by
  have hlog : (s.shadowLog s.zone.region s.zone.block 5).getF F.SHADOW_SKIPPED_COUNT = s.getF F.SHADOW_SKIPPED_COUNT := by
    unfold State.shadowLog State.pushFifo
    split <;> rfl
  refine ⟨?_, (KeepsReports.shadowNext _).event 4 (State.event_raise_same _ _ (by decide)), State.shadowNext_discards _,
    (((LogFrame.shadowLog ..).trans (.bump ..)).trans (.raise ..)).trans (.shadowNext _)⟩
  unfold State.shadowSkip
  rw [State.getF_of_reg_eq (f := F.SHADOW_SKIPPED_COUNT) (by decide)
    ((State.shadowNext_reg _ (by decide) (by decide)).trans (State.reg_raise_other (by decide) (by decide)))]
  rw [State.getF_bump_same (by decide) (by decide) (by rw [hlog]; exact h), hlog]

theorem shadowPass_completes {who : Initiator} {s : State} (ho : s.opens who 0x82064 true = true) :
    Completes (.shadowPass who) s fun t => t.zone.block = 0 ∧ t.zone.discards = 0 ∧
      (bitAt (s.getF F.SHADOW_CTRL_REGION_EN) 0 = true → t.zone.region = 0) ∧ t = { s with zone := t.zone, bus := ⟨0, false⟩ } :=
  ⟨_, congrArg Host.Outcome.next (State.command_of_opens ho), rfl, rfl, fun h => if_pos h, rfl⟩

theorem State.dtuIsPaused_dtuPause (s : State) (client index : Nat) : (s.dtuPause client index).dtuIsPaused client index = true := by
  simp [State.dtuIsPaused, State.dtuPause]

section
variable {s : State} {region block : Nat} (hpow : s.pagePowered 0x082 = true) (hp : s.dtuIsPaused 0x0B 0 = false)
  (hm : s.compares region block)
include hpow hp hm

/-- At a fault of the shadow copy the engine pauses where it is (R463). -/
theorem shadowFault_completes {d : ClientData} {t : State}
    (hread : s.clientRead 0x0B 0 (s.getF F.SHADOW_BASE_BASE * 0x1000 + ((shadowRegion region).1 + 0x1000 * block)) 0x1000 = (d, t))
    (hf : d.fault ≠ none) : Completes (.shadowBlockCompare false) s fun t => t.dtuIsPaused 0x0B 0 = true ∧ t.mem.bytes = s.mem.bytes ∧
      t.zone = s.zone := by
  have hbytes : KeepsBytes s t := (KeepsBytes.clientRead ..).of_snd hread
  have hzone : t.zone = s.zone := by rw [((ClientFrame.clientRead ..).of_snd hread).frame]
  have hx := (exec_shadowBlockCompare_powered hpow false).trans
    (congrArg Host.Outcome.next (State.shadowCompare_of_fault hp hm (State.shadowBlock_fault hread hf) hzone))
  exact ⟨_, hx, State.dtuIsPaused_dtuPause .., hbytes, hzone⟩

/-- A block that equals its shadow, and is not the last one of its region, leads to the next; one that was to be checked is done. -/
theorem shadowEqual_exec {t : State} (h : s.shadowBlock region block = (false, t)) (hz : t.zone = s.zone)
    (hlast : block + 1 < (shadowRegion region).2) :
    (s.zone.check = none → exec (.shadowBlockCompare false) s =
      .next { t with zone := { t.zone with block := block + 1, discards := 0 } }) ∧
    (s.zone.check ≠ none → exec (.shadowBlockCompare false) s = .next { t with zone := { t.zone with check := none } }) := by
  rw [exec_shadowBlockCompare_powered hpow]
  rcases hm with hc | ⟨hc, he, hr, rfl, rfl⟩
  · refine ⟨fun hc' => absurd (hc.symm.trans hc') (by simp), fun _ => ?_⟩
    rw [State.shadowCompare_check hp hc, State.shadowCheck_of_block hp h]
  · refine ⟨fun _ => ?_, fun hc' => absurd hc hc'⟩
    rw [State.shadowCompare_pass hp hc he hr h]
    refine congrArg Host.Outcome.next ((State.shadowNext_within (by rwa [hz])).trans ?_)
    rw [hz]

end

/-- Settles O27: a comparison turns on the bytes of the block and of its shadow, and what follows it changes no memory. -/
theorem shadowEngine : Obligations.ShadowEngine := by
  refine ⟨?disabled, fun raced s hp => exec_shadowBlockCompare_idle (State.shadowCompare_paused hp raced), ?raced, ?compared,
    fun who s ho => shadowPass_completes ho⟩
  case disabled =>
    intro raced s hc he
    cases hp : s.dtuIsPaused 0x0B 0 with
    | true => exact exec_shadowBlockCompare_idle (State.shadowCompare_paused hp raced)
    | false => exact exec_shadowBlockCompare_idle (State.shadowCompare_disabled hp hc he raced)
  case raced =>
    intro s hpow hc he hp hr
    have hx := (exec_shadowBlockCompare_powered hpow true).trans
      (congrArg Host.Outcome.next (State.shadowCompare_raced hp hc he hr))
    refine ⟨fun hd => ?_, fun hd hcount => ?_⟩
    · rw [hx, if_neg (by omega)]
    · rw [if_pos hd] at hx
      exact ⟨_, hx, State.shadowSkip_reports hcount⟩
  case compared =>
    intro region block s hpow hp hm a sh
    have hread : s.clientRead 0x0B 0 (s.getF F.SHADOW_BASE_BASE * 0x1000 + ((shadowRegion region).1 + 0x1000 * block)) 0x1000 = sh := rfl
    clear_value sh
    obtain ⟨d, t⟩ := sh
    have ha : 0x10000000 + ((shadowRegion region).1 + 0x1000 * block) = a := (Nat.add_assoc ..).symm
    have hzone : t.zone = s.zone := by rw [((ClientFrame.clientRead ..).of_snd hread).frame]
    have hx := exec_shadowBlockCompare_powered hpow false
    refine ⟨shadowFault_completes hpow hp hm hread, fun hf hbad hclean => ⟨fun heq hlast => ?_, fun hne => ⟨fun hr => ?_, fun hr => ?_⟩⟩⟩
    · exact shadowEqual_exec hpow hp hm (State.shadowBlock_equal hread ha hf hbad hclean heq) hzone hlast
    · obtain ⟨hlog, hkeeps⟩ := State.shadowCompare_of_block hp hm (State.shadowBlock_reported hread ha hf hbad hclean hne hr)
      obtain ⟨hevent, hcount⟩ := t.mismatch_reports
      have hkeeps := (KeepsReports.shadowLog (t.mismatch.raise 0x082 0) region block 2).trans hkeeps
      have hlog := (((LogFrame.mismatch t).trans (.raise ..)).trans (.shadowLog ..)).trans hlog
      exact ⟨_, hx, hlog.mem, hkeeps.event 0 hevent, hkeeps.mismatches.trans hcount⟩
    · obtain ⟨hlog, hkeeps⟩ := State.shadowCompare_of_block hp hm (State.shadowBlock_repaired hread ha hf hbad hclean hne hr)
      obtain ⟨hsame, hother⟩ := State.blockRepaired_bytes (region := region) (block := block) hclean
        (l := d.data) (by have hlen := State.clientRead_length (congrArg (fun x => x.1.fault) hread |>.trans hf); rwa [hread] at hlen)
      obtain ⟨h0, h1, hcount⟩ := t.blockRepaired_reports region block a d.data
      have hbytes : KeepsBytes _ (s.shadowCompare false) := congrArg MemSt.bytes hlog.mem
      exact ⟨_, hx, (State.memBytes_congr fun x _ _ => hbytes.memByte x).trans hsame, hkeeps.event 0 h0, hkeeps.event 1 h1,
        hkeeps.mismatches.trans hcount, fun x hx => (hbytes.memByte x).trans (hother x hx)⟩

end Sys2Proof.Machine
end

section
/-! What the planner's and the cascade's operations leave as it is: a state is compared with the one before it up to what the operation may
reach, and of the registers only logs and the operation's own change (R202, R391, R395). -/

namespace Sys2Proof.Machine

/-! ## Changes within a part of the state -/

/-- The registers of the planner, the pair and the cascade that operations keep beside their effect: event bits, counters, PEAK, the times of
searches, JSEQ. -/
def logKeys : List Nat :=
  [0x90010, 0x9006C, 0x90070, 0x90078, 0x91010, 0x91048, 0x9104C, 0x92010, 0x92070, 0x92074, 0x92078, 0x9207C, 0xF004C, 0xF1080]

/-- From `s` to `t` nothing changes but what `E` erases. Of the registers from page 0x040 on only those of `logKeys` and `own` change, and no
event of these pages falls. -/
structure Within (E : State → State) (own : List Nat) (s t : State) : Prop where
  frame : E t = E s
  reg : ∀ k, 0x40000 ≤ k → k ∉ logKeys → k ∉ own → t.reg k = s.reg k
  event : ∀ p b, 0x40 ≤ p → s.event p b = true → t.event p b = true

namespace Within

variable {E G : State → State} {own : List Nat} {s t u : State}

theorem refl (s : State) : Within E own s s := ⟨rfl, fun _ _ _ _ => rfl, fun _ _ _ h => h⟩

theorem trans (h : Within E own s t) (k : Within E own t u) : Within E own s u where
  frame := k.frame.trans h.frame
  reg j h0 h1 h2 := (k.reg j h0 h1 h2).trans (h.reg j h0 h1 h2)
  event p b hp hb := k.event p b hp (h.event p b hp hb)

theorem ite {c : Prop} [Decidable c] (ht : Within E own s t) (hu : Within E own s u) : Within E own s (if c then t else u) := by
  split
  · exact ht
  · exact hu

theorem foldl {α : Type} {f : State → α → State} (hf : ∀ s a, Within E own s (f s a)) (l : List α) (s : State) :
    Within E own s (l.foldl f s) :=
  List.foldlRecOn l f (motive := Within E own s) (refl s) fun t ht a _ => ht.trans (hf t a)

theorem of_snd {α : Type} {x : α × State} {a : α} (h : Within E own s x.2) (e : x = (a, u)) : Within E own s u := by
  subst e
  exact h

/-- What lies within a part lies within a larger one. -/
theorem weaken (h : Within E own s t) (hE : ∀ s, G (E s) = G s := by exact fun _ => rfl) : Within G own s t :=
  ⟨(hE t).symm.trans ((congrArg G h.frame).trans (hE s)), h.reg, h.event⟩

theorem own_append (h : Within E own s t) (l : List Nat) : Within E (own ++ l) s t :=
  ⟨h.frame, fun k h0 h1 h2 => h.reg k h0 h1 fun hk => h2 (List.mem_append_left l hk), h.event⟩

theorem of_regs (hE : E t = E s) (hr : t.regs = s.regs) : Within E own s t := by
  have h (k : Nat) : t.reg k = s.reg k := congrArg (Assoc.get resetWord · k) hr
  exact ⟨hE, fun k _ _ _ => h k, fun p b _ hb => (State.event_of_reg_eq (h _)).trans hb⟩

/-- A field of one word in a register that is not one of the larger pages' own. -/
theorem getF (h : Within E own s t) {f : Fld} (hf : f.hi < 32) (hk : 0x40000 ≤ f.key) (hl : f.key ∉ logKeys) (ho : f.key ∉ own) :
    t.getF f = s.getF f := State.getF_of_reg_eq hf (h.reg _ hk hl ho)

theorem flag (h : Within E own s t) {f : Fld} (hf : f.hi < 32) (hk : 0x40000 ≤ f.key) (hl : f.key ∉ logKeys) (ho : f.key ∉ own) :
    t.flag f = s.flag f := congrArg (· == 1) (h.getF hf hk hl ho)

end Within

/-! ## Registers -/

/-- Everything but the registers. -/
def regsErased (s : State) : State := { s with regs := [] }

theorem State.regsErased_setF (s : State) (f : Fld) (v : Nat) : regsErased (s.setF f v) = regsErased s := by
  rw [State.setF_only]
  rfl

namespace Within

variable {own : List Nat}

/-- A field of a log register or of a register of the operation's own, beside the event bits. -/
theorem setF (s : State) {f : Fld} (v : Nat) (hf : f.hi < 32)
    (hk : f.key < 0x40000 ∨ (f.key ∈ logKeys ∨ f.key ∈ own) ∧ f.key % 0x1000 ≠ 0x10) : Within regsErased own s (s.setF f v) where
  frame := s.regsErased_setF f v
  reg k h0 h1 h2 := State.reg_setF_other hf (by
    rintro rfl
    rcases hk with hk | ⟨hk | hk, -⟩
    · omega
    · exact h1 hk
    · exact h2 hk)
  event p b hp hb := (State.event_of_reg_eq (State.reg_setF_other hf (by omega))).trans hb

theorem bump (s : State) {f : Fld} (hf : f.hi < 32)
    (hk : f.key < 0x40000 ∨ (f.key ∈ logKeys ∨ f.key ∈ own) ∧ f.key % 0x1000 ≠ 0x10) : Within regsErased own s (s.bump f) :=
  setF s _ hf hk

theorem raise (s : State) {p b : Nat} (hb : b < 32) (hp : p < 0x40 ∨ p * 0x1000 + 0x10 ∈ logKeys ∨ p * 0x1000 + 0x10 ∈ own) :
    Within regsErased own s (s.raise p b) where
  frame := s.regsErased_setF _ _
  reg k h0 h1 h2 := State.reg_raise_other hb (by
    rintro rfl
    rcases hp with hp | hp | hp
    · omega
    · exact h1 hp
    · exact h2 hp)
  event _ _ _ h := State.event_raise hb h

theorem setReg (s : State) {k : Nat} (v : Word) (hk : k < 0x40000) : Within regsErased own s (s.setReg k v) where
  frame := rfl
  reg j h0 _ _ := State.reg_setReg_other (by omega)
  event p b hp hb := (State.event_of_reg_eq (State.reg_setReg_other (by omega))).trans hb

theorem err (s : State) {p : Nat} (code : Nat) (who : Option Initiator) (a : Nat) (hp : p < 0x40) :
    Within regsErased own s (s.err p code who a) := by
  have hsat : Within regsErased own s (s.bumpSat (F.PG_ERR_INFO_COUNT p)) :=
    setF s _ (show 15 < 32 by decide) (.inl (show p * 0x1000 + 0x20 < 0x40000 by omega))
  exact ite hsat (((setReg s _ (by omega)).trans (setReg _ _ (by omega))).trans (raise _ (by decide) (.inl hp)))

end Within

/-! ## Queues (R479 to R486) -/

/-- Everything but registers, the queues and the answer on the bus. -/
def queuesErased (s : State) : State := { s with regs := [], mbox := [], bus := ⟨0, false⟩ }

theorem Within.queues_only {own : List Nat} {s t : State} (h : Within queuesErased own s t) :
    t = { s with regs := t.regs, mbox := t.mbox, bus := t.bus } :=
  congrArg (fun x : State => { x with regs := t.regs, mbox := t.mbox, bus := t.bus }) h.frame

theorem Within.queues_plan {own : List Nat} {s t : State} (h : Within queuesErased own s t) : t.plan = s.plan := by rw [h.queues_only]

theorem Within.queues_mem {own : List Nat} {s t : State} (h : Within queuesErased own s t) : t.mem = s.mem := by rw [h.queues_only]

/-- The planner and the pair engine post their words so that a lost one is in the planner's log or in none. -/
def PlanLoss (lost : Option Lost) : Prop := lost = none ∨ lost = planLost

namespace Within

variable {own : List Nat}

theorem setMbox (s : State) (q : Nat) (v : MboxQueue) : Within queuesErased own s (s.setMbox q v) := .of_regs rfl rfl

theorem respond (s : State) (d : Nat) (e : Bool) : Within queuesErased own s (s.respond d e) := .of_regs rfl rfl

theorem countLost (s : State) {lost : Option Lost} (hl : PlanLoss lost) : Within queuesErased own s (s.countLost lost) := by
  rcases hl with rfl | rfl
  · exact refl s
  · exact ((bump s (f := F.TRACK_EVT_LOST_COUNT) (by decide) (.inr ⟨.inl (by decide), by decide⟩)).trans
      (raise _ (p := 0x090) (b := 1) (by decide) (.inr (.inl (by decide))))).weaken

section
variable (s : State) {q : Nat} (hq : q < 64)
include hq

theorem mboxPage_lt : mboxPage q < 0x40 := by
  unfold mboxPage
  omega

theorem mboxEvent {e : Nat} (he : e < 4) : Within queuesErased own s (s.mboxEvent q e) :=
  (raise s (by omega) (.inl (mboxPage_lt hq))).weaken

theorem mboxCheckPtr : Within queuesErased own s (s.mboxCheckPtr q) := by
  have hresets (t : State) : Within regsErased own t (t.bump (F.MBOX_PTR_RESETS_COUNT (q / 4) (q % 4))) :=
    bump t (show 31 < 32 by decide) (.inl (by simp only [F.MBOX_PTR_RESETS_COUNT]; omega))
  exact ite ((((setMbox ..).trans (hresets _).weaken).trans (err _ _ _ _ (mboxPage_lt hq)).weaken).trans (mboxEvent _ hq (by decide)))
    (refl s)

theorem mboxStore (w : Writer) (word : DWord) (packet : Bool) : Within queuesErased own s (s.mboxStore q w word packet) := by
  have hdropped (t : State) : Within regsErased own t (t.bump (F.MBOX_DROPPED_COUNT (q / 4) (q % 4))) :=
    bump t (show 31 < 32 by decide) (.inl (by simp only [F.MBOX_DROPPED_COUNT]; omega))
  have hpeak (t : State) (n : Nat) : Within regsErased own t (t.setF (F.MBOX_PEAK_LEVEL (q / 4) (q % 4)) n) :=
    setF t n (show 10 < 32 by decide) (.inl (by simp only [F.MBOX_PEAK_LEVEL]; omega))
  have hstored (v : MboxQueue) (n : Nat) := (setMbox (own := own) s q v).trans (hpeak _ n).weaken
  unfold State.mboxStore
  exact ite ((setMbox ..).trans (hdropped _).weaken) (ite ((hstored ..).trans (mboxEvent _ hq (by decide))) (hstored ..))

theorem mboxServeHeld (n : Nat) : Within queuesErased own s (s.mboxServeHeld q n) := by
  induction n generalizing s with
  | zero => exact refl s
  | succ n ih =>
    unfold State.mboxServeHeld
    split
    · refine trans ?_ (ih _)
      split
      · exact ((setMbox ..).trans (mboxStore _ hq ..)).trans (respond ..)
      · exact (setMbox ..).trans (mboxStore _ hq ..)
    · exact refl s

theorem mboxWrite (b : Block) (word : DWord) (packet : Bool) {lost : Option Lost} (hl : PlanLoss lost) :
    Within queuesErased own s (s.mboxWrite q (.blk b) word packet lost) := by
  have hfail (t : State) : Within regsErased own t (t.bump (F.MBOX_WR_FAIL_COUNT (q / 4) (q % 4))) :=
    bump t (show 31 < 32 by decide) (.inl (by simp only [F.MBOX_WR_FAIL_COUNT]; omega))
  have hrefused (t : State) (code a : Nat) : Within queuesErased own t ((t.err (mboxPage q) code none a).countLost lost) :=
    (err t code none a (mboxPage_lt hq)).weaken.trans (countLost _ hl)
  exact (mboxCheckPtr s hq).trans <| ite (((hfail _).weaken.trans (mboxEvent _ hq (by decide))).trans (countLost _ hl)) <|
    ite (hrefused ..) <| ite (hrefused ..) <| ite ((mboxStore _ hq ..).trans (mboxServeHeld _ hq _)) (setMbox ..)

theorem postPacket (b : Block) {lost : Option Lost} (hl : PlanLoss lost) (l : List Nat) :
    Within queuesErased own s (s.postPacket q b lost l) := by
  induction l generalizing s with
  | nil => exact refl s
  | cons p ps ih =>
    cases ps with
    | nil => exact mboxWrite s hq b _ true hl
    | cons _ _ => exact (mboxWrite s hq b _ true (.inl rfl)).trans (ih _)

end

/-- An event that the planner posts (R222). -/
theorem planEvent (s : State) (kind m detail pid : Nat) : Within queuesErased own s (s.planEvent kind m detail pid) := by
  have hreplans : Within regsErased own s ((s.bump F.TRACK_REPLANS_COUNT).raise 0x090 0) :=
    (bump s (by decide) (.inr ⟨.inl (by decide), by decide⟩)).trans (raise _ (by decide) (.inr (.inl (by decide))))
  exact ite (hreplans.weaken.trans (mboxWrite _ (s.getF_lt (f := F.TRACK_QUEUES_EVT_QUEUE) (by decide)) .planner _ false (.inr rfl))) (refl s)

/-- The result of a request (R205), after its outcome. -/
theorem planResult (s : State) (r : PlanReq) (f : PlanFound) (out pid slot bumped arrival : Nat) :
    Within queuesErased own (s.setF F.TRACK_PLAN_SEARCH_OUTCOME out) (s.planResult r f out pid slot bumped arrival) := by
  have hcount (t : State) : Within regsErased own t
      (if out = 0 then (t.bump F.TRACK_PLAN_PLANS_COUNT).raise 0x092 0 else (t.bump F.TRACK_PLAN_FAILS_COUNT).raise 0x092 1) :=
    ite ((bump t (by decide) (.inr ⟨.inl (by decide), by decide⟩)).trans (raise _ (by decide) (.inr (.inl (by decide)))))
      ((bump t (by decide) (.inr ⟨.inl (by decide), by decide⟩)).trans (raise _ (by decide) (.inr (.inl (by decide)))))
  unfold State.planResult
  exact (hcount _).weaken.trans (postPacket _ (State.getF_lt _ (f := F.TRACK_QUEUES_RES_QUEUE) (by decide)) .planner (.inr rfl) _)

end Within

end Sys2Proof.Machine
end

section
/-! Messages, updates of the lead, and journal transactions: what they change (R224, R391 to R396, R399). -/

namespace Sys2Proof.Machine

/-! ## Messages (R391, R392) -/

/-- Everything but registers, the queues, the answer on the bus, the free values drawn, MSG_SEQ and the objects that the transaction in hand
touched. -/
def messagesErased (s : State) : State :=
  { s with
    regs := [], mbox := [], bus := ⟨0, false⟩, freeCtr := 0
    pair := { s.pair with nextSeq := none, lastSeq := none, touched := [] } }

namespace Within

variable {own : List Nat}

theorem fresh (s : State) (n : Nat) : Within messagesErased own s (s.fresh n).2 := .of_regs rfl rfl

theorem jnoteObj (s : State) (obj idx : Nat) (l : List Byte) : Within messagesErased own s (s.jnoteObj obj idx l) := by
  unfold State.jnoteObj
  exact ite (.of_regs rfl rfl) (refl s)

theorem sendFragment (s : State) (type : Nat) (dest : MsgDest) (frag : List Byte) :
    Within messagesErased own s (s.sendFragment type dest frag) := by
  unfold State.sendFragment
  exact (fresh s 56).trans (postPacket _ (State.getF_lt _ (f := F.SWCH_P21_TX_QUEUE) (by decide)) .pair (.inl rfl) _).weaken

theorem sendMsg (s : State) (type : Nat) (dest : MsgDest) (flags : Nat) (body : List Byte) :
    Within messagesErased own s (s.sendMsg type dest flags body) := by
  unfold State.sendMsg
  split
  · next key seq _ _ =>
    have hnumbered : Within messagesErased own s
        { s with pair := { s.pair with nextSeq := some ((seq + 1) % 2 ^ 32), lastSeq := some seq } } := .of_regs rfl rfl
    exact (hnumbered.trans (bump (f := F.CASC_TX_COUNT) _ (by decide) (.inr ⟨.inl (by decide), by decide⟩)).weaken).trans
      (foldl (fun t p => sendFragment t ..) _ _)
  · exact refl s

/-! ## The lead's updates (R224) -/

/-- An update of the lead, after its UPD_SEQ. -/
theorem nextUpdate_afterSeq (s : State) (member m plan from_ : Nat) :
    Within messagesErased own (s.setF F.CASC_UPD_SEQ_SEQ ((s.getF F.CASC_UPD_SEQ_SEQ + 1) % 2 ^ 32)) (s.nextUpdate member m plan from_) :=
  (jnoteObj ..).trans (sendMsg ..)

theorem nextUpdate (s : State) (ho : 0xF1060 ∈ own) (member m plan from_ : Nat) :
    Within messagesErased own s (s.nextUpdate member m plan from_) :=
  (setF (f := F.CASC_UPD_SEQ_SEQ) s _ (by decide) (.inr ⟨.inr ho, by decide⟩)).weaken.trans (nextUpdate_afterSeq ..)

theorem leadTell (s before : State) (ho : 0xF1060 ∈ own) : Within messagesErased own s (s.leadTell before) := by
  unfold State.leadTell
  exact ite (foldl (fun t k => ite (refl t) (nextUpdate _ ho ..)) _ s) (refl s)

end Within

/-! ## A device's write and the clients that are paused (R453, R459 to R463) -/

/-- From `s` to `t` the same clients of the translation unit are paused. -/
def KeepsPaused (s t : State) : Prop := t.mem.dtuPaused = s.mem.dtuPaused

namespace KeepsPaused

variable {s t u : State}

theorem refl (s : State) : KeepsPaused s s := rfl

theorem trans (h : KeepsPaused s t) (k : KeepsPaused t u) : KeepsPaused s u := Eq.trans k h

theorem of_snd {α : Type} {x : α × State} {a : α} (h : KeepsPaused s x.2) (e : x = (a, u)) : KeepsPaused s u := by
  subst e
  exact h

theorem ite {c : Prop} [Decidable c] (ht : KeepsPaused s t) (hu : KeepsPaused s u) : KeepsPaused s (if c then t else u) := by
  split
  · exact ht
  · exact hu

theorem foldl {α : Type} {f : State → α → State} (hf : ∀ s a, KeepsPaused s (f s a)) (l : List α) (s : State) :
    KeepsPaused s (l.foldl f s) :=
  List.foldlRecOn l f (motive := KeepsPaused s) (refl s) fun t ht a _ => ht.trans (hf t a)

theorem setF (s : State) (f : Fld) (v : Nat) : KeepsPaused s (s.setF f v) := congrArg MemSt.dtuPaused (State.setF_mem s f v)

theorem raise (s : State) (p b : Nat) : KeepsPaused s (s.raise p b) := setF ..

theorem bump (s : State) (f : Fld) : KeepsPaused s (s.bump f) := setF ..

theorem counted (s : State) (f : Fld) (p b : Nat) : KeepsPaused s ((s.bump f).raise p b) := (bump ..).trans (raise ..)

theorem eccLog (s : State) (m a : Nat) : KeepsPaused s (s.eccLog m a) := (counted ..).trans (ite rfl rfl)

theorem withEcc (s : State) (l : List (Nat × EccError)) : KeepsPaused s { s with mem := { s.mem with ecc := l } } := rfl

theorem eccRead (s : State) (a n : Nat) (m : Option Nat) : KeepsPaused s (s.eccRead a n m).2 := by
  refine List.foldlRecOn _ _ (motive := fun x : Bool × State => KeepsPaused s x.2) (refl s) fun x hx e _ => hx.trans ?_
  dsimp only
  split
  · exact refl _
  · exact (withEcc ..).trans (counted ..)
  · exact eccLog ..

theorem storeBytes (s : State) (a : Nat) (l : List Byte) : KeepsPaused s (s.storeBytes a l) := by
  unfold KeepsPaused
  rw [State.storeBytes_only]

theorem physWrite (s : State) (a : Nat) (l : List Byte) : KeepsPaused s (s.physWrite a l) := by
  have hlost (l : List (Nat × EccError)) (t : State) : KeepsPaused t (l.foldl (fun s e => s.eccLog (eccMemory e.1) e.1) t) :=
    foldl (fun _ _ => eccLog ..) l t
  have hbyte (t : State) (x : Nat) (v : Byte) : KeepsPaused t (t.setMemByte x v) := rfl
  exact (((withEcc s _).trans (foldl (fun t _ => counted t F.DTU_ECC_CE_COUNT 0x008 3) _ _)).trans (hlost _ _)).trans
    (ite (storeBytes ..) (foldl (fun t _ => ite (refl t) (hbyte t ..)) _ _))

theorem walk (s : State) (va : Nat) (write : Bool) (table level : Nat) : KeepsPaused s (s.walk va write table level).2 := by
  induction level generalizing s table with
  | zero => exact refl s
  | succ level ih =>
    have h := eccRead s (table + 8 * (va / (0x1000 * 512 ^ level) % 512)) 8 (some 3)
    unfold State.walk
    dsimp only
    split
    · exact refl s
    · split
      · exact h
      · split
        · exact h
        · split
          · split
            · exact h
            · split <;> exact h
          · exact h.trans (ih ..)

theorem dtuFill (s : State) (e : DtuEntry) : KeepsPaused s (s.dtuFill e) := ite rfl rfl

theorem translate (s : State) (may : Region → Bool) (pinned : Bool) (ctx va : Nat) (write : Bool) :
    KeepsPaused s (s.translate may pinned ctx va write).2 := by
  have target (t : State) (c : Prop) [Decidable c] (pa : Nat) :
      KeepsPaused t (if c then ((.inr pa, t) : (Nat ⊕ Nat) × State) else (.inl 8, t)).2 := by
    split <;> exact refl t
  unfold State.translate
  dsimp only
  split
  · exact target ..
  · split
    · exact refl s
    · split
      · exact refl s
      · split
        · exact (bump ..).trans (target ..)
        · have hwalk := (bump s (F.DTU_MISSES_COUNT ctx)).trans
            (walk _ (va % 2 ^ 48) write (s.getF (F.DTU_ROOT_PPN ctx) * 0x1000) 4)
          split
          · next heq => exact hwalk.of_snd heq
          · next heq =>
            split
            · next htgt => exact (hwalk.of_snd heq).trans ((target ..).of_snd htgt)
            · next htgt => exact ((hwalk.of_snd heq).trans ((target ..).of_snd htgt)).trans (dtuFill ..)

theorem clientAddr (s : State) (client index va : Nat) (write : Bool) : KeepsPaused s (s.clientAddr client index va write).2 := by
  have htouch (t : State) (a : Nat) : KeepsPaused t (t.lpddrTouch a) := ite (setF t F.DTU_LPDDR_STAT_SELF_REFRESH 0) (refl t)
  have hfault (t : State) (ctx va cause : Nat) : KeepsPaused t (t.dtuFault ctx client index va cause write) :=
    ((ite (bump ..) (refl t)).trans (raise ..)).trans (ite rfl (counted ..))
  unfold State.clientAddr
  dsimp only
  split
  · next heq => exact (of_snd (translate ..) heq).trans (htouch ..)
  · next heq => exact (of_snd (translate ..) heq).trans (hfault ..)

theorem clientWritePages (s : State) (client index pages va : Nat) (l : List Byte) :
    KeepsPaused s (s.clientWritePages client index pages va l).2 := by
  induction pages generalizing s va l with
  | zero => exact refl s
  | succ pages ih =>
    have h := clientAddr s client index va true
    unfold State.clientWritePages
    dsimp only
    split
    · exact refl s
    · split
      · next heq => exact h.of_snd heq
      · next heq => exact (h.of_snd heq).trans ((physWrite ..).trans (ih ..))

theorem clientWrite (s : State) (client index va : Nat) (l : List Byte) : KeepsPaused s (s.clientWrite client index va l).2 :=
  clientWritePages ..

end KeepsPaused

/-! ## The journal (R395, R396, R399) -/

/-- Everything but what a message of the planner to the lead reaches. -/
def requestErased (s : State) : State := { messagesErased s with plan := { s.plan with ownReqs := [] } }

/-- Everything but what a journal transaction and a reply reach: beside messages the logs, memory but the clients paused, the ring and what
waits for confirmation, and the lead's messages to itself. -/
def journalErased (s : State) : State :=
  { s with
    regs := [], fifos := [], mbox := [], bus := ⟨0, false⟩, freeCtr := 0, mem := { dtuPaused := s.mem.dtuPaused }
    pair := { s.pair with nextSeq := none, lastSeq := none, touched := [], ring := [], ringNext := 0, unconf := [], heldOut := [] }
    plan := { s.plan with ownReqs := [], ownReplies := [] } }

namespace Within

variable {own : List Nat}

/-- A client's access that leaves the same clients paused. -/
theorem of_client {s t : State} (h : ClientFrame s t) (hp : KeepsPaused s t) : Within journalErased own s t where
  frame := by
    have hm : (journalErased t).mem = (journalErased s).mem := congrArg (fun p => ({ dtuPaused := p } : MemSt)) hp
    rw [h.frame]
    unfold journalErased at hm ⊢
    dsimp only at hm ⊢
    rw [hm]
  reg k h0 _ _ := h.reg k (by omega)
  event p b hp hb := (State.event_of_reg_eq (h.reg _ (by omega))).trans hb

theorem ringKeep (s : State) (jseq : Nat) (l : List Byte) : Within journalErased own s (s.ringKeep jseq l) := by
  have hwrite (a : Nat) : Within journalErased own s (s.clientWrite 0x0A 0 a l).2 := of_client (.clientWrite ..) (.clientWrite ..)
  unfold State.ringKeep
  dsimp only
  split
  · next heq => exact (hwrite _).of_snd heq
  · next heq => exact ((hwrite _).of_snd heq).trans (.of_regs rfl rfl)

theorem journalSend (s : State) (src : Nat) (entries : List (List Byte)) : Within journalErased own s (s.journalSend src entries) := by
  have hsent (jseq : Nat) (l : List Byte) :
      Within journalErased own s (((s.setF F.PAIR_JSEQ_JSEQ jseq).ringKeep jseq l).sendMsg 0x11 .partner 0 l) :=
    ((setF (f := F.PAIR_JSEQ_JSEQ) s jseq (by decide) (.inr ⟨.inl (by decide), by decide⟩)).weaken.trans (ringKeep ..)).trans
      (sendMsg ..).weaken
  unfold State.journalSend
  exact ite ((hsent ..).trans (.of_regs rfl rfl)) (hsent ..)

theorem journal (s : State) (src : Nat) : Within journalErased own s (s.journal src) := by
  have hemptied : Within journalErased own s { s with pair := { s.pair with touched := [] } } := .of_regs rfl rfl
  unfold State.journal
  exact ite (hemptied.trans (foldl (fun t es => journalSend t src es) _ _)) hemptied

theorem journalOpen (s : State) : Within journalErased own s s.journalOpen := by
  unfold State.journalOpen
  exact ite (refl s) ((fresh s 7).weaken.trans (journal ..))

/-- A request goes to the lead, or among the lead's own that have arrived. -/
theorem shrSend (s : State) (w : SharedWait) : Within requestErased own s (s.shrSend w) := by
  unfold State.shrSend
  exact ite (.of_regs rfl rfl) (sendMsg ..).weaken

/-- A reply goes to a member, or to the lead's own planner. -/
theorem reply (s : State) (member : Nat) (body : List Byte) : Within journalErased own s (s.letGo (.reply member body)) := by
  unfold State.letGo
  exact ite (.of_regs rfl rfl) (sendMsg ..).weaken

theorem outputReply (s : State) (member : Nat) (body : List Byte) : Within journalErased own s (s.output (.reply member body)) := by
  unfold State.output
  exact ite (.of_regs rfl rfl) (reply ..)

end Within

end Sys2Proof.Machine
end

section
/-! The reservation store's operations and the commit: what they change, and which tables they leave (R197 to R201, R212 to R216). -/

namespace Sys2Proof.Machine

/-! ## Chains of records (R200) -/

namespace TableFrame

theorem plan {s t : State} (h : TableFrame s t) : t.plan = s.plan := by rw [h.frame]

theorem storeWord (s : State) (a v : Nat) : TableFrame s (s.storeWord a v) := ite (refl s) (tableWrite ..)

theorem linkChain (s : State) (l : List Rsv) : TableFrame s (s.linkChain l) := by
  induction l generalizing s with
  | nil => exact refl s
  | cons r l ih =>
    cases l with
    | nil => exact storeWord ..
    | cons q l => exact (storeWord ..).trans (ih _)

theorem relink (s : State) (c : Nat) : TableFrame s (s.relink c) := (linkChain ..).trans (storeWord ..)

end TableFrame

/-- The tables of the fleet store below the reservation records: zones, cells and machines. -/
structure KeepsTables (s t : State) : Prop where
  byte : ∀ x, 0x10000000 ≤ x → x < 0x10900000 → t.memByte x = s.memByte x

namespace KeepsTables

theorem refl (s : State) : KeepsTables s s := ⟨fun _ _ _ => rfl⟩

theorem trans {s t u : State} (h : KeepsTables s t) (k : KeepsTables t u) : KeepsTables s u :=
  ⟨fun x h0 h1 => (k.byte x h0 h1).trans (h.byte x h0 h1)⟩

theorem of_fleet {s t : State} (h : KeepsFleet s t) : KeepsTables s t := ⟨fun x h0 _ => h x h0 (by omega)⟩

theorem of_bytes {s t : State} (h : KeepsBytes s t) : KeepsTables s t := of_fleet h.fleet

theorem ite {s t u : State} {c : Prop} [Decidable c] (ht : KeepsTables s t) (hu : KeepsTables s u) :
    KeepsTables s (if c then t else u) := by
  split
  · exact ht
  · exact hu

theorem foldl {α : Type} {f : State → α → State} (hf : ∀ s a, KeepsTables s (f s a)) (l : List α) (s : State) :
    KeepsTables s (l.foldl f s) :=
  List.foldlRecOn l f (motive := KeepsTables s) (refl s) fun t ht a _ => ht.trans (hf t a)

/-- A write at or above the reservation records. -/
theorem tableWrite (s : State) {a : Nat} (l : List Byte) (h : 0x10900000 ≤ a) : KeepsTables s (s.tableWrite a l) :=
  ⟨fun _ h0 h1 => State.memByte_tableWrite_other h0 (by omega) (.inl (by omega))⟩

theorem storeWord (s : State) {a : Nat} (v : Nat) (h : 0x10900000 ≤ a) : KeepsTables s (s.storeWord a v) :=
  ite (refl s) (tableWrite s _ h)

theorem linkChain (s : State) (l : List Rsv) : KeepsTables s (s.linkChain l) := by
  have hlink (i : Nat) : 0x10900000 ≤ linkAddr i := by
    unfold linkAddr
    omega
  induction l generalizing s with
  | nil => exact refl s
  | cons r l ih =>
    cases l with
    | nil => exact storeWord s _ (hlink _)
    | cons q l => exact (storeWord s _ (hlink _)).trans (ih _)

theorem relink (s : State) (c : Nat) : KeepsTables s (s.relink c) := by
  refine (linkChain ..).trans (storeWord _ _ ?_)
  unfold headAddr
  omega

theorem setF (s : State) (f : Fld) (v : Nat) : KeepsTables s (s.setF f v) := of_bytes (.setF ..)

theorem withPlan (s : State) (p : PlanSt) : KeepsTables s { s with plan := p } := ⟨fun _ _ _ => rfl⟩

theorem rsvPut (s : State) (r : Rsv) : KeepsTables s (s.rsvPut r) := by
  have ha : 0x10900000 ≤ rsvAddr r.idx := by
    unfold rsvAddr
    omega
  unfold State.rsvPut State.rsvPeak
  exact (((withPlan ..).trans (tableWrite _ _ ha)).trans (relink ..)).trans (setF ..)

theorem rsvAdd (s : State) (r : Rsv) : KeepsTables s (s.rsvAdd r) :=
  KeepsTables.trans (t := (s.fresh (1048576 - s.plan.used.length)).2) ⟨fun _ _ _ => rfl⟩ (rsvPut ..)

theorem rsvFree (s : State) (i : Nat) : KeepsTables s (s.rsvFree i) := by
  have ha : 0x10900000 ≤ rsvAddr i ∧ 0x10900000 ≤ linkAddr i := by
    unfold rsvAddr linkAddr
    omega
  unfold State.rsvFree
  exact (((withPlan ..).trans (tableWrite _ _ ha.1)).trans (storeWord _ _ ha.2)).trans (relink ..)

theorem rsvFreeAll (s : State) (l : List Nat) : KeepsTables s (s.rsvFreeAll l) := foldl rsvFree l s

theorem memWord {s t : State} (h : KeepsTables s t) {a : Nat} (h0 : 0x10000000 ≤ a) (h1 : a + 4 ≤ 0x10900000) : t.memWord a = s.memWord a :=
  State.memLE_congr fun x hx0 hx1 => h.byte x (by omega) (by omega)

theorem machWord {s t : State} (h : KeepsTables s t) {m w : Nat} (hm : m < 256) (hw : w < 16) : t.machWord m w = s.machWord m w :=
  h.memWord (by unfold machAddr; omega) (by unfold machAddr; omega)

end KeepsTables

/-! ## Records (R197, R200) -/

/-- The planner's state after a record is written. -/
theorem State.rsvPut_plan (s : State) (r : Rsv) : (s.rsvPut r).plan = { s.plan with used := insertIndex r.idx s.plan.used } := by
  unfold State.rsvPut State.rsvPeak
  rw [State.setF_plan, (TableFrame.relink ..).plan, (TableFrame.tableWrite ..).plan]

/-- Everything but what a change of the store's records and of the machine table reaches. -/
def tablesErased (s : State) : State :=
  { s with
    regs := [], fifos := [], mem := {}, freeCtr := 0, pair := {}, zone := { s.zone with owed := [] }
    plan := { s.plan with used := [], stamped := [], plans := [] } }

/-- Everything but what a change of the store, its messages and its journal transactions reach. -/
def storeErased (s : State) : State :=
  { s with
    regs := [], fifos := [], mem := {}, freeCtr := 0, pair := {}, zone := { s.zone with owed := [] }, mbox := [], bus := ⟨0, false⟩
    plan := { s.plan with used := [], stamped := [], plans := [], ownReqs := [], ownReplies := [] } }

/-- Everything but what a commit reaches: beside the store the deliveries of segment tables. -/
def commitErased (s : State) : State := { storeErased s with seg := {} }

/-- Everything but deliveries and what waits for confirmation. -/
def offerErased (s : State) : State := { s with seg := {}, pair := {} }

/-- The table and the planner words of a commit, and the table's size (R212). -/
def State.commitRecord (s : State) (x : PlanSearch) (serial : Option Nat) (pid : Nat) : Nat × State :=
  let m := x.req.machine
  let start := ((x.s : Int) + x.found.depart).toNat % 2 ^ 32
  let arrival := ((x.s : Int) + x.found.arrival).toNat % 2 ^ 32
  let seq0 := s.machWord m 10 / 65536
  let segs := partSegments seq0 0 (planParts x.found.depart (x.found.route.zip (s.routeDist 0 (x.found.route.map fun v => v.cell))))
  let slot := 1 - s.planSlot m
  let t := (s.writeSlot m slot (slotBytes m pid start seq0 arrival (x.req.hold == 0) false segs)).segCut m
  let words := [(8, pid), (10, (seq0 + segs.length) % 65536 * 65536 + x.req.start % 65536), (11, t.machWord m 11),
    (12, x.req.prio * 16 + slot * 8 + 1), (13, x.s), (14, arrival)]
  (segs.length, (t.planWords m (words ++ (serial.map fun n => (15, n)).toList)).trackMake m start seq0 segs)

/-- The steps of a commit from its table on; `before` is the state before the commit. -/
def State.commitTail (s before : State) (x : PlanSearch) (serial : Option Nat) (pid : Nat) (outs : List HeldOut) : State :=
  (outs ++ [HeldOut.table x.req.machine pid (((x.s : Int) + x.found.depart).toNat % 2 ^ 32) (s.commitRecord x serial pid).1]).foldl
    (fun s o => s.output o) (((s.commitRecord x serial pid).2.leadTell before).journal 1)

namespace Within

variable {own : List Nat}

theorem of_table {s t : State} (h : TableFrame s t) : Within tablesErased own s t where
  frame := by
    rw [h.frame]
    rfl
  reg k h0 _ _ := h.reg k (by omega)
  event p b hp hb := (State.event_of_reg_eq (h.reg _ (by omega))).trans hb

theorem rsvPut (s : State) (r : Rsv) : Within tablesErased own s (s.rsvPut r) := by
  have hused : Within tablesErased own s { s with plan := { s.plan with used := insertIndex r.idx s.plan.used } } := .of_regs rfl rfl
  have hpeak (t : State) : Within regsErased own t t.rsvPeak := setF t _ (by decide) (.inr ⟨.inl (by decide), by decide⟩)
  exact ((hused.trans (of_table (.tableWrite ..))).trans (of_table (.relink ..))).trans (hpeak _).weaken

theorem rsvAdd (s : State) (r : Rsv) : Within tablesErased own s (s.rsvAdd r) := by
  have hdrawn : Within tablesErased own s (s.fresh (1048576 - s.plan.used.length)).2 := .of_regs rfl rfl
  exact hdrawn.trans (rsvPut ..)

theorem rsvFree (s : State) (i : Nat) : Within tablesErased own s (s.rsvFree i) := by
  have hused : Within tablesErased own s { s with plan := { s.plan with
    used := s.plan.used.filter (· != i), stamped := s.plan.stamped.filter (· != i) } } := .of_regs rfl rfl
  unfold State.rsvFree
  exact ((hused.trans (of_table (.tableWrite ..))).trans (of_table (.storeWord ..))).trans (of_table (.relink ..))

theorem rsvFreeAll (s : State) (l : List Nat) : Within tablesErased own s (s.rsvFreeAll l) := foldl rsvFree l s

theorem sharedWrite (s : State) (gone recs : List Rsv) : Within tablesErased own s (s.sharedWrite gone recs) :=
  (rsvFreeAll ..).trans (foldl rsvAdd _ _)

theorem planWords (s : State) (m : Nat) (upd : List (Nat × Nat)) : Within tablesErased own s (s.planWords m upd) :=
  of_table (.recordWrite ..)

theorem setTrack (s : State) (m : Nat) (t : Option TrackPlan) : Within tablesErased own s (s.setTrack m t) := .of_regs rfl rfl

theorem trackMake (s : State) (m start firstSeq : Nat) (segs : List Segment) :
    Within tablesErased own s (s.trackMake m start firstSeq segs) := setTrack ..

theorem writeSlot (s : State) (m slot : Nat) (b : List Byte) : Within tablesErased own s (s.writeSlot m slot b) :=
  of_table (((TableFrame.of_client (.clientWrite ..)).trans (.of_client (.clientWrite ..))).trans (.jnoteObj ..))

theorem newPlanId (s : State) (ho : 0x9208C ∈ own) : Within tablesErased own s s.newPlanId.2 :=
  (setF (f := F.TRACK_PLAN_COMMIT_SEQ_SEQ) s _ (by decide) (.inr ⟨.inr ho, by decide⟩)).weaken.trans (of_table (.jnoteObj ..))

theorem bumpFree (s : State) (b : Nat × Nat) : Within tablesErased own s (s.bumpFree b).2 := by
  unfold State.bumpFree
  dsimp only
  split
  · exact (rsvFreeAll ..).trans (rsvPut ..)
  · exact rsvFreeAll ..

/-! ## The commit (R212, R216) -/

theorem segCut (s : State) (m : Nat) : Within commitErased own s (s.segCut m) := .of_regs rfl rfl

theorem bumpMachine (s : State) (by_ x : Nat) (last : Option Nat) (ho : 0x9208C ∈ own) :
    Within commitErased own s (s.bumpMachine by_ x last).1 := by
  unfold State.bumpMachine
  dsimp only
  split
  · exact (((((newPlanId s ho).trans (writeSlot ..)).weaken.trans (segCut ..)).trans (planWords ..).weaken).trans
      (setTrack ..).weaken).trans (planEvent ..).weaken
  · exact (planWords ..).weaken.trans (planEvent ..).weaken

/-- A table's delivery begins, at once or when its transaction is confirmed. -/
theorem outputTable (s : State) (m plan start count : Nat) : Within offerErased own s (s.output (.table m plan start count)) := by
  have hoffer : Within offerErased own s (s.segOffer m plan start count) := ite (.of_regs rfl rfl) (refl s)
  exact ite (.of_regs rfl rfl) (ite hoffer (refl s))

theorem output (s : State) (o : HeldOut) : Within commitErased own s (s.output o) := by
  cases o with
  | table m plan start count => exact (outputTable ..).weaken
  | reply member body => exact (outputReply ..).weaken

theorem commitRecord (s : State) (x : PlanSearch) (serial : Option Nat) (pid : Nat) :
    Within commitErased own s (s.commitRecord x serial pid).2 := by
  unfold State.commitRecord
  dsimp only
  refine trans ?_ (trackMake ..).weaken
  refine trans ?_ (planWords ..).weaken
  exact (writeSlot ..).weaken.trans (segCut ..)

theorem commitTail (s before : State) (x : PlanSearch) (serial : Option Nat) (pid : Nat) (outs : List HeldOut) (ho : 0xF1060 ∈ own) :
    Within commitErased own s (s.commitTail before x serial pid outs) := by
  unfold State.commitTail
  refine trans ?_ (foldl output _ _)
  refine trans ?_ (journal ..).weaken
  exact (commitRecord ..).trans (leadTell _ _ ho).weaken

theorem commitPlan (s : State) (x : PlanSearch) (serial : Option Nat) :
    Within commitErased [0x9208C, 0xF1060] s (s.commitPlan x serial).2 := by
  have hbumps (t : State) (l : List (Nat × Nat)) (a : List (Nat × Option Nat)) : Within tablesErased [0x9208C, 0xF1060] t
      (l.foldl (fun (acc : List (Nat × Option Nat) × State) b => (acc.1 ++ [(b.1, (acc.2.bumpFree b).1)], (acc.2.bumpFree b).2)) (a, t)).2 :=
    List.foldlRecOn l _ (motive := fun acc : List (Nat × Option Nat) × State => Within tablesErased _ t acc.2) (refl t)
      fun acc h b _ => h.trans (bumpFree acc.2 b)
  have hcuts (t : State) (l : List (Nat × Option Nat)) (a : List HeldOut) : Within commitErased [0x9208C, 0xF1060] t
      (l.foldl (fun (acc : State × List HeldOut) b => ((acc.1.bumpMachine x.req.machine b.1 b.2).1,
        acc.2 ++ (acc.1.bumpMachine x.req.machine b.1 b.2).2)) (t, a)).1 :=
    List.foldlRecOn l _ (motive := fun acc : State × List HeldOut => Within commitErased _ t acc.1) (refl t)
      fun acc h b _ => h.trans (bumpMachine acc.1 _ _ _ (by decide))
  have hfull : Within regsErased [0x9208C, 0xF1060] s ((s.bump F.TRACK_RES_FULL_COUNT).raise 0x091 1) :=
    (bump s (by decide) (.inr ⟨.inl (by decide), by decide⟩)).trans (raise _ (by decide) (.inr (.inl (by decide))))
  unfold State.commitPlan
  dsimp only
  split
  · exact hfull.weaken
  · refine trans ?_ (commitTail _ s x serial s.newPlanId.1 _ (by decide))
    refine trans ?_ (hcuts ..)
    refine trans ?_ (foldl (fun t r => rsvAdd t _) _ _).weaken
    exact ((newPlanId s (by decide)).trans (rsvFreeAll ..)).weaken.trans (hbumps ..).weaken

end Within

end Sys2Proof.Machine
end

section
/-! The requests to the planner: the queue, the probe of a slot, the search and its end (R202 to R205, R465, R467). -/

namespace Sys2Proof.Machine

/-! ## Results of requests (R205) -/

/-- What a request's result leaves: its outcome and its event. -/
theorem State.planResult_reports (s : State) (r : PlanReq) (f : PlanFound) {out : Nat} (pid slot bumped arrival : Nat) (ho : out < 16) :
    (s.planResult r f out pid slot bumped arrival).getF F.TRACK_PLAN_SEARCH_OUTCOME = out ∧
      (s.planResult r f out pid slot bumped arrival).event 0x092 (if out = 0 then 0 else 1) = true := by
  have hposted (t : State) (l : List Nat) : Within queuesErased [] t (t.postPacket (t.getF F.TRACK_QUEUES_RES_QUEUE) .planner planLost l) :=
    .postPacket t (t.getF_lt (f := F.TRACK_QUEUES_RES_QUEUE) (by decide)) .planner (.inr rfl) l
  refine ⟨?_, ?_⟩
  · rw [(Within.planResult (own := []) s r f out pid slot bumped arrival).getF (by decide) (by decide) (by decide) (by decide),
      State.getF_setF_same (by decide) (by decide)]
    exact Nat.mod_eq_of_lt ho
  · refine (hposted _ _).event _ _ (by decide) ?_
    by_cases h : out = 0
    · simp only [if_pos h]
      exact State.event_raise_same _ _ (by decide)
    · simp only [if_neg h]
      exact State.event_raise_same _ _ (by decide)

/-- Everything but registers, the queues, the answer on the bus and the requests that wait. -/
def requestsErased (s : State) : State :=
  { s with regs := [], mbox := [], bus := ⟨0, false⟩, plan := { s.plan with queue := [] } }

theorem Within.requests_only {own : List Nat} {s t : State} (h : Within requestsErased own s t) :
    t.respond 0 false = { s with
      regs := (t.respond 0 false).regs, mbox := (t.respond 0 false).mbox
      plan := { s.plan with queue := (t.respond 0 false).plan.queue }, bus := ⟨0, false⟩ } :=
  congrArg (fun x : State => { x with
    regs := t.regs, mbox := t.mbox, plan := { x.plan with queue := t.plan.queue }, bus := ⟨0, false⟩ }) h.frame

theorem Within.planResult_queues (s : State) (r : PlanReq) (f : PlanFound) (out pid slot bumped arrival : Nat) :
    Within queuesErased [0x9206C] s (s.planResult r f out pid slot bumped arrival) :=
  (Within.setF (f := F.TRACK_PLAN_SEARCH_OUTCOME) s out (by decide) (.inr ⟨.inr (by decide), by decide⟩)).weaken.trans
    (Within.planResult ..).weaken

theorem State.planResult_plan (s : State) (r : PlanReq) (f : PlanFound) (out pid slot bumped arrival : Nat) :
    (s.planResult r f out pid slot bumped arrival).plan = s.plan :=
  (Within.planResult_queues s r f out pid slot bumped arrival).queues_plan

theorem State.planResult_mem (s : State) (r : PlanReq) (f : PlanFound) (out pid slot bumped arrival : Nat) :
    (s.planResult r f out pid slot bumped arrival).mem = s.mem :=
  (Within.planResult_queues s r f out pid slot bumped arrival).queues_mem

/-! ## SUBMIT (R204) -/

/-- The results of requests that newer ones of the same machine supersede. -/
def State.supersede (s : State) (l : List PlanReq) : State := l.foldl (fun s x => s.planResult x { outcome := 7 } 7 0 0 0 0) s

theorem Within.supersede (s : State) (l : List PlanReq) : Within requestsErased [0x9206C] s (s.supersede l) :=
  foldl (fun t _ => (planResult_queues t ..).weaken) l s

theorem State.supersede_kept (s : State) (l : List PlanReq) : (s.supersede l).plan = s.plan ∧ (s.supersede l).mem = s.mem :=
  List.foldlRecOn l _ (motive := fun t : State => t.plan = s.plan ∧ t.mem = s.mem) ⟨rfl, rfl⟩
    fun t ht _ _ => ⟨(t.planResult_plan ..).trans ht.1, (t.planResult_mem ..).trans ht.2⟩

theorem State.supersede_reports (s : State) {l : List PlanReq} (h : l ≠ []) :
    (s.supersede l).getF F.TRACK_PLAN_SEARCH_OUTCOME = 7 ∧ (s.supersede l).event 0x092 1 = true := by
  obtain ⟨init, x, rfl⟩ := (List.eq_nil_or_concat l).resolve_left h
  unfold State.supersede
  rw [List.concat_eq_append, List.foldl_append]
  exact State.planResult_reports _ x _ 0 0 0 0 (by decide)

/-- The state in which a request is queued in place of one of the same machine. -/
def State.enqueued (s : State) (r : PlanReq) : State :=
  { s with plan := { s.plan with queue := (s.plan.queue.filter fun x => x.machine != r.machine) ++ [r] } }

section
variable {who : Initiator} {s : State} (ho : s.opens who 0x92060 true = true)
include ho

theorem exec_planSubmit_refused
    (h : 64 ≤ s.plan.queue.length ∨ s.flag F.TRACK_CTRL_PLAN_EN = false ∨ s.notActive = true ∨ s.pair.handoff ≠ none) :
    exec (.planSubmit who) s = .next ((s.accessErr 0x11 who 0x92060).respond 0 false) := by
  refine congrArg Host.Outcome.next ((State.command_of_opens ho).trans (congrArg (State.respond · 0 false) (if_pos ?_)))
  simpa [Option.isSome_iff_ne_none] using h

theorem exec_planSubmit_taken (hl : s.plan.queue.length < 64) (he : s.flag F.TRACK_CTRL_PLAN_EN = true) (ha : s.notActive = false)
    (hh : s.pair.handoff = none) : exec (.planSubmit who) s = .next (((s.enqueued s.stagedRequest).supersede
      (s.plan.queue.filter fun x => x.machine == s.stagedRequest.machine)).respond 0 false) := by
  refine congrArg Host.Outcome.next ((State.command_of_opens ho).trans (congrArg (State.respond · 0 false) (if_neg ?_)))
  simp [he, ha, hh, hl]

theorem planSubmit_completes (hl : s.plan.queue.length < 64) (he : s.flag F.TRACK_CTRL_PLAN_EN = true) (ha : s.notActive = false)
    (hh : s.pair.handoff = none) : Completes (.planSubmit who) s fun t =>
      t.plan.queue = (s.plan.queue.filter fun x => x.machine != s.stagedRequest.machine) ++ [s.stagedRequest] ∧ t.mem = s.mem ∧
      ((∀ x ∈ s.plan.queue, x.machine ≠ s.stagedRequest.machine) → t = { s with plan := t.plan, bus := ⟨0, false⟩ }) ∧
      ((∃ x ∈ s.plan.queue, x.machine = s.stagedRequest.machine) →
        t.getF F.TRACK_PLAN_SEARCH_OUTCOME = 7 ∧ t.event 0x092 1 = true) ∧
      t = { s with regs := t.regs, mbox := t.mbox, plan := { s.plan with queue := t.plan.queue }, bus := ⟨0, false⟩ } := by
  obtain ⟨hplan, hmem⟩ := (s.enqueued s.stagedRequest).supersede_kept
    (s.plan.queue.filter fun x => x.machine == s.stagedRequest.machine)
  have hqueued : Within requestsErased [0x9206C] s (s.enqueued s.stagedRequest) := .of_regs rfl rfl
  refine ⟨_, exec_planSubmit_taken ho hl he ha hh, congrArg PlanSt.queue hplan, hmem, fun h => ?_, fun ⟨x, hx, hm⟩ => ?_,
    (hqueued.trans (.supersede ..)).requests_only⟩
  · rw [List.filter_eq_nil_iff.2 fun x hx => by simpa using h x hx]
    rfl
  · exact State.supersede_reports _ (List.ne_nil_of_mem (List.mem_filter.2 ⟨hx, by simpa using hm⟩))

end

/-! ## Where a search begins and ends (R204, R465, R467) -/

theorem ClientFrame.clientProbe (s : State) (client index pages va n : Nat) :
    ClientFrame s (s.clientProbe client index pages va n).2 := by
  induction pages generalizing s va n with
  | zero => exact refl s
  | succ pages ih =>
    have h := clientAddr s client index va true
    unfold State.clientProbe
    dsimp only
    split
    · exact refl s
    · split
      · next heq => exact h.of_snd heq
      · next heq => exact (h.of_snd heq).trans (ih ..)

theorem KeepsBytes.clientProbe (s : State) (client index pages va n : Nat) : KeepsBytes s (s.clientProbe client index pages va n).2 := by
  induction pages generalizing s va n with
  | zero => exact refl s
  | succ pages ih =>
    have h := clientAddr s client index va true
    unfold State.clientProbe
    dsimp only
    split
    · exact refl s
    · split
      · next heq => exact h.of_snd heq
      · next heq => exact (h.of_snd heq).trans (ih ..)

/-- Locking translations changes the translation cache alone. -/
theorem State.dtuLock_only (s : State) (client index pages va : Nat) : s.dtuLock client index pages va =
    { s with mem := { s.mem with dtuCache := (s.dtuLock client index pages va).mem.dtuCache } } := by
  induction pages generalizing s va with
  | zero => rfl
  | succ pages ih =>
    unfold State.dtuLock
    exact (ih ..).trans rfl

theorem State.probeSlot_keeps (s : State) (m slot : Nat) : ClientFrame s (s.probeSlot m slot).2 ∧ KeepsBytes s (s.probeSlot m slot).2 := by
  have hframe := ClientFrame.clientProbe s 3 0 3 (s.segSlotVa m slot) 0x2000
  have hbytes := KeepsBytes.clientProbe s 3 0 3 (s.segSlotVa m slot) 0x2000
  unfold State.probeSlot
  split
  · next heq => exact ⟨hframe.of_snd heq, hbytes.of_snd heq⟩
  · next heq =>
    rw [State.dtuLock_only]
    exact ⟨(hframe.of_snd heq).trans (.withMem ..), (hbytes.of_snd heq).trans rfl⟩

/-- A search from S changes registers and the search in hand. -/
theorem State.searchFrom_only (s : State) (x : PlanSearch) : s.searchFrom x = { s with
    regs := (s.searchFrom x).regs
    plan := { s.plan with search := some { x with found := s.searchRun x.req x.s, ready := true } } } := by
  have hregs (t : State) (c : Prop) [Decidable c] (h : regsErased t = regsErased s) :
      regsErased (if c then t.raise 0x092 3 else t) = regsErased s := by
    split
    · exact (t.regsErased_setF ..).trans h
    · exact h
  have h := hregs (((s.unwipe 0x090).setF F.TRACK_PLAN_SEARCH_EXPANSIONS (s.searchRun x.req x.s).count).setF
    F.TRACK_PLAN_HEAP_PEAK_NODES (max (s.getF F.TRACK_PLAN_HEAP_PEAK_NODES) (s.searchRun x.req x.s).peak))
    ((s.searchRun x.req x.s).trimmed = true) (by
      rw [State.regsErased_setF, State.regsErased_setF]
      exact s.regsErased_setF _ _)
  exact congrArg (fun t : State => { t with
    regs := (s.searchFrom x).regs
    plan := { t.plan with search := some { x with found := s.searchRun x.req x.s, ready := true } } }) h

/-- What a search that has ended with an outcome leaves. -/
structure SearchEnded (s t : State) (out : Nat) : Prop where
  outcome : t.getF F.TRACK_PLAN_SEARCH_OUTCOME = out
  event : t.event 0x092 (if out = 0 then 0 else 1) = true
  plan : t.plan = { s.plan with search := none, shared := none, waiting := false }
  mem : t.mem = { s.mem with dtuCache := t.mem.dtuCache }
  frame : t = { s with regs := t.regs, mbox := t.mbox, mem := t.mem, bus := t.bus, plan := t.plan }
  reg : ∀ k, 0x40000 ≤ k → k ∉ logKeys → k ≠ 0x9206C → t.reg k = s.reg k
  events : ∀ p b, 0x40 ≤ p → s.event p b = true → t.event p b = true

/-- The state of the planner after a search. -/
def PlanSt.idle (p : PlanSt) : PlanSt := { p with search := none, shared := none, waiting := false }

theorem SearchEnded.of_queues {s u : State} {out : Nat} (h : Within queuesErased [0x9206C] s u)
    (houtcome : u.getF F.TRACK_PLAN_SEARCH_OUTCOME = out) (hevent : u.event 0x092 (if out = 0 then 0 else 1) = true) :
    SearchEnded s { u with plan := u.plan.idle }.dtuUnlock out where
  outcome := houtcome
  event := hevent
  plan := congrArg PlanSt.idle h.queues_plan
  mem := congrArg (fun m : MemSt => { m with dtuCache := { u with plan := u.plan.idle }.dtuUnlock.mem.dtuCache }) h.queues_mem
  frame := congrArg (fun y : State => { y with
    regs := u.regs, mbox := u.mbox, bus := u.bus, plan := u.plan.idle, mem := { u with plan := u.plan.idle }.dtuUnlock.mem }) h.frame
  reg k h0 h1 h2 := h.reg k h0 h1 (by simpa using h2)
  events := h.event

theorem State.planEnd_ends (s : State) (x : PlanSearch) (c : Committed) (hc : c.outcome < 16) : SearchEnded s (s.planEnd x c) c.outcome := by
  have htime (t : State) {f : Fld} (n : Nat) (hf : f.hi < 32) (hl : f.key ∈ logKeys) (h10 : f.key % 0x1000 ≠ 0x10) :
      Within regsErased [0x9206C] t (t.setF f n) := .setF t n hf (.inr ⟨.inl hl, h10⟩)
  have htimes := (htime s (f := F.TRACK_PLAN_LAST_US_US) ((s.now - x.since) / 1000) (by decide) (by decide) (by decide)).trans
    (htime _ (f := F.TRACK_PLAN_MAX_US_US) (max (s.getF F.TRACK_PLAN_MAX_US_US) ((s.now - x.since) / 1000)) (by decide) (by decide)
      (by decide))
  obtain ⟨houtcome, hevent⟩ := State.planResult_reports _ x.req x.found c.pid c.slot c.bumped c.arrival hc
  exact .of_queues (htimes.weaken.trans (.planResult_queues ..)) houtcome hevent

/-- With no store command waiting none starts (R229). -/
theorem State.resStart_idle {s : State} (h : s.plan.cmd = none) : s.resStart = s := by
  unfold State.resStart
  rw [h]

theorem SearchEnded.resStart {s t : State} {out : Nat} (h : SearchEnded s t out) (hc : s.plan.cmd = none) : t.resStart = t :=
  State.resStart_idle (by rw [h.plan]; exact hc)

/-! ## CANCEL (R204, R465) -/

theorem State.unqueue_queued (s : State) (p : PlanReq → Bool) : (s.unqueue p).plan.queue = s.plan.queue.filter fun r => !p r := by
  unfold State.unqueue
  dsimp only
  split
  · rw [State.raise, State.setF_plan]
  · rfl

/-- Everything but registers and the requests that wait. -/
def queueErased (s : State) : State := { s with regs := [], plan := { s.plan with queue := [] } }

theorem Within.unqueue {own : List Nat} (s : State) (p : PlanReq → Bool) : Within queueErased own s (s.unqueue p) := by
  have hremoved : Within queueErased own s { s with plan := { s.plan with queue := s.plan.queue.filter fun r => !p r } } :=
    .of_regs rfl rfl
  unfold State.unqueue
  exact ite (hremoved.trans (raise _ (by decide) (.inr (.inl (by decide)))).weaken) hremoved

/-- A CANCEL where no request is queued for the machine: the search in hand, if it is the machine's, is ended or marked. -/
def State.cancelSearch (s : State) (m : Nat) : State :=
  match s.plan.search with
  | some x =>
    if x.req.machine ≠ m then s
    else if x.ready then { s with plan := { s.plan with search := some { x with cancel := true } } }
    else ((s.dtuUnpause 3 0).planEnd x { outcome := 9 }).resStart
  | none => s

section
variable {who : Initiator} {m : Fin 256} {s : State} (ho : s.opens who 0x92084 true = true)
include ho

theorem planCancel_queued (h : ∃ x ∈ s.plan.queue, x.machine = m.val) : Completes (.planCancel who m) s fun t =>
    t.plan.queue = s.plan.queue.filter (fun x => x.machine != m.val) ∧ t.getF F.TRACK_PLAN_SEARCH_OUTCOME = 9 ∧ t.event 0x092 1 = true ∧
      t = { s with regs := t.regs, mbox := t.mbox, plan := { s.plan with queue := t.plan.queue }, bus := ⟨0, false⟩ } := by
  obtain ⟨y, hy, hm⟩ := h
  obtain ⟨r, hr⟩ : ∃ r, (s.plan.queue.find? fun r => r.machine == m.val) = some r :=
    Option.isSome_iff_exists.1 (List.find?_isSome.2 ⟨y, hy, by simpa using hm⟩)
  have hx : exec (.planCancel who m) s =
      .next (((s.unqueue fun x => x.machine == m.val).planResult r { outcome := 9 } 9 0 0 0 0).respond 0 false) := by
    refine congrArg Host.Outcome.next ((State.command_of_opens ho).trans (congrArg (State.respond · 0 false) ?_))
    rw [hr]
  obtain ⟨houtcome, hevent⟩ := (s.unqueue fun x => x.machine == m.val).planResult_reports r { outcome := 9 } 0 0 0 0 (out := 9) (by decide)
  have hkept : Within requestsErased [0x9206C] s _ :=
    (Within.unqueue s fun x => x.machine == m.val).weaken.trans (Within.planResult_queues _ r { outcome := 9 } 9 0 0 0 0).weaken
  exact ⟨_, hx, (congrArg PlanSt.queue (State.planResult_plan ..)).trans (s.unqueue_queued _), houtcome, hevent, hkept.requests_only⟩

variable (hq : ∀ r ∈ s.plan.queue, r.machine ≠ m.val)
include hq

theorem exec_planCancel_unqueued : exec (.planCancel who m) s = .next ((s.cancelSearch m.val).respond 0 false) := by
  have hnone : (s.plan.queue.find? fun r => r.machine == m.val) = none :=
    List.find?_eq_none.2 fun r hr => by simpa using hq r hr
  refine congrArg Host.Outcome.next ((State.command_of_opens ho).trans (congrArg (State.respond · 0 false) ?_))
  rw [hnone]
  rfl

theorem exec_planCancel_running {x : PlanSearch} (hs : s.plan.search = some x) (hm : x.req.machine = m.val) (hr : x.ready = true) :
    exec (.planCancel who m) s =
      .next ({ s with plan := { s.plan with search := some { x with cancel := true } } }.respond 0 false) := by
  rw [exec_planCancel_unqueued ho hq, State.cancelSearch, hs]
  simp [hm, hr]

theorem exec_planCancel_other (hs : ∀ x, s.plan.search = some x → x.req.machine ≠ m.val) :
    exec (.planCancel who m) s = .next (s.respond 0 false) := by
  rw [exec_planCancel_unqueued ho hq, State.cancelSearch]
  cases h : s.plan.search with
  | none => rfl
  | some x => simp [hs x h]

theorem planCancel_paused {x : PlanSearch} (hs : s.plan.search = some x) (hm : x.req.machine = m.val) (hr : x.ready = false)
    (hc : s.plan.cmd = none) : Completes (.planCancel who m) s fun t => t.plan.search = none ∧ t.getF F.TRACK_PLAN_SEARCH_OUTCOME = 9 ∧
      t.event 0x092 1 = true ∧ t.dtuIsPaused 3 0 = false ∧ t.mem.bytes = s.mem.bytes ∧
      t = { s with
        regs := t.regs, mbox := t.mbox, mem := t.mem, bus := ⟨0, false⟩
        plan := { s.plan with search := none, shared := none, waiting := false } } := by
  have hend := (s.dtuUnpause 3 0).planEnd_ends x { outcome := 9 } (by decide)
  have hx : exec (.planCancel who m) s = .next (((s.dtuUnpause 3 0).planEnd x { outcome := 9 }).respond 0 false) := by
    rw [exec_planCancel_unqueued ho hq, State.cancelSearch, hs]
    simp [hm, hr, hend.resStart hc]
  have hpaused : ((s.dtuUnpause 3 0).planEnd x { outcome := 9 }).dtuIsPaused 3 0 = false := by
    rw [State.dtuIsPaused, hend.mem]
    simp [State.dtuUnpause]
  refine ⟨_, hx, congrArg PlanSt.search hend.plan, hend.outcome, hend.event, hpaused, ?_, ?_⟩
  · exact (congrArg MemSt.bytes hend.mem :)
  · exact congrArg (State.respond · 0 false) (hend.frame.trans (by rw [hend.plan]))

end

/-! ## SEARCH_START (R204, R465) -/

theorem State.liveTick_of_ticking {s : State} {p : Nat} (h : s.ticking p = true) (r : Res) : s.liveTick p r = r := if_pos h

theorem State.liveTick_of_still {s : State} {p : Nat} (h : s.ticking p = false) (r : Res) : s.liveTick p r = .next s :=
  if_neg (by rw [h]; exact Bool.false_ne_true)

/-- Everything but what the start of a search reaches. -/
def startErased (s : State) : State :=
  { s with regs := [], fifos := [], mem := {}, freeCtr := 0, plan := { s.plan with queue := [], search := none } }

theorem startErased_only {s t : State} (h : startErased t = startErased s) : t = { s with
    regs := t.regs, fifos := t.fifos, mem := t.mem, freeCtr := t.freeCtr
    plan := { s.plan with queue := t.plan.queue, search := t.plan.search } } :=
  congrArg (fun x : State => { x with
    regs := t.regs, fifos := t.fifos, mem := t.mem, freeCtr := t.freeCtr
    plan := { x.plan with queue := t.plan.queue, search := t.plan.search } }) h

theorem ClientFrame.startErased {s t : State} (h : ClientFrame s t) : startErased t = startErased s := by
  rw [h.frame]
  rfl

/-- What the start of a search leaves: the search in hand is the request's from this tick on, not cancelled. -/
structure SearchStarted (s t : State) (r : PlanReq) : Prop where
  search : ∃ y, t.plan.search = some y ∧ y.req = r ∧ y.s = s.planTick ∧ y.cancel = false
  queue : t.plan.queue = s.plan.queue
  bytes : t.mem.bytes = s.mem.bytes
  frame : startErased t = startErased s

theorem State.planSearch_starts (s : State) {x : PlanSearch} (hx : x.s = s.planTick) (hc : x.cancel = false) :
    SearchStarted s (s.planSearch x) x.req := by
  obtain ⟨hframe, hbytes⟩ := s.probeSlot_keeps x.req.machine (1 - s.planSlot x.req.machine)
  unfold State.planSearch
  split
  · next t heq =>
    replace hframe := hframe.of_snd heq
    replace hbytes := hbytes.of_snd heq
    have hqueue : t.plan.queue = s.plan.queue := by rw [hframe.frame]
    exact ⟨⟨_, rfl, rfl, hx, hc⟩, hqueue, hbytes, hframe.startErased⟩
  · next t heq =>
    replace hframe := hframe.of_snd heq
    replace hbytes := hbytes.of_snd heq
    have hqueue : t.plan.queue = s.plan.queue := by rw [hframe.frame]
    have htick : t.planTick = s.planTick := congrArg (fun x : TimeSt => x.out / nsUnit / 10000000 % 2 ^ 32) hframe.time
    rw [t.searchFrom_only]
    exact ⟨⟨_, rfl, rfl, htick, hc⟩, hqueue, hbytes, hframe.startErased⟩

section
variable {s : State} {r : PlanReq} {q : List PlanReq} (ht : s.ticking 0x090 = true) (hq : s.plan.queue = r :: q)
include ht hq

theorem exec_searchStart : exec .searchStart s = .next
    (if s.plan.search.isSome || s.plan.cmd.isSome || s.flag F.TRACK_RES_CMD_STAT_BUSY || s.notActive then s
     else (s.unqueue fun y => y.machine == r.machine).planSearch { req := r, s := s.planTick, since := s.now, found := { outcome := 1 } }) := by
  refine (State.liveTick_of_ticking ht _).trans (congrArg Host.Outcome.next ?_)
  rw [hq]

theorem exec_searchStart_waits
    (h : s.plan.search ≠ none ∨ s.plan.cmd ≠ none ∨ s.flag F.TRACK_RES_CMD_STAT_BUSY = true ∨ s.notActive = true) :
    exec .searchStart s = .next s := by
  rw [exec_searchStart ht hq, if_pos]
  simpa [Option.isSome_iff_ne_none, or_assoc] using h

theorem searchStart_completes (hs : s.plan.search = none) (hc : s.plan.cmd = none) (hb : s.flag F.TRACK_RES_CMD_STAT_BUSY = false)
    (ha : s.notActive = false) : Completes .searchStart s fun t => t.plan.queue = q.filter (fun x => x.machine != r.machine) ∧
      (∃ x, t.plan.search = some x ∧ x.req = r ∧ x.s = s.planTick ∧ x.cancel = false) ∧ t.mem.bytes = s.mem.bytes ∧
      t = { s with
        regs := t.regs, fifos := t.fifos, mem := t.mem, freeCtr := t.freeCtr
        plan := { s.plan with queue := t.plan.queue, search := t.plan.search } } := by
  have hun := (Within.unqueue (own := []) s fun y => y.machine == r.machine).frame
  have htime : (s.unqueue fun y => y.machine == r.machine).planTick = s.planTick := (congrArg State.planTick hun :)
  have hmem : (s.unqueue fun y => y.machine == r.machine).mem = s.mem := (congrArg State.mem hun :)
  have hqueue := s.unqueue_queued fun y => y.machine == r.machine
  obtain ⟨⟨y, hy, hreq, hys, hcancel⟩, hq', hbytes, hframe⟩ := (s.unqueue fun y => y.machine == r.machine).planSearch_starts
    (x := { req := r, s := s.planTick, since := s.now, found := { outcome := 1 } }) htime.symm rfl
  refine ⟨_, (exec_searchStart ht hq).trans (by rw [if_neg]; simp [hs, hc, hb, ha]), hq'.trans (hqueue.trans ?_),
    ⟨y, hy, hreq, hys.trans htime, hcancel⟩, hbytes.trans (congrArg MemSt.bytes hmem), ?_⟩
  · rw [hq]
    simp [bne]
  · exact startErased_only (hframe.trans (congrArg startErased hun :))

end

end Sys2Proof.Machine
end

section
/-! COMMIT: the end of a search that has run, and the words of the machine's record that a commit writes (R202, R204, R205, R212). -/

namespace Sys2Proof.Machine

/-! ## The planner's words (R202) -/

theorem State.machWord_planWords {s : State} {m i v : Nat} (hm : m < 256) (upd : List (Nat × Nat)) (h1 : 1 ≤ i) (hi : i < 16)
    (hu : upd.find? (fun u => u.1 == i) = some (i, v)) :
    (s.planWords m upd).machWord m i = v % 2 ^ 32 := by
  obtain ⟨k, rfl⟩ : ∃ k, i = k + 1 := ⟨i - 1, by omega⟩
  refine (State.recordWord_rest inFleet_machines hm (by simp) h1 (by simp; omega)).trans ?_
  simp [List.getD_eq_getElem?_getD, List.getElem?_range hi, hu]

theorem State.machWord_planWords_other {s : State} {m k i : Nat} (upd : List (Nat × Nat)) (hk : k < 256) (hkm : k ≠ m) (hi : i < 16) :
    (s.planWords m upd).machWord k i = s.machWord k i :=
  State.recordWord_otherRecord inFleet_machines (by simp) hk hkm hi

/-! ## The words of a commit (R212) -/

theorem KeepsTables.writeSlot (s : State) (m slot : Nat) (b : List Byte) : KeepsTables s (s.writeSlot m slot b) := by
  unfold State.writeSlot
  exact of_fleet (((KeepsFleet.clientWrite (client := 3) (by decide) _ _ _ _).trans
    (KeepsFleet.clientWrite (client := 3) (by decide) _ _ _ _)).trans (KeepsBytes.jnoteObj ..).fleet)

theorem KeepsTables.of_mem {s t : State} (h : t.mem = s.mem) : KeepsTables s t := of_bytes (congrArg MemSt.bytes h)

/-- What a commit writes to the machine's record; other records stay. -/
structure Committed.Words (s t : State) (m pid : Nat) : Prop where
  plan : t.machWord m 8 = pid
  active : t.planActive m = true
  other : ∀ k i, k < 256 → k ≠ m → i < 16 → t.machWord k i = s.machWord k i

theorem Committed.Words.kept {s t u : State} {m pid : Nat} (h : Committed.Words s t m pid) (hm : m < 256) (k : KeepsTables t u) :
    Committed.Words s u m pid where
  plan := (k.machWord hm (by decide)).trans h.plan
  active := (congrArg (bitAt · 0) (k.machWord hm (by decide))).trans h.active
  other j i hj hjm hi := (k.machWord hj hi).trans (h.other j i hj hjm hi)

theorem State.machWord_trackMake (s : State) (m start seq : Nat) (segs : List Segment) (k i : Nat) :
    (s.trackMake m start seq segs).machWord k i = s.machWord k i := State.memLE_congr fun _ _ _ => rfl

theorem State.machWord_segCut (s : State) (m k i : Nat) : (s.segCut m).machWord k i = s.machWord k i := State.memLE_congr fun _ _ _ => rfl

theorem State.commitRecord_words (s : State) (x : PlanSearch) {pid : Nat} (hp : pid < 2 ^ 32) (hm : x.req.machine < 256) :
    Committed.Words s (s.commitRecord x none pid).2 x.req.machine pid where
  plan := by
    unfold State.commitRecord
    dsimp only
    rw [State.machWord_trackMake, State.machWord_planWords hm _ (by decide) (by decide) rfl, Nat.mod_eq_of_lt hp]
  active := by
    unfold State.commitRecord State.planActive
    dsimp only
    rw [State.machWord_trackMake, State.machWord_planWords hm _ (by decide) (by decide) rfl, bitAt, beq_iff_eq]
    omega
  other k i hk hkm hi := by
    unfold State.commitRecord
    dsimp only
    rw [State.machWord_trackMake, State.machWord_planWords_other _ hk hkm hi, State.machWord_segCut]
    exact (KeepsTables.writeSlot ..).machWord hk hi

theorem Within.messages_mem {own : List Nat} {s t : State} (h : Within messagesErased own s t) : t.mem = s.mem :=
  (congrArg State.mem h.frame :)

theorem Within.offer_mem {own : List Nat} {s t : State} (h : Within offerErased own s t) : t.mem = s.mem :=
  (congrArg State.mem h.frame :)

theorem State.leadTell_mem (s before : State) : (s.leadTell before).mem = s.mem :=
  (Within.leadTell (own := [0xF1060]) s before (by decide)).messages_mem

theorem State.journal_mem {s : State} (h : s.pairActive = false) (src : Nat) : (s.journal src).mem = s.mem := by
  rw [State.journal_of_unpaired h]

/-- A commit by a unit without a partner makes no journal transaction: after the machine's record no word of a table changes. -/
theorem State.commitTail_words (s before : State) (x : PlanSearch) {pid : Nat} (hr : s.role = 0) (hp : pid < 2 ^ 32)
    (hm : x.req.machine < 256) : Committed.Words s (s.commitTail before x none pid []) x.req.machine pid := by
  have htold : Within commitErased [0xF1060] s ((s.commitRecord x none pid).2.leadTell before) :=
    (Within.commitRecord ..).trans (Within.leadTell _ _ (by decide)).weaken
  have hout (t : State) (plan start n : Nat) : (t.output (.table x.req.machine plan start n)).mem = t.mem :=
    (Within.outputTable (own := []) t x.req.machine plan start n).offer_mem
  refine (s.commitRecord_words x hp hm).kept hm ((KeepsTables.of_mem (State.leadTell_mem _ before)).trans ?_)
  rw [State.commitTail, List.nil_append, List.foldl_cons, List.foldl_nil]
  refine (KeepsTables.of_mem (State.journal_mem ?_ 1)).trans (.of_mem (hout ..))
  exact State.pairActive_of_unpaired hr (htold.reg _ (by decide) (by decide) (by decide))

/-- The records of a plan in place of those that its machine gives up. -/
def State.commitRecs (s : State) (x : PlanSearch) : State :=
  (s.planRsvs x).foldl (fun t r => t.rsvAdd { r with tag := s.newPlanId.1 % 4096 }) (s.newPlanId.2.rsvFreeAll (s.commitFrees x.req.machine x.s))

theorem Within.commitRecs {own : List Nat} (s : State) (x : PlanSearch) : Within commitErased own s.newPlanId.2 (s.commitRecs x) :=
  ((rsvFreeAll ..).trans (foldl (fun t _ => rsvAdd t _) _ _)).weaken

theorem KeepsTables.commitRecs (s : State) (x : PlanSearch) : KeepsTables s (s.commitRecs x) :=
  (KeepsTables.trans (t := s.newPlanId.2) (of_bytes ((KeepsBytes.setF ..).trans (.jnoteObj ..))) (rsvFreeAll ..)).trans
    (foldl (fun t _ => rsvAdd t _) _ _)

section
variable {s : State} {x : PlanSearch} (hb : x.found.bumps = [])
include hb

theorem State.commitPlan_unbumped (hroom : s.rsvRoom ((s.planRsvs x).map fun r => r.cell)
    ((s.commitFrees x.req.machine x.s).map fun i => (s.rsv i).cell) = true) :
    (s.commitPlan x none).1.outcome = 0 ∧ (s.commitPlan x none).2 = (s.commitRecs x).commitTail s x none s.newPlanId.1 [] := by
  unfold State.commitPlan
  simp only [hb, List.flatMap_nil, List.append_nil, hroom, Bool.not_true, List.foldl_nil, Bool.false_eq_true, if_false, true_and]
  unfold State.commitTail State.commitRecord State.commitRecs
  simp only [List.nil_append]

theorem State.planFinish_unfit (hf : s.planFits x = false) : s.planFinish x = s.searchFrom x := by
  unfold State.planFinish
  simp [hb, hf]

theorem State.planFinish_unshared (hf : s.planFits x = true) (hs : (s.planRsvs x).filter s.rsvShared = []) :
    s.planFinish x = (s.commitPlan x none).2.planEnd x (s.commitPlan x none).1 := by
  unfold State.planFinish
  simp [hb, hf, hs]

end

theorem State.newPlanId_lt (s : State) : s.newPlanId.1 < 2 ^ 32 := by
  have hm : s.getF F.CASC_CTRL_MEMBER < 2 ^ 4 := s.getF_lt (f := F.CASC_CTRL_MEMBER) (by decide)
  unfold State.newPlanId State.member
  dsimp only
  omega

theorem State.newPlanId_seq (s : State) :
    s.newPlanId.2.getF F.TRACK_PLAN_COMMIT_SEQ_SEQ = (s.getF F.TRACK_PLAN_COMMIT_SEQ_SEQ + 1) % 2 ^ 28 := by
  have hnoted (t : State) : (t.jnoteObj 0x0B 0 []).getF F.TRACK_PLAN_COMMIT_SEQ_SEQ = t.getF F.TRACK_PLAN_COMMIT_SEQ_SEQ :=
    (Within.jnoteObj (own := []) ..).getF (by decide) (by decide) (by decide) (by decide)
  refine (hnoted _).trans ((State.getF_setF_same (by decide) (by decide)).trans (Nat.mod_eq_of_lt (Nat.mod_lt _ (by decide))))

/-! ## COMMIT -/

/-- What a search that has ended leaves, the outcome apart. -/
def CommitEnded (s t : State) : Prop :=
  t.mem = { s.mem with dtuCache := t.mem.dtuCache } ∧
    t = { s with
      regs := t.regs, mbox := t.mbox, mem := t.mem, bus := t.bus
      plan := { s.plan with search := none, shared := none, waiting := false } }

/-- A commit, and the end of its search. -/
theorem commitErased_only {s t u : State} (h : commitErased t = commitErased s)
    (k : u = { t with regs := u.regs, mbox := u.mbox, mem := u.mem, bus := u.bus, plan := u.plan }) : u = { s with
      regs := u.regs, fifos := u.fifos, mem := u.mem, freeCtr := u.freeCtr, zone := u.zone, pair := u.pair, plan := u.plan
      seg := u.seg, mbox := u.mbox, bus := u.bus } := by
  generalize u.regs = regs, u.mbox = mbox, u.mem = mem, u.bus = bus, u.plan = plan at k
  subst k
  exact congrArg (fun y : State => { y with
    regs := regs, fifos := t.fifos, mem := mem, freeCtr := t.freeCtr, zone := t.zone, pair := t.pair, plan := plan
    seg := t.seg, mbox := mbox, bus := bus }) h

theorem SearchEnded.commitEnded {s t : State} {out : Nat} (h : SearchEnded s t out) : CommitEnded s t :=
  ⟨h.mem, h.frame.trans (by rw [h.plan])⟩

section
variable {x : PlanSearch} {s : State} (ht : s.ticking 0x090 = true) (hs : s.plan.search = some x)
include ht hs

theorem exec_planCommit : exec .planCommit s = .next
    (if !x.ready || s.plan.shared.isSome then s
     else if x.cancel || s.notActive then (s.planEnd x { outcome := 9 }).resStart
     else if x.found.outcome ≠ 0 then (s.planEnd x { outcome := x.found.outcome }).resStart
     else (s.planFinish x).resStart) := by
  refine (State.liveTick_of_ticking ht _).trans (congrArg Host.Outcome.next ?_)
  rw [hs]

theorem exec_planCommit_waits (h : x.ready = false ∨ s.plan.shared ≠ none) : exec .planCommit s = .next s := by
  rw [exec_planCommit ht hs, if_pos]
  simpa [Option.isSome_iff_ne_none] using h

variable (hr : x.ready = true) (hh : s.plan.shared = none)
include hr hh

theorem exec_planCommit_ready : exec .planCommit s = .next
    (if x.cancel || s.notActive then (s.planEnd x { outcome := 9 }).resStart
     else if x.found.outcome ≠ 0 then (s.planEnd x { outcome := x.found.outcome }).resStart
     else (s.planFinish x).resStart) := by
  rw [exec_planCommit ht hs, if_neg]
  simp [hr, hh]

theorem planCommit_cancelled (h : x.cancel = true ∨ s.notActive = true) (hc : s.plan.cmd = none) : Completes .planCommit s fun t =>
    t.getF F.TRACK_PLAN_SEARCH_OUTCOME = 9 ∧ t.event 0x092 1 = true ∧ CommitEnded s t := by
  have hend := s.planEnd_ends x { outcome := 9 } (by decide)
  refine ⟨_, (exec_planCommit_ready ht hs hr hh).trans ?_, hend.outcome, hend.event, hend.commitEnded⟩
  rw [if_pos (by simpa using h), hend.resStart hc]

variable (hn : x.cancel = false) (ha : s.notActive = false)
include hn ha

theorem planCommit_failed (h0 : x.found.outcome ≠ 0) (h16 : x.found.outcome < 16) (hc : s.plan.cmd = none) :
    Completes .planCommit s fun t =>
      t.getF F.TRACK_PLAN_SEARCH_OUTCOME = x.found.outcome ∧ t.event 0x092 1 = true ∧ CommitEnded s t := by
  have hend := s.planEnd_ends x { outcome := x.found.outcome } h16
  refine ⟨_, (exec_planCommit_ready ht hs hr hh).trans ?_, hend.outcome, ?_, hend.commitEnded⟩
  · rw [if_neg (by simp [hn, ha]), if_pos h0, hend.resStart hc]
  · exact (congrArg (fun b => (s.planEnd x { outcome := x.found.outcome }).event 0x092 b) (if_neg h0).symm).trans hend.event

theorem exec_planCommit_found (h0 : x.found.outcome = 0) : exec .planCommit s = .next (s.planFinish x).resStart := by
  rw [exec_planCommit_ready ht hs hr hh, if_neg (by simp [hn, ha]), if_neg (not_not_intro h0)]

variable (h0 : x.found.outcome = 0) (hb : x.found.bumps = [])
include h0 hb

theorem planCommit_again (hf : s.planFits x = false) (hc : s.plan.cmd = none) : Completes .planCommit s fun t =>
    (∃ y, t.plan.search = some y ∧ y.req = x.req ∧ y.s = x.s ∧ y.ready = true) ∧
      t = { s with regs := t.regs, plan := { s.plan with search := t.plan.search } } := by
  have honly := s.searchFrom_only x
  have hplan : (s.searchFrom x).plan = { s.plan with search := some { x with found := s.searchRun x.req x.s, ready := true } } :=
    congrArg State.plan honly
  refine ⟨s.searchFrom x, ?_, ⟨_, congrArg PlanSt.search hplan, rfl, rfl, rfl⟩, honly.trans (by rw [hplan])⟩
  rw [exec_planCommit_found ht hs hr hh hn ha h0, State.planFinish_unfit hb hf,
    State.resStart_idle ((congrArg PlanSt.cmd hplan).trans hc)]

theorem planCommit_commits (hrole : s.role = 0) (hf : s.planFits x = true) (hsh : (s.planRsvs x).filter s.rsvShared = [])
    (hm : x.req.machine < 256) (hroom : s.rsvRoom ((s.planRsvs x).map fun r => r.cell)
      ((s.commitFrees x.req.machine x.s).map fun i => (s.rsv i).cell) = true) (hc : s.plan.cmd = none) :
    Completes .planCommit s fun t => t.plan.search = none ∧ t.getF F.TRACK_PLAN_SEARCH_OUTCOME = 0 ∧ t.event 0x092 0 = true ∧
      t.getF F.TRACK_PLAN_COMMIT_SEQ_SEQ = (s.getF F.TRACK_PLAN_COMMIT_SEQ_SEQ + 1) % 2 ^ 28 ∧
      Committed.Words s t x.req.machine s.newPlanId.1 ∧
      t = { s with
        regs := t.regs, fifos := t.fifos, mem := t.mem, freeCtr := t.freeCtr, zone := t.zone, pair := t.pair, plan := t.plan
        seg := t.seg, mbox := t.mbox, bus := t.bus } := by
  obtain ⟨hout, hcommit⟩ := State.commitPlan_unbumped hb hroom
  have hrecs := (Within.newPlanId (own := [0x9208C]) s (by decide)).weaken.trans (Within.commitRecs s x)
  have htail : Within commitErased [0xF1060] s.newPlanId.2 (s.commitPlan x none).2 := by
    rw [hcommit]
    exact (Within.commitRecs s x).trans (.commitTail _ _ _ _ _ _ (by decide))
  have hwords : Committed.Words s (s.commitPlan x none).2 x.req.machine s.newPlanId.1 := by
    have hrole' : (s.commitRecs x).role = 0 := (hrecs.getF (by decide) (by decide) (by decide) (by decide)).trans hrole
    rw [hcommit]
    obtain ⟨hplan, hactive, hother⟩ := (s.commitRecs x).commitTail_words s x hrole' s.newPlanId_lt hm
    exact ⟨hplan, hactive, fun k i hk hkm hi => (hother k i hk hkm hi).trans ((KeepsTables.commitRecs s x).machWord hk hi)⟩
  have hplan := (Within.commitPlan s x none).frame
  have hend := (s.commitPlan x none).2.planEnd_ends x (s.commitPlan x none).1 (by rw [hout]; decide)
  rw [hout] at hend
  refine ⟨_, ?_, congrArg PlanSt.search hend.plan, hend.outcome, hend.event, ?_, hwords.kept hm ?_, ?_⟩
  · rw [exec_planCommit_found ht hs hr hh hn ha h0, State.planFinish_unshared hb hf hsh, hend.resStart]
    exact (congrArg (fun t : State => t.plan.cmd) hplan :).trans hc
  · exact (State.getF_of_reg_eq (by decide) (hend.reg _ (by decide) (by decide) (by decide))).trans
      ((htail.getF (by decide) (by decide) (by decide) (by decide)).trans s.newPlanId_seq)
  · exact .of_bytes (congrArg MemSt.bytes hend.mem :)
  · exact commitErased_only hplan hend.frame

end

theorem exec_searchStart_none {s : State} (h : s.ticking 0x090 = false ∨ s.plan.queue = []) : exec .searchStart s = .next s := by
  cases ht : s.ticking 0x090 with
  | false => exact State.liveTick_of_still ht _
  | true =>
    refine (State.liveTick_of_ticking ht _).trans (congrArg Host.Outcome.next ?_)
    rw [h.resolve_left (by simp [ht])]

/-- Settles O36. A result, a request in the queue and a search that ends touch each its own part of the state (`Within`, `SearchEnded`); of a
commit the words of the machine's record are read back (`Committed.Words`). -/
theorem planRequests : Obligations.PlanRequests := by
  unfold Obligations.PlanRequests
  refine ⟨fun who s ho => ⟨exec_planSubmit_refused ho, planSubmit_completes ho⟩,
    fun who m s ho => ⟨planCancel_queued ho, fun x hq => planCancel_paused ho hq, fun x hq => exec_planCancel_running ho hq,
      exec_planCancel_other ho⟩,
    fun r q s ht hq => ⟨exec_searchStart_waits ht hq, searchStart_completes ht hq⟩,
    fun s => exec_searchStart_none,
    fun x s ht hs hc => ⟨exec_planCommit_waits ht hs, fun hr hh => ⟨fun h => planCommit_cancelled ht hs hr hh h hc,
      fun hn ha h0 h16 => planCommit_failed ht hs hr hh hn ha h0 h16 hc,
      fun hn ha h0 hb hf => planCommit_again ht hs hr hh hn ha h0 hb hf hc, ?_⟩⟩⟩
  intro hn hrole h0 hb hf hsh hm hroom
  obtain ⟨t, hx, hsearch, houtcome, hevent, hseq, ⟨hplan, hactive, hother⟩, hframe⟩ :=
    planCommit_commits ht hs hr hh hn (State.notActive_of_unpaired hrole) h0 hb hrole hf hsh hm hroom hc
  exact ⟨t, hx, hsearch, houtcome, hevent, hseq, hplan, hactive, hother, hframe⟩

end Sys2Proof.Machine
end

section
/-! Shared cells: how the lead serves a request, and what a member does with the reply (R224 to R226, R409). -/

namespace Sys2Proof.Machine

/-! ## Messages received -/

theorem State.onMsg_of_received {s s1 : State} {type : Nat} {m : Msg} (h : s.received type = (some m, s1)) (k : Msg → State → State) :
    s.onMsg type k = k m s1 := by
  unfold State.received at h
  unfold State.onMsg
  generalize s.takeMsg type _ = r at h ⊢
  obtain ⟨o, t⟩ := r
  obtain ⟨rfl, rfl⟩ := Prod.mk.inj h
  rfl

theorem State.onMsg_of_none {s s1 : State} {type : Nat} (h : s.received type = (none, s1)) (k : Msg → State → State) :
    s.onMsg type k = s1 := by
  unfold State.received at h
  unfold State.onMsg
  generalize s.takeMsg type _ = r at h ⊢
  obtain ⟨o, t⟩ := r
  obtain ⟨rfl, rfl⟩ := Prod.mk.inj h
  rfl

/-! ## The lead serves a request (R226, R409) -/

/-- The key of a request's serial record: its member and machine. -/
def serialKey (b : List Byte) : Nat := bitsOf (wordAt b 0) 15 12 * 256 + bitsOf (wordAt b 0) 23 16

/-- The records of a request or an update, as the store keeps them. -/
def sharedRecs (b : List Byte) : List Rsv :=
  (msgRecords b (wordAt b 0 / 0x1000000)).map fun r => { r with member := bitsOf (wordAt b 0) 15 12, machine := bitsOf (wordAt b 0) 23 16 }

/-- The records that a request with records replaces. -/
def State.sharedGone (s : State) (b : List Byte) : List Rsv :=
  (s.sharedOf (bitsOf (wordAt b 0) 15 12) (bitsOf (wordAt b 0) 23 16) (some (wordAt b 12))).filter fun r => !r.doubt

/-- The lead keeps the serial of a request with its RESULT, and answers. -/
def State.shrAnswer (s : State) (b : List Byte) (result bad : Nat) : State :=
  ((s.setSerialRec (serialKey b) ⟨wordAt b 4, result, bad, wordAt b 8⟩).journal 5).output
    (.reply (bitsOf (wordAt b 0) 15 12) (replyBody (wordAt b 0) result (wordAt b 4) (wordAt b 8) bad))

section
variable {s : State} {b : List Byte}

theorem State.shrServe_notLead (hl : s.isLead = false) : s.shrServe b =
    s.letGo (.reply (bitsOf (wordAt b 0) 15 12) (replyBody (wordAt b 0) 3 (wordAt b 4) (wordAt b 8) 0xFF)) := by
  unfold State.shrServe
  exact if_pos (by rw [hl]; rfl)

variable (hl : s.isLead = true) (hk : s.serialRec (serialKey b) = none) (hc : wordAt b 0 / 0x1000000 ≠ 0)
include hl hk hc

theorem State.shrServe_bad {i : Nat} (hb : s.firstBad (sharedRecs b) = some i) : s.shrServe b = s.shrAnswer b 1 i := by
  unfold serialKey at hk
  unfold sharedRecs at hb
  unfold State.shrServe
  simp only [hl, hk, hc, hb, Bool.not_true, Bool.false_eq_true, if_false]
  rfl

variable (hb : s.firstBad (sharedRecs b) = none)
include hb

theorem State.shrServe_full (hr : s.rsvRoom ((sharedRecs b).map fun r => r.cell) ((s.sharedGone b).map fun r => r.cell) = false) :
    s.shrServe b = (s.raise 0x091 1).shrAnswer b 2 0xFF := by
  unfold serialKey at hk
  unfold sharedRecs at hb
  unfold sharedRecs State.sharedGone at hr
  unfold State.shrServe
  simp only [hl, hk, hc, hb, hr, Bool.not_true, Bool.not_false, Bool.false_eq_true, if_false, if_true]
  rfl

theorem State.shrServe_granted (hr : s.rsvRoom ((sharedRecs b).map fun r => r.cell) ((s.sharedGone b).map fun r => r.cell) = true) :
    s.shrServe b = ((s.sharedWrite (s.sharedGone b) (sharedRecs b)).nextUpdate (bitsOf (wordAt b 0) 15 12) (bitsOf (wordAt b 0) 23 16)
      (wordAt b 8) (wordAt b 12)).shrAnswer b 0 0xFF := by
  unfold serialKey at hk
  unfold sharedRecs at hb
  unfold sharedRecs State.sharedGone at hr
  unfold State.shrServe
  simp only [hl, hk, hc, hb, hr, Bool.not_true, Bool.false_eq_true, if_false]
  rfl

end

/-- The state in which a serial record is kept. -/
def State.withSerial (s : State) (k : Nat) (r : SerialRec) : State :=
  { s with pair := { s.pair with serials := Assoc.put (fun _ => none) s.pair.serials k (some r) } }

/-- The serial records kept lie in none of the parts that the journal and messages reach. -/
theorem Within.serialRec {own : List Nat} {s t : State} (h : Within journalErased own s t) (k : Nat) : t.serialRec k = s.serialRec k :=
  (congrArg (State.serialRec · k) h.frame :)

theorem Within.used {own : List Nat} {s t : State} (h : Within journalErased own s t) : t.plan.used = s.plan.used :=
  (congrArg (fun x : State => x.plan.used) h.frame :)

/-- Everything but what the journal and messages reach and the serials kept. -/
theorem Within.shrAnswer {own : List Nat} (s : State) (b : List Byte) (result bad : Nat) :
    Within journalErased own (s.withSerial (serialKey b) ⟨wordAt b 4, result, bad, wordAt b 8⟩) (s.shrAnswer b result bad) :=
  ((jnoteObj ..).weaken.trans (journal ..)).trans (outputReply ..)

theorem State.shrAnswer_serial (s : State) (b : List Byte) (result bad : Nat) :
    (s.shrAnswer b result bad).serialRec (serialKey b) = some ⟨wordAt b 4, result, bad, wordAt b 8⟩ :=
  ((Within.shrAnswer (own := []) s b result bad).serialRec _).trans Assoc.get_put_same

theorem State.shrAnswer_used (s : State) (b : List Byte) (result bad : Nat) : (s.shrAnswer b result bad).plan.used = s.plan.used :=
  (Within.shrAnswer (own := []) s b result bad).used

theorem Within.shrAnswer_store {own : List Nat} (s : State) (b : List Byte) (result bad : Nat) :
    Within storeErased own s (s.shrAnswer b result bad) := by
  have hserial : Within storeErased own s (s.withSerial (serialKey b) ⟨wordAt b 4, result, bad, wordAt b 8⟩) := .of_regs rfl rfl
  exact hserial.trans (shrAnswer ..).weaken

theorem storeErased_only {s t : State} (h : storeErased t = storeErased s) : t = { s with
    regs := t.regs, fifos := t.fifos, mem := t.mem, freeCtr := t.freeCtr, zone := t.zone, pair := t.pair, plan := t.plan
    mbox := t.mbox, bus := t.bus } :=
  congrArg (fun x : State => { x with
    regs := t.regs, fifos := t.fifos, mem := t.mem, freeCtr := t.freeCtr, zone := t.zone, pair := t.pair, plan := t.plan
    mbox := t.mbox, bus := t.bus }) h

/-! ## SHR_REQ -/

/-- The state in which the first of the lead's own requests is taken. -/
def State.withOwnReqs (s : State) (q : List (List Byte × Nat)) : State := { s with plan := { s.plan with ownReqs := q } }

theorem Within.withOwnReqs {own : List Nat} (s : State) (q : List (List Byte × Nat)) : Within storeErased own s (s.withOwnReqs q) :=
  .of_regs rfl rfl

section
variable {b : List Byte} {n : Nat} {q : List (List Byte × Nat)} {s : State} (ht : s.ticking 0x090 = true)
include ht

theorem exec_shrReq_own (hq : s.plan.ownReqs = (b, n) :: q) (hn : n = 0 ∨ s.msgsWaiting = 0) :
    exec .shrReq s = .next ((s.withOwnReqs q).shrServe b) := by
  refine (State.liveTick_of_ticking ht _).trans (congrArg Host.Outcome.next ?_)
  rw [hq]
  exact if_pos (by omega)

theorem exec_shrReq_none {s1 : State} (hq : s.plan.ownReqs = []) (hr : s.received 0x03 = (none, s1)) : exec .shrReq s = .next s1 := by
  refine (State.liveTick_of_ticking ht _).trans (congrArg Host.Outcome.next ?_)
  rw [hq]
  exact State.onMsg_of_none hr _

/-- While messages wait that arrived before the lead's own requests they go first. -/
theorem exec_shrReq_received {m : Msg} {s1 : State} (hq : ∀ e ∈ s.plan.ownReqs, e.2 ≠ 0) (hw : s.msgsWaiting ≠ 0 ∨ s.plan.ownReqs = [])
    (hr : s.received 0x03 = (some m, s1)) : exec .shrReq s = .next (s1.shrServe m.body) := by
  refine (State.liveTick_of_ticking ht _).trans (congrArg Host.Outcome.next ?_)
  cases h : s.plan.ownReqs with
  | nil => exact State.onMsg_of_received hr _
  | cons e l =>
    have hn : e.2 ≠ 0 := hq e (by simp [h])
    have hw' : s.msgsWaiting ≠ 0 := hw.resolve_right (by simp [h])
    exact (if_neg (by omega)).trans (State.onMsg_of_received hr _)

variable (hq : s.plan.ownReqs = (b, n) :: q) (hn : n = 0 ∨ s.msgsWaiting = 0) (hl : s.isLead = true)
  (hk : s.serialRec (serialKey b) = none) (hc : wordAt b 0 / 0x1000000 ≠ 0)
include hq hn hl hk hc

theorem shrReq_bad {i : Nat} (hb : s.firstBad (sharedRecs b) = some i) : Completes .shrReq s fun t =>
    t.serialRec (serialKey b) = some ⟨wordAt b 4, 1, i, wordAt b 8⟩ ∧ t.plan.used = s.plan.used ∧ storeErased t = storeErased s := by
  have hanswer := (Within.withOwnReqs (own := []) s q).trans (Within.shrAnswer_store _ b 1 i)
  exact ⟨_, (exec_shrReq_own ht hq hn).trans (congrArg Host.Outcome.next (State.shrServe_bad (s := s.withOwnReqs q) hl hk hc hb)),
    State.shrAnswer_serial .., State.shrAnswer_used .., hanswer.frame⟩

variable (hb : s.firstBad (sharedRecs b) = none)
include hb

theorem shrReq_full (hr : s.rsvRoom ((sharedRecs b).map fun r => r.cell) ((s.sharedGone b).map fun r => r.cell) = false) :
    Completes .shrReq s fun t => t.serialRec (serialKey b) = some ⟨wordAt b 4, 2, 0xFF, wordAt b 8⟩ ∧ t.event 0x091 1 = true ∧
      t.plan.used = s.plan.used ∧ storeErased t = storeErased s := by
  have hraise := (Within.withOwnReqs (own := []) s q).trans (Within.raise _ (p := 0x091) (b := 1) (by decide) (.inr (.inl (by decide)))).weaken
  have hanswer := Within.shrAnswer_store (own := []) ((s.withOwnReqs q).raise 0x091 1) b 2 0xFF
  have hused : ((s.withOwnReqs q).raise 0x091 1).plan.used = s.plan.used := by
    rw [State.raise, State.setF_plan]
    rfl
  exact ⟨_, (exec_shrReq_own ht hq hn).trans (congrArg Host.Outcome.next (State.shrServe_full (s := s.withOwnReqs q) hl hk hc hb hr)),
    State.shrAnswer_serial .., hanswer.event _ _ (by decide) (State.event_raise_same _ _ (by decide)),
    (State.shrAnswer_used ..).trans hused, (hraise.trans hanswer).frame⟩

theorem shrReq_granted (hr : s.rsvRoom ((sharedRecs b).map fun r => r.cell) ((s.sharedGone b).map fun r => r.cell) = true) :
    Completes .shrReq s fun t => t.serialRec (serialKey b) = some ⟨wordAt b 4, 0, 0xFF, wordAt b 8⟩ ∧
      t.getF F.CASC_UPD_SEQ_SEQ = (s.getF F.CASC_UPD_SEQ_SEQ + 1) % 2 ^ 32 ∧ storeErased t = storeErased s := by
  have hwrite := (Within.withOwnReqs (own := []) s q).trans
    (Within.sharedWrite _ ((s.withOwnReqs q).sharedGone b) (sharedRecs b)).weaken
  have htold := Within.nextUpdate_afterSeq (own := []) ((s.withOwnReqs q).sharedWrite ((s.withOwnReqs q).sharedGone b) (sharedRecs b))
    (bitsOf (wordAt b 0) 15 12) (bitsOf (wordAt b 0) 23 16) (wordAt b 8) (wordAt b 12)
  have hanswer := htold.weaken.trans (Within.shrAnswer_store (own := []) _ b 0 0xFF)
  refine ⟨_, (exec_shrReq_own ht hq hn).trans (congrArg Host.Outcome.next
    (State.shrServe_granted (s := s.withOwnReqs q) hl hk hc hb hr)), State.shrAnswer_serial .., ?_, ?_⟩
  · rw [hanswer.getF (by decide) (by decide) (by decide) (by decide), State.getF_setF_same (by decide) (by decide),
      hwrite.getF (by decide) (by decide) (by decide) (by decide)]
    exact Nat.mod_eq_of_lt (Nat.mod_lt _ (by decide))
  · have hupdate := Within.nextUpdate (own := [0xF1060]) ((s.withOwnReqs q).sharedWrite ((s.withOwnReqs q).sharedGone b) (sharedRecs b))
      (by decide) (bitsOf (wordAt b 0) 15 12) (bitsOf (wordAt b 0) 23 16) (wordAt b 8) (wordAt b 12)
    exact (((hwrite.own_append [0xF1060]).trans hupdate.weaken).trans (Within.shrAnswer_store ..)).frame

end

/-! ## SHR_REPLY (R225) -/

/-- The state in which the first of the replies to the lead's own requests is taken. -/
def State.withOwnReplies (s : State) (q : List (List Byte)) : State := { s with plan := { s.plan with ownReplies := q } }

theorem State.commitPlan_outcome_lt (s : State) (x : PlanSearch) (serial : Option Nat) : (s.commitPlan x serial).1.outcome < 16 := by
  unfold State.commitPlan
  dsimp only
  split
  · exact (by decide : 5 < 16)
  · exact (by decide : 0 < 16)

/-- A commit and the end of its search. -/
def State.commitEnd (s : State) (x : PlanSearch) (serial : Option Nat) : State :=
  (s.commitPlan x serial).2.planEnd x (s.commitPlan x serial).1

section
variable {s : State} {w : SharedWait} {x : PlanSearch} (hw : s.plan.shared = some w) (hx : s.plan.search = some x)
include hx

theorem State.sharedDenied_searching : s.sharedDenied = s.planEnd x { outcome := 6 } := by
  unfold State.sharedDenied
  rw [hx]

variable (b : List Byte) (ho : s.plan.orphans = [])
include hw ho

/-- A reply while a plan waits for the lead and no release does. -/
theorem State.shrReply_waiting : s.shrReply b =
    if w.serial ≠ wordAt b 4 ∨ wordAt b 8 ≠ w.plan then s
    else if wordAt b 0 / 0x1000000 ≠ 0 then s.planEnd x { outcome := 6 }
    else if x.cancel then s.planEnd x { outcome := 9 }
    else if !s.planFits x then { s with plan := { s.plan with shared := none } }.searchFrom x
    else s.commitEnd x (some (wordAt b 4)) := by
  have horphan : (s.plan.orphans.any fun o => o.serial == wordAt b 4) = false := by rw [ho]; rfl
  unfold State.shrReply
  simp only [horphan, Bool.false_eq_true, if_false, hw, hx, State.sharedDenied_searching hx]
  rfl

end

theorem exec_shrReply_none {s s1 : State} (ht : s.ticking 0x090 = true) (hq : s.plan.ownReplies = []) (hc : s1.plan.cmd = none)
    (hr : s.received 0x04 = (none, s1)) : exec .shrReply s = .next s1 := by
  refine (State.liveTick_of_ticking ht _).trans (congrArg Host.Outcome.next ?_)
  rw [hq]
  exact (congrArg State.resStart (State.onMsg_of_none hr _)).trans (State.resStart_idle hc)

section
variable {b : List Byte} {q : List (List Byte)} {w : SharedWait} {x : PlanSearch} {s : State} (ht : s.ticking 0x090 = true)
  (hq : s.plan.ownReplies = b :: q) (hw : s.plan.shared = some w) (hx : s.plan.search = some x)
  (ho : s.plan.orphans = [])
include ht hq

theorem exec_shrReply_own : exec .shrReply s = .next ((s.withOwnReplies q).shrReply b).resStart := by
  refine (State.liveTick_of_ticking ht _).trans (congrArg Host.Outcome.next ?_)
  rw [hq]
  rfl

include hw hx ho

theorem exec_shrReply_other (hc : s.plan.cmd = none) (h : w.serial ≠ wordAt b 4 ∨ wordAt b 8 ≠ w.plan) :
    exec .shrReply s = .next (s.withOwnReplies q) := by
  rw [exec_shrReply_own ht hq, State.shrReply_waiting (s := s.withOwnReplies q) hw hx b ho, if_pos h,
    State.resStart_idle (s := s.withOwnReplies q) hc]

variable (hs : w.serial = wordAt b 4) (hp : wordAt b 8 = w.plan)
include hs hp

theorem exec_shrReply_mine : exec .shrReply s = .next
    (if wordAt b 0 / 0x1000000 ≠ 0 then (s.withOwnReplies q).planEnd x { outcome := 6 }
     else if x.cancel then (s.withOwnReplies q).planEnd x { outcome := 9 }
     else if !(s.withOwnReplies q).planFits x then { s.withOwnReplies q with plan := { (s.withOwnReplies q).plan with shared := none } }.searchFrom x
     else (s.withOwnReplies q).commitEnd x (some (wordAt b 4))).resStart := by
  rw [exec_shrReply_own ht hq, State.shrReply_waiting (s := s.withOwnReplies q) hw hx b ho, if_neg (by simp [hs, hp])]

variable (hc : s.plan.cmd = none)
include hc

theorem shrReply_denied (hr : wordAt b 0 / 0x1000000 ≠ 0) : Completes .shrReply s fun t =>
    t.getF F.TRACK_PLAN_SEARCH_OUTCOME = 6 ∧ t.mem = { s.mem with dtuCache := t.mem.dtuCache } ∧
      t = { s with
        regs := t.regs, mbox := t.mbox, mem := t.mem, bus := t.bus
        plan := { s.plan with ownReplies := q, search := none, shared := none, waiting := false } } := by
  have hend := (s.withOwnReplies q).planEnd_ends x { outcome := 6 } (by decide)
  refine ⟨(s.withOwnReplies q).planEnd x { outcome := 6 }, ?_, hend.outcome, hend.mem, hend.frame.trans ?_⟩
  · rw [exec_shrReply_mine ht hq hw hx ho hs hp, if_pos hr, hend.resStart hc]
  · rw [hend.plan]
    rfl

variable (hr : wordAt b 0 / 0x1000000 = 0) (hn : x.cancel = false)
include hr hn

theorem shrReply_granted (hf : s.planFits x = true) : Completes .shrReply s fun t => t.plan.search = none ∧ t.plan.shared = none ∧
    t.getF F.TRACK_PLAN_SEARCH_OUTCOME = ((s.withOwnReplies q).commitPlan x (some (wordAt b 4))).1.outcome ∧
    t = { s with
      regs := t.regs, fifos := t.fifos, mem := t.mem, freeCtr := t.freeCtr, zone := t.zone, pair := t.pair, plan := t.plan
      seg := t.seg, mbox := t.mbox, bus := t.bus } := by
  have hframe := (Within.commitPlan (s.withOwnReplies q) x (some (wordAt b 4))).frame
  have hend := ((s.withOwnReplies q).commitPlan x (some (wordAt b 4))).2.planEnd_ends x
    ((s.withOwnReplies q).commitPlan x (some (wordAt b 4))).1 (State.commitPlan_outcome_lt ..)
  refine ⟨(s.withOwnReplies q).commitEnd x (some (wordAt b 4)), ?_, congrArg PlanSt.search hend.plan, congrArg PlanSt.shared hend.plan,
    hend.outcome, commitErased_only (hframe.trans rfl) hend.frame⟩
  have hfits : (s.withOwnReplies q).planFits x = true := hf
  rw [exec_shrReply_mine ht hq hw hx ho hs hp, if_neg (not_not_intro hr), if_neg (by simp [hn]), if_neg (by simp [hfits])]
  exact congrArg Host.Outcome.next (hend.resStart ((congrArg (fun t : State => t.plan.cmd) hframe :).trans hc))

theorem shrReply_unfit (hf : s.planFits x = false) : Completes .shrReply s fun t =>
    (∃ y, t.plan.search = some y ∧ y.req = x.req ∧ y.s = x.s ∧ y.ready = true) ∧
      t = { s with regs := t.regs, plan := { s.plan with ownReplies := q, shared := none, search := t.plan.search } } := by
  have honly := State.searchFrom_only { s.withOwnReplies q with plan := { (s.withOwnReplies q).plan with shared := none } } x
  have hplan := congrArg State.plan honly
  have hfits : (s.withOwnReplies q).planFits x = false := hf
  refine ⟨_, ?_, ⟨_, congrArg PlanSt.search hplan, rfl, rfl, rfl⟩, honly.trans (by rw [hplan]; rfl)⟩
  rw [exec_shrReply_mine ht hq hw hx ho hs hp, if_neg (not_not_intro hr), if_neg (by simp [hn]), if_pos (by simp [hfits]),
    State.resStart_idle ((congrArg PlanSt.cmd hplan).trans hc)]

end

end Sys2Proof.Machine
end

section
/-! Shared cells: the lead's updates in sequence, and a lead that is silent (R224, R225, R410). -/

namespace Sys2Proof.Machine

/-! ## SHR_UPDATE (R224, R410) -/

theorem wordAt_lt (b : List Byte) (o : Nat) : wordAt b o < 2 ^ 32 :=
  (leValue_lt _).trans_le (Nat.pow_le_pow_right (by decide) (List.length_take_le ..))

/-- What an update that is applied leaves: its UPD_SEQ, and what a change of the store reaches. -/
theorem State.applyUpdate_unpaired {s : State} (hr : s.role = 0) (b : List Byte) :
    (s.applyUpdate b).getF F.CASC_UPD_SEQ_SEQ = wordAt b 4 ∧ tablesErased (s.applyUpdate b) = tablesErased s := by
  have hset (t : State) : Within tablesErased [0xF1060] t (t.setF F.CASC_UPD_SEQ_SEQ (wordAt b 4)) :=
    (Within.setF t _ (by decide) (.inr ⟨.inr (by decide), by decide⟩)).weaken
  have hnote (own : List Nat) (t : State) : Within tablesErased own t (t.jnoteObj 0x0B 0 []) := .of_table (.jnoteObj ..)
  have hwrite := Within.sharedWrite (own := [0xF1060]) s
    (s.sharedOf (bitsOf (wordAt b 0) 15 12) (bitsOf (wordAt b 0) 23 16) (some (wordAt b 12))) (sharedRecs b)
  have hall := (hwrite.trans (hset _)).trans (hnote ..)
  have hjournal (t : State) (h : t.pairActive = false) : Within tablesErased [] t (t.journal 5) := by
    rw [State.journal_of_unpaired h]
    exact .of_regs rfl rfl
  have hlast := hjournal _ (State.pairActive_of_unpaired hr (hall.reg _ (by decide) (by decide) (by decide)))
  refine ⟨?_, hlast.frame.trans hall.frame⟩
  refine (hlast.getF (by decide) (by decide) (by decide) (by decide)).trans
    (((hnote [] _).getF (by decide) (by decide) (by decide) (by decide)).trans ?_)
  rw [State.getF_setF_same (by decide) (by decide)]
  exact Nat.mod_eq_of_lt (wordAt_lt b 4)

theorem tablesErased_only {s t : State} (h : tablesErased t = tablesErased s) : t = { s with
    regs := t.regs, fifos := t.fifos, mem := t.mem, freeCtr := t.freeCtr, zone := t.zone, pair := t.pair, plan := t.plan } :=
  congrArg (fun x : State => { x with
    regs := t.regs, fifos := t.fifos, mem := t.mem, freeCtr := t.freeCtr, zone := t.zone, pair := t.pair, plan := t.plan }) h

/-- The state in which a later update is held. -/
def State.holdUpdate (s : State) (b : List Byte) : State :=
  { s with pair := { s.pair with updHeld := (wordAt b 4, b) :: s.pair.updHeld.filter fun x => x.1 != wordAt b 4 } }

/-- The state in which a gap is counted and the later update held. -/
def State.gapFound (s : State) (b : List Byte) : State := ((s.holdUpdate b).bump F.CASC_GAPS_COUNT).raise 0x0F1 2

theorem Within.gapFound {own : List Nat} (s : State) (b : List Byte) (h1 : 0xF106C ∈ own) (h2 : 0xF1010 ∈ own) :
    Within regsErased own (s.holdUpdate b) (s.gapFound b) :=
  (bump _ (f := F.CASC_GAPS_COUNT) (by decide) (.inr ⟨.inr h1, by decide⟩)).trans (raise _ (by decide) (.inr (.inr h2)))

theorem State.gapFound_kept (s : State) (b : List Byte) : (s.gapFound b).isLead = s.isLead ∧ (s.gapFound b).notActive = s.notActive ∧
    (s.gapFound b).pair = (s.holdUpdate b).pair := by
  have hgap := Within.gapFound (own := [0xF106C, 0xF1010]) s b (by decide) (by decide)
  have hlead : (s.gapFound b).getF F.CASC_CTRL_LEAD = s.getF F.CASC_CTRL_LEAD := hgap.getF (by decide) (by decide) (by decide) (by decide)
  have hmember : (s.gapFound b).member = s.member := hgap.getF (by decide) (by decide) (by decide) (by decide)
  have hrole : (s.gapFound b).role = s.role := hgap.getF (by decide) (by decide) (by decide) (by decide)
  unfold State.isLead State.notActive
  rw [hlead, hmember, hrole]
  exact ⟨rfl, rfl, (congrArg State.pair hgap.frame :)⟩

/-- The state in which a member asks the lead for a snapshot. -/
def State.snapAsked (s : State) : State :=
  { s.setFlag F.CASC_STAT_SNAP_PENDING true with pair := { s.pair with snapNamed := [] } }.sendMsg 0x06
    (.member (s.getF F.CASC_CTRL_LEAD)) 0 []

theorem State.snapAsk_ofMember {s : State} (hl : s.isLead = false) (ha : s.notActive = false) : s.snapAsk = s.snapAsked := by
  unfold State.snapAsk
  rw [hl, ha]
  rfl

/-- Everything but what a message and the cascade's own part of the pair reach. -/
def cascadeErased (s : State) : State := { messagesErased s with pair := {} }

theorem cascadeErased_only {s t : State} (h : cascadeErased t = cascadeErased s) :
    t = { s with regs := t.regs, freeCtr := t.freeCtr, pair := t.pair, mbox := t.mbox, bus := t.bus } :=
  congrArg (fun x : State => { x with regs := t.regs, freeCtr := t.freeCtr, pair := t.pair, mbox := t.mbox, bus := t.bus }) h

theorem Within.snapAsked {own : List Nat} (s : State) (h : 0xF1048 ∈ own) : Within cascadeErased own s s.snapAsked := by
  have hset : Within cascadeErased own s (s.setFlag F.CASC_STAT_SNAP_PENDING true) :=
    (setF s _ (by decide) (.inr ⟨.inr h, by decide⟩)).weaken
  have hnamed : Within cascadeErased own (s.setFlag F.CASC_STAT_SNAP_PENDING true)
      { s.setFlag F.CASC_STAT_SNAP_PENDING true with pair := { s.pair with snapNamed := [] } } := .of_regs rfl rfl
  exact (hset.trans hnamed).trans (sendMsg ..).weaken

theorem State.snapAsked_pending (s : State) :
    s.snapAsked.flag F.CASC_STAT_SNAP_PENDING = true ∧ s.snapAsked.pair.updHeld = s.pair.updHeld := by
  have hsent := Within.sendMsg (own := []) { s.setFlag F.CASC_STAT_SNAP_PENDING true with pair := { s.pair with snapNamed := [] } } 0x06
    (.member (s.getF F.CASC_CTRL_LEAD)) 0 []
  have hset : (s.setFlag F.CASC_STAT_SNAP_PENDING true).flag F.CASC_STAT_SNAP_PENDING = true := State.flag_setFlag_same rfl (by decide)
  exact ⟨(hsent.flag (by decide) (by decide) (by decide) (by decide)).trans hset, (congrArg (fun x : State => x.pair.updHeld) hsent.frame :)⟩

section
variable {s : State} {flags : Nat} {b : List Byte} (hp : s.flag F.CASC_STAT_SNAP_PENDING = false)
include hp

theorem State.takeUpdate_ofSnapshot (hf : bitAt flags 0 = true) : s.takeUpdate flags b = s := by
  unfold State.takeUpdate
  simp [hf, hp]

theorem State.takeUpdate_inOrder (hf : bitAt flags 0 = false) : s.takeUpdate flags b =
    if tickDiff (wordAt b 4) (s.getF F.CASC_UPD_SEQ_SEQ) = 1 then (s.applyUpdate b).applyHeld s.pair.updHeld.length
    else if 1 < tickDiff (wordAt b 4) (s.getF F.CASC_UPD_SEQ_SEQ) then (s.gapFound b).snapAsk
    else s := by
  unfold State.takeUpdate
  simp only [hf, hp, Bool.false_eq_true, if_false]
  rfl

end

section
variable {m : Msg} {s s1 : State} (ht : s.ticking 0x090 = true)
include ht

theorem exec_shrUpdate_none (hr : s.received 0x05 = (none, s1)) : exec .shrUpdate s = .next s1 :=
  (State.liveTick_of_ticking ht _).trans (congrArg Host.Outcome.next (State.onMsg_of_none hr _))

variable (hr : s.received 0x05 = (some m, s1)) (hp : s1.flag F.CASC_STAT_SNAP_PENDING = false)
include hr

theorem exec_shrUpdate : exec .shrUpdate s = .next (s1.takeUpdate m.flags m.body) :=
  (State.liveTick_of_ticking ht _).trans (congrArg Host.Outcome.next (State.onMsg_of_received hr _))

include hp

theorem exec_shrUpdate_ofSnapshot (hf : bitAt m.flags 0 = true) : exec .shrUpdate s = .next s1 := by
  rw [exec_shrUpdate ht hr, State.takeUpdate_ofSnapshot hp hf]

variable (hf : bitAt m.flags 0 = false)
include hf

theorem exec_shrUpdate_earlier (hd : tickDiff (wordAt m.body 4) (s1.getF F.CASC_UPD_SEQ_SEQ) ≤ 0) : exec .shrUpdate s = .next s1 := by
  rw [exec_shrUpdate ht hr, State.takeUpdate_inOrder hp hf, if_neg (by omega), if_neg (by omega)]

theorem shrUpdate_next (hd : tickDiff (wordAt m.body 4) (s1.getF F.CASC_UPD_SEQ_SEQ) = 1) (hh : s1.pair.updHeld = []) (hrole : s1.role = 0) :
    Completes .shrUpdate s fun t => t.getF F.CASC_UPD_SEQ_SEQ = wordAt m.body 4 ∧ tablesErased t = tablesErased s1 := by
  refine ⟨s1.applyUpdate m.body, ?_, State.applyUpdate_unpaired hrole m.body⟩
  rw [exec_shrUpdate ht hr, State.takeUpdate_inOrder hp hf, if_pos hd, hh]
  rfl

theorem exec_shrUpdate_gap (hd : 1 < tickDiff (wordAt m.body 4) (s1.getF F.CASC_UPD_SEQ_SEQ)) :
    exec .shrUpdate s = .next (s1.gapFound m.body).snapAsk := by
  rw [exec_shrUpdate ht hr, State.takeUpdate_inOrder hp hf, if_neg (by omega), if_pos hd]

theorem shrUpdate_gapOfLead (hd : 1 < tickDiff (wordAt m.body 4) (s1.getF F.CASC_UPD_SEQ_SEQ)) (hl : s1.isLead = true) :
    Completes .shrUpdate s fun t =>
      t.pair.updHeld = (wordAt m.body 4, m.body) :: s1.pair.updHeld.filter (fun x => x.1 != wordAt m.body 4) ∧
      t.event 0x0F1 2 = true ∧ t.getF F.CASC_UPD_SEQ_SEQ = s1.getF F.CASC_UPD_SEQ_SEQ ∧
      t = { s1 with regs := t.regs, pair := { s1.pair with updHeld := t.pair.updHeld } } := by
  have hgap := Within.gapFound (own := [0xF106C, 0xF1010]) s1 m.body (by decide) (by decide)
  obtain ⟨hlead, -, hpair⟩ := s1.gapFound_kept m.body
  refine ⟨s1.gapFound m.body, ?_, congrArg PairSt.updHeld hpair, State.event_raise_same _ _ (by decide),
    hgap.getF (by decide) (by decide) (by decide) (by decide), ?_⟩
  · rw [exec_shrUpdate_gap ht hr hp hf hd, State.snapAsk, hlead, hl, Bool.true_or, if_pos rfl]
  · rw [hpair]
    exact (congrArg (fun x : State => { x with regs := (s1.gapFound m.body).regs }) hgap.frame :)

theorem shrUpdate_gapOfMember (hd : 1 < tickDiff (wordAt m.body 4) (s1.getF F.CASC_UPD_SEQ_SEQ)) (hl : s1.isLead = false)
    (ha : s1.notActive = false) : Completes .shrUpdate s fun t =>
      t.pair.updHeld = (wordAt m.body 4, m.body) :: s1.pair.updHeld.filter (fun x => x.1 != wordAt m.body 4) ∧
      t.event 0x0F1 2 = true ∧ t.flag F.CASC_STAT_SNAP_PENDING = true ∧
      t = { s1 with regs := t.regs, freeCtr := t.freeCtr, pair := t.pair, mbox := t.mbox, bus := t.bus } := by
  obtain ⟨hlead, hactive, hpair⟩ := s1.gapFound_kept m.body
  obtain ⟨hpending, hheld⟩ := (s1.gapFound m.body).snapAsked_pending
  have hhold : Within cascadeErased [0xF106C, 0xF1010, 0xF1048] s1 (s1.holdUpdate m.body) := .of_regs rfl rfl
  have hasked := Within.snapAsked (own := [0xF106C, 0xF1010, 0xF1048]) (s1.gapFound m.body) (by decide)
  have hall := (hhold.trans (Within.gapFound s1 m.body (by decide) (by decide)).weaken).trans hasked
  refine ⟨(s1.gapFound m.body).snapAsked, ?_, hheld.trans (congrArg PairSt.updHeld hpair),
    hasked.event _ _ (by decide) (State.event_raise_same _ _ (by decide)), hpending, cascadeErased_only hall.frame⟩
  rw [exec_shrUpdate_gap ht hr hp hf hd, State.snapAsk_ofMember (hlead.trans hl) (hactive.trans ha)]

end

/-! ## SHARED_RETRY (R225) -/

/-- A request sent once more. -/
def SharedWait.again (w : SharedWait) (now : Nat) : SharedWait := { w with sends := w.sends + 1, sentAt := now }

/-- The state in which a plan waits for the lead once more. -/
def State.withShared (s : State) (w : SharedWait) : State := { s with plan := { s.plan with shared := some w } }

/-- The release of a request that the lead has not answered: it has a serial of its own and no records. -/
def State.releaseOf (s : State) (w : SharedWait) (now : Nat) : SharedWait :=
  { w with records := [], serial := s.nextSerial.1, sends := 1, sentAt := now }

/-- The state in which the release of a request waits for the lead. -/
def State.withRelease (s : State) (w : SharedWait) (now : Nat) : State :=
  { s.nextSerial.2 with plan := { s.nextSerial.2.plan with orphans := s.nextSerial.2.plan.orphans ++ [s.releaseOf w now] } }

section
variable {s : State} {w : SharedWait} {x : PlanSearch} (hw : s.plan.shared = some w) (ho : s.plan.orphans = [])
include hw ho

theorem State.shrRetry_waits (h : s.now < w.sentAt + 1000 * s.getF F.TRACK_SHR_RETRY_US) : s.shrRetry = s := by
  unfold State.shrRetry
  simp only [hw, ho, h, if_true, List.foldl_nil]

variable (h : w.sentAt + 1000 * s.getF F.TRACK_SHR_RETRY_US ≤ s.now)
include h

theorem State.shrRetry_again (hs : w.sends < s.getF F.TRACK_SHR_TRIES) :
    s.shrRetry = ((s.raise 0x092 2).withShared (w.again s.now)).shrSend (w.again s.now) := by
  unfold State.shrRetry
  simp only [hw, ho, Nat.not_lt.2 h, hs, if_true, if_false, List.foldl_nil]
  rfl

theorem State.shrRetry_silent (hx : s.plan.search = some x) (hs : s.getF F.TRACK_SHR_TRIES ≤ w.sends) :
    s.shrRetry = ((((s.raise 0x092 2).planEnd x { outcome := 6 }).withRelease w s.now).journalOpen).shrSend
      (((s.raise 0x092 2).planEnd x { outcome := 6 }).releaseOf w s.now) := by
  have hdenied : (s.raise 0x092 2).sharedDenied = (s.raise 0x092 2).planEnd x { outcome := 6 } :=
    State.sharedDenied_searching (by rw [State.raise, State.setF_plan]; exact hx)
  unfold State.shrRetry
  simp only [hw, ho, Nat.not_lt.2 h, Nat.not_lt.2 hs, if_false, List.foldl_nil, hdenied]
  rfl

end

/-- Everything but what the release of a request reaches. -/
def releaseErased (s : State) : State := { journalErased s with plan := { s.plan with ownReqs := [], ownReplies := [], orphans := [] } }

theorem Within.withRelease {own : List Nat} (s : State) (w : SharedWait) (now : Nat) (h : 0x92088 ∈ own) :
    Within releaseErased own s (s.withRelease w now) := by
  have hserial : Within releaseErased own s s.nextSerial.2 :=
    (setF (f := F.TRACK_PLAN_SHR_SERIAL_SERIAL) s _ (by decide) (.inr ⟨.inr h, by decide⟩)).weaken.trans (jnoteObj ..).weaken
  have horphan : Within releaseErased own s.nextSerial.2 (s.withRelease w now) := .of_regs rfl rfl
  exact hserial.trans horphan

theorem State.withRelease_orphans (s : State) (w : SharedWait) (now : Nat) :
    (s.withRelease w now).plan.orphans = s.plan.orphans ++ [s.releaseOf w now] := by
  have hserial : s.nextSerial.2.plan = s.plan := (TableFrame.jnoteObj ..).plan.trans (State.setF_plan ..)
  exact congrArg (fun p : PlanSt => p.orphans ++ [s.releaseOf w now]) hserial

/-- Everything but what the end of a search and a release reach. -/
def deniedErased (s : State) : State :=
  { s with regs := [], fifos := [], mem := {}, freeCtr := 0, pair := {}, plan := {}, mbox := [], bus := ⟨0, false⟩ }

theorem deniedErased_only {s t : State} (h : deniedErased t = deniedErased s) : t = { s with
    regs := t.regs, fifos := t.fifos, mem := t.mem, freeCtr := t.freeCtr, pair := t.pair, plan := t.plan, mbox := t.mbox, bus := t.bus } :=
  congrArg (fun x : State => { x with
    regs := t.regs, fifos := t.fifos, mem := t.mem, freeCtr := t.freeCtr, pair := t.pair, plan := t.plan, mbox := t.mbox, bus := t.bus }) h

theorem SearchEnded.denied {s t : State} {out : Nat} (h : SearchEnded s t out) : deniedErased t = deniedErased s :=
  (congrArg deniedErased h.frame).trans rfl

/-- Everything but what a request sent once more reaches. -/
def againErased (s : State) : State := { messagesErased s with pair := {}, plan := {} }

theorem againErased_only {s t : State} (h : againErased t = againErased s) :
    t = { s with regs := t.regs, freeCtr := t.freeCtr, pair := t.pair, plan := t.plan, mbox := t.mbox, bus := t.bus } :=
  congrArg (fun x : State => { x with
    regs := t.regs, freeCtr := t.freeCtr, pair := t.pair, plan := t.plan, mbox := t.mbox, bus := t.bus }) h

section
variable {own : List Nat} {s t : State}

theorem Within.request_plan (h : Within requestErased own s t) : t.plan = { s.plan with ownReqs := t.plan.ownReqs } :=
  (congrArg (fun x : State => { x.plan with ownReqs := t.plan.ownReqs }) h.frame :)

theorem Within.release_plan (h : Within releaseErased own s t) :
    t.plan = { s.plan with ownReqs := t.plan.ownReqs, ownReplies := t.plan.ownReplies, orphans := t.plan.orphans } :=
  (congrArg (fun x : State => { x.plan with
    ownReqs := t.plan.ownReqs, ownReplies := t.plan.ownReplies, orphans := t.plan.orphans }) h.frame :)

theorem Within.release_paused (h : Within releaseErased own s t) : t.mem.dtuPaused = s.mem.dtuPaused :=
  (congrArg (fun x : State => x.mem.dtuPaused) h.frame :)

theorem Within.journal_orphans (h : Within journalErased own s t) : t.plan.orphans = s.plan.orphans :=
  (congrArg (fun x : State => x.plan.orphans) h.frame :)

end

/-- What the release of a request leaves. -/
theorem Within.shrRelease {own : List Nat} (s : State) (w : SharedWait) (now : Nat) (ho : 0x92088 ∈ own) :
    Within releaseErased own s ((s.withRelease w now).journalOpen.shrSend (s.releaseOf w now)) ∧
      ((s.withRelease w now).journalOpen.shrSend (s.releaseOf w now)).plan.orphans = s.plan.orphans ++ [s.releaseOf w now] := by
  have hsent := (journalOpen (own := own) (s.withRelease w now)).trans (shrSend _ (s.releaseOf w now)).weaken
  exact ⟨(withRelease s w now ho).trans hsent.weaken, hsent.journal_orphans.trans (s.withRelease_orphans w now)⟩

theorem exec_sharedRetry_idle {s : State} (h : s.ticking 0x090 = false ∨ (s.plan.shared = none ∧ s.plan.orphans = [] ∧ s.plan.cmd = none)) :
    exec .sharedRetry s = .next s := by
  cases ht : s.ticking 0x090 with
  | false => exact State.liveTick_of_still ht _
  | true =>
    obtain ⟨hw, ho, hc⟩ := h.resolve_left (by simp [ht])
    have hretry : s.shrRetry = s := by
      unfold State.shrRetry
      simp only [hw, ho, List.foldl_nil]
    exact (State.liveTick_of_ticking ht _).trans (congrArg Host.Outcome.next ((congrArg State.resStart hretry).trans (State.resStart_idle hc)))

section
variable {w : SharedWait} {x : PlanSearch} {s : State} (ht : s.ticking 0x090 = true) (hw : s.plan.shared = some w)
  (hx : s.plan.search = some x) (hc : s.plan.cmd = none) (ho : s.plan.orphans = [])
include ht

theorem exec_sharedRetry : exec .sharedRetry s = .next s.shrRetry.resStart := State.liveTick_of_ticking ht _

include hw ho hc

theorem exec_sharedRetry_waits (h : s.now < w.sentAt + 1000 * s.getF F.TRACK_SHR_RETRY_US) : exec .sharedRetry s = .next s := by
  rw [exec_sharedRetry ht, State.shrRetry_waits hw ho h, State.resStart_idle hc]

variable (h : w.sentAt + 1000 * s.getF F.TRACK_SHR_RETRY_US ≤ s.now)
include hx h

theorem sharedRetry_again (hs : w.sends < s.getF F.TRACK_SHR_TRIES) : Completes .sharedRetry s fun t =>
    t.plan.shared = some { w with sends := w.sends + 1, sentAt := s.now } ∧ t.plan.search = some x ∧ t.event 0x092 2 = true ∧
      t = { s with regs := t.regs, freeCtr := t.freeCtr, pair := t.pair, plan := t.plan, mbox := t.mbox, bus := t.bus } := by
  have hplan : (s.raise 0x092 2).plan = s.plan := by rw [State.raise, State.setF_plan]
  have hraise : Within againErased [] s (s.raise 0x092 2) := (Within.raise _ (by decide) (.inr (.inl (by decide)))).weaken
  have hshared : Within againErased [] (s.raise 0x092 2) ((s.raise 0x092 2).withShared (w.again s.now)) := .of_regs rfl rfl
  have hsent := Within.shrSend (own := []) ((s.raise 0x092 2).withShared (w.again s.now)) (w.again s.now)
  have hsearch := (congrArg PlanSt.search hsent.request_plan).trans (congrArg PlanSt.search hplan :)
  have hcmd := (congrArg PlanSt.cmd hsent.request_plan).trans (congrArg PlanSt.cmd hplan :)
  refine ⟨((s.raise 0x092 2).withShared (w.again s.now)).shrSend (w.again s.now), ?_, congrArg PlanSt.shared hsent.request_plan,
    hsearch.trans hx, hsent.event _ _ (by decide) (hshared.event _ _ (by decide) (State.event_raise_same _ _ (by decide))),
    againErased_only ((hraise.trans hshared).trans hsent.weaken).frame⟩
  rw [exec_sharedRetry ht, State.shrRetry_again hw ho h hs, State.resStart_idle (hcmd.trans hc)]

theorem sharedRetry_silent (hs : s.getF F.TRACK_SHR_TRIES ≤ w.sends) : Completes .sharedRetry s fun t =>
    t.plan.shared = none ∧ t.plan.search = none ∧ t.getF F.TRACK_PLAN_SEARCH_OUTCOME = 6 ∧ t.event 0x092 2 = true ∧
      (∃ o, t.plan.orphans = [o] ∧ o.machine = w.machine ∧ o.records = []) ∧ t.mem.dtuPaused = s.mem.dtuPaused ∧
      t = { s with
        regs := t.regs, fifos := t.fifos, mem := t.mem, freeCtr := t.freeCtr, pair := t.pair, plan := t.plan
        mbox := t.mbox, bus := t.bus } := by
  have hraise : Within deniedErased [] s (s.raise 0x092 2) := (Within.raise _ (by decide) (.inr (.inl (by decide)))).weaken
  have hplan : (s.raise 0x092 2).plan = s.plan := by rw [State.raise, State.setF_plan]
  have hmem : (s.raise 0x092 2).mem = s.mem := by rw [State.raise, State.setF_mem]
  have hend := (s.raise 0x092 2).planEnd_ends x { outcome := 6 } (by decide)
  have hretry := (exec_sharedRetry ht).trans (congrArg (fun t : State => Host.Outcome.next t.resStart) (State.shrRetry_silent hw ho h hx hs))
  generalize (s.raise 0x092 2).planEnd x { outcome := 6 } = u at hend hretry
  obtain ⟨hrelease, horphans⟩ := Within.shrRelease (own := [0x92088]) u w s.now (by decide)
  generalize (u.withRelease w s.now).journalOpen.shrSend (u.releaseOf w s.now) = t at hrelease horphans hretry
  have htplan := hrelease.release_plan
  rw [hend.plan, hplan] at htplan
  rw [hend.plan, hplan, ho] at horphans
  refine ⟨t, hretry.trans (congrArg Host.Outcome.next (State.resStart_idle ((congrArg PlanSt.cmd htplan).trans hc))),
    congrArg PlanSt.shared htplan, congrArg PlanSt.search htplan,
    (hrelease.getF (by decide) (by decide) (by decide) (by decide)).trans hend.outcome,
    hrelease.event _ _ (by decide) (hend.events _ _ (by decide) (State.event_raise_same _ _ (by decide))),
    ⟨_, horphans, rfl, rfl⟩, hrelease.release_paused.trans ((congrArg MemSt.dtuPaused hend.mem).trans (congrArg MemSt.dtuPaused hmem :)), ?_⟩
  exact deniedErased_only ((hrelease.weaken (G := deniedErased)).frame.trans (hend.denied.trans hraise.frame))

end

/-- Settles O37. What the lead's answer, a commit, an update and a release reach is compared part by part (`Within`); the serial, UPD_SEQ, the
updates held and the plan that waits are read from the parts that stay. -/
theorem sharedCells : Obligations.SharedCells := by
  unfold Obligations.SharedCells
  refine ⟨fun b n q s ht hq hn => ⟨?_, ?_, fun hl hk hc hb => ⟨?_, ?_⟩⟩, fun m s s1 ht => ⟨exec_shrReq_none ht, exec_shrReq_received ht,
      exec_shrReply_none ht, exec_shrUpdate_none ht⟩,
    fun b q w x s ht hq hw hx hc ho => ⟨exec_shrReply_other ht hq hw hx ho hc, fun hs hp => shrReply_denied ht hq hw hx ho hs hp hc,
      fun hs hp hr hn => ⟨shrReply_granted ht hq hw hx ho hs hp hc hr hn, shrReply_unfit ht hq hw hx ho hs hp hc hr hn⟩⟩,
    fun m s s1 ht hr hf hp => ⟨exec_shrUpdate_earlier ht hr hp hf, ?_, shrUpdate_gapOfLead ht hr hp hf, shrUpdate_gapOfMember ht hr hp hf⟩,
    fun m s s1 ht hr hf hp => exec_shrUpdate_ofSnapshot ht hr hp hf,
    fun w x s ht hw hx hc ho => ⟨exec_sharedRetry_waits ht hw hc ho, fun h => ⟨sharedRetry_again ht hw hx hc ho h,
      sharedRetry_silent ht hw hx hc ho h⟩⟩,
    fun s => exec_sharedRetry_idle⟩
  case refine_1 =>
    intro hl
    exact (exec_shrReq_own ht hq hn).trans (congrArg Host.Outcome.next (State.shrServe_notLead (s := s.withOwnReqs q) hl))
  case refine_2 =>
    intro i hl hk hc hb
    obtain ⟨t, hx, hserial, hused, hframe⟩ := shrReq_bad ht hq hn hl hk hc hb
    exact ⟨t, hx, hserial, hused, storeErased_only hframe⟩
  case refine_3 =>
    intro hr
    obtain ⟨t, hx, hserial, hseq, hframe⟩ := shrReq_granted ht hq hn hl hk hc hb hr
    exact ⟨t, hx, hserial, hseq, storeErased_only hframe⟩
  case refine_4 =>
    intro hr
    obtain ⟨t, hx, hserial, hevent, hused, hframe⟩ := shrReq_full ht hq hn hl hk hc hb hr
    exact ⟨t, hx, hserial, hevent, hused, storeErased_only hframe⟩
  case refine_5 =>
    intro hd hh hrole
    obtain ⟨t, hx, hseq, hframe⟩ := shrUpdate_next ht hr hp hf hd hh hrole
    exact ⟨t, hx, hseq, tablesErased_only hframe⟩

end Sys2Proof.Machine
end

section
/-! RECONCILE writes each DOUBT record of the machine at its index, and the list of the indexes in use is kept as that gives it (R228, R229). -/

namespace Sys2Proof.Machine

/-! ## A store command that starts at once (R229) -/

/-- The state in which a store command runs. -/
def State.resRunning (s : State) : State :=
  { s.setFlag F.TRACK_RES_CMD_STAT_BUSY true with plan := { s.plan with cmd := none, waiting := false } }

theorem State.resStart_runs {s : State} {cmd index arg prio : Nat} (h : s.plan.cmd = some (cmd, index, arg, prio)) (hs : s.plan.search = none)
    (hc : s.time.catchFrom = none) : s.resStart.plan.used =
      ({ s with plan := { s.plan with cmd := none, waiting := false } }.resRun cmd index arg prio).2.plan.used := by
  unfold State.resStart
  rw [h, hs, hc]

theorem State.resCommand_used {s : State} {who : Initiator} (ho : s.opens who 0x91054 true = true)
    (hb : s.flag F.TRACK_RES_CMD_STAT_BUSY = false) (ha : s.notActive = false) (hs : s.plan.search = none) (hc : s.time.catchFrom = none)
    (cmd index : Nat) : (s.resCommand who cmd index).plan.used =
      (s.resRunning.resRun cmd index (s.getF F.TRACK_RES_ARG0_ARG) (s.getF F.TRACK_RES_ARG1_PRIO)).2.plan.used := by
  have hc' : (s.setFlag F.TRACK_RES_CMD_STAT_BUSY true).time.catchFrom = none := by rw [State.setFlag_time, hc]
  unfold State.resCommand
  rw [State.command_of_opens ho, if_neg (by simp [hb, ha])]
  exact State.resStart_runs (s := { s.setFlag F.TRACK_RES_CMD_STAT_BUSY true with plan := { s.plan with
    cmd := some (cmd, index, s.getF F.TRACK_RES_ARG0_ARG, s.getF F.TRACK_RES_ARG1_PRIO)
    waiting := s.plan.search.isSome || s.time.catchFrom.isSome } }) rfl hs hc'

/-! ## RECONCILE (R228) -/

theorem State.doubtEvent_plan (s before : State) : (s.doubtEvent before).plan = s.plan := by
  unfold State.doubtEvent
  split
  · rw [State.raise, State.setF_plan]
  · rfl

theorem Within.messages_plan {own : List Nat} {s t : State} (h : Within messagesErased own s t) : t.plan = s.plan :=
  (congrArg State.plan h.frame :)

/-- The records that RECONCILE confirms are put at their indexes; nothing else changes the indexes in use. -/
theorem State.resReconcile_used {s : State} {m pid : Nat} (hv : s.machValid m = true) (hp : s.machWord m 8 = pid) :
    (s.resReconcile m pid).2.plan.used = ((s.machRecords m).filter fun r => r.doubt).foldl (fun l r => insertIndex r.idx l) s.plan.used := by
  have hput (l : List Rsv) (t : State) : (l.foldl (fun s r => s.rsvPut { r with doubt := false }) t).plan.used =
      l.foldl (fun u r => insertIndex r.idx u) t.plan.used := by
    induction l generalizing t with
    | nil => rfl
    | cons r l ih => rw [List.foldl_cons, ih, State.rsvPut_plan, List.foldl_cons]
  have htold (t : State) : (t.leadTell s).plan = t.plan := (Within.leadTell (own := [0xF1060]) t s (by decide)).messages_plan
  unfold State.resReconcile
  rw [hv, Bool.not_true, if_neg Bool.false_ne_true, if_neg (not_not_intro hp)]
  refine (Within.journal (own := []) _ 2).used.trans ?_
  rw [htold, State.doubtEvent_plan, hput]

/-! ### A list of indexes in order -/

theorem mem_of_mem_insertWith {α : Type} {lt : α → α → Bool} {x y : α} {l : List α} (h : y ∈ insertWith lt x l) : y = x ∨ y ∈ l := by
  induction l with
  | nil => exact .inl (List.mem_singleton.1 h)
  | cons z l ih =>
    unfold insertWith at h
    split at h
    · exact List.mem_cons.1 h
    · rcases List.mem_cons.1 h with rfl | h
      · exact .inr (List.mem_cons_self ..)
      · exact (ih h).imp_right (List.mem_cons_of_mem z)

theorem mem_of_mem_sortWith {α : Type} {lt : α → α → Bool} {y : α} {l : List α} (h : y ∈ sortWith lt l) : y ∈ l := by
  induction l with
  | nil => exact h
  | cons x l ih =>
    rcases mem_of_mem_insertWith h with rfl | h
    · exact List.mem_cons_self ..
    · exact List.mem_cons_of_mem x (ih h)

theorem insertIndex_of_mem {i : Nat} {l : List Nat} (h : l.Pairwise (· < ·)) (hi : i ∈ l) : insertIndex i l = l := by
  induction l with
  | nil => exact absurd hi List.not_mem_nil
  | cons j l ih =>
    obtain ⟨hj, hl⟩ := List.pairwise_cons.1 h
    unfold insertIndex
    rcases List.mem_cons.1 hi with rfl | hi
    · rw [if_neg (Nat.lt_irrefl _), if_pos rfl]
    · have hlt := hj i hi
      rw [if_neg (by omega), if_neg (by omega), ih hl hi]

/-- The rest of the refuted clause holds: RECONCILE keeps a list of indexes that is in order, as the store's own operations list them. -/
theorem State.resReconcile_used_ordered {s : State} {m pid : Nat} (hv : s.machValid m = true) (hp : s.machWord m 8 = pid)
    (h : s.plan.used.Pairwise (· < ·)) : (s.resReconcile m pid).2.plan.used = s.plan.used := by
  rw [State.resReconcile_used hv hp]
  refine List.foldlRecOn _ _ (motive := fun l => l = s.plan.used) rfl fun l hl r hr => ?_
  have hrec : r ∈ s.rsvs := (List.mem_filter.1 (mem_of_mem_sortWith (List.mem_filter.1 hr).1)).1
  obtain ⟨i, hi, rfl⟩ := List.mem_map.1 hrec
  rw [hl]
  exact insertIndex_of_mem h hi

/-! ## A state whose list of indexes is not in order -/

/-- The block after reset with two records in use, listed as 1 and 0: record 0 is a DOUBT record of machine 0, which is valid, and record 1 one
of machine 1. -/
def recordsUnordered : State :=
  { State.reset with
    plan := { used := [1, 0] }
    mem := { bytes := [(0x10840000, 1), (0x10900000, 5), (0x10900010, 1), (0x10900011, 1)] } }

/-- Refutes O39: the statement holds RECONCILE to the list of indexes of every state, also of one that lists them out of order. There the DOUBT
record 0 is put before record 1, where it is not found, and is listed twice. -/
theorem not_storeCommands : ¬ Obligations.StoreCommands := by
  rintro ⟨-, hruns, -⟩
  have ho : recordsUnordered.opens (.ctl 0) 0x91054 true = true := by decide
  have hb : recordsUnordered.flag F.TRACK_RES_CMD_STAT_BUSY = false := by decide
  have ha : recordsUnordered.notActive = false := by decide
  obtain ⟨-, -, -, -, -, hreconcile⟩ := hruns (.ctl 0) 0 recordsUnordered ho hb rfl rfl
  obtain ⟨-, -, hdone, -, -⟩ := hreconcile ha (by decide)
  obtain ⟨t, hx, -, -, ⟨-, hused⟩, -⟩ := hdone (by decide) (by decide)
  obtain rfl : recordsUnordered.resCommand (.ctl 0) 5 0 = t := Host.Outcome.next.inj hx
  have hlist := (State.resCommand_used ho hb ha rfl rfl 5 0).trans
    (State.resReconcile_used (s := recordsUnordered.resRunning) (m := 0) (pid := 0) (by decide) (by decide))
  exact absurd (hlist.symm.trans hused) (by decide)

end Sys2Proof.Machine
end

section
/-! A fix of STATUS 0 and the lead's updates: the fix writes the machine's record and its shadow, and a record of the store that lies in the
shadow changes with it (R188, R217, R224). -/

namespace Sys2Proof.Machine

/-! ## A block that waits for a queue held open (R481, R482) -/

theorem wordValid_mboxWord {tag : Nat} (p : Nat) (h : tag = 1 ∨ tag = 3) : wordValid (mboxWord tag p) = true := by
  have hp : p % 2 ^ 56 < 2 ^ 56 := Nat.mod_lt _ (by decide)
  have hw : (mboxWord tag p).toNat = tag * 2 ^ 60 + p % 2 ^ 56 := by
    unfold mboxWord
    rw [BitVec.toNat_ofNat]
    exact Nat.mod_eq_of_lt (by omega)
  have htag : wordTag (mboxWord tag p) = tag := by
    unfold wordTag
    omega
  have hzero : bitsOf (mboxWord tag p).toNat 59 56 = 0 := by
    unfold bitsOf
    omega
  unfold wordValid
  rcases h with rfl | rfl <;> simp [htag, hzero]

/-- Another writer than `w` holds queue `q` open. -/
structure HeldOpen (q : Nat) (w : Writer) (s : State) : Prop where
  queue : q < 62
  enabled : s.mboxEnabled q = true
  ptr : (s.mboxQ q).ptrBad = false
  opener : ∃ o, o ≠ w ∧ (s.mboxQ q).opener = some o

/-- The writes that wait at a queue. -/
def State.waiting (s : State) (q : Nat) : Nat := (s.mboxQ q).held.length

namespace HeldOpen

variable {q : Nat} {w : Writer} {s t : State}

theorem of_eq (h : HeldOpen q w s) (hen : t.mboxEnabled q = s.mboxEnabled q) (hm : t.mbox = s.mbox) : HeldOpen q w t where
  queue := h.queue
  enabled := hen.trans h.enabled
  ptr := by
    unfold State.mboxQ
    rw [hm]
    exact h.ptr
  opener := by
    unfold State.mboxQ
    rw [hm]
    exact h.opener

/-- A word for the queue waits. -/
theorem mboxWrite (h : HeldOpen q w s) {word : DWord} (hv : wordValid word = true) (packet : Bool) (lost : Option Lost) :
    s.mboxWrite q w word packet lost =
      s.setMbox q { s.mboxQ q with held := (s.mboxQ q).held ++ [⟨w, word, packet, s.now, lost⟩] } := by
  obtain ⟨hq, hen, hptr, o, ho, hopen⟩ := h
  have hcheck : s.mboxCheckPtr q = s := by
    unfold State.mboxCheckPtr
    simp [hptr]
  have htakes : s.mboxTakes q w = false := by
    unfold State.mboxTakes
    simp [hopen, ho]
  unfold State.mboxWrite
  simp only [hcheck, hen, hv, htakes, Nat.not_le.2 hq, Bool.not_true, Bool.false_eq_true, if_false]

theorem mboxWrite_waits (h : HeldOpen q w s) {word : DWord} (hv : wordValid word = true) (packet : Bool) (lost : Option Lost) :
    HeldOpen q w (s.mboxWrite q w word packet lost) ∧ (s.mboxWrite q w word packet lost).waiting q = s.waiting q + 1 := by
  rw [h.mboxWrite hv]
  have hget (v : MboxQueue) : (s.setMbox q v).mboxQ q = v := Assoc.get_put_same
  refine ⟨⟨h.queue, h.enabled, ?_, ?_⟩, ?_⟩
  · rw [hget]
    exact h.ptr
  · rw [hget]
    exact h.opener
  · unfold State.waiting
    rw [hget]
    simp

theorem postPacket {b : Block} (h : HeldOpen q (.blk b) s) (lost : Option Lost) (l : List Nat) :
    HeldOpen q (.blk b) (s.postPacket q b lost l) ∧ (s.postPacket q b lost l).waiting q = s.waiting q + l.length := by
  induction l generalizing s with
  | nil => exact ⟨h, rfl⟩
  | cons p ps ih =>
    cases ps with
    | nil => exact h.mboxWrite_waits (wordValid_mboxWord p (.inr rfl)) true lost
    | cons p' ps =>
      obtain ⟨hopen, hone⟩ := h.mboxWrite_waits (wordValid_mboxWord p (.inl rfl)) true none
      obtain ⟨hlast, hrest⟩ := ih hopen
      refine ⟨hlast, hrest.trans ?_⟩
      simp only [hone, List.length_cons]
      omega

end HeldOpen

/-! ## The lead's message waits (R391, R392) -/

theorem State.mboxEnabled_setF (s : State) {f : Fld} (v : Nat) {q : Nat} (hf : f.hi < 32) (hk : 0x40000 ≤ f.key) (hq : q < 62) :
    (s.setF f v).mboxEnabled q = s.mboxEnabled q := by
  have hflag : (s.setF f v).flag (F.MBOX_CFG_EN (q / 4) (q % 4)) = s.flag (F.MBOX_CFG_EN (q / 4) (q % 4)) :=
    State.flag_of_reg_eq (show 31 < 32 by decide) (State.reg_setF_other hf (by simp only [F.MBOX_CFG_EN]; omega))
  unfold State.mboxEnabled
  rw [hflag]

/-- The pair engine's words go to queue `q`, which another writer holds open. -/
structure PairWaits (q : Nat) (s : State) : Prop where
  held : HeldOpen q (.blk .pair) s
  queue : s.getF F.SWCH_P21_TX_QUEUE = q

theorem PairWaits.setF {q : Nat} {s : State} (h : PairWaits q s) {f : Fld} (v : Nat) (hf : f.hi < 32) (hk : 0x40000 ≤ f.key)
    (hne : F.SWCH_P21_TX_QUEUE.key ≠ f.key) : PairWaits q (s.setF f v) where
  held := h.held.of_eq (s.mboxEnabled_setF v hf hk h.held.queue) (State.setF_mbox ..)
  queue := (State.getF_of_reg_eq (by decide) (State.reg_setF_other hf hne)).trans h.queue

theorem PairWaits.sendFragment {q : Nat} {s : State} (h : PairWaits q s) (type : Nat) (dest : MsgDest) (frag : List Byte) :
    PairWaits q (s.sendFragment type dest frag) ∧ s.waiting q < (s.sendFragment type dest frag).waiting q := by
  have hheld : HeldOpen q (.blk .pair) (s.fresh 56).2 := h.held.of_eq rfl rfl
  have hq : (s.fresh 56).2.getF F.SWCH_P21_TX_QUEUE = q := h.queue
  have hsent := Within.sendFragment (own := []) s type dest frag
  refine ⟨⟨?_, (hsent.getF (by decide) (by decide) (by decide) (by decide)).trans h.queue⟩, ?_⟩
  · unfold State.sendFragment
    dsimp only
    rw [hq]
    exact (hheld.postPacket none _).1
  · unfold State.sendFragment
    dsimp only
    rw [hq, (hheld.postPacket none _).2, List.length_cons]
    exact Nat.lt_add_of_pos_right (Nat.succ_pos _)

theorem fragments_ne_nil (body : List Byte) : fragments body ≠ [] := by
  unfold fragments
  split
  · exact List.cons_ne_nil _ _
  · next h =>
    have hlen : body.length ≠ 0 := by simpa using h
    obtain ⟨n, hn⟩ : ∃ n, (body.length + 1999) / 2000 = n + 1 := ⟨(body.length + 1999) / 2000 - 1, by omega⟩
    rw [hn]
    exact List.cons_ne_nil _ _

theorem State.waiting_of_mbox {s t : State} (h : t.mbox = s.mbox) (q : Nat) : t.waiting q = s.waiting q := by
  unfold State.waiting State.mboxQ
  rw [h]

/-- The state in which a message has its MSG_SEQ and is counted. -/
def State.numbered (s : State) (seq : Nat) : State :=
  { s with pair := { s.pair with nextSeq := some ((seq + 1) % 2 ^ 32), lastSeq := some seq } }.bump F.CASC_TX_COUNT

theorem PairWaits.numbered {q : Nat} {s : State} (h : PairWaits q s) (seq : Nat) : PairWaits q (s.numbered seq) :=
  PairWaits.setF (f := F.CASC_TX_COUNT)
    (s := { s with pair := { s.pair with nextSeq := some ((seq + 1) % 2 ^ 32), lastSeq := some seq } })
    ⟨h.held.of_eq rfl rfl, h.queue⟩ _ (by decide) (by decide) (by decide)

theorem State.numbered_mbox (s : State) (seq : Nat) : (s.numbered seq).mbox = s.mbox := State.setF_mbox ..

theorem PairWaits.sendFragments {q : Nat} {s : State} (h : PairWaits q s) {α : Type} (type : Nat) (dest : MsgDest) (f : State → α → List Byte)
    (l : List α) : s.waiting q + l.length ≤ (l.foldl (fun t x => t.sendFragment type dest (f t x)) s).waiting q := by
  induction l generalizing s with
  | nil => exact Nat.le_refl _
  | cons x l ih =>
    obtain ⟨hnext, hmore⟩ := h.sendFragment type dest (f s x)
    have hrest := ih hnext
    rw [List.foldl_cons, List.length_cons]
    omega

/-- A message makes more writes wait. -/
theorem PairWaits.sendMsg {q seq : Nat} {s : State} {key : List Byte} (h : PairWaits q s) (hk : s.keys.kCasc = some key)
    (hs : s.pair.nextSeq = some seq) (type : Nat) (dest : MsgDest) (flags : Nat) (body : List Byte) :
    s.waiting q < (s.sendMsg type dest flags body).waiting q := by
  have hsent := (h.numbered seq).sendFragments type dest
    (fun t (p : List Byte × Nat) => t.fragment key type seq flags body.length (fragments body).length dest p.2 p.1) (fragments body).zipIdx
  have hpos : 0 < (fragments body).length := List.length_pos_of_ne_nil (fragments_ne_nil body)
  rw [State.waiting_of_mbox (s.numbered_mbox seq), List.length_zipIdx] at hsent
  unfold State.sendMsg
  rw [hk, hs]
  exact Nat.lt_of_lt_of_le (Nat.lt_add_of_pos_right hpos) hsent

theorem State.jnoteObj_kept (s : State) (obj idx : Nat) (l : List Byte) : (s.jnoteObj obj idx l).mbox = s.mbox ∧
    (s.jnoteObj obj idx l).keys = s.keys ∧ (s.jnoteObj obj idx l).pair.nextSeq = s.pair.nextSeq := by
  unfold State.jnoteObj
  split <;> exact ⟨rfl, rfl, rfl⟩

theorem PairWaits.jnoteObj {q : Nat} {s : State} (h : PairWaits q s) (obj idx : Nat) (l : List Byte) : PairWaits q (s.jnoteObj obj idx l) := by
  unfold State.jnoteObj
  split
  · exact ⟨h.held.of_eq rfl rfl, h.queue⟩
  · exact h

/-- The lead's update makes more writes wait. -/
theorem PairWaits.nextUpdate {q seq : Nat} {s : State} {key : List Byte} (h : PairWaits q s) (hk : s.keys.kCasc = some key)
    (hs : s.pair.nextSeq = some seq) (member m plan from_ : Nat) : s.waiting q < (s.nextUpdate member m plan from_).waiting q := by
  have hset := h.setF (f := F.CASC_UPD_SEQ_SEQ) ((s.getF F.CASC_UPD_SEQ_SEQ + 1) % 2 ^ 32) (by decide) (by decide) (by decide)
  have hnoted := hset.jnoteObj 0x0B 0 []
  have hmbox : ((s.setF F.CASC_UPD_SEQ_SEQ ((s.getF F.CASC_UPD_SEQ_SEQ + 1) % 2 ^ 32)).jnoteObj 0x0B 0 []).mbox = s.mbox :=
    (State.jnoteObj_kept ..).1.trans (State.setF_mbox ..)
  have hkey : ((s.setF F.CASC_UPD_SEQ_SEQ ((s.getF F.CASC_UPD_SEQ_SEQ + 1) % 2 ^ 32)).jnoteObj 0x0B 0 []).keys = s.keys :=
    (State.jnoteObj_kept ..).2.1.trans (State.setF_keys ..)
  have hseq : ((s.setF F.CASC_UPD_SEQ_SEQ ((s.getF F.CASC_UPD_SEQ_SEQ + 1) % 2 ^ 32)).jnoteObj 0x0B 0 []).pair.nextSeq = s.pair.nextSeq :=
    (State.jnoteObj_kept ..).2.2.trans (congrArg PairSt.nextSeq (State.setF_pair ..))
  rw [← State.waiting_of_mbox hmbox]
  exact hnoted.sendMsg ((congrArg _ hkey).trans hk) (hseq.trans hs) ..

/-! ## The ends of a transaction of a unit without a partner -/

theorem State.journalOpen_mbox {s : State} (h : s.pairActive = false) : s.journalOpen.mbox = s.mbox := by
  unfold State.journalOpen
  split
  · rfl
  · exact (congrArg State.mbox (State.journal_of_unpaired (s := (s.fresh 7).2) h _) :)

/-- One machine's shared records have changed. -/
theorem State.leadTell_one {s before : State} {k : Nat × Nat} (hl : (s.isLead && s.flag F.CASC_CTRL_EN) = true)
    (hk : ((before.rsvs.filter before.rsvShared ++ s.rsvs.filter s.rsvShared).map fun r => (r.member, r.machine)).eraseDups = [k])
    (hp : ((((before.rsvs.filter before.rsvShared).filter fun r => r.member == k.1 && r.machine == k.2).map fun r => r.words).isPerm
      (((s.rsvs.filter s.rsvShared).filter fun r => r.member == k.1 && r.machine == k.2).map fun r => r.words)) = false) :
    ∃ plan from_, s.leadTell before = s.nextUpdate k.1 k.2 plan from_ := by
  unfold State.leadTell
  rw [if_pos hl]
  dsimp only
  rw [hk, List.foldl_cons, List.foldl_nil, if_neg (by rw [hp]; exact Bool.false_ne_true)]
  exact ⟨_, _, rfl⟩

/-! ## A fix of STATUS 0 (R217) -/

theorem exec_fixPacket_unlocated {ps : List Nat} {s s1 : State} {p : TrackPlan} (ht : s.ticking 0x090 = true)
    (he : s.flag F.TRACK_CTRL_TRACK_EN = true) (hr : s.mboxPacketReady (s.getF F.TRACK_QUEUES_FIX_QUEUE) = true)
    (htake : s.mboxTakePacket (s.getF F.TRACK_QUEUES_FIX_QUEUE) (s.mboxQ (s.getF F.TRACK_QUEUES_FIX_QUEUE)).level = (ps, false, s1))
    (hlen : ps.length = 5) {m : Nat} (hm : bitsOf (wordAt (unpack7 32 ps) 0) 19 12 = m) (ha : s1.notActive = false)
    (hv : s1.machValid m = true) (hp : s1.track m = some p) (hact : s1.planActive m = true)
    (hst : bitsOf (wordAt (unpack7 32 ps) 0) 11 9 = 0) (hmin : s1.getF F.TRACK_CTRL_MIN_STATUS = 0)
    (htick : 0 < tickDiff (s1.fullEpoch (wordAt (unpack7 32 ps) 4) / 10 % 2 ^ 32) (s1.machWord m 11)) :
    exec .fixPacket s = .next ((s1.planWords m [(11, s1.fullEpoch (wordAt (unpack7 32 ps) 4) / 10 % 2 ^ 32)]).leadTell s1).journalOpen := by
  refine (State.liveTick_of_ticking ht _).trans (congrArg Host.Outcome.next ?_)
  have htrack (e n : Int) : s1.trackFix m 0 (s1.fullEpoch (wordAt (unpack7 32 ps) 4)) e n =
      s1.planWords m [(11, s1.fullEpoch (wordAt (unpack7 32 ps) 4) / 10 % 2 ^ 32)] := by
    have hlate : decide (tickDiff (s1.fullEpoch (wordAt (unpack7 32 ps) 4) / 10 % 2 ^ 32) (s1.machWord m 11) ≤ 0) = false :=
      decide_eq_false (Int.not_le.2 htick)
    unfold State.trackFix
    simp only [hp, hact, hmin, hlate, Nat.not_lt_zero, decide_false, Bool.not_true, Bool.false_and, Bool.or_self, Bool.false_eq_true,
      if_false, if_true]
  simp only [he, hr, htake, hlen, hm, hst, ha, hv, htrack, Bool.not_true, Bool.or_self, Bool.false_eq_true, if_false, if_true,
    not_true_eq_false, ne_eq, or_self]

/-! ## A record of the store in the shadow of machine 0 -/

/-- What machine 0 follows. -/
def shadowedPlan : TrackPlan := ⟨0, 0, 0, 0, [], [], [], [], 0, none, []⟩

/-- The registers after reset, but for the tracker, the cascade and the queues: fixes come in queue 3, the pair engine posts in queue 1, and
the shadow begins at 0x13000000. -/
def shadowedRegs : State :=
  (((((((State.reset.setF F.TRACK_CTRL_TRACK_EN 1).setF F.TRACK_CTRL_MIN_STATUS 0).setF F.TRACK_QUEUES_FIX_QUEUE 3).setF
    (F.MBOX_CFG_EN 0 3) 1).setF (F.MBOX_CFG_EN 0 1) 1).setF F.SWCH_P21_TX_QUEUE 1).setF F.CASC_CTRL_EN 1).setF F.SHADOW_BASE_BASE 0x13000

/-- A lead with a valid machine 0 under way and cell 0 valid and shared. The store lists record 3096576, which lies in the shadow of machine
0's record. A fix of STATUS 0 of machine 0 at 10 s waits in queue 3, and the planner holds queue 1 open. -/
def recordInShadow : State :=
  { shadowedRegs with
    now := 100000000000
    time := { out := 10 * secUnit }
    plan := { used := [3096576], plans := [(0, some shadowedPlan)] }
    mem := { bytes := [(0x10440000, 9), (0x10840000, 1), (0x10840030, 1)] }
    keys := { State.reset.keys with kCasc := some [] }
    pair := { State.reset.pair with nextSeq := some 0 }
    mbox := [(1, { opener := some (.blk .planner) }), (3, { drain :=
      ([10000 * 2 ^ 32, 0, 0, 0].map fun p => ⟨mboxWord 1 p, false⟩) ++ [⟨mboxWord 3 0, false⟩] })] }

/-- The packet taken, and the state after it. -/
def shadowedFix : List Nat × Bool × State := recordInShadow.mboxTakePacket 3 5

/-- The state after machine 0's record is written. -/
def shadowedMoved : State := shadowedFix.2.2.planWords 0 [(11, 1000)]

theorem shadowedFix_taken : recordInShadow.mboxTakePacket (recordInShadow.getF F.TRACK_QUEUES_FIX_QUEUE)
    (recordInShadow.mboxQ (recordInShadow.getF F.TRACK_QUEUES_FIX_QUEUE)).level = (shadowedFix.1, false, shadowedFix.2.2) := by
  have hq : recordInShadow.getF F.TRACK_QUEUES_FIX_QUEUE = 3 := by decide
  have hl : (recordInShadow.mboxQ 3).level = 5 := by decide
  have hbad : shadowedFix.2.1 = false := by decide
  rw [hq, hl, ← hbad]
  rfl

/-- The record is no longer one of cell 0, which is shared: the VERSION of machine 0's record stands in the place of its cell. The lead tells
the change, and its message waits at queue 1. -/
theorem shadowedMoved_tells : shadowedMoved.waiting 1 < ((shadowedMoved.leadTell shadowedFix.2.2).journalOpen).waiting 1 := by
  have hwaits : PairWaits 1 shadowedMoved := ⟨⟨by decide, by decide, by decide, .blk .planner, by decide, by decide⟩, by decide⟩
  have hrole : (shadowedMoved.leadTell shadowedFix.2.2).pairActive = false := State.pairActive_of_unpaired (s := shadowedMoved) (by decide)
    ((Within.leadTell (own := [0xF1060]) shadowedMoved shadowedFix.2.2 (by decide)).reg _ (by decide) (by decide) (by decide))
  obtain ⟨plan, from_, htold⟩ := State.leadTell_one (s := shadowedMoved) (before := shadowedFix.2.2) (k := (0, 0)) (by decide) (by decide)
    (by decide)
  rw [State.waiting_of_mbox (State.journalOpen_mbox hrole), htold]
  exact hwaits.nextUpdate (key := []) (seq := 0) (by decide) (by decide) ..

/-- Refutes O38: the statement lets a fix of STATUS 0 change no queue, in every state, also in one whose store lists a record outside of its
table. There the record lies in the shadow of machine 0's record: the fix writes that too, the record is no longer one of a shared cell, and
the lead tells it in a message to the queue of port 21. -/
theorem not_tracker : ¬ Obligations.Tracker := by
  rintro ⟨hfix, -⟩
  have hticking : recordInShadow.ticking 0x090 = true := by decide
  have hen : recordInShadow.flag F.TRACK_CTRL_TRACK_EN = true := by decide
  have hready : recordInShadow.mboxPacketReady (recordInShadow.getF F.TRACK_QUEUES_FIX_QUEUE) = true := by decide
  have hlen : shadowedFix.1.length = 5 := by decide
  have hm : bitsOf (wordAt (unpack7 32 shadowedFix.1) 0) 19 12 = 0 := by decide
  have hstatus : bitsOf (wordAt (unpack7 32 shadowedFix.1) 0) 11 9 = 0 := by decide
  have htick : shadowedFix.2.2.fullEpoch (wordAt (unpack7 32 shadowedFix.1) 4) / 10 % 2 ^ 32 = 1000 := by decide
  have hvalid : shadowedFix.2.2.machValid 0 = true := by decide
  have htrack : shadowedFix.2.2.track 0 = some shadowedPlan := by decide
  have hactive : shadowedFix.2.2.planActive 0 = true := by decide
  have hmin : shadowedFix.2.2.getF F.TRACK_CTRL_MIN_STATUS = 0 := by decide
  have hlate : 0 < tickDiff (shadowedFix.2.2.fullEpoch (wordAt (unpack7 32 shadowedFix.1) 4) / 10 % 2 ^ 32) (shadowedFix.2.2.machWord 0 11) := by
    rw [htick]
    decide
  obtain ⟨-, htaken⟩ := (hfix shadowedFix.1 false recordInShadow shadowedFix.2.2).2 hticking hen hready shadowedFix_taken
  obtain ⟨-, -, hunlocated, -⟩ := htaken rfl hlen
  rw [hm] at hunlocated
  obtain ⟨t, hx, -, -, hframe⟩ := hunlocated shadowedPlan (by decide) hvalid htrack hactive hstatus hmin hlate
  have hsame : t.waiting 1 = shadowedFix.2.2.waiting 1 := State.waiting_of_mbox (congrArg State.mbox hframe) 1
  have hexec : exec .fixPacket recordInShadow = .next (shadowedMoved.leadTell shadowedFix.2.2).journalOpen := by
    unfold shadowedMoved
    rw [← htick]
    exact exec_fixPacket_unlocated hticking hen hready shadowedFix_taken hlen hm (by decide) hvalid htrack hactive hstatus hmin hlate
  have hmore := shadowedMoved_tells
  rw [← Host.Outcome.next.inj (hx.symm.trans hexec), hsame] at hmore
  exact absurd hmore (by decide)

end Sys2Proof.Machine
end

section
/-! The operations of segment delivery: what they change, and what a pass over the tables in delivery leaves of them (R239 to R241). -/

namespace Sys2Proof.Machine

/-! ## Tables -/

@[simp] theorem State.segTable_setSegTable_same (s : State) (m : Nat) (x : SegTable) : (s.setSegTable m x).segTable m = x :=
  Assoc.get_put_same

theorem State.segTable_setSegTable_other (s : State) {m j : Nat} (x : SegTable) (h : j ≠ m) : (s.setSegTable m x).segTable j = s.segTable j :=
  Assoc.get_put_other h

theorem State.segTable_of_seg {s t : State} (h : t.seg = s.seg) (m : Nat) : t.segTable m = s.segTable m :=
  congrArg (fun x : SegSt => Assoc.get (fun _ => ({} : SegTable)) x.tables m) h

/-- A value that is not the one of an unlisted key stands in the list. -/
theorem Assoc.mem_of_get_ne {α : Type} {d : Nat → α} {l : List (Nat × α)} {k : Nat} (h : Assoc.get d l k ≠ d k) :
    (k, Assoc.get d l k) ∈ l := by
  induction l with
  | nil => exact absurd rfl h
  | cons e l ih =>
    simp only [Assoc.get] at h ⊢
    split
    · next hk => exact List.mem_cons.2 (.inl (by rw [← hk]))
    · next hk => exact List.mem_cons_of_mem _ (ih (by rwa [if_neg hk] at h))

/-- A table in delivery is among those that a pass goes through. -/
theorem State.segTable_mem_segRunning {s : State} {m : Nat} (h : (s.segTable m).running = true) : (m, s.segTable m) ∈ s.segRunning :=
  List.mem_filter.2 ⟨Assoc.mem_of_get_ne fun he => by rw [State.segTable, he] at h; exact absurd h (by decide), h⟩

/-! ## What an event of a table changes (R241) -/

/-- The registers of the SEG page that its events and counts change. -/
def segKeys : List Nat := [0xA0010, 0xA0050, 0xA0054, 0xA0058]

/-- How SEG counts a word that it loses. -/
def segLost : Option Lost := some ⟨F.SEG_EVT_LOST_COUNT, some (0x0A0, 3), none⟩

/-- Everything but registers, the delivery of tables, the queues and the answer on the bus. -/
def deliveryErased (s : State) : State := { s with regs := [], seg := {}, mbox := [], bus := ⟨0, false⟩ }

theorem Within.delivery_only {own : List Nat} {s t : State} (h : Within deliveryErased own s t) :
    t = { s with regs := t.regs, seg := t.seg, mbox := t.mbox, bus := t.bus } :=
  congrArg (fun x : State => { x with regs := t.regs, seg := t.seg, mbox := t.mbox, bus := t.bus }) h.frame

theorem Within.queues_seg {own : List Nat} {s t : State} (h : Within queuesErased own s t) : t.seg = s.seg := by rw [h.queues_only]

theorem Within.setSegTable {own : List Nat} (s : State) (m : Nat) (x : SegTable) : Within deliveryErased own s (s.setSegTable m x) :=
  .of_regs rfl rfl

/-- A block's word, whatever the count of a lost one changes. -/
theorem Within.mboxWrite_of_lost {own : List Nat} (s : State) {q : Nat} (hq : q < 64) (b : Block) (word : DWord) (packet : Bool)
    {lost : Option Lost} (hl : ∀ t, Within queuesErased own t (State.countLost t lost)) :
    Within queuesErased own s (s.mboxWrite q (.blk b) word packet lost) := by
  have hrefused (t : State) (code a : Nat) : Within queuesErased own t ((t.err (mboxPage q) code none a).countLost lost) :=
    ((err t code none a (mboxPage_lt hq)).weaken fun _ => rfl).trans (hl _)
  have hfail (t : State) : Within regsErased own t (t.bump (F.MBOX_WR_FAIL_COUNT (q / 4) (q % 4))) :=
    bump t (show 31 < 32 by decide) (.inl (by simp only [F.MBOX_WR_FAIL_COUNT]; omega))
  have hfailed (t : State) : Within queuesErased own t (t.mboxFail q (.blk b) lost) :=
    (((hfail t).weaken fun _ => rfl).trans (mboxEvent _ hq (by decide))).trans (hl _)
  have hstored (t : State) : Within queuesErased own t ((t.mboxStore q (.blk b) word packet).mboxServe q) :=
    (mboxStore t hq ..).trans (mboxServeHeld _ hq _)
  unfold State.mboxWrite
  exact (mboxCheckPtr s hq).trans (ite (hfailed _) (ite (hrefused ..) (ite (hrefused ..) (ite (hstored _) (setMbox ..)))))

theorem Within.segCount (s : State) (f : Fld) (hf : f.hi < 32) (hk : f.key ∈ segKeys) (h : f.key % 0x1000 ≠ 0x10) :
    Within regsErased segKeys s (s.bump f) :=
  bump s hf (.inr ⟨.inr hk, h⟩)

theorem Within.segRaise (s : State) {b : Nat} (hb : b < 32) : Within regsErased segKeys s (s.raise 0x0A0 b) :=
  raise s hb (.inr (.inr (by decide)))

theorem Within.segPost (s : State) {q : Nat} (hq : q < 64) (payload : Nat) : Within queuesErased segKeys s (s.post q .seg payload segLost) :=
  mboxWrite_of_lost s hq .seg _ false fun t =>
    ((segCount t F.SEG_EVT_LOST_COUNT (by decide) (by decide) (by decide)).trans (segRaise _ (by decide))).weaken fun _ => rfl

/-- What an event of a table changes after its bit is raised. -/
theorem Within.segEvent_afterRaise (s : State) (kind m : Nat) (x : SegTable) :
    Within queuesErased segKeys (s.raise 0x0A0 (kind - 1)) (s.segEvent kind m x) :=
  ite (segPost _ (State.getF_lt _ (f := F.SEG_CTRL_EVT_QUEUE) (by decide)) _) (refl _)

theorem Within.segEvent (s : State) {kind : Nat} (h : kind - 1 < 32) (m : Nat) (x : SegTable) :
    Within queuesErased segKeys s (s.segEvent kind m x) :=
  ((segRaise s h).weaken fun _ => rfl).trans (segEvent_afterRaise ..)

theorem State.segEvent_event (s : State) {kind : Nat} (h : kind - 1 < 32) (m : Nat) (x : SegTable) :
    (s.segEvent kind m x).event 0x0A0 (kind - 1) = true :=
  (Within.segEvent_afterRaise s kind m x).event _ _ (by decide) (State.event_raise_same _ _ h)

theorem State.segEvent_segTable (s : State) {kind : Nat} (h : kind - 1 < 32) (m : Nat) (x : SegTable) (j : Nat) :
    (s.segEvent kind m x).segTable j = s.segTable j :=
  State.segTable_of_seg (Within.segEvent s h m x).queues_seg j

/-! ## Passes over the tables in delivery (R240) -/

/-- The epochs after START_TICK that a table may take, in ms. -/
def State.giveUpMs (s : State) : Int := s.getF F.SEG_CTRL_GIVEUP_EP * s.epochMs

theorem Within.giveUpMs {E : State → State} {s t : State} (h : Within E segKeys s t) : t.giveUpMs = s.giveUpMs := by
  unfold State.giveUpMs State.epochMs
  rw [h.getF (f := F.SEG_CTRL_GIVEUP_EP) (by decide) (by decide) (by decide) (by decide),
    h.getF (f := F.SOLV_STAT_EPOCH_ACTIVE) (by decide) (by decide) (by decide) (by decide)]

/-- What the pass of LATE does to one table. -/
def State.segLateStep (tick : Nat) (s : State) (e : Nat × SegTable) : State :=
  if !e.2.late && decide (0 < tickDiff tick e.2.start) then
    ((s.setSegTable e.1 { e.2 with late := true }).bump F.SEG_LATE_COUNT).segEvent 2 e.1 e.2
  else s

/-- What the pass of GIVEUP does to one table. -/
def State.segGiveUpStep (tick : Nat) (s : State) (e : Nat × SegTable) : State :=
  if s.giveUpMs < tickDiff tick e.2.start * 10 then s.segGiveUpOne e.1 else s

theorem State.segLateAt_eq (s : State) (tick : Nat) : s.segLateAt tick = s.segRunning.foldl (State.segLateStep tick) s := rfl

theorem State.segGiveUpAt_eq (s : State) (tick : Nat) : s.segGiveUpAt tick = s.segRunning.foldl (State.segGiveUpStep tick) s := rfl

/-- A table written, a count and an event. -/
theorem Within.tableEvent (s : State) (m : Nat) (x : SegTable) {f : Fld} (hf : f.hi < 32) (hk : f.key ∈ segKeys) (h10 : f.key % 0x1000 ≠ 0x10)
    {kind : Nat} (h : kind - 1 < 32) (j : Nat) (y : SegTable) :
    Within deliveryErased segKeys s (((s.setSegTable m x).bump f).segEvent kind j y) :=
  ((setSegTable s m x).trans ((segCount _ f hf hk h10).weaken fun _ => rfl)).trans ((segEvent _ h j y).weaken fun _ => rfl)

theorem State.tableEvent_segTable (s : State) (m : Nat) (x : SegTable) (f : Fld) {kind : Nat} (h : kind - 1 < 32) (j : Nat) (y : SegTable)
    (i : Nat) : (((s.setSegTable m x).bump f).segEvent kind j y).segTable i = (s.setSegTable m x).segTable i :=
  (State.segEvent_segTable _ h j y i).trans (State.segTable_of_seg (State.bump_seg ..) i)

theorem Within.segLateStep (tick : Nat) (s : State) (e : Nat × SegTable) : Within deliveryErased segKeys s (s.segLateStep tick e) :=
  ite (tableEvent s _ _ (by decide) (by decide) (by decide) (by decide) _ _) (refl s)

theorem Within.segGiveUpStep (tick : Nat) (s : State) (e : Nat × SegTable) : Within deliveryErased segKeys s (s.segGiveUpStep tick e) :=
  ite (tableEvent s _ _ (by decide) (by decide) (by decide) (by decide) _ _) (refl s)

theorem Within.segLateAt (s : State) (tick : Nat) : Within deliveryErased segKeys s (s.segLateAt tick) :=
  foldl (segLateStep tick) _ s

theorem Within.segGiveUpAt (s : State) (tick : Nat) : Within deliveryErased segKeys s (s.segGiveUpAt tick) :=
  foldl (segGiveUpStep tick) _ s

section
variable {f : State → Nat × SegTable → State} {P : SegTable → Prop} {g : Int} {m : Nat}
  (hw : ∀ t e, Within deliveryErased segKeys t (f t e)) (hkeep : ∀ t e, (f t e).segTable m = t.segTable m ∨ P ((f t e).segTable m))
include hkeep

/-- Steps that leave a table as it is or as `P` says keep it as `P` says. -/
theorem State.segSteps_keep (l : List (Nat × SegTable)) {t : State} (h : P (t.segTable m)) : P ((l.foldl f t).segTable m) :=
  List.foldlRecOn l f (motive := fun u => P (u.segTable m)) h fun u hu e _ => by
    rcases hkeep u e with he | he
    · rwa [he]
    · exact he

include hw

/-- Steps that reach a table in its turn, with the GIVEUP time as it was, leave it as `P` says. -/
theorem State.segSteps_settle {x : SegTable} (hdone : ∀ t, t.giveUpMs = g → t.segTable m = x → P ((f t (m, x)).segTable m))
    (l : List (Nat × SegTable)) (hm : (m, x) ∈ l) {t : State} (hg : t.giveUpMs = g) (ht : t.segTable m = x) :
    P ((l.foldl f t).segTable m) := by
  induction l generalizing t with
  | nil => exact absurd hm List.not_mem_nil
  | cons e l ih =>
    rcases hkeep t e with he | he
    · rcases List.mem_cons.1 hm with rfl | hm
      · exact State.segSteps_keep hkeep l (hdone t hg ht)
      · exact ih hm ((hw t e).giveUpMs.trans hg) (he.trans ht)
    · exact State.segSteps_keep hkeep l he

/-- A pass leaves every table as `P` says, where `P` holds of each that is not in delivery and of each after its turn. -/
theorem State.segPass_settles {s : State} (hidle : ∀ x : SegTable, x.running = false → P x)
    (hdone : ∀ t, t.giveUpMs = s.giveUpMs → t.segTable m = s.segTable m → P ((f t (m, s.segTable m)).segTable m)) :
    P ((s.segRunning.foldl f s).segTable m) := by
  cases hr : (s.segTable m).running with
  | false => exact State.segSteps_keep hkeep _ (hidle _ hr)
  | true => exact State.segSteps_settle hw hkeep hdone _ (State.segTable_mem_segRunning hr) rfl rfl

end

/-- A step of LATE leaves a table as it is or late. -/
theorem State.segLateStep_segTable (tick : Nat) (s : State) (e : Nat × SegTable) (m : Nat) :
    (s.segLateStep tick e).segTable m = s.segTable m ∨ ((s.segLateStep tick e).segTable m).late = true := by
  unfold State.segLateStep
  split
  · rw [State.tableEvent_segTable s _ _ _ (by decide)]
    by_cases hm : m = e.1
    · subst hm
      exact .inr (by rw [State.segTable_setSegTable_same])
    · exact .inl (State.segTable_setSegTable_other s _ hm)
  · exact .inl rfl

/-- A step of GIVEUP leaves a table as it is or ends its delivery. -/
theorem State.segGiveUpStep_segTable (tick : Nat) (s : State) (e : Nat × SegTable) (m : Nat) :
    (s.segGiveUpStep tick e).segTable m = s.segTable m ∨ ((s.segGiveUpStep tick e).segTable m).running = false := by
  unfold State.segGiveUpStep State.segGiveUpOne
  split
  · dsimp only
    rw [State.tableEvent_segTable s _ _ _ (by decide)]
    by_cases hm : m = e.1
    · subst hm
      exact .inr (by rw [State.segTable_setSegTable_same])
    · exact .inl (State.segTable_setSegTable_other s _ hm)
  · exact .inl rfl

/-- A table that LATE finds due is marked late. -/
theorem State.segLateStep_due {tick m : Nat} {s : State} {x : SegTable} (hl : x.late = false) (hd : 0 < tickDiff tick x.start) :
    s.segLateStep tick (m, x) = ((s.setSegTable m { x with late := true }).bump F.SEG_LATE_COUNT).segEvent 2 m x :=
  if_pos (by simp [hl, hd])

theorem State.segLateStep_undue {tick m : Nat} {s : State} {x : SegTable} (h : x.late = true ∨ tickDiff tick x.start ≤ 0) :
    s.segLateStep tick (m, x) = s :=
  if_neg (by rcases h with h | h <;> simp [h])

/-- A table that GIVEUP finds past its epochs is delivered no more. -/
theorem State.segGiveUpStep_due {tick m : Nat} {s : State} {x : SegTable} (h : s.giveUpMs < tickDiff tick x.start * 10) :
    s.segGiveUpStep tick (m, x) =
      ((s.setSegTable m { s.segTable m with running := false, flight := 0 }).bump F.SEG_GIVEUP_COUNT).segEvent 3 m (s.segTable m) :=
  if_pos h

theorem State.segGiveUpStep_undue {tick m : Nat} {s : State} {x : SegTable} (h : tickDiff tick x.start * 10 ≤ s.giveUpMs) :
    s.segGiveUpStep tick (m, x) = s :=
  if_neg (Int.not_lt.2 h)

/-- After LATE each table in delivery is late, or its START_TICK has not passed. -/
theorem State.segLateAt_settled (s : State) (tick m : Nat) : ((s.segLateAt tick).segTable m).running = true →
    ((s.segLateAt tick).segTable m).late = true ∨ tickDiff tick ((s.segLateAt tick).segTable m).start ≤ 0 := by
  refine State.segPass_settles (P := fun x => x.running = true → x.late = true ∨ tickDiff tick x.start ≤ 0) (Within.segLateStep tick)
    (fun t e => (t.segLateStep_segTable tick e m).imp_right fun h _ => .inl h) (fun x h h' => absurd h' (by simp [h])) fun t _ ht _ => ?_
  by_cases h : (s.segTable m).late = true ∨ tickDiff tick (s.segTable m).start ≤ 0
  · rwa [State.segLateStep_undue h, ht]
  · obtain ⟨hl, hd⟩ := not_or.1 h
    rw [State.segLateStep_due (by simpa using hl) (by omega), State.tableEvent_segTable _ _ _ _ (by decide)]
    exact .inl (by rw [State.segTable_setSegTable_same])

/-- After GIVEUP no table in delivery is past its epochs. -/
theorem State.segGiveUpAt_settled (s : State) (tick m : Nat) : ((s.segGiveUpAt tick).segTable m).running = true →
    tickDiff tick ((s.segGiveUpAt tick).segTable m).start * 10 ≤ s.giveUpMs := by
  refine State.segPass_settles (P := fun x => x.running = true → tickDiff tick x.start * 10 ≤ s.giveUpMs) (Within.segGiveUpStep tick)
    (fun t e => (t.segGiveUpStep_segTable tick e m).imp_right fun h h' => absurd h' (by simp [h])) (fun x h h' => absurd h' (by simp [h]))
    fun t hg ht hrun => ?_
  rcases Int.lt_or_le t.giveUpMs (tickDiff tick (s.segTable m).start * 10) with h | h
  · rw [State.segGiveUpStep_due h, State.tableEvent_segTable _ _ _ _ (by decide), State.segTable_setSegTable_same] at hrun
    exact absurd hrun Bool.false_ne_true
  · rwa [State.segGiveUpStep_undue h, ht, ← hg]

/-! ## A unit with one table in delivery -/

section
variable {s : State} {m : Nat} {x : SegTable} (ht : s.seg.tables = [(m, x)]) (hr : x.running = true)
include ht

theorem State.segTable_single : s.segTable m = x := by
  unfold State.segTable
  rw [ht]
  exact if_pos rfl

include hr

theorem State.segRunning_single : s.segRunning = [(m, x)] := by
  unfold State.segRunning
  rw [ht]
  exact List.filter_cons_of_pos hr

theorem State.segLateAt_single (tick : Nat) : s.segLateAt tick = s.segLateStep tick (m, x) := by
  rw [State.segLateAt_eq, State.segRunning_single ht hr, List.foldl_cons, List.foldl_nil]

theorem State.segGiveUpAt_single (tick : Nat) : s.segGiveUpAt tick = s.segGiveUpStep tick (m, x) := by
  rw [State.segGiveUpAt_eq, State.segRunning_single ht hr, List.foldl_cons, List.foldl_nil]

/-- LATE marks the one table, and event 1 tells it. -/
theorem State.segLateAt_marks {tick : Nat} (hl : x.late = false) (hd : 0 < tickDiff tick x.start) :
    (s.segLateAt tick).event 0x0A0 1 = true ∧ (s.segLateAt tick).segTable m = { x with late := true } := by
  rw [State.segLateAt_single ht hr, State.segLateStep_due hl hd, State.tableEvent_segTable _ _ _ _ (by decide)]
  exact ⟨State.segEvent_event _ (kind := 2) (by decide) _ _, s.segTable_setSegTable_same m _⟩

/-- GIVEUP ends the one table's delivery, and event 2 tells it. -/
theorem State.segGiveUpAt_ends {tick : Nat} (h : s.giveUpMs < tickDiff tick x.start * 10) :
    (s.segGiveUpAt tick).event 0x0A0 2 = true ∧ (s.segGiveUpAt tick).segTable m = { x with running := false, flight := 0 } := by
  rw [State.segGiveUpAt_single ht hr, State.segGiveUpStep_due h, State.tableEvent_segTable _ _ _ _ (by decide),
    State.segTable_single ht]
  exact ⟨State.segEvent_event _ (kind := 3) (by decide) _ _, s.segTable_setSegTable_same m _⟩

end

end Sys2Proof.Machine
end

section
/-! Delivery words, acknowledged chunks, LATE and GIVEUP (R239, R240, R384). -/

namespace Sys2Proof.Machine

/-! ## DELIVERY_WORD -/

section
variable {s s1 : State} {w : DWord} (ht : s.ticking 0x0A0 = true)
include ht

theorem exec_deliveryWord_suspended (hn : s.notActive = true) : exec .deliveryWord s = .next s :=
  (State.liveTick_of_ticking ht _).trans (congrArg Host.Outcome.next (if_pos hn))

variable (hn : s.notActive = false)
include hn

theorem exec_deliveryWord_none (h : s.mboxTake (s.getF F.TRACK_QUEUES_ACK_QUEUE) = (none, s1)) : exec .deliveryWord s = .next s1 := by
  refine (State.liveTick_of_ticking ht _).trans (congrArg Host.Outcome.next ?_)
  rw [if_neg (by rw [hn]; exact Bool.false_ne_true), h]

variable (h : s.mboxTake (s.getF F.TRACK_QUEUES_ACK_QUEUE) = (some w, s1))
include h

theorem exec_deliveryWord_taken : exec .deliveryWord s = .next
    (if wordTag w = 1 ∧ bitsOf (wordPayload w) 55 52 = 8 ∧ s1.machValid (bitsOf (wordPayload w) 47 40) then
      s1.setAck (bitsOf (wordPayload w) 47 40) (wordPayload w % 2 ^ 32) else s1) := by
  refine (State.liveTick_of_ticking ht _).trans (congrArg Host.Outcome.next ?_)
  rw [if_neg (by rw [hn]; exact Bool.false_ne_true), h]

theorem exec_deliveryWord_other
    (ho : wordTag w ≠ 1 ∨ bitsOf (wordPayload w) 55 52 ≠ 8 ∨ s1.machValid (bitsOf (wordPayload w) 47 40) = false) :
    exec .deliveryWord s = .next s1 := by
  rw [exec_deliveryWord_taken ht hn h, if_neg]
  rintro ⟨h1, h2, h3⟩
  exact ho.elim (· h1) (Or.elim · (· h2) (by simp [h3]))

theorem exec_deliveryWord_ack (h1 : wordTag w = 1) (h8 : bitsOf (wordPayload w) 55 52 = 8)
    (hv : s1.machValid (bitsOf (wordPayload w) 47 40) = true) :
    exec .deliveryWord s = .next (s1.setAck (bitsOf (wordPayload w) 47 40) (wordPayload w % 2 ^ 32)) := by
  rw [exec_deliveryWord_taken ht hn h, if_pos ⟨h1, h8, hv⟩]

end

/-- A planner's word that is not among those given stays. -/
theorem State.machWord_planWords_kept {s : State} {m i : Nat} (hm : m < 256) (upd : List (Nat × Nat)) (h1 : 1 ≤ i) (hi : i < 16)
    (hu : upd.find? (fun u => u.1 == i) = none) : (s.planWords m upd).machWord m i = s.machWord m i := by
  obtain ⟨k, rfl⟩ : ∃ k, i = k + 1 := ⟨i - 1, by omega⟩
  refine (State.recordWord_rest inFleet_machines hm (by simp) h1 (by simp; omega)).trans ?_
  simpa [List.getD_eq_getElem?_getD, List.getElem?_range hi, hu, State.machWord] using s.memWord_lt (machAddr m + 4 * (k + 1))

theorem TableFrame.planWords (s : State) (m : Nat) (upd : List (Nat × Nat)) : TableFrame s (s.planWords m upd) := recordWrite ..

/-- The transaction in hand forgets what it touched. -/
def State.untouched (s : State) : State := { s with pair := { s.pair with touched := [] } }

theorem State.machWord_untouched (s : State) (m i : Nat) : s.untouched.machWord m i = s.machWord m i := State.memLE_congr fun _ _ _ => rfl

theorem TableFrame.untouched (s : State) : TableFrame s s.untouched := withPair ..

/-- ACK by a unit that belongs to no pair makes no journal transaction. -/
theorem State.setAck_of_unpaired {s : State} (hr : s.role = 0) (m pid : Nat) : s.setAck m pid = (s.planWords m [(9, pid)]).untouched :=
  State.journal_of_unpaired (State.pairActive_of_unpaired hr ((TableFrame.planWords ..).reg 0xF0044 (by decide))) 7

theorem TableFrame.setAck {s : State} (hr : s.role = 0) (m pid : Nat) : TableFrame s (s.setAck m pid) := by
  rw [State.setAck_of_unpaired hr]
  exact (planWords ..).trans (untouched _)

theorem deliveryWord_completes {s s1 : State} {w : DWord} (ht : s.ticking 0x0A0 = true) (hn : s.notActive = false)
    (h : s.mboxTake (s.getF F.TRACK_QUEUES_ACK_QUEUE) = (some w, s1)) (h1 : wordTag w = 1) (h8 : bitsOf (wordPayload w) 55 52 = 8)
    (hv : s1.machValid (bitsOf (wordPayload w) 47 40) = true) (hr : s1.role = 0) : Completes .deliveryWord s fun t =>
      t.machWord (bitsOf (wordPayload w) 47 40) 9 = wordPayload w % 2 ^ 32 ∧
      (∀ i, i < 16 → i ≠ 0 → i ≠ 9 →
        t.machWord (bitsOf (wordPayload w) 47 40) i = s1.machWord (bitsOf (wordPayload w) 47 40) i) ∧
      t = { s1 with regs := t.regs, fifos := t.fifos, mem := t.mem, freeCtr := t.freeCtr, zone := t.zone, pair := t.pair } := by
  have hm : bitsOf (wordPayload w) 47 40 < 256 := Nat.mod_lt _ (by decide)
  refine ⟨_, exec_deliveryWord_ack ht hn h h1 h8 hv, ?_, fun i hi h0 h9 => ?_, (TableFrame.setAck hr ..).frame.trans (by rw [← (TableFrame.setAck hr ..).zone])⟩
  · rw [State.setAck_of_unpaired hr, State.machWord_untouched, State.machWord_planWords hm _ (by decide) (by decide) rfl, Nat.mod_mod]
  · rw [State.setAck_of_unpaired hr, State.machWord_untouched, State.machWord_planWords_kept hm _ (by omega) hi (by simp; omega)]

/-! ## CHUNK_ACK -/

/-- A table of which a chunk has been acknowledged. -/
def SegTable.acked (x : SegTable) (k : Nat) : SegTable := { x with ok := x.ok ||| 2 ^ k, flight := x.flight - (x.flight &&& 2 ^ k) }

/-- A table of which the last chunk has been acknowledged. -/
def SegTable.delivered (x : SegTable) (k : Nat) : SegTable := { x.acked k with running := false, complete := true }

/-- The word that tells the planner of a table delivered; a unit that is not active posts none (R384). -/
def State.tellDelivered (s : State) (m plan : Nat) : State :=
  if s.notActive then s else s.post (s.getF F.SEG_CTRL_ACK_QUEUE) .seg (8 * 2 ^ 52 + m * 2 ^ 40 + plan) segLost

theorem Within.tellDelivered (s : State) (m plan : Nat) : Within queuesErased segKeys s (s.tellDelivered m plan) :=
  ite (refl s) (segPost s (State.getF_lt _ (f := F.SEG_CTRL_ACK_QUEUE) (by decide)) _)

section
variable {s : State} {m : Fin 256} {k : Fin 16} (hp : s.pagePowered 0x0A0 = true)
include hp

theorem exec_chunkAck_unsent (h : bitAt (s.segTable m.val).sent k.val = false) : exec (.chunkAck (m, k)) s = .next s :=
  (State.live_of_powered hp).trans (congrArg Host.Outcome.next (if_neg (by rw [h]; exact Bool.false_ne_true)))

variable (h : bitAt (s.segTable m.val).sent k.val = true)
include h

theorem exec_chunkAck_sent :
    exec (.chunkAck (m, k)) s = .next (s.segAcked m.val (s.segTable m.val).plan (2 ^ k.val)) :=
  (State.live_of_powered hp).trans (congrArg Host.Outcome.next (if_pos h))

theorem exec_chunkAck_more (hx : (s.segTable m.val).running = false ∨ ((s.segTable m.val).acked k.val).ok ≠ 2 ^ (s.segTable m.val).chunks - 1) :
    exec (.chunkAck (m, k)) s = .next (s.setSegTable m.val ((s.segTable m.val).acked k.val)) := by
  refine (exec_chunkAck_sent hp h).trans (congrArg Host.Outcome.next ?_)
  unfold State.segAcked
  dsimp only
  rw [if_neg (not_not_intro rfl), if_neg]
  · rfl
  · rw [Bool.and_eq_true, beq_iff_eq]
    rintro ⟨hr, ho⟩
    exact hx.elim (by simp [hr]) (· ho)

/-- The table of which every chunk has been acknowledged is delivered: the planner is told, and event 0 tells it. -/
theorem exec_chunkAck_last (hr : (s.segTable m.val).running = true)
    (hok : ((s.segTable m.val).acked k.val).ok = 2 ^ (s.segTable m.val).chunks - 1) : exec (.chunkAck (m, k)) s = .next
      (((s.setSegTable m.val ((s.segTable m.val).delivered k.val)).tellDelivered m.val (s.segTable m.val).plan).segEvent 1 m.val
        ((s.segTable m.val).delivered k.val)) := by
  refine (exec_chunkAck_sent hp h).trans (congrArg Host.Outcome.next ?_)
  unfold State.segAcked
  dsimp only
  rw [if_neg (not_not_intro rfl), if_pos (Bool.and_eq_true .. ▸ ⟨hr, beq_iff_eq.2 hok⟩)]
  rfl

end

theorem chunkAck_completes_last {s : State} {m : Fin 256} {k : Fin 16} (hp : s.pagePowered 0x0A0 = true)
    (h : bitAt (s.segTable m.val).sent k.val = true) (hr : (s.segTable m.val).running = true)
    (hok : ((s.segTable m.val).acked k.val).ok = 2 ^ (s.segTable m.val).chunks - 1) : Completes (.chunkAck (m, k)) s fun t =>
      t.segTable m.val = (s.segTable m.val).delivered k.val ∧ t.event 0x0A0 0 = true ∧
      (∀ j, j ≠ m.val → t.segTable j = s.segTable j) ∧
      (s.notActive = true → s.flag F.SEG_CTRL_EVT_EN = false → t.mbox = s.mbox ∧ t.bus = s.bus) ∧
      t = { s with regs := t.regs, seg := t.seg, mbox := t.mbox, bus := t.bus } := by
  have hx := exec_chunkAck_last hp h hr hok
  generalize (s.segTable m.val).delivered k.val = x at *
  have hset := Within.setSegTable (own := segKeys) s m.val x
  have hsame : s.notActive = true → (s.setSegTable m.val x).tellDelivered m.val (s.segTable m.val).plan = s.setSegTable m.val x :=
    fun hn => if_pos hn
  have htold := Within.tellDelivered (s.setSegTable m.val x) m.val (s.segTable m.val).plan
  generalize (s.setSegTable m.val x).tellDelivered m.val (s.segTable m.val).plan = u at *
  have htable (j : Nat) : (u.segEvent 1 m.val x).segTable j = (s.setSegTable m.val x).segTable j :=
    (u.segEvent_segTable (by decide) m.val x j).trans (State.segTable_of_seg htold.queues_seg j)
  refine ⟨_, hx, (htable _).trans (s.segTable_setSegTable_same m.val x), u.segEvent_event (kind := 1) (by decide) m.val x,
    fun j hj => (htable j).trans (s.segTable_setSegTable_other x hj), fun hn he => ?_,
    ((hset.trans (htold.weaken fun _ => rfl)).trans ((Within.segEvent u (by decide) m.val x).weaken fun _ => rfl)).delivery_only⟩
  have hquiet : (u.raise 0x0A0 0).flag F.SEG_CTRL_EVT_EN = false := by
    rw [hsame hn, State.flag_of_reg_eq (by decide) (State.reg_raise_other (by decide) (by decide))]
    exact he
  have hraised : u.segEvent 1 m.val x = u.raise 0x0A0 0 := if_neg (by rw [hquiet]; exact Bool.false_ne_true)
  rw [hraised, hsame hn]
  exact ⟨State.setF_mbox .., State.setF_bus ..⟩

theorem chunkAck_completes_more {s : State} {m : Fin 256} {k : Fin 16} (hp : s.pagePowered 0x0A0 = true)
    (h : bitAt (s.segTable m.val).sent k.val = true)
    (hx : (s.segTable m.val).running = false ∨ ((s.segTable m.val).acked k.val).ok ≠ 2 ^ (s.segTable m.val).chunks - 1) :
    Completes (.chunkAck (m, k)) s fun t => t.segTable m.val = (s.segTable m.val).acked k.val ∧
      (∀ j, j ≠ m.val → t.segTable j = s.segTable j) ∧ t = { s with seg := t.seg } :=
  ⟨_, exec_chunkAck_more hp h hx, s.segTable_setSegTable_same .., fun _ hj => s.segTable_setSegTable_other _ hj, rfl⟩

/-! ## LATE and GIVEUP -/

theorem exec_segLate {s : State} (ht : s.ticking 0x0A0 = true) : exec .segLate s = .next (s.segLateAt s.planTick) :=
  State.liveTick_of_ticking ht _

theorem exec_segGiveup {s : State} (ht : s.ticking 0x0A0 = true) : exec .segGiveup s = .next (s.segGiveUpAt s.planTick) :=
  State.liveTick_of_ticking ht _

end Sys2Proof.Machine
end

section
/-! TIME_JUMP_CATCH_UP for one table in delivery (R240, R563), and the statement on the delivery of segment tables. -/

namespace Sys2Proof.Machine

/-! ## The dispatch engine has nothing to catch up with -/

section
variable {s : State} (hi : s.sched.items = [])
include hi

theorem State.workGrant_of_no_items (n : Nat) : s.workGrant n = s := by
  cases n with
  | zero => rfl
  | succ n =>
    have hnone : s.firstItem = none := by
      unfold State.firstItem
      rw [hi]
      rfl
    unfold State.workGrant
    rw [hnone, ite_self]

/-- No work item falls due where there is none. -/
theorem State.workExpiries_of_no_items (now : Nat) : s.delayExpiriesAt 1 now = s := by
  have hsame : ({ s with sched := { s.sched with items := [] } } : State) = s := by rw [← hi]
  unfold State.delayExpiriesAt
  rw [if_neg (by decide), if_pos rfl, hi]
  simp [sortBy, hsame, State.workGrant_of_no_items hi]

theorem State.schedRelease_of_none (hh : s.sched.held = []) : s.schedRelease = s := by
  have hsame : ({ s with sched := { s.sched with held := [] } } : State) = s := by rw [← hh]
  unfold State.schedRelease
  rw [hh, hsame, List.foldl_nil, State.workGrant_of_no_items hi]

variable (hth : s.sched.threads = []) (hj : s.flag F.SCHED_CTRL_JOB_EN = false)
include hth

omit hi in
theorem State.waitTimeoutsAt_of_no_threads (now : Nat) : s.waitTimeoutsAt now = s := by
  unfold State.waitTimeoutsAt
  rw [hth]
  simp

omit hi in
theorem State.threadExpiries_of_no_threads (now : Nat) : s.delayExpiriesAt 0 now = s := by
  unfold State.delayExpiriesAt State.delayedDue
  rw [hth]
  simp [sortBy]

include hj

theorem State.schedInstant_of_none (last b : Int) : s.schedInstant last b = s := by
  have hjobs (now : Nat) : s.delayExpiriesAt 2 now = s := by
    unfold State.delayExpiriesAt
    rw [if_neg (by decide), if_neg (by decide), if_pos (by rw [hj]; rfl)]
  unfold State.schedInstant
  simp only [State.waitTimeoutsAt_of_no_threads hth, hj, Bool.false_eq_true, and_false, if_false, State.threadExpiries_of_no_threads hth,
    State.workExpiries_of_no_items hi, hjobs, ite_self]

theorem State.schedCatchUp_of_none (from_ dest : Nat) : s.schedCatchUp from_ dest = s := by
  unfold State.schedCatchUp
  exact List.foldlRecOn _ _ (motive := fun t => t = s) rfl fun t ht b _ => by
    rw [ht]
    exact State.schedInstant_of_none hi hth hj ..

end

/-! ## The planner has nothing to do at the end of a tick -/

/-- The end of a tick changes nothing on a unit that is not active and holds no record. -/
theorem State.planTickEnd_of_none {s : State} (hn : s.notActive = true) (hr : s.rsvs = []) (ht : s.pair.touched = []) (tick : Nat) :
    s.planTickEnd tick = s := by
  have hdue : s.overrunDue tick = s := if_pos (by rw [hn, Bool.or_true])
  have htold : s.leadTell s = s := by
    unfold State.leadTell
    simp only [hr, List.filter_nil, List.append_nil, List.map_nil, List.eraseDups_nil, List.foldl_nil, ite_self]
  have hjournal : s.journalOpen = s := if_pos (by rw [ht]; rfl)
  unfold State.planTickEnd State.overrunEnd
  rw [hdue, htold, hjournal]
  exact if_pos (by rw [hn, Bool.or_true])

/-! ## What falls due for one table -/

/-- The offsets at which something falls due on a unit with one table in delivery and no record. -/
theorem State.offsets_single {s : State} {m : Nat} {x : SegTable} (hr : s.rsvs = []) (ht : s.seg.tables = [(m, x)]) (hx : x.running = true)
    (from_ : Nat) : (s.rsvs.flatMap (s.rsvDue from_) ++ s.segRunning.flatMap fun e => s.segDue from_ e.2) = s.segDue from_ x := by
  rw [hr, State.segRunning_single ht hx]
  simp

theorem nextOffset_eq_none {last span : Int} {l : List Int} (h : ∀ d ∈ l, span ≤ d) : nextOffset last span l = none := by
  have hnone : (l.filter fun d => decide (last < d) && decide (d < span)) = [] := by
    rw [List.filter_eq_nil_iff]
    intro d hd
    have := h d hd
    simp only [Bool.and_eq_true, decide_eq_true_eq]
    omega
  unfold nextOffset
  rw [hnone]

/-- Of two offsets the first is next where it is in the span and the second is not. -/
theorem nextOffset_first {last span d e : Int} (h : last < d) (hd : d < span) (he : span ≤ e) : nextOffset last span [d, e] = some d := by
  have hfirst : ([d, e].filter fun d => decide (last < d) && decide (d < span)) = [d] := by
    rw [List.filter_cons_of_pos (by simp [h, hd]), List.filter_cons_of_neg (by simp; omega), List.filter_nil]
  unfold nextOffset
  rw [hfirst]
  rfl

theorem tickDiff_mod_right (a b : Nat) : tickDiff a (b % 2 ^ 32) = tickDiff a b := by
  unfold tickDiff
  rw [Nat.mod_mod]

/-- A signed difference of ticks is the difference modulo 2^32. -/
theorem tickDiff_emod (a b : Nat) : tickDiff a b % 4294967296 = ((a : Int) - b) % 4294967296 := by
  have hs (v : Nat) : toSigned 32 v % 4294967296 = (v : Int) % 4294967296 := by
    simp only [toSigned, show (2 : Nat) ^ 32 = 4294967296 from rfl, show (2 : Nat) ^ (32 - 1) = 2147483648 from rfl, show (2 : Int) ^ 32 = 4294967296 from rfl]
    split <;> omega
  unfold tickDiff
  rw [hs]
  simp only [show (2 : Nat) ^ 32 = 4294967296 from rfl]
  omega

/-- The tick after the one in which a table was to start is one tick past its START_TICK. -/
theorem tickDiff_after (start from_ : Nat) :
    tickDiff (tickAt (from_ % 2 ^ 32) (tickDiff start from_ + 1)) start = 1 := by
  have hd := tickDiff_emod start from_
  generalize tickDiff start from_ = d at hd
  have hone : ((tickAt (from_ % 2 ^ 32) (d + 1)) % 2 ^ 32 + 2 ^ 32 - start % 2 ^ 32) % 2 ^ 32 = 1 := by
    simp only [tickAt, show (2 : Nat) ^ 32 = 4294967296 from rfl, show (2 : Int) ^ 32 = 4294967296 from rfl]
    omega
  unfold tickDiff
  rw [hone]
  rfl
/-- The time in which a table may be delivered, in ticks: where there is any, a table one tick late is not past it. -/
theorem State.giveUpMs_of_ticks {s : State} (h : 0 < s.getF F.SEG_CTRL_GIVEUP_EP * s.epochMs / 10) : 10 ≤ s.giveUpMs := by
  unfold State.giveUpMs
  omega

theorem State.planCatchUp_of_none_due {s : State} {from_ : Nat} {span last : Int}
    (h : nextOffset last span (s.rsvs.flatMap (s.rsvDue from_) ++ s.segRunning.flatMap fun e => s.segDue from_ e.2) = none) (n : Nat) :
    s.planCatchUp from_ span last n = s := by
  cases n with
  | zero => rfl
  | succ n =>
    unfold State.planCatchUp
    rw [h]

theorem State.planCatchUp_next {s : State} {from_ : Nat} {span last d : Int}
    (h : nextOffset last span (s.rsvs.flatMap (s.rsvDue from_) ++ s.segRunning.flatMap fun e => s.segDue from_ e.2) = some d) (n : Nat) :
    s.planCatchUp from_ span last (n + 1) =
      (((s.planTickEnd (tickAt from_ d)).segLateAt (tickAt from_ (d + 1))).segGiveUpAt (tickAt from_ (d + 1))).planCatchUp from_ span d n := by
  conv_lhs => unfold State.planCatchUp
  rw [h]

/-- A table written over the only one. -/
theorem State.setSegTable_single {s : State} {m : Nat} {x y : SegTable} (ht : s.seg.tables = [(m, x)]) (hy : y ≠ {}) :
    (s.setSegTable m y).seg.tables = [(m, y)] := by
  unfold State.setSegTable
  simp [ht, Assoc.put, hy]

/-! ## TIME_JUMP_CATCH_UP -/

theorem exec_timeJumpCatchUp_none {s : State} (h : s.time.catchFrom = none) : exec .timeJumpCatchUp s = .next s := by
  have hmatch : exec .timeJumpCatchUp s = s.live 0x0A0 (.next s) := by
    unfold exec execTimeJumpCatchUp
    dsimp only
    rw [h]
  exact hmatch.trans (ite_self _)

/-- A unit that has a jump to catch up with, but no record, no thread, item or job of the dispatch engine, and nothing that waits for the end
of it: only its one table in delivery may fall due. -/
structure OneTable (s : State) (from_ a dest m : Nat) (x : SegTable) : Prop where
  powered : s.pagePowered 0x0A0 = true
  catchFrom : s.time.catchFrom = some from_
  jump : s.time.jump = some (a, dest)
  threads : s.sched.threads = []
  items : s.sched.items = []
  jobs : s.flag F.SCHED_CTRL_JOB_EN = false
  notActive : s.notActive = true
  rsvs : s.rsvs = []
  held : s.sched.held = []
  touched : s.pair.touched = []
  cmd : s.plan.cmd = none
  tables : s.seg.tables = [(m, x)]
  running : x.running = true

section
variable {s : State} {from_ a dest m : Nat} {x : SegTable} (h : OneTable s from_ a dest m x)
include h

/-- The table falls due in one pass; then the end of the catch-up starts nothing. -/
theorem exec_timeJumpCatchUp_ends {t : State} (n : Nat)
    (ht : s.planCatchUp (from_ / 10000000 % 2 ^ 32) (dest / 10000000 - from_ / 10000000 : Nat) (-1) (n + 5) = t)
    (hn : n = 3 * s.plan.used.length) (hsched : t.sched = s.sched) (hplan : t.plan = s.plan) :
    exec .timeJumpCatchUp s = .next { t with time := { t.time with catchFrom := none } } := by
  have hfuel : 3 * s.plan.used.length + 2 * s.segRunning.length + 3 = n + 5 := by
    rw [State.segRunning_single h.tables h.running, hn]
    rfl
  refine (State.live_of_powered h.powered).trans (congrArg Host.Outcome.next ?_)
  rw [h.catchFrom, h.jump]
  dsimp only
  rw [State.schedCatchUp_of_none h.items h.threads h.jobs, hfuel, ht, State.schedRelease_of_none, State.resStart_idle]
  · exact (congrArg PlanSt.cmd hplan).trans h.cmd
  · exact (congrArg SchedSt.items hsched).trans h.items
  · exact (congrArg SchedSt.held hsched).trans h.held

/-- A table whose START_TICK is still to come is left alone. -/
theorem exec_timeJumpCatchUp_early
    (hd : tickDiff x.start (from_ / 10000000) ≥ (dest / 10000000 - from_ / 10000000 : Nat)) :
    exec .timeJumpCatchUp s = .next { s with time := { s.time with catchFrom := none } } := by
  refine exec_timeJumpCatchUp_ends h _ (State.planCatchUp_of_none_due ?_ _) rfl rfl rfl
  rw [State.offsets_single h.rsvs h.tables h.running, State.segDue, tickDiff_mod_right]
  refine nextOffset_eq_none fun e he => ?_
  simp only [List.mem_append, List.mem_singleton] at he
  rcases he with he | he
  · split at he
    · exact absurd he List.not_mem_nil
    · rw [List.mem_singleton.1 he]
      exact hd
  · omega

variable (hl : x.late = false) (h0 : 0 ≤ tickDiff x.start (from_ / 10000000))
  (hd : tickDiff x.start (from_ / 10000000) < (dest / 10000000 - from_ / 10000000 : Nat))
  (hg : tickDiff x.start (from_ / 10000000) + (s.getF F.SEG_CTRL_GIVEUP_EP * s.epochMs / 10 : Nat) ≥
    (dest / 10000000 - from_ / 10000000 : Nat))
include hl h0 hd hg

/-- The pass of a table whose START_TICK was skipped marks it late; at no later skipped tick does anything fall due. -/
theorem planCatchUp_marks (n : Nat) :
    s.planCatchUp (from_ / 10000000 % 2 ^ 32) (dest / 10000000 - from_ / 10000000 : Nat) (-1) (n + 1) =
      s.segLateAt (tickAt (from_ / 10000000 % 2 ^ 32) (tickDiff x.start (from_ / 10000000) + 1)) := by
  have hgive : 10 ≤ s.giveUpMs := State.giveUpMs_of_ticks (by omega)
  have hafter := tickDiff_after x.start (from_ / 10000000)
  have hdue : nextOffset (-1) (dest / 10000000 - from_ / 10000000 : Nat) (s.rsvs.flatMap (s.rsvDue (from_ / 10000000 % 2 ^ 32)) ++
      s.segRunning.flatMap fun e => s.segDue (from_ / 10000000 % 2 ^ 32) e.2) = some (tickDiff x.start (from_ / 10000000)) := by
    rw [State.offsets_single h.rsvs h.tables h.running, State.segDue, tickDiff_mod_right, hl]
    exact nextOffset_first (by omega) hd hg
  rw [State.planCatchUp_next hdue, State.planTickEnd_of_none h.notActive h.rsvs h.touched]
  generalize tickAt (from_ / 10000000 % 2 ^ 32) (tickDiff x.start (from_ / 10000000) + 1) = tick at hafter
  have hlate := Within.segLateAt s tick
  have htables : (s.segLateAt tick).seg.tables = [(m, { x with late := true })] := by
    rw [State.segLateAt_single h.tables h.running, State.segLateStep_due hl (by omega),
      (Within.segEvent _ (kind := 2) (by decide) m x).queues_seg, State.bump_seg]
    exact State.setSegTable_single h.tables fun he => Bool.noConfusion (congrArg SegTable.late he :)
  have hrsvs : (s.segLateAt tick).rsvs = [] := (congrArg State.rsvs hlate.delivery_only).trans h.rsvs
  rw [State.segGiveUpAt_single htables h.running, State.segGiveUpStep_undue]
  · refine State.planCatchUp_of_none_due ?_ _
    have hms : (s.segLateAt tick).getF F.SEG_CTRL_GIVEUP_EP * (s.segLateAt tick).epochMs = s.getF F.SEG_CTRL_GIVEUP_EP * s.epochMs :=
      Int.ofNat_inj.1 ((Int.natCast_mul ..).trans (hlate.giveUpMs.trans (Int.natCast_mul ..).symm))
    rw [State.offsets_single hrsvs htables h.running, State.segDue, hms, tickDiff_mod_right]
    exact nextOffset_eq_none fun e he => by
      rw [List.mem_singleton.1 he]
      exact hg
  · rw [hlate.giveUpMs]
    dsimp only
    omega

theorem timeJumpCatchUp_marks : Completes .timeJumpCatchUp s fun t => t.segTable m = { x with late := true } ∧ t.event 0x0A0 1 = true ∧
    t = { s with regs := t.regs, seg := t.seg, mbox := t.mbox, bus := t.bus, time := { s.time with catchFrom := none } } := by
  have hafter := tickDiff_after x.start (from_ / 10000000)
  have hpass := planCatchUp_marks h hl h0 hd hg (3 * s.plan.used.length + 4)
  generalize tickAt (from_ / 10000000 % 2 ^ 32) (tickDiff x.start (from_ / 10000000) + 1) = tick at hafter hpass
  have honly := (Within.segLateAt s tick).delivery_only
  obtain ⟨hevent, htable⟩ := State.segLateAt_marks h.tables h.running hl (tick := tick) (by omega)
  refine ⟨_, exec_timeJumpCatchUp_ends h _ hpass rfl ?_ ?_, htable, hevent, ?_⟩
  · rw [honly]
  · rw [honly]
  · generalize s.segLateAt tick = u at honly
    rw [honly]

end

/-- Settles O40. A pass of LATE or GIVEUP leaves each table as it is or as the pass is to leave it, and comes to each in delivery
(`State.segPass_settles`); a word lost, a count and an event reach no register that the pass reads (`Within … segKeys`). -/
theorem segmentDelivery : Obligations.SegmentDelivery := by
  unfold Obligations.SegmentDelivery
  refine ⟨fun w s s1 ht => ⟨exec_deliveryWord_suspended ht, fun hn h => ⟨exec_deliveryWord_other ht hn h,
      fun h1 h8 hv hr => deliveryWord_completes ht hn h h1 h8 hv hr⟩, fun hn h => exec_deliveryWord_none ht hn h⟩,
    fun m k s hp => ⟨exec_chunkAck_unsent hp, chunkAck_completes_more hp, chunkAck_completes_last hp⟩,
    fun s ht => ⟨⟨_, exec_segLate ht, (Within.segLateAt s _).delivery_only, s.segLateAt_settled s.planTick⟩,
      ⟨_, exec_segGiveup ht, (Within.segGiveUpAt s _).delivery_only, s.segGiveUpAt_settled s.planTick⟩,
      fun m x hs hr => ⟨fun hl hd => ⟨_, exec_segLate ht, State.segLateAt_marks hs hr hl hd⟩,
        fun hg => ⟨_, exec_segGiveup ht, State.segGiveUpAt_ends hs hr hg⟩⟩⟩,
    fun s ht => ⟨State.liveTick_of_still ht _, State.liveTick_of_still ht _, State.liveTick_of_still ht _⟩,
    fun s => ⟨exec_timeJumpCatchUp_none, ?_⟩⟩
  intro from_ a dest m x hp hc hj hth hi hjobs hn hrs hh hto hcmd ht hr hl d h0 hg
  have h : OneTable s from_ a dest m x := ⟨hp, hc, hj, hth, hi, hjobs, hn, hrs, hh, hto, hcmd, ht, hr⟩
  exact ⟨fun hd => timeJumpCatchUp_marks h hl h0 hd hg, exec_timeJumpCatchUp_early h⟩

end Sys2Proof.Machine
end

section
/-! The state of an axis, and what the operations of the axes leave as it is: the other axes, the commands that wait, and every register but
those of the page's header (R243 to R258). -/

namespace Sys2Proof.Machine

/-! ## The state of an axis -/

@[simp] theorem State.axis_setAxis_same (s : State) (n : Nat) (a : AxisSt) : (s.setAxis n a).axis n = a := Assoc.get_put_same

theorem State.axis_setAxis_other (s : State) {n j : Nat} (a : AxisSt) (h : j ≠ n) : (s.setAxis n a).axis j = s.axis j :=
  Assoc.get_put_other h

theorem State.axis_of_axes {s t : State} (h : t.axes = s.axes) (n : Nat) : t.axis n = s.axis n :=
  congrArg (Assoc.get (fun _ => ({} : AxisSt)) · n) h

@[simp] theorem State.axis_raise (s : State) (p b n : Nat) : (s.raise p b).axis n = s.axis n := State.axis_of_axes (State.setF_axes ..) n

@[simp] theorem State.axis_bump (s : State) (f : Fld) (n : Nat) : (s.bump f).axis n = s.axis n := State.axis_of_axes (State.setF_axes ..) n

/-- A number of whole steps is its own rounding. -/
theorem roundAway_stepUnit (p : Int) : roundAway (p * stepUnit) stepUnit = p := by
  unfold roundAway stepUnit
  split <;> omega

@[simp] theorem AxisSt.cmdPos_rest (a : AxisSt) (now : Nat) : (a.rest now).cmdPos = a.cmdPos := roundAway_stepUnit a.cmdPos

/-- Register words of an axis's page stand at 0xA1000 for axis 0 and 0x1000 further for each axis after it. -/
theorem axisPage_key (n off : Nat) : axisPage n * 0x1000 + off = 0xA1000 + off + 0x1000 * n := by
  unfold axisPage
  omega

/-! ## Changes within an axis -/

/-- From `s` to `t` nothing changes but what `E` erases, of the axes only axis `n` and not its commands, and of the registers from page 0x010
on only those of headers. -/
structure AxisWithin (E : State → State) (n : Nat) (s t : State) : Prop where
  frame : E t = E s
  reg : ∀ k, 0x10000 ≤ k → 0x40 ≤ k % 0x1000 → t.reg k = s.reg k
  others : ∀ j, j ≠ n → t.axis j = s.axis j
  cmds : (t.axis n).cmds = (s.axis n).cmds

/-- Everything but the axes. -/
def axesErased (s : State) : State := { s with axes := [] }

/-- Everything but registers and the axes. -/
def axisErased (s : State) : State := { s with regs := [], axes := [] }

/-- Everything but what the reading of a table reaches, and the axes. -/
def axisTableErased (s : State) : State := { s with regs := [], fifos := [], mem := {}, freeCtr := 0, axes := [] }

namespace AxisWithin

variable {E G : State → State} {n : Nat} {s t u : State}

theorem refl (s : State) : AxisWithin E n s s := ⟨rfl, fun _ _ _ => rfl, fun _ _ => rfl, rfl⟩

theorem trans (h : AxisWithin E n s t) (k : AxisWithin E n t u) : AxisWithin E n s u where
  frame := k.frame.trans h.frame
  reg j h0 h1 := (k.reg j h0 h1).trans (h.reg j h0 h1)
  others j hj := (k.others j hj).trans (h.others j hj)
  cmds := k.cmds.trans h.cmds

theorem ite {c : Prop} [Decidable c] (ht : AxisWithin E n s t) (hu : AxisWithin E n s u) : AxisWithin E n s (if c then t else u) := by
  split
  · exact ht
  · exact hu

/-- What lies within a part lies within a larger one. -/
theorem weaken (h : AxisWithin E n s t) (hE : ∀ s, G (E s) = G s) : AxisWithin G n s t :=
  ⟨(hE t).symm.trans ((congrArg G h.frame).trans (hE s)), h.reg, h.others, h.cmds⟩

theorem withRegs (h : AxisWithin axesErased n s t) : AxisWithin axisErased n s t := h.weaken fun _ => rfl

theorem withTable (h : AxisWithin axisErased n s t) : AxisWithin axisTableErased n s t := h.weaken fun _ => rfl

theorem getF (h : AxisWithin E n s t) {f : Fld} (hk : 0x10000 ≤ f.key) (ho : 0x40 ≤ f.key % 0x1000) (ho' : 0x40 ≤ (f.key + 4) % 0x1000) :
    t.getF f = s.getF f := State.getF_congr (h.reg _ hk ho) (h.reg _ (by omega) ho')

theorem axes_only (h : AxisWithin axesErased n s t) : t = { s with axes := t.axes } :=
  congrArg (fun x : State => { x with axes := t.axes }) h.frame

theorem axis_only (h : AxisWithin axisErased n s t) : t = { s with regs := t.regs, axes := t.axes } :=
  congrArg (fun x : State => { x with regs := t.regs, axes := t.axes }) h.frame

theorem table_only (h : AxisWithin axisTableErased n s t) :
    t = { s with regs := t.regs, fifos := t.fifos, mem := t.mem, freeCtr := t.freeCtr, axes := t.axes } :=
  congrArg (fun x : State => { x with regs := t.regs, fifos := t.fifos, mem := t.mem, freeCtr := t.freeCtr, axes := t.axes }) h.frame

/-! ### Updates of the state -/

theorem setAxis (s : State) {n : Nat} {a : AxisSt} (h : a.cmds = (s.axis n).cmds) : AxisWithin axesErased n s (s.setAxis n a) where
  frame := rfl
  reg _ _ _ := rfl
  others _ hj := s.axis_setAxis_other a hj
  cmds := (congrArg AxisSt.cmds (s.axis_setAxis_same n a)).trans h

theorem of_regs (h : axisErased t = axisErased s) (ha : t.axes = s.axes) (hr : ∀ k, 0x10000 ≤ k → 0x40 ≤ k % 0x1000 → t.reg k = s.reg k) :
    AxisWithin axisErased n s t :=
  ⟨h, hr, fun j _ => State.axis_of_axes ha j, congrArg AxisSt.cmds (State.axis_of_axes ha n)⟩

theorem raise (s : State) {p b : Nat} (hb : b < 32) : AxisWithin axisErased n s (s.raise p b) :=
  of_regs (congrArg (fun x : State => { x with axes := [] }) (State.regsErased_setF s _ _)) (State.setF_axes ..) fun k _ hk =>
    State.reg_raise_other hb (by omega)

theorem err (s : State) (p code : Nat) (who : Option Initiator) (a : Nat) : AxisWithin axisErased n s (s.err p code who a) := by
  refine of_regs ?_ (State.err_axes ..) fun k _ hk => State.reg_err_other (by omega) (by omega) (by omega)
  rw [State.err_only]
  rfl

theorem of_client (h : ClientFrame s t) : AxisWithin axisTableErased n s t where
  frame := by
    rw [h.frame]
    rfl
  reg k hk _ := h.reg k hk
  others j _ := State.axis_of_axes (by rw [h.frame]) j
  cmds := congrArg AxisSt.cmds (State.axis_of_axes (by rw [h.frame]) n)

/-- A new state of the axis and an event of its page. -/
theorem setRaise (s : State) {n : Nat} {a : AxisSt} {p b : Nat} (hb : b < 32) (h : a.cmds = (s.axis n).cmds) :
    AxisWithin axisErased n s ((s.setAxis n a).raise p b) := (setAxis s h).withRegs.trans (raise _ hb)

/-! ### Stops and faults (R247, R250) -/

theorem axisFault (s : State) (n cause : Nat) : AxisWithin axisErased n s (s.axisFault n cause) :=
  ite (refl s) (setRaise s (by decide) (by rfl))

theorem axisQuick (s : State) (n after : Nat) : AxisWithin axesErased n s (s.axisQuick n after) :=
  ite (setAxis s (by rfl)) (refl s)

theorem axisStopped (s : State) (n : Nat) : AxisWithin axisErased n s (s.axisStopped n) := by
  have hrest (c : AxisSt) (hc : c.cmds = (s.axis n).cmds) : AxisWithin axisErased n s ((s.setAxis n c).raise (axisPage n) 1) :=
    setRaise s (by decide) hc
  have hkept : ((if (s.axis n).keep then
      { (s.axis n).rest s.now with
        mode := .idle, resumable := true, remain := pos32 ((s.axis n).target - ((s.axis n).rest s.now).cmdPos) }
      else { (s.axis n).rest s.now with mode := .idle } : AxisSt)).cmds = (s.axis n).cmds := by
    split <;> rfl
  unfold State.axisStopped
  exact ite (hrest _ hkept) ((hrest _ hkept).trans (axisFault ..))

/-! ### Tables (R252) -/

theorem axisRead (s : State) (n : Nat) : AxisWithin axisTableErased n s (s.axisRead n) := by
  have hpause (t : State) : AxisWithin axisTableErased n t (t.dtuPause 6 n) := of_client (.withMem ..)
  unfold State.axisRead
  dsimp only
  split
  · next r _ =>
    have hread := ClientFrame.clientRead s 6 n (r.base + 16 * if r.begun then r.index + 1 else 0) 16
    refine ite (refl s) ((of_client hread).trans (ite (hpause _) (setAxis _ ?_).withRegs.withTable))
    exact (congrArg AxisSt.cmds (State.axis_of_axes (by rw [hread.frame]) n)).symm
  · exact refl s

theorem axisBegin (s : State) (n : Nat) (p0 v0 : Int) (left : Nat) : AxisWithin axisTableErased n s (s.axisBegin n p0 v0 left) := by
  have hfault := (axisFault s n 6).withTable
  unfold State.axisBegin
  dsimp only
  split
  · split
    · exact ite ((ite (setRaise s (by decide) (by rfl)).withTable (setAxis s (by rfl)).withRegs.withTable).trans (axisRead ..)) hfault
    · exact hfault
  · exact refl s

theorem axisTable (s : State) (n k : Nat) : AxisWithin axisTableErased n s (s.axisTable n k) := by
  induction k generalizing s with
  | zero => exact refl s
  | succ k ih =>
    unfold State.axisTable
    dsimp only
    split
    · split
      · exact ite (setAxis s (by rfl)).withRegs.withTable <| ite (setRaise s (by decide) (by rfl)).withTable <|
          ite ((setAxis s (by rfl)).withRegs.trans (axisFault ..)).withTable
            (((setAxis s (by rfl)).withRegs.withTable.trans (axisBegin ..)).trans (ih _))
      · exact refl s
    · exact refl s

theorem tableFirst (s : State) (n base : Nat) (p : Int) (k i : Nat) : AxisWithin axisTableErased n s (s.tableFirst n base p k i).2 := by
  induction k generalizing s i with
  | zero => exact refl s
  | succ k ih =>
    have hread := (of_client (n := n) (ClientFrame.clientRead s 6 n (base + 16 * i) 16))
    unfold State.tableFirst
    dsimp only
    split
    · exact hread
    · split
      · exact hread
      · split
        · exact hread
        · exact hread.trans (ih ..)

end AxisWithin

end Sys2Proof.Machine
end

section
/-! Commands, the profile update and motion of an axis leave what lies outside of it (R243 to R258). -/

namespace Sys2Proof.Machine

/-- A point approached keeps the commands that wait. -/
theorem AxisSt.approach_cmds (a : AxisSt) (goal vmax : Int) : (a.approach goal vmax).1.cmds = a.cmds := by
  have hite {c : Prop} [Decidable c] {x y : AxisSt × Bool} (hx : x.1.cmds = a.cmds) (hy : y.1.cmds = a.cmds) :
      (if c then x else y).1.cmds = a.cmds := by
    split
    · exact hx
    · exact hy
  exact hite rfl (hite rfl rfl)

namespace AxisWithin

variable {n : Nat}

/-! ### Commands at an update (R247 to R254, R258, R260) -/

theorem axisWake (s : State) (n : Nat) : AxisWithin axesErased n s (s.axisWake n) := setAxis s (by rfl)

theorem axisMove {s t : State} {target : Int} (h : s.axisMove n target = some t) : AxisWithin axisErased n s t := by
  have hwoken : AxisWithin axesErased n s ((s.setAxis n { s.axis n with resumable := false }).axisWake n) :=
    (setAxis s (by rfl)).trans (axisWake ..)
  replace h := (Option.ite_none_left_eq_some.1 h).2
  dsimp only at h
  split at h
  · exact Option.some.inj h ▸ hwoken.withRegs.trans (setRaise _ (by decide) (by rfl))
  · exact Option.some.inj h ▸ (hwoken.trans (setAxis _ (by rfl))).withRegs

theorem axisHome (s : State) (n : Nat) : AxisWithin axesErased n s (s.axisHome n) := (axisWake s n).trans (setAxis _ (by rfl))

theorem axisRun {s t : State} (h : s.axisRun n = some t) : AxisWithin axisTableErased n s t := by
  have hfirst := tableFirst s n (s.getF (F.AXIS_TABLE_BASE_ADDR n) * 16) (s.axis n).cmdPos (s.getF (F.AXIS_TABLE_COUNT_COUNT n)) 0
  exact Option.some.inj (Option.ite_none_left_eq_some.1 h).2 ▸
    (hfirst.trans ((axisWake ..).trans (setAxis _ (by rfl))).withRegs.withTable).trans (axisRead ..)

theorem axisCommand {s t : State} {cmd : Nat} (h : s.axisCommand n cmd = some t) : AxisWithin axisTableErased n s t := by
  have hdone {c : Prop} {_ : Decidable c} {u : State} (hu : AxisWithin axisTableErased n s u) (e : (if c then some u else none) = some t) :
      AxisWithin axisTableErased n s t := Option.some.inj (Option.ite_none_right_eq_some.1 e).2 ▸ hu
  unfold State.axisCommand at h
  replace h := (Option.ite_none_left_eq_some.1 h).2
  split at h
  · exact (axisMove (Option.ite_none_right_eq_some.1 h).2).withTable
  · exact (axisMove (Option.ite_none_right_eq_some.1 h).2).withTable
  · exact axisRun (Option.ite_none_right_eq_some.1 h).2
  · split at h
    · exact Option.some.inj h ▸ (setAxis s (by rfl)).withRegs.withTable
    · exact hdone (refl s) h
  · exact hdone (axisQuick ..).withRegs.withTable h
  · exact (axisMove (Option.ite_none_right_eq_some.1 h).2).withTable
  · exact hdone (axisHome ..).withRegs.withTable h
  · exact hdone (setAxis s (by rfl)).withRegs.withTable h
  · exact hdone (setAxis s (by rfl)).withRegs.withTable h
  · cases h

theorem axisCommands (s : State) (n : Nat) (l : List (Initiator × Nat)) : AxisWithin axisTableErased n s (s.axisCommands n l) := by
  induction l generalizing s with
  | nil => exact refl s
  | cons c l ih =>
    unfold State.axisCommands
    split
    · next h => exact (axisCommand h).trans (ih _)
    · exact (err ..).withTable.trans (ih _)

/-! ### The profile update (R247, R249, R252, R257) -/

theorem axisSample (s : State) (n : Nat) : AxisWithin axisErased n s (s.axisSample n) :=
  ite (setRaise s (by decide) (by rfl)) (setAxis s (by rfl)).withRegs

theorem axisStart (s : State) (n : Nat) : AxisWithin axisTableErased n s (s.axisStart n) := by
  unfold State.axisStart
  dsimp only
  split
  · exact ite (refl s) (axisBegin ..)
  · exact refl s

theorem axisStall (s : State) (n : Nat) : AxisWithin axesErased n s (s.axisStall n) := 
  ite (setAxis s (by rfl)) (ite (refl s) (setAxis s (by rfl)))

/-! ### Motion (R244, R254) -/

theorem homeDone (s : State) (n : Nat) : AxisWithin axisErased n s (s.homeDone n) := setRaise s (by decide) (by rfl)

theorem homeStep (s : State) (n : Nat) : AxisWithin axisErased n s (s.homeStep n) := by
  have hset {a b : AxisSt} {c : Prop} [Decidable c] (ha : a.cmds = (s.axis n).cmds) (hb : b.cmds = (s.axis n).cmds) :
      AxisWithin axisErased n s (s.setAxis n (if c then a else b)) := by
    split
    · exact (setAxis s ha).withRegs
    · exact (setAxis s hb).withRegs
  unfold State.homeStep
  dsimp only
  split
  · exact (setAxis s (by rfl)).withRegs
  · exact hset rfl rfl
  · exact hset rfl rfl
  · exact (setAxis s (by rfl)).withRegs
  · exact hset (AxisSt.approach_cmds ..) (AxisSt.approach_cmds ..)
  · exact (setAxis s (by rfl)).withRegs
  · exact ite ((setAxis s (by rfl)).withRegs.trans (homeDone ..)) (setAxis s (by rfl)).withRegs

theorem axisAdvance (s : State) (n : Nat) : AxisWithin axisTableErased n s (s.axisAdvance n) := by
  have hmove (b : AxisSt) (hb : b.cmds = (s.axis n).cmds) (c : Prop) [Decidable c] : AxisWithin axisErased n s
      (if c then (s.setAxis n { b.rest s.now with mode := .idle, ended := true }).raise (axisPage n) 0 else s.setAxis n b) :=
    ite (setRaise s (by decide) hb) (setAxis s hb).withRegs
  have hstop (b : AxisSt) (hb : b.cmds = (s.axis n).cmds) : AxisWithin axisErased n s
      (if b.vel = 0 then (s.setAxis n b).axisStopped n else s.setAxis n b) :=
    ite ((setAxis s hb).withRegs.trans (axisStopped ..)) (setAxis s hb).withRegs
  unfold State.axisAdvance
  dsimp only
  split
  · exact (hmove _ (AxisSt.approach_cmds ..) _).withTable
  · split
    · exact ite ((setAxis s (by rfl)).withRegs.withTable.trans (axisTable ..)) (refl s)
    · exact refl s
  · refine (hstop _ ?_).withTable
    split
    · split
      · rfl
      · exact AxisSt.approach_cmds ..
    · rfl
  · exact (homeStep ..).withTable
  all_goals exact refl s

end AxisWithin

end Sys2Proof.Machine
end

section
/-! Rows that write the control and command registers of an axis (R247, R260). -/

namespace Sys2Proof.Machine

/-! ## The control register -/

/-- The field that ENABLE and DISABLE write. -/
def axisEnField : List FieldDef := [⟨"EN", 0, 0, .rw, 0⟩]

theorem axisCtrl_sameWrite : SameWrite (2 ^ 1 - 1) Reg.AXIS_CTRL.fields axisEnField := by
  intro a
  cases a <;> decide

theorem axisCtrl_regAt : ∀ n : Fin 8, regAt (axisPage n.val * 0x1000 + 0x040) = some (Reg.AXIS_CTRL, 0) ∧
    (rangeRules1 ++ rangeRules2 ++ rangeRules3).filter (·.covers (axisPage n.val * 0x1000 + 0x040)) = [] ∧
    (windows.find? fun w => decide (w.1 ≤ axisPage n.val * 0x1000 + 0x040) && decide (axisPage n.val * 0x1000 + 0x040 ≤ w.2.1)) = none := by
  decide

/-- No rule of its own refuses a write of an axis's register. -/
theorem State.refuseWrite_axis {s : State} {who : Initiator} {key x : Nat} (h1 : 0xA1000 ≤ key) (h2 : key < 0xA9000)
    (hrange : rangeRefusal key x = none) : s.refuseWrite who key x = none := by
  have hplain : plainKey key = key := plainKey_of_lt (by omega)
  unfold State.refuseWrite
  rw [hrange, hplain]
  dsimp only
  rw [if_neg (by omega), if_neg (by omega), if_neg (by omega), if_neg (by omega), if_neg (by omega), if_neg (by omega), if_neg (by omega),
    if_neg (by omega), if_neg (by omega), if_neg (by omega), if_neg (by omega), if_neg (by omega)]

/-- A write of EN that passes the gate sets the field to the lowest bit written. -/
theorem State.rowWrite_axisEn {s : State} {who : Initiator} {n : Fin 8} {v : Nat} {k : State → State → State}
    (ho : s.opens who (axisPage n.val * 0x1000 + 0x040) true = true) :
    s.rowWrite who (axisPage n.val * 0x1000 + 0x040) v 1 k = (k s (s.setF (F.AXIS_CTRL_EN n.val) v)).respond 0 false := by
  obtain ⟨hreg, hrange, hwin⟩ := axisCtrl_regAt n
  have hkey : F.AXIS_CTRL_EN n.val = ⟨axisPage n.val * 0x1000 + 0x040, 1 - 1, 0⟩ := by rw [axisPage_key, F.AXIS_CTRL_EN]
  have hlt := n.isLt
  rw [hkey]
  refine State.rowWrite_lowField (n := 1) (gs := axisEnField) ho hreg axisCtrl_sameWrite
    ⟨by decide, by decide, by decide, by decide, by decide, by decide⟩ (.inr (by decide)) (State.winKey_of_no_window hwin s) fun x => ?_
  exact State.refuseWrite_axis (by rw [axisPage_key]; omega) (by rw [axisPage_key]; omega)
    (rangeRefusal_eq_none (by rw [hrange]; simp))

theorem State.flag_setF_axisEn (s : State) (n v : Nat) : (s.setF (F.AXIS_CTRL_EN n) v).flag (F.AXIS_CTRL_EN n) = (v % 2 == 1) :=
  congrArg (· == 1) (State.getF_setF_same (f := F.AXIS_CTRL_EN n) (Nat.le_refl 0) (show 0 < 32 by decide))

theorem State.setF_axis (s : State) (f : Fld) (v n : Nat) : (s.setF f v).axis n = s.axis n := State.axis_of_axes (State.setF_axes ..) n

/-- What ENABLE makes of the axis: one that is disabled is at rest from now on. -/
def State.axisEnabled (s : State) (n : Nat) : State :=
  if (s.axis n).mode = .disabled then s.setAxis n { s.axis n with mode := .idle, restAt := s.now } else s

/-- The axis after DISABLE. -/
def AxisSt.off (a : AxisSt) (now : Nat) : AxisSt :=
  { a.rest now with mode := .disabled, cause := 0, resumable := false, homed := false, deferred := false, stall := 0, cmds := [], steps := 0
                    owed := 0 }

section
variable {s : State} {who : Initiator} {n : Fin 8} (ho : s.opens who (axisPage n.val * 0x1000 + 0x040) true = true)
include ho

theorem exec_axisEnable : exec (.axisEnable who n) s = .next
    (((s.setF (F.AXIS_CTRL_EN n.val) ((s.reg (axisPage n.val * 0x1000 + 0x040)).toNat ||| 1)).axisEnabled n.val).respond 0 false) :=
  congrArg Host.Outcome.next (State.rowWrite_axisEn ho)

theorem exec_axisDisable : ∃ v u, exec (.axisDisable who n) s = .next ((u.setAxis n.val ((u.axis n.val).off u.now)).respond 0 false) ∧
    u = s.setF (F.AXIS_CTRL_EN n.val) v ∧ v % 2 = 0 :=
  ⟨_, _, congrArg Host.Outcome.next (State.rowWrite_axisEn ho), rfl, Nat.mul_mod_left ..⟩

theorem axisEnable_completes : Completes (.axisEnable who n) s fun t => t.flag (F.AXIS_CTRL_EN n.val) = true ∧
    ((s.axis n.val).mode = AxisMode.disabled → (t.axis n.val).mode = AxisMode.idle) ∧
    ((s.axis n.val).mode ≠ AxisMode.disabled → t.axis n.val = s.axis n.val) ∧
    t = { s with regs := t.regs, axes := t.axes, bus := ⟨0, false⟩ } := by
  have hflag := s.flag_setF_axisEn n.val ((s.reg (axisPage n.val * 0x1000 + 0x040)).toNat ||| 1)
  have hodd : ((s.reg (axisPage n.val * 0x1000 + 0x040)).toNat ||| 1) % 2 = 1 := by
    rw [Nat.mod_two_eq_one_iff_testBit_zero, Nat.testBit_or]
    exact Bool.or_true _
  have hx := exec_axisEnable ho
  generalize (s.reg (axisPage n.val * 0x1000 + 0x040)).toNat ||| 1 = v at *
  have haxis := s.setF_axis (F.AXIS_CTRL_EN n.val) v n.val
  have honly := s.setF_only (F.AXIS_CTRL_EN n.val) v
  generalize s.setF (F.AXIS_CTRL_EN n.val) v = u at *
  rw [hodd] at hflag
  refine ⟨_, hx, ?_⟩
  unfold State.axisEnabled
  rw [haxis]
  split
  · next hm =>
    refine ⟨hflag, fun _ => congrArg AxisSt.mode (u.axis_setAxis_same ..), fun h => absurd hm h, ?_⟩
    rw [honly]
    rfl
  · next hm =>
    refine ⟨hflag, fun h => absurd h hm, fun _ => haxis, ?_⟩
    rw [honly]
    rfl

theorem axisDisable_completes : Completes (.axisDisable who n) s fun t => t.flag (F.AXIS_CTRL_EN n.val) = false ∧
    (t.axis n.val).mode = AxisMode.disabled ∧ (t.axis n.val).vel = 0 ∧ (t.axis n.val).homed = false ∧
    (t.axis n.val).cmdPos = (s.axis n.val).cmdPos ∧ (∀ j, j ≠ n.val → t.axis j = s.axis j) ∧
    t = { s with regs := t.regs, axes := t.axes, bus := ⟨0, false⟩ } := by
  obtain ⟨v, u, hx, rfl, hv⟩ := exec_axisDisable ho
  have hflag := s.flag_setF_axisEn n.val v
  rw [hv] at hflag
  have haxis := s.setF_axis (F.AXIS_CTRL_EN n.val) v
  have honly := s.setF_only (F.AXIS_CTRL_EN n.val) v
  generalize s.setF (F.AXIS_CTRL_EN n.val) v = u at *
  have hoff : ((u.setAxis n.val ((u.axis n.val).off u.now)).respond 0 false).axis n.val = (u.axis n.val).off u.now := u.axis_setAxis_same ..
  refine ⟨_, hx, hflag, ?_, ?_, ?_, ?_, fun j hj => (u.axis_setAxis_other _ hj).trans (haxis j), ?_⟩
  · exact congrArg AxisSt.mode hoff
  · exact congrArg AxisSt.vel hoff
  · exact congrArg AxisSt.homed hoff
  · rw [hoff, ← haxis]
    exact (u.axis n.val).cmdPos_rest u.now
  · rw [honly]
    rfl

end

/-! ## The command register -/

/-- The commands of AXIS_CMD with their numbers. -/
theorem exec_axisWrite (who : Initiator) (n : Fin 8) (s : State) :
    ∀ c ∈ [(Instr.moveAbs who n, 1), (.moveRel who n, 2), (.runTable who n, 3), (.axisStop who n, 4), (.quickStop who n, 5),
      (.axisResume who n, 6), (.axisHome who n, 7), (.clearFault who n, 8), (.setPos who n, 9)],
      exec c.1 s = .next (s.axisWrite who n.val c.2) := by
  simp only [List.forall_mem_cons, List.not_mem_nil, false_implies, implies_true, and_true]
  exact ⟨rfl, rfl, rfl, rfl, rfl, rfl, rfl, rfl, rfl⟩

/-- A command that passes the gate waits behind those written before. -/
theorem axisWrite_completes {who : Initiator} {n : Fin 8} {s : State} {c : Instr} {cmd : Nat}
    (ho : s.opens who (axisPage n.val * 0x1000 + 0x048) true = true) (hx : exec c s = .next (s.axisWrite who n.val cmd)) :
    Completes c s fun t => t.axis n.val = { s.axis n.val with cmds := (s.axis n.val).cmds ++ [(who, cmd)] } ∧
      (∀ j, j ≠ n.val → t.axis j = s.axis j) ∧ t = { s with axes := t.axes, bus := ⟨0, false⟩ } := by
  have hwrite : s.axisWrite who n.val cmd =
      (s.setAxis n.val { s.axis n.val with cmds := (s.axis n.val).cmds ++ [(who, cmd)] }).respond 0 false := State.command_of_opens ho
  exact ⟨_, hx.trans (congrArg Host.Outcome.next hwrite), s.axis_setAxis_same .., fun _ hj => s.axis_setAxis_other _ hj, rfl⟩

end Sys2Proof.Machine
end

section
/-! The profile update of an axis on which one command waits: the parameters are sampled, the command is taken, and carried out or refused
(R247 to R254, R260). -/

namespace Sys2Proof.Machine

/-! ## The beginning and the end of an update -/

/-- The axis with its parameters sampled (R248, R249). -/
def State.sampled (s : State) (n : Nat) : AxisSt :=
  let a := s.axis n
  let dec := s.getF (F.AXIS_DEC_STEPS_S2 n)
  let defer := ((a.mode = .move && a.braking) || (a.mode = .stopping && !a.quick)) && decide (dec < a.dec)
  { a with
    vmax := s.getF (F.AXIS_VMAX_STEPS_S n), acc := s.getF (F.AXIS_ACC_STEPS_S2 n), stop := s.getF (F.AXIS_STOP_DEC_STEPS_S2 n)
    fast := s.getF (F.AXIS_HOME_FAST_STEPS_S n), slow := s.getF (F.AXIS_HOME_SLOW_STEPS_S n)
    dec := if defer then a.dec else dec, deferred := defer
    stopAt := if a.mode = .stopping ∧ !a.quick ∧ a.dec < dec then
        some (a.stopAt.getD (a.pos + a.vel.sign * (rampTravel a.vel.natAbs a.dec : Nat))) else a.stopAt
    braked := a.braked && !(decide (a.mode = .stopping) && decide (a.dec < dec)) }

theorem State.axisSample_axis (s : State) (n : Nat) : (s.axisSample n).axis n = s.sampled n := by
  unfold State.axisSample
  dsimp only
  split
  · exact (State.axis_raise ..).trans (s.axis_setAxis_same n _)
  · exact s.axis_setAxis_same n _

/-- The state in which the commands of an update are carried out: parameters sampled, the commands taken. -/
def State.updateBegun (s : State) (n : Nat) : State := (s.axisSample n).setAxis n { s.sampled n with cmds := [] }

/-- The end of an update, after its commands and the start of a table. -/
def State.updateEnded (s : State) (n : Nat) : State := (s.axisStall n).setAxis n { (s.axisStall n).axis n with ended := false }

@[simp] theorem State.updateBegun_axis (s : State) (n : Nat) : (s.updateBegun n).axis n = { s.sampled n with cmds := [] } :=
  State.axis_setAxis_same ..

theorem State.updateBegun_others (s : State) {n j : Nat} (hj : j ≠ n) : (s.updateBegun n).axis j = s.axis j :=
  (State.axis_setAxis_other _ _ hj).trans ((AxisWithin.axisSample s n).others j hj)

theorem State.updateBegun_frame (s : State) (n : Nat) : axisErased (s.updateBegun n) = axisErased s := (AxisWithin.axisSample s n).frame

theorem State.updateBegun_reg (s : State) (n : Nat) {k : Nat} (h0 : 0x10000 ≤ k) (h1 : 0x40 ≤ k % 0x1000) :
    (s.updateBegun n).reg k = s.reg k := (AxisWithin.axisSample s n).reg k h0 h1

/-- Sampling changes no register of an axis but those of the header. -/
theorem State.updateBegun_getF (s : State) (n : Nat) {f : Fld} {m off : Nat} (hk : f.key = 0xA1000 + off + 0x1000 * m) (h0 : 0x40 ≤ off)
    (h1 : off < 0xFFC) : (s.updateBegun n).getF f = s.getF f :=
  State.getF_congr (s.updateBegun_reg n (by omega) (by omega)) (s.updateBegun_reg n (by omega) (by omega))

/-- The stall comparison changes its count only. -/
theorem State.axisStall_axis (s : State) (n : Nat) : ∃ k, (s.axisStall n).axis n = { s.axis n with stall := k } := by
  unfold State.axisStall
  dsimp only
  split
  · exact ⟨_, s.axis_setAxis_same n _⟩
  · split
    · exact ⟨_, rfl⟩
    · exact ⟨_, s.axis_setAxis_same n _⟩

theorem State.updateEnded_axis (s : State) (n : Nat) : ∃ k, (s.updateEnded n).axis n = { s.axis n with stall := k, ended := false } := by
  obtain ⟨k, hk⟩ := s.axisStall_axis n
  exact ⟨k, (State.axis_setAxis_same ..).trans (by rw [hk])⟩

theorem AxisWithin.updateEnded (s : State) (n : Nat) : AxisWithin axesErased n s (s.updateEnded n) := (axisStall s n).trans (setAxis _ (by rfl))

/-! ## The update of an axis on which one command waits -/

section
variable {s : State} {n : Nat} (hsite : s.siteStops n = false)
include hsite

theorem State.updateBegun_siteStops : (s.updateBegun n).siteStops n = false := by
  have hflag : (s.updateBegun n).flag (F.AXIS_CTRL_SITE_STOP n) = s.flag (F.AXIS_CTRL_SITE_STOP n) :=
    congrArg (· == 1) (s.updateBegun_getF n (off := 0x40) rfl (by decide) (by decide))
  have hpoppy : (s.updateBegun n).poppy = s.poppy := (congrArg State.poppy (s.updateBegun_frame n) :)
  unfold State.siteStops at hsite ⊢
  rw [hflag, hpoppy, hsite]

theorem State.profileUpdate_eq {who : Initiator} {cmd : Nat} (hio : s.ioLost = false) (hc : (s.axis n).cmds = [(who, cmd)]) :
    s.profileUpdate n = (((s.updateBegun n).axisCommands n [(who, cmd)]).axisStart n).updateEnded n := by
  have hsite' : (s.axisSample n).siteStops n = false := State.updateBegun_siteStops hsite
  have hcmds : ((s.axisSample n).axis n).cmds = [(who, cmd)] := (AxisWithin.axisSample s n).cmds.trans hc
  unfold State.profileUpdate
  dsimp only
  rw [if_neg (by simp [hio]), if_neg (by rw [hsite']; exact Bool.false_ne_true), hcmds, State.axisSample_axis]
  rfl

end

theorem State.updateBegun_limActive (s : State) (n : Nat) (pos : Bool) : (s.updateBegun n).limActive n pos = s.limActive n pos := by
  have hflag : (s.updateBegun n).flag (F.AXIS_CTRL_LIM_LOW n) = s.flag (F.AXIS_CTRL_LIM_LOW n) :=
    congrArg (· == 1) (s.updateBegun_getF n (off := 0x40) rfl (by decide) (by decide))
  unfold State.limActive
  rw [hflag, State.updateBegun_axis]
  rfl

theorem State.updateBegun_target (s : State) (n : Nat) : (s.updateBegun n).getF (F.AXIS_TARGET_STEPS n) = s.getF (F.AXIS_TARGET_STEPS n) :=
  s.updateBegun_getF n (off := 0x4C) rfl (by decide) (by decide)

/-- Sampling records no error. -/
theorem State.updateBegun_errValid (s : State) (n : Nat) :
    (s.updateBegun n).flag (F.PG_ERR_INFO_VALID (axisPage n)) = s.flag (F.PG_ERR_INFO_VALID (axisPage n)) := by
  have hraised (t : State) : (t.raise (axisPage n) 6).flag (F.PG_ERR_INFO_VALID (axisPage n)) = t.flag (F.PG_ERR_INFO_VALID (axisPage n)) :=
    State.flag_of_reg_eq (show 0 < 32 by decide) (State.reg_raise_other (by decide) (show axisPage n * 0x1000 + 0x20 ≠ _ by omega))
  refine Eq.trans (b := (s.axisSample n).flag (F.PG_ERR_INFO_VALID (axisPage n))) rfl ?_
  unfold State.axisSample
  dsimp only
  split
  · exact hraised _
  · rfl

/-- Without a table nothing starts. -/
theorem State.axisStart_of_no_table {s : State} {n : Nat} (h : (s.axis n).tab = none) : s.axisStart n = s := by
  unfold State.axisStart
  dsimp only
  rw [h]

/-- The update leaves the axis with `p` and no command, and changes nothing else but registers. -/
def UpdatesAxis (s : State) (n : Fin 8) (p : AxisSt → Prop) : Prop := Completes (.profileUpdate n) s fun t =>
  p (t.axis n.val) ∧ (t.axis n.val).cmds = [] ∧ (∀ j, j ≠ n.val → t.axis j = s.axis j) ∧ t = { s with regs := t.regs, axes := t.axes }

theorem exec_profileUpdate {s : State} {n : Fin 8} (hp : s.pagePowered 0x0A1 = true) :
    exec (.profileUpdate n) s = .next (s.profileUpdate n.val) := State.live_of_powered hp

section
variable {s : State} {n : Fin 8} {who : Initiator} {cmd : Nat} (hp : s.pagePowered 0x0A1 = true) (hio : s.ioLost = false)
  (hsite : s.siteStops n.val = false) (hc : (s.axis n.val).cmds = [(who, cmd)])
include hp hio hsite hc

/-- An update that carries out its one command, and starts no table after it. -/
theorem profileUpdate_does {t : State} {p : AxisSt → Prop} (hx : (s.updateBegun n.val).axisCommand n.val cmd = some t)
    (hstart : t.axisStart n.val = t) (ht : AxisWithin axisErased n.val (s.updateBegun n.val) t)
    (hpost : ∀ k, p { t.axis n.val with stall := k, ended := false }) : UpdatesAxis s n p := by
  have hupdate : s.profileUpdate n.val = t.updateEnded n.val := by
    rw [State.profileUpdate_eq hsite hio hc, State.axisCommands, hx]
    exact congrArg (State.updateEnded · n.val) hstart
  have hend := ht.trans (AxisWithin.updateEnded t n.val).withRegs
  obtain ⟨k, hk⟩ := t.updateEnded_axis n.val
  refine ⟨_, (exec_profileUpdate hp).trans (congrArg Host.Outcome.next hupdate), hk ▸ hpost k, ?_, fun j hj => ?_, ?_⟩
  · rw [hend.cmds, State.updateBegun_axis]
  · exact (hend.others j hj).trans (s.updateBegun_others hj)
  · exact congrArg (fun x : State => { x with regs := (t.updateEnded n.val).regs, axes := (t.updateEnded n.val).axes })
      (hend.frame.trans (s.updateBegun_frame n.val))

/-- An update that refuses its one command: an error of the command's writer. -/
theorem profileUpdate_refuses (hx : (s.updateBegun n.val).axisCommand n.val cmd = none) (htab : (s.axis n.val).tab = none)
    (hv : s.flag (F.PG_ERR_INFO_VALID (axisPage n.val)) = false) : Completes (.profileUpdate n) s fun t =>
      (t.axis n.val).mode = (s.axis n.val).mode ∧ t.getF (F.PG_ERR_INFO_CODE (axisPage n.val)) = 0x11 ∧
      t.event (axisPage n.val) 31 = true ∧ (t.axis n.val).cmds = [] ∧ t = { s with regs := t.regs, axes := t.axes } := by
  have hpage : plainKey (axisPage n.val * 0x1000 + 0x048) / 0x1000 = axisPage n.val := by
    rw [plainKey_of_lt (by rw [axisPage_key]; omega)]
    omega
  obtain ⟨hcode, hevent, -⟩ := State.err_first (s := s.updateBegun n.val) (p := axisPage n.val) (code := 0x11) (who := some who)
    (addr := regAddr (axisPage n.val * 0x1000 + 0x048) + 0) ((s.updateBegun_errValid n.val).trans hv) (by decide)
  have herr := AxisWithin.err (n := n.val) (s.updateBegun n.val) (axisPage n.val) 0x11 (some who)
    (regAddr (axisPage n.val * 0x1000 + 0x048) + 0)
  have haxis : ((s.updateBegun n.val).err (axisPage n.val) 0x11 (some who) (regAddr (axisPage n.val * 0x1000 + 0x048) + 0)).axis n.val =
      { s.sampled n.val with cmds := [] } := (State.axis_of_axes (State.err_axes ..) _).trans (s.updateBegun_axis n.val)
  have hupdate : s.profileUpdate n.val = State.updateEnded
      ((s.updateBegun n.val).err (axisPage n.val) 0x11 (some who) (regAddr (axisPage n.val * 0x1000 + 0x048) + 0)) n.val := by
    rw [State.profileUpdate_eq hsite hio hc, State.axisCommands, hx]
    dsimp only [State.axisCommands]
    rw [State.accessErr, hpage, State.axisStart_of_no_table ((congrArg AxisSt.tab haxis).trans htab)]
  generalize (s.updateBegun n.val).err (axisPage n.val) 0x11 (some who) (regAddr (axisPage n.val * 0x1000 + 0x048) + 0) = u at *
  have hend := AxisWithin.updateEnded u n.val
  obtain ⟨k, hk⟩ := u.updateEnded_axis n.val
  refine ⟨_, (exec_profileUpdate hp).trans (congrArg Host.Outcome.next hupdate), ?_, ?_, ?_, ?_, ?_⟩
  · rw [hk, haxis]
    rfl
  · rw [hend.axes_only]
    exact hcode
  · rw [hend.axes_only]
    exact hevent
  · rw [hk, haxis]
  · exact congrArg (fun x : State => { x with regs := (u.updateEnded n.val).regs, axes := (u.updateEnded n.val).axes })
      ((herr.trans hend.withRegs).frame.trans (s.updateBegun_frame n.val))

end

/-! ## Motion commands (R248, R250, R252, R254, R258) -/

/-- The axis under way to a target. -/
def State.axisMoved (s : State) (n : Nat) (target : Int) : State :=
  let s1 := (s.setAxis n { s.axis n with resumable := false }).axisWake n
  s1.setAxis n { s1.axis n with mode := .move, target := target, braked := false }

theorem State.axisWake_axis (s : State) (n : Nat) : ∃ w, (s.axisWake n).axis n = { s.axis n with reduced := false, wake := w } :=
  ⟨_, s.axis_setAxis_same n _⟩

theorem State.axisMoved_axis (s : State) (n : Nat) (target : Int) : ∃ w, (s.axisMoved n target).axis n =
    { s.axis n with resumable := false, reduced := false, wake := w, mode := .move, target := target, braked := false } := by
  obtain ⟨w, hw⟩ := (s.setAxis n { s.axis n with resumable := false }).axisWake_axis n
  exact ⟨w, (State.axis_setAxis_same ..).trans (by rw [hw, State.axis_setAxis_same])⟩

theorem AxisWithin.axisMoved (s : State) (n : Nat) (target : Int) : AxisWithin axesErased n s (s.axisMoved n target) :=
  ((setAxis s (by rfl)).trans (axisWake ..)).trans (setAxis _ (by rfl))

/-- A move to another position, with no limit active on the way, begins. -/
theorem State.axisMove_free {s : State} {n : Nat} {target : Int}
    (hl : s.limActive n (decide ((s.axis n).cmdPos < target)) = false) (hne : (s.axis n).cmdPos ≠ target) :
    s.axisMove n target = some (s.axisMoved n target) := by
  unfold State.axisMove
  dsimp only
  rw [if_neg, if_neg fun h => hne h.1.symm]
  · rfl
  · rintro (⟨hlt, hact⟩ | ⟨hlt, hact⟩)
    · rw [decide_eq_true hlt, hact] at hl
      exact absurd hl (by decide)
    · rw [decide_eq_false (by omega), hact] at hl
      exact absurd hl (by decide)

/-- The axis in a table. -/
def State.axisTabled (s : State) (n : Nat) (r : AxisTable) : State :=
  (s.axisWake n).setAxis n { (s.axisWake n).axis n with mode := .table, resumable := false, tab := some r }

theorem State.axisTabled_axis (s : State) (n : Nat) (r : AxisTable) :
    ((s.axisTabled n r).axis n).mode = .table ∧ ((s.axisTabled n r).axis n).tab = some r := by
  unfold State.axisTabled
  rw [State.axis_setAxis_same]
  exact ⟨rfl, rfl⟩

theorem AxisWithin.axisTabled (s : State) (n : Nat) (r : AxisTable) : AxisWithin axesErased n s (s.axisTabled n r) :=
  (axisWake s n).trans (setAxis _ (by rfl))

/-- RUN_TABLE of a table without a record: it waits for its start. -/
theorem State.axisRun_empty {s : State} {n : Nat} (hc : s.getF (F.AXIS_TABLE_COUNT_COUNT n) = 0) : s.axisRun n = some (s.axisTabled n
    { base := s.getF (F.AXIS_TABLE_BASE_ADDR n) * 16, count := 0
      wait := if s.getF (F.AXIS_TABLE_AT_MS n) = 0 then none else some (s.getF (F.AXIS_TABLE_AT_MS n)) }) := by
  unfold State.axisRun
  dsimp only
  rw [hc]
  dsimp only [State.tableFirst]
  refine (if_neg Bool.false_ne_true).trans (congrArg some ?_)
  unfold State.axisRead
  rw [State.axis_setAxis_same]
  rfl

section
variable {s : State} {n : Nat} (hs : s.siteStops n = false)
include hs

theorem State.axisCommand_moveAbs (hm : (s.axis n).mode = .idle) :
    s.axisCommand n 1 = s.axisMove n (toSigned 32 (s.getF (F.AXIS_TARGET_STEPS n))) := by
  simp [State.axisCommand, hs, hm]

theorem State.axisCommand_moveRel (hm : (s.axis n).mode = .idle) :
    s.axisCommand n 2 = s.axisMove n (pos32 ((s.axis n).cmdPos + toSigned 32 (s.getF (F.AXIS_TARGET_STEPS n)))) := by
  simp [State.axisCommand, hs, hm]

theorem State.axisCommand_runTable (hm : (s.axis n).mode = .idle) : s.axisCommand n 3 = s.axisRun n := by
  simp [State.axisCommand, hs, hm]

omit hs in
theorem State.axisCommand_stop (hm : (s.axis n).mode = .move) :
    s.axisCommand n 4 = some (s.setAxis n ((s.axis n).halt false 0 true)) := by
  simp [State.axisCommand, hm, axisMotion]

omit hs in
theorem State.axisCommand_quickStop (hm : (s.axis n).mode = .move) :
    s.axisCommand n 5 = some (s.setAxis n ((s.axis n).halt true 0 false)) := by
  simp [State.axisCommand, hm, axisMotion, State.axisQuick]

theorem State.axisCommand_resume (hm : (s.axis n).mode = .idle) (hr : (s.axis n).resumable = true) :
    s.axisCommand n 6 = s.axisMove n (s.axis n).target := by
  simp [State.axisCommand, hs, hm, hr]

theorem State.axisCommand_home (hm : (s.axis n).mode = .idle) : s.axisCommand n 7 = some (s.axisHome n) := by
  simp [State.axisCommand, hs, hm]

theorem State.axisCommand_clearFault (hm : (s.axis n).mode = .fault) :
    s.axisCommand n 8 = some (s.setAxis n { s.axis n with mode := .idle, cause := 0 }) := by
  simp [State.axisCommand, hs, hm]

omit hs in
theorem State.axisCommand_setPos (hm : (s.axis n).mode = .idle) : s.axisCommand n 9 = some (s.axisSetPos n) := by
  simp [State.axisCommand, hm, axisMotion]

omit hs in
/-- A faulted axis takes CLEAR_FAULT alone. -/
theorem State.axisCommand_fault (hm : (s.axis n).mode = .fault) {cmd : Nat} (h : cmd ≠ 8) : s.axisCommand n cmd = none := by
  unfold State.axisCommand
  dsimp only
  rw [hm]
  split
  · rfl
  · split
    case h_8 => exact absurd rfl h
    all_goals rfl

end

/-! ## What each command does at the update -/

section
variable {s : State} {n : Fin 8} {who : Initiator} {cmd : Nat} (hp : s.pagePowered 0x0A1 = true) (hio : s.ioLost = false)
  (hsite : s.siteStops n.val = false) (hc : (s.axis n.val).cmds = [(who, cmd)]) (htab : (s.axis n.val).tab = none)
include hp hio hsite hc htab

/-- A command that makes a move to a free target. -/
theorem profileUpdate_moves {target : Int} {p : AxisSt → Prop}
    (hx : (s.updateBegun n.val).axisCommand n.val cmd = (s.updateBegun n.val).axisMove n.val target)
    (hl : s.limActive n.val (decide ((s.axis n.val).cmdPos < target)) = false) (hne : (s.axis n.val).cmdPos ≠ target)
    (hpost : ∀ b : AxisSt, b.mode = .move → b.target = target → b.pos = (s.axis n.val).pos → p b) : UpdatesAxis s n p := by
  have hpos : ((s.updateBegun n.val).axis n.val).cmdPos = (s.axis n.val).cmdPos := by
    rw [State.updateBegun_axis]
    rfl
  have hmove : (s.updateBegun n.val).axisMove n.val target = some ((s.updateBegun n.val).axisMoved n.val target) :=
    State.axisMove_free (by rwa [hpos, State.updateBegun_limActive]) (by rwa [hpos])
  obtain ⟨w, hw⟩ := (s.updateBegun n.val).axisMoved_axis n.val target
  rw [State.updateBegun_axis] at hw
  refine profileUpdate_does hp hio hsite hc (hx.trans hmove) (State.axisStart_of_no_table (by rw [hw]; exact htab))
    (AxisWithin.axisMoved ..).withRegs fun k => ?_
  rw [hw]
  exact hpost _ rfl rfl rfl

omit htab in
/-- A command that sets the axis alone. -/
theorem profileUpdate_sets {b : AxisSt} {p : AxisSt → Prop}
    (hx : (s.updateBegun n.val).axisCommand n.val cmd = some ((s.updateBegun n.val).setAxis n.val b)) (hcmds : b.cmds = []) (hb : b.tab = none)
    (hpost : ∀ k, p { b with stall := k, ended := false }) : UpdatesAxis s n p := by
  refine profileUpdate_does hp hio hsite hc hx (State.axisStart_of_no_table (by rwa [State.axis_setAxis_same]))
    (AxisWithin.setAxis _ (by rw [State.updateBegun_axis, hcmds])).withRegs fun k => ?_
  rw [State.axis_setAxis_same]
  exact hpost k

end

end Sys2Proof.Machine
end

section
/-! Homing, tables, the frame of any profile update, and the obligation on the commands of an axis (R247 to R254, R260). -/

namespace Sys2Proof.Machine

/-! ## Homing and tables at the update -/

section
variable {s : State} {n : Fin 8} {who : Initiator} {cmd : Nat} (hp : s.pagePowered 0x0A1 = true) (hio : s.ioLost = false)
  (hsite : s.siteStops n.val = false) (hc : (s.axis n.val).cmds = [(who, cmd)]) (htab : (s.axis n.val).tab = none)
include hp hio hsite hc htab

theorem profileUpdate_homes (hx : (s.updateBegun n.val).axisCommand n.val cmd = some ((s.updateBegun n.val).axisHome n.val)) :
    UpdatesAxis s n fun a => a.mode = .homing ∧ a.homed = false := by
  have hhome : ∃ b : AxisSt, (s.updateBegun n.val).axisHome n.val = ((s.updateBegun n.val).axisWake n.val).setAxis n.val b ∧
      b.mode = .homing ∧ b.homed = false ∧ b.tab = (((s.updateBegun n.val).axisWake n.val).axis n.val).tab :=
    ⟨_, rfl, rfl, rfl, rfl⟩
  obtain ⟨b, hb, hmode, hhomed, hbtab⟩ := hhome
  obtain ⟨w, hw⟩ := (s.updateBegun n.val).axisWake_axis n.val
  have haxis : ((s.updateBegun n.val).axisHome n.val).axis n.val = b := by rw [hb, State.axis_setAxis_same]
  refine profileUpdate_does hp hio hsite hc hx ?_ (AxisWithin.axisHome ..).withRegs fun k => ?_
  · refine State.axisStart_of_no_table ?_
    rw [haxis, hbtab, hw, State.updateBegun_axis]
    exact htab
  · rw [haxis]
    exact ⟨hmode, hhomed⟩

end

/-- A table that waits for a start still to come does not begin. -/
theorem State.axisStart_of_early {s : State} {n ms : Nat} {r : AxisTable} (hr : (s.axis n).tab = some r) (hw : r.wait = some ms)
    (h : tickDiff s.taiMs ms < 0) : s.axisStart n = s := by
  unfold State.axisStart
  dsimp only
  rw [hr]
  dsimp only
  rw [hw]
  refine if_pos ?_
  dsimp only
  rw [decide_eq_false (by omega)]
  exact Bool.or_true _

theorem State.updateBegun_taiMs (s : State) (n : Nat) : (s.updateBegun n).taiMs = s.taiMs :=
  (congrArg State.taiMs (s.updateBegun_frame n) :)

theorem profileUpdate_runs {s : State} {n : Fin 8} {who : Initiator} (hp : s.pagePowered 0x0A1 = true) (hio : s.ioLost = false)
    (hsite : s.siteStops n.val = false) (hc : (s.axis n.val).cmds = [(who, 3)]) (hm : (s.axis n.val).mode = .idle)
    (hcount : s.getF (F.AXIS_TABLE_COUNT_COUNT n.val) = 0) (hearly : tickDiff s.taiMs (s.getF (F.AXIS_TABLE_AT_MS n.val)) < 0)
    (hat : s.getF (F.AXIS_TABLE_AT_MS n.val) ≠ 0) :
    UpdatesAxis s n fun a => a.mode = .table ∧ ∃ r, a.tab = some r ∧ r.count = 0 ∧ r.begun = false := by
  have hcount' : (s.updateBegun n.val).getF (F.AXIS_TABLE_COUNT_COUNT n.val) = 0 :=
    (s.updateBegun_getF n.val (off := 0xA0) rfl (by decide) (by decide)).trans hcount
  have hat' : (s.updateBegun n.val).getF (F.AXIS_TABLE_AT_MS n.val) = s.getF (F.AXIS_TABLE_AT_MS n.val) :=
    s.updateBegun_getF n.val (off := 0xA4) rfl (by decide) (by decide)
  have hmode : ((s.updateBegun n.val).axis n.val).mode = .idle := by
    rw [State.updateBegun_axis]
    exact hm
  have hx := (State.axisCommand_runTable (State.updateBegun_siteStops hsite) hmode).trans (State.axisRun_empty hcount')
  rw [hat', if_neg hat] at hx
  obtain ⟨hm', htab'⟩ := (s.updateBegun n.val).axisTabled_axis n.val
    { base := (s.updateBegun n.val).getF (F.AXIS_TABLE_BASE_ADDR n.val) * 16, count := 0, wait := some (s.getF (F.AXIS_TABLE_AT_MS n.val)) }
  refine profileUpdate_does hp hio hsite hc hx
    (State.axisStart_of_early htab' rfl ?_) (AxisWithin.axisTabled ..).withRegs fun _ => ⟨hm', _, htab', rfl, rfl⟩
  rw [AxisWithin.axes_only (AxisWithin.axisTabled ..)]
  exact (s.updateBegun_taiMs n.val).symm ▸ hearly

/-! ## Any update -/

/-- Whatever waits on the axis, an update changes only that axis, its registers and what a table's reading reaches; it takes the commands
while the output supply is there. -/
theorem State.profileUpdate_frame (s : State) (n : Nat) : (s.ioLost = false → ((s.profileUpdate n).axis n).cmds = []) ∧
    (∀ j, j ≠ n → (s.profileUpdate n).axis j = s.axis j) ∧ axisTableErased (s.profileUpdate n) = axisTableErased s := by
  have hend (u : State) (l : List (Initiator × Nat)) : AxisWithin axisTableErased n u (((u.axisCommands n l).axisStart n).updateEnded n) :=
    ((AxisWithin.axisCommands u n l).trans (AxisWithin.axisStart ..)).trans (AxisWithin.updateEnded ..).withRegs.withTable
  have hsampled := AxisWithin.axisSample s n
  have hstop (u : State) : AxisWithin axesErased n u ((u.setAxis n { u.axis n with resumable := false }).axisQuick n 0) :=
    (AxisWithin.setAxis u (by rfl)).trans (AxisWithin.axisQuick ..)
  have hbegun : AxisWithin axisTableErased n s (if (s.axisSample n).siteStops n then
      ((s.axisSample n).setAxis n { (s.axisSample n).axis n with resumable := false }).axisQuick n 0 else s.axisSample n) :=
    .ite (hsampled.trans (hstop _).withRegs).withTable hsampled.withTable
  unfold State.profileUpdate
  dsimp only
  split
  · next hlost =>
    have hfault := AxisWithin.axisFault s n 8
    exact ⟨fun hio => by simp [hio] at hlost, hfault.others, hfault.withTable.frame⟩
  · generalize (if (s.axisSample n).siteStops n then
      ((s.axisSample n).setAxis n { (s.axisSample n).axis n with resumable := false }).axisQuick n 0 else s.axisSample n) = u at *
    have hdone := hend (u.setAxis n { u.axis n with cmds := [] }) (u.axis n).cmds
    refine ⟨fun _ => hdone.cmds.trans (congrArg AxisSt.cmds (State.axis_setAxis_same ..)), fun j hj => ?_, hdone.frame.trans hbegun.frame⟩
    exact (hdone.others j hj).trans ((State.axis_setAxis_other _ _ hj).trans (hbegun.others j hj))

theorem profileUpdate_completes {s : State} {n : Fin 8} (hp : s.pagePowered 0x0A1 = true) : Completes (.profileUpdate n) s fun t =>
    (s.ioLost = false → (t.axis n.val).cmds = []) ∧ (∀ j, j ≠ n.val → t.axis j = s.axis j) ∧
      t = { s with regs := t.regs, fifos := t.fifos, mem := t.mem, freeCtr := t.freeCtr, axes := t.axes } := by
  obtain ⟨hcmds, hothers, hframe⟩ := s.profileUpdate_frame n.val
  exact ⟨_, exec_profileUpdate hp, hcmds, hothers, congrArg (fun x : State => { x with
    regs := (s.profileUpdate n.val).regs, fifos := (s.profileUpdate n.val).fifos, mem := (s.profileUpdate n.val).mem
    freeCtr := (s.profileUpdate n.val).freeCtr, axes := (s.profileUpdate n.val).axes }) hframe⟩

theorem State.live_of_unpowered {s : State} {p : Nat} (h : s.pagePowered p = false) (r : Res) : s.live p r = .next s :=
  if_neg (by rw [h]; exact Bool.false_ne_true)

/-! ## The obligation -/

/-- Settles O41. A write only queues the command; the update then meets it alone, in the axis with its parameters sampled, whose mode,
position and target are those before. -/
theorem axisCommands : Obligations.AxisCommands := by
  unfold Obligations.AxisCommands
  refine ⟨fun who n s => ⟨fun ho => ⟨axisEnable_completes ho, axisDisable_completes ho⟩,
      fun ho c hmem => axisWrite_completes ho (exec_axisWrite who n s c hmem)⟩,
    fun who n cmd s hp hio hsite hc htab => ?_, fun n s => ⟨fun hp => State.live_of_unpowered hp _, profileUpdate_completes⟩⟩
  have hbegun := s.updateBegun_axis n.val
  have hsite' := State.updateBegun_siteStops hsite
  have hmode {m : AxisMode} (hm : (s.axis n.val).mode = m) : ((s.updateBegun n.val).axis n.val).mode = m := by
    rw [hbegun]
    exact hm
  have hpos : ((s.updateBegun n.val).axis n.val).cmdPos = (s.axis n.val).cmdPos := by
    rw [hbegun]
    rfl
  have hkeeps : ((s.updateBegun n.val).axis n.val).target = (s.axis n.val).target ∧
      ((s.updateBegun n.val).axis n.val).tab = none ∧ ((s.updateBegun n.val).axis n.val).cmds = [] := by
    rw [hbegun]
    exact ⟨rfl, htab, rfl⟩
  obtain ⟨htarget, htab', hcmds⟩ := hkeeps
  intro a arg free does
  have hdoes : does = UpdatesAxis s n := rfl
  clear_value does
  subst hdoes
  refine ⟨?_, ?_, ?_, ?_, ?_, ?_, ?_, ?_, ?_, ?_⟩
  · rintro rfl hm ⟨hl, hne⟩
    refine profileUpdate_moves  hp hio hsite hc htab ?_ hl hne fun b h1 h2 h3 => ⟨h1, h2, h3⟩
    rw [State.axisCommand_moveAbs hsite' (hmode hm), State.updateBegun_target]
  · rintro rfl hm ⟨hl, hne⟩
    refine profileUpdate_moves hp hio hsite hc htab ?_ hl hne fun b h1 h2 _ => ⟨h1, h2⟩
    rw [State.axisCommand_moveRel hsite' (hmode hm), State.updateBegun_target, hpos]
  · rintro rfl hm
    exact profileUpdate_sets hp hio hsite hc (State.axisCommand_stop (hmode hm)) hcmds rfl fun k => ⟨rfl, rfl, rfl, htarget⟩
  · rintro rfl hm
    exact profileUpdate_sets hp hio hsite hc (State.axisCommand_quickStop (hmode hm)) hcmds rfl fun k => ⟨rfl, rfl, rfl⟩
  · rintro rfl hm hr ⟨hl, hne⟩
    refine profileUpdate_moves hp hio hsite hc htab ?_ hl hne fun b h1 h2 _ => ⟨h1, h2⟩
    rw [State.axisCommand_resume hsite' (hmode hm) (by rw [hbegun]; exact hr), htarget]
  · rintro rfl hm
    exact profileUpdate_homes hp hio hsite hc htab (State.axisCommand_home hsite' (hmode hm))
  · rintro rfl hm
    exact profileUpdate_sets hp hio hsite hc (State.axisCommand_clearFault hsite' (hmode hm)) hcmds htab' fun k => ⟨rfl, rfl⟩
  · rintro rfl hm
    exact profileUpdate_sets hp hio hsite hc (State.axisCommand_setPos (hmode hm)) hcmds htab' fun k =>
      ⟨by rw [State.updateBegun_target], rfl, hmode hm⟩
  · rintro rfl hm hcount hearly hat
    exact profileUpdate_runs hp hio hsite hc hm hcount hearly hat
  · intro _ _ h8 hm hv
    obtain ⟨t, hx, hmode', hrest⟩ := profileUpdate_refuses hp hio hsite hc (State.axisCommand_fault (hmode hm) h8) htab hv
    exact ⟨t, hx, hmode'.trans hm, hrest⟩

end Sys2Proof.Machine
end

section
/-! Faults, stops and the step update of an axis (R244, R247, R250). -/

namespace Sys2Proof.Machine

/-! ## Faults (R247) -/

theorem State.axisFault_of_enabled {s : State} {n : Nat} (cause : Nat) (hm : (s.axis n).mode ≠ .disabled) :
    ∃ b : AxisSt, s.axisFault n cause = (s.setAxis n b).raise (axisPage n) 2 ∧ b.mode = .fault ∧ b.cause = cause ∧ b.vel = 0 ∧ b.steps = 0 :=
  ⟨_, if_neg hm, rfl, rfl, rfl, rfl⟩

/-- A fault of an enabled axis: its cause, no more steps, and the event. -/
theorem State.axisFault_does {s : State} {n : Nat} (cause : Nat) (hm : (s.axis n).mode ≠ .disabled) :
    ((s.axisFault n cause).axis n).mode = .fault ∧ ((s.axisFault n cause).axis n).cause = cause ∧
    ((s.axisFault n cause).axis n).vel = 0 ∧ ((s.axisFault n cause).axis n).steps = 0 ∧ (s.axisFault n cause).event (axisPage n) 2 = true := by
  obtain ⟨b, hb, hmode, hcause, hvel, hsteps⟩ := State.axisFault_of_enabled cause hm
  have haxis : (s.axisFault n cause).axis n = b := by rw [hb, State.axis_raise, State.axis_setAxis_same]
  rw [haxis, hb]
  exact ⟨hmode, hcause, hvel, hsteps, State.event_raise_same _ _ (by decide)⟩

/-! ## Arriving and stopping -/

theorem sqrtBits_sq_le {n : Nat} (k : Nat) {r : Nat} (h : r * r ≤ n) : sqrtBits n k r * sqrtBits n k r ≤ n := by
  induction k generalizing r with
  | zero => exact h
  | succ k ih =>
    unfold sqrtBits
    split
    · next hk => exact ih hk
    · exact ih h

theorem isqrt_sq_le (n : Nat) : isqrt n * isqrt n ≤ n := sqrtBits_sq_le 48 (Nat.zero_le n)

/-- At the point there is no room for any speed. -/
theorem brakeSpeed_zero (dec : Nat) : brakeSpeed 0 0 dec = 0 := by
  have hle : isqrt (dec * dec) ≤ dec := Nat.mul_self_le_mul_self_iff.1 (isqrt_sq_le _)
  simp [brakeSpeed, Nat.sub_eq_zero_of_le hle]

/-- An axis at rest at the point has arrived. -/
theorem AxisSt.approach_here {a : AxisSt} {goal : Int} (hv : a.vel = 0) (hp : a.pos = goal) (vmax : Int) :
    ∃ b, a.approach goal vmax = (b, true) ∧ b.pos = goal ∧ b.owed = a.owed ∧ b.cmds = a.cmds := by
  unfold AxisSt.approach
  simp [hv, hp, brakeSpeed_zero]

/-- Braking leaves an axis at rest as it is. -/
theorem AxisSt.brake_rest {a : AxisSt} (hv : a.vel = 0) (rate : Nat) : a.brake rate = a := by
  have hsame : ∀ v p, v = a.vel → p = a.pos → ({ a with vel := v, pos := p } : AxisSt) = a := by
    rintro _ _ rfl rfl
    rfl
  have hramp : rampTo a.vel 0 rate rate = a.vel := by simp [rampTo, hv]
  exact hsame _ _ hramp (by rw [hramp, hv]; omega)

/-- The end of a stop that no fault follows. -/
theorem State.axisStopped_plain {s : State} {n : Nat} (h : (s.axis n).after = 0) : ∃ b : AxisSt,
    s.axisStopped n = (s.setAxis n b).raise (axisPage n) 1 ∧ b.mode = .idle ∧ b.vel = 0 ∧ b.cmdPos = (s.axis n).cmdPos ∧
      ((s.axis n).keep = true → b.resumable = true ∧ b.remain = pos32 ((s.axis n).target - (s.axis n).cmdPos)) := by
  unfold State.axisStopped
  dsimp only
  rw [if_pos h]
  refine ⟨_, rfl, ?_⟩
  have hrest := (s.axis n).cmdPos_rest s.now
  split
  · exact ⟨rfl, rfl, hrest, fun _ => ⟨rfl, congrArg (fun p => pos32 ((s.axis n).target - p)) hrest⟩⟩
  · next hk => exact ⟨rfl, rfl, hrest, fun h => absurd h hk⟩

/-! ## One interval of motion -/

theorem State.axisAdvance_idle {s : State} {n : Nat} (hm : (s.axis n).mode = .idle) : s.axisAdvance n = s := by
  unfold State.axisAdvance
  dsimp only
  rw [hm]

/-- A move at its target ends. -/
theorem State.axisAdvance_arrives {s : State} {n : Nat} (hm : (s.axis n).mode = .move) (hv : (s.axis n).vel = 0)
    (hat : (s.axis n).pos = (s.axis n).target * stepUnit) : ∃ b : AxisSt, s.axisAdvance n = (s.setAxis n b).raise (axisPage n) 0 ∧
      b.mode = .idle ∧ b.vel = 0 ∧ b.cmdPos = (s.axis n).target ∧ b.owed = (s.axis n).owed ∧ b.cmds = (s.axis n).cmds := by
  obtain ⟨b, hb, hpos, howed, hcmds⟩ := AxisSt.approach_here hv hat (s.axis n).vmax
  have hrest : (b.rest s.now).cmdPos = (s.axis n).target := by
    rw [AxisSt.cmdPos_rest, AxisSt.cmdPos, hpos, roundAway_stepUnit]
  refine ⟨{ b.rest s.now with mode := .idle, ended := true }, ?_, rfl, rfl, hrest, howed, hcmds⟩
  unfold State.axisAdvance AxisSt.profile
  dsimp only
  rw [hm, hb]
  rfl

theorem State.axisAdvance_stopped {s : State} {n : Nat} (hm : (s.axis n).mode = .stopping) (hv : (s.axis n).vel = 0)
    (hs : (s.axis n).stopAt = none) : s.axisAdvance n = (s.setAxis n (s.axis n)).axisStopped n := by
  unfold State.axisAdvance
  dsimp only
  rw [hm, hs]
  dsimp only
  rw [AxisSt.brake_rest hv, if_pos hv]

/-! ## Steps (R244) -/

theorem State.overRate_zero (s : State) (n : Nat) : s.overRate n 0 = false := by simp [State.overRate]

/-- The steps that go out change the fields of the step output only. -/
theorem State.stepSend_eq (s : State) (n : Nat) (moved : Int) : ∃ d w k o f,
    s.stepSend n moved = s.setAxis n { s.axis n with dirPos := d, dirAt := w, steps := k, owed := o, stepFrom := f } := by
  unfold State.stepSend
  dsimp only
  generalize (if (s.axis n).owed + moved ≠ 0 ∧ decide (0 < (s.axis n).owed + moved) ≠ (s.axis n).dirPos then s.now else (s.axis n).dirAt) = w
  split
  · exact ⟨_, _, _, _, _, rfl⟩
  · exact ⟨_, _, _, _, _, rfl⟩

theorem AxisWithin.stepSend (s : State) (n : Nat) (moved : Int) : AxisWithin axesErased n s (s.stepSend n moved) := by
  obtain ⟨d, w, k, o, f, h⟩ := s.stepSend_eq n moved
  exact h ▸ setAxis s (by rfl)

theorem State.stepSend_axis (s : State) (n : Nat) (moved : Int) : ∃ d w k o f, (s.stepSend n moved).axis n =
    { s.axis n with dirPos := d, dirAt := w, steps := k, owed := o, stepFrom := f } := by
  obtain ⟨d, w, k, o, f, h⟩ := s.stepSend_eq n moved
  exact ⟨d, w, k, o, f, h ▸ State.axis_setAxis_same ..⟩

/-- With nothing to send no step goes out. -/
theorem State.stepSend_nothing {s : State} {n : Nat} {moved : Int} (h : (s.axis n).owed + moved = 0) :
    ∃ f, (s.stepSend n moved).axis n = { s.axis n with steps := 0, owed := 0, stepFrom := f } := by
  unfold State.stepSend
  dsimp only
  rw [State.axis_setAxis_same, h]
  simp only [ne_eq, not_true_eq_false, false_and, if_false, if_true]
  split
  · exact ⟨_, rfl⟩
  · exact ⟨_, rfl⟩

/-! ## The step update -/

theorem exec_stepUpdate {s : State} {n : Fin 8} (hp : s.pagePowered 0x0A1 = true) : exec (.stepUpdate n) s = .next (s.stepUpdate n.val) :=
  State.live_of_powered hp

/-- An interval after which the axis is at rest: the steps up to there go out. -/
theorem State.stepUpdate_rests {s t : State} {n : Nat} (hw : (s.axis n).wake = 0) (hm : (s.axis n).mode ≠ .homing) (ht : s.axisAdvance n = t)
    (hmode : (t.axis n).mode = .idle) (hvel : (t.axis n).vel = 0) :
    s.stepUpdate n = t.stepSend n ((t.axis n).cmdPos - (s.axis n).cmdPos) := by
  unfold State.stepUpdate
  dsimp only
  rw [ht, hvel, hw, if_neg (by decide), if_neg (by rw [Int.natAbs_zero, State.overRate_zero]; decide), if_neg (by rw [hmode]; decide),
    decide_eq_false hm, Bool.false_and, if_neg (by decide)]

theorem State.stepUpdate_overRate {s : State} {n : Nat} (hw : (s.axis n).wake = 0)
    (hr : s.overRate n ((s.axisAdvance n).axis n).vel.natAbs = true) : s.stepUpdate n = (s.axisAdvance n).axisFault n 5 := by
  have hrate (v : Nat) : (s.axisAdvance n).overRate n v = s.overRate n v := by
    unfold State.overRate
    rw [(AxisWithin.axisAdvance s n).getF (f := F.AXIS_STEP_CFG_PULSE_NS n) (by simp only [F.AXIS_STEP_CFG_PULSE_NS]; omega)
      (by simp only [F.AXIS_STEP_CFG_PULSE_NS]; omega) (by simp only [F.AXIS_STEP_CFG_PULSE_NS]; omega)]
  unfold State.stepUpdate
  dsimp only
  rw [hw, if_neg (by decide), if_pos ((hrate _).trans hr)]

section
variable {s : State} {n : Fin 8} (hp : s.pagePowered 0x0A1 = true)
include hp

theorem stepUpdate_wakes (hw : 0 < (s.axis n.val).wake) : Completes (.stepUpdate n) s fun t =>
    t.axis n.val = { s.axis n.val with wake := (s.axis n.val).wake - 1, steps := 0 } ∧ t = { s with axes := t.axes } :=
  ⟨_, (exec_stepUpdate hp).trans (congrArg Host.Outcome.next (if_pos hw)), State.axis_setAxis_same .., rfl⟩

variable (hw : (s.axis n.val).wake = 0)
include hw

theorem stepUpdate_idle (hm : (s.axis n.val).mode = .idle) (hv : (s.axis n.val).vel = 0) (ho : (s.axis n.val).owed = 0) :
    Completes (.stepUpdate n) s fun t => t.axis n.val = { s.axis n.val with steps := 0, stepFrom := (t.axis n.val).stepFrom } ∧
      (∀ j, j ≠ n.val → t.axis j = s.axis j) ∧ t = { s with axes := t.axes } := by
  have hx := State.stepUpdate_rests hw (by rw [hm]; decide) (State.axisAdvance_idle hm) hm hv
  obtain ⟨f, hf⟩ := State.stepSend_nothing (s := s) (n := n.val) (moved := (s.axis n.val).cmdPos - (s.axis n.val).cmdPos) (by omega)
  have hsent := AxisWithin.stepSend s n.val ((s.axis n.val).cmdPos - (s.axis n.val).cmdPos)
  refine ⟨_, (exec_stepUpdate hp).trans (congrArg Host.Outcome.next hx), ?_, hsent.others, hsent.axes_only⟩
  rw [hf]
  exact congrArg (fun o => ({ s.axis n.val with steps := 0, owed := o, stepFrom := f } : AxisSt)) ho.symm

theorem stepUpdate_arrives (hm : (s.axis n.val).mode = .move) (hv : (s.axis n.val).vel = 0) (ho : (s.axis n.val).owed = 0)
    (hat : (s.axis n.val).pos = (s.axis n.val).target * stepUnit) : Completes (.stepUpdate n) s fun t =>
      (t.axis n.val).mode = .idle ∧ (t.axis n.val).cmdPos = (s.axis n.val).target ∧ (t.axis n.val).steps = 0 ∧
      t.event (axisPage n.val) 0 = true ∧ (∀ j, j ≠ n.val → t.axis j = s.axis j) ∧ t = { s with regs := t.regs, axes := t.axes } := by
  obtain ⟨b, hb, hmode, hvel, hcmdPos, howed, hcmds⟩ := State.axisAdvance_arrives hm hv hat
  have hpos : (s.axis n.val).cmdPos = (s.axis n.val).target := by rw [AxisSt.cmdPos, hat, roundAway_stepUnit]
  have haxis : (((s.setAxis n.val b).raise (axisPage n.val) 0).axis n.val) = b := by rw [State.axis_raise, State.axis_setAxis_same]
  have hx := State.stepUpdate_rests hw (by rw [hm]; decide) hb (by rw [haxis, hmode]) (by rw [haxis, hvel])
  have hmove := AxisWithin.setRaise s (n := n.val) (a := b) (p := axisPage n.val) (b := 0) (by decide) hcmds
  have hevent := (s.setAxis n.val b).event_raise_same (axisPage n.val) (b := 0) (by decide)
  rw [haxis, hcmdPos, hpos] at hx
  generalize (s.setAxis n.val b).raise (axisPage n.val) 0 = u at *
  have hsent := AxisWithin.stepSend u n.val ((s.axis n.val).target - (s.axis n.val).target)
  have hall := hmove.trans hsent.withRegs
  obtain ⟨f, hf⟩ := State.stepSend_nothing (s := u) (n := n.val) (moved := (s.axis n.val).target - (s.axis n.val).target)
    (by rw [haxis, howed, ho]; omega)
  rw [haxis] at hf
  refine ⟨_, (exec_stepUpdate hp).trans (congrArg Host.Outcome.next hx), ?_, ?_, ?_, ?_, hall.others, hall.axis_only⟩
  · rw [hf]
    exact hmode
  · rw [hf]
    exact hcmdPos
  · rw [hf]
  · rw [hsent.axes_only]
    exact hevent

theorem stepUpdate_stops (hm : (s.axis n.val).mode = .stopping) (hv : (s.axis n.val).vel = 0) (ha : (s.axis n.val).after = 0)
    (hs : (s.axis n.val).stopAt = none) : Completes (.stepUpdate n) s fun t =>
      (t.axis n.val).mode = .idle ∧ (t.axis n.val).cmdPos = (s.axis n.val).cmdPos ∧ t.event (axisPage n.val) 1 = true ∧
      ((s.axis n.val).keep = true →
        (t.axis n.val).resumable = true ∧ (t.axis n.val).remain = pos32 ((s.axis n.val).target - (s.axis n.val).cmdPos)) ∧
      (∀ j, j ≠ n.val → t.axis j = s.axis j) ∧ t = { s with regs := t.regs, axes := t.axes } := by
  have hself := s.axis_setAxis_same n.val (s.axis n.val)
  have hadv := State.axisAdvance_stopped hm hv hs
  obtain ⟨b, hb, hmode, hvel, hcmdPos, hkeep⟩ := State.axisStopped_plain (s := s.setAxis n.val (s.axis n.val)) (n := n.val) (by rw [hself, ha])
  have hmove := (AxisWithin.setAxis s (n := n.val) (a := s.axis n.val) rfl).withRegs.trans (AxisWithin.axisStopped ..)
  have hevent := ((s.setAxis n.val (s.axis n.val)).setAxis n.val b).event_raise_same (axisPage n.val) (b := 1) (by decide)
  have haxis : ((((s.setAxis n.val (s.axis n.val)).setAxis n.val b).raise (axisPage n.val) 1).axis n.val) = b := by
    rw [State.axis_raise, State.axis_setAxis_same]
  rw [← hb] at hevent haxis
  rw [hself] at hcmdPos hkeep
  generalize (s.setAxis n.val (s.axis n.val)).axisStopped n.val = u at *
  have hx := State.stepUpdate_rests hw (by rw [hm]; decide) hadv (by rw [haxis, hmode]) (by rw [haxis, hvel])
  generalize (u.axis n.val).cmdPos - (s.axis n.val).cmdPos = moved at *
  have hsent := AxisWithin.stepSend u n.val moved
  have hall := hmove.trans hsent.withRegs
  obtain ⟨d, w, k, o, f, hf⟩ := u.stepSend_axis n.val moved
  rw [haxis] at hf
  refine ⟨_, (exec_stepUpdate hp).trans (congrArg Host.Outcome.next hx), ?_, ?_, ?_, ?_, hall.others, hall.axis_only⟩
  · rw [hf]
    exact hmode
  · rw [hf]
    exact hcmdPos
  · rw [hsent.axes_only]
    exact hevent
  · rw [hf]
    exact hkeep

theorem stepUpdate_tooFast (hm : ((s.axisAdvance n.val).axis n.val).mode ≠ .disabled)
    (hr : s.overRate n.val ((s.axisAdvance n.val).axis n.val).vel.natAbs = true) : Completes (.stepUpdate n) s fun t =>
      (t.axis n.val).mode = .fault ∧ (t.axis n.val).cause = 5 ∧ (t.axis n.val).steps = 0 ∧ (t.axis n.val).vel = 0 ∧
      t.event (axisPage n.val) 2 = true ∧
      t = { s with regs := t.regs, fifos := t.fifos, mem := t.mem, freeCtr := t.freeCtr, axes := t.axes } := by
  obtain ⟨hmode, hcause, hvel, hsteps, hevent⟩ := State.axisFault_does 5 hm
  have hall := (AxisWithin.axisAdvance s n.val).trans (AxisWithin.axisFault (s.axisAdvance n.val) n.val 5).withTable
  exact ⟨_, (exec_stepUpdate hp).trans (congrArg Host.Outcome.next (State.stepUpdate_overRate hw hr)), hmode, hcause, hsteps, hvel, hevent,
    hall.table_only⟩

end

end Sys2Proof.Machine
end

section
/-! Input changes of an axis: the encoder, the limits and home (R245, R246, R251, R254). -/

namespace Sys2Proof.Machine

/-! ## The encoder (R245) -/

section
variable {s : State} {n : Fin 8} {x y : Bool}

theorem encoderEdge_unheard
    (h : (s.ioLost || !s.pagePowered 0x0A1 || !s.flag (F.AXIS_CTRL_ENC_EN n.val) || (x == (s.axis n.val).encA && y == (s.axis n.val).encB)) = true) :
    Completes (.encoderEdge n x y) s fun t => t.axis n.val = { s.axis n.val with encA := x, encB := y } ∧
      (∀ j, j ≠ n.val → t.axis j = s.axis j) ∧ t = { s with axes := t.axes } :=
  ⟨_, congrArg Host.Outcome.next (if_pos h), State.axis_setAxis_same .., fun _ hj => State.axis_setAxis_other _ _ hj, rfl⟩

variable (hio : s.ioLost = false) (hen : s.flag (F.AXIS_CTRL_ENC_EN n.val) = true) (hp : s.pagePowered 0x0A1 = true)
include hio hen hp

/-- An edge of one input counts, `up` or down. -/
theorem encoderEdge_counts {up : Bool} (h : (x == (s.axis n.val).encA && y == (s.axis n.val).encB) = false)
    (hone : (x != (s.axis n.val).encA && y != (s.axis n.val).encB) = false) (hup : (if x != (s.axis n.val).encA then x != y else x == y) = up) :
    Completes (.encoderEdge n x y) s fun t =>
      t.axis n.val = { s.axis n.val with
        encA := x, encB := y
        enc := pos32 (if up != s.flag (F.AXIS_CTRL_ENC_INV n.val) then (s.axis n.val).enc + 1 else (s.axis n.val).enc - 1) } ∧
      (∀ j, j ≠ n.val → t.axis j = s.axis j) ∧ t = { s with axes := t.axes } := by
  have hheard : ¬(s.ioLost || !s.pagePowered 0x0A1 || !s.flag (F.AXIS_CTRL_ENC_EN n.val) ||
      (x == (s.axis n.val).encA && y == (s.axis n.val).encB)) = true := by simp only [hio, hp, hen, h]; decide
  subst hup
  refine ⟨_, congrArg Host.Outcome.next ((if_neg hheard).trans (if_neg (by rw [hone]; decide))), State.axis_setAxis_same .., fun j hj => ?_, rfl⟩
  exact (State.axis_setAxis_other _ _ hj).trans (State.axis_setAxis_other _ _ hj)

omit hio hen hp in
/-- The count of an encoder error. -/
theorem State.encoderError (s : State) (n : Nat) (x y : Bool)
    (hmax : s.getF (F.AXIS_ENC_ERR_COUNT n) + 1 < 2 ^ (F.AXIS_ENC_ERR_COUNT n).width) :
    ∃ u, (s.setAxis n { s.axis n with encA := x, encB := y }).bump (F.AXIS_ENC_ERR_COUNT n) = u ∧
      u.getF (F.AXIS_ENC_ERR_COUNT n) = s.getF (F.AXIS_ENC_ERR_COUNT n) + 1 ∧ u.axis n = { s.axis n with encA := x, encB := y } ∧
      u = { s with regs := u.regs, axes := u.axes } := by
  refine ⟨_, rfl, State.getF_bump_same (Nat.zero_le _) (show 31 < 32 by decide) hmax, ?_, ?_⟩
  · rw [State.axis_bump, State.axis_setAxis_same]
  · unfold State.bump State.bumpBy
    rw [State.setF_only]
    rfl

variable (hx : x ≠ (s.axis n.val).encA) (hy : y ≠ (s.axis n.val).encB)
  (hmax : s.getF (F.AXIS_ENC_ERR_COUNT n.val) + 1 < 2 ^ (F.AXIS_ENC_ERR_COUNT n.val).width)
include hx hy hmax

/-- Edges of both inputs at once are an error. -/
theorem exec_encoderEdge_both : ∃ u : State,
    exec (.encoderEdge n x y) s = .next (if s.flag (F.AXIS_CTRL_ENC_FAULT n.val) then u.axisFault n.val 7 else u) ∧
      u.getF (F.AXIS_ENC_ERR_COUNT n.val) = s.getF (F.AXIS_ENC_ERR_COUNT n.val) + 1 ∧
      u.axis n.val = { s.axis n.val with encA := x, encB := y } ∧ u = { s with regs := u.regs, axes := u.axes } := by
  obtain ⟨u, hu, hcount, haxis, honly⟩ := s.encoderError n.val x y hmax
  have hheard : ¬(s.ioLost || !s.pagePowered 0x0A1 || !s.flag (F.AXIS_CTRL_ENC_EN n.val) ||
      (x == (s.axis n.val).encA && y == (s.axis n.val).encB)) = true := by simp [hio, hp, hen, hx]
  exact ⟨u, congrArg Host.Outcome.next (hu ▸ (if_neg hheard).trans (if_pos (by simp [hx, hy]))), hcount, haxis, honly⟩

theorem encoderEdge_errs (hf : s.flag (F.AXIS_CTRL_ENC_FAULT n.val) = false) : Completes (.encoderEdge n x y) s fun t =>
    t.getF (F.AXIS_ENC_ERR_COUNT n.val) = s.getF (F.AXIS_ENC_ERR_COUNT n.val) + 1 ∧
      t.axis n.val = { s.axis n.val with encA := x, encB := y } ∧ t = { s with regs := t.regs, axes := t.axes } := by
  obtain ⟨u, hexec, hrest⟩ := exec_encoderEdge_both hio hen hp hx hy hmax
  rw [hf, if_neg Bool.false_ne_true] at hexec
  exact ⟨u, hexec, hrest⟩

theorem encoderEdge_faults (hf : s.flag (F.AXIS_CTRL_ENC_FAULT n.val) = true) (hm : (s.axis n.val).mode ≠ .disabled) :
    Completes (.encoderEdge n x y) s fun t => t.getF (F.AXIS_ENC_ERR_COUNT n.val) = s.getF (F.AXIS_ENC_ERR_COUNT n.val) + 1 ∧
      (t.axis n.val).mode = .fault ∧ (t.axis n.val).cause = 7 ∧ t.event (axisPage n.val) 2 = true ∧
      t = { s with regs := t.regs, axes := t.axes } := by
  obtain ⟨u, hexec, hcount, haxis, honly⟩ := exec_encoderEdge_both hio hen hp hx hy hmax
  rw [if_pos hf] at hexec
  obtain ⟨hmode, hcause, -, -, hevent⟩ := State.axisFault_does (s := u) (n := n.val) 7 (by rw [haxis]; exact hm)
  have hfault := AxisWithin.axisFault u n.val 7
  refine ⟨_, hexec, (hfault.getF (f := F.AXIS_ENC_ERR_COUNT n.val) ?_ ?_ ?_).trans hcount, hmode, hcause, hevent, ?_⟩
  iterate 3
    simp only [F.AXIS_ENC_ERR_COUNT]
    omega
  exact hfault.axis_only.trans (congrArg (fun z : State => { z with
    regs := (u.axisFault n.val 7).regs, axes := (u.axisFault n.val 7).axes }) honly)

end

/-! ## Debouncing (R246) -/

/-- An input at its level settles as it is, held or not. -/
theorem AxisInput.settle_at_level {x : AxisInput} (hl : x.raw = x.level) (hf : x.first = none) (now hold : Nat) :
    x.settle now hold = (x, none) := by
  have hsame : ({ x with level := x.raw, first := none } : AxisInput) = x := by
    obtain ⟨raw, level, since, first⟩ := x
    obtain rfl : raw = level := hl
    obtain rfl : first = none := hf
    rfl
  unfold AxisInput.settle
  split
  · rfl
  · rw [hsame, if_pos (by rw [hl]; exact beq_self_eq_true _)]

theorem AxisInput.settle_early {x : AxisInput} {now hold : Nat} (h : now < x.since + hold) : x.settle now hold = (x, none) :=
  if_pos (by simp [AxisInput.held, h])

/-- The input settled at its raw level. -/
def AxisInput.settled (x : AxisInput) : AxisInput := { x with level := x.raw, first := none }

theorem AxisInput.settle_changes {x : AxisInput} {now hold : Nat} (hl : x.raw ≠ x.level) (hh : x.since + hold ≤ now) :
    x.settle now hold = (x.settled, some (x.first.getD 0)) := by
  unfold AxisInput.settle
  rw [if_neg (by simp [AxisInput.held, hh]), if_neg (by simp [hl])]
  rfl

theorem AxisInput.settle_settled (x : AxisInput) (now hold : Nat) : x.settled.settle now hold = (x.settled, none) :=
  AxisInput.settle_at_level rfl rfl ..

theorem AxisInput.edge_same {x : AxisInput} {high : Bool} (h : high = x.raw) (now : Nat) (enc : Int) : x.edge now enc high = x :=
  if_pos (by rw [h]; exact beq_self_eq_true _)

theorem AxisInput.edge_noted {x : AxisInput} {high : Bool} (h : high ≠ x.raw) (hf : x.first = none) (now : Nat) (enc : Int) :
    x.edge now enc high = { x with raw := high, since := now, first := some enc } := by
  unfold AxisInput.edge
  rw [if_neg (by simp [h]), hf]
  rfl

/-! ## Limits (R251) -/

/-- The input of a limit of the axis. -/
def AxisSt.limit (a : AxisSt) (pos : Bool) : AxisInput := if pos then a.limPos else a.limNeg

def AxisSt.setLimit (a : AxisSt) (pos : Bool) (x : AxisInput) : AxisSt := if pos then { a with limPos := x } else { a with limNeg := x }

@[simp] theorem AxisSt.limit_setLimit (a : AxisSt) (pos : Bool) (x : AxisInput) : (a.setLimit pos x).limit pos = x := by cases pos <;> rfl

theorem AxisSt.setLimit_limit (a : AxisSt) (pos : Bool) : a.setLimit pos (a.limit pos) = a := by cases pos <;> rfl

@[simp] theorem AxisSt.setLimit_setLimit (a : AxisSt) (pos : Bool) (x y : AxisInput) : (a.setLimit pos x).setLimit pos y = a.setLimit pos y := by
  cases pos <;> rfl

/-- What is debounced at a limit takes effect. -/
def State.settleLimit (s : State) (n : Nat) (pos : Bool) : State :=
  let (x, change) := ((s.axis n).limit pos).settle s.now (1000 * s.getF (F.AXIS_DEBOUNCE_LIM_US n))
  let s1 := s.setAxis n ((s.axis n).setLimit pos x)
  if change.isSome && s1.limActive n pos && s1.pagePowered 0x0A1 then s1.limitTrip n pos else s1

/-- The pin of a limit is seen at a level. -/
def State.seeLimit (s : State) (n : Nat) (pos high : Bool) : State :=
  s.setAxis n ((s.axis n).setLimit pos (((s.axis n).limit pos).edge s.now (s.axis n).enc high))

theorem exec_limitEvt (n : Fin 8) (pos high : Bool) (s : State) :
    exec (.limitEvt n pos high) s = .next (((s.settleLimit n.val pos).seeLimit n.val pos high).settleLimit n.val pos) := rfl

theorem State.settleLimit_quiet {s : State} {n : Nat} {pos : Bool} {x : AxisInput}
    (h : ((s.axis n).limit pos).settle s.now (1000 * s.getF (F.AXIS_DEBOUNCE_LIM_US n)) = (x, none)) :
    s.settleLimit n pos = s.setAxis n ((s.axis n).setLimit pos x) := by
  unfold State.settleLimit
  rw [h]
  rfl

/-- The state in which a limit has just settled at its raw level. -/
def State.limitSettled (s : State) (n : Nat) (pos : Bool) : State :=
  s.setAxis n ((s.axis n).setLimit pos ((s.axis n).limit pos).settled)

theorem State.limActive_of_settled {s : State} {n : Nat} {pos : Bool} {x : AxisInput} (h : (s.axis n).limit pos = x.settled) :
    s.limActive n pos = (x.raw != s.flag (F.AXIS_CTRL_LIM_LOW n)) :=
  congrArg (fun x : AxisInput => x.level != s.flag (F.AXIS_CTRL_LIM_LOW n)) h

theorem State.limitSettled_axis (s : State) (n : Nat) (pos : Bool) :
    (s.limitSettled n pos).axis n = (s.axis n).setLimit pos ((s.axis n).limit pos).settled := State.axis_setAxis_same ..

theorem State.limitSettled_limit (s : State) (n : Nat) (pos : Bool) :
    ((s.limitSettled n pos).axis n).limit pos = ((s.axis n).limit pos).settled := by
  rw [State.limitSettled_axis, AxisSt.limit_setLimit]

/-- Settling a limit is not felt by the axis's state or motion. -/
theorem State.limitSettled_motion (s : State) (n : Nat) (pos : Bool) : ((s.limitSettled n pos).axis n).mode = (s.axis n).mode ∧
    ((s.limitSettled n pos).axis n).vel = (s.axis n).vel := by
  rw [State.limitSettled_axis]
  cases pos with
  | true => exact ⟨rfl, rfl⟩
  | false => exact ⟨rfl, rfl⟩

/-! ### What a limit does that becomes active -/

theorem AxisSt.heading_of_vel {a : AxisSt} {pos : Bool} (h : if pos then 0 < a.vel else a.vel < 0) : a.heading = some pos := by
  unfold AxisSt.heading
  cases pos with
  | true => exact if_pos h
  | false =>
    replace h : a.vel < 0 := h
    rw [if_neg (by omega), if_pos h]

theorem AxisSt.heading_at_rest {a : AxisSt} (hv : a.vel = 0) (hm : a.mode ≠ .homing) : a.heading = none := by
  unfold AxisSt.heading
  rw [hv, if_neg (by decide), if_neg (by decide), if_neg hm]

/-- Ahead of a move it stops the axis, a fault to follow. -/
theorem State.limitTrip_move {s : State} {n : Nat} {pos : Bool} (hm : (s.axis n).mode = .move) (hh : (s.axis n).heading = some pos) :
    s.limitTrip n pos = s.setAxis n ((s.axis n).halt true 1 false) := by
  unfold State.limitTrip State.axisQuick
  simp [hm, hh]

theorem State.limitTrip_event {s : State} {n : Nat} {pos : Bool} (hm : (s.axis n).mode ≠ .homing) (hh : (s.axis n).heading = none) :
    s.limitTrip n pos = s.raise (axisPage n) 4 := by
  unfold State.limitTrip
  simp [hm, hh]

/-! ### The limit's rows -/

section
variable {s : State} {n : Fin 8} {pos high : Bool}

theorem limitEvt_notes (hh : high ≠ ((s.axis n.val).limit pos).raw) (hl : ((s.axis n.val).limit pos).raw = ((s.axis n.val).limit pos).level)
    (hf : ((s.axis n.val).limit pos).first = none) (hold : 0 < 1000 * s.getF (F.AXIS_DEBOUNCE_LIM_US n.val)) :
    Completes (.limitEvt n pos high) s fun t => t.axis n.val = (s.axis n.val).setLimit pos { (s.axis n.val).limit pos with
      raw := high, since := s.now, first := some (s.axis n.val).enc } ∧ t = { s with axes := t.axes } := by
  have hfirst : s.settleLimit n.val pos = s.setAxis n.val (s.axis n.val) := by
    rw [State.settleLimit_quiet (AxisInput.settle_at_level hl hf ..), AxisSt.setLimit_limit]
  have hsee : (s.setAxis n.val (s.axis n.val)).seeLimit n.val pos high = (s.setAxis n.val (s.axis n.val)).setAxis n.val
      ((s.axis n.val).setLimit pos { (s.axis n.val).limit pos with raw := high, since := s.now, first := some (s.axis n.val).enc }) := by
    rw [State.seeLimit, State.axis_setAxis_same, AxisInput.edge_noted hh hf]
    rfl
  rw [Completes, exec_limitEvt, hfirst, hsee, State.settleLimit_quiet (x := { (s.axis n.val).limit pos with
    raw := high, since := s.now, first := some (s.axis n.val).enc })]
  · refine ⟨_, rfl, ?_, rfl⟩
    rw [State.axis_setAxis_same, State.axis_setAxis_same, AxisSt.setLimit_setLimit]
  · rw [State.axis_setAxis_same, AxisSt.limit_setLimit]
    exact AxisInput.settle_early (Nat.lt_add_of_pos_right hold)

variable (hr : high = ((s.axis n.val).limit pos).raw)
include hr

/-- Once the limit has settled, its level seen again changes nothing. -/
theorem limitEvt_after {u : State} (hu : s.settleLimit n.val pos = u) (hlimit : (u.axis n.val).limit pos = ((s.axis n.val).limit pos).settled)
    (hflag : u.flag (F.AXIS_CTRL_LIM_LOW n.val) = s.flag (F.AXIS_CTRL_LIM_LOW n.val)) : Completes (.limitEvt n pos high) s fun t =>
      t.axis n.val = u.axis n.val ∧ t.limActive n.val pos = (high != s.flag (F.AXIS_CTRL_LIM_LOW n.val)) ∧ t = { u with axes := t.axes } := by
  have hsee : u.seeLimit n.val pos high = u.setAxis n.val (u.axis n.val) := by
    rw [State.seeLimit, AxisInput.edge_same (by rw [hlimit]; exact hr), AxisSt.setLimit_limit]
  have hquiet : (u.setAxis n.val (u.axis n.val)).settleLimit n.val pos = (u.setAxis n.val (u.axis n.val)).setAxis n.val (u.axis n.val) := by
    rw [State.settleLimit_quiet (x := (u.axis n.val).limit pos), State.axis_setAxis_same, AxisSt.setLimit_limit]
    rw [State.axis_setAxis_same, hlimit]
    exact AxisInput.settle_settled ..
  have haxis : ((u.setAxis n.val (u.axis n.val)).setAxis n.val (u.axis n.val)).axis n.val = u.axis n.val := State.axis_setAxis_same ..
  rw [Completes, exec_limitEvt, hu, hsee, hquiet]
  refine ⟨_, rfl, haxis, (State.limActive_of_settled ((congrArg (AxisSt.limit · pos) haxis).trans hlimit)).trans ?_, rfl⟩
  rw [← hr, ← hflag]
  rfl

variable (hl : high ≠ ((s.axis n.val).limit pos).level)
  (hh : ((s.axis n.val).limit pos).since + 1000 * s.getF (F.AXIS_DEBOUNCE_LIM_US n.val) ≤ s.now) (hp : s.pagePowered 0x0A1 = true)
include hl hh hp

theorem State.settleLimit_changes : s.settleLimit n.val pos =
    if high = s.flag (F.AXIS_CTRL_LIM_LOW n.val) then s.limitSettled n.val pos else (s.limitSettled n.val pos).limitTrip n.val pos := by
  have hactive := State.limActive_of_settled (s.limitSettled_limit n.val pos)
  have hpowered : (s.limitSettled n.val pos).pagePowered 0x0A1 = true := hp
  have hflag : (s.limitSettled n.val pos).flag (F.AXIS_CTRL_LIM_LOW n.val) = s.flag (F.AXIS_CTRL_LIM_LOW n.val) := rfl
  unfold State.settleLimit
  rw [AxisInput.settle_changes (hr ▸ hl) hh]
  refine Eq.trans (b := if ((s.limitSettled n.val pos).limActive n.val pos && (s.limitSettled n.val pos).pagePowered 0x0A1) = true then
    (s.limitSettled n.val pos).limitTrip n.val pos else s.limitSettled n.val pos) rfl ?_
  rw [hactive, hflag, hpowered, ← hr, Bool.and_true]
  split
  · next h => rw [if_neg (bne_iff_ne.1 h)]
  · next h => rw [if_pos (by simpa using h)]

theorem limitEvt_inactive (hlow : high = s.flag (F.AXIS_CTRL_LIM_LOW n.val)) : Completes (.limitEvt n pos high) s fun t =>
    t.limActive n.val pos = false ∧ (t.axis n.val).mode = (s.axis n.val).mode ∧ t = { s with axes := t.axes } := by
  obtain ⟨t, hx, haxis, hactive, honly⟩ :=
    limitEvt_after hr ((State.settleLimit_changes hr hl hh hp).trans (if_pos hlow)) (s.limitSettled_limit ..) rfl
  refine ⟨t, hx, ?_, ?_, honly⟩
  · rw [hactive, hlow]
    exact bne_self_eq_false _
  · rw [haxis]
    exact (s.limitSettled_motion n.val pos).1

variable (hhigh : high ≠ s.flag (F.AXIS_CTRL_LIM_LOW n.val))
include hhigh

theorem limitEvt_stops (hm : (s.axis n.val).mode = .move) (hv : if pos then 0 < (s.axis n.val).vel else (s.axis n.val).vel < 0) :
    Completes (.limitEvt n pos high) s fun t => (t.axis n.val).mode = .stopping ∧ (t.axis n.val).quick = true ∧ (t.axis n.val).after = 1 ∧
      t.limActive n.val pos = true ∧ t = { s with axes := t.axes } := by
  obtain ⟨hmode, hvel⟩ := s.limitSettled_motion n.val pos
  have hlimit : (((s.limitSettled n.val pos).axis n.val).halt true 1 false).limit pos = ((s.axis n.val).limit pos).settled :=
    s.limitSettled_limit n.val pos
  have htrip := ((State.settleLimit_changes hr hl hh hp).trans (if_neg hhigh)).trans
    (State.limitTrip_move (hmode.trans hm) (AxisSt.heading_of_vel (by rwa [hvel])))
  obtain ⟨t, hx, haxis, hactive, honly⟩ := limitEvt_after hr htrip (by rw [State.axis_setAxis_same, hlimit]) rfl
  rw [State.axis_setAxis_same] at haxis
  refine ⟨t, hx, ?_, ?_, ?_, hactive.trans (bne_iff_ne.2 hhigh), honly⟩
  iterate 3
    rw [haxis]
    rfl

theorem limitEvt_raises (hm : (s.axis n.val).mode ≠ .homing) (hv : (s.axis n.val).vel = 0) : Completes (.limitEvt n pos high) s fun t =>
    (t.axis n.val).mode = (s.axis n.val).mode ∧ t.event (axisPage n.val) 4 = true ∧ t.limActive n.val pos = true ∧
      t = { s with regs := t.regs, axes := t.axes } := by
  obtain ⟨hmode, hvel⟩ := s.limitSettled_motion n.val pos
  have htrip := ((State.settleLimit_changes hr hl hh hp).trans (if_neg hhigh)).trans
    (State.limitTrip_event (by rwa [hmode]) (AxisSt.heading_at_rest (hvel.trans hv) (by rwa [hmode])))
  have hraised := AxisWithin.raise (n := n.val) (s.limitSettled n.val pos) (p := axisPage n.val) (b := 4) (by decide)
  have haxis' := (s.limitSettled n.val pos).axis_raise (axisPage n.val) 4 n.val
  have hevent := (s.limitSettled n.val pos).event_raise_same (axisPage n.val) (b := 4) (by decide)
  have hflag : ((s.limitSettled n.val pos).raise (axisPage n.val) 4).flag (F.AXIS_CTRL_LIM_LOW n.val) =
      s.flag (F.AXIS_CTRL_LIM_LOW n.val) :=
    State.flag_of_reg_eq (show 5 < 32 by decide) (hraised.reg _ (by simp only [F.AXIS_CTRL_LIM_LOW]; omega)
      (by simp only [F.AXIS_CTRL_LIM_LOW]; omega))
  generalize (s.limitSettled n.val pos).raise (axisPage n.val) 4 = u at *
  obtain ⟨t, hx, haxis, hactive, honly⟩ := limitEvt_after hr htrip (by rw [haxis', State.limitSettled_limit]) hflag
  refine ⟨t, hx, ?_, ?_, hactive.trans (bne_iff_ne.2 hhigh), ?_⟩
  · rw [haxis, haxis', hmode]
  · rw [honly]
    exact hevent
  · rw [honly]
    exact congrArg (fun x : State => { x with regs := u.regs, axes := t.axes }) hraised.frame

end

end Sys2Proof.Machine
end

section
/-! The home input, stall, idle current and the output supply, and the obligation on motion and inputs of an axis (R246, R254, R257,
R258, R549). -/

namespace Sys2Proof.Machine

/-! ## Home (R254) -/

/-- What is debounced at the home input takes effect. -/
def State.settleHome (s : State) (n : Nat) : State :=
  let (x, change) := (s.axis n).homePin.settle s.now (1000 * s.getF (F.AXIS_DEBOUNCE_HOME_US n))
  let s1 := s.setAxis n { s.axis n with homePin := x }
  match change with
  | some first => if s1.pagePowered 0x0A1 then s1.homeEdge n (s1.homeActive n) first else s1
  | none => s1

/-- The home pin is seen at a level. -/
def State.seeHome (s : State) (n : Nat) (high : Bool) : State :=
  s.setAxis n { s.axis n with homePin := (s.axis n).homePin.edge s.now (s.axis n).enc high }

theorem exec_homeChange (n : Fin 8) (high : Bool) (s : State) :
    exec (.homeChange n (s.axis n.val).homePin.raw high) s = .next (((s.settleHome n.val).seeHome n.val high).settleHome n.val) :=
  congrArg Host.Outcome.next (if_neg (by simp))

theorem exec_homeChange_elsewhere {n : Fin 8} {old high : Bool} {s : State} (h : old ≠ (s.axis n.val).homePin.raw) :
    exec (.homeChange n old high) s = .next s := congrArg Host.Outcome.next (if_pos (by simpa using h.symm))

theorem State.settleHome_quiet {s : State} {n : Nat} {x : AxisInput}
    (h : (s.axis n).homePin.settle s.now (1000 * s.getF (F.AXIS_DEBOUNCE_HOME_US n)) = (x, none)) :
    s.settleHome n = s.setAxis n { s.axis n with homePin := x } := by
  unfold State.settleHome
  rw [h]

/-- The state in which the home input has just settled at its raw level. -/
def State.homeSettled (s : State) (n : Nat) : State := s.setAxis n { s.axis n with homePin := (s.axis n).homePin.settled }

theorem State.homeSettled_axis (s : State) (n : Nat) :
    (s.homeSettled n).axis n = { s.axis n with homePin := (s.axis n).homePin.settled } := State.axis_setAxis_same ..

theorem State.homeSettled_active (s : State) (n : Nat) :
    (s.homeSettled n).homeActive n = ((s.axis n).homePin.raw != s.flag (F.AXIS_CTRL_HOME_LOW n)) :=
  congrArg (fun a : AxisSt => a.homePin.level != s.flag (F.AXIS_CTRL_HOME_LOW n)) (s.homeSettled_axis n)

/-! ### What home does that changes -/

theorem State.homeEdge_not_homing {s : State} {n : Nat} (hm : (s.axis n).mode ≠ .homing) (active : Bool) (first : Int) :
    s.homeEdge n active first = s := if_pos hm

theorem State.homeEdge_search {s : State} {n : Nat} (hm : (s.axis n).mode = .homing) (hp : (s.axis n).phase = .search) (first : Int) :
    s.homeEdge n true first = s.setAxis n { s.axis n with phase := .found } := by
  unfold State.homeEdge
  dsimp only
  rw [if_neg (not_not_intro hm), hp]

theorem State.homeEdge_approach {s : State} {n : Nat} (hm : (s.axis n).mode = .homing) (hp : (s.axis n).phase = .approach) (first : Int) :
    s.homeEdge n true first = s.setAxis n { s.axis n with phase := .latched, latch := first } := by
  unfold State.homeEdge
  dsimp only
  rw [if_neg (not_not_intro hm), hp]

/-! ### The row -/

section
variable {s : State} {n : Fin 8}

theorem homeChange_notes {high : Bool} (hh : high ≠ (s.axis n.val).homePin.raw) (hl : (s.axis n.val).homePin.raw = (s.axis n.val).homePin.level)
    (hf : (s.axis n.val).homePin.first = none) (hold : 0 < 1000 * s.getF (F.AXIS_DEBOUNCE_HOME_US n.val)) :
    Completes (.homeChange n (s.axis n.val).homePin.raw high) s fun t => t.axis n.val = { s.axis n.val with
      homePin := { (s.axis n.val).homePin with raw := high, since := s.now, first := some (s.axis n.val).enc } } ∧
      t = { s with axes := t.axes } := by
  have hfirst : s.settleHome n.val = s.setAxis n.val (s.axis n.val) := State.settleHome_quiet (AxisInput.settle_at_level hl hf ..)
  have hsee : (s.setAxis n.val (s.axis n.val)).seeHome n.val high = (s.setAxis n.val (s.axis n.val)).setAxis n.val { s.axis n.val with
      homePin := { (s.axis n.val).homePin with raw := high, since := s.now, first := some (s.axis n.val).enc } } := by
    rw [State.seeHome, State.axis_setAxis_same, AxisInput.edge_noted hh hf]
    rfl
  rw [Completes, exec_homeChange, hfirst, hsee, State.settleHome_quiet (x := { (s.axis n.val).homePin with
    raw := high, since := s.now, first := some (s.axis n.val).enc })]
  · refine ⟨_, rfl, ?_, rfl⟩
    rw [State.axis_setAxis_same, State.axis_setAxis_same]
  · rw [State.axis_setAxis_same]
    exact AxisInput.settle_early (Nat.lt_add_of_pos_right hold)

/-- Once home has settled, its level seen again changes nothing. -/
theorem homeChange_after {u : State} (hu : s.settleHome n.val = u) (hpin : (u.axis n.val).homePin = (s.axis n.val).homePin.settled) :
    Completes (.homeChange n (s.axis n.val).homePin.raw (s.axis n.val).homePin.raw) s fun t =>
      t.axis n.val = u.axis n.val ∧ t = { u with axes := t.axes } := by
  have hsee : u.seeHome n.val (s.axis n.val).homePin.raw = u.setAxis n.val (u.axis n.val) := by
    rw [State.seeHome, AxisInput.edge_same (by rw [hpin]; rfl)]
  rw [Completes, exec_homeChange, hu, hsee, State.settleHome_quiet (x := (u.axis n.val).homePin)]
  · refine ⟨_, rfl, ?_, rfl⟩
    rw [State.axis_setAxis_same, State.axis_setAxis_same]
  · rw [State.axis_setAxis_same, hpin]
    exact AxisInput.settle_settled ..

variable (hl : (s.axis n.val).homePin.raw ≠ (s.axis n.val).homePin.level)
  (hh : (s.axis n.val).homePin.since + 1000 * s.getF (F.AXIS_DEBOUNCE_HOME_US n.val) ≤ s.now) (hp : s.pagePowered 0x0A1 = true)
include hl hh hp

theorem State.settleHome_changes : s.settleHome n.val = (s.homeSettled n.val).homeEdge n.val
    ((s.axis n.val).homePin.raw != s.flag (F.AXIS_CTRL_HOME_LOW n.val)) ((s.axis n.val).homePin.first.getD 0) := by
  have hpowered : (s.homeSettled n.val).pagePowered 0x0A1 = true := hp
  unfold State.settleHome
  rw [AxisInput.settle_changes hl hh, ← State.homeSettled_active]
  exact if_pos hpowered

theorem homeChange_settles (hm : (s.axis n.val).mode ≠ .homing) :
    Completes (.homeChange n (s.axis n.val).homePin.raw (s.axis n.val).homePin.raw) s fun t =>
      t.axis n.val = { s.axis n.val with homePin := (s.axis n.val).homePin.settled } ∧ t = { s with axes := t.axes } := by
  have haxis := s.homeSettled_axis n.val
  have hsettles := (State.settleHome_changes hl hh hp).trans (State.homeEdge_not_homing (by rw [haxis]; exact hm) ..)
  rw [← haxis]
  exact homeChange_after hsettles (by rw [haxis])

variable (hhigh : (s.axis n.val).homePin.raw = !s.flag (F.AXIS_CTRL_HOME_LOW n.val))
include hhigh

theorem State.settleHome_active : s.settleHome n.val = (s.homeSettled n.val).homeEdge n.val true ((s.axis n.val).homePin.first.getD 0) := by
  rw [State.settleHome_changes hl hh hp, hhigh, Bool.not_bne_self]

variable (hm : (s.axis n.val).mode = .homing)
include hm

theorem homeChange_found (hphase : (s.axis n.val).phase = .search) :
    Completes (.homeChange n (s.axis n.val).homePin.raw (s.axis n.val).homePin.raw) s fun t =>
      t.axis n.val = { s.axis n.val with homePin := (s.axis n.val).homePin.settled, phase := .found } ∧ t = { s with axes := t.axes } := by
  have haxis := s.homeSettled_axis n.val
  have hsettles := (State.settleHome_active hl hh hp hhigh).trans (State.homeEdge_search (by rw [haxis]; exact hm) (by rw [haxis]; exact hphase) _)
  rw [haxis] at hsettles
  obtain ⟨t, hx, ht, honly⟩ := homeChange_after hsettles (by rw [State.axis_setAxis_same])
  exact ⟨t, hx, ht.trans (State.axis_setAxis_same ..), honly⟩

theorem homeChange_latches {first : Int} (hphase : (s.axis n.val).phase = .approach) (hf : (s.axis n.val).homePin.first = some first) :
    Completes (.homeChange n (s.axis n.val).homePin.raw (s.axis n.val).homePin.raw) s fun t =>
      t.axis n.val = { s.axis n.val with homePin := (s.axis n.val).homePin.settled, phase := .latched, latch := first } ∧
      t = { s with axes := t.axes } := by
  have haxis := s.homeSettled_axis n.val
  have hsettles := (State.settleHome_active hl hh hp hhigh).trans
    (State.homeEdge_approach (by rw [haxis]; exact hm) (by rw [haxis]; exact hphase) _)
  rw [haxis, hf] at hsettles
  obtain ⟨t, hx, ht, honly⟩ := homeChange_after hsettles (by rw [State.axis_setAxis_same])
  exact ⟨t, hx, ht.trans (State.axis_setAxis_same ..), honly⟩

end

/-! ## Stall, idle current and the output supply (R257, R258, R549) -/

section
variable {s : State} {n : Fin 8} (hp : s.pagePowered 0x0A1 = true)
include hp

theorem exec_stall_still (h : s.flag (F.AXIS_CTRL_STALL_EN n.val) = false ∨ (s.axis n.val).stall < s.getF (F.AXIS_STALL_MS n.val)) :
    exec (.stall n) s = .next s := by
  refine (State.live_of_powered hp).trans (congrArg Host.Outcome.next (if_neg ?_))
  rcases h with h | h
  · simp [h]
  · simp [h]

theorem stall_faults (hen : s.flag (F.AXIS_CTRL_STALL_EN n.val) = true) (hms : s.getF (F.AXIS_STALL_MS n.val) ≤ (s.axis n.val).stall)
    (hm : (s.axis n.val).mode ≠ .disabled) : Completes (.stall n) s fun t =>
      (t.axis n.val).mode = .fault ∧ (t.axis n.val).cause = 4 ∧ (t.axis n.val).vel = 0 ∧ t.event (axisPage n.val) 2 = true ∧
      (∀ j, j ≠ n.val → t.axis j = s.axis j) ∧ t = { s with regs := t.regs, axes := t.axes } := by
  obtain ⟨hmode, hcause, hvel, -, hevent⟩ := State.axisFault_does 4 hm
  have hfault := AxisWithin.axisFault s n.val 4
  exact ⟨_, (State.live_of_powered hp).trans (congrArg Host.Outcome.next (if_pos (by simp [hen, hms]))), hmode, hcause, hvel, hevent,
    hfault.others, hfault.axis_only⟩

theorem exec_idleCurrent_kept (h : s.flag (F.AXIS_CTRL_IDLE_EN n.val) = false ∨ ∃ c ∈ (s.axis n.val).cmds, axisMotion c.2 = true) :
    exec (.idleCurrent n) s = .next s := by
  refine (State.live_of_powered hp).trans (congrArg Host.Outcome.next (if_neg ?_))
  rcases h with h | h
  · simp [h]
  · simp [List.any_eq_true.2 h]

theorem idleCurrent_reduces (hen : s.flag (F.AXIS_CTRL_IDLE_EN n.val) = true) (hm : (s.axis n.val).mode = .idle)
    (hc : ∀ c ∈ (s.axis n.val).cmds, axisMotion c.2 = false)
    (hrest : (s.axis n.val).restAt + 1000000 * s.getF (F.AXIS_IDLE_DELAY_MS n.val) ≤ s.now) : Completes (.idleCurrent n) s fun t =>
      t.axis n.val = { s.axis n.val with reduced := true } ∧ (∀ j, j ≠ n.val → t.axis j = s.axis j) ∧ t = { s with axes := t.axes } := by
  have hnone : ((s.axis n.val).cmds.any fun c => axisMotion c.2) = false := List.any_eq_false.2 fun c h => by simp [hc c h]
  refine ⟨_, (State.live_of_powered hp).trans (congrArg Host.Outcome.next (if_pos ?_)), State.axis_setAxis_same ..,
    fun _ hj => State.axis_setAxis_other _ _ hj, rfl⟩
  simp [hen, hm, hnone, hrest]

/-- Without the output supply an enabled axis faults at its update. -/
theorem profileUpdate_supplyFault (hio : s.ioLost = true) (hm : (s.axis n.val).mode = .idle) : Completes (.profileUpdate n) s fun t =>
    (t.axis n.val).mode = .fault ∧ (t.axis n.val).cause = 8 ∧ t.event (axisPage n.val) 2 = true ∧
      t = { s with regs := t.regs, axes := t.axes } := by
  obtain ⟨hmode, hcause, -, -, hevent⟩ := State.axisFault_does (s := s) (n := n.val) 8 (by rw [hm]; decide)
  have hupdate : s.profileUpdate n.val = s.axisFault n.val 8 := if_pos (by simp [hio, hm])
  exact ⟨_, (exec_profileUpdate hp).trans (congrArg Host.Outcome.next hupdate), hmode, hcause, hevent, (AxisWithin.axisFault ..).axis_only⟩

end

/-! ## The obligation -/

/-- Settles O42, row by row: motion at rest and at its target, the inputs with their debouncing, and the faults. -/
theorem axisMotionAndInputs : Obligations.AxisMotionAndInputs := by
  unfold Obligations.AxisMotionAndInputs
  dsimp only
  refine ⟨fun n s hp => ⟨stepUpdate_wakes hp, stepUpdate_idle hp, stepUpdate_arrives hp, stepUpdate_stops hp, stepUpdate_tooFast hp⟩,
    fun n x y s => ⟨fun h => encoderEdge_unheard ?_, fun hio hen hp => ⟨?_, ?_, ?_, fun hx hy hmax =>
      ⟨encoderEdge_errs hio hen hp hx hy hmax, encoderEdge_faults hio hen hp hx hy hmax⟩⟩⟩,
    fun n pos high s => ⟨limitEvt_notes, fun hr hl hh hp =>
      ⟨limitEvt_inactive hr hl hh hp, limitEvt_stops hr hl hh hp, limitEvt_raises hr hl hh hp⟩⟩,
    fun n high s => ⟨fun old => exec_homeChange_elsewhere, homeChange_notes, ?_⟩,
    fun n s hp => ⟨exec_stall_still hp, stall_faults hp, exec_idleCurrent_kept hp, idleCurrent_reduces hp, profileUpdate_supplyFault hp⟩,
    fun n s hp => ⟨State.live_of_unpowered hp _, State.live_of_unpowered hp _, State.live_of_unpowered hp _⟩,
    fun s => ⟨rfl, rfl⟩⟩
  · rcases h with h | h | h
    all_goals simp [h]
  · rintro rfl rfl
    obtain ⟨t, hx, haxis, -, honly⟩ := encoderEdge_unheard (s := s) (n := n) (x := (s.axis n.val).encA) (y := (s.axis n.val).encB) (by simp)
    exact ⟨t, hx, haxis, honly⟩
  · rintro hx rfl
    exact encoderEdge_counts hio hen hp (by simp [hx]) (by simp) (if_pos (bne_iff_ne.2 hx))
  · rintro rfl hy
    exact encoderEdge_counts hio hen hp (by simp [hy]) (by simp) (if_neg (by simp))
  · rintro rfl hl hh hp
    exact ⟨homeChange_settles hl hh hp, fun hm hhigh => ⟨homeChange_found hl hh hp hhigh hm, fun _ => homeChange_latches hl hh hp hhigh hm⟩⟩

end Sys2Proof.Machine
end
